-- ==== Sys2Proof/Word.lean ====
section
/-! DEFINITION. The words the manual names (R8, R18, R49) and their plainest arithmetic. -/

namespace Sys2Proof

/-- One byte of a packet, a frame or a record. -/
abbrev Byte := BitVec 8

/-- A 56-bit global time-stamp with an LSB of 10 ns (R49). -/
abbrev Ts := BitVec 56

/-- A 16-bit unit address (R18). -/
abbrev UnitAddr := BitVec 16

/-- A portal number p = 0–7 (R18). -/
abbrev PortalId := Fin 8

/-- A leaf number within a portal (R18). -/
abbrev LeafId := Fin 2

/-- A load channel number within a portal (R18). -/
abbrev ChanId := Fin 8

/-- A feedback interface number within a portal (R18). -/
abbrev FbId := Fin 3

/-- A die number of R18: 0 HD, 1 PD0, 2 PD1, 3–6 PW0–PW3, 7 MD. -/
abbrev DieId := Fin 8

/-- A portal control die: 0 PD0, 1 PD1. -/
abbrev PdId := Fin 2

/-- A power die: 0–3 for PW0–PW3. -/
abbrev PwId := Fin 4

/-- A control-engine slot number on its die (R133). -/
abbrev SlotId := Fin 64

/-- A CAN controller CAN0–CAN3. -/
abbrev CanId := Fin 4

/-- A Mirqua port: 0 SPI, 1 CAN3. -/
abbrev PortId := Fin 2

/-- Counts of 10 ns from time-stamp `a` to time-stamp `b`, on the wrapping counter (R49). -/
def Ts.since (b a : Ts) : Nat := (b - a).toNat

/-- 10 ns counts in a microsecond. -/
def us (n : Nat) : Nat := n * 100

/-- 10 ns counts in a millisecond. -/
def ms (n : Nat) : Nat := n * 100000

/-- The bits of a Bool. -/
def bit (b : Bool) : Nat := if b then 1 else 0

/-- Saturate an integer between two bounds. -/
def clampI (lo hi x : Int) : Int := if x < lo then lo else if hi < x then hi else x

/-- Saturate a rational between two bounds. -/
def clampR (lo hi x : Rat) : Rat := if x < lo then lo else if hi < x then hi else x

/-- Add one, saturating at a maximum. -/
def satInc (max n : Nat) : Nat := if n < max then n + 1 else max

/-- The value of the low `n` bits of an integer, as two's complement. -/
def wrapS (n : Nat) (x : Int) : Int := (BitVec.ofInt n x).toInt

/-- Truncation of a rational towards zero. -/
def truncR (q : Rat) : Int := if q < 0 then -(-q).floor else q.floor

/-- Rounding of a rational to the nearest integer, halves away from zero. -/
def roundR (q : Rat) : Int := if q < 0 then -((-q) + 1 / 2).floor else (q + 1 / 2).floor

/-- The sign of an integer. -/
def sgn (x : Int) : Int := if x < 0 then -1 else if x = 0 then 0 else 1

end Sys2Proof
end

