-- ==== Sys2Proof/Syntax.lean ====
section
/-! DEFINITION. The commands of the block: one constructor per row of the opcode table, with its operands.
The first operand `dt` of every command is the number of 10 ns time-stamp counts since the command before it (log 1). -/

namespace Sys2Proof

/-- The port and the header fields of a Mirqua command packet (R435); the opcode stands in the command's constructor. -/
structure CmdHeader where
  port    : PortId
  version : Byte
  tag     : BitVec 7
  unit    : UnitAddr
  flags   : Byte
  deriving DecidableEq, Repr

/-- A CAN frame as R374 and R387 describe it. -/
structure CanFrame where
  ide  : Bool
  fdf  : Bool
  brs  : Bool
  rtr  : Bool
  esi  : Bool
  id   : BitVec 29
  dlc  : BitVec 4
  data : List Byte
  deriving DecidableEq, Repr

/-- What INIT finds of the hardware steps it cannot decide from stored state (R490): PLLs locked, REFCLK good, links up. -/
structure InitInputs where
  pllLocked : Bool
  refclkOk  : Bool
  linksUp   : Bool
  deriving DecidableEq, Repr

/-- One output of a sinc3 filter: the counts by which it comes before the row that takes it, and the filter's output (R112). -/
structure SincSample where
  age : Nat
  y   : Nat
  deriving DecidableEq, Repr

/-- What one current-loop tick finds (R112, R117, R120): the most recent outputs of the current filters and of the bus filter, every output of
the armature filter since the row before that carried them, oldest first, and whether a mod-7 residue of the datapath (R119), of the detector or fence unit (R186)
or of the d-axis or q-axis current slot (R160) mismatched in the tick. -/
structure CurrentSample where
  ya          : Nat
  yb          : Nat
  yv          : Nat
  arm         : List SincSample
  focResidue  : Bool
  detResidue  : Bool
  fenceResidue : Bool
  dResidue    : Bool
  qResidue    : Bool
  deriving DecidableEq, Repr

/-- One check of a modulator clock of a portal, of its step or of its leaves (R114, R196): the rising edges counted over 100 µs, or none where no
edge came for 1 µs. -/
structure ClockCheck where
  step  : Bool
  edges : Option Nat
  deriving DecidableEq, Repr

/-- A level accepted on GD_FLT_N of a leaf (R116). -/
structure GdPin where
  leaf : LeafId
  low  : Bool
  deriving DecidableEq, Repr

/-- One sample of the three pins of a feedback interface (R235, R248). -/
structure AbzPins where
  a : Bool
  b : Bool
  z : Bool
  deriving DecidableEq, Repr

/-- One claim frame as this device samples it (R348): the level of each wire at the middle of each DATA bit (bit 15 first; 1 is
low, dominant), the ACK slot, and whether either wire was found low for more than 50 µs outside a frame. `own` says whether this
device's own timer started the frame. -/
structure ClaimSample where
  own    : Bool
  wireA  : BitVec 16
  wireB  : BitVec 16
  ack    : Bool
  stuckA : Bool
  stuckB : Bool
  deriving DecidableEq, Repr

/-- The status lines that the frame end compares (R357): CLAIM_WON at the ball, and the gates that the dies report; and the levels of the pins
AUXp[3:0], bit 4p + k for pin k of portal p (R243, R244). -/
structure ClaimStatus where
  ballWon : Bool
  gatesOk : Bool
  aux     : BitVec 32
  deriving DecidableEq, Repr

/-- A CAP frame of the partner (R359). -/
structure CapFrame where
  crcOk  : Bool
  minVer : Byte
  maxVer : Byte
  role   : Byte
  serial : BitVec 32
  caps   : BitVec 32
  digest : List Byte
  deriving DecidableEq, Repr

/-- A Swetric HEARTBEAT (R360). -/
structure HeartbeatFrame where
  crcOk     : Bool
  seq       : BitVec 16
  mode      : Byte
  flags     : Byte
  epoch     : BitVec 32
  claimWord : BitVec 16
  pending   : Byte
  snapSeq   : BitVec 32
  deriving DecidableEq, Repr

/-- The leaf sub-block of a snapshot (R361). -/
structure SnapLeaf where
  drive    : Nat
  flags    : Byte
  elecRef  : BitVec 16
  xT       : Int
  vCmd     : Int
  u        : List Int
  peakFOpp : Nat
  peakE    : Nat
  deriving DecidableEq, Repr

/-- The step sub-block of a snapshot (R361). -/
structure SnapStep where
  drive    : Nat
  flags    : Byte
  phi      : BitVec 32
  phi0     : BitVec 32
  delta    : Int
  phiT     : BitVec 32
  homeCorr : Int
  deriving DecidableEq, Repr

/-- The portal block of a snapshot (R361). -/
structure SnapPortal where
  pstate       : Nat
  fenceCause   : Byte
  flags        : BitVec 16
  recloses     : Nat
  seqFlags     : Byte
  stateTime    : Nat
  timer        : Nat
  closeTime    : Nat
  reopenTarget : Int
  leaves       : List SnapLeaf
  step         : SnapStep
  hostDemand   : Byte
  pulseLeft    : List Nat
  cycleElapsed : Nat
  openTime     : Nat
  obstCount    : Nat
  lockElapsed  : Nat
  deriving DecidableEq, Repr

/-- A snapshot frame (R361), with the finding of its CRC and its length field. -/
structure Snapshot where
  crcOk     : Bool
  version   : Byte
  length    : Nat
  seq       : BitVec 32
  ts        : Ts
  mode      : Byte
  epoch     : BitVec 32
  claimWord : BitVec 16
  present   : Byte
  fenced    : Byte
  digest    : List Byte
  txSeq     : List Nat
  genU      : List (List Int)
  portals   : List SnapPortal
  deriving DecidableEq, Repr

/-- The supply anomalies of R279, in the order of the VLS_STATUS bits. -/
inductive SupplyKind where
  | undervoltage | reverse | surge | groundLoss
  deriving DecidableEq, Repr

/-- How a transmit attempt ended (R390–R393). -/
inductive TxEnd where
  | sofSent    -- the start-of-frame of an attempt has been sent
  | sent       -- transmitted and acknowledged
  | lost       -- lost arbitration or met an error
  deriving DecidableEq, Repr

/-- The kinds of bus error (R394). -/
inductive CanErrKind where
  | stuff | form | ack | bit1 | bit0 | crc
  deriving DecidableEq, Repr

/-- What the step bridge's fault logic looks at (R199): a level of PpS_FLT_N, or one coil's fast filter, whose two consecutive outputs come with the
row. -/
inductive StepFaultIn where
  | line (low : Bool)
  | fast (coilB : Bool)
  deriving DecidableEq, Repr

/-- One output of the two fast filters of a step (R196): the counts by which it comes before the recompute that takes it, and the outputs. -/
structure FastSample where
  age : Nat
  ya  : Nat
  yb  : Nat
  deriving DecidableEq, Repr

/-- A recompute of a portal's step, and the outputs of both fast filters since the recompute before, oldest first (R196, R201). -/
structure StepSample where
  portal : PortalId
  fast   : List FastSample
  deriving DecidableEq, Repr

/-- The instructions of the test and debug port (R336, R337). -/
inductive DebugInstr where
  | bypass | idcode | sample | extest | clamp
  | halt (die : Fin 3) | resume (die : Fin 3) | single (die : Fin 3)
  | regWrite (die : Fin 3) | breakpoint (die : Fin 3) | memAccess (die : Fin 3)
  deriving DecidableEq, Repr

/-- The copy of an instruction stream's PART register in both cores of a pair and the target of the transactions (R328). -/
structure Attribution where
  partMain  : Fin 5
  partCheck : Fin 5
  /-- every mismatching transaction in the clock targets the region or the units of the portal that PART names -/
  inRegion  : Bool
  deriving DecidableEq, Repr

/-- The commands, operations and events of the block: one per row of the opcode table, in the table's order. -/
inductive Instr where
  -- Mirqua session commands (R446)
  | hello (dt : Nat) (h : CmdHeader) (ps : List Byte)
  | deviceInfo (dt : Nat) (h : CmdHeader) (ps : List Byte)
  | wdgStart (dt : Nat) (h : CmdHeader) (ps : List Byte)
  | wdgKick (dt : Nat) (h : CmdHeader) (ps : List Byte)
  | wdgStop (dt : Nat) (h : CmdHeader) (ps : List Byte)
  | eventRead (dt : Nat) (h : CmdHeader) (ps : List Byte)
  | queueStatus (dt : Nat) (h : CmdHeader) (ps : List Byte)
  | echo (dt : Nat) (h : CmdHeader) (ps : List Byte)
  -- parameters (R449)
  | paramRead (dt : Nat) (h : CmdHeader) (ps : List Byte)
  | paramWrite (dt : Nat) (h : CmdHeader) (ps : List Byte)
  | paramReadRange (dt : Nat) (h : CmdHeader) (ps : List Byte)
  | paramWriteSet (dt : Nat) (h : CmdHeader) (ps : List Byte)
  -- modes group (R451, R340, R371, R398)
  | modeRequest (dt : Nat) (h : CmdHeader) (ps : List Byte)
  | lockstepSplit (dt : Nat) (h : CmdHeader) (ps : List Byte)
  | lockstepRejoin (dt : Nat) (h : CmdHeader) (ps : List Byte)
  | lockstepStatus (dt : Nat) (h : CmdHeader) (ps : List Byte)
  | claimYield (dt : Nat) (h : CmdHeader) (ps : List Byte)
  | canStop (dt : Nat) (h : CmdHeader) (ctrl : Byte)
  | canStartNormal (dt : Nat) (h : CmdHeader) (ctrl : Byte)
  | canStartListen (dt : Nat) (h : CmdHeader) (ctrl : Byte)
  | detectRate (dt : Nat) (h : CmdHeader) (ctrl : Byte)
  | canSleep (dt : Nat) (h : CmdHeader) (ctrl : Byte)
  | canWake (dt : Nat) (h : CmdHeader) (ctrl : Byte)
  | canRecover (dt : Nat) (h : CmdHeader) (ctrl : Byte)
  | canTx (dt : Nat) (h : CmdHeader) (ps : List Byte)
  | canCancel (dt : Nat) (h : CmdHeader) (ps : List Byte)
  | canRx (dt : Nat) (h : CmdHeader) (ps : List Byte)
  -- portal commands (R83)
  | portalOpen (dt : Nat) (h : CmdHeader) (ps : List Byte)
  | portalClose (dt : Nat) (h : CmdHeader) (ps : List Byte)
  | portalStatus (dt : Nat) (h : CmdHeader) (ps : List Byte)
  | fenceClear (dt : Nat) (h : CmdHeader) (ps : List Byte)
  | emergencyReset (dt : Nat) (h : CmdHeader) (ps : List Byte)
  | jog (dt : Nat) (h : CmdHeader) (ps : List Byte)
  | jogStop (dt : Nat) (h : CmdHeader) (ps : List Byte)
  | portalFence (dt : Nat) (h : CmdHeader) (ps : List Byte)
  -- channel commands (R262)
  | chOn (dt : Nat) (h : CmdHeader) (ps : List Byte)
  | chOff (dt : Nat) (h : CmdHeader) (ps : List Byte)
  | chPulse (dt : Nat) (h : CmdHeader) (ps : List Byte)
  | chMulti (dt : Nat) (h : CmdHeader) (ps : List Byte)
  | chClear (dt : Nat) (h : CmdHeader) (ps : List Byte)
  -- recorder commands (R478)
  | recInfo (dt : Nat) (h : CmdHeader) (ps : List Byte)
  | recRead (dt : Nat) (h : CmdHeader) (ps : List Byte)
  | recClear (dt : Nat) (h : CmdHeader) (ps : List Byte)
  -- loop commands (R164)
  | loopOpen (dt : Nat) (h : CmdHeader) (ps : List Byte)
  | loopClose (dt : Nat) (h : CmdHeader) (ps : List Byte)
  | loopManual (dt : Nat) (h : CmdHeader) (ps : List Byte)
  | coefWrite (dt : Nat) (h : CmdHeader) (ps : List Byte)
  | slotRead (dt : Nat) (h : CmdHeader) (ps : List Byte)
  | tuneStart (dt : Nat) (h : CmdHeader) (ps : List Byte)
  | tuneStop (dt : Nat) (h : CmdHeader) (ps : List Byte)
  | tuneResult (dt : Nat) (h : CmdHeader) (ps : List Byte)
  | slotDisable (dt : Nat) (h : CmdHeader) (ps : List Byte)
  -- firmware commands (R499)
  | fwStatus (dt : Nat) (h : CmdHeader) (ps : List Byte)
  | fwBegin (dt : Nat) (h : CmdHeader) (ps : List Byte)
  | fwWrite (dt : Nat) (h : CmdHeader) (ps : List Byte)
  | fwVerify (dt : Nat) (h : CmdHeader) (ps : List Byte)
  | fwActivate (dt : Nat) (h : CmdHeader) (ps : List Byte)
  | fwConfirm (dt : Nat) (h : CmdHeader) (ps : List Byte)
  | fwRevert (dt : Nat) (h : CmdHeader) (ps : List Byte)
  -- seal commands (R310)
  | sealStatus (dt : Nat) (h : CmdHeader) (ps : List Byte)
  | sealCommit (dt : Nat) (h : CmdHeader) (ps : List Byte)
  | sealDiscard (dt : Nat) (h : CmdHeader) (ps : List Byte)
  | sealImageRead (dt : Nat) (h : CmdHeader) (ps : List Byte)
  -- parameter writes that act (R10, R57)
  | evtPendingClear (dt : Nat) (h : CmdHeader) (hi : Bool) (value : BitVec 32)
  | satSeenClear (dt : Nat) (h : CmdHeader) (slot : SlotId) (value : BitVec 16)
  | obstStatusClear (dt : Nat) (h : CmdHeader) (value : BitVec 16)
  | shutdownSeenClear (dt : Nat) (h : CmdHeader) (value : BitVec 16)
  | canFlagsClear (dt : Nat) (h : CmdHeader) (n : CanId) (value : Byte)
  | fricReset (dt : Nat) (h : CmdHeader) (value : Byte)
  | fbArm (dt : Nat) (h : CmdHeader) (value : Byte)
  | fbCountClear (dt : Nat) (h : CmdHeader) (value : Byte)
  | fbTypeWrite (dt : Nat) (h : CmdHeader) (value : Byte)
  -- host ports (R427–R434)
  | spiWrite (dt : Nat) (bytes : List Byte) (cut : Bool)
  | spiRead (dt : Nat) (clocked : Nat)
  | spiPoll (dt : Nat) (clocked : Nat)
  | mirquaSegmentReceived (dt : Nat) (f : CanFrame)
  | segmentGapTimeout (dt : Nat)
  | mirquaSegmentSent (dt : Nat)
  | interpreterTurn (dt : Nat)
  -- power-up (R485–R493)
  | porNRelease (dt : Nat) (sresetA sresetB : Bool)
  | logicSupplyLost (dt : Nat)
  | initRetry (dt : Nat) (i : InitInputs)
  | initComplete (dt : Nat) (i : InitInputs)
  | testComplete (dt : Nat) (fails : BitVec 16)
  | recorderScanDone (dt : Nat) (torn : List Nat) (badBlocks : List Nat)
  -- seal (R305–R311)
  | sealLoadComplete (dt : Nat)
  | sealRead (dt : Nat) (first second : BitVec 16)
  | sealShadowCheck (dt : Nat) (regsEqual : Bool)
  | sealBlockReverify (dt : Nat) (readable : Bool)
  | sealCommitDone (dt : Nat)
  -- epoch commit (R40–R48)
  | prepareReceived (dt : Nat) (d : DieId) (canEnter : Bool)
  | ackDeadline (dt : Nat)
  | commitReceived (dt : Nat) (d : DieId)
  | abortReceived (dt : Nat) (d : DieId)
  | safeReceived (dt : Nat) (d : DieId)
  | epochCommitTime (dt : Nat)
  | commitRepeat (dt : Nat)
  | heartbeat (dt : Nat) (reached : BitVec 8)
  | heartbeatLoss (dt : Nat) (d : DieId)
  | tsCorrection (dt : Nat) (d : DieId) (offset : Option Int)
  | eventArrival (dt : Nat) (d : DieId)
  | eventRelease (dt : Nat)
  -- portal sequencing (R66–R93)
  | sequencerEvaluation (dt : Nat) (p : PortalId)
  | transitionTimeout (dt : Nat) (p : PortalId)
  | closeWarningEnd (dt : Nat) (p : PortalId)
  | recloseDwellEnd (dt : Nat) (p : PortalId)
  | obstOpenPauseEnd (dt : Nat) (p : PortalId)
  | lockSettleElapsed (dt : Nat) (p : PortalId)
  | jogRenewalTimeout (dt : Nat) (p : PortalId) (lock : Bool)
  | localOpenRequest (dt : Nat) (p : PortalId)
  -- safety inputs and DCL (R290–R314)
  | safetyInputChange (dt : Nat) (p : PortalId) (n : Fin 12) (level : Bool)
  | siDiscrepancy (dt : Nat) (p : PortalId) (pair : Fin 3)
  | siDiscrepancyClear (dt : Nat) (p : PortalId) (pair : Fin 3)
  | siPlausibility (dt : Nat) (p : PortalId) (chk : Fin 3)
  | siPlausibilityClear (dt : Nat) (p : PortalId) (chk : Fin 3)
  | zsInputChange (dt : Nat) (isB : Bool) (level : Bool)
  | zsDiscrepancy (dt : Nat)
  | zsFaultClear (dt : Nat)
  | gpiChange (dt : Nat) (n : Fin 10) (level : Bool)
  | dclFwRenewal (dt : Nat)
  | fwStall (dt : Nat)
  | dclInputFrame (dt : Nat) (d : PdId)
  | dclFrameMissing (dt : Nat) (d : PdId)
  | dclTermCompare (dt : Nat)
  | dclTermDisagree (dt : Nat) (p : PortalId)
  | dclTermAgree (dt : Nat) (p : PortalId)
  | dclHalfPeriod (dt : Nat)
  | dclBallCheck (dt : Nat) (ballA ballB : Bool)
  | dclReadbackChange (dt : Nat) (isB : Bool) (level : Bool)
  | dclPickupDropTimeout (dt : Nat) (isB : Bool)
  | safetyResetEdge (dt : Nat) (a b : Bool)
  | safetyResetJam (dt : Nat)
  -- leaf drive (R100–R132)
  | gdFault (dt : Nat) (p : PortalId) (pin : GdPin)
  | overcurrentTrip (dt : Nat) (p : PortalId) (l : LeafId) (phaseV : Bool) (y : Nat × Nat)
  | vbusOver (dt : Nat) (p : PortalId) (y : Nat)
  | vbusUnder (dt : Nat) (p : PortalId) (y : Nat)
  | sdClock (dt : Nat) (p : PortalId) (c : ClockCheck)
  | sdStuck (dt : Nat) (p : PortalId) (which : Fin 3)
  | hallEdge (dt : Nat) (p : PortalId) (l : LeafId) (code : BitVec 3)
  | hallTimeout (dt : Nat) (p : PortalId) (l : LeafId)
  | driveStartDelayEnd (dt : Nat) (p : PortalId) (l : LeafId)
  | alignTimeEnd (dt : Nat) (p : PortalId) (l : LeafId)
  | brakeEnd (dt : Nat) (p : PortalId) (l : LeafId)
  | currentTick (dt : Nat) (p : PortalId) (l : LeafId) (smp : CurrentSample)
  | datapathResidueClear (dt : Nat) (p : PortalId) (l : LeafId)
  | directionFault (dt : Nat) (p : PortalId) (l : LeafId)
  | chopAdapt (dt : Nat) (p : PortalId) (l : LeafId) (arm : List SincSample)
  | profileTick (dt : Nat) (p : PortalId) (l : LeafId)
  -- control engine (R133–R165)
  | slotTick (dt : Nat) (d : PdId) (n : SlotId) (residue : Bool)
  | slotResidueClear (dt : Nat) (d : PdId) (n : SlotId)
  | checkerSelfTest (dt : Nat) (d : PdId) (flagged : Bool)
  | tuneEnd (dt : Nat) (d : PdId) (n : SlotId)
  -- obstacle detection and fences (R166–R193)
  | obstacleDeclared (dt : Nat) (p : PortalId) (l : LeafId)
  | energyFenceBrake (dt : Nat) (p : PortalId) (l : LeafId)
  | energyBrakeRelease (dt : Nat) (p : PortalId) (l : LeafId)
  | fenceSelfTest (dt : Nat) (p : PortalId) (l : LeafId) (pass : Bool)
  | mapSave (dt : Nat) (p : PortalId) (l : LeafId)
  -- step drive (R194–R225)
  | stepRecompute (dt : Nat) (smp : StepSample)
  | stepBridgeFault (dt : Nat) (p : PortalId) (flt : StepFaultIn) (first second : Nat)
  | stepStill (dt : Nat) (p : PortalId)
  | homeInputAccepted (dt : Nat) (p : PortalId)
  | homingFailure (dt : Nat) (p : PortalId)
  | posDeviation (dt : Nat) (p : PortalId)
  | f2ConfirmWindowEnd (dt : Nat) (p : PortalId)
  | quietTrim (dt : Nat) (p : PortalId) (ys : List (Nat × Nat))
  -- feedback (R226–R253)
  | fbCountChange (dt : Nat) (p : PortalId) (f : FbId) (a b z : Bool)
  | indexEdge (dt : Nat) (p : PortalId) (f : FbId) (pins : AbzPins)
  | ssiFrame (dt : Nat) (p : PortalId) (f : FbId) (raw : BitVec 32) (edges : Nat) (dataHigh : Bool)
  | observerTick (dt : Nat) (p : PortalId) (f : FbId)
  | tStillExpiry (dt : Nat) (p : PortalId) (f : FbId)
  | closedContactReference (dt : Nat) (p : PortalId) (l : LeafId)
  | fbFaultClear (dt : Nat) (p : PortalId) (f : FbId) (n : Fin 6)
  | echoOutputStep (dt : Nat) (p : PortalId)
  -- load channels (R254–R288)
  | channelPeriodStart (dt : Nat) (p : PortalId) (c : ChanId) (vls : Int) (iAvg : Nat) (iOn : Option Nat)
  | pullInEnd (dt : Nat) (p : PortalId) (c : ChanId)
  | chPulseEnd (dt : Nat) (p : PortalId) (c : ChanId)
  | channelLimitShutdown (dt : Nat) (p : PortalId) (c : ChanId) (peak : Nat)
  | channelFastOff (dt : Nat) (p : PortalId) (c : ChanId) (peak : Nat)
  | retryIntervalEnd (dt : Nat) (p : PortalId) (c : ChanId)
  | retryCountReset (dt : Nat) (p : PortalId) (c : ChanId)
  | channelTemperature (dt : Nat) (p : PortalId) (c : ChanId) (temp : Int)
  | supplyAnomaly (dt : Nat) (p : PortalId) (k : SupplyKind) (mv : Int) (gndMv : Nat)
  -- lockstep (R323–R343)
  | lockstepMismatch (dt : Nat) (d : Fin 3) (a : Attribution)
  | signatureExchange (dt : Nat) (d : Fin 3) (agree : Bool) (part : Fin 5)
  | comparatorSelfTest (dt : Nat) (d : Fin 3) (pass : Bool)
  | coreWatchdogExpiry (dt : Nat) (d : Fin 3) (part : Fin 5)
  | restartComplete (dt : Nat) (d : Fin 3) (imageOk : Bool)
  | recoveryComplete (dt : Nat) (d : Fin 3)
  | splitHandoverDone (dt : Nat) (d : Fin 3) (agree : Bool)
  | diagnosticFailed (dt : Nat) (d : Fin 3)
  | eccError (dt : Nat) (d : DieId) (memory : Fin 3) (region : Fin 10) (uncorrectable : Bool) (index : Nat)
  -- pairing (R344–R373)
  | claimFrameStart (dt : Nat) (smp : ClaimSample)
  | claimFrameEnd (dt : Nat) (st : ClaimStatus)
  | swetricLinkChange (dt : Nat) (up : Bool)
  | capSend (dt : Nat)
  | capReceived (dt : Nat) (cap : CapFrame)
  | heartbeatSend (dt : Nat)
  | heartbeatReceived (dt : Nat) (hb : HeartbeatFrame)
  | partnerLost (dt : Nat)
  | snapshotTake (dt : Nat) (ready : Bool)
  | snapshotReceived (dt : Nat) (snap : Snapshot)
  | yieldTimeout (dt : Nat)
  -- CAN (R374–R404)
  | canFrameReceived (dt : Nat) (n : CanId) (f : CanFrame) (sof : Nat)
  | canTxOutcome (dt : Nat) (n : CanId) (m : Fin 16) (e : TxEnd) (loopDelay : Nat)
  | canDeadlineStale (dt : Nat) (n : CanId) (m : Fin 16)
  | canError (dt : Nat) (n : CanId) (k : CanErrKind) (transmitting severe : Bool)
  | busOffRecovered (dt : Nat) (n : CanId)
  | detectWindowEnd (dt : Nat) (n : CanId)
  | detectTimeout (dt : Nat) (n : CanId)
  | wakeEdge (dt : Nat) (n : CanId) (dominant : Nat)
  | protocolException (dt : Nat) (n : CanId)
  -- safe telegrams (R405–R425)
  | dclTelegramSend (dt : Nat)
  | doorStateSend (dt : Nat)
  | telegramCopyReceived (dt : Nat) (release : Bool) (netB : Bool) (f : CanFrame) (sof : Nat)
  | pairingWindowClose (dt : Nat) (release : Bool)
  | streamTimeout (dt : Nat) (release : Bool)
  -- recorder (R462–R484)
  | recordWrite (dt : Nat)
  | writeCreditRegain (dt : Nat)
  | lossSummary (dt : Nat)
  | counterSave (dt : Nat)
  | opSecond (dt : Nat)
  -- power, clocks, device events
  | pfail (dt : Nat)
  | powerFailFlush (dt : Nat)
  | refclkFault (dt : Nat)
  | pllUnlock (dt : Nat) (d : DieId)
  | dieTemperature (dt : Nat) (d : DieId) (temp : Int)
  | watchdogExpiry (dt : Nat)
  | dealimLinkFault (dt : Nat) (link : Fin 11) (kind : Fin 3) (farEnd : Bool)
  | pllRelock (dt : Nat) (d : DieId)
  | fwVerifyDone (dt : Nat)
  | debugInstruction (dt : Nat) (i : DebugInstr)
  | busIntegration (dt : Nat) (n : CanId)
  | homeInputInactive (dt : Nat) (p : PortalId)
  deriving DecidableEq, Repr

end Sys2Proof
end

