-- ==== Sys2Proof/Decode.lean ====
section
/-! DEFINITION. The commands that words of the opcode table spell. The table gives no row any bits: a command reaches the block through its ports and
pins, not as a word, so that every word is refused. -/

namespace Sys2Proof

/-- The command that a word of the opcode table spells: none, since no row of the table has bits (log 4). -/
def decodeTableWord (_nbits _w : Nat) : Option Instr := none

end Sys2Proof
end

