-- ==== Sys2Proof/Machine/Crc.lean ====
section
/-! DEFINITION. The codes that frames carry: CRC-32C of a safe telegram (R407) and CRC-16/CCITT of a Mirqua packet (R435). -/

namespace Sys2Proof.Machine.Crc

/-- One bit of a reflected CRC-32C register: the reversed polynomial 0x1EDC_6F41 (R407). -/
def step32 (c : BitVec 32) : BitVec 32 := if c.getLsbD 0 then (c >>> 1) ^^^ 0x82F63B78#32 else c >>> 1

/-- One byte of a CRC-32C. -/
def byte32 (c : BitVec 32) (b : Byte) : BitVec 32 :=
  step32 (step32 (step32 (step32 (step32 (step32 (step32 (step32 (c ^^^ b.zeroExtend 32))))))))

/-- The safety code: CRC-32C whose register starts from a key (R407). -/
def crc32c (key : BitVec 32) (l : List Byte) : BitVec 32 := l.foldl byte32 key ^^^ 0xFFFFFFFF#32

/-- One bit of a CRC-16 with polynomial 0x1021. -/
def step16 (c : BitVec 16) : BitVec 16 := if c.getLsbD 15 then (c <<< 1) ^^^ 0x1021#16 else c <<< 1

/-- One byte of a CRC-16. -/
def byte16 (c : BitVec 16) (b : Byte) : BitVec 16 :=
  step16 (step16 (step16 (step16 (step16 (step16 (step16 (step16 (c ^^^ (b.zeroExtend 16 <<< 8)))))))))

/-- CRC-16/CCITT of a packet: initial value 0xFFFF, no reflection (R435). -/
def crc16 (l : List Byte) : BitVec 16 := l.foldl byte16 0xFFFF#16

end Sys2Proof.Machine.Crc
end

