-- ==== Sys2Proof/Machine/ParamTable.lean ====
section
/-! DEFINITION. The parameter tables of the manual, one row per PID or run of PIDs: first and last PID, width in bytes, signed,
access (R10, with the modes in which the owning chapter allows a write), range, further values of the range, default, scope. -/

namespace Sys2Proof.Machine

/-- Access codes of R10. `rw` is writable in CONFIGURE and MAINTAIN, `rwAll` in every mode, `rwMaint` in MAINTAIN, `rwConf` in
CONFIGURE, `rwFromConf` in every mode from CONFIGURE onwards, `rwCoef` under R151. -/
inductive Access where
  | ro | hw | wo | w1c | roW1c | srw | rw | rwAll | rwMaint | rwConf | rwFromConf | rwCoef
  deriving DecidableEq, Repr

/-- The scopes of R30. -/
inductive PScope where
  | device | die | portal | leaf | step | channel | feedback
  deriving DecidableEq, Repr

/-- One row of a parameter table. -/
structure PDesc where
  first  : Nat
  last   : Nat
  width  : Nat
  signed : Bool
  access : Access
  lo     : Int
  hi     : Int
  extra  : List Int
  dflt   : Int
  scope  : PScope
  deriving DecidableEq, Repr

namespace ParamTable

/-- Parameters of the table of R21. -/
def tableR21 : List PDesc := [
  ⟨0x0010, 0x001F, 1, false, .rw, 0, 255, [], 0, .device⟩   -- GROUP_MEMBERS
  ]

/-- Parameters of the table of R58. -/
def tableR58 : List PDesc := [
  ⟨0xE000, 0xE000, 1, false, .ro, 0, 7, [], 0, .device⟩,  -- MODE
  ⟨0xE001, 0xE001, 2, false, .ro, 0, 65535, [], 0, .device⟩,  -- MODE_CAUSE
  ⟨0xE002, 0xE002, 4, false, .ro, 0, 4294967295, [], 0, .device⟩,  -- EPOCH
  ⟨0xE010, 0xE010, 4, false, .rwAll, 0, 4294967295, [], 0, .device⟩,  -- EVT_ENABLE_LO
  ⟨0xE011, 0xE011, 4, false, .rwAll, 0, 4294967295, [], 0, .device⟩,  -- EVT_ENABLE_HI
  ⟨0xE012, 0xE012, 4, false, .w1c, 0, 4294967295, [], 0, .device⟩,  -- EVT_PENDING_LO
  ⟨0xE013, 0xE013, 4, false, .w1c, 0, 4294967295, [], 0, .device⟩,  -- EVT_PENDING_HI
  ⟨0xE020, 0xE020, 8, false, .ro, 0, 18446744073709551615, [], 0, .device⟩,  -- TS_NOW
  ⟨0xE021, 0xE021, 1, false, .hw, 0, 255, [], 0, .device⟩   -- TS_SYNC_FAULT
  ]

/-- Parameters of the table of R97. -/
def tableR97 : List PDesc := [
  ⟨0x1000, 0x1000, 2, false, .srw, 0, 65535, [], 0, .portal⟩,  -- PORTAL_CONFIG
  ⟨0x1001, 0x1001, 1, false, .srw, 0, 7, [], 255, .portal⟩,  -- LOCK_CHANNEL
  ⟨0x1002, 0x1002, 1, false, .rw, 0, 7, [255], 255, .portal⟩,  -- WARN_CHANNEL
  ⟨0x1003, 0x1003, 1, false, .rw, 0, 9, [255], 255, .portal⟩,  -- OPEN_REQ_GPI
  ⟨0x1004, 0x1004, 1, false, .srw, 0, 7, [], 255, .portal⟩,  -- PNEU_OPEN_L0
  ⟨0x1005, 0x1005, 1, false, .srw, 0, 7, [], 255, .portal⟩,  -- PNEU_CLOSE_L0
  ⟨0x1006, 0x1006, 1, false, .srw, 0, 7, [], 255, .portal⟩,  -- PNEU_OPEN_L1
  ⟨0x1007, 0x1007, 1, false, .srw, 0, 7, [], 255, .portal⟩,  -- PNEU_CLOSE_L1
  ⟨0x1010, 0x1010, 4, false, .rw, 1000, 200000, [], 0, .leaf⟩,  -- OPEN_POS
  ⟨0x1011, 0x1011, 2, false, .srw, 50, 2000, [], 0, .leaf⟩,  -- CLOSED_WINDOW
  ⟨0x1012, 0x1012, 4, false, .rw, 0, 200000, [], 0, .leaf⟩,  -- REOPEN_DIST
  ⟨0x1013, 0x1013, 2, false, .rw, 0, 50000, [], 0, .leaf⟩,  -- PNEU_CUSHION
  ⟨0x1014, 0x1014, 2, false, .srw, 1, 100, [], 0, .leaf⟩,  -- PNEU_STALL_SPEED
  ⟨0x1020, 0x1020, 2, false, .rw, 0, 30000, [], 0, .portal⟩,  -- T_STEP_DEPLOY
  ⟨0x1021, 0x1021, 2, false, .rw, 0, 30000, [], 0, .portal⟩,  -- T_UNLOCK
  ⟨0x1022, 0x1022, 2, false, .rw, 0, 30000, [], 0, .portal⟩,  -- T_OPEN
  ⟨0x1023, 0x1023, 2, false, .rw, 0, 30000, [], 0, .portal⟩,  -- T_CLOSE
  ⟨0x1024, 0x1024, 2, false, .rw, 0, 30000, [], 0, .portal⟩,  -- T_LOCK
  ⟨0x1025, 0x1025, 2, false, .rw, 0, 30000, [], 0, .portal⟩,  -- T_STEP_STOW
  ⟨0x1026, 0x1026, 2, false, .rw, 0, 30000, [], 0, .portal⟩,  -- T_REOPEN
  ⟨0x1027, 0x1027, 2, false, .rw, 0, 60000, [], 0, .portal⟩,  -- T_STEP_HOME
  ⟨0x1030, 0x1036, 2, false, .srw, 100, 30000, [], 0, .portal⟩,  -- T__MAX, in the order of 0x10200x1027
  ⟨0x1037, 0x1037, 2, false, .srw, 500, 60000, [], 0, .portal⟩,  -- T__MAX, in the order of 0x10200x1027
  ⟨0x1040, 0x1040, 2, false, .rw, 0, 10000, [], 0, .portal⟩,  -- CLOSE_WARN_TIME
  ⟨0x1041, 0x1041, 1, false, .rw, 0, 10, [], 0, .portal⟩,  -- RECLOSE_MAX
  ⟨0x1042, 0x1042, 2, false, .rw, 0, 30000, [], 0, .portal⟩,  -- RECLOSE_DWELL
  ⟨0x1043, 0x1043, 2, false, .rw, 0, 5000, [], 0, .portal⟩,  -- OBST_OPEN_PAUSE
  ⟨0x1044, 0x1044, 1, false, .srw, 5, 200, [], 0, .portal⟩,  -- LOCK_SETTLE
  ⟨0x1045, 0x1045, 2, false, .rwMaint, 1, 200, [], 0, .portal⟩,  -- JOG_SPEED
  ⟨0x1046, 0x1046, 2, false, .srw, 1, 200, [], 0, .portal⟩   -- JOG_SPEED_MAX
  ]

/-- Parameters of the table of R97, continued. -/
def tableR97a : List PDesc := [
  ⟨0x1080, 0x1080, 1, false, .ro, 0, 13, [], 0, .portal⟩,  -- PORTAL_STATE
  ⟨0x1081, 0x1081, 2, false, .ro, 0, 65535, [], 0, .portal⟩,  -- PORTAL_FLAGS
  ⟨0x1082, 0x1082, 1, false, .ro, 0, 255, [], 0, .portal⟩,  -- FENCE_CAUSE
  ⟨0x1083, 0x1083, 1, false, .ro, 0, 10, [], 0, .portal⟩   -- RECLOSE_COUNT
  ]

/-- Parameters of the table of R132. -/
def tableR132 : List PDesc := [
  ⟨0x2000, 0x2000, 1, false, .srw, 0, 2, [], 0, .leaf⟩,  -- LEAF_MODE
  ⟨0x2001, 0x2001, 1, false, .srw, 0, 2, [], 255, .leaf⟩,  -- ANGLE_SOURCE
  ⟨0x2002, 0x2002, 1, false, .srw, 1, 32, [], 0, .leaf⟩,  -- POLE_PAIRS
  ⟨0x2003, 0x2003, 4, false, .rwConf, 256, 4294967295, [], 0, .leaf⟩,  -- COUNTS_PER_EREV
  ⟨0x2004, 0x2004, 2, false, .rwConf, 0, 65535, [], 0, .leaf⟩,  -- ANGLE_OFFSET
  ⟨0x2005, 0x2005, 4, false, .rwConf, 0, 4294967295, [], 4294967295, .leaf⟩,  -- HALL_MAP
  ⟨0x2006, 0x2006, 2, false, .rw, 100, 20000, [], 0, .leaf⟩,  -- ALIGN_CURRENT
  ⟨0x2007, 0x2007, 2, false, .rw, 10, 2000, [], 0, .leaf⟩,  -- ALIGN_TIME
  ⟨0x2010, 0x2010, 2, false, .rwConf, 8000, 40000, [], 20000, .leaf⟩,  -- PWM_FREQ
  ⟨0x2011, 0x2011, 2, false, .srw, 100, 5000, [], 0, .leaf⟩,  -- DEAD_TIME
  ⟨0x2012, 0x2012, 2, false, .rwConf, 0, 200, [], 0, .leaf⟩,  -- BOOT_TIME
  ⟨0x2013, 0x2013, 2, false, .rwConf, 0, 1000, [], 0, .leaf⟩,  -- GD_EN_DELAY
  ⟨0x2014, 0x2014, 2, false, .rwConf, 0, 2000, [], 0, .leaf⟩,  -- MIN_PULSE
  ⟨0x2020, 0x2020, 2, false, .rwConf, 5000, 20000, [0], 0, .portal⟩,  -- Pp_SD_CLK_FREQ
  ⟨0x2021, 0x2021, 2, false, .rwConf, 32, 256, [], 0, .leaf⟩,  -- SD_DECIM
  ⟨0x2022, 0x2022, 2, false, .srw, 500, 60000, [], 0, .leaf⟩,  -- I_FS
  ⟨0x2023, 0x2023, 2, false, .rwConf, 32, 256, [], 0, .portal⟩,  -- VBUS_DECIM
  ⟨0x2024, 0x2024, 4, false, .srw, 10000, 400000, [], 0, .portal⟩,  -- VBUS_FS
  ⟨0x2025, 0x2025, 4, false, .rw, 12000, 200000, [], 0, .portal⟩,  -- VBUS_NOM
  ⟨0x2026, 0x2026, 4, false, .srw, 8000, 200000, [], 0, .portal⟩,  -- VBUS_MIN
  ⟨0x2027, 0x2027, 4, false, .srw, 12000, 360000, [], 0, .portal⟩,  -- VBUS_MAX
  ⟨0x2028, 0x2028, 2, false, .srw, 200, 54000, [], 0, .leaf⟩,  -- IOC_TRIP
  ⟨0x2030, 0x2030, 2, false, .srw, 100, 48600, [], 0, .leaf⟩,  -- I_MAX
  ⟨0x2031, 0x2031, 2, false, .rw, 0, 48600, [], 65535, .leaf⟩,  -- I_HOLD
  ⟨0x2032, 0x2032, 2, false, .rw, 0, 48600, [], 65535, .leaf⟩,  -- CREEP_CURRENT
  ⟨0x2033, 0x2033, 2, false, .rw, 10000, 30000, [], 0, .leaf⟩,  -- CHOP_TARGET
  ⟨0x2034, 0x2034, 2, false, .rw, 10, 5000, [], 0, .leaf⟩,  -- CHOP_BAND_MIN
  ⟨0x2035, 0x2035, 2, false, .rw, 10, 5000, [], 0, .leaf⟩,  -- CHOP_BAND_MAX
  ⟨0x2040, 0x2047, 4, false, .rw, 0, 200000, [], 0, .leaf⟩,  -- OPEN_TAB_POS
  ⟨0x2048, 0x204F, 2, false, .rw, 0, 1000, [], 0, .leaf⟩   -- OPEN_TAB_SPD
  ]

/-- Parameters of the table of R132, continued. -/
def tableR132a : List PDesc := [
  ⟨0x2050, 0x2057, 4, false, .rw, 0, 200000, [], 0, .leaf⟩,  -- CLOSE_TAB_POS
  ⟨0x2058, 0x205F, 2, false, .rw, 0, 1000, [], 0, .leaf⟩,  -- CLOSE_TAB_SPD
  ⟨0x2060, 0x2060, 2, false, .rw, 50, 5000, [], 0, .leaf⟩,  -- ACC_OPEN
  ⟨0x2061, 0x2061, 2, false, .rw, 50, 5000, [], 0, .leaf⟩,  -- DEC_OPEN
  ⟨0x2062, 0x2062, 2, false, .rw, 50, 5000, [], 0, .leaf⟩,  -- ACC_CLOSE
  ⟨0x2063, 0x2063, 2, false, .rw, 50, 5000, [], 0, .leaf⟩,  -- DEC_CLOSE
  ⟨0x2064, 0x2064, 2, false, .rw, 100, 10000, [], 0, .leaf⟩,  -- DEC_REVERSE
  ⟨0x2065, 0x2065, 4, false, .rw, 0, 50000, [], 0, .leaf⟩,  -- END_ZONE
  ⟨0x2066, 0x2066, 2, false, .rw, 1, 200, [], 0, .leaf⟩,  -- CUSHION_SPEED
  ⟨0x2067, 0x2067, 2, false, .rw, 0, 5000, [], 0, .leaf⟩,  -- CREEP_LEN
  ⟨0x2068, 0x2068, 2, false, .rw, 1, 100, [], 0, .leaf⟩,  -- CREEP_SPEED
  ⟨0x2069, 0x2069, 2, false, .srw, 1, 1000, [], 0, .leaf⟩,  -- V_MAX_OPEN
  ⟨0x206A, 0x206A, 2, false, .srw, 1, 1000, [], 0, .leaf⟩,  -- V_MAX_CLOSE
  ⟨0x2080, 0x2080, 2, false, .ro, 0, 65535, [], 0, .leaf⟩,  -- LEAF_STATUS
  ⟨0x2081, 0x2081, 2, false, .hw, 0, 65535, [], 0, .leaf⟩,  -- LD_FAULT
  ⟨0x2082, 0x2082, 4, true, .ro, -2147483648, 2147483647, [], 0, .leaf⟩,  -- IQ_MEAS
  ⟨0x2083, 0x2083, 4, true, .ro, -2147483648, 2147483647, [], 0, .leaf⟩,  -- ID_MEAS
  ⟨0x2084, 0x2084, 4, false, .ro, 0, 4294967295, [], 0, .portal⟩,  -- VBUS_MEAS
  ⟨0x2085, 0x2085, 2, false, .ro, 0, 65535, [], 0, .leaf⟩,  -- CHOP_FREQ
  ⟨0x2086, 0x2086, 2, false, .ro, 0, 65535, [], 0, .leaf⟩   -- ELEC_ANGLE
  ]

/-- Parameters of the table of R165. -/
def tableR165 : List PDesc := [
  ⟨0x3000, 0x303F, 2, false, .roW1c, 0, 65535, [], 0, .die⟩,  -- SLOT_STATUS
  ⟨0x3040, 0x307F, 1, false, .rw, 1, 2, [5, 10, 20, 40, 50], 0, .die⟩,  -- SLOT_RATE
  ⟨0x3080, 0x30BF, 1, false, .rwCoef, 2, 3, [], 0, .die⟩,  -- SLOT_ORDER
  ⟨0x30C0, 0x30FF, 1, false, .rwCoef, 0, 15, [], 0, .die⟩,  -- POST_SHIFT
  ⟨0x3100, 0x31FF, 2, true, .rwCoef, -32768, 32767, [], 0, .die⟩,  -- B0, B1, B2, B3
  ⟨0x3200, 0x32BF, 2, true, .rwCoef, -32768, 32767, [], 0, .die⟩,  -- A1, A2, A3
  ⟨0x32C0, 0x32FF, 2, true, .rwCoef, 0, 32767, [], 0, .die⟩,  -- KI
  ⟨0x3300, 0x333F, 2, true, .rwCoef, 0, 32767, [], 0, .die⟩,  -- KB
  ⟨0x3340, 0x337F, 2, true, .rwCoef, -32768, 0, [], 0, .die⟩,  -- INT_LO
  ⟨0x3380, 0x33BF, 2, true, .rwCoef, 0, 32767, [], 0, .die⟩,  -- INT_HI
  ⟨0x33C0, 0x33FF, 2, true, .rwCoef, -32768, 32767, [], 0, .die⟩,  -- OUT_LO
  ⟨0x3400, 0x343F, 2, true, .rwCoef, -32768, 32767, [], 0, .die⟩,  -- OUT_HI
  ⟨0x3440, 0x347F, 2, false, .rw, 1, 32767, [], 0, .die⟩,  -- XFER_SLEW
  ⟨0x3480, 0x34BF, 2, false, .rw, 1, 32767, [], 0, .die⟩,  -- MANUAL_RAMP
  ⟨0x34C0, 0x34FF, 1, false, .rw, 0, 7, [], 255, .die⟩,  -- SLOT_PORTAL
  ⟨0x3500, 0x353F, 2, false, .rw, 0, 65535, [], 0, .die⟩,  -- SLOT_IO
  ⟨0x3540, 0x357F, 2, true, .rwAll, -32768, 32767, [], 0, .die⟩,  -- SETPOINT
  ⟨0x3580, 0x35BF, 2, true, .rw, 328, 32767, [], 0, .die⟩,  -- TUNE_EMAX
  ⟨0x3800, 0x383F, 2, true, .ro, -32768, 32767, [], 0, .die⟩,  -- SLOT_ERR
  ⟨0x3840, 0x387F, 2, true, .ro, -32768, 32767, [], 0, .die⟩,  -- SLOT_OUT
  ⟨0x3880, 0x38BF, 4, true, .ro, -2147483648, 2147483647, [], 0, .die⟩,  -- SLOT_INT
  ⟨0x38C0, 0x38FF, 4, false, .ro, 0, 4294967295, [], 0, .die⟩,  -- TUNE_TU
  ⟨0x3900, 0x393F, 2, false, .ro, 0, 65535, [], 0, .die⟩,  -- TUNE_AMP
  ⟨0x3940, 0x397F, 4, false, .ro, 0, 4294967295, [], 0, .die⟩,  -- TUNE_KU
  ⟨0x3980, 0x39BF, 1, false, .ro, 0, 255, [], 0, .die⟩,  -- TUNE_P_SHIFT
  ⟨0x39C0, 0x39FF, 2, true, .ro, -32768, 32767, [], 0, .die⟩,  -- TUNE_P_B0
  ⟨0x3A00, 0x3A3F, 2, true, .ro, -32768, 32767, [], 0, .die⟩,  -- TUNE_P_KI
  ⟨0x3A40, 0x3A7F, 2, true, .ro, -32768, 32767, [], 0, .die⟩,  -- TUNE_P_KB
  ⟨0x3A80, 0x3ABF, 1, false, .ro, 0, 255, [], 0, .die⟩   -- TUNE_P_FLAGS
  ]

/-- Parameters of the table of R192. -/
def tableR192 : List PDesc := [
  ⟨0x4000, 0x4000, 2, false, .srw, 1, 65535, [], 0, .leaf⟩,  -- KT
  ⟨0x4001, 0x4001, 2, false, .srw, 100, 10000, [], 0, .leaf⟩,  -- GEAR
  ⟨0x4002, 0x4002, 2, false, .srw, 100, 20000, [], 0, .leaf⟩,  -- R_OUT
  ⟨0x4003, 0x4003, 2, false, .srw, 10, 5000, [], 0, .leaf⟩,  -- MASS
  ⟨0x4004, 0x4004, 2, false, .srw, 20, 2000, [], 0, .leaf⟩,  -- F_LIM_SEAL
  ⟨0x4005, 0x4005, 2, false, .srw, 100, 20000, [], 0, .leaf⟩,  -- E_LIM_SEAL
  ⟨0x4006, 0x4006, 2, false, .srw, 0, 1000, [], 0, .leaf⟩,  -- FRIC_MAX
  ⟨0x4007, 0x4007, 2, false, .srw, 20, 1000, [], 0, .leaf⟩,  -- OBST_THR_MAX
  ⟨0x4010, 0x4010, 2, false, .rwAll, 0, 2000, [], 0, .leaf⟩,  -- FF_LIMIT
  ⟨0x4011, 0x4011, 2, false, .rwAll, 0, 20000, [], 0, .leaf⟩,  -- EF_LIMIT
  ⟨0x4012, 0x4012, 2, false, .rw, 10, 1000, [], 0, .leaf⟩,  -- OBST_THR_OPEN
  ⟨0x4013, 0x4013, 2, false, .rw, 10, 1000, [], 0, .leaf⟩,  -- OBST_THR_CLOSE
  ⟨0x4014, 0x4014, 2, false, .rw, 10, 1000, [], 0, .leaf⟩,  -- OBST_THR_START
  ⟨0x4015, 0x4015, 2, false, .rw, 0, 500, [], 0, .leaf⟩,  -- OBST_START_TIME
  ⟨0x4016, 0x4016, 1, false, .rw, 1, 20, [], 2, .leaf⟩,  -- OBST_CONFIRM
  ⟨0x4017, 0x4017, 2, false, .rw, 0, 500, [], 0, .leaf⟩,  -- LEARN_MARGIN
  ⟨0x4018, 0x4018, 2, false, .rw, 5, 500, [], 0, .leaf⟩,  -- LEARN_VMIN
  ⟨0x4019, 0x4019, 2, false, .rw, 0, 1000, [], 0, .leaf⟩,  -- FRIC_INIT_OPEN
  ⟨0x401A, 0x401A, 2, false, .rw, 0, 1000, [], 0, .leaf⟩,  -- FRIC_INIT_CLOSE
  ⟨0x401B, 0x401B, 1, false, .rw, 0, 1, [], 0, .leaf⟩,  -- LEARN_ENABLE
  ⟨0x4020, 0x4020, 1, false, .wo, 0, 1, [], 0, .leaf⟩,  -- FRIC_RESET
  ⟨0x4080, 0x4080, 2, false, .roW1c, 0, 65535, [], 0, .leaf⟩,  -- OBST_STATUS
  ⟨0x4081, 0x4081, 2, true, .ro, -32768, 32767, [], 0, .leaf⟩,  -- F_RES
  ⟨0x4082, 0x4082, 2, true, .ro, -32768, 32767, [], 0, .leaf⟩,  -- F_OPP
  ⟨0x4083, 0x4083, 2, false, .ro, 0, 65535, [], 0, .leaf⟩,  -- THR_EFF
  ⟨0x4084, 0x4084, 4, false, .ro, 0, 4294967295, [], 0, .leaf⟩,  -- E_KIN
  ⟨0x4085, 0x4085, 2, false, .ro, 0, 65535, [], 0, .leaf⟩,  -- FF_CURRENT
  ⟨0x4086, 0x4086, 2, false, .ro, 0, 65535, [], 0, .leaf⟩,  -- EF_SPEED
  ⟨0x4087, 0x4087, 2, false, .ro, 0, 65535, [], 0, .leaf⟩,  -- PEAK_F_OPP
  ⟨0x4088, 0x4088, 4, false, .ro, 0, 4294967295, [], 0, .leaf⟩   -- PEAK_E
  ]

/-- Parameters of the table of R192, continued. -/
def tableR192a : List PDesc := [
  ⟨0x4089, 0x4089, 4, false, .ro, 0, 4294967295, [], 0, .leaf⟩,  -- MAP_UPDATES
  ⟨0x4100, 0x41FF, 2, false, .ro, 0, 65535, [], 0, .leaf⟩,  -- FRIC_BIN_OPEN
  ⟨0x4200, 0x42FF, 2, false, .ro, 0, 65535, [], 0, .leaf⟩,  -- FRIC_BIN_CLOSE
  ⟨0x4300, 0x43FF, 1, false, .ro, 0, 255, [], 0, .leaf⟩   -- FRIC_CONF
  ]

/-- Parameters of the table of R223. -/
def tableR223 : List PDesc := [
  ⟨0x5000, 0x5000, 4, false, .srw, 100, 1000000, [], 0, .step⟩,  -- STEP_LEAD
  ⟨0x5001, 0x5001, 4, false, .srw, 100, 100000, [], 0, .step⟩,  -- DEPLOY_POS
  ⟨0x5002, 0x5002, 2, false, .rwConf, 5000, 20000, [0], 0, .step⟩,  -- STEP_SD_CLK_FREQ
  ⟨0x5003, 0x5003, 2, false, .rwConf, 32, 256, [], 0, .step⟩,  -- STEP_SD_DECIM
  ⟨0x5004, 0x5004, 2, false, .srw, 200, 20000, [], 0, .step⟩,  -- STEP_I_FS
  ⟨0x5005, 0x5005, 2, false, .srw, 100, 18000, [], 0, .step⟩,  -- STEP_IOC_TRIP
  ⟨0x5006, 0x5006, 2, false, .srw, 50, 16200, [], 0, .step⟩,  -- STEP_I_RUN
  ⟨0x5007, 0x5007, 2, false, .rw, 0, 16200, [], 0, .step⟩,  -- STEP_I_HOLD
  ⟨0x5008, 0x5008, 1, false, .rw, 0, 1, [], 0, .step⟩,  -- STANDSTILL_MODE
  ⟨0x5009, 0x5009, 2, false, .rwConf, 16000, 40000, [], 25000, .step⟩,  -- STEP_PWM_FREQ
  ⟨0x5010, 0x5010, 2, false, .rw, 1, 10000, [], 0, .step⟩,  -- V_START
  ⟨0x5011, 0x5011, 2, false, .rw, 1, 10000, [], 0, .step⟩,  -- V_STOP
  ⟨0x5012, 0x5012, 4, false, .rw, 1, 200000, [], 0, .step⟩,  -- V_BRK
  ⟨0x5013, 0x5013, 4, false, .srw, 1, 200000, [], 0, .step⟩,  -- V_MAX
  ⟨0x5014, 0x5014, 4, false, .rw, 10, 2000000, [], 0, .step⟩,  -- A1
  ⟨0x5015, 0x5015, 4, false, .rw, 10, 2000000, [], 0, .step⟩,  -- A2
  ⟨0x5016, 0x5016, 4, false, .rw, 10, 2000000, [], 0, .step⟩,  -- D1
  ⟨0x5017, 0x5017, 4, false, .rw, 10, 2000000, [], 0, .step⟩,  -- D2
  ⟨0x5018, 0x501B, 4, false, .rwConf, 1, 200000, [], 0, .step⟩,  -- RES_SPD
  ⟨0x501C, 0x501C, 1, false, .rwConf, 0, 50, [], 0, .step⟩,  -- RES_HYST
  ⟨0x5020, 0x5020, 4, false, .rwConf, 0, 200000, [], 0, .step⟩,  -- MODE_SPEED
  ⟨0x5021, 0x5021, 1, false, .rw, 0, 50, [], 0, .step⟩,  -- MODE_HYST
  ⟨0x5022, 0x5022, 2, false, .rw, 1000, 40000, [], 0, .step⟩,  -- STEP_T_OFF
  ⟨0x5023, 0x5023, 2, false, .rw, 200, 5000, [], 0, .step⟩,  -- STEP_T_BLANK
  ⟨0x5024, 0x5024, 1, false, .rw, 0, 2, [], 0, .step⟩,  -- STRONG_DECAY
  ⟨0x5025, 0x5025, 2, false, .rw, 10, 50000, [], 0, .step⟩,  -- R_COIL
  ⟨0x5026, 0x5026, 2, false, .rw, 0, 65535, [], 0, .step⟩,  -- KE
  ⟨0x5027, 0x5027, 4, false, .rw, 8000, 200000, [], 0, .step⟩,  -- STEP_VS
  ⟨0x5028, 0x5028, 1, false, .rw, 0, 1, [], 0, .step⟩,  -- QUIET_TRIM
  ⟨0x5030, 0x5030, 1, false, .rwConf, 0, 3, [], 255, .step⟩   -- HOME_AUX
  ]

/-- Parameters of the table of R223, continued. -/
def tableR223a : List PDesc := [
  ⟨0x5031, 0x5031, 1, false, .rwConf, 0, 1, [], 0, .step⟩,  -- HOME_POL
  ⟨0x5032, 0x5032, 2, false, .rw, 1, 10000, [], 0, .step⟩,  -- HOME_SPEED
  ⟨0x5033, 0x5033, 4, true, .rw, -10000, 10000, [], 0, .step⟩,  -- HOME_OFFSET
  ⟨0x5034, 0x5034, 4, false, .rw, 100, 200000, [], 0, .step⟩,  -- HOME_MAX_TRAVEL
  ⟨0x5035, 0x5035, 4, false, .rw, 10, 20000, [], 0, .step⟩,  -- HOME_BACKOFF
  ⟨0x5036, 0x5036, 2, false, .rw, 10, 5000, [], 0, .step⟩,  -- STEP_POS_TOL
  ⟨0x5080, 0x5080, 2, false, .ro, 0, 65535, [], 0, .step⟩,  -- STEP_STATUS
  ⟨0x5081, 0x5081, 2, false, .hw, 0, 65535, [], 0, .step⟩,  -- STEP_FAULT
  ⟨0x5082, 0x5082, 4, true, .ro, -2147483648, 2147483647, [], 0, .step⟩,  -- STEP_POS
  ⟨0x5083, 0x5083, 4, true, .ro, -2147483648, 2147483647, [], 0, .step⟩,  -- STEP_FINE
  ⟨0x5084, 0x5084, 4, true, .ro, -2147483648, 2147483647, [], 0, .step⟩,  -- STEP_SPEED
  ⟨0x5085, 0x5085, 2, true, .ro, -32768, 32767, [], 0, .step⟩,  -- STEP_IA_MEAS
  ⟨0x5086, 0x5086, 2, true, .ro, -32768, 32767, [], 0, .step⟩,  -- STEP_IB_MEAS
  ⟨0x5087, 0x5087, 2, false, .ro, 0, 65535, [], 256, .step⟩,  -- STEP_RES
  ⟨0x5088, 0x5088, 4, true, .ro, -2147483648, 2147483647, [], 0, .step⟩   -- HOME_CORR
  ]

/-- Parameters of the table of R251. -/
def tableR251 : List PDesc := [
  ⟨0x6000, 0x6000, 1, false, .srw, 0, 5, [], 0, .feedback⟩,  -- FB_TYPE
  ⟨0x6001, 0x6001, 4, false, .srw, 1, 10000000, [], 0, .feedback⟩,  -- FB_RES
  ⟨0x6002, 0x6002, 1, false, .srw, 0, 1, [], 0, .feedback⟩,  -- FB_INVERT
  ⟨0x6003, 0x6003, 2, false, .srw, 20, 500, [], 0, .feedback⟩,  -- OBS_BW
  ⟨0x6004, 0x6004, 1, false, .rwConf, 5, 100, [], 0, .feedback⟩,  -- T_STILL
  ⟨0x6005, 0x6005, 2, false, .srw, 1, 65535, [], 0, .feedback⟩,  -- TRACK_MAX
  ⟨0x6006, 0x6006, 1, false, .rwConf, 0, 1, [], 0, .feedback⟩,  -- REF_CLOSED
  ⟨0x6010, 0x6010, 1, false, .rwConf, 0, 2, [], 0, .feedback⟩,  -- INDEX_MODE
  ⟨0x6011, 0x6011, 1, false, .rwConf, 0, 1, [], 0, .feedback⟩,  -- INDEX_POL
  ⟨0x6012, 0x6012, 4, true, .srw, -200000, 200000, [], 0, .feedback⟩,  -- INDEX_POS
  ⟨0x6013, 0x6013, 2, false, .rwConf, 0, 65535, [], 0, .feedback⟩,  -- LINES
  ⟨0x6014, 0x6014, 1, false, .rwConf, 0, 255, [], 0, .feedback⟩,  -- LC_TOL
  ⟨0x6015, 0x6015, 1, false, .wo, 0, 1, [], 0, .feedback⟩,  -- FB_ARM
  ⟨0x6016, 0x6016, 1, false, .wo, 0, 1, [], 0, .feedback⟩,  -- FB_COUNT_CLEAR
  ⟨0x6020, 0x6020, 1, false, .rwConf, 10, 32, [], 0, .feedback⟩,  -- SSI_BITS
  ⟨0x6021, 0x6021, 1, false, .rwConf, 0, 1, [], 0, .feedback⟩,  -- SSI_CODE
  ⟨0x6022, 0x6022, 2, false, .rwConf, 100, 2000, [], 0, .feedback⟩,  -- SSI_CLK_FREQ
  ⟨0x6023, 0x6023, 1, false, .rwConf, 1, 40, [], 0, .feedback⟩,  -- SSI_PAUSE
  ⟨0x6024, 0x6024, 1, false, .rwConf, 0, 3, [], 255, .feedback⟩,  -- SSI_CLK_AUX
  ⟨0x6025, 0x6025, 4, false, .srw, 0, 4294967295, [], 0, .feedback⟩,  -- SSI_ZERO
  ⟨0x6026, 0x6026, 4, false, .rwConf, 1, 2147483647, [], 0, .feedback⟩,  -- SSI_JUMP_MAX
  ⟨0x6030, 0x6030, 1, false, .rwConf, 0, 2, [255], 255, .portal⟩,  -- ECHO_SRC
  ⟨0x6031, 0x6031, 2, false, .rwConf, 1, 65535, [], 1, .portal⟩,  -- ECHO_N
  ⟨0x6032, 0x6032, 2, false, .rwConf, 1, 65535, [], 1, .portal⟩,  -- ECHO_M
  ⟨0x6033, 0x6033, 1, false, .rwConf, 0, 3, [], 255, .portal⟩,  -- ECHO_AUX_A
  ⟨0x6034, 0x6034, 1, false, .rwConf, 0, 3, [], 255, .portal⟩,  -- ECHO_AUX_B
  ⟨0x6035, 0x6035, 2, false, .rwConf, 100, 10000, [], 0, .portal⟩,  -- ECHO_MIN_EDGE
  ⟨0x6080, 0x6080, 2, false, .ro, 0, 65535, [], 2, .feedback⟩,  -- FB_STATUS
  ⟨0x6081, 0x6081, 2, false, .hw, 0, 65535, [], 0, .feedback⟩,  -- FB_FAULT
  ⟨0x6082, 0x6082, 4, true, .ro, -2147483648, 2147483647, [], 0, .feedback⟩   -- FB_COUNT
  ]

/-- Parameters of the table of R251, continued. -/
def tableR251a : List PDesc := [
  ⟨0x6083, 0x6083, 4, true, .ro, -2147483648, 2147483647, [], 0, .feedback⟩,  -- FB_POS
  ⟨0x6084, 0x6084, 4, true, .ro, -2147483648, 2147483647, [], 0, .feedback⟩,  -- FB_SPEED
  ⟨0x6085, 0x6085, 4, true, .ro, -2147483648, 2147483647, [], 0, .feedback⟩,  -- FB_ACC
  ⟨0x6086, 0x6086, 2, false, .ro, 0, 65535, [], 0, .feedback⟩,  -- ILLEGAL_COUNT
  ⟨0x6087, 0x6087, 2, false, .ro, 0, 65535, [], 0, .feedback⟩,  -- LC_MISMATCH
  ⟨0x6088, 0x6088, 4, true, .ro, -2147483648, 2147483647, [], 0, .feedback⟩,  -- LAST_SPAN
  ⟨0x6089, 0x6089, 2, false, .ro, 0, 65535, [], 0, .portal⟩,  -- ECHO_STATUS
  ⟨0x608A, 0x608A, 4, true, .ro, -2147483648, 2147483647, [], 0, .portal⟩,  -- ECHO_BACKLOG
  ⟨0x608B, 0x608B, 1, false, .ro, 0, 255, [], 0, .portal⟩   -- AUX_STATUS
  ]

/-- Parameters of the table of R286. -/
def tableR286 : List PDesc := [
  ⟨0x7000, 0x7000, 1, false, .rw, 0, 5, [], 0, .channel⟩,  -- CH_MODE
  ⟨0x7001, 0x7001, 1, false, .srw, 0, 3, [], 255, .channel⟩,  -- CH_ILIM
  ⟨0x7002, 0x7002, 1, false, .srw, 0, 2, [], 0, .channel⟩,  -- CH_FAILSAFE
  ⟨0x7003, 0x7003, 2, false, .rw, 100, 400, [], 0, .channel⟩,  -- CH_PWM_FREQ
  ⟨0x7004, 0x7004, 2, false, .rwAll, 0, 1000, [], 0, .channel⟩,  -- CH_DUTY
  ⟨0x7005, 0x7005, 4, false, .rw, 12000, 200000, [0], 0, .channel⟩,  -- CH_VNOM
  ⟨0x7006, 0x7006, 2, false, .rw, 1, 5000, [], 0, .channel⟩,  -- CH_PULLIN_TIME
  ⟨0x7007, 0x7007, 2, false, .rw, 1, 1000, [], 0, .channel⟩,  -- CH_HOLD_DUTY
  ⟨0x7008, 0x7008, 2, false, .rw, 1, 65535, [], 0, .channel⟩,  -- CH_FLASH_PATTERN
  ⟨0x7009, 0x7009, 2, false, .rw, 10, 1000, [], 0, .channel⟩,  -- CH_FLASH_STEP
  ⟨0x700A, 0x700A, 2, false, .rw, 50, 10000, [], 50, .channel⟩,  -- CH_INRUSH_TIME
  ⟨0x700B, 0x700B, 1, false, .rw, 0, 15, [], 0, .channel⟩,  -- CH_RETRY_MAX
  ⟨0x700C, 0x700C, 2, false, .rw, 10, 60000, [], 0, .channel⟩,  -- CH_RETRY_INTERVAL
  ⟨0x7080, 0x7080, 2, false, .roW1c, 0, 65535, [], 0, .channel⟩,  -- CH_STATUS
  ⟨0x7081, 0x7081, 2, false, .ro, 0, 8190, [], 0, .channel⟩,  -- CH_I_AVG
  ⟨0x7082, 0x7082, 2, false, .ro, 0, 8190, [], 0, .channel⟩,  -- CH_I_ON
  ⟨0x7083, 0x7083, 2, true, .ro, -32768, 32767, [], 0, .channel⟩,  -- CH_TEMP
  ⟨0x7084, 0x7084, 1, false, .ro, 0, 15, [], 0, .channel⟩,  -- RETRY_COUNT
  ⟨0x7085, 0x7085, 2, false, .ro, 0, 1000, [], 0, .channel⟩,  -- CH_DUTY_EFF
  ⟨0x7086, 0x7086, 4, false, .ro, 0, 4294967295, [], 0, .channel⟩,  -- CH_SHUTDOWNS
  ⟨0x7087, 0x7087, 4, false, .ro, 0, 4294967295, [], 0, .channel⟩,  -- CH_SWITCHINGS
  ⟨0x7100, 0x7100, 4, true, .ro, -2147483648, 2147483647, [], 0, .portal⟩,  -- VLS_MEAS
  ⟨0x7101, 0x7101, 1, false, .ro, 0, 255, [], 0, .portal⟩,  -- VLS_STATUS
  ⟨0x7200, 0x7200, 2, false, .ro, 0, 65535, [], 0, .die⟩,  -- PW_STATUS
  ⟨0x7201, 0x7201, 2, true, .ro, -32768, 32767, [], 0, .die⟩   -- PW_TEMP_MAX
  ]

/-- Parameters of the table of R320. -/
def tableR320 : List PDesc := [
  ⟨0x8000, 0x8000, 1, false, .srw, 0, 63, [], 0, .portal⟩,  -- SI_POL
  ⟨0x8001, 0x8001, 1, false, .srw, 0, 7, [], 0, .portal⟩,  -- SI_FITTED
  ⟨0x8002, 0x8002, 1, false, .srw, 1, 50, [], 0, .portal⟩,  -- SI_DEBOUNCE
  ⟨0x8003, 0x8003, 2, false, .srw, 100, 5000, [], 0, .portal⟩,  -- SI_DEBOUNCE_FAST
  ⟨0x8004, 0x8004, 2, false, .srw, 10, 500, [], 0, .portal⟩,  -- SI_DISC_TIME
  ⟨0x8005, 0x8005, 2, false, .srw, 100, 20000, [], 0, .portal⟩,  -- CL_PLAUS
  ⟨0x8006, 0x8006, 2, false, .srw, 100, 20000, [], 0, .portal⟩,  -- STW_PLAUS
  ⟨0x8010, 0x8010, 1, false, .srw, 1, 50, [], 0, .device⟩,  -- ZS_DEBOUNCE
  ⟨0x8011, 0x8011, 2, false, .srw, 10, 500, [], 0, .device⟩,  -- ZS_DISC_TIME
  ⟨0x8012, 0x8012, 2, false, .srw, 5, 200, [], 0, .device⟩,  -- DCL_PICKUP_MAX
  ⟨0x8013, 0x8013, 2, false, .srw, 5, 200, [], 0, .device⟩,  -- DCL_DROP_MAX
  ⟨0x8014, 0x8014, 1, false, .rwAll, 1, 50, [], 10, .device⟩,  -- GPI_DEBOUNCE
  ⟨0x8015, 0x8015, 2, false, .rwAll, 0, 1023, [], 0, .device⟩,  -- GPI_EVT_ENABLE
  ⟨0x8080, 0x8080, 4, false, .ro, 0, 4294967295, [], 0, .portal⟩,  -- SI_STATUS
  ⟨0x8081, 0x8081, 1, false, .hw, 0, 255, [], 0, .portal⟩,  -- SI_FAULT
  ⟨0x8090, 0x8090, 4, false, .ro, 0, 4294967295, [], 0, .device⟩,  -- SAFETY_STATUS
  ⟨0x8091, 0x8091, 2, false, .ro, 0, 65535, [], 0, .device⟩,  -- DCL_TERMS
  ⟨0x8092, 0x8092, 1, false, .hw, 0, 255, [], 0, .device⟩,  -- DCL_FAULT
  ⟨0x8093, 0x8093, 2, false, .ro, 0, 65535, [], 0, .device⟩,  -- SEAL_LIVE
  ⟨0x8094, 0x8094, 2, false, .ro, 0, 65535, [], 65535, .device⟩,  -- SEAL_STORED
  ⟨0x8095, 0x8095, 4, false, .ro, 0, 4294967295, [], 0, .device⟩,  -- SEAL_COMMITS
  ⟨0x8096, 0x8096, 2, false, .ro, 0, 65535, [], 0, .device⟩   -- GPI_LEVELS
  ]

/-- Parameters of the table of R372. -/
def tableR372 : List PDesc := [
  ⟨0x9000, 0x9000, 1, false, .srw, 0, 1, [], 255, .device⟩,  -- PAIR_ROLE
  ⟨0x9080, 0x9080, 2, false, .ro, 0, 65535, [], 0, .device⟩,  -- PAIR_STATUS
  ⟨0x9081, 0x9081, 2, false, .ro, 0, 65535, [], 0, .device⟩,  -- CLAIM_OWN
  ⟨0x9082, 0x9082, 2, false, .ro, 0, 65535, [], 0, .device⟩,  -- CLAIM_WIN
  ⟨0x9083, 0x9083, 4, false, .ro, 0, 4294967295, [], 0, .device⟩,  -- HEALTH_DETAIL
  ⟨0x9084, 0x9084, 4, false, .ro, 0, 4294967295, [], 0, .device⟩,  -- UNIT_SERIAL
  ⟨0x9085, 0x9085, 4, false, .ro, 0, 4294967295, [], 0, .device⟩,  -- PARTNER_SERIAL
  ⟨0x9086, 0x9086, 1, false, .ro, 0, 255, [], 0, .device⟩,  -- SWETRIC_VERSION
  ⟨0x9087, 0x9087, 4, false, .ro, 0, 4294967295, [], 0, .device⟩,  -- SNAP_SEQ_LAST
  ⟨0x9088, 0x9088, 2, false, .ro, 0, 65535, [], 65535, .device⟩,  -- SNAP_AGE
  ⟨0x9089, 0x9089, 4, false, .ro, 0, 4294967295, [], 0, .device⟩,  -- SNAP_DISCARDED
  ⟨0x908A, 0x908A, 4, false, .ro, 0, 4294967295, [], 0, .device⟩,  -- SNAP_SKIPPED
  ⟨0x908B, 0x908B, 4, false, .ro, 0, 4294967295, [], 0, .device⟩,  -- TAKEOVERS
  ⟨0x908C, 0x908C, 1, false, .ro, 0, 255, [], 0, .device⟩   -- STANDBY_PENDING
  ]

/-- Parameters of the table of R402. -/
def tableR402 : List PDesc := [
  ⟨0xA000, 0xA000, 2, false, .rwFromConf, 1, 256, [], 0, .device⟩,  -- NBRP
  ⟨0xA001, 0xA001, 1, false, .rwFromConf, 1, 128, [], 0, .device⟩,  -- NPROP
  ⟨0xA002, 0xA002, 1, false, .rwFromConf, 1, 128, [], 0, .device⟩,  -- NPHASE1
  ⟨0xA003, 0xA003, 1, false, .rwFromConf, 2, 128, [], 0, .device⟩,  -- NPHASE2
  ⟨0xA004, 0xA004, 1, false, .rwFromConf, 1, 128, [], 0, .device⟩,  -- NSJW
  ⟨0xA005, 0xA005, 1, false, .rwFromConf, 1, 32, [], 0, .device⟩,  -- DBRP
  ⟨0xA006, 0xA006, 1, false, .rwFromConf, 0, 31, [], 0, .device⟩,  -- DPROP
  ⟨0xA007, 0xA007, 1, false, .rwFromConf, 1, 32, [], 0, .device⟩,  -- DPHASE1
  ⟨0xA008, 0xA008, 1, false, .rwFromConf, 2, 16, [], 0, .device⟩,  -- DPHASE2
  ⟨0xA009, 0xA009, 1, false, .rwFromConf, 1, 16, [], 0, .device⟩,  -- DSJW
  ⟨0xA00A, 0xA00A, 1, false, .rwFromConf, 0, 1, [], 0, .device⟩,  -- TDC_MODE
  ⟨0xA00B, 0xA00B, 1, false, .rwFromConf, 0, 127, [], 0, .device⟩,  -- TDCO
  ⟨0xA00C, 0xA00C, 1, false, .rwFromConf, 0, 7, [], 0, .device⟩,  -- CAN_OPTIONS
  ⟨0xA010, 0xA010, 1, false, .rwFromConf, 0, 1, [], 0, .device⟩,  -- RX_MODE
  ⟨0xA020, 0xA027, 4, false, .rwFromConf, 0, 1073741823, [], 0, .device⟩,  -- PF_ID
  ⟨0xA028, 0xA02F, 4, false, .rwFromConf, 0, 1073741823, [], 0, .device⟩,  -- PF_MASK
  ⟨0xA030, 0xA030, 1, false, .rwFromConf, 0, 255, [], 0, .device⟩,  -- PF_ENABLE
  ⟨0xA040, 0xA047, 4, false, .rwFromConf, 0, 1073741823, [], 0, .device⟩,  -- CAND_NOM
  ⟨0xA048, 0xA04F, 4, false, .rwFromConf, 0, 134217727, [], 0, .device⟩,  -- CAND_DATA
  ⟨0xA050, 0xA050, 1, false, .rwFromConf, 1, 8, [], 0, .device⟩,  -- CAND_COUNT
  ⟨0xA051, 0xA051, 2, false, .rwFromConf, 10, 10000, [], 0, .device⟩,  -- DETECT_WINDOW
  ⟨0xA052, 0xA052, 2, false, .rwFromConf, 100, 60000, [], 0, .device⟩,  -- DETECT_TIMEOUT
  ⟨0xA053, 0xA053, 1, false, .rwFromConf, 0, 1, [], 0, .device⟩,  -- DETECT_THEN
  ⟨0xA060, 0xA060, 1, false, .rwFromConf, 0, 1, [], 0, .device⟩,  -- WAKE_MODE
  ⟨0xA061, 0xA061, 4, false, .rwFromConf, 0, 1073741823, [], 0, .device⟩,  -- WAKE_ID
  ⟨0xA062, 0xA062, 4, false, .rwFromConf, 0, 1073741823, [], 0, .device⟩,  -- WAKE_ID_MASK
  ⟨0xA063, 0xA063, 4, false, .rwFromConf, 0, 4294967295, [], 0, .device⟩,  -- WAKE_DATA_LO
  ⟨0xA064, 0xA064, 4, false, .rwFromConf, 0, 4294967295, [], 0, .device⟩,  -- WAKE_DATA_HI
  ⟨0xA065, 0xA065, 4, false, .rwFromConf, 0, 4294967295, [], 0, .device⟩,  -- WAKE_MASK_LO
  ⟨0xA066, 0xA066, 4, false, .rwFromConf, 0, 4294967295, [], 0, .device⟩   -- WAKE_MASK_HI
  ]

/-- Parameters of the table of R402, continued. -/
def tableR402a : List PDesc := [
  ⟨0xA067, 0xA067, 1, false, .rwFromConf, 1, 50, [], 5, .device⟩,  -- WAKE_FILTER
  ⟨0xA070, 0xA070, 1, false, .rwFromConf, 0, 31, [], 0, .device⟩,  -- TRAFFIC_EVT
  ⟨0xA080, 0xA080, 2, false, .ro, 0, 65535, [], 0, .device⟩,  -- CAN_STATUS
  ⟨0xA081, 0xA081, 1, false, .ro, 0, 255, [], 0, .device⟩,  -- TEC
  ⟨0xA082, 0xA082, 1, false, .ro, 0, 255, [], 0, .device⟩,  -- REC
  ⟨0xA083, 0xA083, 1, false, .ro, 0, 64, [], 0, .device⟩,  -- FIFO_LEVEL
  ⟨0xA084, 0xA084, 4, false, .ro, 0, 4294967295, [], 0, .device⟩,  -- FIFO_LOST
  ⟨0xA085, 0xA085, 4, false, .ro, 0, 4294967295, [], 0, .device⟩,  -- PB_OVERWRITES
  ⟨0xA086, 0xA086, 1, false, .ro, 0, 127, [], 0, .device⟩,  -- LOOP_DELAY
  ⟨0xA087, 0xA087, 4, false, .ro, 0, 4294967295, [], 0, .device⟩,  -- BUS_OFF_COUNT
  ⟨0xA088, 0xA088, 4, false, .ro, 0, 4294967295, [], 0, .device⟩,  -- STALE_COUNT
  ⟨0xA089, 0xA089, 1, false, .ro, 0, 6, [], 0, .device⟩,  -- LAST_ERROR
  ⟨0xA08A, 0xA08A, 1, false, .ro, 0, 7, [], 255, .device⟩,  -- DETECTED_IDX
  ⟨0xA08B, 0xA08B, 1, false, .w1c, 0, 255, [], 0, .device⟩   -- CAN_FLAGS
  ]

/-- Parameters of the table of R424. -/
def tableR424 : List PDesc := [
  ⟨0xB000, 0xB000, 2, false, .srw, 1, 65534, [], 0, .device⟩,  -- ST_OWN_ID
  ⟨0xB001, 0xB001, 4, false, .srw, 1, 4294967295, [], 0, .device⟩,  -- NET_KEY
  ⟨0xB002, 0xB002, 1, false, .srw, 0, 1, [], 0, .device⟩,  -- ST_SINGLE_NET
  ⟨0xB003, 0xB003, 2, false, .srw, 20, 200, [], 30, .device⟩,  -- ST_TIMEOUT
  ⟨0xB004, 0xB004, 2, false, .srw, 1, 50, [], 0, .device⟩,  -- ST_DELAY_MAX
  ⟨0xB005, 0xB005, 2, false, .srw, 1, 65534, [], 0, .device⟩,  -- ST_ZS_SRC
  ⟨0xB006, 0xB006, 2, false, .srw, 1, 65534, [], 0, .device⟩,  -- ST_REL_SRC
  ⟨0xB010, 0xB010, 4, false, .srw, 0, 1073741823, [], 4294967295, .device⟩,  -- ST_TX_ID_DCL
  ⟨0xB011, 0xB011, 4, false, .srw, 0, 1073741823, [], 4294967295, .device⟩,  -- ST_TX_ID_STATE
  ⟨0xB012, 0xB012, 4, false, .srw, 0, 1073741823, [], 4294967295, .device⟩,  -- ST_RX_ID_ZS
  ⟨0xB013, 0xB013, 4, false, .srw, 0, 1073741823, [], 4294967295, .device⟩,  -- ST_RX_ID_REL
  ⟨0xB014, 0xB014, 1, false, .srw, 0, 7, [], 255, .device⟩,  -- ST_RX_BUF_ZS
  ⟨0xB015, 0xB015, 1, false, .srw, 0, 7, [], 255, .device⟩,  -- ST_RX_BUF_REL
  ⟨0xB016, 0xB016, 1, false, .srw, 0, 7, [], 255, .device⟩,  -- ST_RX_BUF_OWN
  ⟨0xB017, 0xB017, 1, false, .srw, 0, 1, [], 0, .device⟩,  -- ST_BRS
  ⟨0xB080, 0xB080, 2, false, .ro, 0, 65535, [], 0, .device⟩,  -- ST_STATUS
  ⟨0xB081, 0xB081, 2, false, .ro, 0, 65535, [], 0, .device⟩,  -- ST_CONTENT
  ⟨0xB082, 0xB082, 2, false, .ro, 0, 65535, [], 0, .device⟩,  -- ST_TX_SEQ_DCL
  ⟨0xB083, 0xB083, 2, false, .ro, 0, 65535, [], 0, .device⟩,  -- ST_TX_SEQ_STATE
  ⟨0xB084, 0xB084, 2, false, .ro, 0, 65535, [], 0, .device⟩,  -- ST_RX_SEQ_ZS
  ⟨0xB085, 0xB085, 2, false, .ro, 0, 65535, [], 0, .device⟩,  -- ST_RX_SEQ_REL
  ⟨0xB086, 0xB086, 4, false, .ro, 0, 4294967295, [], 0, .device⟩,  -- ST_MISMATCH
  ⟨0xB087, 0xB087, 4, false, .ro, 0, 4294967295, [], 0, .device⟩,  -- ST_BAD_COPIES
  ⟨0xB088, 0xB088, 4, false, .ro, 0, 4294967295, [], 0, .device⟩,  -- ST_SINGLE_ACCEPTS
  ⟨0xB089, 0xB089, 4, false, .ro, 0, 4294967295, [], 0, .device⟩,  -- ST_SINGLE_DROPS
  ⟨0xB08A, 0xB08A, 4, false, .ro, 0, 4294967295, [], 0, .device⟩,  -- ST_REJECTED
  ⟨0xB08B, 0xB08B, 4, false, .ro, 0, 4294967295, [], 0, .device⟩,  -- ST_SEQ_GAPS
  ⟨0xB08C, 0xB08C, 4, false, .ro, 0, 4294967295, [], 0, .device⟩   -- ST_TIMEOUTS
  ]

/-- Parameters of the table of R460. -/
def tableR460 : List PDesc := [
  ⟨0xD000, 0xD000, 1, false, .srw, 0, 1, [], 0, .device⟩,  -- WDG_REQUIRED
  ⟨0xD001, 0xD001, 4, false, .rw, 0, 1073741823, [], 4294967295, .device⟩,  -- MQ_CAN_ID_CMD
  ⟨0xD002, 0xD002, 4, false, .rw, 0, 1073741823, [], 4294967295, .device⟩,  -- MQ_CAN_ID_RPL
  ⟨0xD003, 0xD003, 1, false, .rw, 0, 1, [], 0, .device⟩,  -- MQ_CAN_BRS
  ⟨0xD080, 0xD080, 2, false, .ro, 0, 65535, [], 0, .device⟩,  -- WDG_STATUS
  ⟨0xD081, 0xD081, 2, false, .ro, 0, 65535, [], 0, .device⟩,  -- WDG_WINDOW
  ⟨0xD082, 0xD082, 2, false, .ro, 0, 65535, [], 0, .device⟩,  -- WDG_REMAINING
  ⟨0xD083, 0xD083, 2, false, .ro, 0, 65535, [], 0, .device⟩,  -- SESSION_SPI
  ⟨0xD084, 0xD084, 2, false, .ro, 0, 65535, [], 0, .device⟩   -- SESSION_CAN3
  ]

/-- Parameters of the table of R484. -/
def tableR484 : List PDesc := [
  ⟨0xC000, 0xC000, 4, false, .rwAll, 0, 4294967295, [], 0, .device⟩,  -- REC_SRC_ENABLE_LO
  ⟨0xC001, 0xC001, 4, false, .rwAll, 0, 4294967295, [], 0, .device⟩,  -- REC_SRC_ENABLE_HI
  ⟨0xC080, 0xC080, 1, false, .ro, 0, 255, [], 0, .device⟩,  -- REC_STATUS
  ⟨0xC081, 0xC081, 1, false, .ro, 0, 128, [], 0, .device⟩,  -- REC_QUEUE_LEVEL
  ⟨0xC082, 0xC085, 4, false, .ro, 0, 4294967295, [], 0, .device⟩,  -- REC_COUNT
  ⟨0xC086, 0xC086, 4, false, .ro, 0, 4294967295, [], 0, .device⟩,  -- REC_WRITTEN
  ⟨0xC087, 0xC087, 4, false, .ro, 0, 4294967295, [], 0, .device⟩,  -- REC_LOST
  ⟨0xC088, 0xC088, 4, false, .ro, 0, 4294967295, [], 0, .device⟩,  -- REC_TORN
  ⟨0xC089, 0xC089, 4, false, .ro, 0, 4294967295, [], 0, .device⟩,  -- OP_SECONDS
  ⟨0xC08A, 0xC08A, 4, false, .ro, 0, 4294967295, [], 0, .device⟩,  -- POWER_CYCLES
  ⟨0xC08B, 0xC08B, 2, false, .ro, 0, 65535, [], 0, .device⟩,  -- NEXT_SEQ
  ⟨0xC090, 0xC090, 4, false, .ro, 0, 4294967295, [], 0, .portal⟩,  -- CYCLE_COUNT
  ⟨0xC091, 0xC091, 4, false, .ro, 0, 4294967295, [], 0, .portal⟩,  -- OBST_TOTAL
  ⟨0xC092, 0xC092, 4, false, .ro, 0, 4294967295, [], 0, .portal⟩   -- FENCE_TOTAL
  ]

/-- Parameters of the table of R501. -/
def tableR501 : List PDesc := [
  ⟨0xE040, 0xE040, 1, false, .ro, 0, 255, [], 0, .device⟩,  -- BOOT_STATUS
  ⟨0xE041, 0xE041, 2, false, .ro, 0, 65535, [], 0, .device⟩,  -- SELFTEST_FAIL
  ⟨0xE042, 0xE042, 4, false, .ro, 0, 4294967295, [], 0, .device⟩,  -- FW_VERSION_RUN
  ⟨0xE043, 0xE043, 4, false, .ro, 0, 4294967295, [], 0, .device⟩,  -- ROLLBACK_FLOOR
  ⟨0xE044, 0xE044, 1, false, .ro, 0, 255, [], 0, .device⟩   -- PFAIL_STATUS
  ]

/-- Parameters of the table of R518. -/
def tableR518 : List PDesc := [
  ⟨0xE050, 0xE050, 2, true, .ro, -32768, 32767, [], 0, .die⟩,  -- DIE_TEMP
  ⟨0xE051, 0xE051, 2, true, .ro, -32768, 32767, [], 0, .die⟩   -- DIE_TEMP_PEAK
  ]

/-- The rows of one CAN controller, whose PIDs lie 0x100 apart (R402). -/
def shift (k : Nat) (t : List PDesc) : List PDesc :=
  t.map fun d => { d with first := d.first + k, last := d.last + k }

/-- The tables of one subsystem (R30). -/
def ofSubsys : Nat → List PDesc
  | 0x0 => tableR21
  | 0x1 => tableR97 ++ tableR97a
  | 0x2 => tableR132 ++ tableR132a
  | 0x3 => tableR165
  | 0x4 => tableR192 ++ tableR192a
  | 0x5 => tableR223 ++ tableR223a
  | 0x6 => tableR251 ++ tableR251a
  | 0x7 => tableR286
  | 0x8 => tableR320
  | 0x9 => tableR372
  | 0xA => (shift 0x0 tableR402 ++ shift 0x0 tableR402a)
    ++ (shift 0x100 tableR402 ++ shift 0x100 tableR402a)
    ++ (shift 0x200 tableR402 ++ shift 0x200 tableR402a)
    ++ (shift 0x300 tableR402 ++ shift 0x300 tableR402a)
  | 0xB => tableR424
  | 0xC => tableR484
  | 0xD => tableR460
  | 0xE => tableR58 ++ tableR501 ++ tableR518
  | _ => []

/-- The row that tabulates a PID, if any (R30). -/
def find (pid : Nat) : Option PDesc := (ofSubsys (pid / 0x1000)).find? fun d => decide (d.first ≤ pid ∧ pid ≤ d.last)

end ParamTable

end Sys2Proof.Machine
end

