-- ==== Sys2Proof/Config.lean ====
section
/-! DEFINITION. What an implementation fixes, and the free values. Every constant here is opaque: no proof can see its value. -/

namespace Sys2Proof.Config

/-- What follows the 14th decimal of π, in units of that decimal (log 5). -/
opaque piTail : Rat

/-- What follows the last digit computed of a square root, in units of 2^-32 (log 5). -/
opaque sqrtTail : Rat → Rat

/-- What follows the last digit computed of a cosine, in units of 2^-40 (log 5). -/
opaque cosTail : BitVec 16 → Rat

/-- Whether a datapath rounds a real quantity up where the manual states no rounding; otherwise down (log 5). -/
opaque roundUp : Rat → Bool

/-- UNIT_SERIAL, set at manufacture (R372): every device has its own (log 6). -/
opaque unitSerial : BitVec 32

/-- Whether an image's ECDSA P-256 signature verifies under the Heanaix key in the ROM (R490, R491): the key is not in the manual (log 7). -/
opaque signatureOk : List (BitVec 8) → Bool

/-- Which stored friction-map copy a block of the recorder memory belongs to: 4·portal + 2·leaf + copy. The manual gives no layout of that
region (log 13). -/
opaque mapBlock : Nat → Nat

/-- What a block of region 9 of the recorder memory holds: 0–63 a counter slot, 64 and 65 a copy of the boot record, 66 the saved snapshot,
anything else nothing of these. The manual gives no layout of that region (log 13). -/
opaque otherBlock : Nat → Nat

/-- FW_VERSION of the image that was in a bank at delivery (log 14). -/
opaque fwVersion : Nat

/-- The bytes of a bank as delivered, header and image (log 14). -/
opaque imageByte : Nat → BitVec 8

/-- SEC_COUNTER of the image that was in a bank at delivery (log 14). -/
opaque fwSecCounter : Nat

/-- A value the manual leaves open, drawn fresh from the model's own counter (log 8). -/
opaque freeNat : Nat → Nat

/-- A rational value the manual leaves open, drawn fresh from the model's own counter (log 8). -/
opaque freeRat : Nat → Rat

end Sys2Proof.Config
end

