-- ==== Sys2Proof/Machine/Reals.lean ====
section
/-! DEFINITION. Real-valued arithmetic of the datapaths: every value that the manual's formula fixes is fixed here, and what no rule states, the
direction of an unstated rounding and the digits behind the last one computed, comes from Config (log 5). -/

namespace Sys2Proof.Machine

/-- A real quantity brought to an integer where the manual states no rounding: an integer stays as it is, any other value goes to one of its two
neighbours (log 5). -/
def quant (q : Rat) : Int := if q.den = 1 then q.num else if Config.roundUp q then q.ceil else q.floor

/-- A speed of the step's profile generator at its resolution of 2^-16 full steps/s (R201); a multiple of that stays as it is. -/
def stepQuant (v : Rat) : Rat := quant (v * 65536) / 65536

/-- π to 14 decimals, and a free tail behind them (R156, R237; log 5). -/
def piR : Rat := (314159265358979 + clampR 0 1 Config.piTail) / 10 ^ 14

/-- The square root: exact where it is a multiple of 2^-32, else within that distance above, with a free tail (R117, R156, R207; log 5). -/
def sqrtR (q : Rat) : Rat :=
  let n := (q * 2 ^ 64).floor.toNat
  let r := n.sqrt
  if ((r * r : Nat) : Rat) = q * 2 ^ 64 then (r : Rat) / 2 ^ 32 else (r + clampR 0 1 (Config.sqrtTail q)) / 2 ^ 32

/-- The terms of the cosine series after the one given, in units of 2^-40: `t` is x^(2k)/(2k)!, `xx` is x². -/
def cosTerms : Nat → Nat → Int → Int → Int
  | 0, _, _, _ => 0
  | n + 1, k, t, xx =>
    let t' := t * xx / 2 ^ 40 / (((2 * k + 1) * (2 * k + 2) : Nat) : Int)
    0 - t' - cosTerms n (k + 1) t' xx

/-- cos of an angle of at most a quarter revolution, given in 1/65,536 revolution, in units of 2^-40; 6,908,435,304,715 is 2π·2^40, so that the
sum is within 2^-34 of the cosine. -/
def cosQuarter (a : Nat) : Int :=
  let x : Int := a * 6908435304715 / 65536
  2 ^ 40 + cosTerms 10 0 (2 ^ 40) (x * x / 2 ^ 40)

/-- The cosine of an electrical angle in 1/65,536 revolution (R117, R206): exact at the quarters of a revolution, else within 2^-34 of its value,
with a free tail (log 5). -/
def cosR (a : BitVec 16) : Rat :=
  let n := a.toNat
  let half := if n ≤ 32768 then n else 65536 - n
  let sg : Int := if half ≤ 16384 then 1 else -1
  let q := if half ≤ 16384 then half else 32768 - half
  if q = 0 then sg else if q = 16384 then 0
  else (sg * cosQuarter q + clampR (-64) 64 (Config.cosTail a)) / 2 ^ 40

/-- The sine of an electrical angle in 1/65,536 revolution (R117, R206). -/
def sinR (a : BitVec 16) : Rat := cosR (a - 0x4000#16)

/-- What a sinc filter's output stands for (R112, R196): (2·y / D^n − 1) × full scale, for a filter of order n with decimation D. -/
def sincValue (y d n : Nat) (fs : Rat) : Rat := (2 * (y : Rat) / (d : Rat) ^ n - 1) * fs

end Sys2Proof.Machine
end

