-- ==== Sys2Proof/Machine/State.lean ====
section
/-! DEFINITION. The state of the block: everything the manual gives the device, as plain data, and the state after reset. -/

namespace Sys2Proof.Machine

/-- Reasons to stop with a fault. The manual gives every command of the table an effect, so there is none. -/
inductive Fault where
  deriving DecidableEq, Repr

/-- Reasons to refuse a command. -/
inductive Refusal where
  /-- Raised by an arm of `exec` whose command has no meaning yet; safe, the machine stops. -/
  | notModelled (mnemonic : String)
  deriving DecidableEq, Repr

/-- The eight device modes (R32). -/
inductive Mode where
  | init | test | configure | standby | service | degraded | safe | maintain
  deriving DecidableEq, Repr

/-- The fourteen portal states, codes 0–13 (R64). -/
inductive PState where
  | absent | isolated | locked | stepDeploy | unlocking | opening | open | closing | reopening | locking
  | stepStow | emergency | fenced | jog
  deriving DecidableEq, Repr

/-- The eight leaf drive states, codes 0–7 (R104). -/
inductive Drive where
  | off | starting | aligning | position | creep | force | brake | tripped
  deriving DecidableEq, Repr

/-- The six step drive states, codes 0–5 (R198). -/
inductive StepDrive where
  | off | shorted | holding | moving | homing | tripped
  deriving DecidableEq, Repr

/-- The slot modes, codes 0–4 (R143). -/
inductive SlotMode where
  | disabled | hold | manual | closed | tune
  deriving DecidableEq, Repr

/-- The six states of a CAN controller, codes 0–5 (R376). -/
inductive CanState where
  | off | detecting | listen | normal | busOff | sleep
  deriving DecidableEq, Repr

/-- The scope of replication of a core pair, codes 0–4 (R329, R340). -/
inductive Scope where
  | coreOnly | coreCaches | split | restarting | held
  deriving DecidableEq, Repr

/-- An event entry (R53): 16 bytes when it reaches the host. -/
structure Event where
  ts    : Ts
  src   : Nat
  late  : Bool
  code  : Nat
  unit  : Nat
  param : Nat
  deriving DecidableEq, Repr

/-- Whom a reply goes to: the port, its session (R448), and what the reply's header repeats (R435). -/
structure Handle where
  port    : PortId
  session : Nat
  tag     : BitVec 7
  op      : Nat
  unit    : UnitAddr
  deriving DecidableEq, Repr

/-- Where the final reply of an open or a close command goes: a host command, a member's part of a group command (R25), or none
for a local open request (R86). -/
inductive CmdRef where
  | host (h : Handle)
  | group (id : Nat)
  | silent
  deriving DecidableEq, Repr

/-- A reply in a port's buffer (R435). -/
structure Reply where
  version : Nat
  tag     : BitVec 7
  op      : Nat
  unit    : UnitAddr
  status  : Nat
  params  : List Byte
  /-- a final reply that follows ACCEPTED: it uses the reserved part of the buffer (R440) -/
  owed    : Bool
  /-- its delivery frees the tag of its command (R437) -/
  frees   : Bool
  /-- QUEUE_FULL: it waits in the separate list of R439 -/
  full    : Bool
  deriving DecidableEq, Repr

/-- A command packet in a receive queue (R439), with the time-stamp at which it was completely received (R453). -/
structure Packet where
  version : Byte
  tag     : BitVec 7
  op      : Byte
  unit    : UnitAddr
  flags   : Byte
  params  : List Byte
  deriving DecidableEq, Repr

/-- A Mirqua port (R426–R440). -/
structure Port where
  /-- agreed version, 0 none (R447) -/
  version  : Nat
  /-- how many HELLOs with RESET the port has interpreted (R448) -/
  session  : Nat
  /-- tags in use, bit t for tag t (R437) -/
  tags     : BitVec 128
  /-- tags of commands that were answered ACCEPTED and owe their final reply (R438) -/
  owing    : BitVec 128
  /-- receive queue, oldest first, at most 16 (R439) -/
  rxq      : List Packet
  /-- the replies that wait, oldest first: those of the reply buffer (R440) and at most 16 of QUEUE_FULL (R439) -/
  replies  : List Reply
  /-- LAST_WRITE_BAD of SPI_STAT (R428) -/
  lastBad  : Bool
  /-- what the device shifted out on HOST_MISO in the last transaction (R428) -/
  miso     : List Byte
  /-- CAN3: the segments of the packet being reassembled: bytes, INDEX of the last, its time (R434) -/
  seg      : Option (List Byte × Nat × Ts)
  /-- CAN3: the segment of the head reply that is loaded in mailbox 12 (R433) -/
  txSeg    : Option Nat
  deriving DecidableEq, Repr

/-- The host watchdog (R452–R457). -/
structure Watchdog where
  /-- 0 stopped, 1 running, 2 expired -/
  state    : Nat
  window   : Nat
  key      : BitVec 16
  owner    : PortId
  /-- valid kicks since the start; the next key is K when the count is odd -/
  kicks    : Nat
  last     : Ts
  /-- since when the safe stop of R456 has held, its timers frozen -/
  stopSince : Option Ts
  deriving DecidableEq, Repr

/-- A member's part in a group operation: the portal, whether it has ended, its status, the parameters of its reply. -/
structure Member where
  portal  : PortalId
  ended   : Bool
  status  : Nat
  params  : List Byte
  deriving DecidableEq, Repr

/-- A command to a group in progress (R22–R25). -/
structure GroupOp where
  id       : Nat
  handle   : Handle
  excluded : BitVec 8
  members  : List Member
  deriving DecidableEq, Repr

/-- The portal commands that wait for the sequencer evaluation that takes them (R84). -/
inductive PCmd where
  | open (r : CmdRef)
  | close (r : CmdRef)
  | fenceClear (r : CmdRef)
  | emergencyReset (r : CmdRef)
  | jogStop (r : CmdRef)
  | fence (r : CmdRef)
  | jogUnit (h : Handle) (k : Fin 3) (speed : Int)
  | jogLock (h : Handle) (speed : Int)
  deriving DecidableEq, Repr

/-- The PWM unit of a leaf (R100, R104, R108): GD_EN asked for, the short brake, the compare values of the phases U, V and W in force and
those of the period before, a set that waits with the counter 0 that loads it, and an instant at which the counter was 0. -/
structure Pwm where
  enable : Bool
  brake  : Bool
  cmp    : Vector Nat 3
  prev   : Vector Nat 3
  next   : Option (Vector Nat 3 × Ts)
  zero   : Ts
  deriving DecidableEq, Repr

/-- A relay tune in progress (R154–R157). -/
structure Tune where
  h        : Int
  eps      : Int
  bias     : Int
  periods  : Nat
  rule     : Nat
  timeout  : Nat
  start    : Ts
  /-- the relay output is +h; none before the first tick -/
  relay    : Option Bool
  lastSwitch : Ts
  /-- times of the crossings from −h to +h, oldest first -/
  crossings : List Ts
  /-- peak-to-peak excursions of e of the complete periods, oldest first -/
  swings   : List Int
  eMin     : Int
  eMax     : Int
  reply    : Option Handle
  deriving DecidableEq, Repr

/-- A control-engine slot (R133–R165). The coefficients and limits are parameters. -/
structure Slot where
  mode     : SlotMode
  /-- the slot ticks (R144) -/
  running  : Bool
  outSat   : Bool
  intSat   : Bool
  residueErr : Bool
  satSeen  : Bool
  /-- e[n−1], e[n−2], e[n−3], newest first (R137) -/
  eHist    : List Int
  /-- w[n−1], w[n−2], w[n−3], newest first (R137) -/
  wHist    : List Int
  /-- error and shaping output of the last tick -/
  e        : Int
  w        : Int
  /-- integrator, Q30 -/
  i        : Int
  /-- transfer offset, Q30 -/
  o        : Int
  /-- output last released, Q15 -/
  u        : Int
  /-- the next AUTO tick applies the preset of R148 -/
  preset   : Bool
  /-- mode before the last entry to AUTO, for event 0x0310 -/
  prevMode : SlotMode
  /-- u_app of the limits downstream at the last tick, when a limit acted (R138) -/
  uApp     : Option Int
  manual   : Int
  /-- fractions of a ramp step not yet taken, as a rational position of the ramp (R143, R148) -/
  ramp     : Rat
  /-- LOOP_CLOSE replies that wait for the transfer, and other replies that wait for the mode (R438) -/
  closing  : List Handle
  /-- checked passes since the last mismatch (R161) -/
  checked  : Nat
  /-- when the last residue mismatch was, and when the last tune ended (R163) -/
  errAt    : Option Ts
  endAt    : Option Ts
  tune     : Option Tune
  /-- results of the last completed tune (R156, R158) -/
  tuTu     : Nat
  tuAmp    : Nat
  tuKu     : Nat
  tuShift  : Nat
  tuB0     : Int
  tuKi     : Int
  tuKb     : Int
  tuFlags  : Nat
  deriving DecidableEq, Repr

/-- A stored copy of a friction map (R171): the OPEN_POS with which it was learned, the bins, the confidence counts. -/
structure MapCopy where
  openPos   : Int
  mOpen     : List Rat
  mClose    : List Rat
  confOpen  : List Nat
  confClose : List Nat
  deriving DecidableEq, Repr

/-- The leaf's obstacle detector and fence unit (R166–R193). -/
structure Detector where
  /-- friction of each bin towards open and towards closed, N (R170) -/
  mOpen     : List Rat
  mClose    : List Rat
  confOpen  : List Nat
  confClose : List Nat
  /-- sums and counts of the traversal in progress: bin, S_b, n_b (R173) -/
  sums      : List (Nat × Rat × Nat)
  updates   : Nat
  /-- MAP_UPDATES at the last save (R174) -/
  savedAt   : Nat
  /-- the two stored copies in the recorder memory: OPEN_POS and the map, none when the CRC is not correct (R171) -/
  copies    : Vector (Option MapCopy) 2
  /-- which copy is written next (R171) -/
  nextCopy  : Nat
  loaded    : Bool
  /-- OBST_STATUS (R193) -/
  status    : BitVec 16
  /-- the traversal in progress has stayed clean so far (R172) -/
  clean     : Bool
  confirm   : Nat
  /-- end of the start window (R176) -/
  windowEnd : Option Ts
  /-- dir at the last tick -/
  dir       : Int
  /-- THR_EFF held by the declaration clamp (R178) -/
  declClamp : Option Rat
  declared  : Bool
  /-- start of the energy-fence brake and the kinetic energy peak in it (R181) -/
  efSince   : Option Ts
  efPeak    : Nat
  fRes      : Int
  fOpp      : Int
  thrEff    : Int
  eKin      : Int
  ffCurrent : Int
  efSpeed   : Int
  peakFOpp  : Nat
  peakE     : Nat
  /-- passing runs of the fence self-test since a failure (R186) -/
  passes    : Nat
  /-- the force fence has acted in the motion in progress: its event has been raised (R193) -/
  ffSeenMotion : Bool
  deriving DecidableEq, Repr

/-- A leaf (R100–R132). -/
structure Leaf where
  drive    : Drive
  voltSat  : Bool
  aligned  : Bool
  /-- LD_FAULT (R127) -/
  fault    : BitVec 16
  /-- accepted low level of GD_FLT_N (R100, R116) -/
  gdFlt    : Bool
  iq       : Int
  id       : Int
  theta    : BitVec 16
  theta0   : BitVec 16
  c0       : BitVec 32
  /-- HALL_START: the encoder reference has been taken (R110) -/
  hallRef  : Bool
  sector   : Option Nat
  hallCode : BitVec 3
  lastEdge : Option Ts
  /-- electrical speed of the last edge interval, angle counts per second, signed (R111) -/
  edgeSpeed : Rat
  thetaEdge : Rat
  /-- times of the invalid codes of the last second (R111) -/
  invalid  : List Ts
  pwm      : Pwm
  /-- the energy-fence brake overrides the lines (R181) -/
  efOverride : Bool
  /-- since when the drive state has held -/
  driveSince : Ts
  /-- the modulating state wanted after STARTING and ALIGNING (R105) -/
  wanted   : Drive
  xRef     : Rat
  vCmd     : Rat
  target   : Int
  /-- a hold is in force: the position reference does not move (R124) -/
  holding  : Bool
  /-- the next start continues a motion across a takeover: v_cmd starts from v_obs (R366) -/
  carry    : Bool
  /-- the reversal of R126 is decelerating v_cmd -/
  reversing : Bool
  /-- profile parameters frozen at the last entry to a transition state (R126): PID and value -/
  latched  : List (Nat × Int)
  /-- drive parameters latched at the last entry to a modulating state (R131) -/
  latchedDrive : List (Nat × Int)
  vdSlot   : Int
  vqSlot   : Int
  vRef     : Rat
  iqRef    : Int
  /-- half-band of the chopper, mA (R121) -/
  chopH    : Rat
  chopFreq : Nat
  chopDrive : Bool
  chopSign : Int
  /-- start of the chopper's phase, sign of the diagonal driven last, drive phases of the millisecond and its start (R120, R121) -/
  chopAt   : Ts
  chopPrev : Int
  chopCount : Nat
  chopSince : Ts
  /-- rise of GD_EN, and its last fall (R116, R128) -/
  enableSince : Ts
  enableUntil : Option Ts
  /-- residue condition of the datapath and its check passes (R119) -/
  dpBad    : Bool
  checked  : Nat
  /-- x_obs at the start of ALIGNING (R127 bit 7) -/
  alignX   : Rat
  /-- direction disagreement since (R127 bit 8) -/
  dirBad   : Option Ts
  /-- the profile decelerates to a hold where it is (R82, R93, R456) -/
  stopping : Bool
  /-- since when a pneumatic leaf has been below PNEU_STALL_SPEED in its closing (R95) -/
  stallSince : Option Ts
  det      : Detector
  deriving DecidableEq, Repr

/-- What a coil of the strong-mode chopper does (R208). -/
inductive CoilPhase where
  | drive | decay | cross
  deriving DecidableEq, Repr

/-- A coil of the step in strong mode: its phase, since when, and the sign of the diagonal that is or was driven (R208). -/
structure Coil where
  phase : CoilPhase
  since : Ts
  sgn   : Int
  deriving DecidableEq, Repr

/-- The step drive (R194–R225). -/
structure Step where
  drive    : StepDrive
  /-- STEP_FAULT (R219) -/
  fault    : BitVec 16
  /-- accepted low level of PpS_FLT_N (R194, R199) -/
  fltIn    : Bool
  /-- the modulator clock of the step passes its check (R196, R219) -/
  clockOk  : Bool
  /-- fine count φ, 1/256 full step (R200) -/
  phi      : BitVec 32
  phi0     : BitVec 32
  phiT     : BitVec 32
  /-- signed speed, full steps/s (R201) -/
  v        : Rat
  /-- phase accumulator A and velocity word W (R203), and the time up to which the generator has run -/
  acc      : Nat
  w        : Nat
  genAt    : Ts
  /-- resolution in force: 256, 64, 16, 4 or 1 microsteps per full step (R204) -/
  r        : Nat
  pendingR : Option Nat
  /-- POSITION_UNCERTAIN (R213) -/
  uncertain : Bool
  /-- event 0x0331 of the power-up has been raised (R213, R225; log 18) -/
  powerTold : Bool
  /-- strong mode is in force, the mode that |v| asks for, and the start of the quiet-mode PWM periods (R209) -/
  strong   : Bool
  strongWant : Bool
  pwmAt    : Ts
  /-- the two coils' choppers (R208) -/
  coilA    : Coil
  coilB    : Coil
  homed    : Bool
  /-- direction of the last microstep, 1 towards deployed -/
  dir      : Bool
  lastMicro : Option Ts
  homeInput : Bool
  /-- quiet-mode gain g (R207) -/
  g        : Rat
  /-- homing phase: 0 none, 1 off the home input, 2 towards it (R215) -/
  phase    : Nat
  phaseStart : BitVec 32
  homeStart : Option Ts
  /-- since when the home input has been inactive in phase 1 (R215) -/
  homeClear : Option Ts
  /-- F2 offset Δ of the last homing, 0.01 mm (R212) -/
  delta    : Option Rat
  homeCorr : Int
  /-- waiting since for F2 to confirm, with the reason of event 0x0331 (R213) -/
  confirm  : Option (Ts × Nat)
  /-- deviation of R214 since -/
  devSince : Option Ts
  /-- sequencer's job: 0 none, 1 deploy, 2 stow, 3 jog -/
  job      : Nat
  jogSpeed : Int
  /-- the coil currents last decoded, mA (R196, R218) -/
  ia       : Int
  ib       : Int
  /-- I_meas of the last millisecond (R207) -/
  iMeas    : Rat
  /-- rise of PpS_EN (R199) -/
  enSince  : Ts
  /-- parameters latched at the last start from v = 0 (R223) -/
  latched  : List (Nat × Int)
  deriving DecidableEq, Repr

/-- A feedback interface (R226–R253). -/
structure Feedback where
  /-- raw count c (R227) -/
  c        : BitVec 32
  c0       : BitVec 32
  referenced : Bool
  /-- a reference has been taken since power-up (R253) -/
  everRef  : Bool
  still    : Bool
  /-- when STILL was set -/
  stillAt  : Ts
  seeding  : Bool
  settleEnd : Option Ts
  armed    : Bool
  /-- when ARMED was last set: the index of the same sample takes no reference (R248) -/
  armedAt  : Ts
  dir      : Bool
  /-- FB_FAULT (R241) -/
  fault    : BitVec 16
  /-- observer, in counts (R237) -/
  xHat     : Rat
  vHat     : Rat
  aHat     : Rat
  /-- ILLEGAL_COUNT (R228) -/
  illegal  : Nat
  /-- LC_MISMATCH and LAST_SPAN (R236) -/
  lcMismatch : Nat
  lastSpan : Int
  /-- count at the last accepted index and the directions seen since: up, down (R236) -/
  indexAt  : Option (BitVec 32)
  spanUp   : Bool
  spanDown : Bool
  /-- the last checked span mismatched (R236) -/
  lastBad  : Bool
  /-- legal count changes since FB_TYPE was written, and the numbers of the last illegal transitions, newest first (R228) -/
  legal    : Nat
  illegalAt : List Nat
  /-- last valid SSI value, consecutive bad frames, value at the last count change (R230, R231, R238) -/
  ssiPrev  : Option Nat
  ssiBad   : Nat
  /-- the last frame was bad: the next observer tick runs with zero error (R231) -/
  zeroErr  : Bool
  ssiChange : Nat
  /-- time, direction and count at the last count change (R238, R239) -/
  lastChange : Option Ts
  lastDir  : Int
  lastCount : BitVec 32
  /-- accepted levels -/
  a        : Bool
  b        : Bool
  z        : Bool
  /-- when the last fault cleared (R90) -/
  clearedAt : Ts
  /-- since when the clearing condition of each fault has held (R241) -/
  okSince  : Vector (Option Ts) 6
  /-- STILL and the closed contact active together since (R233) -/
  contactSince : Option Ts
  /-- when the accepted level of Z last changed (R235) -/
  zAt      : Option Ts
  /-- when the last illegal transition came (R228, R235) -/
  badAt    : Option Ts
  /-- SEEDING and the observer as they stood when T_STILL expired: a count change of that instant undoes it (R248) -/
  wake     : Option (Bool × Rat × Rat × Rat)
  /-- the last closed-contact reference: when, c0 before, and whether there had been a reference: an index of that instant takes its place (R248) -/
  contactRef : Option (Ts × BitVec 32 × Bool)
  deriving DecidableEq, Repr

/-- The position echo of a portal (R242, R243). -/
structure Echo where
  acc     : Int
  backlog : Int
  /-- A/B state, 0–3 in the order of positive steps -/
  ab      : Nat
  overrun : Bool
  lastEdge : Option Ts
  deriving DecidableEq, Repr

/-- What a channel keeps when a new fail-safe cause begins at the clock at which the last one ended (R282). -/
structure ChanPast where
  demand     : Bool
  modeIn     : Nat
  latched    : List (Nat × Int)
  allowed    : Bool
  on         : Bool
  condAcc    : Nat
  condSince  : Option (Ts × Option Nat)
  dutyEff    : Nat
  pwmDuty    : Option Nat
  blankSince : Option Ts
  limiting   : Bool
  pullSince  : Option Ts
  retrySince : Option Ts
  switchings : Nat
  fsSince    : Option Ts
  holdDemand : Bool
  holdDuty   : Nat
  deriving DecidableEq, Repr

/-- A load channel (R254–R288). -/
structure Channel where
  hostDemand : Bool
  /-- sequencer's switching of a role channel (R63) -/
  seqDemand  : Bool
  /-- duty of a slot that owns it, 0.1 % (R134) -/
  slotDuty   : Option Nat
  /-- mode in force since the rise of the demand, and the parameters taken then (R257, R286) -/
  modeIn     : Nat
  latched    : List (Nat × Int)
  /-- demand after any fail-safe state, at the last decision of the state machine -/
  demand     : Bool
  /-- not held off by rows 1 to 3 of R264 at the last decision, with the demand on -/
  allowed    : Bool
  /-- the switch conducts -/
  on         : Bool
  /-- conduction since the last shutdown: accumulated counts, and the interval that runs with its on-time (R271) -/
  condAcc    : Nat
  condSince  : Option (Ts × Option Nat)
  /-- end of a CH_PULSE and the reply it owes (R262) -/
  pulseEnd   : Option Ts
  pulseReply : Option Handle
  dutyEff    : Nat
  ocLatch    : Bool
  thermLatch : Bool
  retrySince : Option Ts
  retries    : Nat
  blankSince : Option Ts
  limiting   : Bool
  pullSince  : Option Ts
  tempWarn   : Bool
  temp       : Int
  shutdownSeen : Bool
  iAvg       : Nat
  iOn        : Nat
  shutdowns  : Nat
  switchings : Nat
  /-- fail-safe register: 0 OFF, 1 ON, 2 HOLD (R265, R266) -/
  fsReg      : Nat
  /-- since when a fail-safe cause has applied, and the demand and duty that HOLD keeps (R265) -/
  fsSince    : Option Ts
  holdDemand : Bool
  holdDuty   : Nat
  /-- duty taken at the last PWM period start of the present conduction (R258, R265) -/
  pwmDuty    : Option Nat
  /-- when the switch last went off, and the blanking window it had: a shutdown of that clock still counts (R282) -/
  offAt      : Option (Ts × Option Ts)
  /-- when a retry last began, and RETRY_COUNT before it (R282) -/
  retryAt    : Option (Ts × Nat)
  /-- the last shutdown: when, its peak current, and whether it was a fast off (R282) -/
  shutAt     : Option (Ts × Nat × Bool)
  /-- when the last fail-safe cause ended, and the channel before it (R282) -/
  past       : Option (Ts × ChanPast)
  deriving DecidableEq, Repr

/-- The record of a door cycle in progress (R467, R468); times in 10 ns counts. -/
structure Cycle where
  start     : Ts
  /-- from the start to the first entry to OPEN, once it was reached -/
  openTime  : Option Nat
  closingTs : Option Ts
  /-- from the last entry to CLOSING to the entry to LOCKING -/
  closeTime : Nat
  lockingTs : Option Ts
  obst      : Nat
  homeCorr  : Int
  /-- FLAGS of R468 -/
  flags     : BitVec 8
  deriving DecidableEq, Repr

/-- A jog of a moving unit (R93): 0 leaf 0, 1 leaf 1, 2 step. -/
structure Jog where
  kind  : Fin 3
  speed : Int
  renew : Ts
  /-- the jog has ended and the unit decelerates to STILL -/
  ending : Bool
  deriving DecidableEq, Repr

/-- A portal (R60–R99) with its parts. -/
structure Portal where
  state      : PState
  /-- FENCE_CAUSE (R90) -/
  fenceCause : Nat
  /-- causes that have arisen since the fence, bit c for cause c (R91) -/
  causes     : BitVec 32
  /-- the first cause kept while the portal could not enter FENCED (R87, R88, R362) -/
  pendingCause : Nat
  /-- causes found since the last evaluation, which applies them: cause, unit, parameter (R66, R92) -/
  found      : List (Nat × Nat × Nat)
  /-- RECLOSE_COUNT (R81) -/
  recloses   : Nat
  closePending : Bool
  partialOpen : Bool
  closeFailed : Bool
  /-- CHECK_FAILED, and the PID that failed first at the last run (R62) -/
  checkFailed : Bool
  checkPid   : Nat
  /-- entry to the present state, and the start of its timeout (R77) -/
  since      : Ts
  timer      : Option Ts
  /-- close warning, reclose dwell and opening obstacle pause running since (R79, R81, R82) -/
  warn       : Option Ts
  dwell      : Option Ts
  pause      : Option Ts
  /-- obstacles of the opening in progress (R82) -/
  openObst   : Nat
  /-- the OPENING decelerates to OPEN with PARTIAL_OPEN (R76, R82) -/
  stopPartial : Bool
  /-- RECLOSE_COUNT when the closing in progress began (R81) -/
  closeStart : Nat
  /-- reopen target of each leaf, 0.01 mm (R80) -/
  reopen     : Vector Int 2
  /-- the reopening aims at OPEN_POS by an open request (R84) -/
  reopenFull : Bool
  /-- open and close commands in force and whom their final replies go to (R85) -/
  openForce  : Bool
  openRefs   : List CmdRef
  closeForce : Bool
  closeRefs  : List CmdRef
  /-- commands accepted and not yet taken by an evaluation, oldest first (R84, R92) -/
  queue      : List PCmd
  /-- since when the LOCKED condition has held (R68) -/
  lockedSince : Option Ts
  jog        : Option Jog
  jogFromOpen : Bool
  lockJog    : Option (Int × Ts)
  /-- JOG_STOP replies owed once JOG is left (R83) -/
  jogStop    : List CmdRef
  /-- PORTAL_FENCE replies owed once FENCED is entered (R83) -/
  fenceWaits : List CmdRef
  /-- what the first evaluation does: 0 nothing, 1 the resting evaluation, 2 a warm and 3 a cold takeover (R68, R365) -/
  start      : Nat
  /-- release at the last evaluation (R78) -/
  relPrev    : Bool
  warnOn     : Bool
  /-- accepted levels of the twelve safety inputs, and whether levels have been adopted (R290) -/
  si         : Vector Bool 12
  siAdopted  : Bool
  /-- since when each pair (LK, EH, IS) has been inconsistent or consistent (R293) -/
  pairSince  : Vector Ts 3
  /-- SI_FAULT (R320) -/
  siFault    : BitVec 8
  /-- the condition of each plausibility check, and since when it holds or does not: CL0, CL1, STW (R294) -/
  plaus      : Vector (Bool × Ts) 3
  ehLatch    : Bool
  /-- EH pair ASSERTED in the last input frame (R297) -/
  ehPrev     : Bool
  /-- FENCED flag of the hardware terms (R297) -/
  fencedHw   : Bool
  /-- closed-window flag of the portal control die (R297) -/
  win        : Bool
  /-- firmware and hardware DCL terms, their times (R296–R298) -/
  fwTerm     : Bool
  hwTerm     : Bool
  hwSince    : Option Ts
  differSince : Option Ts
  agreeSince : Option Ts
  leaves     : Vector Leaf 2
  step       : Step
  fbs        : Vector Feedback 3
  chans      : Vector Channel 8
  echo       : Echo
  /-- accepted levels of AUXp[3:0] -/
  aux        : BitVec 4
  /-- bridge supply (R112–R114) -/
  vbus       : Rat
  /-- since when the bus has been below VBUS_MIN, since when some leaf has modulated, and when the last one stopped (R114, R128) -/
  vbusLow    : Option Ts
  modSince   : Option Ts
  modUntil   : Option Ts
  /-- the modulator clock of the leaves passes its check (R114, R127) -/
  sdClockOk  : Bool
  /-- load supply (R279, R286) -/
  vls        : Int
  vlsStatus  : BitVec 8
  /-- fail-safe causes of the portal's channels in force (R265) -/
  fsHeartbeat : Bool
  fsFenced   : Bool
  /-- both valves of a leaf held off by the energy fence (R183) -/
  valveOff   : Vector Bool 2
  cycle      : Option Cycle
  /-- CYCLE_COUNT, OBST_TOTAL, FENCE_TOTAL (R469) -/
  cycleCount : Nat
  obstTotal  : Nat
  fenceTotal : Nat
  deriving DecidableEq, Repr

/-- A PREPARE that a participant holds (R40). -/
structure Prepare where
  epoch  : BitVec 32
  target : Mode
  due    : Ts
  deriving DecidableEq, Repr

/-- A die: its copy of mode and epoch, its time-stamp check, its temperature, the events that it has raised (R39–R55, R518). -/
structure Die where
  epoch    : BitVec 32
  mode     : Mode
  /-- its own time-stamp counter, and the counts that its rate has still to gain or, negative, to lose (R50) -/
  ts       : Ts
  slew     : Int
  prepare  : Option Prepare
  /-- COMMIT received for the PREPARE held (R40) -/
  commit   : Bool
  /-- SAFE has been sent and not yet received (R44) -/
  safeDue  : Bool
  /-- answered an old epoch at the last heartbeat (R47) -/
  missed   : Bool
  /-- has declared the Hub die lost, and the last heartbeats (R46) -/
  hubLost  : Bool
  lastBeat : Ts
  backSince : Option Ts
  /-- TS_SYNC_FAULT bit, corrections beyond ±50 ns and within ±20 ns in a row, last correction, last offset (R51, R59) -/
  tsFault  : Bool
  tsBad    : Nat
  tsGood   : Nat
  lastCorr : Ts
  offset   : Int
  /-- DIE_TEMP and DIE_TEMP_PEAK (R518) -/
  temp     : Int
  peak     : Option Int
  /-- above the temperature of the over-temperature action (R518) -/
  hot      : Bool
  pllLost  : Bool
  /-- ECC corrections since the last event 35 and its time (R339) -/
  eccPend  : Nat
  eccLast  : Option Ts
  /-- events raised and not yet arrived at the Hub die, oldest first (R52, R55) -/
  raised   : List Event
  deriving DecidableEq, Repr

/-- An epoch commit in progress (R40–R43). -/
structure Commit where
  target   : Mode
  epoch    : BitVec 32
  due      : Ts
  /-- participants, and those that have acknowledged, bit d for die d -/
  parts    : BitVec 8
  acks     : BitVec 8
  /-- the decision at the acknowledgement deadline: COMMIT sent, ABORT sent, or none yet -/
  decided  : Option Bool
  repeated : Bool
  reply    : Option Handle
  /-- the commit comes from a won claim: whether the takeover is warm (R365) -/
  takeover : Option Bool
  deriving DecidableEq, Repr

/-- A portal control die's engine and checker (R133, R162). -/
structure Engine where
  slots    : Vector Slot 64
  testFail : Bool
  passes   : Nat
  /-- the last tick computed: its instant, its rate in kHz and its slot (R141) -/
  last     : Option (Ts × Nat × Nat)
  deriving DecidableEq, Repr

/-- A stored copy of the sealed parameter block (R306, R308): whether it was ever written, its records in the order of PID and unit with
defaults left out, its digest, switch word and commit count, and whether its digest verifies. -/
structure SealCopy where
  written : Bool
  records : List ((Nat × Nat) × Int)
  digest  : List Byte
  word    : BitVec 16
  commits : Nat
  intact  : Bool
  deriving DecidableEq, Repr

/-- A SEAL_COMMIT in progress: its reply, and the writes that it commits (R311). -/
structure SealCommit where
  handle : Handle
  writes : List ((Nat × Nat) × Int)
  deriving DecidableEq, Repr

/-- The seal reader (R305–R311). -/
structure Seal where
  /-- SEAL_LIVE; no read has been accepted yet (R305) -/
  live     : BitVec 16
  liveKnown : Bool
  /-- accepted reads in a row that did not match (R307) -/
  mismatches : Nat
  /-- the two copies of the sealed parameter block (R306) -/
  copies   : Vector SealCopy 2
  /-- sealed writes not yet committed (R10, R310) -/
  writes   : List ((Nat × Nat) × Int)
  /-- values in force: the copy loaded at the last entry to CONFIGURE, and its digest: the shadow (R184, R306, R309) -/
  loaded   : List ((Nat × Nat) × Int)
  shadow   : List Byte
  /-- digest of the records without SUBSYS 0x9 (R359) -/
  config   : List Byte
  /-- a load runs, and another one waits for its end (R493) -/
  loading  : Bool
  again    : Bool
  /-- the load of the present entry to CONFIGURE has ended, with a block that verified (R493) -/
  loadDone : Bool
  blockOk  : Bool
  /-- the fail-safe registers hold the committed values (R266) -/
  fsLoaded : Bool
  /-- seal mismatch of SAFETY_STATUS (R307) -/
  mismatch : Bool
  commit   : Option SealCommit
  deriving DecidableEq, Repr

/-- A command that waits for the restart of an Eclair: its handle, its parameters and the portals that it concerns, fixed at its acceptance (R23,
R28, R331). -/
structure HeldCmd where
  handle  : Handle
  params  : List Byte
  portals : List PortalId
  deriving DecidableEq, Repr

/-- A lockstep pair (R323–R341). -/
structure Pair where
  scope      : Scope
  /-- 0 none, 1 running, 2 passed, 3 failed -/
  diag       : Nat
  mismatches : Nat
  tests      : Nat
  testFails  : Nat
  eccCorr    : Nat
  eccUncorr  : Nat
  lastMismatch : Option Ts
  /-- a recovery window runs, with its agreeing exchanges so far (R330) -/
  recovering : Bool
  agreed     : Nat
  /-- LOCKSTEP_SPLIT accepted, the handover to come (R333) -/
  splitting  : Option Handle
  /-- a rejoin has released the copies and its first exchange is to come, with the reply owed (R334) -/
  rejoining  : Bool
  rejoinReply : Option Handle
  /-- halted by the debugger (R337) -/
  halted     : Bool
  /-- commands for the die that arrived during its restart, oldest first: reply, parameters (R331) -/
  held       : List HeldCmd
  deriving DecidableEq, Repr

/-- One claim wire as this device judges it (R352). -/
structure Wire where
  faulty  : Bool
  /-- frames out of the last 16 in which a released bit showed it open, newest first in bit 0 -/
  openBad : BitVec 16
  /-- frames in a row in which a driven bit read high on it -/
  drvBad  : Nat
  /-- frames in a row that showed it consistent -/
  good    : Nat
  deriving DecidableEq, Repr

/-- The claim arbiter (R345–R357, R371). -/
structure Claim where
  /-- CLAIM_OWN and CLAIM_WIN (R372) -/
  own      : BitVec 16
  win      : BitVec 16
  /-- the device took part in the frame in progress, won it, and saw ACK -/
  took     : Bool
  won      : Bool
  ack      : Bool
  /-- consecutive frames without ACK (R353) -/
  noAck    : Nat
  wireA    : Wire
  wireB    : Wire
  /-- frames in a row in which a driven bit read high on both wires (R352) -/
  bothBad  : Nat
  /-- frame ends since the device became isolated (R353, R355) -/
  isoFrames : Option Nat
  /-- CLAIM_WON, and since when it has been as it is (R353, R354) -/
  held     : Bool
  /-- it held the claim at the last frame end (R350, R353) -/
  heldEnd  : Bool
  since    : Ts
  /-- a yield in force since, with the reply that CLAIM_YIELD owes (R371) -/
  yield    : Option (Ts × Handle)
  /-- a claim result that waits for the commit in progress to end (R43) -/
  deferred : Bool
  deriving DecidableEq, Repr

/-- A frame in a transmit mailbox (R389–R393). -/
structure TxBox where
  frame    : CanFrame
  /-- its deadline (R391) -/
  deadline : Option Ts
  /-- the start-of-frame of an attempt has been sent, and the attempt has not ended -/
  inFlight : Bool
  /-- the last start-of-frame -/
  sof      : Option Ts
  noRetry  : Bool
  /-- whom CAN_TX owes its final reply; none for the device's own transmitters -/
  reply    : Option Handle
  deriving DecidableEq, Repr

/-- A received frame as CAN_RX returns it (R387). -/
structure RxEntry where
  ts      : Ts
  frame   : CanFrame
  overwritten : Bool
  fromShadow  : Bool
  wake    : Bool
  /-- priority filter, 0xFF for the FIFO -/
  filter  : Nat
  deriving DecidableEq, Repr

/-- A priority buffer (R386). -/
structure PrioBuf where
  front  : Option RxEntry
  shadow : Option RxEntry
  /-- a read has locked the buffer at this time-stamp, for this many counts -/
  lock   : Option (Ts × Nat)
  deriving DecidableEq, Repr

/-- A rate detection in progress (R381). -/
structure Detect where
  start  : Ts
  /-- candidate under trial and since when; none when no candidate can be tried -/
  cand   : Option Nat
  since  : Ts
  /-- frames received since the last error, and whether one of them was an FD frame with BRS -/
  good   : Nat
  fdSeen : Bool
  reply  : Handle
  deriving DecidableEq, Repr

/-- A CAN controller (R374–R404). -/
structure Can where
  state      : CanState
  /-- where SLEEP was entered from, and when (R396) -/
  sleptFrom  : CanState
  sleptAt    : Ts
  /-- STOP waits for the end of the frame that is being transmitted (R398) -/
  stopping   : Bool
  /-- waits for 11 consecutive recessive bits after a protocol exception or an edge wake (R375, R396) -/
  suspended  : Bool
  tec        : Nat
  recErr     : Nat
  /-- 0 error active, 1 error passive, 2 bus-off (R403) -/
  errState   : Nat
  warning    : Bool
  recovering : Bool
  recoveredAt : Option Ts
  verified   : Bool
  pex        : Bool
  /-- CAN_FLAGS (R402) -/
  overflow   : Bool
  warningSeen : Bool
  fifo       : List RxEntry
  /-- an overflow episode runs (R385) -/
  episode    : Bool
  fifoLost   : Nat
  bufs       : Vector PrioBuf 8
  overwrites : Nat
  /-- buffers that the safe-telegram engine owns (R384, R423) -/
  owned      : BitVec 8
  boxes      : Vector (Option TxBox) 16
  /-- telegrams that wait for the attempt in flight in their mailbox to end (R411) -/
  next       : Vector (Option TxBox) 16
  loopDelay  : Nat
  busOffs    : Nat
  stale      : Nat
  lastError  : Nat
  detected   : Option Nat
  detect     : Option Detect
  deriving DecidableEq, Repr

/-- A press of the safety-reset pair in progress (R313). -/
structure Press where
  start    : Ts
  asserted : Option Ts
  leaving  : Option Ts
  /-- start and end of the latest time ASSERTED, whenever it began (R314) -/
  run      : Option Ts
  runEnd   : Option Ts
  /-- in progress at the release of POR_N: gives no edge (R314) -/
  voided   : Bool
  /-- its event has been raised -/
  reported : Bool
  deriving DecidableEq, Repr

/-- The device-level safety inputs, the DCL logic and the safety reset (R290–R302, R312–R315). -/
structure Safety where
  /-- levels of ZS_A and ZS_B, since when they have disagreed or agreed, ZS_FAULT, ZS_CONFIRMED as last reported (R295) -/
  zsA      : Bool
  zsB      : Bool
  zsAdopted : Bool
  zsSince  : Ts
  zsFault  : Bool
  zsShown  : Bool
  /-- levels of GPI0–GPI9 (R320) -/
  gpi      : Vector Bool 10
  gpiAdopted : Bool
  /-- safety-reset pair (R312–R314) -/
  srA      : Bool
  srB      : Bool
  press    : Option Press
  jammed   : Bool
  /-- when a MODE_CAUSE bit was last set (R318) -/
  causeAt  : Option Ts
  /-- last firmware renewal, last frame of each portal control die (R296, R297) -/
  fwAt     : Ts
  frameAt  : Vector Ts 2
  /-- driven DCL, since when, the wave and the level of DCL_A in it (R299, R300) -/
  driven   : Bool
  drivenSince : Ts
  waveHigh : Bool
  /-- DCL_FAULT (R301) -/
  dclFault : BitVec 8
  /-- ball levels last read, and agreeing checks since the last disagreement of each (R301) -/
  ballA    : Bool
  ballB    : Bool
  pinA     : Option Nat
  pinB     : Option Nat
  /-- DCLRB levels, and whether each has reached the driven DCL since its last change (R301) -/
  rbA      : Bool
  rbB      : Bool
  reachA   : Bool
  reachB   : Bool
  deriving DecidableEq, Repr

/-- A valid copy of a received safe telegram (R414). -/
structure TeleCopy where
  seq     : BitVec 16
  ts      : BitVec 32
  /-- start-of-frame time-stamp; the arrival is its value in µs (R414) -/
  sof     : Ts
  bytes   : List Byte
  deriving DecidableEq, Repr

/-- A received stream: ZERO_SPEED or RELEASE (R414–R418). -/
structure Stream where
  valid   : Bool
  /-- the first candidate held while NOT_VALID (R417) -/
  first   : Option TeleCopy
  seqLast : BitVec 16
  tsLast  : BitVec 32
  /-- arrival − TS of the last 64 accepted telegrams, newest first (R416) -/
  delays  : List Int
  /-- when the latest acceptance was, and the payload bytes 0 and 1 that it brought -/
  lastAt  : Ts
  byte0   : Byte
  byte1   : Byte
  single  : Bool
  /-- open windows, oldest first, with the network of their copy, B when true (R415) -/
  windows : List (Bool × TeleCopy)
  /-- numbers whose windows have closed, newest first -/
  closed  : List (BitVec 16)
  /-- last events of an invalid copy and of a lateness rejection (R414, R416) -/
  badAt   : Option Ts
  lateAt  : Option Ts
  deriving DecidableEq, Repr

/-- The safe-telegram engine (R405–R425). -/
structure Telegrams where
  zs       : Stream
  rel      : Stream
  /-- next sequence numbers of DCL and DOOR_STATE (R411) -/
  seqDcl   : BitVec 16
  seqState : BitVec 16
  /-- TS_OFFSET, and whether it was taken from the bus (R412) -/
  tsOffset : BitVec 32
  fromBus  : Bool
  /-- the driven DCL and DCL_FAULT that the last DCL telegram carried (R411) -/
  sentDcl  : Bool × BitVec 8
  /-- the partner's DCL telegrams seen in STANDBY: the last number, when, and TS − arrival of the last 64, newest first (R412) -/
  ownSeq   : Option (BitVec 16)
  ownAt    : Ts
  ownDiffs : List Int
  mismatch : Nat
  badCopies : Nat
  singleAccepts : Nat
  singleDrops : Nat
  rejected : Nat
  seqGaps  : Nat
  timeouts : Nat
  deriving DecidableEq, Repr

/-- The partner and the Swetric link (R358–R367). -/
structure Partner where
  linkUp   : Bool
  /-- agreed version, 0 none (R359) -/
  version  : Nat
  /-- PARTNER_SERIAL, and the digest of its last CAP -/
  serial   : BitVec 32
  digest   : List Byte
  roleConflict : Bool
  /-- the last CAP offered no common version; its digest differed (R373) -/
  noCommon : Bool
  digestBad : Bool
  /-- when the last own CAP was sent (R359) -/
  capAt    : Option Ts
  /-- last valid HEARTBEAT or SNAPSHOT, and whether the partner is declared lost (R360) -/
  heardAt  : Option Ts
  lost     : Bool
  heartbeat : Option HeartbeatFrame
  /-- own heartbeats: HB_SEQ and the time of the last one (R351, R360) -/
  hbSeq    : BitVec 16
  hbSentAt : Option Ts
  /-- own snapshots: SEQ of the last one sent (R361) -/
  snapSent : BitVec 32
  skipped  : Nat
  /-- the last adopted snapshot and the end of its frame (R363) -/
  adopted  : Option Snapshot
  adoptedAt : Ts
  /-- SNAP_SEQ_LAST -/
  snapLast : BitVec 32
  discarded : Nat
  lastDiscard : Option Ts
  takeovers : Nat
  deriving DecidableEq, Repr

/-- An entry on its way to a record: an event entry, or a cycle record with its packed fields (R464, R468). -/
structure RecEntry where
  code   : Nat
  src    : Nat
  sev    : Nat
  flags  : BitVec 8
  ts     : Ts
  rep    : Nat
  param0 : Nat
  /-- PARAM1; the device mode of an event record is filled in at the write -/
  param1 : Nat
  cycle  : Bool
  deriving DecidableEq, Repr

/-- A record in the record region (R462). -/
structure Record where
  entry     : RecEntry
  opSeconds : Nat
  cycles    : Nat
  seq       : Nat
  deriving DecidableEq, Repr

/-- A saved counter block (R470). -/
structure CounterBlock where
  gen       : Nat
  opSeconds : Nat
  cycles    : Nat
  written   : Nat
  lost      : Nat
  cycleCount : List Nat
  obstTotal  : List Nat
  fenceTotal : List Nat
  shutdowns  : List Nat
  switchings : List Nat
  deriving DecidableEq, Repr

/-- What the power-fail flush saves for the next power-up (R476). -/
structure SavedFlush where
  snap      : Option Snapshot
  nextSeq   : Nat
  opSeconds : Nat
  cycles    : Nat
  written   : Nat
  deriving DecidableEq, Repr

/-- The recorder (R462–R484). -/
structure Recorder where
  /-- the scan of R475 has ended -/
  ready    : Bool
  /-- records in write order, oldest first -/
  records  : List Record
  queue    : List RecEntry
  credit   : Nat
  /-- the last write credit was regained then (R473) -/
  creditAt : Ts
  /-- pending loss count and the highest severity dropped (R474) -/
  pendingLoss : Nat
  lossSev  : Nat
  lost     : Nat
  written  : Nat
  torn     : Nat
  opSeconds : Nat
  /-- start of the second that is being counted -/
  secSince : Ts
  powerCycles : Nat
  nextSeq  : Nat
  /-- the last 0x002F entry had PARAM [15:8] non-zero (R465) -/
  prev2F   : Bool
  /-- the 64 rotating counter slots, none where the CRC does not verify, and the newest slot (R470) -/
  slots    : Vector (Option CounterBlock) 64
  slotAt   : Fin 64
  savedAt  : Ts
  /-- the last snapshot assembled while the device held the claim, and what the last flush saved (R476) -/
  lastSnap : Option Snapshot
  saved    : Option SavedFlush
  flushing : Bool
  /-- T_PF (R476) -/
  tPf      : Option Ts
  /-- MRAM writes are blocked until the next power-up (R476) -/
  blocked  : Bool
  deriving DecidableEq, Repr

/-- A copy of the boot record (R491). -/
structure BootRecord where
  gen      : Nat
  active   : Fin 2
  trial    : Option (Fin 2)
  attempted : Bool
  /-- ROLLBACK_FLOOR -/
  floor    : Nat
  deriving DecidableEq, Repr

/-- A firmware bank of 4 MiB (R491). -/
structure Bank where
  /-- delivery put a valid image into the bank; what has not been written since is a byte of that image, otherwise 0 (log 14) -/
  delivered : Bool
  /-- bytes written since, in the canonical form of `Memory.wf` -/
  cells    : List Host.Cell
  /-- the 512-bit blocks of the bank that BCH cannot correct -/
  bad      : List Nat
  deriving DecidableEq, Repr

/-- Firmware, boot and power (R485–R502). -/
structure Power where
  /-- POR_N is low or a logic supply is lost: every output is inert (R485, R486) -/
  off      : Bool
  /-- PFAIL has been accepted (R497) -/
  pfail    : Bool
  /-- the flush has ended and outputs are held inert (R497) -/
  flushed  : Bool
  /-- a failed step of INIT, retries so far, and when it failed (R490) -/
  initFail : Option (Nat × Nat × Ts)
  /-- SELFTEST_FAIL (R492) -/
  selftest : BitVec 16
  /-- CONFIGURE has been entered since the release of POR_N, and left (R68, R171, R290) -/
  configured : Bool
  mapsLoaded : Bool
  /-- the two copies of the boot record, none when the CRC is not correct (R491) -/
  boot     : Vector (Option BootRecord) 2
  banks    : Vector Bank 2
  running  : Fin 2
  trialRunning : Bool
  fallback : Bool
  /-- the inactive bank has been verified (R499, R500) -/
  verified : Bool
  /-- FW_VERIFY in progress -/
  verify   : Option Handle
  deriving DecidableEq, Repr

/-- The state of the device. -/
structure State where
  /-- commands that wait, first in, first out -/
  pending  : List Instr
  /-- master time-stamp (R49) -/
  ts       : Ts
  mode     : Mode
  /-- MODE_CAUSE (R38) -/
  modeCause : BitVec 16
  epoch    : BitVec 32
  commit   : Option Commit
  /-- an aborted commit that is repeated at its `due` time (R42) -/
  retry    : Option Commit
  dies     : Vector Die 8
  /-- events at the Hub die that wait for their release, in the order of arrival (R55) -/
  waiting  : List Event
  /-- the host buffer, oldest first, and entries not stored since the last read (R54) -/
  buffer   : List Event
  lostEvents : Nat
  /-- greatest TS and source among the released entries (R55) -/
  lastRel  : Option (Ts × Nat)
  evtPending : BitVec 64
  /-- W1C bits that hardware has set at the present time-stamp: PID, unit, bit (R57) -/
  setNow   : List (Nat × Nat × Nat)
  /-- values written by the host to RW parameters: PID and unit (R10) -/
  params   : List ((Nat × Nat) × Int)
  ports    : Vector Port 2
  wdg      : Watchdog
  groups   : List GroupOp
  nextGroup : Nat
  portals  : Vector Portal 8
  engines  : Vector Engine 2
  safety   : Safety
  sealer   : Seal
  pairs    : Vector Pair 3
  claim    : Claim
  partner  : Partner
  cans     : Vector Can 4
  tele     : Telegrams
  recorder : Recorder
  power    : Power
  /-- Dealim links that are down, bit n for link n (R58 table) -/
  linksDown : BitVec 11
  /-- the model's own counter of free values (log 8) -/
  free     : Nat
  deriving DecidableEq, Repr

/-! ## The state after reset: POR_N has just been released, and nothing has run (R4, R485, R490) -/

/-- The phase lines: low (R4). -/
def Pwm.reset : Pwm :=
  { enable := false, brake := false, cmp := Vector.replicate 3 0, prev := Vector.replicate 3 0, next := none, zero := 0 }

/-- Detector at reset. -/
def Detector.reset : Detector :=
  { mOpen := List.replicate 256 0, mClose := List.replicate 256 0, confOpen := List.replicate 256 0,
    confClose := List.replicate 256 0, sums := [], updates := 0, savedAt := 0, copies := Vector.replicate 2 none, nextCopy := 0,
    loaded := false, status := 0, clean := false, confirm := 0, windowEnd := none, dir := 0, declClamp := none,
    declared := false, efSince := none, efPeak := 0, fRes := 0, fOpp := 0, thrEff := 0, eKin := 0, ffCurrent := 0, efSpeed := 0,
    peakFOpp := 0, peakE := 0, passes := 0, ffSeenMotion := false }

/-- Leaf at reset. -/
def Leaf.reset : Leaf :=
  { drive := .off, voltSat := false, aligned := false, fault := 0, gdFlt := false, iq := 0, id := 0, theta := 0, theta0 := 0, c0 := 0,
    hallRef := false, sector := none, hallCode := 0, lastEdge := none, edgeSpeed := 0, thetaEdge := 0, invalid := [],
    pwm := Pwm.reset, efOverride := false, driveSince := 0, wanted := .off, xRef := 0, vCmd := 0, target := 0, holding := false,
    carry := false, reversing := false, latched := [], latchedDrive := [], vdSlot := 0, vqSlot := 0, vRef := 0,
    iqRef := 0, chopH := 0, chopFreq := 0, chopDrive := false, chopSign := 0, chopAt := 0,
    chopPrev := 0, chopCount := 0, chopSince := 0, enableSince := 0, enableUntil := none, dpBad := false, checked := 0,
    alignX := 0, dirBad := none, stopping := false, stallSince := none, det := Detector.reset }

/-- Coil at reset. -/
def Coil.reset : Coil := { phase := .decay, since := 0, sgn := 0 }

/-- Step at reset. -/
def Step.reset : Step :=
  { drive := .off, fault := 0, fltIn := false, clockOk := true, phi := 0, phi0 := 0, phiT := 0, v := 0, acc := 0, w := 0, genAt := 0, r := 256, pendingR := none,
    uncertain := true, powerTold := false, strong := false, strongWant := false, pwmAt := 0, coilA := Coil.reset, coilB := Coil.reset, homed := false, dir := false, lastMicro := none, homeInput := false, g := 1, phase := 0,
    phaseStart := 0, homeStart := none, homeClear := none, delta := none, homeCorr := 0, confirm := none, devSince := none,
    job := 0, jogSpeed := 0, ia := 0, ib := 0, iMeas := 0, enSince := 0, latched := [] }

/-- Feedback at reset. -/
def Feedback.reset : Feedback :=
  { c := 0, c0 := 0, referenced := false, everRef := false, still := true, stillAt := 0, seeding := false, settleEnd := none,
    armed := true, armedAt := 0, dir := false, fault := 0, xHat := 0, vHat := 0, aHat := 0, illegal := 0, lcMismatch := 0,
    lastSpan := 0, indexAt := none, spanUp := false, spanDown := false, lastBad := false, legal := 0, illegalAt := [],
    ssiPrev := none, ssiBad := 0, zeroErr := false, ssiChange := 0, lastChange := none, lastDir := 0, lastCount := 0, a := false,
    b := false, z := false, clearedAt := 0, okSince := Vector.replicate 6 none, contactSince := none, zAt := none, badAt := none,
    wake := none, contactRef := none }

/-- Echo at reset. -/
def Echo.reset : Echo :=
  { acc := 0, backlog := 0, ab := 0, overrun := false, lastEdge := none }

/-- Channel at reset. -/
def Channel.reset : Channel :=
  { hostDemand := false, seqDemand := false, slotDuty := none, modeIn := 0, latched := [], demand := false, allowed := false,
    on := false, condAcc := 0, condSince := none, pulseEnd := none, pulseReply := none, dutyEff := 0, ocLatch := false,
    thermLatch := false, retrySince := none, retries := 0, blankSince := none, limiting := false, pullSince := none,
    tempWarn := false, temp := 0, shutdownSeen := false, iAvg := 0, iOn := 0, shutdowns := 0, switchings := 0, fsReg := 0,
    fsSince := none, holdDemand := false, holdDuty := 0, pwmDuty := none,
    offAt := none, retryAt := none, shutAt := none, past := none }

/-- Portal at reset. -/
def Portal.reset : Portal :=
  { state := .absent, fenceCause := 0, causes := 0, pendingCause := 0, found := [], recloses := 0, closePending := false,
    partialOpen := false, closeFailed := false, checkFailed := false, checkPid := 0xFFFF, since := 0, timer := none, warn := none, dwell := none,
    pause := none, openObst := 0, stopPartial := false, closeStart := 0, reopen := Vector.replicate 2 0, reopenFull := false,
    openForce := false, openRefs := [], closeForce := false, closeRefs := [], queue := [], lockedSince := none, jog := none,
    jogFromOpen := false, lockJog := none, jogStop := [], fenceWaits := [], start := 0, relPrev := false,
    warnOn := false, si := Vector.replicate 12 false, siAdopted := false,
    pairSince := Vector.replicate 3 0, siFault := 0, plaus := Vector.replicate 3 (false, 0), ehLatch := false, ehPrev := false, fencedHw := false, win := false,
    fwTerm := false, hwTerm := false, hwSince := none, differSince := none, agreeSince := none,
    leaves := Vector.replicate 2 Leaf.reset, step := Step.reset, fbs := Vector.replicate 3 Feedback.reset,
    chans := Vector.replicate 8 Channel.reset, echo := Echo.reset, aux := 0, vbus := 0, vbusLow := none, modSince := none,
    modUntil := none, sdClockOk := true, vls := 0,
    vlsStatus := 0, fsHeartbeat := false, fsFenced := false, valveOff := Vector.replicate 2 false, cycle := none,
    cycleCount := 0, obstTotal := 0, fenceTotal := 0 }

/-- Die at reset. -/
def Die.reset : Die :=
  { epoch := 0, mode := .init, ts := 0, slew := 0, prepare := none, commit := false, safeDue := false, missed := false, hubLost := false,
    lastBeat := 0, backSince := none, tsFault := false, tsBad := 0, tsGood := 0, lastCorr := 0, offset := 0, temp := 0,
    peak := none, hot := false, pllLost := false, eccPend := 0, eccLast := none, raised := [] }

/-- Slot at reset. -/
def Slot.reset : Slot :=
  { mode := .disabled, running := false, outSat := false, intSat := false, residueErr := false, satSeen := false, eHist := [],
    wHist := [], e := 0, w := 0, i := 0, o := 0, u := 0, preset := false, prevMode := .disabled, uApp := none, manual := 0,
    ramp := 0, closing := [], checked := 0, errAt := none, endAt := none, tune := none, tuTu := 0, tuAmp := 0, tuKu := 0, tuShift := 0, tuB0 := 0, tuKi := 0,
    tuKb := 0, tuFlags := 0 }

/-- Engine at reset. -/
def Engine.reset : Engine :=
  { slots := Vector.replicate 64 Slot.reset, testFail := false, passes := 0, last := none }

/-- SealCopy at reset. -/
def SealCopy.reset : SealCopy :=
  { written := false, records := [], digest := [], word := 0, commits := 0, intact := false }

/-- Seal at reset. -/
def Seal.reset : Seal :=
  { live := 0, liveKnown := false, mismatches := 0, copies := Vector.replicate 2 SealCopy.reset, writes := [], loaded := [],
    shadow := [], config := [], loading := false, again := false, loadDone := false, blockOk := false, fsLoaded := false,
    mismatch := false, commit := none }

/-- Pair at reset. -/
def Pair.reset : Pair :=
  { scope := .coreCaches, diag := 0, mismatches := 0, tests := 0, testFails := 0, eccCorr := 0, eccUncorr := 0,
    lastMismatch := none, recovering := false, agreed := 0, splitting := none, rejoining := false, rejoinReply := none,
    halted := false, held := [] }

/-- Wire at reset. -/
def Wire.reset : Wire :=
  { faulty := false, openBad := 0, drvBad := 0, good := 0 }

/-- Claim at reset. -/
def Claim.reset : Claim :=
  { own := 0, win := 0, took := false, won := false, ack := false, noAck := 0, wireA := Wire.reset, wireB := Wire.reset,
    bothBad := 0, isoFrames := none, held := false, heldEnd := false, since := 0, yield := none, deferred := false }

/-- PrioBuf at reset. -/
def PrioBuf.reset : PrioBuf :=
  { front := none, shadow := none, lock := none }

/-- Can at reset. -/
def Can.reset : Can :=
  { state := .off, sleptFrom := .off, sleptAt := 0, stopping := false, suspended := false, tec := 0, recErr := 0, errState := 0,
    warning := false, recovering := false, recoveredAt := none, verified := false, pex := false, overflow := false,
    warningSeen := false, fifo := [], episode := false, fifoLost := 0, bufs := Vector.replicate 8 PrioBuf.reset, overwrites := 0,
    owned := 0, boxes := Vector.replicate 16 none, next := Vector.replicate 16 none, loopDelay := 0, busOffs := 0, stale := 0,
    lastError := 0, detected := none, detect := none }

/-- Safety at reset. -/
def Safety.reset : Safety :=
  { zsA := false, zsB := false, zsAdopted := false, zsSince := 0, zsFault := false, zsShown := false,
    gpi := Vector.replicate 10 false, gpiAdopted := false, srA := false, srB := true, press := none, jammed := false,
    causeAt := none, fwAt := 0, frameAt := Vector.replicate 2 0, driven := false, drivenSince := 0, waveHigh := false,
    dclFault := 0, ballA := false, ballB := false, pinA := none, pinB := none, rbA := false, rbB := false, reachA := false,
    reachB := false }

/-- Stream at reset. -/
def Stream.reset : Stream :=
  { valid := false, first := none, seqLast := 0, tsLast := 0, delays := [], lastAt := 0, byte0 := 0, byte1 := 0, single := false,
    windows := [], closed := [], badAt := none, lateAt := none }

/-- Telegrams at reset. -/
def Telegrams.reset : Telegrams :=
  { zs := Stream.reset, rel := Stream.reset, seqDcl := 0, seqState := 0, tsOffset := 0, fromBus := false, sentDcl := (false, 0), ownSeq := none,
    ownAt := 0, ownDiffs := [], mismatch := 0, badCopies := 0, singleAccepts := 0, singleDrops := 0, rejected := 0, seqGaps := 0,
    timeouts := 0 }

/-- Partner at reset. -/
def Partner.reset : Partner :=
  { linkUp := false, version := 0, serial := 0, digest := [], roleConflict := false, noCommon := false, digestBad := false,
    capAt := none, heardAt := none, lost := false, heartbeat := none, hbSeq := 0, hbSentAt := none, snapSent := 0, skipped := 0,
    adopted := none, adoptedAt := 0, snapLast := 0, discarded := 0, lastDiscard := none, takeovers := 0 }

/-- Recorder at reset. -/
def Recorder.reset : Recorder :=
  { ready := false, records := [], queue := [], credit := 128, creditAt := 0, pendingLoss := 0, lossSev := 0, lost := 0, written := 0,
    torn := 0, opSeconds := 0, secSince := 0, powerCycles := 0, nextSeq := 0, prev2F := false, slots := Vector.replicate 64 none,
    slotAt := 0, savedAt := 0, lastSnap := none, saved := none, flushing := false, tPf := none, blocked := false }

/-- Watchdog at reset. -/
def Watchdog.reset : Watchdog :=
  { state := 0, window := 0, key := 0, owner := 0, kicks := 0, last := 0, stopSince := none }

/-- Port at reset. -/
def Port.reset : Port :=
  { version := 0, session := 0, tags := 0, owing := 0, rxq := [], replies := [], lastBad := false, miso := [],
    seg := none, txSeg := none }

/-- The boot record and the banks as delivered: bank A holds a valid image and is active, bank B is erased, ROLLBACK_FLOOR is 0 (log 14). -/
def Power.reset : Power :=
  let copy := fun (g : Nat) => some (⟨g, 0, none, false, 0⟩ : BootRecord)
  { off := false, pfail := false, flushed := false, initFail := none, selftest := 0, configured := false, mapsLoaded := false,
    boot := #v[copy 1, copy 0], banks := #v[⟨true, [], []⟩, ⟨false, [], []⟩], running := 0, trialRunning := false, fallback := false,
    verified := false, verify := none }

/-- The device right after the release of POR_N, as delivered: mode INIT, the time-stamp at 0, every portal absent, every output inert, no
parameter written, the recorder memory empty but for the firmware of bank A. -/
def State.reset : State :=
  { pending := [], ts := 0, mode := .init, modeCause := 0, epoch := 0, commit := none, retry := none, dies := Vector.replicate 8 Die.reset,
    waiting := [], buffer := [], lostEvents := 0, lastRel := none, evtPending := 0, setNow := [], params := [],
    ports := Vector.replicate 2 Port.reset, wdg := Watchdog.reset, groups := [], nextGroup := 0, portals := Vector.replicate 8 Portal.reset,
    engines := Vector.replicate 2 Engine.reset, safety := Safety.reset, sealer := Seal.reset, pairs := Vector.replicate 3 Pair.reset,
    claim := Claim.reset, partner := Partner.reset, cans := Vector.replicate 4 Can.reset, tele := Telegrams.reset,
    recorder := Recorder.reset, power := Power.reset, linksDown := 0, free := 0 }

end Sys2Proof.Machine
end

