-- ==== Sys2Proof/Machine/Params.lean ====
section
/-! DEFINITION. The value of a parameter in force: host-written and sealed values, defaults, and what a parameter that is not set
stands for (R10, R14, R31, R61, R521). -/

namespace Sys2Proof.Machine

/-- Unit addresses of R18. -/
def uPortal (p : PortalId) : Nat := 0x1000 + 0x100 * p.val
/-- The address of leaf l of portal p (R18). -/
def uLeaf (p : PortalId) (l : LeafId) : Nat := 0x1010 + 0x100 * p.val + l.val
/-- The address of the step of portal p (R18). -/
def uStep (p : PortalId) : Nat := 0x1020 + 0x100 * p.val
/-- The address of load channel c of portal p (R18). -/
def uChan (p : PortalId) (c : ChanId) : Nat := 0x1030 + 0x100 * p.val + c.val
/-- The address of feedback interface f of portal p (R18). -/
def uFb (p : PortalId) (f : FbId) : Nat := 0x1040 + 0x100 * p.val + f.val
/-- The address of die d (R18). -/
def uDie (d : Nat) : Nat := 0x4000 + 0x100 * d

/-- A value lies in the range that a row states (R13). -/
def PDesc.inRange (d : PDesc) (v : Int) : Bool := (decide (d.lo ≤ v) && decide (v ≤ d.hi)) || d.extra.contains v

/-- The row of a PID; a PID that no chapter tabulates reads as 0 (no use of the model asks for one). -/
def descOf (pid : Nat) : PDesc := (ParamTable.find pid).getD ⟨0, 0, 4, false, .ro, 0, 0, [], 0, .device⟩

/-- The value stored for a key, if one has been written. -/
def stored (l : List ((Nat × Nat) × Int)) (pid unit : Nat) : Option Int :=
  (l.find? fun e => decide (e.1.1 = pid ∧ e.1.2 = unit)).map (·.2)

/-- The key order of the stored values: PID, then unit (R306). -/
def keyLt (a b : Nat × Nat) : Bool := decide (a.1 < b.1 ∨ (a.1 = b.1 ∧ a.2 < b.2))

/-- Store a value under its key, keeping the list in key order with one entry for each key. -/
def store : List ((Nat × Nat) × Int) → Nat × Nat → Int → List ((Nat × Nat) × Int)
  | [], k, v => [(k, v)]
  | e :: l, k, v =>
    if keyLt k e.1 then (k, v) :: e :: l
    else if e.1 = k then (k, v) :: l
    else e :: store l k v

/-- A source of parameter values: the host-written ones and the sealed ones that a check or the running device uses (R62). -/
structure View where
  params : List ((Nat × Nat) × Int)
  sealedVals : List ((Nat × Nat) × Int)
  deriving DecidableEq, Repr

/-- The values in force: sealed parameters as loaded at the last entry to CONFIGURE (R62, R184). -/
def State.view (s : State) : View := ⟨s.params, s.sealer.loaded⟩

/-- The value that a parameter holds: written, or its default. -/
def View.raw (v : View) (pid unit : Nat) : Int :=
  let d := descOf pid
  (stored (if d.access = .srw then v.sealedVals else v.params) pid unit).getD d.dflt

/-- A parameter is set when it has been written or its default lies in its range (R521). -/
def View.isSet (v : View) (pid unit : Nat) : Bool := (descOf pid).inRange (v.raw pid unit)

/-- The value that a function uses: the lowest of the range for a parameter that is not set (R521). -/
def View.val (v : View) (pid unit : Nat) : Int := if v.isSet pid unit then v.raw pid unit else (descOf pid).lo

/-- A parameter that names or chooses something; none when it is not set or reads 0xFF (R521). -/
def View.names (v : View) (pid unit : Nat) : Option Nat :=
  if v.isSet pid unit ∧ v.raw pid unit ≠ 0xFF then some (v.raw pid unit).toNat else none

/-- The value in force that a function uses. -/
def State.par (s : State) (pid unit : Nat) : Int := s.view.val pid unit

/-- The value in force of an unsigned parameter. -/
def State.parN (s : State) (pid unit : Nat) : Nat := (s.par pid unit).toNat

/-- The thing that a parameter in force names. -/
def State.parNames (s : State) (pid unit : Nat) : Option Nat := s.view.names pid unit

/-- A bit of PORTAL_CONFIG (R60). -/
def View.cfgBit (v : View) (p : PortalId) (b : Nat) : Bool := (v.raw 0x1000 (uPortal p)).toNat.testBit b

/-- PRESENT (R60). -/
def View.present (v : View) (p : PortalId) : Bool := v.cfgBit p 0
/-- TWO_LEAVES (R60). -/
def View.twoLeaves (v : View) (p : PortalId) : Bool := v.cfgBit p 1
/-- STEP_FITTED (R60). -/
def View.stepFitted (v : View) (p : PortalId) : Bool := v.cfgBit p 2
/-- PNEUMATIC (R60). -/
def View.pneumatic (v : View) (p : PortalId) : Bool := v.cfgBit p 3
/-- A leaf is present when its portal is and, for leaf 1, the portal has two leaves (R19). -/
def View.leafPresent (v : View) (p : PortalId) (l : LeafId) : Bool := v.present p && (l = 0 || v.twoLeaves p)
/-- The step is present (R19). -/
def View.stepPresent (v : View) (p : PortalId) : Bool := v.present p && v.stepFitted p
/-- A feedback interface is present when the unit that it reads is (R19). -/
def View.fbPresent (v : View) (p : PortalId) (f : FbId) : Bool :=
  v.present p && (f = 0 || (f = 1 && v.twoLeaves p) || (f = 2 && v.stepFitted p))

/-- PRESENT in force. -/
def State.present (s : State) (p : PortalId) : Bool := s.view.present p
/-- A leaf present in force. -/
def State.leafPresent (s : State) (p : PortalId) (l : LeafId) : Bool := s.view.leafPresent p l
/-- STEP_FITTED in force. -/
def State.stepFitted (s : State) (p : PortalId) : Bool := s.view.stepFitted p
/-- PNEUMATIC in force. -/
def State.pneumatic (s : State) (p : PortalId) : Bool := s.view.pneumatic p
/-- TWO_LEAVES in force. -/
def State.twoLeaves (s : State) (p : PortalId) : Bool := s.view.twoLeaves p

/-- The present leaves of a portal, in order. -/
def State.leaves (s : State) (p : PortalId) : List LeafId := if s.twoLeaves p then [0, 1] else [0]

/-- The drive mode of a leaf in force: 0 DISABLED, 1 PMSM, 2 BRUSHED_DC (R103). -/
def State.leafMode (s : State) (p : PortalId) (l : LeafId) : Nat := s.parN 0x2000 (uLeaf p l)

end Sys2Proof.Machine
end

