-- ==== Sys2Proof/Machine/Ops.lean ====
section
/-! DEFINITION. The named operations over the state: time, parts of the device, W1C bits, events, replies, free values. -/

namespace Sys2Proof.Machine

/-! ## Parts of the device -/

/-- A portal of the device. -/
def State.portal (s : State) (p : PortalId) : Portal := s.portals[p]

/-- Replace a portal. -/
def State.setPortal (s : State) (p : PortalId) (x : Portal) : State := { s with portals := s.portals.set p x }

/-- Change a portal. -/
def State.modPortal (s : State) (p : PortalId) (f : Portal → Portal) : State := s.setPortal p (f (s.portal p))

/-- A leaf of a portal. -/
def State.leaf (s : State) (p : PortalId) (l : LeafId) : Leaf := (s.portal p).leaves[l]

/-- Change a leaf. -/
def State.modLeaf (s : State) (p : PortalId) (l : LeafId) (f : Leaf → Leaf) : State :=
  s.modPortal p fun x => { x with leaves := x.leaves.set l (f x.leaves[l]) }

/-- Change a leaf's detector and fence unit. -/
def State.modDet (s : State) (p : PortalId) (l : LeafId) (f : Detector → Detector) : State :=
  s.modLeaf p l fun x => { x with det := f x.det }

/-- The step of a portal. -/
def State.stepOf (s : State) (p : PortalId) : Step := (s.portal p).step

/-- Change the step of a portal. -/
def State.modStep (s : State) (p : PortalId) (f : Step → Step) : State :=
  s.modPortal p fun x => { x with step := f x.step }

/-- A feedback interface of a portal. -/
def State.fb (s : State) (p : PortalId) (f : FbId) : Feedback := (s.portal p).fbs[f]

/-- Change a feedback interface. -/
def State.modFb (s : State) (p : PortalId) (f : FbId) (g : Feedback → Feedback) : State :=
  s.modPortal p fun x => { x with fbs := x.fbs.set f (g x.fbs[f]) }

/-- A load channel of a portal. -/
def State.chan (s : State) (p : PortalId) (c : ChanId) : Channel := (s.portal p).chans[c]

/-- Change a load channel. -/
def State.modChan (s : State) (p : PortalId) (c : ChanId) (f : Channel → Channel) : State :=
  s.modPortal p fun x => { x with chans := x.chans.set c (f x.chans[c]) }

/-- A die of the device. -/
def State.die (s : State) (d : DieId) : Die := s.dies[d]

/-- Change a die. -/
def State.modDie (s : State) (d : DieId) (f : Die → Die) : State := { s with dies := s.dies.set d (f s.dies[d]) }

/-- A slot of an engine. -/
def State.slot (s : State) (d : PdId) (n : SlotId) : Slot := s.engines[d].slots[n]

/-- Change a slot. -/
def State.modSlot (s : State) (d : PdId) (n : SlotId) (f : Slot → Slot) : State :=
  { s with engines := s.engines.set d { s.engines[d] with slots := s.engines[d].slots.set n (f s.engines[d].slots[n]) } }

/-- A Mirqua port. -/
def State.port (s : State) (n : PortId) : Port := s.ports[n]

/-- Change a Mirqua port. -/
def State.modPort (s : State) (n : PortId) (f : Port → Port) : State := { s with ports := s.ports.set n (f s.ports[n]) }

/-- A CAN controller. -/
def State.can (s : State) (n : CanId) : Can := s.cans[n]

/-- Change a CAN controller. -/
def State.modCan (s : State) (n : CanId) (f : Can → Can) : State := { s with cans := s.cans.set n (f s.cans[n]) }

/-- A lockstep pair. -/
def State.pair (s : State) (d : Fin 3) : Pair := s.pairs[d]

/-- Change a lockstep pair. -/
def State.modPair (s : State) (d : Fin 3) (f : Pair → Pair) : State := { s with pairs := s.pairs.set d (f s.pairs[d]) }

/-- All portals. -/
def allPortals : List PortalId := List.finRange 8

/-- The portal control die that serves a portal (R133). -/
def pdOf (p : PortalId) : PdId := if p.val < 4 then 0 else 1

/-- The die number of the portal control die that serves a portal (R18). -/
def pdDie (p : PortalId) : DieId := if p.val < 4 then 1 else 2

/-- The die number of the power die that serves a portal (R18). -/
def pwDie (p : PortalId) : DieId := ⟨3 + p.val / 2, by omega⟩

/-- The portals that a die serves; the Hub die and the recorder memory die serve none of their own. -/
def servedBy (d : DieId) : List PortalId :=
  if d = 0 ∨ d = 7 then [] else allPortals.filter fun p => pdDie p = d || pwDie p = d

/-- Apply an update for each element of a list, in order. -/
def foldState {α : Type} (l : List α) (f : α → State → State) (s : State) : State := l.foldl (fun t a => f a t) s

/-! ## Time -/

/-- A die's counter runs for `dt` counts: its rate is changed so that it makes good what is left of the last correction; it never steps backward
and gains at most one count with each (R50; log 90). -/
def Die.tick (x : Die) (dt : Nat) : Die :=
  let a := clampI (-dt) dt x.slew
  { x with ts := x.ts + BitVec.ofInt 56 (dt + a), slew := x.slew - a }

/-- `dt` counts pass before the command (log 1); what hardware set before is no longer set "in the same cycle" (R57). -/
def State.advance (s : State) (dt : Nat) : State :=
  { s with ts := s.ts + BitVec.ofNat 56 dt, setNow := if dt = 0 then s.setNow else [], dies := s.dies.map (·.tick dt) }

/-- A time-stamp lies at least `n` counts back. -/
def State.elapsed (s : State) (t : Ts) (n : Nat) : Bool := decide (n ≤ s.ts.since t)

/-- A running timer has run for at least `n` counts. -/
def State.ran (s : State) (t : Option Ts) (n : Nat) : Bool :=
  match t with
  | none => false
  | some t => s.elapsed t n

/-- The device holds the claim and has released its outputs: 50 µs after the frame end that gave it the claim (R5, R354). -/
def State.gates (s : State) : Bool := s.claim.held && s.elapsed s.claim.since (us 50)

/-! ## Modes -/

/-- The code of a mode (R32). -/
def Mode.code : Mode → Nat
  | .init => 0 | .test => 1 | .configure => 2 | .standby => 3 | .service => 4 | .degraded => 5 | .safe => 6 | .maintain => 7

/-- The mode of a code (R32). -/
def Mode.ofCode : Nat → Option Mode
  | 0 => some .init | 1 => some .test | 2 => some .configure | 3 => some .standby
  | 4 => some .service | 5 => some .degraded | 6 => some .safe | 7 => some .maintain
  | _ => none

/-- The device mode that the portal control die of a portal holds (R39). -/
def State.pdMode (s : State) (p : PortalId) : Mode := (s.die (pdDie p)).mode

/-- SERVICE or DEGRADED: door service. -/
def Mode.door (m : Mode) : Bool := m = .service || m = .degraded

/-- The sequencer runs only in SERVICE, DEGRADED and MAINTAIN (R67). -/
def Mode.runs (m : Mode) : Bool := m.door || m = .maintain

/-- CONFIGURE or later: neither INIT nor TEST. -/
def Mode.fromConfigure (m : Mode) : Bool := !(m = .init || m = .test)

/-! ## Little-endian fields (R8) -/

/-- The low `n` bytes of a number, least significant first. -/
def le : Nat → Nat → List Byte
  | 0, _ => []
  | n + 1, x => BitVec.ofNat 8 x :: le n (x / 256)

/-- The low `n` bytes of an integer in two's complement, least significant first. -/
def leI (n : Nat) (x : Int) : List Byte := le n (x % (256 ^ n : Nat)).toNat

/-- The number that bytes spell, least significant first. -/
def unLe : List Byte → Nat
  | [] => 0
  | b :: l => b.toNat + 256 * unLe l

/-- A number of `n` bytes read as two's complement. -/
def signedOf (n x : Nat) : Int := if x < 256 ^ n / 2 then x else (x : Int) - (256 ^ n : Nat)

/-- A word with one bit set or cleared. -/
def setBit {n : Nat} (x : BitVec n) (b : Nat) (v : Bool) : BitVec n := if v then x ||| (1#n <<< b) else x &&& ~~~(1#n <<< b)

/-! ## Set-wins bits (R57) -/

/-- Hardware sets a W1C bit at this instant. -/
def State.markSet (s : State) (pid unit bit : Nat) : State := { s with setNow := (pid, unit, bit) :: s.setNow }

/-- Hardware has set the bit at the present time-stamp, so a clear of it has no effect (R57). -/
def State.isSetNow (s : State) (pid unit bit : Nat) : Bool := s.setNow.contains (pid, unit, bit)

/-- The bits of a written value that clear: those written 1 and not set by hardware at this instant (R57). -/
def State.w1cMask (s : State) (pid unit : Nat) (n value : Nat) : Nat :=
  (List.range n).foldl (fun m b => if value.testBit b && !s.isSetNow pid unit b then m + 2 ^ b else m) 0

/-! ## Events (R52–R58) -/

/-- Raise an event on a die, with that die's own time-stamp of this instant (R52); the recorder memory die's come from the Hub die (R51), whose
counter is the master and whose events need no delivery (R50, R55). -/
def State.raiseAt (s : State) (d : DieId) (src code unit param : Nat) : State :=
  let e : Event := ⟨if d = 0 ∨ d = 7 then s.ts else (s.die d).ts, src, false, code, unit, param % 2 ^ 32⟩
  if d = 0 then { s with waiting := s.waiting ++ [e] } else s.modDie d fun x => { x with raised := x.raised ++ [e] }

/-- Raise an event of the Hub die. -/
def State.raise (s : State) (src code unit param : Nat) : State := s.raiseAt 0 src code unit param

/-- Raise an event of a portal, on its event source 0–7 (R52). -/
def State.raisePortal (s : State) (p : PortalId) (code unit param : Nat) : State :=
  s.raiseAt (pdDie p) p.val code unit param

/-- A value in a signed 16-bit field of an event, saturated. -/
def sat16 (x : Int) : Nat := (clampI (-32768) 32767 x % 65536).toNat

/-! ## Replies (R435–R444) -/

/-- Bytes that a reply takes in the buffer. -/
def Reply.size (r : Reply) : Nat := 10 + r.params.length

/-- The packet of a reply (R435). -/
def Reply.bytes (r : Reply) : List Byte :=
  let l := le 1 r.version ++ le 1 (128 + r.tag.toNat) ++ le 1 r.op ++ le 2 r.unit.toNat ++ le 2 r.params.length ++ le 1 r.status ++ r.params
  l ++ le 2 (Crc.crc16 l).toNat

/-- The lengths that an FD frame can carry, and their DLC (R375). -/
def fdSizes : List (Nat × Nat) :=
  (List.range 9).map (fun n => (n, n)) ++ [(12, 9), (16, 10), (20, 11), (24, 12), (32, 13), (48, 14), (64, 15)]

/-- The smallest data length of an FD frame that holds `n` bytes, with its DLC (R433). -/
def fdFit (n : Nat) : Nat × Nat := (fdSizes.find? fun x => decide (n ≤ x.1)).getD (64, 15)

/-- The CAN3 port works: both identifiers set, FD_ENABLE, NORMAL or LISTEN (R432). -/
def State.segWorks (s : State) : Bool :=
  s.view.isSet 0xD001 0 && s.view.isSet 0xD002 0 && (s.view.raw 0xA30C 0).toNat.testBit 0
    && (s.cans[3].state = .normal || s.cans[3].state = .listen)

/-- Segment k of a packet (R433): SEG, up to 63 bytes, zeros to a data length of FD. -/
def segFrame (id : Nat) (brs : Bool) (packet : List Byte) (k : Nat) : CanFrame :=
  let d := (packet.drop (63 * k)).take 63
  let last := decide (packet.length ≤ 63 * (k + 1))
  let fit := fdFit (1 + d.length)
  ⟨id.testBit 29, true, brs, false, false, BitVec.ofNat 29 id, BitVec.ofNat 4 fit.2,
    (BitVec.ofNat 8 (k + 128 * bit last) :: d ++ List.replicate 64 0).take fit.1⟩

/-- Load segment k of the head reply of the CAN3 port into mailbox 12 (R434). -/
def State.segPut (s : State) (k : Nat) : State :=
  match s.ports[1].replies with
  | [] => s
  | r :: _ =>
    let f := segFrame (s.parN 0xD002 0) (s.parN 0xD003 0 = 1) r.bytes k
    let c := s.cans[3]
    { s with cans := s.cans.set 3 { c with boxes := c.boxes.set 12 (some ⟨f, none, false, none, false, none⟩) },
             ports := s.ports.set 1 { s.ports[1] with txSeg := some k } }

/-- The CAN3 port begins its head reply when it works, sends none and mailbox 12 is free (R434). -/
def State.segLoad (s : State) : State :=
  if s.segWorks && s.ports[1].txSeg.isNone && s.cans[3].boxes[12].isNone then s.segPut 0 else s

/-- A reply enters the buffer of its port; event 41 when the SPI port's was empty (R431). -/
def State.putReply (s : State) (n : PortId) (r : Reply) : State :=
  let first := n = 0 ∧ (s.port n).replies = []
  let s := s.modPort n fun x => { x with replies := x.replies ++ [r] }
  if first then s.raise 41 0x0029 0 r.tag.toNat else if n = 1 then s.segLoad else s

/-- A reply that ends no command: its tag stays as it is (R437, R439, R443). -/
def State.replyApart (s : State) (h : Handle) (status : Nat) (full : Bool) (params : List Byte) : State :=
  s.putReply h.port ⟨(s.port h.port).version, h.tag, h.op, h.unit, status, params, false, false, full⟩

/-- Reply to a command, unless the port was reset since the command (R448). -/
def State.reply (s : State) (h : Handle) (status : Nat) (params : List Byte) : State :=
  let pt := s.port h.port
  if pt.session ≠ h.session then s
  else
    let owed := status ≠ 1 && pt.owing.getLsbD h.tag.toNat
    let r : Reply := ⟨if h.op = 0 ∧ pt.version = 0 then 1 else pt.version, h.tag, h.op, h.unit, status, params, owed, decide (status ≠ 1), false⟩
    let owing := if status = 1 then pt.owing ||| (1#128 <<< h.tag.toNat) else pt.owing &&& ~~~(1#128 <<< h.tag.toNat)
    (s.modPort h.port fun x => { x with owing := owing }).putReply h.port r

/-- The detail block of R444: PID and unit. -/
def detail (pid unit : Nat) : List Byte := le 2 pid ++ le 2 unit

/-- The status codes of R442. -/
def stDone : Nat := 0x00
def stAccepted : Nat := 0x01
def stTooLate : Nat := 0x02
def stBadOpcode : Nat := 0x10
def stBadLength : Nat := 0x11
def stBadUnit : Nat := 0x12
def stBadParam : Nat := 0x13
def stOutOfRange : Nat := 0x14
def stModeForbids : Nat := 0x20
def stSealed : Nat := 0x21
def stLoopClosed : Nat := 0x22
def stResource : Nat := 0x23
def stQueueFull : Nat := 0x30
def stTagInUse : Nat := 0x31
def stVersion : Nat := 0x40
def stFenced : Nat := 0x50
def stInternal : Nat := 0x7F

/-- A mask of portals. -/
def maskOf (l : List PortalId) : Nat := l.foldl (fun m p => m ||| 2 ^ p.val) 0

/-- The group outcome block of R24. -/
def groupBlock (included excluded failed : Nat) : List Byte := [BitVec.ofNat 8 included, BitVec.ofNat 8 excluded, BitVec.ofNat 8 failed]

/-- The address of a user group or of P* (R18). -/
def isGroup (u : Nat) : Bool := decide (u = 0x2000) || (decide (u / 4096 = 3) && decide (u % 256 = 0))

/-- The parameters of a refusal: the detail block, and before it, to a group address, the group outcome block of a command that no member
takes (R444). -/
def failParams (unit pid about : Nat) : List Byte := (if isGroup unit then groupBlock 0 0 0 else []) ++ detail pid about

/-- A reply with a failure status carries the detail block, naming no PID and the header's unit, where its opcode gives no
parameters (R444). -/
def State.refuse (s : State) (h : Handle) (status : Nat) : State := s.reply h status (failParams h.unit.toNat 0xFFFF h.unit.toNat)

/-- Send the final reply of a group operation whose members have all ended (R25). -/
def State.groupReply (s : State) (g : GroupOp) : State :=
  let failed := g.members.filter fun m => m.status ≠ stDone
  let decider := match failed.find? (fun m => m.status = stFenced) with
    | some m => some m
    | none => match failed.head? with
      | some m => some m
      | none => g.members.head?
  let block := groupBlock (maskOf (g.members.map (·.portal))) g.excluded.toNat (maskOf (failed.map (·.portal)))
  match decider with
  | none => s
  | some m => s.reply g.handle m.status (block ++ m.params)

/-- A member of a group operation has ended (R25). -/
def State.memberEnd (s : State) (id : Nat) (p : PortalId) (status : Nat) (params : List Byte) : State :=
  let upd := fun (g : GroupOp) =>
    if g.id = id then
      { g with members := g.members.map fun m => if m.portal = p ∧ !m.ended then ⟨p, true, status, params⟩ else m }
    else g
  let gs := s.groups.map upd
  let (ended, rest) := gs.partition fun g => g.members.all (·.ended)
  foldState ended (fun g t => t.groupReply g) { s with groups := rest }

/-- End a portal command: the final reply to the host, the member's part of a group command, or nothing (R25, R85, R86). -/
def State.finish (s : State) (p : PortalId) (r : CmdRef) (status : Nat) (params : List Byte) : State :=
  match r with
  | .host h => s.reply h status params
  | .group id => s.memberEnd id p status params
  | .silent => s

/-- End several portal commands with one reply each. -/
def State.finishAll (s : State) (p : PortalId) (l : List CmdRef) (status : Nat) (params : List Byte) : State :=
  foldState l (fun r t => t.finish p r status params) s

/-! ## Free values -/

/-- Draw a fresh free number (log 8). -/
def State.drawNat (s : State) : Nat × State := (Config.freeNat s.free, { s with free := s.free + 1 })

/-- Draw a fresh free rational (log 8). -/
def State.drawRat (s : State) : Rat × State := (Config.freeRat s.free, { s with free := s.free + 1 })

/-- The pair state of R292: 0 DEASSERTED, 1 ASSERTED, 2 DISCREPANT. -/
def pairState (a b : Bool) : Nat := if a = b then 2 else if a then 1 else 0

/-! ## Portal safety inputs as the other chapters use them (R289–R292) -/

/-- A single input n is active: its accepted level, after SI_POL; not before the first sample, and not when it is not fitted (R290, R291). -/
def State.siActive (s : State) (p : PortalId) (n : Fin 12) (polBit : Nat) (fitBit : Option Nat) : Bool :=
  let x := s.portal p
  let pol := (s.parN 0x8000 (uPortal p)).testBit polBit
  let fit := match fitBit with
    | none => true
    | some b => (s.parN 0x8001 (uPortal p)).testBit b
  x.siAdopted && fit && (x.si[n] != pol)

/-- CL0 active (R289). -/
def State.cl0 (s : State) (p : PortalId) : Bool := s.siActive p 0 0 none
/-- CL1 active (R289). -/
def State.cl1 (s : State) (p : PortalId) : Bool := s.siActive p 1 1 none
/-- SE0 active (R289, R291). -/
def State.se0 (s : State) (p : PortalId) : Bool := s.siActive p 8 2 (some 0)
/-- SE1 active (R289, R291). -/
def State.se1 (s : State) (p : PortalId) : Bool := s.siActive p 9 3 (some 1)
/-- STW active (R289). -/
def State.stw (s : State) (p : PortalId) : Bool := s.siActive p 10 4 none
/-- OBS active (R289, R291). -/
def State.obs (s : State) (p : PortalId) : Bool := s.siActive p 11 5 (some 2)

/-- The state of pair k of a portal: 0 LK, 1 EH, 2 IS; none agrees before the first sample (R290, R292). -/
def State.pairSt (s : State) (p : PortalId) (k : Fin 3) : Nat :=
  let x := s.portal p
  if x.siAdopted then pairState x.si[2 + 2 * k.val] x.si[3 + 2 * k.val] else 2

/-- LK_A and LK_B confirm locked (R292). -/
def State.lkLocked (s : State) (p : PortalId) : Bool := s.pairSt p 0 = 1
/-- LK_A and LK_B show unlocked (R292). -/
def State.lkUnlocked (s : State) (p : PortalId) : Bool := s.pairSt p 0 = 0
/-- The emergency handle is active (R87). -/
def State.ehActive (s : State) (p : PortalId) : Bool := s.pairSt p 1 = 1
/-- The isolation switch is active (R88). -/
def State.isActive (s : State) (p : PortalId) : Bool := s.pairSt p 2 = 1

/-- ZS_A and ZS_B agree on zero speed without a discrepancy fault (R69, R295). -/
def State.zsPairOk (s : State) : Bool :=
  s.safety.zsAdopted && s.safety.zsA && !s.safety.zsB && !s.safety.zsFault

/-- The vehicle's telegram shows zero speed (R417, R418). -/
def State.zsTold (s : State) : Bool := s.tele.zs.valid && decide (s.tele.zs.byte0 = 0xA5)

/-- The release mask as accepted; 0 while the stream is NOT_VALID (R417, R418). -/
def State.relMask (s : State) : BitVec 8 := if s.tele.rel.valid then s.tele.rel.byte0 else 0

/-- Zero speed is confirmed (R69). -/
def State.zsConfirmed (s : State) : Bool := s.zsPairOk && s.zsTold

/-- Release is present for a portal (R69). -/
def State.released (s : State) (p : PortalId) : Bool := s.relMask.getLsbD p.val

/-- Event 0x002E (R322). -/
def State.zsEvent (s : State) : State :=
  let x := s.safety
  s.raise 46 0x002E 0 (bit s.zsConfirmed + 2 * pairState x.zsA x.zsB + 8 * bit s.zsTold + 16 * bit x.zsFault)

/-- Zero speed has changed between confirmed and not confirmed (R295). -/
def State.zsReport (s : State) : State :=
  let now := s.zsConfirmed
  if now = s.safety.zsShown then s else { s with safety := { s.safety with zsShown := now } }.zsEvent

/-! ## Positions -/

/-- Full-resolution observer position of an interface, 0.01 mm: x = s·(c − c0)·FB_RES/10,000 applied to x_hat (R232, R237).
x_hat already carries the sign s. -/
def State.fbX (s : State) (p : PortalId) (f : FbId) : Rat :=
  (s.fb p f).xHat * (s.parN 0x6001 (uFb p f) : Rat) / 10000

/-- Observer speed, mm/s (R237): counts/s × FB_RES in nm / 10^6. -/
def State.fbV (s : State) (p : PortalId) (f : FbId) : Rat :=
  (s.fb p f).vHat * (s.parN 0x6001 (uFb p f) : Rat) / 1000000

/-- Observer acceleration, mm/s² (R237). -/
def State.fbA (s : State) (p : PortalId) (f : FbId) : Rat :=
  (s.fb p f).aHat * (s.parN 0x6001 (uFb p f) : Rat) / 1000000

/-- The feedback interface of a leaf. -/
def fbOfLeaf (l : LeafId) : FbId := ⟨l.val, by omega⟩

/-- x_obs of a leaf, 0.01 mm. -/
def State.xObs (s : State) (p : PortalId) (l : LeafId) : Rat := s.fbX p (fbOfLeaf l)
/-- v_obs of a leaf, mm/s. -/
def State.vObs (s : State) (p : PortalId) (l : LeafId) : Rat := s.fbV p (fbOfLeaf l)
/-- a_obs of a leaf, mm/s². -/
def State.aObs (s : State) (p : PortalId) (l : LeafId) : Rat := s.fbA p (fbOfLeaf l)

/-- OPEN_POS of a leaf. -/
def State.openPos (s : State) (p : PortalId) (l : LeafId) : Int := s.par 0x1010 (uLeaf p l)

/-- The leaf lies within CLOSED_WINDOW of a position (R71, R72). -/
def State.near (s : State) (p : PortalId) (l : LeafId) (x : Int) : Bool :=
  let w : Rat := s.par 0x1011 (uLeaf p l)
  decide (s.xObs p l - x ≤ w) && decide (-w ≤ s.xObs p l - x)

/-- The leaf shows STILL (R238). -/
def State.leafStill (s : State) (p : PortalId) (l : LeafId) : Bool := (s.fb p (fbOfLeaf l)).still

/-- Position of the step, 0.01 mm, truncated towards zero (R200). -/
def State.stepPosR (s : State) (p : PortalId) : Rat :=
  let t := s.stepOf p
  ((t.phi - t.phi0).toInt : Rat) * (s.parN 0x5000 (uStep p) : Rat) / 2560000

/-- STEP_POS (R200). -/
def State.stepPos (s : State) (p : PortalId) : Int := truncR (s.stepPosR p)

/-- The closed contacts of every present leaf are active (R73). -/
def State.closedContacts (s : State) (p : PortalId) : Bool := s.cl0 p && (!s.twoLeaves p || s.cl1 p)

/-- Every present leaf lies within CLOSED_WINDOW of 0 (R73). -/
def State.inWindow (s : State) (p : PortalId) : Bool := (s.leaves p).all fun l => s.near p l 0

/-- The LOCKED condition of R73. -/
def State.lockedCond (s : State) (p : PortalId) : Bool :=
  s.closedContacts p && s.lkLocked p && (!s.stepFitted p || s.stw p) && s.inWindow p

/-- F2 is in use (R212). -/
def State.f2InUse (s : State) (p : PortalId) : Bool :=
  decide (s.parN 0x6000 (uFb p 2) ≠ 0) && decide ((s.fb p 2).fault = 0) && (s.stepOf p).delta.isSome

/-- The step is STILL: 10 ms without a microstep, and F2 STILL when it is in use (R202). -/
def State.stepStill (s : State) (p : PortalId) : Bool :=
  (match (s.stepOf p).lastMicro with
    | none => true
    | some t => s.elapsed t (ms 10))
  && (!s.f2InUse p || (s.fb p 2).still)

/-- F2 confirms the position of the step (R212). -/
def State.f2Confirms (s : State) (p : PortalId) : Bool :=
  match (s.stepOf p).delta with
  | none => false
  | some d =>
    let e := s.fbX p 2 - d - s.stepPosR p
    let tol : Rat := s.par 0x5036 (uStep p)
    s.f2InUse p && s.stepStill p && decide (e ≤ tol) && decide (-tol ≤ e)

end Sys2Proof.Machine
end

