-- ==== Sys2Proof/Machine/Owners.lean ====
section
/-! DEFINITION. Slots and their owners, role channels, valves: who drives what (R63, R95, R122, R133–R135). -/

namespace Sys2Proof.Machine

/-! ## Slots and their owners (R122, R133) -/

/-- The slot of leaf l of portal p that serves loop j: 0 d-axis, 1 q-axis, 2 speed, 3 position (R122). -/
def leafSlot (p : PortalId) (l : LeafId) (j : Fin 4) : SlotId := ⟨4 * (2 * (p.val % 4) + l.val) + j.val, by omega⟩

/-- The portal of a leaf slot (R133). -/
def slotPortal (d : PdId) (n : SlotId) : PortalId := ⟨(4 * d.val + n.val / 8) % 8, by omega⟩
/-- The leaf of a leaf slot (R133). -/
def slotLeaf (n : SlotId) : LeafId := ⟨n.val / 4 % 2, by omega⟩
/-- The loop of a leaf slot (R122). -/
def slotLoop (n : SlotId) : Fin 4 := ⟨n.val % 4, by omega⟩

/-- The address of slot parameters (R165). -/
def uEngine (d : PdId) : Nat := 0x4100 + 0x100 * d.val

/-- Parameter field f of a slot (R165). -/
def State.slotPar (s : State) (d : PdId) (n : SlotId) (f : Nat) : Int := s.par (0x3000 + 0x40 * f + n.val) (uEngine d)

/-- The value of a slot parameter without the substitution of R521. -/
def State.slotRaw (s : State) (d : PdId) (n : SlotId) (f : Nat) : Int := s.view.raw (0x3000 + 0x40 * f + n.val) (uEngine d)

/-- A slot parameter is set. -/
def State.slotIsSet (s : State) (d : PdId) (n : SlotId) (f : Nat) : Bool := s.view.isSet (0x3000 + 0x40 * f + n.val) (uEngine d)

/-- The owner portal of a slot: that of its leaf, or the one SLOT_PORTAL names (R133). -/
def State.slotOwner (s : State) (d : PdId) (n : SlotId) : Option PortalId :=
  if n.val < 32 then some (slotPortal d n)
  else match s.parNames (0x34C0 + n.val) (uEngine d) with
    | some q => if h : q < 8 then some ⟨q, h⟩ else none
    | none => none

/-- The unit that a slot's events name: its leaf, or its owner portal (R149, R160). -/
def State.slotUnit (s : State) (d : PdId) (n : SlotId) : Nat :=
  if n.val < 32 then uLeaf (slotPortal d n) (slotLeaf n)
  else match s.slotOwner d n with
    | some p => uPortal p
    | none => uEngine d

/-- The die number of an engine's die. -/
def engineDie (d : PdId) : DieId := ⟨1 + d.val, by omega⟩

/-- SLOT_IO of a general slot (R134). -/
def State.slotIo (s : State) (d : PdId) (n : SlotId) : Nat := (s.slotRaw d n 20).toNat

/-- The output channel of a general slot, when it has one (R134). -/
def State.slotOut (s : State) (d : PdId) (n : SlotId) : Option (PortalId × ChanId) :=
  let io := s.slotIo d n
  if 32 ≤ n.val ∧ io / 256 % 16 = 1 then
    match s.slotOwner d n with
    | some p => if h : io / 4096 % 16 < 8 then some (p, ⟨io / 4096 % 16, h⟩) else none
    | none => none
  else none

/-- The slot that owns a channel as its output while it is not DISABLED (R135). -/
def State.slotOfChan (s : State) (p : PortalId) (c : ChanId) : Option (PdId × SlotId) :=
  ((List.finRange 64).find? fun n => (s.slot (pdOf p) n).mode ≠ .disabled && s.slotOut (pdOf p) n = some (p, c)).map fun n => (pdOf p, n)

/-! ## Role channels (R63, R95) -/

/-- The role parameter that a channel serves, if it is a role channel of its portal (R63). -/
def View.roleOf (v : View) (p : PortalId) (c : Nat) : Option Nat :=
  ([0x1001, 0x1002] ++ (if v.pneumatic p then [0x1004, 0x1005, 0x1006, 0x1007] else [])).find? fun pid =>
    v.names pid (uPortal p) = some c

/-- The valve channels of a leaf (R95). -/
def State.valves (s : State) (p : PortalId) (l : LeafId) : Option Nat × Option Nat :=
  if l = 0 then (s.parNames 0x1004 (uPortal p), s.parNames 0x1005 (uPortal p))
  else (s.parNames 0x1006 (uPortal p), s.parNames 0x1007 (uPortal p))

end Sys2Proof.Machine
end

