-- ==== Sys2Proof/Machine/ChanOps.lean ====
section
/-! DEFINITION. The channel state machine of a power die (R255–R274): owners, fail-safe states, the decision of R264, conduction. -/

namespace Sys2Proof.Machine

/-! ## Owners and fail-safe causes (R255, R265) -/

/-- A channel is a role channel of a present portal (R63). -/
def State.isRole (s : State) (p : PortalId) (c : ChanId) : Bool := s.present p && (s.view.roleOf p c.val).isSome

/-- The event source of the power die of a portal (R52). -/
def pwSrc (p : PortalId) : Nat := 16 + p.val / 2

/-- The host watchdog has expired, or counts as expired: with WDG_REQUIRED = 1 a stopped watchdog does in SERVICE and DEGRADED
(R456, R457). -/
def State.wdgExpired (s : State) : Bool := decide (s.wdg.state = 2) || (s.par 0xD000 0 = 1 && s.wdg.state = 0 && s.mode.door)

/-- A fail-safe cause of R265 applies to a channel of a present portal. -/
def State.fsCause (s : State) (p : PortalId) : Bool :=
  let m := (s.die (pwDie p)).mode
  s.present p && (m = .configure || m = .safe || (s.portal p).fsHeartbeat || s.wdgExpired || (s.portal p).fsFenced)

/-- Fail-safe applied or released on the portals of a power die, for a device-wide cause: one event, naming its one present portal or both
(R288). -/
def State.fsDieEvent (s : State) (k : PwId) (set : Bool) (cause : Nat) : State :=
  let a : PortalId := ⟨2 * k.val, by omega⟩
  let b : PortalId := ⟨2 * k.val + 1, by omega⟩
  let who := if s.present a && s.present b then some 255 else if s.present a then some a.val else if s.present b then some b.val else none
  match who with
  | some w => s.raiseAt (pwDie a) (pwSrc a) (if set then 0x0420 else 0x0421) (uDie (3 + k.val)) (cause + 256 * w)
  | none => s

/-- The same on every power die. -/
def State.fsDeviceEvent (s : State) (set : Bool) (cause : Nat) : State :=
  foldState [0, 1, 2, 3] (fun (k : PwId) t => t.fsDieEvent k set cause) s

/-- Fail-safe applied or released on one portal (R288). -/
def State.fsPortalEvent (s : State) (p : PortalId) (set : Bool) (cause : Nat) : State :=
  s.raiseAt (pwDie p) (pwSrc p) (if set then 0x0420 else 0x0421) (uDie (3 + p.val / 2)) (cause + 256 * p.val)

/-- The owner's demand (R255): the sequencer, a slot, or the host; a channel whose CH_MODE is not set stays off. -/
def State.ownerDemand (s : State) (p : PortalId) (c : ChanId) : Bool :=
  let x := s.chan p c
  if s.isRole p c then x.seqDemand
  else if (s.slotOfChan p c).isSome then x.slotDuty.isSome
  else x.hostDemand

/-- The demand after any fail-safe state (R264 rows 4 and 5); off in INIT and TEST, for an absent portal, and with CH_MODE not set. -/
def State.wantOn (s : State) (p : PortalId) (c : ChanId) : Bool :=
  let x := s.chan p c
  let mode := if x.demand then x.modeIn else s.parN 0x7000 (uChan p c)
  s.present p && (s.die (pwDie p)).mode.fromConfigure && decide (mode ≠ 0) &&
    (if s.fsCause p then (x.fsReg = 1 || (x.fsReg = 2 && x.holdDemand)) else s.ownerDemand p c)

/-- A supply anomaly that turns the channels of a portal off: undervoltage, reverse polarity, ground loss (R279). -/
def State.supplyOff (s : State) (p : PortalId) : Bool :=
  (s.portal p).vlsStatus.getLsbD 0 || (s.portal p).vlsStatus.getLsbD 1 || (s.portal p).vlsStatus.getLsbD 3

/-- The energy-fence override of a valve channel (R183). -/
def State.efOff (s : State) (p : PortalId) (c : ChanId) : Bool :=
  s.pneumatic p && (s.leaves p).any fun l =>
    (s.portal p).valveOff[l] && ((s.valves p l).1 = some c.val || (s.valves p l).2 = some c.val)

/-- Rows 1 to 3 of R264 hold the channel off. -/
def State.heldOff (s : State) (p : PortalId) (c : ChanId) : Bool :=
  let x := s.chan p c
  s.supplyOff p || x.thermLatch || x.ocLatch || x.retrySince.isSome || !s.gates || s.power.flushed || s.efOff p c

/-! ## Conduction -/

/-- A channel parameter that is taken at the rise of the demand (R286). -/
def Channel.par (x : Channel) (dflt : Int) (pid : Nat) : Int :=
  match x.latched.find? fun e => e.1 = pid with
  | some e => e.2
  | none => dflt

/-- A channel parameter as the running demand took it (R286). -/
def State.chanPar (s : State) (p : PortalId) (c : ChanId) (pid : Nat) : Int := (s.chan p c).par (s.par pid (uChan p c)) pid

/-- The parameters taken at the rise of the demand (R286). -/
def chanLatchPids : List Nat := [0x7003, 0x7005, 0x7006, 0x7007, 0x7008, 0x7009, 0x700A, 0x700B, 0x700C]

/-- Conduction accumulated up to now (R271). -/
def Channel.conducted (x : Channel) (now : Ts) : Nat :=
  match x.condSince with
  | none => x.condAcc
  | some (t, none) => x.condAcc + now.since t
  | some (t, some m) => x.condAcc + min m (now.since t)

/-- Switch the output on, for at most `lim` counts of the period, or off (R269, R271). A turn-on begins a blanking window: the switch was off, or
its last period ended in an off-time. -/
def Channel.drive (x : Channel) (now : Ts) (on : Bool) (lim : Option Nat) : Channel :=
  let paused := match x.condSince with
    | some (_, some _) => true
    | _ => false
  let turnOn := on && (!x.on || paused)
  { x with on := on, offAt := if x.on && !on then some (now, x.blankSince) else x.offAt, condAcc := x.conducted now, condSince := if on then some (now, lim) else none,
           blankSince := if turnOn then some now else if on then x.blankSince else none,
           limiting := on && !turnOn && x.limiting }

/-- Counts of a PWM period (R258). -/
def State.pwmPeriod (s : State) (p : PortalId) (c : ChanId) : Nat := 100000000 / (s.chanPar p c 0x7003).toNat

/-- The flash step of a time-stamp is on (R261). -/
def flashOn (pattern step : Nat) (t : Ts) : Bool := pattern.testBit (t.toNat / (100000 * step) % 16)

/-- The time-stamp of the power die of a portal (R258, R261). -/
def State.pwTs (s : State) (p : PortalId) : Ts := (s.die (pwDie p)).ts

/-- The duty that the owner of a PWM channel asks for: a slot's, or CH_DUTY (R134, R257). -/
def State.ownerDuty (s : State) (p : PortalId) (c : ChanId) : Nat :=
  match (s.chan p c).slotDuty with
  | some d => if (s.slotOfChan p c).isSome ∧ !s.isRole p c then d else s.parN 0x7004 (uChan p c)
  | none => s.parN 0x7004 (uChan p c)

/-- What R282 keeps of a channel. -/
def Channel.toPast (x : Channel) : ChanPast :=
  ⟨x.demand, x.modeIn, x.latched, x.allowed, x.on, x.condAcc, x.condSince, x.dutyEff, x.pwmDuty, x.blankSince, x.limiting, x.pullSince, x.retrySince,
   x.switchings, x.fsSince, x.holdDemand, x.holdDuty⟩

/-- A channel goes on as it was: a new fail-safe cause begins at the clock at which the last one ended (R282). -/
def Channel.ofPast (x : Channel) (y : ChanPast) : Channel :=
  { x with demand := y.demand, modeIn := y.modeIn, latched := y.latched, allowed := y.allowed, on := y.on, condAcc := y.condAcc,
           condSince := y.condSince, dutyEff := y.dutyEff, pwmDuty := y.pwmDuty, blankSince := y.blankSince, limiting := y.limiting,
           pullSince := y.pullSince, retrySince := y.retrySince, switchings := y.switchings, fsSince := y.fsSince, holdDemand := y.holdDemand,
           holdDuty := y.holdDuty, past := none }

/-- The fail-safe side of a decision (R265, R267, R282): HOLD takes the demand and the duty in force at the first cause; at the end of the last
one a slot-owned channel waits for its slot. -/
def State.chanFailSafe (s : State) (p : PortalId) (c : ChanId) : Channel :=
  let x := s.chan p c
  match s.fsCause p, x.fsSince with
  | true, some _ => x
  | true, none =>
    let fresh : Channel := { x with fsSince := some s.ts, holdDemand := x.demand, holdDuty := x.pwmDuty.getD (s.ownerDuty p c) }
    (match x.past with
     | some (t, y) => if t = s.ts then x.ofPast y else fresh
     | none => fresh)
  | false, some _ => { x with fsSince := none, slotDuty := none, past := some (s.ts, x.toPast) }
  | false, none => x

/-- The channel state machine takes its decision of R264 for the present inputs: rises and falls of the demand, returns to conduction. -/
def State.chanSync (s : State) (p : PortalId) (c : ChanId) : State :=
  let x1 := s.chanFailSafe p c
  let s1 := s.modChan p c fun _ => x1
  let want := s1.wantOn p c
  let rise := want && !x1.demand
  let x2 := if rise then { x1 with demand := true, modeIn := s.parN 0x7000 (uChan p c), switchings := satInc 4294967295 x1.switchings,
                                   latched := chanLatchPids.map fun q => (q, s.par q (uChan p c)) }
    else if want then x1
    else { x1 with demand := false, retrySince := none, latched := [] }
  let s2 := s.modChan p c fun _ => x2
  let allowed := want && !s2.heldOff p c
  let x3 :=
    if !allowed then { x2.drive s.ts false none with allowed := false, pullSince := none, dutyEff := 0, pwmDuty := none }
    else if x2.allowed then { x2 with allowed := true }
    else
      let x2 := { x2 with allowed := true }
      match x2.modeIn with
      | 1 => { x2.drive s.ts true none with dutyEff := 1000 }
      | 4 => { x2.drive s.ts true none with pullSince := some s.ts, dutyEff := 1000 }
      | 5 => let on := flashOn (s2.chanPar p c 0x7008).toNat (s2.chanPar p c 0x7009).toNat (s.pwTs p)
             { x2.drive s.ts on none with dutyEff := if on then 1000 else 0 }
      | _ => x2.drive s.ts false none
  s.modChan p c fun _ => x3

/-- Every channel of a portal. -/
def State.chansSync (s : State) (p : PortalId) : State := foldState (List.finRange 8) (fun c t => t.chanSync p c) s

/-- Every channel of the device. -/
def State.allChansSync (s : State) : State := foldState allPortals (fun p t => t.chansSync p) s

/-- The sequencer switches the channel of a role (R63, R64). -/
def State.setRole (s : State) (p : PortalId) (ch : Option Nat) (on : Bool) : State :=
  match ch with
  | some k => if h : k < 8 then (s.modChan p ⟨k, h⟩ fun x => { x with seqDemand := on }).chanSync p ⟨k, h⟩ else s
  | none => s

/-- The lock channel (R64). -/
def State.setLock (s : State) (p : PortalId) (on : Bool) : State :=
  s.setRole p (s.parNames 0x1001 (uPortal p)) on

/-- The warn channel (R64). -/
def State.setWarn (s : State) (p : PortalId) (on : Bool) : State :=
  (s.modPortal p fun x => { x with warnOn := on }).setRole p (s.parNames 0x1002 (uPortal p)) on

/-- The valves of a leaf (R95). -/
def State.setValves (s : State) (p : PortalId) (l : LeafId) (op cl : Bool) : State :=
  (s.setRole p (s.valves p l).1 op).setRole p (s.valves p l).2 cl

/-- CH_STATE (R287). -/
def State.chState (s : State) (p : PortalId) (c : ChanId) : Nat :=
  let x := s.chan p c
  if s.supplyOff p then 6
  else if x.thermLatch then 5
  else if x.ocLatch then 4
  else if x.retrySince.isSome then 3
  else if !s.gates || s.efOff p c then 7
  else if !x.demand then 0
  else if x.limiting && !s.ran x.blankSince (us (s.chanPar p c 0x700A).toNat) then 2
  else 1

/-- CH_STATUS (R287). -/
def State.chStatus (s : State) (p : PortalId) (c : ChanId) : Nat :=
  let x := s.chan p c
  s.chState p c + 8 * bit x.demand + 16 * bit (s.fsCause p) + 32 * bit (s.efOff p c) + 64 * bit (!s.gates) + 128 * bit x.pullSince.isSome
    + 256 * bit x.tempWarn + 512 * bit x.shutdownSeen + 1024 * bit (s.isRole p c)
    + 2048 * bit (!s.isRole p c && (s.slotOfChan p c).isSome)

/-- A CH_PULSE in progress ends (R262): its final reply with CH_STATUS. -/
def State.endPulse (s : State) (p : PortalId) (c : ChanId) (status : Nat) : State :=
  let x := s.chan p c
  let s := s.modChan p c fun y => { y with pulseEnd := none, pulseReply := none }
  match x.pulseReply with
  | some h => s.reply h status (le 2 (s.chStatus p c))
  | none => s

/-- Every CH_PULSE of a portal ends. -/
def State.endPulses (s : State) (p : PortalId) (status : Nat) : State :=
  foldState (List.finRange 8) (fun c t => if (t.chan p c).pulseEnd.isSome then t.endPulse p c status else t) s

/-- The slots' duties of a portal go (R144, R267). -/
def State.slotsOff (s : State) (p : PortalId) : State :=
  (s.modPortal p fun x => { x with chans := x.chans.map fun (y : Channel) => { y with slotDuty := none } }).chansSync p

/-- The host's demands of a portal go off: at each entry to CONFIGURE, TEST, SAFE and STANDBY, and at the end of a fail-safe cause
(R263, R267). -/
def State.hostOff (s : State) (p : PortalId) : State :=
  (s.modPortal p fun x => { x with chans := x.chans.map fun (y : Channel) => { y with hostDemand := false } }).chansSync p

/-- A thermal latch that cannot be cleared yet (R273). -/
def State.tooHot (s : State) (p : PortalId) (c : ChanId) : Bool := (s.chan p c).thermLatch && decide (1500 ≤ (s.chan p c).temp)

end Sys2Proof.Machine
end

