-- ==== Sys2Proof/Machine/Fence.lean ====
section
/-! DEFINITION. Drive states, the end of a tune, immediate stops, and fencing a portal: the one operation by which every fault of a
portal acts (R89, R106, R107, R157, R211). -/

namespace Sys2Proof.Machine

/-! ## Slots that stop -/

/-- A slot that stops ticking or is disabled: output, integrator, offset and both histories cleared (R143, R144). -/
def Slot.cleared (x : Slot) : Slot :=
  { x with running := false, eHist := [0, 0, 0], wHist := [0, 0, 0], i := 0, o := 0, u := 0, preset := true, uApp := none, ramp := 0,
           outSat := false, intSat := false }

/-- The loop j of a leaf runs in a drive state (R104, R144). -/
def loopRuns (bdc : Bool) (j : Fin 4) : Drive → Bool
  | .position | .creep => !(bdc && j.val < 2)
  | .aligning | .force => j.val < 2 && !bdc
  | _ => false

/-! ## The end of a tune (R157) -/

/-- A tune ends with an outcome: the slot holds with its output at the bias, or at 0 where it has stopped ticking (R144), event 0x0034, the final
reply. The manual gives event 0x0034 no parameter: it is a free value (log 9). -/
def State.endTune (s : State) (d : PdId) (n : SlotId) (outcome status : Nat) (results : List Byte) : State :=
  match (s.slot d n).tune with
  | none => s
  | some t =>
    let (v, s) := s.drawNat
    let s := s.modSlot d n fun x =>
      if x.running then { x with mode := .hold, u := t.bias, tune := none, endAt := some s.ts }
      else { x.cleared with mode := .hold, tune := none, endAt := some s.ts }
    let s := s.raiseAt (engineDie d) 52 0x0034 (s.slotUnit d n) v
    match t.reply with
    | some h => s.reply h status (BitVec.ofNat 8 outcome :: results)
    | none => s

/-- A tune that ends other than COMPLETED leaves its results 0 (R157). -/
def State.abortTune (s : State) (d : PdId) (n : SlotId) (outcome status : Nat) : State :=
  if (s.slot d n).tune.isSome then
    (s.endTune d n outcome status []).modSlot d n fun x =>
      { x with tuTu := 0, tuAmp := 0, tuKu := 0, tuShift := 0, tuB0 := 0, tuKi := 0, tuKb := 0, tuFlags := 0 }
  else s

/-- The LOOP_CLOSE commands whose transfer has not come end when the slot leaves AUTO: no preset was clamped (R164; log 17). -/
def State.endClosing (s : State) (d : PdId) (n : SlotId) : State :=
  let x := s.slot d n
  foldState x.closing (fun h t => t.reply h stDone [if x.running then 0 else 2]) (s.modSlot d n fun y => { y with closing := [] })

/-- Start or stop the four slots of a leaf as its drive state asks (R144, R181); a LOOP_CLOSE that waits for the transfer of a slot that
stops ticking is answered so (R164). -/
def State.syncSlots (s : State) (p : PortalId) (l : LeafId) : State :=
  let bdc := s.leafMode p l = 2
  let x := s.leaf p l
  foldState [0, 1, 2, 3] (fun (j : Fin 4) t =>
    let n := leafSlot p l j
    let d := pdOf p
    let run := loopRuns bdc j x.drive && x.det.efSince.isNone
    if run then t.modSlot d n fun y => { y with running := true }
    else if (t.slot d n).running then (t.modSlot d n Slot.cleared).endClosing d n
    else t) s

/-- Every tune of a slot that a portal owns ends (R157). -/
def State.abortTunes (s : State) (p : PortalId) (outcome status : Nat) : State :=
  foldState (List.finRange 64) (fun n t => if t.slotOwner (pdOf p) n = some p then t.abortTune (pdOf p) n outcome status else t) s

/-! ## Leaf drive states (R104–R107) -/

/-- A modulating drive state (R104). -/
def Drive.modulating : Drive → Bool
  | .aligning | .position | .creep | .force => true
  | _ => false

/-- End an energy-fence brake of a leaf: event 0x0322 with the highest energy (R181). -/
def State.endEfBrake (s : State) (p : PortalId) (l : LeafId) : State :=
  let x := (s.leaf p l).det
  if x.efSince.isSome then
    ((s.modLeaf p l fun y => { y with efOverride := false }).modDet p l fun x =>
      { x with efSince := none, status := x.status &&& ~~~0x80#16 }).raisePortal p 0x0322 (uLeaf p l) x.efPeak
  else s

/-- The PWM unit as a drive state asks for it. The counter runs from the rise of GD_EN on, whose phase no rule states (log 40); outside
modulation no compare value is in force or waits, so that a set that a trip meets is discarded (R104, R128). -/
def Pwm.driven (x : Pwm) (d : Drive) (t : Ts) : Pwm :=
  let x := { x with enable := !(d = .off || d = .tripped), brake := decide (d = .brake), zero := if x.enable then x.zero else t }
  if d.modulating then x else { x with cmp := Vector.replicate 3 0, prev := Vector.replicate 3 0, next := none }

/-- Since when some leaf of a portal modulates without a break (R114). -/
def State.modWatch (s : State) (p : PortalId) : State :=
  let on := (s.leaves p).any fun l => (s.leaf p l).drive.modulating
  s.modPortal p fun x =>
    if on then (if x.modSince.isSome && x.modUntil.isNone then x else { x with modSince := some s.ts, modUntil := none })
    else { x with modUntil := if x.modUntil.isSome then x.modUntil else some s.ts }

/-- Put a leaf into a drive state, with its lines and slots (R104, R109). -/
def State.setDrive (s : State) (p : PortalId) (l : LeafId) (d : Drive) : State :=
  let s := if (s.leaf p l).drive = d then s else if d.modulating then s else s.endEfBrake p l
  let s := s.modLeaf p l fun x =>
    { x with drive := d, driveSince := if x.drive = d then x.driveSince else s.ts, pwm := x.pwm.driven d s.ts,
             enableSince := if x.pwm.enable then x.enableSince else s.ts,
             enableUntil := if x.pwm.enable && (d = .off || d = .tripped) then some s.ts else x.enableUntil,
             vCmd := if d.modulating then x.vCmd else 0 }
  (s.modWatch p).syncSlots p l

/-- A leaf whose drive is used: not DISABLED, and not on a pneumatic portal (R95, R103). -/
def State.driven (s : State) (p : PortalId) (l : LeafId) : Bool :=
  s.leafPresent p l && !s.pneumatic p && decide (s.leafMode p l ≠ 0)

/-- The short brake of R106: through STARTING from OFF, with BOOT_TIME skipped; a tripped leaf cannot brake. -/
def State.leafBrake (s : State) (p : PortalId) (l : LeafId) : State :=
  if !s.driven p l then s
  else match (s.leaf p l).drive with
    | .tripped | .brake => s
    | .off => (s.setDrive p l .starting).modLeaf p l fun x => { x with wanted := .brake, hallRef := false }
    | .starting => if (s.leaf p l).wanted = .brake then s else (s.setDrive p l .brake)
    | _ => s.setDrive p l .brake

/-- The short brake that a fault asks of a leaf: a leaf whose portal state keeps it OFF stays so (R87, R105, R107). -/
def State.faultBrake (s : State) (p : PortalId) (l : LeafId) : State :=
  let st := (s.portal p).state
  if ((s.pdMode p).runs ∧ st ≠ .isolated ∧ st ≠ .emergency) ∨ s.pdMode p = .safe then s.leafBrake p l else s

/-- A leaf trips, held by hardware (R113, R116). -/
def State.leafTrip (s : State) (p : PortalId) (l : LeafId) : State := s.setDrive p l .tripped

/-- A leaf goes to OFF, unless it is held tripped (R105). -/
def State.leafOff (s : State) (p : PortalId) (l : LeafId) : State :=
  if (s.leaf p l).drive = .tripped then s else s.setDrive p l .off

/-! ## The step's stop (R197, R211) -/

/-- A working parameter of the step: as latched at the last start from v = 0; before the first start, its value (R223). -/
def State.stepPar (s : State) (p : PortalId) (pid : Nat) : Rat :=
  match (s.stepOf p).latched.find? fun e => e.1 = pid with
  | some e => (e.2 : Rat)
  | none => (s.par pid (uStep p) : Rat)

/-- The standstill setting (R197). -/
def State.standstill (s : State) (p : PortalId) : StepDrive := if s.stepPar p 0x5008 = 1 then .shorted else .off

/-- The "Stopped" step of R64 (R197). -/
def State.stoppedDrive (s : State) (p : PortalId) : StepDrive :=
  if s.stepPar p 0x5007 ≠ 0 then .holding else s.standstill p

/-- Set POSITION_UNCERTAIN, with event 0x0331 and its reason (R213, R225). -/
def State.stepUncertain (s : State) (p : PortalId) (reason stateCode : Nat) : State :=
  (s.modStep p fun x => { x with uncertain := true, confirm := none }).raisePortal p 0x0331 (uStep p) (reason + 256 * stateCode)

/-- The codes of the portal states (R64). -/
def PState.code : PState → Nat
  | .absent => 0 | .isolated => 1 | .locked => 2 | .stepDeploy => 3 | .unlocking => 4 | .opening => 5 | .open => 6 | .closing => 7
  | .reopening => 8 | .locking => 9 | .stepStow => 10 | .emergency => 11 | .fenced => 12 | .jog => 13

/-- One carry of the phase accumulator (R203, R205): a microstep at the old resolution, the stop at the target, then a pending
rescale whose grid fits. `t` is the time of the carry. -/
def Step.carry (x : Step) (t : Ts) : Step :=
  let sg : Int := if x.v < 0 then -1 else 1
  let phi := x.phi + BitVec.ofInt 32 (sg * (256 / x.r : Nat))
  let x := { x with phi := phi, dir := decide (sg = 1), lastMicro := some t, genAt := t }
  if phi = x.phiT ∧ x.drive = .moving then { x with v := 0, w := 0, acc := 0 }
  else match x.pendingR with
    | none => x
    | some r' =>
      if r' < x.r then
        if (phi.toInt - 128) % (256 / r' : Nat) = 0 then { x with r := r', pendingR := none, w := x.w / 4, acc := x.acc / 4 } else x
      else { x with r := r', pendingR := none, w := x.w * 4, acc := x.acc * 4 }

/-- Run the generator for `k` clocks of 20 ns (R203); every carry takes at least one clock, so `k` rounds suffice. -/
def Step.run : Nat → Nat → Step → Step
  | 0, _, x => x
  | n + 1, k, x =>
    if x.w = 0 then x
    else
      let need := (2 ^ 32 - x.acc + x.w - 1) / x.w
      if k < need then { x with acc := x.acc + k * x.w }
      else Step.run n (k - need) ({ x with acc := x.acc + need * x.w - 2 ^ 32 }.carry (x.genAt + BitVec.ofNat 56 (2 * need)))

/-- Run the generator for `k` clocks. -/
def Step.clocks (x : Step) (k : Nat) : Step := { x.run k k with genAt := x.genAt + BitVec.ofNat 56 (2 * k) }

/-- Bring the pulse generator of a step up to the present instant. -/
def State.stepCatchUp (s : State) (p : PortalId) : State := s.modStep p fun x => x.clocks (s.ts.since x.genAt / 2)

/-- Bring the pulse generator up to the clock before the present instant: a stop wins over the carry of its own clock (R220). -/
def State.stepCatchUpTo (s : State) (p : PortalId) : State := s.modStep p fun x => x.clocks ((s.ts.since x.genAt - 1) / 2)

/-- An immediate stop (R211): pulse generation ends with no deceleration, a pending rescale is discarded (R220); after a stop from
motion the position becomes uncertain unless F2 confirms it within 200 ms (R213). The drive then takes the state given. -/
def State.stepStop (s : State) (p : PortalId) (d : StepDrive) : State :=
  let s := s.stepCatchUpTo p
  let moving := decide ((s.stepOf p).v ≠ 0)
  let homing := decide ((s.stepOf p).drive = .homing)
  let s := s.modStep p fun x =>
    { x with v := 0, w := 0, acc := 0, r := 256, pendingR := none, phase := 0, job := 0, genAt := s.ts, homeStart := none, devSince := none,
             drive := if x.drive = .tripped then .tripped else d, strong := false, strongWant := false,
             enSince := if x.drive = .off ∧ d ≠ .off then s.ts else x.enSince }
  if moving && !homing then
    if s.f2InUse p then s.modStep p fun x => { x with confirm := some (s.ts, 1) }
    else s.stepUncertain p 1 (s.portal p).state.code
  else s

/-! ## Portal states and fencing -/

/-- DECLARED clears on the leaves of a portal (R193). -/
def State.undeclare (s : State) (p : PortalId) : State :=
  foldState [0, 1] (fun l t => t.modDet p l fun d => { d with status := d.status &&& ~~~0x08#16 }) s

/-- Something happens that makes the traversals of a portal not clean (R172). -/
def State.notClean (s : State) (p : PortalId) : State :=
  foldState [0, 1] (fun l t => t.modDet p l fun d => { d with clean := false }) s

/-- Change the portal state, with event 0x0300 (R99); the time of entry starts the state's timeout (R77). DECLARED clears when the portal
leaves the state of the reaction, which for a declaration in CLOSING is REOPENING (R193). -/
def State.setPState (s : State) (p : PortalId) (st : PState) : State :=
  let old := (s.portal p).state
  if old = st then s
  else
    let s := (s.modPortal p fun x => { x with state := st, since := s.ts, timer := some s.ts }).raisePortal p 0x0300 (uPortal p)
      (old.code + 256 * st.code)
    if old = .closing ∧ st = .reopening then s else s.undeclare p

/-- The open and close commands in force end with an OUTCOME (R85). -/
def State.endOpenClose (s : State) (p : PortalId) (status outcome : Nat) : State :=
  let x := s.portal p
  let s := s.modPortal p fun x => { x with openForce := false, openRefs := [], closeForce := false, closeRefs := [] }
  s.finishAll p (x.openRefs ++ x.closeRefs) status [BitVec.ofNat 8 outcome]

/-- A step jog that a stop ends while the step is at rest: POSITION_UNCERTAIN unless F2 confirms the position; from motion, the immediate stop
sees to it (R93, R213). -/
def State.stepJogCut (s : State) (p : PortalId) : State :=
  match (s.portal p).jog with
  | some j => if j.kind = 2 ∧ (s.stepOf p).v = 0 ∧ !s.f2Confirms p then s.stepUncertain p 2 (s.portal p).state.code else s
  | none => s

/-- What every stop of door service at a portal ends: warning, dwell, pause and jogs. -/
def State.endMotion (s : State) (p : PortalId) : State :=
  (s.stepJogCut p).modPortal p fun x =>
    { x with closePending := false, warn := none, dwell := none, pause := none, stopPartial := false, openObst := 0, jog := none,
             lockJog := none, partialOpen := false }

/-- JOG_STOP replies that wait are sent: JOG is left (R83, R93). -/
def State.jogLeft (s : State) (p : PortalId) : State :=
  let l := (s.portal p).jogStop
  (s.modPortal p fun x => { x with jogStop := [] }).finishAll p l stDone []

/-- SERVICE is reported as DEGRADED from the first fence on, and back, without a commit (R36). -/
def State.degrade (s : State) : State :=
  let anyFenced := allPortals.any fun p =>
    let x := s.portal p
    s.present p && (decide (x.state = .fenced) || (decide (x.start ≠ 0) && (decide (x.fenceCause ≠ 0) || decide (x.pendingCause ≠ 0))))
  let m : Mode := if s.mode = .service ∧ anyFenced then .degraded else if s.mode = .degraded ∧ !anyFenced then .service else s.mode
  if m = s.mode then s
  else
    let old := s.mode
    let s := { s with mode := m, dies := s.dies.map fun (d : Die) => if d.mode = old then { d with mode := m } else d }
    s.raise 38 0x0026 0 (old.code + 256 * m.code + 65536 * (s.epoch.toNat % 65536))

/-- The channels of a portal go to their fail-safe states with its fence (R65, R265, R288). -/
def State.failSafe (s : State) (p : PortalId) : State :=
  if (s.portal p).fsFenced then s else ((s.modPortal p fun x => { x with fsFenced := true }).chansSync p).fsPortalEvent p true 4

/-- The fail-safe cause of a portal's fence ends (R265, R288). -/
def State.failSafeEnd (s : State) (p : PortalId) : State :=
  if (s.portal p).fsFenced then (s.modPortal p fun x => { x with fsFenced := false }).fsPortalEvent p false 4 else s

/-- Whom the reply of a portal command goes to; a jog goes to a host. -/
def PCmd.ref : PCmd → Option CmdRef
  | .open r | .close r | .fenceClear r | .emergencyReset r | .jogStop r | .fence r => some r
  | .jogUnit _ _ _ | .jogLock _ _ => none

/-- A command that is a member's part of a group command, accepted with the group. -/
def PCmd.ofGroup (c : PCmd) : Bool :=
  match c.ref with
  | some (.group _) => true
  | _ => false

/-- An open or a close command, whose final reply carries an OUTCOME (R85). -/
def PCmd.opensOrCloses : PCmd → Bool
  | .open _ | .close _ => true
  | _ => false

/-- The address of the group of a group command (R444). -/
def State.groupUnit (s : State) (id : Nat) : Nat := ((s.groups.find? fun g => g.id = id).map fun g => g.handle.unit.toNat).getD 0

/-- A member's part of a group command ends with a failure: an open or a close gives the OUTCOME that goes with the status, any other command
the detail block (R24, R85, R444). -/
def State.memberFails (s : State) (p : PortalId) (c : PCmd) (status outcome : Nat) : State :=
  match c.ref with
  | some (.group id) =>
    s.memberEnd id p status (if c.opensOrCloses then [BitVec.ofNat 8 outcome] else detail 0xFFFF (s.groupUnit id))
  | _ => s

/-- A portal that is fenced stops acting on the group commands that it has accepted and not yet taken (R23, R25). -/
def State.stopMembers (s : State) (p : PortalId) : State :=
  let q := (s.portal p).queue
  foldState (q.filter PCmd.ofGroup) (fun c t => t.memberFails p c stFenced 2)
    (s.modPortal p fun x => { x with queue := q.filter fun c => !c.ofGroup })

/-- Enter FENCED (R64, R65, R89): leaves brake, the step stops at once, role channels and every other channel go to their fail-safe
states, commands in force and group commands that wait end, tunes end. -/
def State.enterFenced (s : State) (p : PortalId) : State :=
  let s := s.setPState p .fenced
  let s := (s.modPortal p fun x => { x with fencedHw := true, fenceTotal := satInc 4294967295 x.fenceTotal, timer := none }).failSafe p
  let s := (s.hostOff p).endPulses p stFenced
  let s := s.endMotion p
  let s := foldState (s.leaves p) (fun l t => t.leafBrake p l) s
  let s := if s.stepFitted p then s.stepStop p (s.standstill p) else s
  let s := s.abortTunes p 6 stFenced
  let s := (s.endOpenClose p stFenced 2).stopMembers p
  let s := s.jogLeft p
  let waits := (s.portal p).fenceWaits
  let s := (s.modPortal p fun x => { x with fenceWaits := [], cycle := x.cycle.map fun c => { c with flags := c.flags ||| 0x10#8 } })
  (s.finishAll p waits stDone []).degrade

/-- A fence cause acts for a present portal (R89–R91): its event is raised, by the Hub die for the causes of R42, R47 and R51 (R52); FENCED is entered from every state that admits it; in
ISOLATED and EMERGENCY, while the sequencer does not run and before its first evaluation, the cause is kept pending (R68, R87, R88, R362). -/
def State.fenceNow (s : State) (p : PortalId) (cause unit param : Nat) : State :=
  if !s.present p then s
  else
    let s := s.raiseAt (if cause = 7 ∨ cause = 8 ∨ cause = 9 then 0 else pdDie p) (8 + p.val) (0x0200 + cause) unit param
    let st := (s.portal p).state
    let s := (s.modPortal p fun x => { x with causes := x.causes ||| (1#32 <<< cause) }).notClean p
    if !(s.pdMode p).runs || (s.portal p).start ≠ 0 || st = .isolated || st = .emergency then
      s.modPortal p fun x => { x with pendingCause := if x.pendingCause = 0 then cause else x.pendingCause }
    else
      let s := s.modPortal p fun x => { x with fenceCause := if x.fenceCause = 0 then cause else x.fenceCause }
      if st = .fenced then s else s.enterFenced p

/-- The sequencer of a portal works: the mode that its die holds runs it, its cores run, and PFAIL has not stopped it (R67, R330, R337, R340,
R497). -/
def State.seqWorks (s : State) (p : PortalId) : Bool :=
  let r := s.pair (if p.val < 4 then 1 else 2)
  s.present p && (s.pdMode p).runs && !s.power.pfail && !(r.scope = .restarting || r.scope = .held || r.halted)

/-- A fence cause is found for a portal: the next evaluation applies it (R66, R92); where no evaluation will come it acts at once (log 20). -/
def State.fence (s : State) (p : PortalId) (cause unit param : Nat) : State :=
  if s.seqWorks p then (s.modPortal p fun x => { x with found := x.found ++ [(cause, unit, param)] }).notClean p
  else s.fenceNow p cause unit param

/-- Step 3 of R92: the causes found since the last evaluation act in ascending order. -/
def State.foundStep (s : State) (p : PortalId) : State :=
  let l := (s.portal p).found
  foldState (List.range 32) (fun c t => foldState (l.filter fun x => x.1 = c) (fun x u => u.fenceNow p x.1 x.2.1 x.2.2) t)
    (s.modPortal p fun x => { x with found := [] })

/-- A cause of R90 with no unit of its own names the portal and carries parameter 0 (R99). -/
def State.fenceP (s : State) (p : PortalId) (cause : Nat) : State := s.fence p cause (uPortal p) 0

/-- Fence every portal that a die serves (R42, R51, R162). -/
def State.fenceServed (s : State) (d : DieId) (cause param : Nat) : State :=
  foldState (servedBy d) (fun p t => t.fence p cause (uPortal p) param) s

end Sys2Proof.Machine
end

