-- ==== Sys2Proof/Machine/Obstacle.lean ====
section
/-! DEFINITION. Obstacle detection and hardware fences (R166–R193): the force model, the friction map and its learning, thresholds,
the two fences, and their commands. -/

namespace Sys2Proof.Machine

/-- A leaf parameter that is latched at the entry to a transition state (R126, R192). -/
def State.latched (s : State) (p : PortalId) (l : LeafId) (pid : Nat) : Int :=
  match (s.leaf p l).latched.find? fun e => e.1 = pid with
  | some e => e.2
  | none => s.par pid (uLeaf p l)

/-- The leaf parameters latched at the entry to a transition state: the profile's and the detector's (R126, R192). -/
def latchPids : List Nat :=
  (List.range 32).map (0x2040 + ·) ++ (List.range 9).map (0x2060 + ·) ++ (List.range 10).map (0x4012 + ·)

/-- Latch them. -/
def State.latchTransition (s : State) (p : PortalId) (l : LeafId) : State :=
  s.modLeaf p l fun x => { x with latched := latchPids.map fun q => (q, s.par q (uLeaf p l)) }

/-- K_F in N per mA (R166). -/
def State.kF (s : State) (p : PortalId) (l : LeafId) : Rat :=
  (s.parN 0x4000 (uLeaf p l) * s.parN 0x4001 (uLeaf p l) : Nat) / (1000 * s.parN 0x4002 (uLeaf p l) : Nat)

/-- The current of a force, mA, truncated towards zero (R166). -/
def State.forceCurrent (s : State) (p : PortalId) (l : LeafId) (f : Rat) : Int :=
  truncR (1000 * f * (s.parN 0x4002 (uLeaf p l) : Rat) / (s.parN 0x4000 (uLeaf p l) * s.parN 0x4001 (uLeaf p l) : Nat))

/-- FRIC_MAX in force. -/
def State.fricMax (s : State) (p : PortalId) (l : LeafId) : Int := s.par 0x4006 (uLeaf p l)

/-- The bin of a position (R170). -/
def binOf (openPos : Int) (x : Rat) : Nat := (clampI 0 255 (x * 256 / openPos).floor).toNat

/-- A bin as the detector reads it: clamped to 0–FRIC_MAX in hardware (R170). -/
def binVal (m : List Rat) (fmax : Int) (b : Nat) : Rat := clampR 0 fmax (m.getD b 0)

/-- friction_map(dir, x) by linear interpolation between bin centres (R170). -/
def interpBins (m : List Rat) (fmax openPos : Int) (x : Rat) : Rat :=
  let t := x * 256 / openPos - 1 / 2
  if t ≤ 0 then binVal m fmax 0
  else if 255 ≤ t then binVal m fmax 255
  else
    let i := t.floor.toNat
    let f := t - (i : Rat)
    (1 - f) * binVal m fmax i + f * binVal m fmax (i + 1)

/-- friction_map(dir, x_obs) of a leaf; 0 for dir = 0 (R170, R179). -/
def State.friction (s : State) (p : PortalId) (l : LeafId) (dir : Int) : Rat :=
  let d := (s.leaf p l).det
  if dir = 0 then 0
  else interpBins (if dir = 1 then d.mOpen else d.mClose) (s.fricMax p l) (s.openPos p l) (s.xObs p l)

/-- dir: the sign of v_cmd, or of the jog speed in JOG (R167). -/
def State.motionDir (s : State) (p : PortalId) (l : LeafId) : Int :=
  match (s.portal p).state, (s.portal p).jog with
  | .jog, some j => if j.kind.val = l.val then sgn j.speed else 0
  | _, _ => if (s.leaf p l).vCmd < 0 then -1 else if (s.leaf p l).vCmd = 0 then 0 else 1

/-- THR_EFF at the leaf's present bin (R176). -/
def State.thrNow (s : State) (p : PortalId) (l : LeafId) (dir : Int) (startWindow : Bool) : Rat :=
  let d := (s.leaf p l).det
  let b := binOf (s.openPos p l) (s.xObs p l)
  let conf := if dir = 1 then d.confOpen.getD b 0 else d.confClose.getD b 0
  let base : Rat := s.latched p l (if startWindow then 0x4014 else if dir = 1 then 0x4012 else 0x4013)
  let margin : Rat := s.latched p l 0x4017
  min (s.par 0x4007 (uLeaf p l) : Rat) (base + margin * (15 - (conf : Rat)) / 15)

/-- A working limit: 0 means the sealed value; the fence unit takes the minimum (R179, R181, R185). -/
def limitOf (sealedMax working : Int) : Int := if working = 0 then sealedMax else min sealedMax working

/-- F_eff of R179, in N. -/
def State.fEff (s : State) (p : PortalId) (l : LeafId) : Rat :=
  let f : Rat := limitOf (s.par 0x4004 (uLeaf p l)) (s.par 0x4010 (uLeaf p l))
  match (s.leaf p l).det.declClamp with
  | some t => min f t
  | none => f

/-- I_F, the force-fence current limit (R179). -/
def State.ffLimit (s : State) (p : PortalId) (l : LeafId) : Int :=
  s.forceCurrent p l (s.fEff p l + s.friction p l (s.motionDir p l))

/-- MASS in force, 0.1 kg. -/
def State.mass (s : State) (p : PortalId) (l : LeafId) : Rat := s.parN 0x4003 (uLeaf p l)

/-- E_eff of R181, mJ. -/
def State.eEff (s : State) (p : PortalId) (l : LeafId) : Int := limitOf (s.par 0x4005 (uLeaf p l)) (s.par 0x4011 (uLeaf p l))

/-- E, the kinetic energy from the observer speed, mJ (R181). -/
def State.eKin (s : State) (p : PortalId) (l : LeafId) : Rat := s.mass p l * s.vObs p l * s.vObs p l / 20000

/-- v_E = floor(√(20,000 × E_eff / MASS)), mm/s (R181); the integer root of the floor is the floor of the root. -/
def State.vE (s : State) (p : PortalId) (l : LeafId) : Nat := Nat.sqrt (20000 * (s.eEff p l : Rat) / s.mass p l).floor.toNat

/-- The motor force less inertia, N: K_F × iq − MASS × a_obs / 10,000 (R167, R173). -/
def State.motorForce (s : State) (p : PortalId) (l : LeafId) : Rat :=
  s.kF p l * ((s.leaf p l).iq : Rat) - s.mass p l * s.aObs p l / 10000

/-- The detector is armed (R168): a leaf that holds at its target is not, in JOG neither. -/
def State.armed (s : State) (p : PortalId) (l : LeafId) (dir : Int) : Bool :=
  let st := (s.portal p).state
  let x := s.leaf p l
  (st = .opening || st = .closing || st = .reopening || st = .jog)
  && (x.drive = .position || (x.drive = .creep && decide ((s.latched p l 0x2067 : Rat) < s.xObs p l)))
  && decide (dir ≠ 0) && !x.holding && x.det.efSince.isNone

/-- Set a bit of OBST_STATUS. -/
def Detector.setStat (x : Detector) (b : Nat) (v : Bool) : Detector := { x with status := setBit x.status b v }

/-- FF_SEEN or EF_SEEN is set by hardware: the motion is no longer clean, and the bit is set at this instant (R57, R172). -/
def State.setSeen (s : State) (p : PortalId) (l : LeafId) (b : Nat) : State :=
  (s.modDet p l fun x => { x.setStat b true with clean := false }).markSet 0x4080 (uLeaf p l) b

/-- Add a sample to the sums of a bin (R173). -/
def addSum : List (Nat × Rat × Nat) → Nat → Rat → List (Nat × Rat × Nat)
  | [], b, v => [(b, v, 1)]
  | (c, t, n) :: r, b, v => if c = b then (c, t + v, n + 1) :: r else (c, t, n) :: addSum r b v

/-- The detector's and fence unit's part of a current tick (R167–R181). -/
def State.detTick (s : State) (p : PortalId) (l : LeafId) : State :=
  let dir := s.motionDir p l
  let x := (s.leaf p l).det
  let still := s.leafStill p l
  let reversing := (s.leaf p l).reversing
  -- start window (R176)
  let opens := dir ≠ 0 && dir ≠ x.dir && (still || x.dir ≠ 0 || reversing)
  let s := if opens then s.modLeaf p l fun y => { y with reversing := false } else s
  let wEnd := if opens then some (s.ts + BitVec.ofNat 56 (ms (s.latched p l 0x4015).toNat)) else x.windowEnd
  let window := match wEnd with
    | some e => decide (dir ≠ 0) && decide (0 < e.since s.ts) && decide (e.since s.ts < 2 ^ 55)
    | none => false
  let fRes := s.motorForce p l - (dir : Rat) * s.friction p l dir
  let fOpp := (dir : Rat) * fRes
  let thr := s.thrNow p l dir window
  let armed := s.armed p l dir
  let against := decide ((dir : Rat) * s.vObs p l < 0) && decide (5 ≤ |s.vObs p l|)
  let above := decide (thr < fOpp)
  let confirm := if !armed then 0 else if against then x.confirm else if above then x.confirm + 1 else x.confirm - 1
  let e := s.eKin p l
  let ei := truncR e
  let learn := decide (s.latched p l 0x401B = 1) && !window && decide (dir ≠ 0)
    && decide ((s.latched p l 0x4018 : Rat) ≤ |s.vObs p l|)
    && ((s.portal p).state = .opening || (s.portal p).state = .closing)
  let sums := if learn then addSum x.sums (binOf (s.openPos p l) (s.xObs p l)) ((dir : Rat) * s.motorForce p l) else x.sums
  let iF := s.ffLimit p l
  let cyc := (s.portal p).cycle.isSome
  let s := s.modDet p l fun d =>
    let d := { d with dir := dir, windowEnd := wEnd, confirm := confirm, sums := sums,
                      fRes := clampI (-32767) 32767 (truncR fRes), fOpp := clampI (-32767) 32767 (truncR fOpp),
                      thrEff := quant thr, eKin := ei, ffCurrent := clampI 0 65535 iF, efSpeed := s.vE p l,
                      efPeak := if d.efSince.isSome then max d.efPeak ei.toNat else d.efPeak,
                      peakFOpp := if cyc then max d.peakFOpp (clampI 0 65535 (truncR fOpp)).toNat else d.peakFOpp,
                      peakE := if cyc then max d.peakE ei.toNat else d.peakE }
    (((d.setStat 0 armed).setStat 1 window).setStat 2 above)
  -- the clamps act on a modulating leaf only (R179, R181)
  let s := if (s.leaf p l).drive.modulating then s else s.modDet p l fun d => (d.setStat 5 false).setStat 6 false
  -- the declaration clamp releases at v_cmd = 0 or out of a modulating state (R178)
  if decide ((s.leaf p l).vCmd = 0) || !(s.leaf p l).drive.modulating then
    s.modDet p l fun d => { d.setStat 4 false with declClamp := none }
  else s

/-- The force-fence clamp of a current reference (R179): FF_CLAMP while it acts, event 0x0323 at the first clamp of a motion. -/
def State.ffClamp (s : State) (p : PortalId) (l : LeafId) (i : Int) : Int × State :=
  let iF := s.ffLimit p l
  let j := clampI (-iF) iF i
  if j = i then (i, s.modDet p l fun d => d.setStat 5 false)
  else
    let first := !(s.leaf p l).det.ffSeenMotion
    let s := (s.setSeen p l 8).modDet p l fun d => { d.setStat 5 true with ffSeenMotion := true }
    (j, if first then s.raisePortal p 0x0323 (uLeaf p l) ((clampI 0 65535 iF).toNat + 65536 * sat16 (s.leaf p l).det.fOpp) else s)

/-- The energy-fence clamp of a speed reference (R181, R123). -/
def State.efClamp (s : State) (p : PortalId) (l : LeafId) (v : Rat) : Rat × State :=
  let e : Rat := s.vE p l
  let w := clampR (-e) e v
  if w = v then (v, s.modDet p l fun d => d.setStat 6 false)
  else (w, (s.setSeen p l 9).modDet p l fun d => d.setStat 6 true)

/-! ## Declarations -/

/-- OBSTACLE_DECLARED (R177, R178): the confirm counter of an armed detector has reached 20 × OBST_CONFIRM. -/
def execObstacleDeclared (dt : Nat) (p : PortalId) (l : LeafId) (s : State) : Host.Outcome State Fault Refusal :=
  let s := s.advance dt
  let x := (s.leaf p l).det
  if 20 * (s.latched p l 0x4016).toNat ≤ x.confirm ∧ x.confirm ≠ 0 ∧ s.leafPresent p l then
    let standby := s.mode = .standby
    if standby then .next (s.modDet p l fun d => { d with confirm := 0 })
    else .next ((s.modDet p l fun d =>
      let d := { d with confirm := 0, declared := true, declClamp := some (s.thrNow p l x.dir (d.status.getLsbD 1)) }
      (d.setStat 3 true).setStat 4 true).notClean p)
  else .next s

/-! ## Energy-fence brake -/

/-- ENERGY_FENCE_BRAKE (R181–R183): E exceeds E_eff; the short brake overrides the lines, or both valves go off. -/
def execEnergyFenceBrake (dt : Nat) (p : PortalId) (l : LeafId) (s : State) : Host.Outcome State Fault Refusal :=
  let s := s.advance dt
  let x := s.leaf p l
  let e := s.eKin p l
  let able := s.leafPresent p l && s.gates &&
    (s.pneumatic p || !(x.drive = .tripped || x.drive = .off))
  if able ∧ (s.eEff p l : Rat) < e ∧ x.det.efSince.isNone then
    let s := (s.setSeen p l 9).modDet p l fun d => { d.setStat 7 true with efSince := some s.ts, efPeak := (truncR e).toNat }
    .next (if s.pneumatic p then (s.modPortal p fun y => { y with valveOff := y.valveOff.set l true }).chansSync p
      else (s.modLeaf p l fun y => { y with efOverride := true }).syncSlots p l)
  else .next s

/-- ENERGY_BRAKE_RELEASE (R181, R183): at least 2 ms have passed and |v_obs| ≤ 0.9 × v_E, which is E ≤ 0.81 × E_eff. -/
def execEnergyBrakeRelease (dt : Nat) (p : PortalId) (l : LeafId) (s : State) : Host.Outcome State Fault Refusal :=
  let s := s.advance dt
  if s.ran (s.leaf p l).det.efSince (ms 2) ∧ 100 * s.eKin p l ≤ 81 * (s.eEff p l : Rat) then
    let s := s.endEfBrake p l
    let s := (s.modPortal p fun y => { y with valveOff := y.valveOff.set l false }).chansSync p
    .next ((s.modLeaf p l fun y => { y with efOverride := false }).syncSlots p l)
  else .next s

/-! ## Checking of detector and fence unit -/

/-- A residue mismatch or a failed shadow pass of a detector (unit 1) or fence unit (unit 2) (R186). -/
def State.fenceUnitFault (s : State) (p : PortalId) (l : LeafId) (shadow : Bool) (unit : Nat) : State :=
  let s := s.modDet p l fun d => { d.setStat 13 true with passes := 0, clean := false }
  let s := s.faultBrake p l
  let s := s.raiseAt (pdDie p) 37 0x0025 (uLeaf p l) (0xFF + 256 * (if shadow then 1 else 0) + 512 * unit)
  s.fence p 0x04 (uLeaf p l) 0

/-- FENCE_SELF_TEST (R186): the shadow pass of a fence unit, every 10 ms. -/
def execFenceSelfTest (dt : Nat) (p : PortalId) (l : LeafId) (pass : Bool) (s : State) : Host.Outcome State Fault Refusal :=
  let s := s.advance dt
  if pass then
    .next (s.modDet p l fun d => if d.status.getLsbD 13 then
        if 3 ≤ d.passes + 1 then { d.setStat 13 false with passes := 0 } else { d with passes := d.passes + 1 }
      else d)
  else .next (s.fenceUnitFault p l true 2)

/-! ## Map: learning, save, reset, load -/

/-- The new value of a bin before and after the clamp (R173). -/
def learnBin (fmax : Int) (m : Rat) (sum : Rat) (n : Nat) : Rat × Rat :=
  let v := m + (sum / (n : Rat) - m) / 16
  (v, clampR 0 fmax v)

/-- Apply a clean traversal to the bins with at least 20 samples (R173). -/
def State.learn (s : State) (p : PortalId) (l : LeafId) (isOpen : Bool) : State :=
  let x := (s.leaf p l).det
  let fmax := s.fricMax p l
  let s := foldState (x.sums.filter fun e => 20 ≤ e.2.2) (fun e t =>
    let m := if isOpen then (t.leaf p l).det.mOpen else (t.leaf p l).det.mClose
    let (v, w) := learnBin fmax (m.getD e.1 0) e.2.1 e.2.2
    let t := t.modDet p l fun d =>
      let d := if isOpen then { d with mOpen := d.mOpen.set e.1 w, confOpen := d.confOpen.set e.1 (min (d.confOpen.getD e.1 0 + 1) 15) }
        else { d with mClose := d.mClose.set e.1 w, confClose := d.confClose.set e.1 (min (d.confClose.getD e.1 0 + 1) 15) }
      if v = w then d else d.setStat 11 true
    if v = w then t else t.raisePortal p 0x0320 (uLeaf p l) (e.1 + (if isOpen then 256 else 0) + 65536 * sat16 (quant v))) s
  s.modDet p l fun d => { d with sums := [], updates := d.updates + 1 }

/-- A traversal starts (R172, R173). -/
def State.traversalStart (s : State) (p : PortalId) : State :=
  let quiet := !(s.se0 p || (s.twoLeaves p && s.se1 p) || s.obs p)
  foldState (s.leaves p) (fun l t => t.modDet p l fun d =>
    { d with sums := [], clean := quiet && decide (t.latched p l 0x401B = 1) && !t.pneumatic p, ffSeenMotion := false }) s

/-- A motion that is no traversal starts: event 0x0323 reports its first clamp (R191). -/
def State.motionStart (s : State) (p : PortalId) : State :=
  foldState [0, 1] (fun l t => t.modDet p l fun d => { d with ffSeenMotion := false }) s

/-- SE0, SE1 or OBS starts a reaction: the declaration clamp holds on every leaf of the portal, at OBST_THR_CLOSE plus friction (R178). -/
def State.edgeClamp (s : State) (p : PortalId) : State :=
  foldState (s.leaves p) (fun l t => if t.pneumatic p then t else t.modDet p l fun d =>
    { d.setStat 4 true with declClamp := some (t.latched p l 0x4013 : Rat) }) s

/-- A traversal ends: its sums are learned when it was clean and of a kind that learns, and otherwise discarded (R172, R173). -/
def State.traversalEnd (s : State) (p : PortalId) (isOpen ended : Bool) : State :=
  foldState (s.leaves p) (fun l t =>
    let ok := ended && (t.leaf p l).det.clean && (t.mode.door || t.mode = .standby) && !(t.leaf p l).voltSat
    let t := if ok then t.learn p l isOpen else t
    t.modDet p l fun d => { d with sums := [], clean := false }) s

/-- The stored form of the present map. -/
def State.mapCopy (s : State) (p : PortalId) (l : LeafId) : MapCopy :=
  let d := (s.leaf p l).det
  ⟨s.openPos p l, d.mOpen, d.mClose, d.confOpen, d.confClose⟩

/-- The bits of OBST_STATUS that a save with no bin at its limit clears (R193). -/
def State.saveBits (s : State) (p : PortalId) (l : LeafId) (d : Detector) : Detector :=
  if (d.mOpen ++ d.mClose).all (fun m => decide (m < (s.fricMax p l : Rat))) then (d.setStat 11 false).setStat 12 false else d

/-- MAP_SAVE (R174): 256 updates since the last save; the older copy is written; abandoned at PFAIL. -/
def execMapSave (dt : Nat) (p : PortalId) (l : LeafId) (s : State) : Host.Outcome State Fault Refusal :=
  let s := s.advance dt
  let x := (s.leaf p l).det
  if x.savedAt + 256 ≤ x.updates ∧ !s.power.pfail then
    let c := s.mapCopy p l
    .next (s.modDet p l fun d => s.saveBits p l { d with
      copies := d.copies.set (d.nextCopy % 2) (some c) (by omega), nextCopy := 1 - d.nextCopy, savedAt := d.updates })
  else .next s

/-- The map at its initial values, with event 0x0321 and its reason (R171, R175). -/
def State.mapInit (s : State) (p : PortalId) (l : LeafId) (reason : Nat) : State :=
  let fo := s.par 0x4019 (uLeaf p l)
  let fc := s.par 0x401A (uLeaf p l)
  (s.modDet p l fun d => { d.setStat 12 true with
    mOpen := List.replicate 256 (fo : Rat), mClose := List.replicate 256 (fc : Rat),
    confOpen := List.replicate 256 0, confClose := List.replicate 256 0, sums := [] }).raisePortal p 0x0321 (uLeaf p l) reason

/-- FRIC_RESET written with 1 (R175): the map at its initial values, saved at once to both copies. -/
def State.fricReset (s : State) (p : PortalId) (l : LeafId) : State :=
  let s := s.mapInit p l 2
  let s := s.modDet p l fun d => { (d.setStat 11 false).setStat 12 false with updates := 0, savedAt := 0, clean := false }
  let c := s.mapCopy p l
  s.modDet p l fun d => { d with copies := #v[some c, some c] }

/-- Load every leaf's map at the first exit from CONFIGURE after power-up (R171). -/
def State.loadMap (s : State) (p : PortalId) (l : LeafId) : State :=
  let d := (s.leaf p l).det
  if d.loaded then s
  else
    let newer := if d.nextCopy = 0 then (d.copies[1], d.copies[0]) else (d.copies[0], d.copies[1])
    let pick := match newer with
      | (some c, _) => some c
      | (none, c) => c
    let s := s.modDet p l fun d => { d with loaded := true }
    match pick with
    | none => s.mapInit p l 0
    | some c =>
      if c.openPos = s.openPos p l then
        s.modDet p l fun d => { d with mOpen := c.mOpen, mClose := c.mClose, confOpen := c.confOpen, confClose := c.confClose }
      else s.mapInit p l 1

end Sys2Proof.Machine
end

