-- ==== Sys2Proof/Machine/Loops.lean ====
section
/-! DEFINITION. The closed-loop control engine (R133–R165): slot ticks, modes, transfers, relay tune, residue checks, and the loop
opcodes. -/

namespace Sys2Proof.Machine

/-! ## Formats (R136) -/

/-- Saturate to Q15. -/
def satQ15 (x : Int) : Int := clampI (-32768) 32767 x

/-- Accumulator (Q30) to Q15 before saturation: half up, the low 15 bits dropped (R136). -/
def roundQ30 (x : Int) : Int := (x + 16384) / 32768

/-- Q15 to the accumulator's Q30. -/
def toQ30 (x : Int) : Int := x * 32768

/-! ## Slot fields -/

/-- The codes of the slot modes (R143). -/
def SlotMode.code : SlotMode → Nat
  | .disabled => 0 | .hold => 1 | .manual => 2 | .closed => 3 | .tune => 4

/-- SLOT_STATUS (R165). -/
def Slot.statusWord (x : Slot) : Nat :=
  x.mode.code + 8 * bit x.running + 16 * bit x.outSat + 32 * bit x.intSat + 64 * bit (decide (x.o ≠ 0)) + 128 * bit x.residueErr
    + 256 * bit x.tune.isSome + 512 * bit x.satSeen

/-- The slot's rate in ticks per ms: fixed for leaf slots, SLOT_RATE otherwise (R122, R140). -/
def State.slotRate (s : State) (d : PdId) (n : SlotId) : Nat :=
  if n.val < 32 then (match slotLoop n with
    | 0 => 20
    | 1 => 20
    | 2 => 5
    | 3 => 1)
  else (s.slotPar d n 1).toNat

/-- A general slot ticks only while the sequencer's modes run and its owner portal is present and in service (R144). -/
def State.generalRuns (s : State) (d : PdId) (n : SlotId) : Bool :=
  (match s.slotOwner d n with
    | some p => (s.pdMode p).runs && s.present p && !((s.portal p).state = .fenced || (s.portal p).state = .isolated || (s.portal p).state = .emergency)
    | none => false)

/-! ## Inputs and downstream limits -/

/-- A current of the leaf in Q15 of I_FS (R122). -/
def State.toIfs (s : State) (p : PortalId) (l : LeafId) (ma : Rat) : Int :=
  quant (ma * 32768 / (s.parN 0x2022 (uLeaf p l) : Rat))

/-- A drive parameter as latched at the last entry to a modulating state (R131). -/
def State.drivePar (s : State) (p : PortalId) (l : LeafId) (pid : Nat) : Int :=
  match (s.leaf p l).latchedDrive.find? (fun e => e.1 = pid) with
  | some e => e.2
  | none => s.par pid (uLeaf p l)

/-- The error input of a leaf slot, Q15 (R122, R110). -/
def State.leafErr (s : State) (p : PortalId) (l : LeafId) (j : Fin 4) : Int :=
  let x := s.leaf p l
  match j with
  | 0 => s.toIfs p l (((if x.drive = .aligning then min (s.drivePar p l 0x2006) (s.par 0x2030 (uLeaf p l)) else 0) - x.id : Int) : Rat)
  | 1 => s.toIfs p l ((x.iqRef - x.iq : Int) : Rat)
  | 2 => quant ((x.vRef - s.vObs p l) * 16)
  | 3 => quant (x.xRef - s.xObs p l)

/-- The input of a general slot in its Q15 scale (R134). -/
def State.generalIn (s : State) (d : PdId) (n : SlotId) : Int :=
  let io := s.slotIo d n
  match s.slotOwner d n with
  | none => 0
  | some p =>
    let f : FbId := ⟨io / 16 % 16 % 3, by omega⟩
    match io % 16 with
    | 1 => quant (s.fbX p f)
    | 2 => quant (s.fbV p f * 16)
    | 3 => (((s.chan p ⟨io / 16 % 16 % 8, by omega⟩).iAvg * 4 : Nat) : Int)
    | _ => 0

/-- The error of a slot, saturated to Q15 (R134, R137). -/
def State.slotErr (s : State) (d : PdId) (n : SlotId) : Int :=
  if n.val < 32 then satQ15 (s.leafErr (slotPortal d n) (slotLeaf n) (slotLoop n))
  else satQ15 (s.slotRaw d n 21 - s.generalIn d n)

/-- I_LIM of R123 for the drive state. -/
def State.iLim (s : State) (p : PortalId) (l : LeafId) : Int :=
  match (s.leaf p l).drive with
  | .creep => s.drivePar p l 0x2032
  | .position => if (s.leaf p l).holding then s.drivePar p l 0x2031 else s.par 0x2030 (uLeaf p l)
  | _ => s.par 0x2030 (uLeaf p l)

/-- The current reference of a speed slot's output after every firmware limit, mA, and before any (R123). -/
def State.speedRef (s : State) (p : PortalId) (l : LeafId) (u : Int) : Int × Int :=
  let i0 := quant ((u : Rat) * (s.parN 0x2022 (uLeaf p l) : Rat) / 32768)
  let lim := s.iLim p l
  let imax := s.par 0x2030 (uLeaf p l)
  (clampI (-imax) imax (clampI (-lim) lim i0), i0)

/-- VBUS_NOM as latched at the last entry to a modulating state (R131). -/
def State.vbusNom (s : State) (p : PortalId) (l : LeafId) : Int :=
  match (s.leaf p l).latchedDrive.find? (fun e => e.1 = 0x2025) with
  | some e => e.2
  | none => s.par 0x2025 (uPortal p)

/-- The bus compensation k (R117). -/
def State.busComp (s : State) (p : PortalId) (l : LeafId) : Rat := (s.vbusNom p l : Rat) / (s.portal p).vbus

/-- Release an output downstream and find u_app, the value after every limit downstream (R117, R123, R138). -/
def State.applySlot (s : State) (d : PdId) (n : SlotId) (u : Int) : Int × State :=
  if n.val < 32 then
    let p := slotPortal d n
    let l := slotLeaf n
    match slotLoop n with
    | 0 =>
      let k := s.busComp p l
      let vd := k * (u : Rat) / 32768
      let w := clampR (-1) 1 vd
      (if w = vd ∨ k = 0 then u else quant (w / k * 32768), s.modLeaf p l fun x => { x with vdSlot := u })
    | 1 =>
      let s := s.modLeaf p l fun x => { x with vqSlot := u }
      let k := s.busComp p l
      let vd := clampR (-1) 1 (k * ((s.leaf p l).vdSlot : Rat) / 32768)
      let lim := sqrtR (1 - vd * vd)
      let vq := k * (u : Rat) / 32768
      let w := clampR (-lim) lim vq
      (if w = vq ∨ k = 0 then u else quant (w / k * 32768), s)
    | 2 =>
      let (i1, i0) := s.speedRef p l u
      let (i2, s) := s.ffClamp p l i1
      let s := if (s.leaf p l).drive = .force ∨ (s.leaf p l).drive = .aligning then s else s.modLeaf p l fun x => { x with iqRef := i2 }
      (if i2 = i0 then u else s.toIfs p l i2, s)
    | 3 =>
      let v0 := (s.leaf p l).vCmd + (u : Rat) / 16
      let (v1, s) := s.efClamp p l v0
      let s := if (s.leaf p l).drive = .creep then s else s.modLeaf p l fun x => { x with vRef := v1 }
      (if v1 = v0 then u else quant ((v1 - (s.leaf p l).vCmd) * 16), s)
  else match s.slotOut d n with
    | none => (u, s)
    | some (p, c) =>
      let duty := if u < 0 then 0 else (clampI 0 1000 (quant ((u : Rat) * 1000 / 32768))).toNat
      let dead := s.heldOff p c || s.fsCause p
      let on := duty * s.pwmPeriod p c / 1000
      -- on-times and off-times shorter than 50 µs are not produced (R258)
      (if dead || decide (u < 0) || decide (on < us 50) then 0 else if s.pwmPeriod p c - on < us 50 then 32767 else u, (s.modChan p c fun x => { x with slotDuty := some duty }).chanSync p c)

/-- A general slot that stops ticking no longer drives its channel (R144, R267). -/
def State.slotUndrive (s : State) (d : PdId) (n : SlotId) : State :=
  match s.slotOut d n with
  | some (p, c) => (s.modChan p c fun x => { x with slotDuty := none }).chanSync p c
  | none => s

/-! ## The tick (R137) -/

/-- Coefficient field f of a slot. -/
def State.coef (s : State) (d : PdId) (n : SlotId) (f : Nat) : Int := s.slotRaw d n f

/-- w[n], the shaping output (R137). -/
def State.shape (s : State) (d : PdId) (n : SlotId) (e : Int) : Int :=
  let x := s.slot d n
  let e1 := x.eHist.getD 0 0
  let e2 := x.eHist.getD 1 0
  let e3 := if s.coef d n 2 = 3 then x.eHist.getD 2 0 else 0
  let w3 := if s.coef d n 2 = 3 then x.wHist.getD 2 0 else 0
  let acc := s.coef d n 4 * e + s.coef d n 5 * e1 + s.coef d n 6 * e2 + s.coef d n 7 * e3
    + s.coef d n 8 * x.wHist.getD 0 0 + s.coef d n 9 * x.wHist.getD 1 0 + s.coef d n 10 * w3
  satQ15 (roundQ30 (acc * 2 ^ (s.slotRaw d n 3).toNat))

/-- Record error and shaping output in the histories (R137, R143). -/
def Slot.push (x : Slot) (e w : Int) : Slot :=
  { x with e := e, w := w, eHist := (e :: x.eHist).take 3, wHist := (w :: x.wHist).take 3 }

/-- The step that a value of Q15 per ms makes in one tick, Q30 (R137). -/
def perTick (perMs rate : Nat) : Rat := (perMs : Rat) / (rate : Rat)

/-- Move a value towards 0 by a step, stopping at 0. -/
def towards0 (x step : Int) : Int := if 0 < x then max 0 (x - step) else min 0 (x + step)

/-- The AUTO computation of a tick, the transfer preset of R148 included (R137–R139, R148–R150). -/
def State.closedTick (s : State) (d : PdId) (n : SlotId) (e w : Int) : State :=
  let x := s.slot d n
  let lo := s.slotRaw d n 15
  let hi := s.slotRaw d n 16
  let ilo := toQ30 (s.slotRaw d n 13)
  let ihi := toQ30 (s.slotRaw d n 14)
  if x.preset then
    let ip := toQ30 x.u - toQ30 w
    let i := clampI ilo ihi ip
    let o := toQ30 x.u - toQ30 w - i
    let u := clampI lo hi (satQ15 x.u)
    let (_, s) := s.applySlot d n u
    let s := s.modSlot d n fun y =>
      { y.push e w with i := i, o := o, u := u, preset := false, outSat := false, intSat := false, satSeen := false, closing := [] }
    let flags : Byte := if o = 0 then 0 else 1
    let s := foldState x.closing (fun h t => t.reply h stDone [flags]) s
    match s.slotOwner d n with
    | some p => if o = 0 then s
        else s.raisePortal p 0x0310 (s.slotUnit d n) (n.val + 256 * x.prevMode.code + 65536 * sat16 (roundQ30 o))
    | none => s
  else
    let un := toQ30 w + x.i + x.o
    let u := clampI lo hi (satQ15 (roundQ30 un))
    let (ua, s) := s.applySlot d n u
    let dd := clampI (-(2 ^ 31) + 1) (2 ^ 31 - 1) (toQ30 ua - un)
    let i0 := x.i + s.coef d n 11 * e + quant ((s.coef d n 12 * dd : Int) / 32768)
    let i := clampI ilo ihi i0
    let step := quant (perTick (s.slotPar d n 17).toNat (s.slotRate d n) * 32768)
    let sat := decide (toQ30 ua ≠ un)
    let s := s.modSlot d n fun y =>
      { y.push e w with i := i, o := towards0 y.o step, u := u, uApp := if ua = u then none else some ua, outSat := sat,
                        intSat := decide (i ≠ i0), satSeen := y.satSeen || sat }
    if sat then s.markSet (0x3000 + n.val) (uEngine d) 9 else s

/-- One tick of the manual ramp, from the present output and within OUT_LO–OUT_HI (R143). -/
def State.manualTick (s : State) (d : PdId) (n : SlotId) : State :=
  let x := s.slot d n
  let step := perTick (s.slotPar d n 18).toNat (s.slotRate d n)
  let t : Rat := x.manual
  let r := clampR (s.slotRaw d n 15) (s.slotRaw d n 16) (if x.ramp < t then min t (x.ramp + step) else max t (x.ramp - step))
  let u := quant r
  let (_, s) := s.applySlot d n u
  s.modSlot d n fun y => { y with ramp := r, u := u }

/-- One tick of HOLD, or of a frozen slot: the shadow pass, and the frozen output in the references and limits downstream of it (R123,
R143, R155); in CREEP the output of the position slot is not used (R125, R144). -/
def State.holdTick (s : State) (d : PdId) (n : SlotId) (e w : Int) : State :=
  let s := s.modSlot d n fun y => y.push e w
  if n.val < 32 ∧ slotLoop n = 3 ∧ (s.leaf (slotPortal d n) (slotLeaf n)).drive = .creep then s else (s.applySlot d n (s.slot d n).u).2

/-- One tick of the relay (R155, R156). -/
def State.tuneTick (s : State) (d : PdId) (n : SlotId) (e : Int) : State :=
  match (s.slot d n).tune with
  | none => s
  | some t =>
    let rel := if t.eps < e then true else if e < -t.eps then false else t.relay.getD (decide (0 ≤ e))
    let switched := decide (t.relay ≠ some rel)
    let rise := switched && rel && decide (t.relay = some false)
    let t := { t with relay := some rel, lastSwitch := if switched then s.ts else t.lastSwitch,
                      crossings := if rise then t.crossings ++ [s.ts] else t.crossings,
                      swings := if rise && t.crossings ≠ [] then t.swings ++ [t.eMax - t.eMin] else t.swings,
                      eMin := if rise then e else min t.eMin e, eMax := if rise then e else max t.eMax e }
    let u := if rel then t.bias + t.h else t.bias - t.h
    let (_, s) := s.applySlot d n u
    s.modSlot d n fun y => { y with tune := some t, u := u }

/-- A slot of the leaf inner to this one is in TUNE, so this one is frozen as in HOLD (R155). The cascade is position, speed, q-axis current; the
d-axis current slot lies in no other loop. -/
def State.innerTunes (s : State) (d : PdId) (n : SlotId) : Bool :=
  decide (n.val < 32) && (List.finRange 64).any fun m =>
    decide (m.val / 4 = n.val / 4 ∧ m.val < n.val ∧ slotLoop m ≠ 0) && (s.slot d m).tune.isSome

/-- The residue mismatch of a slot's tick (R160): hold, RESIDUE_ERR, event 0x0025, fence; a LOOP_CLOSE that waits for this tick is refused with
FENCED (R163). -/
def State.slotResidue (s : State) (d : PdId) (n : SlotId) : State :=
  let waits := (s.slot d n).closing
  let s := s.modSlot d n fun x =>
    { x with residueErr := true, errAt := some s.ts, checked := 0, closing := [], mode := if x.mode = .tune then .tune else .hold }
  let s := foldState waits (fun h t => t.refuse h stFenced) s
  let s := s.raiseAt (engineDie d) 37 0x0025 (s.slotUnit d n) n.val
  let s := match s.slotOwner d n with
    | some p => s.fence p 0x04 (s.slotUnit d n) 0
    | none => s
  (s.abortTune d n 6 stFenced).modSlot d n fun x => { x with mode := .hold }

/-- The place of a slot in the order of the ticks of one instant has not passed: ascending rate, then ascending slot number (R141). -/
def State.tickDue (s : State) (d : PdId) (n : SlotId) : Bool :=
  match s.engines[d].last with
  | some (t, r, m) => decide (t ≠ s.ts) || decide (r < s.slotRate d n) || (decide (r = s.slotRate d n) && decide (m < n.val))
  | none => true

/-- What a slot computes in a tick in its mode (R137, R143, R155). -/
def State.slotWork (s : State) (d : PdId) (n : SlotId) : State :=
  let e := s.slotErr d n
  let w := s.shape d n e
  let frozen := s.innerTunes d n ||
    (n.val < 32 && slotLoop n = 3 && (s.leaf (slotPortal d n) (slotLeaf n)).drive = .creep)
  match (s.slot d n).mode with
  | .disabled => s
  | .hold => s.holdTick d n e w
  | .manual => if frozen then s.holdTick d n e w else (s.modSlot d n fun y => y.push e w).manualTick d n
  | .tune => if frozen then s.holdTick d n e w else (s.modSlot d n fun y => y.push e w).tuneTick d n e
  | .closed => if frozen then s.holdTick d n e w else s.closedTick d n e w

/-- One tick instant of a slot: a general slot starts or stops to tick as its conditions ask (R144), a residue is checked (R160, R161), and the
slot computes. A tick whose place in the order of its instant has passed is none (R141; log 86). -/
def State.slotTick (s : State) (d : PdId) (n : SlotId) (residue : Bool) : State :=
  if !s.tickDue d n then s
  else
    let s := { s with engines := s.engines.set d { s.engines[d] with last := some (s.ts, s.slotRate d n, n.val) } }
    let x := s.slot d n
    let run := if n.val < 32 then x.running else s.generalRuns d n && decide (x.mode ≠ .disabled)
    let s := if n.val < 32 then s
      else if run then s.modSlot d n fun y => { y with running := true }
      else if x.running then ((s.modSlot d n Slot.cleared).endClosing d n).slotUndrive d n else s
    -- checked passes while RESIDUE_ERR is set (R161)
    let s := if x.residueErr then s.modSlot d n fun y => { y with checked := if residue then 0 else y.checked + 1 } else s
    if !run then s else if residue then s.slotResidue d n else s.slotWork d n

/-- SLOT_TICK (R137–R145, R155–R161): one tick instant of a slot; `residue` is whether a mod-7 residue mismatched in it. The ticks of the current
slots of a leaf are part of its CURRENT_TICK (R117). -/
def execSlotTick (dt : Nat) (d : PdId) (n : SlotId) (residue : Bool) (s : State) : Host.Outcome State Fault Refusal :=
  .next ((s.advance dt).slotTick d n residue)

/-- SLOT_RESIDUE_CLEAR (R161): RESIDUE_ERR clears after 1,000 consecutive checked passes. -/
def execSlotResidueClear (dt : Nat) (d : PdId) (n : SlotId) (s : State) : Host.Outcome State Fault Refusal :=
  let s := s.advance dt
  if 1000 ≤ (s.slot d n).checked ∧ (s.slot d n).residueErr then
    .next (s.modSlot d n fun x => { x with residueErr := false, checked := 0 })
  else .next s

/-- CHECKER_SELF_TEST (R162): the injected residue error of a die's checker was flagged or not. -/
def execCheckerSelfTest (dt : Nat) (d : PdId) (flagged : Bool) (s : State) : Host.Outcome State Fault Refusal :=
  let s := s.advance dt
  if flagged then
    .next { s with engines := s.engines.set d { s.engines[d] with
      passes := if s.engines[d].testFail then s.engines[d].passes + 1 else 0,
      testFail := s.engines[d].testFail && decide (s.engines[d].passes + 1 < 3) } }
  else
    let s := { s with engines := s.engines.set d { s.engines[d] with passes := 0, testFail := true } }
    let s := s.raiseAt (engineDie d) 37 0x0025 (uEngine d) 256
    .next (foldState ((List.finRange 8).filter fun p => pdOf p = d) (fun p t => t.fence p 0x04 (uEngine d) 0) s)

/-! ## Tune results (R156–R158) -/

/-- The proposal's shift: the smallest s ≤ 15 with Kp / 2^s < 1 (R158). -/
def tuneShift (kp : Rat) : Option Nat := (List.range 16).find? fun k => decide (kp / 2 ^ k < 1)

/-- Results and proposal of a completed tune (R156, R158). -/
def State.tuneResults (s : State) (d : PdId) (n : SlotId) (t : Tune) : Slot → Slot :=
  let cs := (t.crossings.drop 2).take (t.periods + 1)
  let tu : Rat := match cs.head?, cs.getLast? with
    | some a, some b => (b.since a : Rat) / (t.periods : Rat)
    | _, _ => 0
  let sw := (t.swings.drop 2).take t.periods
  let a : Rat := ((sw.foldl (· + ·) 0 : Int) : Rat) / (2 * (t.periods : Rat))
  let ku := 4 * (t.h : Rat) / (piR * sqrtR (a * a - (t.eps : Rat) * t.eps))
  let tsec : Rat := 1 / (1000 * (s.slotRate d n : Rat))
  let tuSec := tu / 100000000
  let kp := if t.rule = 0 then 45 / 100 * ku else 30 / 100 * ku
  let ti := if t.rule = 0 then tuSec * 10 / 12 else tuSec
  let (sh, b0, f2) := match tuneShift kp with
    | some k => (k, min 32767 (roundR (32768 * kp / 2 ^ k)), 0)
    | none => (15, 32767, 4)
  let ki := roundR (32768 * kp * tsec / ti)
  let kb := roundR (32768 * tsec / ti)
  fun x => { x with tuTu := (quant (tu / 100)).toNat, tuAmp := (quant a).toNat, tuKu := (quant (ku * 65536)).toNat,
                    tuShift := sh, tuB0 := b0, tuKi := min ki 32767, tuKb := min kb 32767,
                    tuFlags := (if ki = 0 then 1 else 0) + (if 32767 < ki ∨ 32767 < kb then 2 else 0) + f2 }

/-- The result fields of a final reply of TUNE_START and of TUNE_RESULT (R164). -/
def Slot.tuneFields (x : Slot) : List Byte :=
  le 4 x.tuTu ++ le 2 x.tuAmp ++ le 4 x.tuKu ++ le 1 x.tuShift ++ leI 2 x.tuB0 ++ leI 2 x.tuKi ++ leI 2 x.tuKb ++ le 1 x.tuFlags

/-- The tune of a slot ends when one of its end conditions holds, the first of them in the order given (R157). -/
def State.tuneCheck (s : State) (d : PdId) (n : SlotId) : State :=
  let x := s.slot d n
  match x.tune with
  | none => s
  | some t =>
    let done := decide (t.periods + 3 ≤ t.crossings.length)
    let sw := (t.swings.drop 2).take t.periods
    let a2 := sw.foldl (· + ·) 0
    let big := decide (2 * (t.periods : Int) * t.eps < a2)
    if s.slotPar d n 22 < |x.e| then s.abortTune d n 4 stModeForbids
    else if done && big then
      let s := s.modSlot d n (s.tuneResults d n t)
      s.endTune d n 0 stDone (s.slot d n).tuneFields
    else if done || s.elapsed t.lastSwitch (ms t.timeout / 4) then s.abortTune d n 3 stModeForbids
    else if s.elapsed t.start (ms t.timeout) then s.abortTune d n 2 stModeForbids
    else s

/-- TUNE_END (R157). -/
def execTuneEnd (dt : Nat) (d : PdId) (n : SlotId) (s : State) : Host.Outcome State Fault Refusal := .next ((s.advance dt).tuneCheck d n)

/-! ## Loop opcodes (R146, R164) -/

/-- The block of a RESOURCE_CONFLICT reply (R246). -/
def conflictBlock (kind portal idx pid unit : Nat) : List Byte := le 2 (4096 * kind + 256 * portal + idx) ++ le 2 pid ++ le 2 unit

/-- The slot that a loop opcode names, or the status of its refusal (R164, R19). -/
def State.slotTarget (s : State) (unit : Nat) (b : Nat) : Except Nat (PdId × SlotId) :=
  if unit = 0x4100 ∨ unit = 0x4200 then
    if h : b < 64 then .ok (if unit = 0x4100 then 0 else 1, ⟨b, h⟩) else .error stBadParam
  else if unit / 4096 = 1 ∧ unit / 256 % 16 < 8 ∧ (unit % 256 = 0x10 ∨ unit % 256 = 0x11) then
    let p : PortalId := ⟨unit / 256 % 16 % 8, by omega⟩
    let l : LeafId := ⟨unit % 2, by omega⟩
    if !s.leafPresent p l then .error stBadUnit
    else if h : b < 4 then .ok (pdOf p, leafSlot p l ⟨b, h⟩) else .error stBadParam
  else .error stBadUnit

/-- The leaf of a leaf slot is the jogged unit of a JOG (R93, R146). -/
def State.leafJogged (s : State) (d : PdId) (n : SlotId) : Bool :=
  match (s.portal (slotPortal d n)).jog with
  | some j => (s.portal (slotPortal d n)).state = .jog && j.kind.val = (slotLeaf n).val && !j.ending
  | none => false

/-- A mode request is allowed in the device mode (R146). -/
def State.slotModeOk (s : State) (d : PdId) (n : SlotId) (want : SlotMode) : Bool :=
  let leaf := decide (n.val < 32)
  let bdc := leaf && s.leafMode (slotPortal d n) (slotLeaf n) = 2 && decide ((slotLoop n).val < 2)
  !bdc && (match want with
    | .closed => s.mode = .configure || s.mode.runs
    | .hold => if leaf then s.mode = .configure || s.mode = .maintain else s.mode = .configure || s.mode.runs
    | .manual => if leaf then s.mode = .maintain && s.leafJogged d n else s.mode.runs
    | .tune => s.mode = .maintain && (!leaf || s.leafJogged d n)
    | .disabled => if leaf then s.mode = .configure else s.mode = .configure || s.mode = .maintain)

/-- What leaving DISABLED needs (R146). -/
def State.slotComplete (s : State) (d : PdId) (n : SlotId) : Bool :=
  s.slotIsSet d n 2 && decide (s.slotRaw d n 15 < s.slotRaw d n 16) &&
    (decide (n.val < 32) || ((s.slotOwner d n).isSome && s.slotIsSet d n 1 && decide (s.slotIo d n % 16 ≠ 0)))

/-- The conflict of taking a general slot out of DISABLED (R135): role channel, another slot's output, a channel not in PWM mode, an
absent feedback interface. -/
def State.slotConflict (s : State) (d : PdId) (n : SlotId) : Option (List Byte) :=
  let io := s.slotIo d n
  let byOut := match s.slotOut d n with
    | none => none
    | some (p, c) =>
      match (if s.present p then s.view.roleOf p c.val else none) with
      | some pid => some (conflictBlock 4 p.val c.val pid (uPortal p))
      | none => match (List.finRange 64).find? fun m => m ≠ n && (s.slot d m).mode ≠ .disabled && s.slotOut d m = some (p, c) with
        | some m => some (conflictBlock 4 p.val c.val (0x3500 + m.val) (uEngine d))
        | none => if s.view.raw 0x7000 (uChan p c) = 2 then none else some (conflictBlock 4 p.val c.val 0x7000 (uChan p c))
  match byOut with
  | some b => some b
  | none => match s.slotOwner d n with
    | some p =>
      if (io % 16 = 1 ∨ io % 16 = 2) ∧ !s.view.fbPresent p ⟨io / 16 % 16 % 3, by omega⟩ then
        some (conflictBlock 4 p.val (io / 4096 % 16) 0x1000 (uPortal p))
      else none
    | none => none

/-- The common checks of a request that moves a slot to a mode (R135, R146): the refusal, if any. At the tick of a residue mismatch it is refused with
FENCED (R163). -/
def State.slotRequest (s : State) (d : PdId) (n : SlotId) (want : SlotMode) : Option (Nat × List Byte) :=
  let dflt := detail 0xFFFF (s.slotUnit d n)
  if (s.slot d n).errAt = some s.ts then some (stFenced, dflt)
  else if !s.slotModeOk d n want then some (stModeForbids, dflt)
  else if want ≠ .disabled ∧ (s.slot d n).mode = .disabled then
    if !s.slotComplete d n then some (stBadParam, dflt)
    else if 32 ≤ n.val then (s.slotConflict d n).map fun b => (stResource, b)
    else none
  else none

/-- Run a loop opcode on the slot it names. -/
def State.withSlot (s : State) (h : Handle) (ps : List Byte) (f : PdId → SlotId → State) : State :=
  match s.slotTarget h.unit.toNat (ps.getD 0 0).toNat with
  | .error st => s.refuse h st
  | .ok (d, n) => f d n

/-- Give a refusal or go on. -/
def State.orRefuse (s : State) (h : Handle) (r : Option (Nat × List Byte)) (f : State) : State :=
  match r with
  | some (st, b) => s.reply h st b
  | none => f

/-- LOOP_OPEN (0x60). A tune in progress ends as by TUNE_STOP (log 10). -/
def State.loopOpen (s : State) (h : Handle) (ps : List Byte) : State :=
  s.withSlot h ps fun d n => s.orRefuse h (s.slotRequest d n .hold)
    ((((s.abortTune d n 1 stModeForbids).endClosing d n).modSlot d n fun x => { x with mode := .hold }).reply h stDone [])

/-- LOOP_CLOSE (0x61): AUTO; the reply waits for the transfer while the slot ticks (R148, R164). -/
def State.loopClose (s : State) (h : Handle) (ps : List Byte) : State :=
  s.withSlot h ps fun d n => s.orRefuse h (s.slotRequest d n .closed)
    (let s := s.abortTune d n 1 stModeForbids
     let x := s.slot d n
     if x.mode = .closed ∧ !x.preset then s.reply h stDone [0]
     else
       let s := s.modSlot d n fun y => { y with mode := .closed, preset := true, prevMode := if y.mode = .closed then y.prevMode else y.mode }
       if x.running then s.modSlot d n fun y => { y with closing := y.closing ++ [h] } else s.reply h stDone [2])

/-- LOOP_MANUAL (0x62). -/
def State.loopManual (s : State) (h : Handle) (ps : List Byte) : State :=
  s.withSlot h ps fun d n => s.orRefuse h (s.slotRequest d n .manual)
    (if !s.slotIsSet d n 18 then s.refuse h stBadParam
     else
       let s := (s.abortTune d n 1 stModeForbids).endClosing d n
       (s.modSlot d n fun x => { x with mode := .manual, manual := signedOf 2 (unLe (ps.drop 1)),
                                        ramp := if x.mode = .manual then x.ramp else x.u }).reply h stDone [])

/-- SLOT_DISABLE (0x68). -/
def State.slotDisable (s : State) (h : Handle) (ps : List Byte) : State :=
  s.withSlot h ps fun d n => s.orRefuse h (s.slotRequest d n .disabled)
    (let s := (s.abortTune d n 1 stModeForbids).endClosing d n
     let s := match s.slotOut d n with
       | some (p, c) => s.modChan p c fun x => { x with slotDuty := none }
       | none => s
     let s' := s.modSlot d n fun x => { x.cleared with mode := .disabled }
     let s' := match s.slotOut d n with
       | some (p, c) => s'.chanSync p c
       | none => s'
     s'.reply h stDone [])

/-- A write of coefficients or limits is refused unless the slot is in HOLD or DISABLED, and for a leaf slot outside CONFIGURE and
MAINTAIN (R151). -/
def State.coefRefused (s : State) (d : PdId) (n : SlotId) : Option Nat :=
  if n.val < 32 ∧ !(s.mode = .configure ∨ s.mode = .maintain) then some stModeForbids
  else if !((s.slot d n).mode = .hold ∨ (s.slot d n).mode = .disabled) then some stLoopClosed
  else none

/-- COEF_WRITE (0x63): the whole coefficient set in one operation (R152). -/
def State.coefWrite (s : State) (h : Handle) (ps : List Byte) : State :=
  s.withSlot h ps fun d n =>
    let q := ps.drop 1
    let order : Int := (q.getD 0 0).toNat
    let shift : Int := (q.getD 1 0).toNat
    let word := fun k => signedOf 2 (unLe ((q.drop (2 + 2 * k)).take 2))
    let vals : List (Nat × Int) := [(2, order), (3, shift)] ++ (List.range 9).map fun k => (4 + k, word k)
    match s.coefRefused d n with
    | some st => s.refuse h st
    | none =>
      match vals.find? fun e => !(descOf (0x3000 + 0x40 * e.1 + n.val)).inRange e.2 with
      | some _ => s.refuse h stOutOfRange
      | none =>
        let s := foldState vals (fun e t => { t with params := store t.params (0x3000 + 0x40 * e.1 + n.val, uEngine d) e.2 }) s
        (s.modSlot d n fun x => { x with wHist := [0, 0, 0] }).reply h stDone []

/-- SLOT_READ (0x64). -/
def State.slotRead (s : State) (h : Handle) (ps : List Byte) : State :=
  s.withSlot h ps fun d n =>
    let x := s.slot d n
    s.reply h stDone (le 2 x.statusWord ++ leI 2 x.e ++ leI 2 x.w ++ leI 2 x.u ++ leI 4 (clampI (-(2 ^ 31)) (2 ^ 31 - 1) x.i)
      ++ leI 2 (satQ15 (roundQ30 x.o)))

/-- TUNE_START (0x65) (R154, R155); on a leaf slot of a portal whose last check failed it is refused (R62). -/
def State.tuneStart (s : State) (h : Handle) (ps : List Byte) : State :=
  s.withSlot h ps fun d n =>
    let q := ps.drop 1
    let th := signedOf 2 (unLe (q.take 2))
    let eps := signedOf 2 (unLe ((q.drop 2).take 2))
    let bias := signedOf 2 (unLe ((q.drop 4).take 2))
    let periods := (q.getD 6 0).toNat
    let rule := (q.getD 7 0).toNat
    let timeout := unLe ((q.drop 8).take 2)
    let x := s.portal (slotPortal d n)
    if n.val < 32 ∧ x.checkFailed then s.reply h stModeForbids (detail x.checkPid (uPortal (slotPortal d n)))
    else s.orRefuse h (s.slotRequest d n .tune)
      (if (s.slot d n).mode ≠ .hold then s.refuse h stLoopClosed
       else if !s.slotIsSet d n 22 ∨ th < 164 ∨ 16384 < th ∨ eps < 0 ∨ th < 2 * eps ∨ bias < s.slotRaw d n 15 + th ∨ s.slotRaw d n 16 - th < bias
          ∨ periods < 3 ∨ 20 < periods ∨ 1 < rule ∨ timeout < 100 ∨ 60000 < timeout then s.refuse h stOutOfRange
       else
         let s := s.reply h stAccepted []
         s.modSlot d n fun x => { x with
           mode := .tune
           tune := some ⟨th, eps, bias, periods, rule, timeout, s.ts, none, s.ts, [], [], 0, 0, some h⟩ })

/-- TUNE_STOP (0x66): the tune ends with ABORTED; DONE. An end condition that holds at this instant decides the OUTCOME, and TUNE_STOP is answered
DONE (R163). -/
def State.tuneStop (s : State) (h : Handle) (ps : List Byte) : State :=
  s.withSlot h ps fun d n =>
    if (s.slot d n).tune.isSome then ((s.tuneCheck d n).abortTune d n 1 stModeForbids).reply h stDone []
    else if (s.slot d n).endAt = some s.ts then s.reply h stDone [] else s.refuse h stModeForbids

/-- TUNE_RESULT (0x67). -/
def State.tuneResult (s : State) (h : Handle) (ps : List Byte) : State :=
  s.withSlot h ps fun d n => s.reply h stDone (0#8 :: (s.slot d n).tuneFields)

end Sys2Proof.Machine
end

