-- ==== Sys2Proof/Machine/Channels.lean ====
section
/-! DEFINITION. Load channels (R254–R288): period starts, protection, supply anomalies, and the channel commands of the 0x4x group. -/

namespace Sys2Proof.Machine

/-! ## Duty (R258–R260) -/

/-- D_eff of a LAMP channel (R259). -/
def lampDuty (duty : Int) (vnom vls : Int) : Nat :=
  if vls ≤ 0 then 1000 else (min 1000 (roundR ((duty : Rat) * ((vnom : Rat) / vls) * ((vnom : Rat) / vls)))).toNat

/-- The hold duty of a VALVE channel (R260). -/
def holdDuty (duty : Int) (vnom vls : Int) : Nat :=
  if vnom = 0 then duty.toNat else if vls ≤ 0 then 1000 else (min 1000 (roundR ((duty : Rat) * (vnom : Rat) / vls))).toNat

/-- The duty of a channel at a period start, in its mode (R257–R261). -/
def State.chanDuty (s : State) (p : PortalId) (c : ChanId) : Nat :=
  let x := s.chan p c
  let vls := (s.portal p).vls
  let u := uChan p c
  match x.modeIn with
  | 2 => if s.fsCause p ∧ x.fsReg = 2 then x.holdDuty else s.ownerDuty p c
  | 3 => lampDuty (s.par 0x7004 u) (s.chanPar p c 0x7005) vls
  | 4 => if x.pullSince.isSome then 1000 else holdDuty (s.chanPar p c 0x7007) (s.chanPar p c 0x7005) vls
  | 5 => if flashOn (s.chanPar p c 0x7008).toNat (s.chanPar p c 0x7009).toNat (s.pwTs p) then 1000 else 0
  | _ => 1000

/-- A period of the channel, or a step of its flash pattern, begins at this count of the power die's time-stamp: t − c × P/8 is a multiple of P
(R258, R261); an instant between two counts falls on the later one. -/
def State.periodDue (s : State) (p : PortalId) (c : ChanId) : Bool :=
  let t := (s.pwTs p).toNat
  if (s.chan p c).modeIn = 5 then decide (t % (100000 * (s.chanPar p c 0x7009).toNat) = 0)
  else
    let f := (s.chanPar p c 0x7003).toNat
    decide ((t * f + 100000000 - c.val * 12500000) % 100000000 < f)

/-- Apply a duty from a period start on: on-times and off-times shorter than 50 µs are not produced (R258). -/
def Channel.applyDuty (x : Channel) (now : Ts) (duty period : Nat) : Channel :=
  let onTime := duty * period / 1000
  let x := { x with dutyEff := duty, pwmDuty := some duty }
  if onTime < us 50 then x.drive now false none
  else if period - onTime < us 50 then x.drive now true none
  else x.drive now true (some onTime)

/-- What a period start, or a flash step, does to a channel that conducts (R258–R261). -/
def State.periodStart (s : State) (p : PortalId) (c : ChanId) : State :=
  let x := s.chan p c
  match x.modeIn with
  | 1 => s
  | 4 => if x.pullSince.isSome then s else s.modChan p c fun y => y.applyDuty s.ts (s.chanDuty p c) (s.pwmPeriod p c)
  | 5 =>
    let on := decide (s.chanDuty p c = 1000)
    s.modChan p c fun y => { y.drive s.ts on none with dutyEff := if on then 1000 else 0 }
  | 2 =>
    -- HOLD that begins at this very clock takes the duty after this period start (R282)
    let s := if x.fsSince = some s.ts ∧ x.fsReg = 2 then s.modChan p c fun y => { y with holdDuty := s.ownerDuty p c } else s
    s.modChan p c fun y => y.applyDuty s.ts (s.chanDuty p c) (s.pwmPeriod p c)
  | _ => s.modChan p c fun y => y.applyDuty s.ts (s.chanDuty p c) (s.pwmPeriod p c)

/-- CHANNEL_PERIOD_START (R258–R261, R264, R275, R277): a PWM period or flash step of a channel begins; the die's means of VLSp and of the
channel current over the last millisecond come with it, and the state machine decides again. -/
def execChannelPeriodStart (dt : Nat) (p : PortalId) (c : ChanId) (vls : Int) (iAvg : Nat) (iOn : Option Nat) (s : State) :
    Host.Outcome State Fault Refusal :=
  let s := (s.advance dt).modPortal p fun x => { x with vls := vls }
  let s := s.modChan p c fun x => { x with iAvg := min iAvg 8190, iOn := match iOn with
    | some i => min i 8190
    | none => x.iOn }
  let s := s.chanSync p c
  .next (if (s.chan p c).allowed && s.periodDue p c then s.periodStart p c else s)

/-- PULL_IN_END (R260): the pull-in is over; the channel holds from here on. -/
def execPullInEnd (dt : Nat) (p : PortalId) (c : ChanId) (s : State) : Host.Outcome State Fault Refusal :=
  let s := s.advance dt
  if s.ran (s.chan p c).pullSince (ms (s.chanPar p c 0x7006).toNat) then
    let s := s.modChan p c fun x => { x with pullSince := none }
    .next (s.modChan p c fun x => { x with dutyEff := s.chanDuty p c })
  else .next s

/-- CH_PULSE_END (R262): the length has elapsed: the demand goes off and the final reply is sent. -/
def execChPulseEnd (dt : Nat) (p : PortalId) (c : ChanId) (s : State) : Host.Outcome State Fault Refusal :=
  let s := s.advance dt
  match (s.chan p c).pulseEnd with
  | some t =>
    if 0 ≤ (s.ts - t).toInt then
      .next (((s.modChan p c fun x => { x with hostDemand := false }).chanSync p c).endPulse p c stDone)
    else .next s
  | none => .next s

/-! ## Protection (R269–R274) -/

/-- I_LIM in mA (R269). -/
def State.iLimCh (s : State) (p : PortalId) (c : ChanId) : Nat :=
  match s.parN 0x7001 (uChan p c) with
  | 0 => 1000 | 1 => 2000 | 2 => 4000 | _ => 6000

/-- A latch on a role channel fences its portal with cause 0x0B (R274). -/
def State.chanLatchFence (s : State) (p : PortalId) (c : ChanId) : State :=
  if s.isRole p c then s.fence p 0x0B (uChan p c) 0 else s

/-- A shutdown (R269, R271): counted, then a retry wait while the demand is on, or the overcurrent latch. -/
def State.chanShutdown (s : State) (p : PortalId) (c : ChanId) (peak : Nat) (fast : Bool) : State :=
  let x := s.chan p c
  let u := uChan p c
  let s := s.raiseAt (pwDie p) (pwSrc p) 0x0400 u (min peak 8190 + 65536 * x.retries + 2 ^ 24 * bit fast)
  let s := (s.modChan p c fun y => { y.drive s.ts false none with
    offAt := none, shutAt := some (s.ts, peak, fast), shutdowns := satInc 4294967295 y.shutdowns, shutdownSeen := true, condAcc := 0 }).markSet
    0x7080 u 9
  if x.retries < (s.chanPar p c 0x700B).toNat then (s.modChan p c fun y => { y with retrySince := some s.ts }).chanSync p c
  else
    let s := (s.modChan p c fun y => { y with ocLatch := true }).chanSync p c
    (s.raiseAt (pwDie p) (pwSrc p) 0x0401 u x.retries).chanLatchFence p c

/-- The effect of a clear (R273): latches, retry wait and RETRY_COUNT, with event 0x0403 when it changed something. -/
def State.chanCleared (s : State) (p : PortalId) (c : ChanId) : State :=
  let x := s.chan p c
  let some' := x.ocLatch || x.thermLatch || x.retrySince.isSome || decide (x.retries ≠ 0)
  let s := s.modChan p c fun y => { y with ocLatch := false, thermLatch := false, retrySince := none, retries := 0 }
  let s := if some' then s.raiseAt (pwDie p) (pwSrc p) 0x0403 (uChan p c) (bit x.ocLatch + 2 * bit x.thermLatch) else s
  s.chanSync p c

/-- A shutdown of this clock is taken back: what it counted, what it latched and what it raised. -/
def State.shutdownUndone (s : State) (p : PortalId) (c : ChanId) : State :=
  let u := uChan p c
  let s := s.modChan p c fun x => { x with ocLatch := false, retrySince := none, shutdowns := x.shutdowns - 1, shutAt := none }
  let s := s.modDie (pwDie p) fun d => { d with raised := d.raised.filter fun e =>
    !((e.code = 0x0400 || e.code = 0x0401) && e.unit = u && decide (e.ts = d.ts)) }
  s.modPortal p fun x => { x with found := x.found.filter fun e => !(e.1 = 0x0B && e.2.1 = u) }

/-- A clear of a channel (R273). A shutdown of the same clock counts after the clear (R282). -/
def State.chanClear (s : State) (p : PortalId) (c : ChanId) : State :=
  match (s.chan p c).shutAt with
  | some (t, peak, fast) =>
    if t = s.ts then ((s.shutdownUndone p c).chanCleared p c).chanShutdown p c peak fast else s.chanCleared p c
  | none => s.chanCleared p c

/-- The blanking window of the conduction that runs, or that ended at this clock (R282). -/
def Channel.conducting (x : Channel) (now : Ts) : Option (Option Ts) :=
  if x.on then some x.blankSince
  else match x.offAt with
    | some (t, b) => if t = now then some b else none
    | none => none

/-- CHANNEL_LIMIT_SHUTDOWN (R269): the channel is at its limit: LIMITING inside the blanking window, a shutdown after it. -/
def execChannelLimitShutdown (dt : Nat) (p : PortalId) (c : ChanId) (peak : Nat) (s : State) : Host.Outcome State Fault Refusal :=
  let s := s.advance dt
  let x := s.chan p c
  .next (match x.conducting s.ts with
    | none => s
    | some b =>
      if s.ran b (us (s.chanPar p c 0x700A).toNat) then s.chanShutdown p c peak false
      else if x.on then s.modChan p c fun y => { y with limiting := true }
      else s)

/-- CHANNEL_FAST_OFF (R269): a current above 1.5 × I_LIM, at any time. -/
def execChannelFastOff (dt : Nat) (p : PortalId) (c : ChanId) (peak : Nat) (s : State) : Host.Outcome State Fault Refusal :=
  let s := s.advance dt
  if ((s.chan p c).conducting s.ts).isSome ∧ 3 * s.iLimCh p c < 2 * peak then .next (s.chanShutdown p c peak true) else .next s

/-- RETRY_INTERVAL_END (R271): the channel turns on again, provided its demand is on and nothing else holds it off. -/
def execRetryIntervalEnd (dt : Nat) (p : PortalId) (c : ChanId) (s : State) : Host.Outcome State Fault Refusal :=
  let s := s.advance dt
  let x := s.chan p c
  let s' := s.modChan p c fun y => { y with retrySince := none }
  if s.ran x.retrySince (ms (s.chanPar p c 0x700C).toNat) ∧ x.demand ∧ !s'.heldOff p c then
    .next ((s'.modChan p c fun y => { y with retries := min 15 (y.retries + 1), retryAt := some (s.ts, y.retries) }).chanSync p c)
  else .next s

/-- RETRY_COUNT_RESET (R271): 1 s of conduction since the last shutdown. -/
def execRetryCountReset (dt : Nat) (p : PortalId) (c : ChanId) (s : State) : Host.Outcome State Fault Refusal :=
  let s := s.advance dt
  if 100000000 ≤ (s.chan p c).conducted s.ts ∧ !(s.chan p c).thermLatch then .next (s.modChan p c fun x => { x with retries := 0 })
  else .next s

/-- CHANNEL_TEMPERATURE (R272): the sensor's new value, in 0.1 °C. -/
def execChannelTemperature (dt : Nat) (p : PortalId) (c : ChanId) (temp : Int) (s : State) : Host.Outcome State Fault Refusal :=
  let s := (s.advance dt).modChan p c fun x => { x with temp := temp }
  let x := s.chan p c
  let u := uChan p c
  let s := if 1600 < temp ∧ !x.tempWarn then
      (s.modChan p c fun y => { y with tempWarn := true }).raiseAt (pwDie p) 49 0x0430 u (sat16 temp)
    else if temp < 1500 then s.modChan p c fun y => { y with tempWarn := false } else s
  if 1750 ≤ temp ∧ !x.thermLatch then
    -- a retry of this clock did not take place (R282)
    let s := (s.modChan p c fun y => match y.retryAt with
      | some (t, n) => if t = s.ts then { y with thermLatch := true, retries := n, retrySince := some t } else { y with thermLatch := true }
      | none => { y with thermLatch := true }).chanSync p c
    .next ((s.raiseAt (pwDie p) (pwSrc p) 0x0402 u (sat16 temp)).chanLatchFence p c)
  else .next s

/-! ## Supply anomalies (R279) -/

/-- The VLS_STATUS bit of an anomaly. -/
def supplyBit : SupplyKind → Nat
  | .undervoltage => 0 | .reverse => 1 | .surge => 2 | .groundLoss => 3

/-- What an anomaly becomes at a measurement: set, cleared, or unchanged (R279). -/
def anomalyAt (k : SupplyKind) (old : Bool) (mv : Int) (gndMv : Nat) : Bool :=
  match k with
  | .undervoltage => if mv < 14000 then true else if 16000 < mv then false else old
  | .reverse => if mv < -5000 then true else if -2000 < mv then false else old
  | .surge => if 140000 < mv then true else if mv < 135000 then false else old
  | .groundLoss => if 2000 < gndMv then true else if gndMv ≤ 500 then false else old

/-- SUPPLY_ANOMALY (R279, R288): a detection or an end of an anomaly, with its measurement; the times that R279 asks for have passed
(log 2). A ground loss is shown on both portals of the die. -/
def execSupplyAnomaly (dt : Nat) (p : PortalId) (k : SupplyKind) (mv : Int) (gndMv : Nat) (s : State) :
    Host.Outcome State Fault Refusal :=
  let s := (s.advance dt).modPortal p fun x => { x with vls := mv }
  let b := supplyBit k
  let old := (s.portal p).vlsStatus.getLsbD b
  let new := anomalyAt k old mv gndMv
  if new = old then .next s
  else
    let who := if k = .groundLoss then allPortals.filter fun q => pwDie q = pwDie p else [p]
    let s := foldState who (fun q t => (t.modPortal q fun x => { x with vlsStatus := setBit x.vlsStatus b new }).chansSync q) s
    let unit := if k = .groundLoss then uDie (3 + p.val / 2) else uPortal p
    .next (s.raiseAt (pwDie p) (pwSrc p) (if new then 0x0410 else 0x0411) unit (b + 65536 * sat16 (mv / 100)))

/-! ## Channel commands (R262, R263) -/

/-- The portal and the channel of a channel address, if it is one. -/
def chanOfUnit (u : Nat) : Option (PortalId × ChanId) :=
  if u / 2048 = 2 ∧ u / 16 % 16 = 3 ∧ u % 16 < 8 then some (⟨u / 256 % 8, by omega⟩, ⟨u % 8, by omega⟩) else none

/-- The conflict block for the first channel concerned that the host does not own (R63, R135, R246, R263). -/
def State.chanConflict (s : State) (p : PortalId) (cs : List ChanId) (slots : Bool) : Option (List Byte) :=
  cs.findSome? fun c =>
    match s.view.roleOf p c.val with
    | some pid => some (conflictBlock 4 p.val c.val pid (uPortal p))
    | none => if slots then
        (s.slotOfChan p c).map fun dn => conflictBlock 4 p.val c.val (0x3500 + dn.2.val) (uEngine dn.1)
      else none

/-- The checks of R263 for the channels `cs`; `on` those demanded on. Gives the refusal or what to do. -/
def State.chanChecked (s : State) (h : Handle) (p : PortalId) (cs on : List ChanId) (clear : Bool) (act : State) : State :=
  if !s.present p then s.refuse h stBadUnit
  else if !s.mode.runs then s.refuse h stModeForbids
  else match s.chanConflict p cs (!clear) with
    | some b => s.reply h stResource b
    | none =>
      if !clear ∧ (s.portal p).state = .fenced then s.refuse h stFenced
      else if on.any fun c => decide (s.parN 0x7000 (uChan p c) = 0) then s.refuse h stBadParam
      else act

/-- A new demand of the host for a channel ends a CH_PULSE in progress on it (R262). -/
def State.hostDemand (s : State) (p : PortalId) (c : ChanId) (on : Bool) : State :=
  let s := if (s.chan p c).pulseEnd.isSome then s.endPulse p c stModeForbids else s
  (s.modChan p c fun x => { x with hostDemand := on }).chanSync p c

/-- CH_ON (0x40). -/
def State.chOn (s : State) (h : Handle) (_ps : List Byte) : State :=
  match chanOfUnit h.unit.toNat with
  | none => s.refuse h stBadUnit
  | some (p, c) => s.chanChecked h p [c] [c] false
      (let s := s.hostDemand p c true
       s.reply h stDone (le 2 (s.chStatus p c)))

/-- CH_OFF (0x41). -/
def State.chOff (s : State) (h : Handle) (_ps : List Byte) : State :=
  match chanOfUnit h.unit.toNat with
  | none => s.refuse h stBadUnit
  | some (p, c) => s.chanChecked h p [c] [] false
      (let s := s.hostDemand p c false
       s.reply h stDone (le 2 (s.chStatus p c)))

/-- CH_PULSE (0x42): ACCEPTED; the final reply follows at the end of the length. -/
def State.chPulse (s : State) (h : Handle) (ps : List Byte) : State :=
  match chanOfUnit h.unit.toNat with
  | none => s.refuse h stBadUnit
  | some (p, c) =>
    let len := unLe (ps.take 2)
    s.chanChecked h p [c] [c] false
      (if len < 1 ∨ 60000 < len then s.refuse h stOutOfRange
       else
         let s := s.hostDemand p c true
         let s := s.reply h stAccepted (le 2 (s.chStatus p c))
         s.modChan p c fun x => { x with pulseEnd := some (s.ts + BitVec.ofNat 56 (ms len)), pulseReply := some h })

/-- CH_MULTI (0x43): the demands of several channels at one die clock. -/
def State.chMulti (s : State) (h : Handle) (ps : List Byte) : State :=
  let u := h.unit.toNat
  if u / 2048 = 2 ∧ u % 256 = 0 then
    let p : PortalId := ⟨u / 256 % 8, by omega⟩
    let affect := ps.getD 0 0
    let on := ps.getD 1 0
    let cs := (List.finRange 8).filter fun c : ChanId => affect.getLsbD c.val
    if on &&& ~~~affect ≠ 0 ∧ s.present p then s.refuse h stBadParam
    else s.chanChecked h p cs (cs.filter fun c => on.getLsbD c.val) false
      (let s := foldState cs (fun c t => t.hostDemand p c (on.getLsbD c.val)) s
       s.reply h stDone ((List.finRange 8).flatMap fun c => le 2 (s.chStatus p c)))
  else s.refuse h stBadUnit

/-- CH_CLEAR (0x44) (R273). -/
def State.chClear (s : State) (h : Handle) (_ps : List Byte) : State :=
  match chanOfUnit h.unit.toNat with
  | none => s.refuse h stBadUnit
  | some (p, c) => s.chanChecked h p [c] [] true
      (if s.tooHot p c then s.reply h stModeForbids (leI 2 (s.chan p c).temp ++ le 2 (s.chStatus p c))
       else
         let s := s.chanClear p c
         s.reply h stDone (le 2 (s.chStatus p c)))

end Sys2Proof.Machine
end

