-- ==== Sys2Proof/Machine/LeafDrive.lean ====
section
/-! DEFINITION. Leaf drive units (R100–R132): start, alignment, rotor angle, the field-oriented datapath, the chopper, the profile
generator, faults. -/

namespace Sys2Proof.Machine

/-! ## Faults (R127) -/

/-- A fault bit of LD_FAULT, the leaf's action, and the fence it causes. -/
def State.leafFault (s : State) (p : PortalId) (l : LeafId) (b : Nat) (trip : Bool) (cause : Nat) : State :=
  let s := s.modLeaf p l fun x => { x with fault := setBit x.fault b true }
  let s := if trip then s.leafTrip p l else s.faultBrake p l
  s.fence p cause (uLeaf p l) 0

/-- A bus or clock fault on every present leaf of a portal where its bit is not yet set (R114). -/
def State.leavesFault (s : State) (p : PortalId) (b : Nat) (trip : Bool) : State :=
  foldState (s.leaves p) (fun l t => if t.driven p l ∧ (t.leaf p l).fault.getLsbD b = false then t.leafFault p l b trip 0x03 else t) s

/-- GD_EN as the gate driver sees it: the drive state asks for it and the device holds the claim (R115). -/
def State.gdEn (s : State) (p : PortalId) (l : LeafId) : Bool := (s.leaf p l).pwm.enable && s.gates

/-- GD_FLT_N is watched: GD_EN is high, or fell at this very instant, and has been high for GD_EN_DELAY, by the drive state and by the claim
(R116, R128). -/
def State.gdWatched (s : State) (p : PortalId) (l : LeafId) : Bool :=
  let x := s.leaf p l
  let d := us (s.parN 0x2013 (uLeaf p l))
  s.driven p l && (x.pwm.enable || decide (x.enableUntil = some s.ts)) && s.gates && s.elapsed x.enableSince d && s.elapsed s.claim.since (us 50 + d)

/-- GD_FAULT (R116): a level accepted on GD_FLT_N; a low one trips the leaf while the input is watched. -/
def execGdFault (dt : Nat) (p : PortalId) (pin : GdPin) (s : State) : Host.Outcome State Fault Refusal :=
  let s := (s.advance dt).modLeaf p pin.leaf fun x => { x with gdFlt := pin.low }
  if pin.low ∧ s.gdWatched p pin.leaf then .next (s.leafFault p pin.leaf 0 true 0x03) else .next s

/-- The leaf modulator clock of a portal runs (R102). -/
def State.sdRuns (s : State) (p : PortalId) : Bool :=
  decide (s.view.raw 0x2020 (uPortal p) ≠ 0) && s.present p && !s.pneumatic p && (s.pdMode p).fromConfigure

/-- A motor current from an output of its sinc3 filter, mA (R112). -/
def State.phaseCurrent (s : State) (p : PortalId) (l : LeafId) (y : Nat) : Rat :=
  sincValue y (s.parN 0x2021 (uLeaf p l)) 3 (s.par 0x2022 (uLeaf p l))

/-- A motor current from an output of its fast filter, mA (R113). -/
def State.fastCurrent (s : State) (p : PortalId) (l : LeafId) (y : Nat) : Rat := sincValue y 16 2 (s.par 0x2022 (uLeaf p l))

/-- The bus voltage from an output of its sinc3 filter, mV (R112). -/
def State.busValue (s : State) (p : PortalId) (y : Nat) : Rat := sincValue y (s.parN 0x2023 (uPortal p)) 3 (s.par 0x2024 (uPortal p))

/-- A bus output arrives: the bus is measured while the clock runs, and the time below VBUS_MIN counts (R114). -/
def State.busOutput (s : State) (p : PortalId) (y : Nat) : State :=
  if s.sdRuns p then
    let v := s.busValue p y
    s.modPortal p fun x =>
      { x with vbus := v, vbusLow := if v < (s.par 0x2026 (uPortal p) : Rat) then (if x.vbusLow.isSome then x.vbusLow else some s.ts) else none }
  else s

/-- OVERCURRENT_TRIP (R113): two consecutive outputs of a stream's fast filter above IOC_TRIP in magnitude; a brushed leaf uses one stream
(R100). -/
def execOvercurrentTrip (dt : Nat) (p : PortalId) (l : LeafId) (phaseV : Bool) (y : Nat × Nat) (s : State) :
    Host.Outcome State Fault Refusal :=
  let s := s.advance dt
  let lim : Rat := s.par 0x2028 (uLeaf p l)
  if s.driven p l ∧ s.sdRuns p ∧ !(phaseV && decide (s.leafMode p l = 2)) ∧ lim < |s.fastCurrent p l y.1| ∧ lim < |s.fastCurrent p l y.2| then
    .next (s.leafFault p l 1 true 0x03)
  else .next s

/-- VBUS_OVER (R114): a bus output above VBUS_MAX trips every leaf of the portal. -/
def execVbusOver (dt : Nat) (p : PortalId) (y : Nat) (s : State) : Host.Outcome State Fault Refusal :=
  let s := (s.advance dt).busOutput p y
  if s.sdRuns p ∧ (s.par 0x2027 (uPortal p) : Rat) < s.busValue p y then .next (s.leavesFault p 2 true) else .next s

/-- The bus has been below VBUS_MIN, and some leaf has modulated, for 10 ms without a break; modulation that ends at this very instant still
counts (R114, R128). -/
def State.busLow (s : State) (p : PortalId) : Bool :=
  let x := s.portal p
  s.ran x.vbusLow (ms 10) && s.ran x.modSince (ms 10) && (x.modUntil.isNone || decide (x.modUntil = some s.ts))

/-- VBUS_UNDER (R114): a bus output that ends the 10 ms. -/
def execVbusUnder (dt : Nat) (p : PortalId) (y : Nat) (s : State) : Host.Outcome State Fault Refusal :=
  let s := (s.advance dt).busOutput p y
  if s.sdRuns p ∧ s.busLow p then .next (s.leavesFault p 3 false) else .next s

/-! ## Rotor angle (R110, R111) -/

/-- ANGLE_SOURCE in force; none while it is not set (R521). -/
def State.angleSource (s : State) (p : PortalId) (l : LeafId) : Option Nat := s.parNames 0x2001 (uLeaf p l)

/-- The sector that HALL_MAP gives a code, or none for an invalid code (R111). -/
def State.hallSector (s : State) (p : PortalId) (l : LeafId) (code : BitVec 3) : Option Nat :=
  let k := s.parN 0x2005 (uLeaf p l) / 16 ^ code.toNat % 16
  if k < 6 then some k else none

/-- One sixth of an electrical revolution in angle counts. -/
def sixth : Rat := 65536 / 6

/-- The centre of a sector, ANGLE_OFFSET included (R111). -/
def State.sectorCentre (s : State) (p : PortalId) (l : LeafId) (k : Nat) : Rat := (k : Rat) * sixth + (s.parN 0x2004 (uLeaf p l) : Rat)

/-- HALL_EDGE (R111): θ at the boundary crossed, the speed of the interval, the reference of ENCODER_HALL_START; invalid codes are
counted over 1 s, for a leaf in PMSM mode, in which R110 uses the Hall inputs (log 93). A jump over a sector has no boundary in the manual: its
angle is a free value (log 8). With no sector known before there is no boundary, and the angle is the centre of the sector; a return from an
invalid code to the same sector crosses none, and the angle goes back to the last boundary with speed 0 (log 93, DESIGN CHOICE). -/
def execHallEdge (dt : Nat) (p : PortalId) (l : LeafId) (code : BitVec 3) (s : State) : Host.Outcome State Fault Refusal :=
  let s := s.advance dt
  let x := s.leaf p l
  match s.hallSector p l code with
  | none =>
    let inv := s.ts :: x.invalid.filter fun t => !s.elapsed t (ms 1000 + 1)
    let s := s.modLeaf p l fun y => { y with hallCode := code, invalid := inv }
    if 3 ≤ inv.length ∧ s.leafMode p l = 1 ∧ s.driven p l then
      .next ((s.modLeaf p l fun y => { y with invalid := [] }).leafFault p l 6 false 0x02)
    else .next s
  | some k =>
    let (b, dir, s) : Rat × Rat × State := match x.sector with
      | none => (s.sectorCentre p l k, 0, s)
      | some j =>
        if k = (j + 1) % 6 then (s.sectorCentre p l j + sixth / 2, 1, s)
        else if j = (k + 1) % 6 then (s.sectorCentre p l j - sixth / 2, -1, s)
        else if k = j then (x.thetaEdge, 0, s)
        else let (v, t) := s.drawRat; (v, 0, t)
    let sp : Rat := match x.lastEdge with
      | some t => if s.ts.since t = 0 then 0 else dir * sixth / (s.ts.since t : Rat)
      | none => 0
    let takeRef := s.angleSource p l = some 1 && !x.hallRef && x.drive ≠ .off
    let th := BitVec.ofInt 16 (quant b)
    .next (s.modLeaf p l fun y =>
      { y with hallCode := code, sector := some k, lastEdge := some s.ts, edgeSpeed := sp, thetaEdge := b, theta := th,
               hallRef := y.hallRef || takeRef, theta0 := if takeRef then th else y.theta0,
               c0 := if takeRef then (s.fb p (fbOfLeaf l)).c else y.c0 })

/-- HALL_TIMEOUT (R111): no edge for 50 ms, so θ is held at the centre of the present sector. -/
def execHallTimeout (dt : Nat) (p : PortalId) (l : LeafId) (s : State) : Host.Outcome State Fault Refusal :=
  let s := s.advance dt
  let x := s.leaf p l
  match x.sector with
  | some k =>
    if s.ran x.lastEdge (ms 50) then
      .next (s.modLeaf p l fun y => { y with thetaEdge := s.sectorCentre p l k, edgeSpeed := 0,
                                              theta := BitVec.ofInt 16 (quant (s.sectorCentre p l k)) })
    else .next s
  | none => .next s

/-- θ in encoder operation (R110). -/
def State.encoderTheta (s : State) (p : PortalId) (l : LeafId) : BitVec 16 :=
  let x := s.leaf p l
  let dc : Int := ((s.fb p (fbOfLeaf l)).c - x.c0).toInt
  BitVec.ofInt 16 ((x.theta0.toNat : Int) + quant (65536 * 256 * (dc : Rat) / (s.parN 0x2003 (uLeaf p l) : Rat)))

/-- θ between Hall edges: at the speed of the last interval, stopping at the next boundary (R111). -/
def State.hallTheta (s : State) (p : PortalId) (l : LeafId) : BitVec 16 :=
  let x := s.leaf p l
  match x.lastEdge with
  | none => x.theta
  | some t => BitVec.ofInt 16 (quant (x.thetaEdge + clampR (-sixth) sixth (x.edgeSpeed * (s.ts.since t : Rat))))

/-- θ as the datapath uses it at a tick (R110). -/
def State.thetaNow (s : State) (p : PortalId) (l : LeafId) : BitVec 16 :=
  let x := s.leaf p l
  if x.drive = .aligning then 0
  else match s.angleSource p l with
    | some 0 => s.hallTheta p l
    | some 1 => if x.hallRef then s.encoderTheta p l else s.hallTheta p l
    | some 2 => s.encoderTheta p l
    | _ => x.theta

/-! ## Starting and stopping -/

/-- Enter a modulating state: drive parameters are latched, the position reference starts from the leaf (R104, R121, R131). -/
def State.modulate (s : State) (p : PortalId) (l : LeafId) (d : Drive) : State :=
  let s := s.modLeaf p l fun x =>
    if x.drive = d then x
    else { x with latchedDrive := (0x2025, s.par 0x2025 (uPortal p)) ::
                    [0x2006, 0x2007, 0x2031, 0x2032, 0x2033, 0x2034, 0x2035].map fun q => (q, s.par q (uLeaf p l)),
                  chopH := (s.par 0x2034 (uLeaf p l) : Rat) }
  let s := s.modLeaf p l fun x =>
    if x.drive.modulating then x
    else { x with chopDrive := false, chopAt := s.ts, chopPrev := 0, chopCount := 0, chopSince := s.ts, iqRef := 0, vRef := 0, vCmd := if x.carry then s.vObs p l else 0,
                  xRef := s.xObs p l, vdSlot := 0, vqSlot := 0 }
  s.setDrive p l d

/-- A modulating state is wanted of a leaf: through STARTING when it is not driven yet (R105); a tripped leaf stays so. -/
def State.leafWant (s : State) (p : PortalId) (l : LeafId) (d : Drive) : State :=
  if !s.driven p l then s
  else match (s.leaf p l).drive with
    | .tripped => s
    | .off | .brake => (s.setDrive p l .starting).modLeaf p l fun x => { x with wanted := d, hallRef := false }
    | .starting | .aligning => s.modLeaf p l fun x => { x with wanted := d }
    | _ => s.modulate p l d

/-- DRIVE_START_DELAY_END (R104, R106, R110): the delay and boot times of STARTING are over; a gate driver that still shows its fault then trips
the leaf (R116, R128). -/
def execDriveStartDelayEnd (dt : Nat) (p : PortalId) (l : LeafId) (s : State) : Host.Outcome State Fault Refusal :=
  let s := s.advance dt
  let x := s.leaf p l
  let u := uLeaf p l
  let wait := us (s.parN 0x2013 u + (if x.wanted = .brake then 0 else s.parN 0x2012 u))
  if x.drive = .starting ∧ s.elapsed x.driveSince wait then
    if x.gdFlt ∧ s.gdWatched p l then .next (s.leafFault p l 0 true 0x03)
    else if x.wanted = .brake then .next (s.setDrive p l .brake)
    else if s.leafMode p l = 1 ∧ s.angleSource p l = some 2 ∧ !x.aligned then
      .next ((s.modulate p l .aligning).modLeaf p l fun y => { y with alignX := s.xObs p l })
    else .next (s.modulate p l x.wanted)
  else .next s

/-- ALIGN_TIME_END (R110): the reference is taken and ALIGNED is set. -/
def execAlignTimeEnd (dt : Nat) (p : PortalId) (l : LeafId) (s : State) : Host.Outcome State Fault Refusal :=
  let s := s.advance dt
  let x := s.leaf p l
  if x.drive = .aligning ∧ s.elapsed x.driveSince (ms (s.drivePar p l 0x2007).toNat) then
    let s := s.modLeaf p l fun y => { y with c0 := (s.fb p (fbOfLeaf l)).c, theta0 := 0, aligned := true }
    .next (s.modulate p l x.wanted)
  else .next s

/-- BRAKE_END (R106): STILL for 100 ms, or 2 s in BRAKE. -/
def execBrakeEnd (dt : Nat) (p : PortalId) (l : LeafId) (s : State) : Host.Outcome State Fault Refusal :=
  let s := s.advance dt
  let x := s.leaf p l
  let f := s.fb p (fbOfLeaf l)
  if x.drive = .brake ∧ !s.power.pfail ∧ (s.elapsed x.driveSince (ms 2000) ∨
      (f.still ∧ s.elapsed f.stillAt (ms 100) ∧ s.elapsed x.driveSince (ms 100))) then .next (s.setDrive p l .off)
  else .next s

/-! ## The datapath (R117) -/

/-- Clarke and Park: id and iq in mA (R117). -/
def park (ia ib : Rat) (th : BitVec 16) : Rat × Rat :=
  let be := (ia + 2 * ib) / sqrtR 3
  (ia * cosR th + be * sinR th, -ia * sinR th + be * cosR th)

/-- The compare value after the output stage: minimum pulse and the dead-time limit (R109). -/
def shapeC (n minPulse dead : Nat) (c : Int) : Nat :=
  let c := (clampI 0 n c).toNat
  let c := if 10 * c < minPulse then 0 else c
  let c := if 10 * (n - c) < minPulse then n - (minPulse + 9) / 10 else c
  min c (n - (dead + 4) / 5)

/-- Voltage references to compare values (R117): C_U, C_V, C_W before shaping, and whether a clamp acted. -/
def focCompare (k vdSlot vqSlot : Rat) (th : BitVec 16) (n : Nat) : Int × Int × Int × Bool :=
  let vd0 := k * vdSlot / 32768
  let vq0 := k * vqSlot / 32768
  let vd := clampR (-1) 1 vd0
  let lim := sqrtR (1 - vd * vd)
  let vq := clampR (-lim) lim vq0
  let va := vd * cosR th - vq * sinR th
  let vbeta := vd * sinR th + vq * cosR th
  let vb := -va / 2 + vbeta * sqrtR 3 / 2
  let vc := -va / 2 - vbeta * sqrtR 3 / 2
  let r3 := sqrtR 3
  let (ua, ub, uc) := (va / r3, vb / r3, vc / r3)
  let u0 := -(max ua (max ub uc) + min ua (min ub uc)) / 2
  let c := fun (u : Rat) => roundR ((n : Rat) * (1 / 2 + u + u0))
  (c ua, c ub, c uc, decide (vd ≠ vd0) || decide (vq ≠ vq0))

/-- N of the PWM counter (R108). A period is 2·N steps of 5 ns, which is N counts of the time-stamp. -/
def State.pwmN (s : State) (p : PortalId) (l : LeafId) : Nat := (roundR (100000000 / (s.parN 0x2010 (uLeaf p l) : Rat))).toNat

/-- A waiting set of compare values whose counter 0 has come is in force, all three together (R108). -/
def Pwm.settle (x : Pwm) (t : Ts) : Pwm :=
  match x.next with
  | some (c, at0) => if t.since at0 < 2 ^ 55 then { x with cmp := c, prev := x.cmp, next := none, zero := at0 } else x
  | none => x

/-- Give the PWM unit a new set (R118). With PWM_FREQ at 20,000 or 40,000 Hz the tick is locked to the counter, which stands at N: the set waits for
the next counter 0. Otherwise it waits for the first counter 0 after the end of the computation, whose time of at most 2 µs is free (log 8). -/
def State.pwmStage (s : State) (p : PortalId) (l : LeafId) (c : Vector Nat 3) : State :=
  let n := s.pwmN p l
  let f := s.parN 0x2010 (uLeaf p l)
  if f = 20000 ∨ f = 40000 then
    s.modLeaf p l fun x =>
      { x with pwm := { x.pwm.settle s.ts with zero := s.ts - BitVec.ofNat 56 (n / 2), next := some (c, s.ts + BitVec.ofNat 56 (n / 2)) } }
  else
    let (k, s) := s.drawNat
    let done := k % 201
    s.modLeaf p l fun x =>
      let y := x.pwm.settle s.ts
      let pos := (s.ts.since y.zero + done) % n
      { x with pwm := { y with next := some (c, s.ts + BitVec.ofNat 56 (done + if pos = 0 then 0 else n - pos)) } }

/-- New compare values in PMSM mode (R108, R109, R117). VOLT_SAT follows the tick; no rule says when it clears, and it keeps its last value
outside modulation (log 93, DESIGN CHOICE). -/
def State.focLoad (s : State) (p : PortalId) (l : LeafId) : State :=
  let x := s.leaf p l
  let n := s.pwmN p l
  let k := s.busComp p l
  let (a, b, c, sat) := focCompare k x.vdSlot x.vqSlot x.theta n
  let sh := shapeC n (s.parN 0x2014 (uLeaf p l)) (s.parN 0x2011 (uLeaf p l))
  let s := (s.modLeaf p l fun y => { y with voltSat := sat }).pwmStage p l #v[sh a, sh b, sh c]
  if sat then s.modDet p l fun d => { d with clean := false } else s

/-- A phase of the chopper begins: drive on the diagonal of a sign, or freewheel (R120). -/
def Leaf.chopTo (x : Leaf) (t : Ts) (drive : Bool) (sg : Int) : Leaf :=
  { x with chopDrive := drive, chopAt := t, chopSign := sg, chopPrev := if drive then sg else x.chopPrev,
           chopCount := if drive then x.chopCount + 1 else x.chopCount }

/-- One evaluation of the hysteresis chopper on an armature current i at the instant of a filter output (R120). -/
def chopStep (t : Ts) (i : Rat) (x : Leaf) : Leaf :=
  let r : Rat := |(x.iqRef : Rat)|
  let sg := sgn x.iqRef
  if t.since x.chopAt < 100 then x
  else if sg ≠ x.chopSign then
    -- the reference has changed sign: freewheel until |i| falls below h, then drive the other diagonal
    if x.chopDrive then x.chopTo t false x.chopSign
    else if |i| < x.chopH then (if sg = 0 then { x with chopSign := 0 } else x.chopTo t true sg) else x
  else if x.chopDrive then (if r + x.chopH < |i| then x.chopTo t false sg else x)
  else if |i| < r - x.chopH then x.chopTo t true sg else x

/-- The chopper at each of the armature filter's outputs that a row carries, oldest first, while the modulator clock runs (R112, R120). -/
def State.chopRun (s : State) (p : PortalId) (l : LeafId) (arm : List SincSample) : State :=
  if s.sdRuns p then s.modLeaf p l fun x => arm.foldl (fun y a => chopStep (s.ts - BitVec.ofNat 56 a.age) (s.phaseCurrent p l a.y) y) x
  else s

/-! ### The phase lines (R100, R104, R108, R109, R120) -/

/-- The high side of a phase at a position of the PWM period in 5 ns steps from counter 0: on while the counter is below C, its turn-on edge
delayed by the dead time; c0 is the compare value of the period before (R108, R109). -/
def phaseHigh (n q c c0 dead : Nat) : Bool :=
  decide (c ≠ 0) && ((decide (q < c) && (decide (c0 ≠ 0) || decide (dead ≤ q))) || decide (2 * n + dead < q + c))

/-- The low side: the complement, its turn-on edge delayed too (R108, R109). -/
def phaseLow (n q c c0 dead : Nat) : Bool := (decide (c + dead ≤ q) || (decide (c = 0) && decide (c0 = 0))) && decide (q + c ≤ 2 * n)

/-- A phase line of a modulating PMSM leaf. -/
def State.pwmLine (s : State) (p : PortalId) (l : LeafId) (ph : Fin 3) (high : Bool) : Bool :=
  let n := s.pwmN p l
  let x := (s.leaf p l).pwm.settle s.ts
  let dead := (s.parN 0x2011 (uLeaf p l) + 4) / 5
  let run := s.ts.since x.zero
  let c0 := if run < n then x.prev[ph] else x.cmp[ph]
  (if high then phaseHigh else phaseLow) n (2 * (run % n)) x.cmp[ph] c0 dead

/-- A line of the H-bridge of a modulating brushed leaf: one diagonal in the drive phase, both low sides in freewheel, with the dead time at the
change (R109, R120). -/
def State.chopLine (s : State) (p : PortalId) (l : LeafId) (legV high : Bool) : Bool :=
  let x := s.leaf p l
  let past := s.elapsed x.chopAt ((s.parN 0x2011 (uLeaf p l) + 9) / 10)
  -- the leg whose high side the diagonal of a sign drives: U for a positive reference
  let leg := fun (sg : Int) => decide (sg < 0) = legV
  if x.chopDrive then (if leg x.chopSign then high && past else !high)
  else !high && (past || x.chopPrev = 0 || !leg x.chopPrev)

/-- The level of a phase line U, V or W at the present instant (R100, R104). Without the claim every line is low (R5); in BRUSHED_DC mode the
lines of W stay low. -/
def State.phaseLine (s : State) (p : PortalId) (l : LeafId) (ph : Fin 3) (high : Bool) : Bool :=
  let x := s.leaf p l
  let bdc := decide (s.leafMode p l = 2)
  if !s.gates || (bdc && decide (ph = 2)) then false
  else if x.efOverride then !high
  else match x.drive with
    | .off | .tripped => false
    | .starting => !high && decide (x.wanted ≠ .brake) && s.elapsed x.driveSince (us (s.parN 0x2013 (uLeaf p l)))
    | .brake => !high
    | _ => if bdc then s.chopLine p l (decide (ph = 1)) high else s.pwmLine p l ph high

/-- A residue mismatch of the field-oriented datapath (R119). -/
def State.datapathResidue (s : State) (p : PortalId) (l : LeafId) : State :=
  let hold := fun (j : Fin 4) (t : State) => (t.endClosing (pdOf p) (leafSlot p l j)).modSlot (pdOf p) (leafSlot p l j) fun x => { x with mode := .hold }
  let s := hold 1 (hold 0 s)
  let s := s.modLeaf p l fun x => { x with fault := setBit x.fault 9 true, dpBad := true, checked := 0 }
  let s := s.faultBrake p l
  let s := s.raiseAt (pdDie p) 37 0x0025 (uLeaf p l) (0xFE + 512 * 3)
  s.fence p 0x04 (uLeaf p l) 0

/-- The references of a current tick: what a drive state sets directly (R104, R123, R125), and the clamp of the force fence, which acts at every
current tick of a modulating leaf (R179). -/
def State.directRefs (s : State) (p : PortalId) (l : LeafId) : State :=
  let u := uLeaf p l
  let imax := s.par 0x2030 u
  match (s.leaf p l).drive with
  | .force =>
    let (i, s) := s.ffClamp p l (clampI (-imax) imax (-(s.drivePar p l 0x2032)))
    s.modLeaf p l fun x => { x with iqRef := i }
  | .aligning => s.modLeaf p l fun x => { x with iqRef := 0 }
  | .creep =>
    let (v, s) := s.efClamp p l (-(s.latched p l 0x2068 : Rat))
    let (i, s) := s.ffClamp p l (s.speedRef p l (s.slot (pdOf p) (leafSlot p l 2)).u).1
    s.modLeaf p l fun x => { x with vRef := v, iqRef := i }
  | .position =>
    let (i, s) := s.ffClamp p l (s.speedRef p l (s.slot (pdOf p) (leafSlot p l 2)).u).1
    s.modLeaf p l fun x => { x with iqRef := i }
  | _ => s

/-- The samples of a current tick: bus, angle, id and iq from the outputs of a running clock, and the count of check passes while the datapath's
residue condition holds (R112, R117, R119). -/
def State.sample (s : State) (p : PortalId) (l : LeafId) (smp : CurrentSample) : State :=
  let s := s.busOutput p smp.yv
  let th := s.thetaNow p l
  let live := s.sdRuns p
  let bdc := decide (s.leafMode p l = 2)
  let ia := s.phaseCurrent p l smp.ya
  let (idr, iqr) := if bdc then (0, ia) else park ia (s.phaseCurrent p l smp.yb) th
  s.modLeaf p l fun x =>
    { x with theta := th, id := if live then quant idr else x.id, iq := if live then quant iqr else x.iq,
             checked := if x.dpBad then (if smp.focResidue then 0 else x.checked + 1) else x.checked }

/-- The direction check and the alignment check at a current tick (R127, bits 8 and 7). -/
def State.motionChecks (s : State) (p : PortalId) (l : LeafId) : State :=
  let x := s.leaf p l
  let v := s.vObs p l
  let wrong := x.drive = .position && decide (50 ≤ |x.vRef|) && decide (x.vRef * v < 0) && decide (20 ≤ |v|)
  let s := s.modLeaf p l fun y => { y with dirBad := if wrong then (if y.dirBad.isSome then y.dirBad else some s.ts) else none }
  if x.drive = .aligning ∧ (s.par 0x1011 (uLeaf p l) : Rat) < |s.xObs p l - x.alignX| then s.leafFault p l 7 false 0x02 else s

/-- The residue mismatches that a current tick finds: of the field-oriented datapath, the detector and the fence unit (R119, R186). -/
def State.tickResidues (s : State) (p : PortalId) (l : LeafId) (smp : CurrentSample) : State :=
  let s := if smp.focResidue ∧ s.leafMode p l ≠ 2 ∧ !(s.leaf p l).dpBad then s.datapathResidue p l else s
  let s := if smp.detResidue then s.fenceUnitFault p l false 1 else s
  if smp.fenceResidue then s.fenceUnitFault p l false 2 else s

/-- What a current tick gives the bridge: compare values, or in BRUSHED_DC mode the chopper's evaluations at the armature filter's outputs since
the tick before (R117, R120); nothing while the energy-fence brake overrides the lines. -/
def State.driveTick (s : State) (p : PortalId) (l : LeafId) (smp : CurrentSample) : State :=
  if !(s.leaf p l).drive.modulating || (s.leaf p l).efOverride then s
  else if s.leafMode p l = 2 then
    s.chopRun p l smp.arm
  else s.focLoad p l

/-- CURRENT_TICK (R112, R117–R120, R166–R181, R186): the samples of a tick, the detector and the fence unit, residue mismatches, the two current
slots in their order, and what goes to the bridge. -/
def execCurrentTick (dt : Nat) (p : PortalId) (l : LeafId) (smp : CurrentSample) (s : State) : Host.Outcome State Fault Refusal :=
  let s := (((s.advance dt).sample p l smp).detTick p l).directRefs p l
  let s := (s.motionChecks p l).tickResidues p l smp
  let s := (s.slotTick (pdOf p) (leafSlot p l 0) smp.dResidue).slotTick (pdOf p) (leafSlot p l 1) smp.qResidue
  .next (s.driveTick p l smp)

/-- DATAPATH_RESIDUE_CLEAR (R119): 1,000 consecutive check passes clear the residue condition; LD_FAULT bit 9 stays. -/
def execDatapathResidueClear (dt : Nat) (p : PortalId) (l : LeafId) (s : State) : Host.Outcome State Fault Refusal :=
  let s := s.advance dt
  if (s.leaf p l).dpBad ∧ 1000 ≤ (s.leaf p l).checked then .next (s.modLeaf p l fun x => { x with dpBad := false, checked := 0 })
  else .next s

/-- DIRECTION_FAULT (R127 bit 8): the wrong direction for 20 ms. -/
def execDirectionFault (dt : Nat) (p : PortalId) (l : LeafId) (s : State) : Host.Outcome State Fault Refusal :=
  let s := s.advance dt
  if s.ran (s.leaf p l).dirBad (ms 20) then .next (s.leafFault p l 8 false 0x02) else .next s

/-- CHOP_ADAPT (R121): a millisecond of the chopper is over, with the armature filter's outputs since the last tick; the half-band follows the drive
phases that it counted. -/
def execChopAdapt (dt : Nat) (p : PortalId) (l : LeafId) (arm : List SincSample) (s : State) : Host.Outcome State Fault Refusal :=
  let s := s.advance dt
  if s.leafMode p l = 2 ∧ (s.leaf p l).drive.modulating ∧ s.elapsed (s.leaf p l).chopSince (ms 1) then
    let s := s.chopRun p l arm
    let x := s.leaf p l
    let f : Rat := (1000 * x.chopCount : Nat)
    let g := fun pid => (s.drivePar p l pid : Rat)
    let h0 := x.chopH * (1 + (f / g 0x2033 - 1) / 4)
    let h1 := clampR (x.chopH / 2) (2 * x.chopH) h0
    let h := clampR (g 0x2034) (g 0x2035) h1
    .next (s.modLeaf p l fun y =>
      { y with chopFreq := 1000 * x.chopCount, chopH := if x.chopCount < 5 then x.chopH else h, chopCount := 0, chopSince := s.ts })
  else .next s

/-! ## The profile generator (R124–R126) -/

/-- Speed of a table at a position: linear between points at different positions, a step where points share one, the end values
outside (R124). -/
def tableSpeed : List (Rat × Rat) → Rat → Rat
  | [], _ => 0
  | [a], _ => a.2
  | a :: b :: r, x =>
    if x < a.1 then a.2
    else if x < b.1 then a.2 + (b.2 - a.2) * (x - a.1) / (b.1 - a.1)
    else tableSpeed (b :: r) x

/-- The opening or closing table of a leaf, as latched. -/
def State.table (s : State) (p : PortalId) (l : LeafId) (isOpen : Bool) : List (Rat × Rat) :=
  let b := if isOpen then 0x2040 else 0x2050
  (List.range 8).map fun k => ((s.latched p l (b + k) : Rat), (s.latched p l (b + 8 + k) : Rat))

/-- Move a speed towards a goal: by at most `up` where the magnitude rises, by at most `down` where it falls (R124). -/
def slewSpeed (v goal up down : Rat) : Rat :=
  if |v| < |goal| then (if v < goal then min goal (v + up) else max goal (v - up))
  else if v < goal then min goal (v + down) else max goal (v - down)

/-- The position reference and speed command after a position tick of a moving leaf (R124, R126). `cap` bounds the speed in a jog. -/
def State.profileMove (s : State) (p : PortalId) (l : LeafId) (jogCap : Option Rat) : State :=
  let x := s.leaf p l
  let g := fun pid => (s.latched p l pid : Rat)
  let xt : Rat := x.target
  let dist := xt - x.xRef
  let dir : Rat := if dist < 0 then -1 else if dist = 0 then 0 else 1
  let isOpen := decide (0 < dir)
  let dec := match jogCap with
    | some _ => min (g 0x2061) (g 0x2063)
    | none => if isOpen then g 0x2061 else g 0x2063
  let acc := match jogCap with
    | some _ => min (g 0x2060) (g 0x2062)
    | none => if isOpen then g 0x2060 else g 0x2062
  let vmax : Rat := s.par (if isOpen then 0x2069 else 0x206A) (uLeaf p l)
  let cap0 := match jogCap with
    | some c => min c vmax
    | none => min (tableSpeed (s.table p l isOpen) x.xRef) vmax
  let cap1 := min cap0 (sqrtR (2 * dec * |dist| / 100))
  let cap := if |dist| ≤ g 0x2065 then min cap1 (g 0x2066) else cap1
  -- after a warm takeover the speed taken from the leaf is clamped to the caps (R366)
  let v0 := if x.carry then clampR (-cap) cap x.vCmd else x.vCmd
  let back := decide (v0 * dir < 0)
  let v := if x.stopping ∨ back then slewSpeed v0 0 0 (g 0x2064 / 1000) else slewSpeed v0 (dir * cap) (acc / 1000) (dec / 1000)
  let nx := x.xRef + v / 10
  let reached := !x.stopping && !back && (if isOpen then decide (xt ≤ nx) else decide (nx ≤ xt))
  s.modLeaf p l fun y =>
    let y := { y with carry := false }
    if x.stopping ∧ v = 0 then
      { y with xRef := s.xObs p l, vCmd := 0, target := truncR (s.xObs p l), holding := true, stopping := false, reversing := false }
    else if reached then { y with xRef := xt, vCmd := 0, holding := true, reversing := false }
    else { y with xRef := nx, vCmd := v, reversing := back || y.reversing }

/-- PROFILE_TICK (R124–R126, R107): one position tick of the profile generator. -/
def execProfileTick (dt : Nat) (p : PortalId) (l : LeafId) (s : State) : Host.Outcome State Fault Refusal :=
  let s := s.advance dt
  let x := s.leaf p l
  let tuning := (List.finRange 4).any fun j => (s.slot (pdOf p) (leafSlot p l j)).tune.isSome
  let jogCap : Option Rat := match (s.portal p).state, (s.portal p).jog with
    | .jog, some j => if j.kind.val = l.val then
        some (min |(j.speed : Rat)| (min (s.par 0x1045 (uPortal p) : Rat) (s.par 0x1046 (uPortal p) : Rat))) else none
    | _, _ => none
  match x.drive with
  | .creep => .next (s.modLeaf p l fun y => { y with xRef := s.xObs p l, vCmd := -(s.latched p l 0x2068 : Rat) })
  | .position =>
    if tuning ∨ x.holding then .next s
    else
      let s := s.profileMove p l jogCap
      let y := s.leaf p l
      if (s.portal p).state = .closing ∧ (x.target : Rat) < x.xRef ∧ !y.stopping ∧ y.xRef ≤ (s.latched p l 0x2067 : Rat) then
        .next (s.modulate p l .creep)
      else .next s
  | _ => .next s

/-- A new target for a leaf's profile (R124, R126). -/
def State.leafTarget (s : State) (p : PortalId) (l : LeafId) (x : Int) : State :=
  s.modLeaf p l fun y => { y with target := x, holding := false, stopping := false }

/-- A hold: X_T at the present position (R124). -/
def State.leafHold (s : State) (p : PortalId) (l : LeafId) : State :=
  s.modLeaf p l fun y => { y with target := truncR (s.xObs p l), xRef := s.xObs p l, vCmd := 0, holding := true, stopping := false, carry := false }

/-- Decelerate to a hold at DEC_REVERSE (R82, R93, R456; log 11). -/
def State.leafStopHold (s : State) (p : PortalId) (l : LeafId) : State :=
  if (s.leaf p l).holding ∨ (s.leaf p l).vCmd = 0 then s.leafHold p l else s.modLeaf p l fun y => { y with stopping := true }

end Sys2Proof.Machine
end

