-- ==== Sys2Proof/Machine/StepDrive.lean ====
section
/-! DEFINITION. The step drive (R194–R225): the motion profile, the phase accumulator and its resolution, homing, certainty of the
position, faults. -/

namespace Sys2Proof.Machine

/-- The parameters latched at a start: every RW parameter of R223 that is not marked E. -/
def stepLatchPids : List Nat :=
  [0x5007, 0x5008, 0x5010, 0x5011, 0x5012, 0x5014, 0x5015, 0x5016, 0x5017, 0x5021, 0x5022, 0x5023, 0x5024, 0x5025, 0x5026, 0x5027, 0x5028,
   0x5032, 0x5033, 0x5034, 0x5035, 0x5036]

/-- Fine counts of a position (R200). -/
def State.fineOf (s : State) (p : PortalId) (x : Rat) : Int := roundR (x * 2560000 / (s.parN 0x5000 (uStep p) : Rat))

/-- The fine target of a position (R200). -/
def State.phiTarget (s : State) (p : PortalId) (x : Rat) : BitVec 32 := (s.stepOf p).phi0 + BitVec.ofInt 32 (s.fineOf p x)

/-- Put the step drive into a state: at each entry to a driving state g is 1 and the quiet-mode PWM starts (R197, R207); a tripped drive stays
so. -/
def State.setStep (s : State) (p : PortalId) (d : StepDrive) : State :=
  (s.stepCatchUp p).modStep p fun x =>
    let runs := decide (d = .moving) || decide (d = .homing)
    if x.drive = .tripped then x
    else { x with drive := d, g := if x.drive = d then x.g else 1, strong := x.strong && runs, strongWant := x.strongWant && runs,
                  pwmAt := if x.drive = .off ∨ x.drive = .shorted then s.ts else x.pwmAt,
                  enSince := if x.drive = .off ∧ d ≠ .off then s.ts else x.enSince }

/-- PpS_SD_CLK toggles (R196). -/
def State.stepClock (s : State) (p : PortalId) : Bool :=
  decide (s.view.raw 0x5002 (uStep p) ≠ 0) && s.present p && s.stepFitted p && (s.pdMode p).fromConfigure

/-- A coil current from an output of its sinc3 filter, mA (R196). -/
def State.coilSinc3 (s : State) (p : PortalId) (y : Nat) : Rat := sincValue y (s.parN 0x5003 (uStep p)) 3 (s.par 0x5004 (uStep p))

/-- A coil current from an output of its fast filter, mA (R196). -/
def State.coilFast (s : State) (p : PortalId) (y : Nat) : Rat := sincValue y 16 2 (s.par 0x5004 (uStep p))

/-- A fault of STEP_FAULT (R219): the step stops at once, in TRIPPED or in the standstill setting, and the portal is fenced. -/
def State.stepFault (s : State) (p : PortalId) (b : Nat) (trip : Bool) (cause : Nat) : State :=
  let s := s.modStep p fun x => { x with fault := setBit x.fault b true }
  let s := s.stepStop p (if trip then .tripped else if (s.pdMode p).runs then s.standstill p else .off)
  s.fence p cause (uStep p) 0

/-- PpS_EN high: driven, and the device holds the claim (R197). -/
def State.stepEn (s : State) (p : PortalId) : Bool :=
  !((s.stepOf p).drive = .off || (s.stepOf p).drive = .tripped) && s.gates

/-- STEP_BRIDGE_FAULT (R199): PpS_FLT_N low while PpS_EN has been high for more than 20 µs, or two consecutive outputs of a fast filter above
STEP_IOC_TRIP in magnitude. The accepted level of the line is held for the clearing condition of R219. -/
def execStepBridgeFault (dt : Nat) (p : PortalId) (flt : StepFaultIn) (first second : Nat) (s : State) :
    Host.Outcome State Fault Refusal :=
  let s := s.advance dt
  .next (match flt with
    | .line low =>
      let s := s.modStep p fun x => { x with fltIn := low }
      if low ∧ s.stepEn p ∧ s.elapsed (s.stepOf p).enSince (us 20) ∧ s.elapsed s.claim.since (us 70) ∧ s.stepFitted p then s.stepFault p 0 true 0x03
      else s
    | .fast _ =>
      let lim : Rat := s.par 0x5005 (uStep p)
      if lim < |s.coilFast p first| ∧ lim < |s.coilFast p second| ∧ s.stepClock p then s.stepFault p 1 true 0x03 else s)

/-- What the check of a modulator clock found passes: the frequency counted over 100 µs is within 2 % of the one set (R114). -/
def clockPasses (edges : Option Nat) (khz : Nat) : Bool :=
  match edges with
  | none => false
  | some n => decide (100 * (10 * n) ≤ 102 * khz) && decide (98 * khz ≤ 100 * (10 * n))

/-- SD_CLOCK (R114, R196): one check of the running modulator clock of the leaves or of the step; a clock that is missing or off its frequency is
a fault, one that passes again meets the clearing condition of R127 and R219. -/
def execSdClock (dt : Nat) (p : PortalId) (c : ClockCheck) (s : State) : Host.Outcome State Fault Refusal :=
  let s := s.advance dt
  .next (if c.step then
    (if s.stepClock p then
      let ok := clockPasses c.edges (s.parN 0x5002 (uStep p))
      let s := s.modStep p fun x => { x with clockOk := ok }
      if ok ∨ (s.stepOf p).fault.getLsbD 2 then s else s.stepFault p 2 false 0x03
     else s)
  else if s.sdRuns p then
    let ok := clockPasses c.edges (s.parN 0x2020 (uPortal p))
    let s := s.modPortal p fun x => { x with sdClockOk := ok }
    if ok then s else s.leavesFault p 4 false
  else s)

/-- SD_STUCK (R114, R196): no transition on a used stream; `which` names leaf 0, leaf 1 or the step. -/
def execSdStuck (dt : Nat) (p : PortalId) (which : Fin 3) (s : State) : Host.Outcome State Fault Refusal :=
  let s := s.advance dt
  if which = 2 then
    (if s.stepClock p then .next (s.stepFault p 3 false 0x03)
     else .next s)
  else
    let l : LeafId := ⟨which.val % 2, by omega⟩
    if s.sdRuns p ∧ s.driven p l then .next (s.leafFault p l 5 false 0x03) else .next s

/-! ## Coil currents (R206–R209) -/

/-- The amplitude of the coil references, mA: STEP_I_RUN in MOVING and HOMING, STEP_I_HOLD in HOLDING (R206). -/
def State.coilAmp (s : State) (p : PortalId) : Rat :=
  match (s.stepOf p).drive with
  | .moving | .homing => s.par 0x5006 (uStep p)
  | .holding => s.stepPar p 0x5007
  | _ => 0

/-- The electrical angle θ of the coils, one revolution for 1,024 fine counts (R206). -/
def Step.theta (x : Step) : BitVec 16 := BitVec.ofNat 16 (x.phi.toNat % 1024 * 64)

/-- The coil references iA and iB, mA (R206). -/
def State.coilRefs (s : State) (p : PortalId) : Rat × Rat :=
  let th := (s.stepOf p).theta
  (s.coilAmp p * cosR th, s.coilAmp p * sinR th)

/-- Av of quiet mode (R207); HOLDING has v = 0. -/
def State.quietAmp (s : State) (p : PortalId) : Rat :=
  let x := s.stepOf p
  let v := if x.drive = .holding then 0 else |x.v|
  clampR 0 (95 / 100) (x.g * (s.coilAmp p * s.stepPar p 0x5025 + s.stepPar p 0x5026 * v) / (1000 * s.stepPar p 0x5027))

/-- A line of a half-bridge: low, high, or switching with a duty about the centre of the PWM period (R194, R207). -/
inductive Line where
  | low | high | pwm (duty : Rat)
  deriving DecidableEq, Repr

/-- The lines of a coil in decay: both low sides on, or the opposite diagonal; mixed decay is fast for the first half of STEP_T_OFF (R208). -/
def State.decayLines (s : State) (p : PortalId) (x : Coil) : Line × Line :=
  let kind := s.stepPar p 0x5024
  let opposite : Line × Line := if 0 ≤ x.sgn then (.low, .high) else (.high, .low)
  if kind = 0 then (.low, .low) else if kind = 1 then opposite
  else if ((s.ts.since x.since : Nat) : Rat) * 20 < s.stepPar p 0x5022 then opposite else (.low, .low)

/-- The lines P and N of a coil (R197, R207, R208). -/
def State.coilLines (s : State) (p : PortalId) (b : Bool) : Line × Line :=
  let x := s.stepOf p
  let c := if b then x.coilB else x.coilA
  match x.drive with
  | .off | .shorted | .tripped => (.low, .low)
  | _ =>
    if x.strong then
      match c.phase with
      | .drive => if 0 ≤ c.sgn then (.high, .low) else (.low, .high)
      | _ => s.decayLines p c
    else
      let u := s.quietAmp p * (if b then sinR x.theta else cosR x.theta)
      (.pwm (1 / 2 + u / 2), .pwm (1 / 2 - u / 2))

/-- The sign of a coil reference. -/
def refSign (r : Rat) : Int := if r < 0 then -1 else if r = 0 then 0 else 1

/-- An off-time that has passed ends: the diagonal of the reference's sign is driven (R208). -/
def Coil.offEnd (x : Coil) (ref tOff : Rat) (t : Ts) : Coil :=
  let n := (tOff / 10).floor.toNat
  if x.phase = .decay ∧ n ≤ t.since x.since then { x with phase := .drive, since := x.since + BitVec.ofNat 56 n, sgn := refSign ref } else x

/-- The chopper of a coil at an output of its fast filter (R208): `i` is the current, `ref` the reference, `amp` the amplitude I, all in mA, times
in ns. -/
def Coil.sample (x : Coil) (i ref amp tOff tBlank : Rat) (t : Ts) : Coil :=
  let x := x.offEnd ref tOff t
  if x.phase ≠ .cross ∧ x.sgn * refSign ref < 0 then { x with phase := .cross, since := t }
  else match x.phase with
    | .drive => if tBlank ≤ (t.since x.since : Rat) * 10 ∧ |ref| ≤ |i| then { x with phase := .decay, since := t } else x
    | .decay => x
    | .cross => if |i| < amp * 2 / 100 then { x with phase := .drive, since := t, sgn := refSign ref } else x

/-- The choppers of both coils over the fast-filter outputs of a recompute, oldest first, and up to the present instant (R208). -/
def State.chopCoils (s : State) (p : PortalId) (fast : List FastSample) : State :=
  let refs := s.coilRefs p
  let amp := s.coilAmp p
  let tOff := s.stepPar p 0x5022
  let tBlank := s.stepPar p 0x5023
  let run := fun (x : Coil) (ref : Rat) (ys : List (Nat × Nat)) =>
    (ys.foldl (fun c y => c.sample (s.coilFast p y.2) ref amp tOff tBlank (s.ts - BitVec.ofNat 56 y.1)) x).offEnd ref tOff s.ts
  if (s.stepOf p).strong then
    s.modStep p fun x => { x with coilA := run x.coilA refs.1 (fast.map fun y => (y.age, y.ya)), coilB := run x.coilB refs.2 (fast.map fun y => (y.age, y.yb)) }
  else s

/-- A change between quiet and strong mode takes force at the next start of a quiet-mode PWM period, on both coils together (R209); a coil that
enters strong mode begins with its drive. -/
def State.coilMode (s : State) (p : PortalId) (last : Ts) : State :=
  let x := s.stepOf p
  let period := 100000000 / s.parN 0x5009 (uStep p)
  let refs := s.coilRefs p
  if x.strong ≠ x.strongWant ∧ last.since x.pwmAt / period < s.ts.since x.pwmAt / period then
    s.modStep p fun y => { y with strong := x.strongWant,
                                  coilA := if x.strongWant then ⟨.drive, s.ts, refSign refs.1⟩ else y.coilA,
                                  coilB := if x.strongWant then ⟨.drive, s.ts, refSign refs.2⟩ else y.coilB }
  else s

/-! ## The profile (R201) -/

/-- brake(u) of R201. -/
def brakeDist (vStop vBrk d1 d2 u : Rat) : Rat :=
  if u ≤ vStop then 0
  else if u ≤ vBrk then (u * u - vStop * vStop) / (2 * d1)
  else (u * u - vBrk * vBrk) / (2 * d2) + (vBrk * vBrk - vStop * vStop) / (2 * d1)

/-- The speed after a recompute towards the target (R201), before it is brought to the generator's resolution. `vmax` is V_MAX, or the
jog speed where that is smaller (R217). The result says whether the move starts from rest. -/
def State.stepSpeed (s : State) (p : PortalId) (vmax : Rat) : Rat × Bool :=
  let x := s.stepOf p
  let g := s.stepPar p
  let d : Rat := ((x.phiT - x.phi).toInt : Rat) / 256
  let sg : Rat := if d < 0 then -1 else 1
  let t : Rat := 1 / 50000
  let u := |x.v|
  let slow := u - (if g 0x5012 < u then g 0x5017 else g 0x5016) * t
  if d = 0 then (0, false)
  else if x.v = 0 then (sg * min (g 0x5010) vmax, true)
  else if x.v * sg < 0 then (if slow ≤ g 0x5011 then (sg * min (g 0x5010) vmax, true) else (-sg * slow, false))
  else if |d| ≤ brakeDist (g 0x5011) (g 0x5012) (g 0x5016) (g 0x5017) u + u * t then (sg * max (g 0x5011) slow, false)
  else (sg * min vmax (u + (if u < g 0x5012 then g 0x5014 else g 0x5015) * t), false)

/-- The resolution bands, finest first (R204). -/
def bandR : Nat → Nat
  | 0 => 256 | 1 => 64 | 2 => 16 | 3 => 4 | _ => 1

/-- The band of a resolution. -/
def bandOf : Nat → Nat
  | 256 => 0 | 64 => 1 | 16 => 2 | 4 => 3 | _ => 4

/-- The rescale that a speed requests, one band at a time (R204). -/
def State.wantR (s : State) (p : PortalId) (u : Rat) (r : Nat) : Option Nat :=
  let b := bandOf r
  let thr := fun k => (s.par (0x5018 + k) (uStep p) : Rat)
  let hyst : Rat := s.par 0x501C (uStep p)
  if b < 4 ∧ thr b ≤ u then some (bandR (b + 1))
  else if 0 < b ∧ u < thr (b - 1) * (1 - hyst / 100) then some (bandR (b - 1))
  else none

/-- The velocity word (R203). -/
def velWord (u : Rat) (r : Nat) : Nat := (roundR (u * (r : Rat) * 2 ^ 32 / 50000000)).toNat

/-- Start, as at a start from v = 0: the working parameters are latched and the resolution is 256 (R220, R223). -/
def State.stepStart (s : State) (p : PortalId) : State :=
  s.modStep p fun x => { x with latched := stepLatchPids.map fun q => (q, s.par q (uStep p)), r := 256, pendingR := none, acc := 0 }

/-- The jog speed in full steps per second, capped at V_MAX (R217). -/
def State.stepJogCap (s : State) (p : PortalId) : Rat :=
  let mm := min |((s.stepOf p).jogSpeed : Rat)| (min (s.par 0x1045 (uPortal p) : Rat) (s.par 0x1046 (uPortal p) : Rat))
  min (s.par 0x5013 (uStep p) : Rat) (mm * 1000000 / (s.parN 0x5000 (uStep p) : Rat))

/-- Strong or quiet mode for a speed (R209). -/
def State.strongFor (s : State) (p : PortalId) (u : Rat) (now : Bool) : Bool :=
  let m : Rat := s.par 0x5020 (uStep p)
  decide (m ≠ 0) && (decide (m ≤ u) || (now && decide (m * (1 - s.stepPar p 0x5021 / 100) ≤ u)))

/-- Deviation of F2 from the count (R212, R214). -/
def State.f2Dev (s : State) (p : PortalId) : Rat :=
  match (s.stepOf p).delta with
  | some d => s.fbX p 2 - d - s.stepPosR p
  | none => 0

/-- The speed, the word and the resolution of a recompute (R201, R203, R204, R215, R217). -/
def State.stepProfile (s : State) (p : PortalId) : State :=
  let x := s.stepOf p
  match x.drive with
  | .moving =>
    let cap := if x.job = 3 then s.stepJogCap p else (s.par 0x5013 (uStep p) : Rat)
    let s := if x.v = 0 ∧ x.phi ≠ x.phiT then s.stepStart p else s
    let (v, fresh) := s.stepSpeed p cap
    let v := stepQuant v
    s.modStep p fun y =>
      let y := if fresh then { y with acc := 0, r := if y.v = 0 then 256 else y.r } else y
      { y with v := v, w := velWord |v| y.r, strongWant := s.strongFor p |v| y.strongWant,
               pendingR := if y.pendingR.isSome then y.pendingR else if v = 0 then none else s.wantR p |v| y.r }
  | .homing =>
    let ph := if x.phase = 1 ∧ !x.homeInput ∧ s.ran x.homeClear (ms 10) then 2 else x.phase
    let sp := s.stepPar p 0x5032
    let v := if ph = 1 then sp else -sp
    s.modStep p fun y =>
      { y with phase := ph, phaseStart := if ph = y.phase then y.phaseStart else y.phi, r := 256, pendingR := none, v := v,
               strongWant := s.strongFor p sp y.strongWant, w := velWord sp 256, acc := if y.v * v < 0 ∨ y.v = 0 then 0 else y.acc }
  | _ => s

/-- STEP_RECOMPUTE (R201–R209, R214, R215, R217): every 20 µs, with the fast-filter outputs since the last one. -/
def execStepRecompute (dt : Nat) (smp : StepSample) (s : State) : Host.Outcome State Fault Refusal :=
  let p := smp.portal
  let last := s.ts
  let s := (s.advance dt).stepCatchUp p
  let tol := s.stepPar p 0x5036
  let dev := s.f2InUse p && decide ((s.stepOf p).drive = .moving) && decide (tol < |s.f2Dev p|)
  let s := s.modStep p fun y => { y with devSince := if dev then (if y.devSince.isSome then y.devSince else some s.ts) else none }
  .next (((s.chopCoils p smp.fast).stepProfile p).coilMode p last)

/-! ## Homing and certainty (R211–R216) -/

/-- A homing run starts (R215). -/
def State.homingStart (s : State) (p : PortalId) : State :=
  ((s.setStep p .homing).stepStart p).modStep p fun x =>
    if x.drive = .tripped then x
    else { x with phase := if x.homeInput then 1 else 2, phaseStart := x.phi, homeStart := some s.ts, homeClear := none, confirm := none }

/-- Move to a position (R198): the target takes effect at the next recompute. -/
def State.stepMove (s : State) (p : PortalId) (x : Int) (job : Nat) : State :=
  (s.setStep p .moving).modStep p fun y => { y with phiT := s.phiTarget p x, job := job }

/-- The step's task in STEP_DEPLOY or STEP_STOW (R198, R215). -/
def State.stepTask (s : State) (p : PortalId) (deploy : Bool) : State :=
  let job := if deploy then 1 else 2
  if (s.stepOf p).drive = .homing then s.modStep p fun x => { x with job := job }
  else if (s.stepOf p).uncertain then (s.homingStart p).modStep p fun x => { x with job := job }
  else s.stepMove p (if deploy then s.par 0x5001 (uStep p) else 0) job

/-- φ0 so that x = x_F2 − Δ (R212); the rounding to a fine count is the unit's (log 5). -/
def State.adoptF2 (s : State) (p : PortalId) : State :=
  match (s.stepOf p).delta with
  | some d =>
    let f := quant ((s.fbX p 2 - d) * 2560000 / (s.parN 0x5000 (uStep p) : Rat))
    s.modStep p fun x => { x with phi0 := x.phi - BitVec.ofInt 32 f, phiT := x.phiT, confirm := none }
  | none => s

/-- The level of the home input's pin (R194, R223, R244): active after HOME_POL. -/
def State.homeLevel (s : State) (p : PortalId) (active : Bool) : State :=
  match s.parNames 0x5030 (uStep p) with
  | some k => s.modPortal p fun x => { x with aux := setBit x.aux k (active == decide (s.parN 0x5031 (uStep p) = 0)) }
  | none => s

/-- HOME_INPUT_ACCEPTED (R215, R217): the home input has gone active. In phase 2 of a homing run the reference is taken. -/
def execHomeInputAccepted (dt : Nat) (p : PortalId) (s : State) : Host.Outcome State Fault Refusal :=
  let s := ((s.advance dt).homeLevel p true |>.stepCatchUp p).modStep p fun x => { x with homeInput := true, homeClear := none }
  let x := s.stepOf p
  if x.drive = .homing ∧ x.phase = 2 then
    let off := s.fineOf p (s.stepPar p 0x5033)
    let corr : Int := if x.homed then (x.phi - x.phi0).toInt - off else 0
    let job := x.job
    let s := s.stepStop p .holding
    let s := s.modStep p fun y =>
      { y with phi0 := y.phi - BitVec.ofInt 32 off, homeCorr := corr, uncertain := false, homed := true, confirm := none }
    let s := if s.parN 0x6000 (uFb p 2) ≠ 0 then s.modStep p fun y => { y with delta := some (s.fbX p 2 - s.stepPosR p) } else s
    let s := s.raisePortal p 0x0330 (uStep p) (corr % 2 ^ 32).toNat
    let s := s.modPortal p fun y => { y with timer := some s.ts, cycle := y.cycle.map fun c => { c with flags := c.flags ||| 0x01#8, homeCorr := corr } }
    .next (s.stepTask p (job = 1))
  else if x.drive = .moving ∧ x.job = 3 ∧ x.uncertain ∧ x.v < 0 then
    -- a jog towards stowed without an end of travel decelerates to a stop (R217)
    let stopIn := brakeDist (s.stepPar p 0x5011) (s.stepPar p 0x5012) (s.stepPar p 0x5016) (s.stepPar p 0x5017) |x.v|
    .next (s.modStep p fun y => { y with phiT := y.phi - BitVec.ofInt 32 (quant (256 * stopIn)) })
  else .next s

/-- HOME_INPUT_INACTIVE (R215): the home input has gone inactive. -/
def execHomeInputInactive (dt : Nat) (p : PortalId) (s : State) : Host.Outcome State Fault Refusal :=
  let s := ((s.advance dt).homeLevel p false).stepCatchUp p
  .next (s.modStep p fun x => { x with homeInput := false, homeClear := some s.ts })

/-- The effective timeout of a transition: the smaller of the RW value and the sealed maximum; 0 means the maximum; none bounds
nothing (R77, R521). -/
def State.effTimeout (s : State) (p : PortalId) (k : Nat) : Option Nat :=
  let rw := s.parN (0x1020 + k) (uPortal p)
  let mx := if s.view.isSet (0x1030 + k) (uPortal p) then some (s.parN (0x1030 + k) (uPortal p)) else none
  match mx, decide (rw = 0) with
  | some m, true => some m
  | some m, false => some (min m rw)
  | none, true => none
  | none, false => some rw

/-- A timer has run for its effective timeout. -/
def State.timedOut (s : State) (p : PortalId) (k : Nat) (t : Option Ts) : Bool :=
  match s.effTimeout p k with
  | some m => s.ran t (ms m)
  | none => false

/-- HOMING_FAILURE (R216): not found, out of time, or stuck. -/
def execHomingFailure (dt : Nat) (p : PortalId) (s : State) : Host.Outcome State Fault Refusal :=
  let s := (s.advance dt).stepCatchUp p
  let x := s.stepOf p
  let travel : Rat := |(((x.phi - x.phaseStart).toInt : Rat) * (s.parN 0x5000 (uStep p) : Rat) / 2560000)|
  if x.drive ≠ .homing then .next s
  else if x.phase = 2 ∧ s.stepPar p 0x5034 < travel then .next (s.stepFault p 5 false 0x10)
  else if s.timedOut p 7 x.homeStart then .next (s.stepFault p 6 false 0x10)
  else if x.phase = 1 ∧ x.homeInput ∧ s.stepPar p 0x5035 ≤ travel then .next (s.stepFault p 7 false 0x10)
  else .next s

/-- POS_DEVIATION (R214): F2 and the count have differed for 20 ms while moving. -/
def execPosDeviation (dt : Nat) (p : PortalId) (s : State) : Host.Outcome State Fault Refusal :=
  let s := s.advance dt
  if s.ran (s.stepOf p).devSince (ms 20) ∧ (s.stepOf p).drive = .moving then .next (s.stepFault p 4 false 0x10) else .next s

/-- STEP_STILL (R202, R212): the step has come to rest; F2 confirms the position when it lies within tolerance. -/
def execStepStill (dt : Nat) (p : PortalId) (s : State) : Host.Outcome State Fault Refusal :=
  let s := (s.advance dt).stepCatchUp p
  if s.stepStill p ∧ s.f2Confirms p then .next (s.adoptF2 p) else .next s

/-- A position that becomes uncertain in STEP_DEPLOY or STEP_STOW starts a homing run there (R215), whose own timeout replaces the state's (R77). -/
def State.homeAgain (s : State) (p : PortalId) : State :=
  let st := (s.portal p).state
  let y := s.stepOf p
  if (st = .stepDeploy ∨ st = .stepStow) ∧ y.uncertain ∧ y.drive = .moving then
    (s.stepTask p (decide (st = .stepDeploy))).modPortal p fun x => { x with timer := none }
  else s

/-- F2_CONFIRM_WINDOW_END (R213): 200 ms after the stop without a confirmation the position is uncertain. -/
def execF2ConfirmWindowEnd (dt : Nat) (p : PortalId) (s : State) : Host.Outcome State Fault Refusal :=
  let s := (s.advance dt).stepCatchUp p
  .next (match (s.stepOf p).confirm with
    | some (t, reason) =>
      if s.elapsed t (ms 200) then
        (if s.f2Confirms p then s.adoptF2 p else (s.stepUncertain p reason (s.portal p).state.code).homeAgain p)
      else s
    | none => s)

/-- A step jog has ended: POSITION_UNCERTAIN unless F2 confirms the position then (R93, R213). -/
def State.stepJogEnded (s : State) (p : PortalId) : State :=
  if s.f2Confirms p then s.adoptF2 p else s.stepUncertain p 2 (s.portal p).state.code

/-- The mean of a list of rationals. -/
def meanR (l : List Rat) : Rat := l.sum / l.length

/-- QUIET_TRIM, every 1 ms, with the sinc3 outputs of the millisecond (R207, R218, R223): the measured currents, I_meas, and with QUIET_TRIM = 1 the
gain g, which follows I / I_meas in steps of 63/64 to 65/64 within 0.5 to 2.0. -/
def execQuietTrim (dt : Nat) (p : PortalId) (ys : List (Nat × Nat)) (s : State) : Host.Outcome State Fault Refusal :=
  let s := s.advance dt
  let x := s.stepOf p
  let driving := decide (x.drive = .holding) || decide (x.drive = .moving) || decide (x.drive = .homing)
  let ab := ys.map fun y => (s.coilSinc3 p y.1, s.coilSinc3 p y.2)
  let i := meanR (ab.map fun y => sqrtR (y.1 * y.1 + y.2 * y.2))
  let ratio : Rat := if i = 0 then 65 / 64 else clampR (63 / 64) (65 / 64) (s.coilAmp p / i)
  .next (if !s.stepClock p then s
    else match ab.getLast? with
      | none => s
      | some y => s.modStep p fun z =>
        { z with ia := quant y.1, ib := quant y.2, iMeas := i,
                 g := if driving ∧ !z.strong ∧ s.stepPar p 0x5028 = 1 then clampR (1 / 2) 2 (z.g * ratio) else z.g })

end Sys2Proof.Machine
end

