-- ==== Sys2Proof/Machine/Feedback.lean ====
section
/-! DEFINITION. Feedback interfaces (R226–R253): counting, SSI frames, references, the tracking observer, faults, the position echo. -/

namespace Sys2Proof.Machine

/-! ## Shared parts -/

/-- FB_TYPE in force (R227). -/
def State.fbType (s : State) (p : PortalId) (f : FbId) : Nat := s.parN 0x6000 (uFb p f)

/-- An interface works when it has a type, in every mode from CONFIGURE onwards (R247). -/
def State.fbRuns (s : State) (p : PortalId) (f : FbId) : Bool := decide (s.fbType p f ≠ 0) && (s.pdMode p).fromConfigure

/-- The sign s of R232. -/
def State.fbSign (s : State) (p : PortalId) (f : FbId) : Int := if s.parN 0x6002 (uFb p f) = 1 then -1 else 1

/-- c0: SSI_ZERO at all times for SSI (R232). -/
def State.fbC0 (s : State) (p : PortalId) (f : FbId) : BitVec 32 :=
  if s.fbType p f = 5 then BitVec.ofNat 32 (s.parN 0x6025 (uFb p f)) else (s.fb p f).c0

/-- x_meas in counts: s × (c − c0), the difference taken in i32 (R227, R232, R237). -/
def State.fbMeas (s : State) (p : PortalId) (f : FbId) : Int := s.fbSign p f * ((s.fb p f).c - s.fbC0 p f).toInt

/-- FB_POS, truncated towards zero (R232). -/
def State.fbPos (s : State) (p : PortalId) (f : FbId) : Int :=
  truncR ((s.fbMeas p f : Rat) * (s.parN 0x6001 (uFb p f) : Rat) / 10000)

/-- A feedback fault (R241): its bit; the portal of a present unit is fenced with cause 0x02, naming the interface. -/
def State.fbFault (s : State) (p : PortalId) (f : FbId) (b : Nat) : State :=
  if (s.fb p f).fault.getLsbD b then s
  else
    let s := s.modFb p f fun x => { x with fault := setBit x.fault b true, okSince := x.okSince.set (b % 6) (if b = 0 then some s.ts else none) (by omega) }
    if s.view.fbPresent p f then s.fence p 0x02 (uFb p f) 0 else s

/-- A fault bit clears. -/
def Feedback.clearFault (x : Feedback) (b : Nat) (now : Ts) : Feedback :=
  { x with fault := setBit x.fault b false, clearedAt := if x.fault.getLsbD b then now else x.clearedAt }

/-- NOT_REFERENCED of an interface `F0` or `F1` of a present leaf, in SERVICE, DEGRADED and MAINTAIN (R234). -/
def State.fbNeedRef (s : State) (p : PortalId) (f : FbId) : State :=
  if (s.pdMode p).runs ∧ f ≠ 2 ∧ s.view.fbPresent p f ∧ s.fbType p f ≠ 0 ∧ !(s.fb p f).referenced then s.fbFault p f 5 else s

/-- ALIGNED clears when the leaf's interface loses REFERENCED or has FB_TYPE written (R110). -/
def State.fbUnalign (s : State) (p : PortalId) (f : FbId) : State :=
  if h : f.val < 2 then s.modLeaf p ⟨f.val, h⟩ fun x => { x with aligned := false } else s

/-- An ILLEGAL or TRACKING fault of a counting interface loses the reference (R234). -/
def State.fbLose (s : State) (p : PortalId) (f : FbId) (b : Nat) : State :=
  let s := if s.fbType p f = 5 then s else (s.modFb p f fun x => { x with referenced := false }).fbUnalign p f
  (s.fbFault p f b).fbNeedRef p f

/-- Follow the "active and STILL" condition of the closed-contact reference (R233). -/
def State.contactWatch (s : State) (p : PortalId) : State :=
  foldState [0, 1] (fun (l : LeafId) t =>
    let on := (if l = 0 then t.cl0 p else t.cl1 p) && (t.fb p (fbOfLeaf l)).still
    t.modFb p (fbOfLeaf l) fun x =>
      { x with contactSince := if on then (if x.contactSince.isSome then x.contactSince else some t.ts) else none }) s

/-- The condition of a plausibility check: 0 CL0, 1 CL1, 2 STW (R294). -/
def State.implausible (s : State) (p : PortalId) (chk : Fin 3) : Bool :=
  let u := uPortal p
  match chk with
  | 0 => s.present p && s.view.isSet 0x8005 u && s.cl0 p && (s.fb p 0).referenced && decide ((s.par 0x8005 u : Rat) < s.xObs p 0)
  | 1 => s.leafPresent p 1 && s.view.isSet 0x8005 u && s.cl1 p && (s.fb p 1).referenced && decide ((s.par 0x8005 u : Rat) < s.xObs p 1)
  | 2 => s.present p && s.view.isSet 0x8006 u && s.stw p && s.stepFitted p && !(s.stepOf p).uncertain && decide (s.par 0x8006 u < s.stepPos p)

/-- Follow the conditions of the plausibility checks and since when each holds, or does not (R294). -/
def State.plausWatch (s : State) (p : PortalId) : State :=
  foldState [0, 1, 2] (fun (k : Fin 3) t =>
    let on := t.implausible p k
    t.modPortal p fun x => if x.plaus[k].1 = on then x else { x with plaus := x.plaus.set k.val (on, t.ts) }) s

/-- Time the LOCKED condition of a present portal continuously (R68), and with it the plausibility checks. -/
def State.lockWatch (s : State) (p : PortalId) : State :=
  let s := s.plausWatch p
  let ok := s.present p && s.lockedCond p
  s.modPortal p fun x => { x with lockedSince := if ok then (if x.lockedSince.isSome then x.lockedSince else some s.ts) else none }

/-- Counts that stand for a position of 0.01 mm (R233); not a whole number in general (log 5). -/
def State.fbCounts (s : State) (p : PortalId) (f : FbId) (pos : Int) : Int :=
  if pos = 0 then 0 else quant ((pos : Rat) * 10000 / (s.parN 0x6001 (uFb p f) : Rat))

/-- The end of a reference event: REFERENCED, NOT_REFERENCED cleared, event 0x0340 with the change in counts (R233, R253). -/
def State.fbReferenced (s : State) (p : PortalId) (f : FbId) (src : Nat) (moved : Int) : State :=
  let first := !(s.fb p f).everRef
  let s := s.modFb p f fun x => { x.clearFault 5 s.ts with referenced := true, everRef := true }
  let mm := truncR ((moved : Rat) * (s.parN 0x6001 (uFb p f) : Rat) / 10000)
  s.raisePortal p 0x0340 (uFb p f) (src + 65536 * (if first then 0 else sat16 mm))

/-- A reference event of a counting interface (R233, R240): c0 so that x is `pos`, x_hat shifted by the same amount; one that would
move x by more than TRACK_MAX counts is a TRACKING fault in its place (log 12). -/
def State.fbReference (s : State) (p : PortalId) (f : FbId) (pos : Int) (src : Nat) : State :=
  let x := s.fb p f
  let c0 := x.c - BitVec.ofInt 32 (s.fbSign p f * s.fbCounts p f pos)
  let moved := s.fbSign p f * (x.c0 - c0).toInt
  if x.everRef ∧ !x.still ∧ (s.parN 0x6005 (uFb p f) : Int) < |moved| then s.fbLose p f 2
  else (s.modFb p f fun y => { y with c0 := c0, xHat := y.xHat + (moved : Rat) }).fbReferenced p f src moved

/-! ## Counting (R227–R229, R238, R239) -/

/-- SETTLE for 3 / OBS_BW from now (R239). -/
def State.fbSettle (s : State) (p : PortalId) (f : FbId) : State :=
  let d := 300000000 / s.parN 0x6003 (uFb p f)
  s.modFb p f fun x => { x with settleEnd := some (s.ts + BitVec.ofNat 56 d) }

/-- The echo divider takes `n` counts in a direction (R242). -/
def State.echoCount (s : State) (p : PortalId) (f : FbId) (n : Int) : State :=
  if s.parNames 0x6030 (uPortal p) ≠ some f.val then s
  else
    let acc := (s.portal p).echo.acc + n * s.par 0x6031 (uPortal p)
    let k := acc.tdiv (s.par 0x6032 (uPortal p))
    let b := (s.portal p).echo.backlog + k
    let s' := s.modPortal p fun x =>
      { x with echo := { x.echo with acc := acc - k * s.par 0x6032 (uPortal p), backlog := b,
                                     overrun := decide (1024 < |b|) || (x.echo.overrun && decide (b ≠ 0)) } }
    if 1024 < |b| ∧ !(s.portal p).echo.overrun then s'.raisePortal p 0x0342 (uPortal p) (b % 2 ^ 32).toNat else s'

/-- A count change at the instant at which T_STILL expired: STILL is not set (R248). -/
def Feedback.woken (x : Feedback) (now : Ts) : Feedback :=
  match x.wake with
  | some (sd, xh, vh, ah) => if x.still ∧ x.stillAt = now then { x with still := false, seeding := sd, xHat := xh, vHat := vh, aHat := ah } else x
  | none => x

/-- A count change of R238: `d` is its direction before FB_INVERT; c has been changed already. -/
def State.fbChange (s : State) (p : PortalId) (f : FbId) (d : Int) : State :=
  let s := (s.modFb p f fun x => { x.woken s.ts with wake := none }).contactWatch p
  let x := s.fb p f
  let m := s.fbMeas p f
  let within : Bool := match x.lastChange with
    | some t => decide (s.ts.since t ≤ ms (s.parN 0x6004 (uFb p f)))
    | none => false
  let old : Int := s.fbSign p f * (x.lastCount - s.fbC0 p f).toInt
  let rec' : Feedback → Feedback := fun y => { y with lastChange := some s.ts, lastDir := d, lastCount := y.c, dir := decide (0 < d * s.fbSign p f),
                                                      spanUp := y.spanUp || decide (0 < d), spanDown := y.spanDown || decide (d < 0) }
  if x.still then (s.modFb p f fun y => rec' { y with still := false, seeding := true, xHat := (m : Rat), vHat := 0, aHat := 0 }).contactWatch p
  else if x.seeding then
    match x.lastChange with
    | some t =>
      if x.lastDir = d ∧ within ∧ s.ts.since t ≠ 0 then
        (s.modFb p f fun y => rec' { y with seeding := false, xHat := (m : Rat), aHat := 0,
                                            vHat := ((m - old : Int) : Rat) * 100000000 / (s.ts.since t : Rat) }).fbSettle p f
      else s.modFb p f fun y => rec' { y with xHat := (m : Rat) }
    | none => s.modFb p f fun y => rec' { y with xHat := (m : Rat) }
  else
    let s := s.modFb p f rec'
    if x.lastDir ≠ d then s.fbSettle p f else s

/-- The place of a Hall state in the cycle 1, 3, 2, 6, 4, 5 (R227). -/
def hallPlace : Nat → Option Nat
  | 1 => some 0 | 3 => some 1 | 2 => some 2 | 6 => some 3 | 4 => some 4 | 5 => some 5 | _ => none

/-- The count that a transition of the accepted levels gives: ±1, 0, or none when it is illegal (R227, R228). -/
def countOf (ty : Nat) (a b z a' b' z' : Bool) : Option Int :=
  match ty with
  | 1 =>
    if a ≠ a' ∧ b ≠ b' then none
    else if a ≠ a' then some (if a' ≠ b then 1 else -1)
    else if b ≠ b' then some (if b' = a then 1 else -1)
    else some 0
  | 2 => if !a && a' then some (if b then 1 else -1) else some 0
  | 3 =>
    let up := !a && a'
    let dn := !b && b'
    if up && dn then none else some (if up then 1 else if dn then -1 else 0)
  | 4 =>
    let k := bit z * 4 + bit b * 2 + bit a
    let k' := bit z' * 4 + bit b' * 2 + bit a'
    if k = k' then some 0
    else match hallPlace k, hallPlace k' with
      | some i, some j => if j = (i + 1) % 6 then some 1 else if i = (j + 1) % 6 then some (-1) else none
      | _, _ => none
  | _ => some 0

/-- One sample of the three pins: the accepted levels take effect (R226–R228, R238, R239, R242). -/
def State.fbSample (s : State) (p : PortalId) (f : FbId) (a b z : Bool) : State :=
  let x := s.fb p f
  let r := countOf (s.fbType p f) x.a x.b x.z a b z
  let s := s.modFb p f fun y => { y with a := a, b := b, z := z, zAt := if z = x.z then y.zAt else some s.ts }
  if !s.fbRuns p f then s
  else match r with
    | none =>
      let s := (s.modFb p f fun y => { y with illegal := satInc 65535 y.illegal, illegalAt := (y.legal :: y.illegalAt).take 4,
                                              okSince := y.okSince.set 0 (some s.ts), badAt := some s.ts }).markSet 0x6086 (uFb p f) 0
      let y := s.fb p f
      (match y.illegalAt with
        | [_, _, _, k] => if y.legal - k < 1024 then s.fbLose p f 0 else s
        | _ => s)
    | some d =>
      if d = 0 then s
      else
        let s := s.modFb p f fun y => { y with c := y.c + BitVec.ofInt 32 d, legal := y.legal + 1 }
        (s.fbChange p f d).echoCount p f d

/-- FB_COUNT_CHANGE (R226–R228, R238, R239, R242): newly accepted levels of the three pins in one sample. -/
def execFbCountChange (dt : Nat) (p : PortalId) (f : FbId) (a b z : Bool) (s : State) : Host.Outcome State Fault Refusal :=
  .next ((s.advance dt).fbSample p f a b z)

/-! ## Index (R235, R236) -/

/-- Counts that a span should have (R236). -/
def State.fbSpan (s : State) (p : PortalId) (f : FbId) : Int :=
  (if s.fbType p f = 1 then 4 else 1) * s.par 0x6013 (uFb p f)

/-- The line-count check at an accepted index (R236). -/
def State.lineCount (s : State) (p : PortalId) (f : FbId) : State :=
  let x := s.fb p f
  let next : Feedback → Feedback := fun y => { y with indexAt := some y.c, spanUp := false, spanDown := false }
  match x.indexAt with
  | none => s.modFb p f next
  | some c1 =>
    if s.par 0x6013 (uFb p f) = 0 ∨ (x.spanUp = x.spanDown) then s.modFb p f next
    else
      let span := (x.c - c1).toInt
      let bad := decide (s.par 0x6014 (uFb p f) < |(|span| - s.fbSpan p f)|)
      let s := s.modFb p f fun y =>
        { (if bad then next y else (next y).clearFault 1 s.ts) with
          lastSpan := span, lastBad := bad, lcMismatch := if bad then satInc 65535 y.lcMismatch else y.lcMismatch }
      if bad then
        let s := (s.markSet 0x6087 (uFb p f) 0).raisePortal p 0x0341 (uFb p f) (span % 2 ^ 32).toNat
        if x.lastBad then s.fbFault p f 1 else s
      else s

/-- The accepted level of Z that is active (R235, R251). -/
def State.indexLevel (s : State) (p : PortalId) (f : FbId) : Bool := decide (s.parN 0x6011 (uFb p f) = 0)

/-- A closed-contact reference of this instant gives way to the index (R248): its origin and its event are withdrawn. -/
def State.contactYield (s : State) (p : PortalId) (f : FbId) : State :=
  match (s.fb p f).contactRef with
  | some (t, c0, ever) =>
    if t = s.ts then
      let moved := s.fbSign p f * ((s.fb p f).c0 - c0).toInt
      let s := s.modFb p f fun x => { x with c0 := c0, everRef := ever, xHat := x.xHat + (moved : Rat), contactRef := none }
      s.modDie (pdDie p) fun x => { x with raised := x.raised.filter fun e => !(e.code = 0x0340 && e.unit = uFb p f && decide (e.ts = x.ts)) }
    else s
  | none => s

/-- A reference taken at an index (R233, R248). -/
def State.indexReference (s : State) (p : PortalId) (f : FbId) : State :=
  (s.contactYield p f).fbReference p f (s.par 0x6012 (uFb p f)) 0

/-- What an accepted index does (R235, R236). -/
def State.indexTaken (s : State) (p : PortalId) (f : FbId) : State :=
  let s := s.lineCount p f
  let x := s.fb p f
  match s.parN 0x6010 (uFb p f) with
  | 1 => s.indexReference p f
  | 2 => if x.armed ∧ x.armedAt ≠ s.ts then (s.modFb p f fun y => { y with armed := false }).indexReference p f else s
  | _ => s

/-- INDEX_EDGE (R233, R235, R236, R240, R248): the three pins in one sample in which Z is accepted at its active level; a count change of the sample
applies first. An edge in a sample with an illegal transition is not accepted, and discards the span in progress. -/
def execIndexEdge (dt : Nat) (p : PortalId) (f : FbId) (pins : AbzPins) (s : State) : Host.Outcome State Fault Refusal :=
  let s := (s.advance dt).fbSample p f pins.a pins.b pins.z
  let ty := s.fbType p f
  let x := s.fb p f
  .next (if !(s.fbRuns p f) ∨ ty = 4 ∨ ty = 5 ∨ pins.z ≠ s.indexLevel p f ∨ x.zAt ≠ some s.ts then s
    else
      let s := s.modFb p f fun y => { y with zAt := none }
      if x.badAt = some s.ts then s.modFb p f fun y => { y with spanUp := true, spanDown := true }
      else s.indexTaken p f)

/-! ## SSI (R230, R231) -/

/-- Gray to binary of `n` bits (R230): below a set bit the rest is read complemented. -/
def grayDecode : Nat → Nat → Nat
  | 0, _ => 0
  | n + 1, g => if g.testBit n then 2 ^ n + (2 ^ n - 1 - grayDecode n (g % 2 ^ n)) else grayDecode n (g % 2 ^ n)

/-- A bad frame: discarded; the observer's next tick has zero error; the third in succession is a fault (R231). -/
def State.ssiBadFrame (s : State) (p : PortalId) (f : FbId) (b : Nat) : State :=
  let s := s.modFb p f fun x => { x with ssiBad := x.ssiBad + 1, zeroErr := true, okSince := (x.okSince.set 3 none).set 4 none }
  if 3 ≤ (s.fb p f).ssiBad then s.fbFault p f b else s

/-- SSI_FRAME (R230, R231, R233, R238, R241): a completed frame: the bits sampled, the clock edges seen on the return, and whether the data
line was high at the end of the pause. -/
def execSsiFrame (dt : Nat) (p : PortalId) (f : FbId) (raw : BitVec 32) (edges : Nat) (dataHigh : Bool) (s : State) :
    Host.Outcome State Fault Refusal :=
  let s := s.advance dt
  let u := uFb p f
  let n := s.parN 0x6020 u
  if !(s.fbRuns p f) ∨ s.fbType p f ≠ 5 then .next s
  else if edges < n + 1 ∨ !dataHigh then .next (s.ssiBadFrame p f 3)
  else
    let g := raw.toNat % 2 ^ n
    let v := if s.parN 0x6021 u = 1 then grayDecode n g else g
    let good : Feedback → Feedback := fun y =>
      { y with ssiBad := 0, zeroErr := false, ssiPrev := some v,
               okSince := (y.okSince.set 3 (if (y.okSince[3]).isSome then y.okSince[3] else some s.ts)).set 4
                 (if (y.okSince[4]).isSome then y.okSince[4] else some s.ts) }
    match (s.fb p f).ssiPrev with
    | none =>
      let m0 := s.fbMeas p f
      let s := s.modFb p f fun y => { good y with c := BitVec.ofNat 32 v, ssiChange := v, lastCount := BitVec.ofNat 32 v }
      .next (s.fbReferenced p f 2 (s.fbMeas p f - m0))
    | some v0 =>
      let d := wrapS n ((v : Int) - v0)
      if (s.parN 0x6026 u : Int) < |d| then .next (s.ssiBadFrame p f 4)
      else
        let dc := wrapS n ((v : Int) - (s.fb p f).ssiChange)
        let s := s.modFb p f fun y => { good y with c := y.c + BitVec.ofInt 32 d }
        let s := if d = 0 then s else s.echoCount p f d
        if 2 ≤ |dc| then .next ((s.fbChange p f (sgn dc)).modFb p f fun y => { y with ssiChange := v }) else .next s

/-! ## The observer (R237–R240) -/

/-- One tick of the tracking observer with error e, in counts (R237). -/
def observe (bw : Rat) (e : Rat) (x : Feedback) : Feedback :=
  let w := 2 * piR * bw
  let t : Rat := 1 / 20000
  let a := x.aHat + w ^ 3 * e * t
  let v := x.vHat + (a + 3 * w ^ 2 * e) * t
  { x with aHat := a, vHat := v, xHat := x.xHat + (v + 3 * w * e) * t }

/-- OBSERVER_TICK (R237, R238, R240, R241): one 50 µs tick of an interface. -/
def execObserverTick (dt : Nat) (p : PortalId) (f : FbId) (s : State) : Host.Outcome State Fault Refusal :=
  let s := s.advance dt
  let x := s.fb p f
  let m : Rat := s.fbMeas p f
  if !s.fbRuns p f then .next s
  else
    let e := if x.zeroErr then 0 else m - x.xHat
    let track := decide ((s.parN 0x6005 (uFb p f) : Rat) < |e|)
    let s := s.modFb p f fun y =>
      let y := { y with zeroErr := false,
                        okSince := y.okSince.set 2 (if track && !x.still && !x.seeding then none
                          else if (y.okSince[2]).isSome then y.okSince[2] else some s.ts) }
      if y.still then { y with xHat := m, vHat := 0, aHat := 0 }
      else if y.seeding then { y with xHat := m }
      else observe (s.parN 0x6003 (uFb p f) : Rat) e y
    let s := s.lockWatch p
    if track && !x.still && !x.seeding then .next (s.fbLose p f 2) else .next s

/-- T_STILL_EXPIRY (R238): T_STILL without a count change. -/
def execTStillExpiry (dt : Nat) (p : PortalId) (f : FbId) (s : State) : Host.Outcome State Fault Refusal :=
  let s := s.advance dt
  let x := s.fb p f
  if s.fbRuns p f ∧ !x.still ∧ s.ran x.lastChange (ms (s.parN 0x6004 (uFb p f))) then
    .next ((s.modFb p f fun y => { y with still := true, stillAt := s.ts, seeding := false, xHat := (s.fbMeas p f : Rat), vHat := 0,
                                          aHat := 0, wake := some (y.seeding, y.xHat, y.vHat, y.aHat) }).contactWatch p)
  else .next s

/-- CLOSED_CONTACT_REFERENCE (R233): the closed contact active and the interface STILL for 100 ms. -/
def execClosedContactReference (dt : Nat) (p : PortalId) (l : LeafId) (s : State) : Host.Outcome State Fault Refusal :=
  let s := s.advance dt
  let f := fbOfLeaf l
  if s.fbRuns p f ∧ s.fbType p f ≠ 5 ∧ s.parN 0x6006 (uFb p f) = 1 ∧ !(s.fb p f).referenced
      ∧ s.ran (s.fb p f).contactSince (ms 100) then
    .next ((s.modFb p f fun x => { x with contactRef := some (s.ts, x.c0, x.everRef) }).fbReference p f 0 1)
  else .next s

/-- FB_FAULT_CLEAR (R241): a fault whose clearing condition has held for 100 ms clears; NOT_REFERENCED clears when REFERENCED is set. -/
def execFbFaultClear (dt : Nat) (p : PortalId) (f : FbId) (n : Fin 6) (s : State) : Host.Outcome State Fault Refusal :=
  let s := s.advance dt
  let x := s.fb p f
  let ok := if n = 5 then x.referenced else if n = 1 then !x.lastBad else s.ran x.okSince[n] (ms 100)
  if ok then .next (s.modFb p f fun y => y.clearFault n.val s.ts) else .next s

/-! ## Position echo (R242, R243) -/

/-- The echo drives its pins (R243). -/
def State.echoDrives (s : State) (p : PortalId) : Bool :=
  (s.parNames 0x6030 (uPortal p)).isSome && s.gates && (s.pdMode p).runs

/-- ECHO_OUTPUT_STEP (R242): one place of the A/B state once ECHO_MIN_EDGE has passed. -/
def execEchoOutputStep (dt : Nat) (p : PortalId) (s : State) : Host.Outcome State Fault Refusal :=
  let s := s.advance dt
  let e := (s.portal p).echo
  let free : Bool := match e.lastEdge with
    | some t => decide (s.parN 0x6035 (uPortal p) ≤ 10 * s.ts.since t)
    | none => true
  if e.backlog ≠ 0 ∧ free ∧ (s.parNames 0x6030 (uPortal p)).isSome then
    let d := sgn e.backlog
    let b := e.backlog - d
    .next (s.modPortal p fun x => { x with echo := { e with backlog := b, ab := (e.ab + (if 0 < d then 1 else 3)) % 4, lastEdge := some s.ts,
                                                            overrun := e.overrun && decide (b ≠ 0) } })
  else .next s

/-- FB_STATUS (R252). -/
def State.fbStatus (s : State) (p : PortalId) (f : FbId) : Nat :=
  let x := s.fb p f
  let settle : Bool := match x.settleEnd with
    | some t => decide (0 < (t - s.ts).toInt)
    | none => false
  bit x.referenced + 2 * bit x.still + 4 * bit x.seeding + 8 * bit settle
    + 16 * bit (x.armed && decide (s.par 0x6010 (uFb p f) = 2)) + 32 * bit x.dir

/-- What a new FB_TYPE resets (R247). -/
def Feedback.retyped (x : Feedback) (now : Ts) : Feedback :=
  { x with c := 0, c0 := 0, referenced := false, still := true, stillAt := now, seeding := false, settleEnd := none, xHat := 0, vHat := 0,
           aHat := 0, indexAt := none, spanUp := false, spanDown := false, lastBad := false, legal := 0, illegalAt := [], ssiPrev := none,
           ssiBad := 0, zeroErr := false, ssiChange := 0, lastChange := none, lastDir := 0, lastCount := 0, contactSince := none,
           wake := none, contactRef := none }

/-- FB_TYPE is written, or changes with a commit (R110, R233, R234, R247). -/
def State.fbRetype (s : State) (p : PortalId) (f : FbId) : State :=
  ((((s.modFb p f fun x => x.retyped s.ts).fbUnalign p f).contactWatch p).fbNeedRef p f)

end Sys2Proof.Machine
end

