-- ==== Sys2Proof/Machine/RecOps.lean ====
section
/-! DEFINITION. The recorder's queue (R472, R474), and what becomes of a door cycle (R467–R469). -/

namespace Sys2Proof.Machine

/-- A u32 lifetime counter that saturates (R469). -/
def inc32 (n : Nat) : Nat := satInc 4294967295 n

/-- An entry is dropped: REC_LOST, the pending loss count and the highest severity dropped (R474). -/
def Recorder.drop (r : Recorder) (sev : Nat) : Recorder :=
  { r with lost := inc32 r.lost, pendingLoss := r.pendingLoss + 1, lossSev := max r.lossSev sev }

/-- Entries that merge: no cycle record and no 0x002B record (R472). -/
def RecEntry.merges (e : RecEntry) : Bool := !e.cycle && decide (e.code ≠ 0x002B)

/-- Equal CODE, SRC, PARAM0 and PARAM1, with the device mode that a record carries (R472). -/
def RecEntry.same (a b : RecEntry) : Bool :=
  decide (a.code = b.code ∧ a.src = b.src ∧ a.param0 = b.param0 ∧ a.param1 = b.param1) && a.merges && b.merges

/-- One more occurrence, REPEAT saturated (R472). -/
def RecEntry.again (e : RecEntry) : RecEntry := { e with rep := satInc 65535 e.rep }

/-- An event record carries the device mode at the write in PARAM1 [23:16] (R464). -/
def RecEntry.fill (e : RecEntry) (m : Mode) : RecEntry := if e.cycle then e else { e with param1 := e.param1 % 65536 + 65536 * m.code }

/-- Drop the newest entry of a severity from a queue (R474). -/
def dropNewest (sev : Nat) (q : List RecEntry) : List RecEntry :=
  match q.reverse.findIdx? fun e => e.sev = sev with
  | some k => q.eraseIdx (q.length - 1 - k)
  | none => q

/-- The queue takes an entry (R472, R474); after T_PF none is queued (R476). -/
def State.recEnqueue (s : State) (e : RecEntry) : State :=
  let r := s.recorder
  let late : Bool := match r.tPf with
    | some t => decide (0 < (e.ts - t).toInt)
    | none => false
  let r' :=
    if r.blocked || late then { r with lost := inc32 r.lost }
    else match r.queue.getLast? with
      | some q =>
        if q.same e then { r with queue := r.queue.dropLast ++ [q.again] }
        else if r.queue.length < 128 then { r with queue := r.queue ++ [e] }
        else
          let low := r.queue.foldl (fun m x => min m x.sev) 3
          if low < e.sev then { r.drop low with queue := dropNewest low r.queue ++ [e] } else r.drop e.sev
      | none =>
        match r.records.getLast? with
        | some n =>
          if r.ready && !(s.die 7).pllLost && n.entry.same (e.fill s.mode) then
            { r with records := r.records.dropLast ++ [{ n with entry := n.entry.again }] }
          else { r with queue := [e] }
        | none => { r with queue := [e] }
  { s with recorder := r' }

/-- The number of the newest saved counter block (R470). -/
def Recorder.lastGen (r : Recorder) : Nat := r.slots.toList.foldl (fun m b => max m ((b.map (·.gen)).getD 0)) 0

/-- The lifetime counters as one block (R470). -/
def State.counterBlock (s : State) : CounterBlock :=
  let r := s.recorder
  let chans := fun (f : Channel → Nat) => allPortals.flatMap fun p => (s.portal p).chans.toList.map f
  ⟨r.lastGen + 1, r.opSeconds, r.powerCycles, r.written, r.lost, allPortals.map fun p => (s.portal p).cycleCount,
    allPortals.map fun p => (s.portal p).obstTotal, allPortals.map fun p => (s.portal p).fenceTotal, chans (·.shutdowns), chans (·.switchings)⟩

/-- The counter block goes to the next of the 64 rotating slots (R470); before the scan has ended, after the flush, and while the recorder
memory die has no clock, nothing is written (R475, R476, R489). -/
def State.saveCounters (s : State) : State :=
  let r := s.recorder
  if !r.ready || r.blocked || (s.die 7).pllLost then s
  else
    let n : Fin 64 := ⟨(r.slotAt.val + 1) % 64, by omega⟩
    { s with recorder := { r with slots := r.slots.set n (some s.counterBlock), slotAt := n, savedAt := s.ts } }

/-- A time in 10 ms, truncated and saturated (R468). -/
def tenMs (mx counts : Nat) : Nat := min mx (counts / 1000000)

/-- The peaks of a cycle: PEAK_F_OPP, whether it came from leaf 1, PEAK_E (R468). -/
def State.cyclePeaks (s : State) (p : PortalId) : Nat × Bool × Nat :=
  let f := fun (l : LeafId) => if s.leafPresent p l then (s.leaf p l).det.peakFOpp else 0
  let e := fun (l : LeafId) => if s.leafPresent p l then (s.leaf p l).det.peakE else 0
  (max (f 0) (f 1), decide (f 0 < f 1), max (e 0) (e 1))

/-- A door cycle ends and its record is queued (R467–R469). -/
def State.cycleEnd (s : State) (p : PortalId) (abandoned : Bool) : State :=
  match (s.portal p).cycle with
  | none => s
  | some c =>
    let (f, fromL1, e) := s.cyclePeaks p
    let opened := match c.openTime with
      | some n => tenMs 4095 n
      | none => 0
    let lock := match c.lockingTs with
      | some t => tenMs 255 (s.ts.since t)
      | none => 0
    let rep := opened + 4096 * min 15 c.obst
    let p0 := tenMs 4095 c.closeTime + 4096 * min 4095 f + 2 ^ 24 * lock
    let p1 := min 65535 e + 65536 * sat16 c.homeCorr
    let flags := c.flags ||| (if fromL1 then 0x40#8 else 0) ||| (if abandoned then 0x80#8 else 0)
    (s.modPortal p fun x => { x with cycle := none }).recEnqueue
      ⟨0x0100 + p.val, p.val, 1, flags, s.ts, rep, p0, p1, true⟩

/-- Change the cycle in progress. -/
def State.modCycle (s : State) (p : PortalId) (f : Cycle → Cycle) : State := s.modPortal p fun x => { x with cycle := x.cycle.map f }

/-- The portal state's part in the cycle (R467, R468): `old` is the state that is left. -/
def State.cycleState (s : State) (p : PortalId) (old new : PState) : State :=
  let s := if old = .locked ∧ (new = .stepDeploy ∨ new = .unlocking) ∧ s.mode.door then
      foldState [0, 1] (fun l t => t.modDet p l fun d => { d with peakFOpp := 0, peakE := 0 })
        (s.modPortal p fun x => { x with cycle := some ⟨s.ts, none, none, 0, none, 0, 0, 0⟩ })
    else s
  match new with
  | .open => s.modCycle p fun c => { c with openTime := if c.openTime.isSome then c.openTime else some (s.ts.since c.start) }
  | .closing => s.modCycle p fun c => { c with closingTs := some s.ts }
  | .locking => s.modCycle p fun c => { c with lockingTs := some s.ts, closeTime := match c.closingTs with
      | some t => s.ts.since t
      | none => c.closeTime }
  | .emergency | .isolated => s.modCycle p fun c => { c with flags := c.flags ||| 0x10#8 }
  | .locked => s.cycleEnd p false
  | _ => s

/-- An obstacle reaction is counted (R469). -/
def State.countObst (s : State) (p : PortalId) : State :=
  s.modPortal p fun x => { x with obstTotal := inc32 x.obstTotal, cycle := x.cycle.map fun c => { c with obst := c.obst + 1 } }

end Sys2Proof.Machine
end

