-- ==== Sys2Proof/Machine/Sequencer.lean ====
section
/-! DEFINITION. The portal sequencer (R64–R99): outputs of the states, the resting evaluation, the evaluation in the order of R92, obstacle
reactions, jogs, the safe stop of R456. -/

namespace Sys2Proof.Machine

/-! ## Outputs of a state (R64, R95, R105, R198) -/

/-- The leaves and the valves of a portal in a state. -/
def State.leafOutputs (s : State) (p : PortalId) (st : PState) : State :=
  let x := s.portal p
  foldState (s.leaves p) (fun l t =>
    if t.pneumatic p then
      match st with
      | .opening | .reopening => t.setValves p l true false
      | .open => t.setValves p l true false
      | .closing | .locking => t.setValves p l false true
      | .fenced => t
      | _ => t.setValves p l false false
    else match st with
      | .unlocking | .open => (t.leafWant p l .position).leafHold p l
      | .opening => (t.leafWant p l .position).leafTarget p l (t.openPos p l)
      | .closing => (t.leafWant p l .position).leafTarget p l 0
      | .reopening => (t.leafWant p l .position).leafTarget p l (if x.reopenFull then t.openPos p l else x.reopen[l])
      | .locking => t.leafWant p l .force
      | .fenced | .jog => t
      | _ => t.leafOff p l) s

/-- The step of a portal in a state (R198); the emergency handle and the isolation switch stop it at once (R211). -/
def State.stepOutputs (s : State) (p : PortalId) (st : PState) : State :=
  if !s.stepFitted p then s
  else match st with
    | .stepDeploy => s.stepTask p true
    | .stepStow => s.stepTask p false
    | .isolated | .emergency => s.stepStop p (s.standstill p)
    | .locked => s.setStep p (s.standstill p)
    | .fenced | .jog | .absent => s
    | _ => s.setStep p (s.stoppedDrive p)

/-- Lock and warn channels in a state (R64). -/
def State.roleOutputs (s : State) (p : PortalId) (st : PState) : State :=
  let s := match st with
    | .unlocking | .opening | .open | .closing | .reopening => s.setLock p true
    | .emergency | .fenced | .jog => s
    | _ => s.setLock p false
  match st with
  | .closing => s.setWarn p true
  | .open => s.setWarn p (s.portal p).closePending
  | .fenced => s
  | _ => s.setWarn p false

/-- A transition state latches the profile and detector parameters (R126, R192). -/
def State.latchAll (s : State) (p : PortalId) : State := foldState (s.leaves p) (fun l t => t.latchTransition p l) s

/-- Enter a state: event 0x0300, the timeout, the cycle, the traversals and the outputs. -/
def State.enter (s : State) (p : PortalId) (st : PState) : State :=
  let old := (s.portal p).state
  let s := s.setPState p st
  let s := match old with
    | .opening => s.traversalEnd p true (decide (st = PState.open) && !(s.portal p).partialOpen)
    | .closing => s.traversalEnd p false (decide (st = PState.locking))
    | _ => s
  let s := s.modPortal p fun x => { x with
    partialOpen := x.partialOpen && decide (st = PState.open), closePending := x.closePending && decide (st = PState.open),
    warn := none, dwell := none, pause := none, stopPartial := false, openObst := 0 }
  let s := s.cycleState p old st
  let s := match st with
    | .opening | .closing => (s.latchAll p).traversalStart p
    | .reopening => (s.latchAll p).motionStart p
    | .unlocking | .locking => s.latchAll p
    | _ => s
  let s := ((s.leafOutputs p st).stepOutputs p st).roleOutputs p st
  -- a homing run has its own timeout; the state's starts when it ends (R77)
  if (st = .stepDeploy ∨ st = .stepStow) ∧ (s.stepOf p).drive = .homing then s.modPortal p fun x => { x with timer := none } else s

/-- LOCKED is reached: RECLOSE_COUNT returns to 0 and a close command in force completes (R81, R85). -/
def State.enterLocked (s : State) (p : PortalId) : State :=
  let s := s.enter p .locked
  let refs := (s.portal p).closeRefs
  let s := s.modPortal p fun x => { x with recloses := 0, closeForce := false, closeRefs := [] }
  s.finishAll p refs stDone [0]

/-- OPEN is reached at OPEN_POS or short of it; an open command in force ends (R82, R85). -/
def State.enterOpen (s : State) (p : PortalId) (part : Bool) : State :=
  let s := s.modPortal p fun x => { x with partialOpen := part, cycle := if part then x.cycle.map fun c => { c with flags := c.flags ||| 0x02#8 }
    else x.cycle }
  let s := s.enter p .open
  let refs := (s.portal p).openRefs
  let s := s.modPortal p fun x => { x with openForce := false, openRefs := [] }
  s.finishAll p refs (if part then stModeForbids else stDone) [if part then 6 else 0]

/-- CLOSING begins (R79, R81). -/
def State.enterClosing (s : State) (p : PortalId) (reclose : Bool) : State :=
  let s := s.modPortal p fun x => { x with
    recloses := if reclose then min 10 (x.recloses + 1) else x.recloses,
    cycle := if reclose then x.cycle.map fun c => { c with flags := c.flags ||| 0x04#8 } else x.cycle }
  let s := s.modPortal p fun x => { x with closeStart := x.recloses }
  s.enter p .closing

/-- Where an opening starts (R71, R76). -/
def State.beginOpening (s : State) (p : PortalId) : State := s.enter p (if s.stepFitted p then .stepDeploy else .unlocking)

/-- A fence cause is pending or in force (R68). -/
def State.causePending (s : State) (p : PortalId) : Bool := (s.portal p).fenceCause ≠ 0 || (s.portal p).pendingCause ≠ 0

/-- Enter FENCED with the first kept cause (R87, R88). -/
def State.enterKept (s : State) (p : PortalId) : State :=
  (s.modPortal p fun x => { x with fenceCause := if x.fenceCause = 0 then x.pendingCause else x.fenceCause, pendingCause := 0 }).enterFenced p

/-- The LOCKED condition has held for LOCK_SETTLE (R68). -/
def State.settled (s : State) (p : PortalId) : Bool := s.ran (s.portal p).lockedSince (ms (s.parN 0x1044 (uPortal p)))

/-- A tune of a leaf slot ends with its jog (R157). -/
def State.abortJogTunes (s : State) (p : PortalId) : State :=
  foldState (List.finRange 64) (fun n t =>
    if n.val < 32 ∧ t.slotOwner (pdOf p) n = some p then t.abortTune (pdOf p) n 5 stModeForbids else t) s

/-- Leave every motion for ISOLATED or EMERGENCY: commands in force end with the outcome given (R85). -/
def State.halted (s : State) (p : PortalId) (st : PState) (outcome : Nat) : State :=
  let s := (s.abortJogTunes p).endMotion p
  let s := s.enter p st
  ((s.endOpenClose p stModeForbids outcome).jogLeft p).degrade

/-- The resting evaluation (R68). -/
def State.resting (s : State) (p : PortalId) : State :=
  if s.isActive p then s.halted p .isolated 4
  else if s.ehActive p then s.halted p .emergency 3
  else if s.causePending p then s.enterKept p
  else if s.settled p then s.enterLocked p
  else
    let s := s.modPortal p fun x => { x with closePending := false, partialOpen := false }
    s.enter p .open

/-! ## Close intent (R78, R79, R81) -/

/-- Close intent is present (R78). -/
def State.closeIntent (s : State) (p : PortalId) : Bool :=
  let x := s.portal p
  !x.closeFailed && (x.closeForce || !s.released p || !s.zsConfirmed)

/-- Cancel a close warning or a reclose dwell (R79, R81). -/
def State.cancelWarning (s : State) (p : PortalId) : State :=
  (s.modPortal p fun x => { x with closePending := false, warn := none, dwell := none }).setWarn p false

/-- Every leaf decelerates to a hold (R82). -/
def State.leavesStop (s : State) (p : PortalId) : State :=
  foldState (s.leaves p) (fun l t => if t.pneumatic p then t.setValves p l false false else t.leafStopHold p l) s

/-- A rising edge of release clears CLOSE_FAILED (R78); the release of each evaluation is followed, suspended or not. -/
def State.relStep (s : State) (p : PortalId) : State :=
  let rel := s.released p
  s.modPortal p fun x => { x with closeFailed := x.closeFailed && !(rel && !x.relPrev), relPrev := rel }

/-- Step 9 of R92: what close intent does in each state (R76, R79, R81); in OPEN without zero speed CLOSING begins at once (R79), in a reclose
dwell as a reclose. R85 names no OUTCOME for an open command in force when STEP_DEPLOY or UNLOCKING is turned back: it stays in force through
LOCKED (log 92, DESIGN CHOICE). -/
def State.closeStep (s : State) (p : PortalId) : State :=
  let x := s.portal p
  if s.closeIntent p then
    match x.state with
    | .stepDeploy => s.enter p (if s.stepFitted p then .stepStow else .locking)
    | .unlocking => s.enter p .locking
    | .opening => if x.stopPartial then s else (s.leavesStop p).modPortal p fun y => { y with stopPartial := true, pause := none }
    | .open =>
      if !s.zsConfirmed then s.enterClosing p x.dwell.isSome
      else if x.warn.isSome ∨ x.dwell.isSome then s
      else (s.modPortal p fun y => { y with closePending := true, warn := some s.ts }).setWarn p true
    | _ => s
  else match x.state with
    | .open => if x.warn.isSome ∨ x.dwell.isSome then s.cancelWarning p else s
    | _ => s

/-! ## Obstacles (R80–R82, R95) -/

/-- Position in mm for event 0x0301, i16. -/
def State.posMm (s : State) (p : PortalId) (l : LeafId) : Nat := sat16 (truncR (s.xObs p l / 100))

/-- The leaf further from OPEN_POS (R80). -/
def State.furtherLeaf (s : State) (p : PortalId) : LeafId :=
  if s.twoLeaves p ∧ (s.openPos p 0 : Rat) - s.xObs p 0 < (s.openPos p 1 : Rat) - s.xObs p 1 then 1 else 0

/-- The obstacle that an evaluation finds: the lowest trigger code (R99, R189). `se` says whether SE0, SE1 and OBS count. -/
def State.obstacle (s : State) (p : PortalId) (se stall : Bool) : Option Nat :=
  let decl := fun (l : LeafId) => s.leafPresent p l && !s.pneumatic p && (s.leaf p l).det.declared
  let stalled := fun (l : LeafId) => stall && s.leafPresent p l && s.pneumatic p &&
    s.ran (s.leaf p l).stallSince (ms (s.parN 0x4016 (uLeaf p l)))
  if decl 0 then some 0 else if decl 1 then some 1
  else if se && s.se0 p then some 2 else if se && s.twoLeaves p && s.se1 p then some 3 else if se && s.obs p then some 4
  else if stalled 0 then some 5 else if stalled 1 then some 6 else none

/-- Event 0x0301 and the counts of an obstacle reaction (R99, R469). -/
def State.obstEvent (s : State) (p : PortalId) (trigger : Nat) (ref : LeafId) : State :=
  (s.raisePortal p 0x0301 (uPortal p) (trigger + 256 * (s.portal p).state.code + 65536 * s.posMm p ref)).countObst p

/-- The declarations have been handled. -/
def State.clearDeclared (s : State) (p : PortalId) : State :=
  foldState [0, 1] (fun l t => t.modDet p l fun d => { d with declared := false }) s

/-- An obstacle in CLOSING (R80, R81): both leaves reopen; at the reclose limit the portal gives up: CLOSE_FAILED, event 0x0302 and
RECLOSE_LIMIT come when the obstacle is found (log 92, DESIGN CHOICE). -/
def State.reopen (s : State) (p : PortalId) (trigger : Nat) : State :=
  let ref : LeafId := if s.twoLeaves p ∨ trigger = 4 ∨ trigger = 7 then s.furtherLeaf p else 0
  let s := s.obstEvent p trigger ref
  let s := if 2 ≤ trigger ∧ trigger ≤ 4 then s.edgeClamp p else s
  let dist := s.par 0x1012 (uLeaf p ref)
  let here := truncR (s.xObs p ref)
  let tgt := fun (l : LeafId) => if dist = 0 then s.openPos p l else min (s.openPos p l) (here + dist)
  let s := s.modPortal p fun x => { x with reopen := #v[tgt 0, tgt 1], reopenFull := decide (dist = 0) }
  let x := s.portal p
  let s := if s.parN 0x1041 (uPortal p) ≤ x.closeStart then
      let refs := x.closeRefs
      let s := s.modPortal p fun y => { y with closeFailed := true, closeForce := false, closeRefs := [] }
      let s := s.raisePortal p 0x0302 (uPortal p) x.recloses
      s.finishAll p refs stModeForbids [5]
    else s
  s.enter p .reopening

/-- A declaration that meets a fence-unit fault at one evaluation is still reported, although the fence comes first (R189). -/
def State.declStep (s : State) (p : PortalId) : State :=
  let x := s.portal p
  let moves := x.state = .closing ∨ x.state = .opening ∨ x.state = .reopening
  if moves ∧ x.found.any fun c => c.1 = 0x04 then
    match s.obstacle p false false with
    | some t =>
      let ref : LeafId := if x.state = .closing then (if s.twoLeaves p then s.furtherLeaf p else 0) else if t = 1 then 1 else 0
      s.raisePortal p 0x0301 (uPortal p) (t + 256 * x.state.code + 65536 * s.posMm p ref)
    | none => s
  else s

/-- Step 5 of R92 (R80, R82); in JOG a declaration waits for the jog's own check (R93). -/
def State.obstStep (s : State) (p : PortalId) : State :=
  let x := s.portal p
  let s' := match x.state with
    | .closing => match s.obstacle p true true with
      | some t => s.reopen p t
      | none => s
    | .opening => match s.obstacle p false false with
      | some t =>
        if x.stopPartial then s
        else
          let s := (s.obstEvent p t (if t = 1 then 1 else 0)).leavesStop p
          if x.openObst = 0 then s.modPortal p fun y => { y with openObst := 1, pause := some s.ts }
          else s.modPortal p fun y => { y with openObst := y.openObst + 1, pause := none, stopPartial := true }
      | none => s
    | .reopening => match s.obstacle p false false with
      | some t =>
        if x.stopPartial then s
        else ((s.obstEvent p t (if t = 1 then 1 else 0)).leavesStop p).modPortal p fun y => { y with stopPartial := true }
      | none => s
    | _ => s
  if x.state = .jog then s' else s'.clearDeclared p

/-! ## Jogs (R93, R217) -/

/-- The stopping point of a step in motion (R201, R456). -/
def State.stepStopPoint (s : State) (p : PortalId) : State :=
  let s := s.stepCatchUp p
  let x := s.stepOf p
  let d := brakeDist (s.stepPar p 0x5011) (s.stepPar p 0x5012) (s.stepPar p 0x5016) (s.stepPar p 0x5017) |x.v|
  let n := quant (256 * d)
  if x.drive = .moving ∨ x.drive = .homing then
    s.modStep p fun y => { y with drive := .moving, phase := 0, homeStart := none,
                                  phiT := y.phi + BitVec.ofInt 32 (if y.v < 0 then -n else n) }
  else s

/-- The unit jog ends: the unit decelerates to STILL, and a tune of the leaf ends (R93, R157). -/
def State.endUnitJog (s : State) (p : PortalId) : State :=
  match (s.portal p).jog with
  | some j =>
    if j.ending then s
    else
      let s := s.modPortal p fun x => { x with jog := some { j with ending := true } }
      let s := s.abortJogTunes p
      let l : LeafId := ⟨j.kind.val % 2, by omega⟩
      if j.kind = 2 then s.stepStopPoint p else if s.pneumatic p then s.setValves p l false false else s.leafStopHold p l
  | none => s

/-- The lock jog ends: the lock channel turns OFF (R93). -/
def State.endLockJog (s : State) (p : PortalId) : State :=
  if (s.portal p).lockJog.isSome then (s.modPortal p fun x => { x with lockJog := none }).setLock p false else s

/-- Every jog of a portal ends. -/
def State.endJogs (s : State) (p : PortalId) : State := (s.endUnitJog p).endLockJog p

/-- The jogged unit is STILL. -/
def State.jogStill (s : State) (p : PortalId) (k : Fin 3) : Bool :=
  if k = 2 then decide ((s.stepOf p).v = 0) && s.stepStill p
  else
    let l : LeafId := ⟨k.val % 2, by omega⟩
    s.leafStill p l && (s.pneumatic p || decide ((s.leaf p l).vCmd = 0))

/-- What is not jogged in JOG, once it has come to rest (R105, R198): the step is "Stopped"; a leaf holds when JOG was entered from OPEN and is OFF
when it was entered from LOCKED. -/
def State.jogOthers (s : State) (p : PortalId) : State :=
  let kind := (s.portal p).jog.map (·.kind)
  let s := if s.stepFitted p ∧ kind ≠ some 2 ∧ (s.stepOf p).drive = .moving ∧ (s.stepOf p).v = 0 then s.setStep p (s.stoppedDrive p) else s
  foldState (s.leaves p) (fun l t =>
    if t.pneumatic p ∨ (t.portal p).jogFromOpen ∨ kind = some ⟨l.val, by omega⟩ ∨ (t.leaf p l).vCmd ≠ 0 then t else t.leafOff p l) s

/-- Nothing that a jog has moved still moves. -/
def State.jogRest (s : State) (p : PortalId) : Bool :=
  ((s.leaves p).all fun l => s.pneumatic p || decide ((s.leaf p l).vCmd = 0)) && (!s.stepFitted p || decide ((s.stepOf p).v = 0))

/-- JOG at an evaluation: SE0, SE1, OBS or a declaration stops the jog; the portal leaves JOG when no jog runs and the unit is STILL
(R93). They stop the jog of the unit; a lock jog moves no leaf and runs on (log 30, DESIGN CHOICE). -/
def State.jogStep (s : State) (p : PortalId) : State :=
  if (s.portal p).state ≠ .jog then s
  else
    let s := (match s.obstacle p true false with
      | some k =>
        let starts := match (s.portal p).jog with
          | some j => !j.ending
          | none => false
        if starts && decide (2 ≤ k) then (s.edgeClamp p).endUnitJog p else s.endUnitJog p
      | none => s).clearDeclared p
    let s := match (s.portal p).jog with
      | some j =>
        if j.ending && s.jogStill p j.kind then
          let s := s.modPortal p fun x => { x with jog := none }
          if j.kind = 2 then s.stepJogEnded p else s
        else s
      | none => s
    let x := s.portal p
    if x.jog.isNone ∧ x.lockJog.isNone ∧ s.jogRest p then (s.resting p).jogLeft p else s.jogOthers p

/-- Drive the jogged unit at the commanded speed (R93, R126, R217); a valve has one speed (R95; log 30). -/
def State.driveJog (s : State) (p : PortalId) (k : Fin 3) (speed : Int) : State :=
  let s := s.modPortal p fun x => { x with jog := some ⟨k, speed, s.ts, false⟩ }
  if k = 2 then
    let s := s.modStep p fun x => { x with jogSpeed := speed }
    if speed = 0 then s.stepStopPoint p
    else
      let s := (s.setStep p .moving).modStep p fun x => { x with job := 3 }
      if (s.stepOf p).uncertain ∧ (s.stepOf p).homeInput ∧ speed < 0 then s.stepStopPoint p
      else if (s.stepOf p).uncertain then
        s.modStep p fun x => { x with phiT := if 0 < speed then x.phi + 0x40000000#32 else x.phi - 0x40000000#32 }
      else s.modStep p fun x => { x with phiT := s.phiTarget p (if 0 < speed then s.par 0x5001 (uStep p) else 0) }
  else
    let l : LeafId := ⟨k.val % 2, by omega⟩
    if s.pneumatic p then s.setValves p l (decide (0 < speed)) (decide (speed < 0)) else
    let s := s.leafWant p l .position
    if speed = 0 then s.leafStopHold p l else s.leafTarget p l (if 0 < speed then s.openPos p l else 0)

/-- Enter JOG (R76, R93, R105): the leaf that is not jogged holds when JOG is entered from OPEN and is OFF when from LOCKED. -/
def State.enterJog (s : State) (p : PortalId) : State :=
  if (s.portal p).state = .jog then s
  else
    let fromOpen := decide ((s.portal p).state = .open)
    let s := s.modPortal p fun x => { x with jogFromOpen := fromOpen }
    let s := (s.enter p .jog).setLock p false
    let s := ((s.latchAll p).notClean p).motionStart p
    let s := if s.stepFitted p then s.setStep p (s.stoppedDrive p) else s
    foldState (s.leaves p) (fun l t => if t.pneumatic p then t.setValves p l false false
      else if fromOpen then (t.leafWant p l .position).leafHold p l else t.leafOff p l) s

/-! ## The safe stop of R456 -/

/-- A portal makes a safe stop. -/
def State.safeStopPortal (s : State) (p : PortalId) : State :=
  if !s.present p then s
  else
    let s := s.endJogs p
    let s := foldState (s.leaves p) (fun l t => match (t.leaf p l).drive with
      | .position => t.leafStopHold p l
      | .creep => (t.modulate p l .position).leafStopHold p l
      | _ => t) s
    if s.stepFitted p then s.stepStopPoint p else s

/-- The safe stop begins (R456). -/
def State.safeStop (s : State) : State :=
  let s := { s with wdg := { s.wdg with stopSince := some s.ts } }
  if s.mode.runs then foldState allPortals (fun p t => t.safeStopPortal p) s else s

/-- Move a frozen timer on by the time that it stood. -/
def shiftTimer (n : Nat) (t : Option Ts) : Option Ts := t.map (· + BitVec.ofNat 56 n)

/-- Leaves and step of a portal start again from standstill in their present state (R62, R456). -/
def State.restart (s : State) (p : PortalId) : State :=
  let x := s.portal p
  if !s.present p ∨ !s.mode.runs then s
  else match x.state with
    | .opening => if x.stopPartial ∨ x.pause.isSome then s else s.leafOutputs p .opening
    | .closing | .reopening => if x.stopPartial then s else s.leafOutputs p x.state
    | .stepDeploy => s.stepTask p true
    | .stepStow => s.stepTask p false
    | _ => s

/-- The safe stop ends: frozen timers continue, leaves and step start again from standstill (R456). -/
def State.resume (s : State) : State :=
  match s.wdg.stopSince with
  | none => s
  | some t0 =>
    let n := s.ts.since t0
    let s := { s with wdg := { s.wdg with stopSince := none } }
    foldState allPortals (fun p t =>
      let t := t.modPortal p fun x => { x with timer := shiftTimer n x.timer, warn := shiftTimer n x.warn, dwell := shiftTimer n x.dwell,
                                               pause := shiftTimer n x.pause }
      t.restart p) s

/-! ## Timeouts and completions (R76, R77) -/

/-- The timeout of a transition state: its place in 0x1020–0x1026 (R77, R97). -/
def timeoutOf : PState → Option Nat
  | .stepDeploy => some 0 | .unlocking => some 1 | .opening => some 2 | .closing => some 3 | .locking => some 4
  | .stepStow => some 5 | .reopening => some 6 | _ => none

/-- The timeout of the state has passed (R77). -/
def State.stateTimedOut (s : State) (p : PortalId) : Bool :=
  match timeoutOf (s.portal p).state with
  | some k => s.timedOut p k (s.portal p).timer
  | none => false

/-- Step 7 of R92: the timeout of a transition state (R77). -/
def State.timeoutStep (s : State) (p : PortalId) : State :=
  let st := (s.portal p).state
  if s.stateTimedOut p then (if st = .closing then s.reopen p 7 else s.fenceNow p 0x01 (uPortal p) st.code) else s

/-- The end of the close warning (R79). -/
def State.warnStep (s : State) (p : PortalId) : State :=
  let x := s.portal p
  if x.state = .open ∧ s.ran x.warn (ms (s.parN 0x1040 (uPortal p))) ∧ s.closeIntent p then s.enterClosing p false else s

/-- The end of the reclose dwell (R81). -/
def State.dwellStep (s : State) (p : PortalId) : State :=
  let x := s.portal p
  if x.state = .open ∧ s.ran x.dwell (ms (s.parN 0x1042 (uPortal p))) ∧ s.closeIntent p then s.enterClosing p true else s

/-- The end of the opening obstacle pause (R82): opening resumes. -/
def State.pauseStep (s : State) (p : PortalId) : State :=
  let x := s.portal p
  if x.state = .opening ∧ s.ran x.pause (ms (s.parN 0x1043 (uPortal p))) ∧ !x.stopPartial then
    (s.modPortal p fun y => { y with pause := none }).leafOutputs p .opening
  else s

/-- LOCKED is entered from LOCKING or STEP_STOW once the LOCKED condition has held for LOCK_SETTLE (R72, R76). -/
def State.lockedStep (s : State) (p : PortalId) : State :=
  match (s.portal p).state with
  | .locking => if !s.stepFitted p ∧ s.lkLocked p ∧ s.settled p then s.enterLocked p else s
  | .stepStow => if s.settled p ∧ s.stw p ∧ s.stepStill p then s.enterLocked p else s
  | _ => s

/-- Every present leaf has come to rest. -/
def State.leavesRest (s : State) (p : PortalId) : Bool :=
  (s.leaves p).all fun l => s.leafStill p l && (s.pneumatic p || decide ((s.leaf p l).vCmd = 0))

/-- Step 8 of R92: the completion conditions of transition states (R71, R72, R76, R81, R82). -/
def State.completeStep (s : State) (p : PortalId) : State :=
  let x := s.portal p
  match x.state with
  | .stepDeploy =>
    let y := s.stepOf p
    if y.drive = .moving ∧ y.job = 1 ∧ y.phi = y.phiT ∧ y.v = 0 ∧ s.stepStill p then s.enter p .unlocking else s
  | .unlocking => if s.lkUnlocked p then s.enter p .opening else s
  | .opening =>
    if x.stopPartial then (if s.leavesRest p then s.enterOpen p true else s)
    else if x.pause.isNone ∧ (s.leaves p).all (fun l => s.near p l (s.openPos p l) && s.leafStill p l) then s.enterOpen p false
    else s
  | .reopening =>
    let reached := (s.leaves p).all fun l => s.near p l (if x.reopenFull then s.openPos p l else x.reopen[l]) && s.leafStill p l
    let full := x.reopenFull || (s.leaves p).all fun l => decide (x.reopen[l] = s.openPos p l)
    if (x.stopPartial ∧ s.leavesRest p) ∨ (!x.stopPartial ∧ reached) then
      let s := s.enterOpen p (x.stopPartial || !full)
      if s.closeIntent p then (s.modPortal p fun y => { y with closePending := true, dwell := some s.ts }).setWarn p true else s
    else s
  | .closing => if s.inWindow p ∧ s.closedContacts p ∧ !s.se0 p ∧ !(s.twoLeaves p && s.se1 p) ∧ !s.obs p then s.enter p .locking else s
  | .locking => if s.lkLocked p ∧ s.stepFitted p then s.enter p .stepStow else s.lockedStep p
  | .stepStow => s.lockedStep p
  | _ => s

/-! ## Isolation, handle, LOCKED lost (R74, R87, R88) -/

/-- The switch has returned with the portal not locked: fenced with cause 0x0F (R88). -/
def State.fenceOut (s : State) (p : PortalId) : State :=
  let s := s.raiseAt (pdDie p) (8 + p.val) 0x020F (uPortal p) 0
  (s.modPortal p fun x => { x with causes := x.causes ||| (1#32 <<< 0x0F), fenceCause := 0x0F }).enterFenced p

/-- Step 1 of R92 (R88); the return to LOCKED is a transition of R76, which the safe stop of R456 suspends. -/
def State.isoStep (s : State) (p : PortalId) (susp : Bool) : State :=
  let st := (s.portal p).state
  if s.isActive p then (if st = .isolated then s else s.halted p .isolated 4)
  else if st = .isolated then
    if s.causePending p then
      let s := s.enterKept p
      if s.settled p then s else s.fenceNow p 0x0F (uPortal p) 0
    else if s.settled p then (if susp then s else s.enterLocked p)
    else s.fenceOut p
  else s

/-- Step 2 of R92 (R87). -/
def State.ehStep (s : State) (p : PortalId) : State :=
  let st := (s.portal p).state
  if s.ehActive p ∧ st ≠ .isolated ∧ st ≠ .emergency ∧ st ≠ .absent then s.halted p .emergency 3 else s

/-- A cause kept while the sequencer did not run acts, and step 4 of R92 (R74): the loss of the LOCKED condition in LOCKED. -/
def State.causeStep (s : State) (p : PortalId) : State :=
  let x := s.portal p
  let s := if x.pendingCause ≠ 0 ∧ x.state ≠ .isolated ∧ x.state ≠ .emergency ∧ x.state ≠ .fenced then s.enterKept p else s
  if (s.portal p).state ≠ .locked then s
  else
    let s' := if s.lkLocked p then s else s.fenceNow p 0x0C (uPortal p) 0
    let s' := if s.closedContacts p && s.inWindow p then s' else s'.fenceNow p 0x0D (uPortal p) 0
    if s.stepFitted p && !s.stw p then s'.fenceNow p 0x0E (uPortal p) 0 else s'

/-- Step 6 of R92 (R79): zero speed lost in OPEN begins CLOSING at once; during a reclose dwell it cuts the dwell short and
counts the reclose (log 92, DESIGN CHOICE). -/
def State.zsStep (s : State) (p : PortalId) : State :=
  let x := s.portal p
  if x.state = .open ∧ !s.zsConfirmed ∧ !x.closeFailed then s.enterClosing p x.dwell.isSome else s

/-- Follow the stall of pneumatic leaves (R95) and their cushion. -/
def State.pneuStep (s : State) (p : PortalId) : State :=
  if !s.pneumatic p then s
  else foldState (s.leaves p) (fun l t =>
    let st := (t.portal p).state
    let slow := st = .closing && decide (|t.vObs p l| < (t.par 0x1014 (uLeaf p l) : Rat)) && !t.near p l 0
    let t := t.modLeaf p l fun x => { x with stallSince := if slow then (if x.stallSince.isSome then x.stallSince else some t.ts) else none }
    let tgt := if st = .opening ∨ (t.portal p).reopenFull then t.openPos p l else (t.portal p).reopen[l]
    let lim := if tgt = t.openPos p l then tgt - t.par 0x1013 (uLeaf p l) else tgt
    if (st = .opening ∨ st = .reopening) ∧ (lim : Rat) ≤ t.xObs p l then t.setValves p l false false else t) s

end Sys2Proof.Machine
end

