-- ==== Sys2Proof/Machine/Checks.lean ====
section
/-! DEFINITION. The consistency check of R61 with R130, R147, R188, R222, R250, R285 and R319, and resource ownership (R62, R63, R95, R244–R246).
A check is a list of (PID, holds) in the order of R61; the first condition that does not hold names its PID. -/

namespace Sys2Proof.Machine

/-! ## Conditions -/

/-- One PID set for each of several units. -/
def View.setFor (v : View) (us : List Nat) (pid : Nat) : List (Nat × Bool) := us.map fun u => (pid, v.isSet pid u)

/-- Several PIDs set, the units of one PID in ascending order. -/
def View.setAll (v : View) (us : List Nat) (pids : List Nat) : List (Nat × Bool) := pids.flatMap fun q => v.setFor us q

/-- The present leaves of a portal. -/
def View.leaves (v : View) (p : PortalId) : List LeafId := if v.twoLeaves p then [0, 1] else [0]

/-- An unsigned value. -/
def View.n (v : View) (pid unit : Nat) : Nat := (v.val pid unit).toNat

/-! ## The list of R61 -/

/-- The conditions of R61 itself. -/
def View.check61 (v : View) (p : PortalId) : List (Nat × Bool) :=
  let u := uPortal p
  let ls := v.leaves p
  let lu := ls.map (uLeaf p)
  let maxima := [0x1031, 0x1032, 0x1033, 0x1034, 0x1036]
  let stepMaxima := if v.stepFitted p then [0x1030, 0x1035, 0x1037] else []
  let order := (List.range 8).map (0x1030 + ·)
  [(0x1001, (v.names 0x1001 u).isSome)]
  ++ v.setAll [u] ([0x1044, 0x1046] ++ order.filter fun q => maxima.contains q || stepMaxima.contains q)
  ++ v.setFor lu 0x1011
  ++ lu.map (fun x => (0x1010, decide (2 * v.val 0x1011 x < v.raw 0x1010 x)))
  ++ ls.map (fun l => (0x6000, decide (v.val 0x6000 (uFb p (fbOfLeaf l)) ≠ 0)))
  ++ (if v.pneumatic p then v.setAll [u] ([0x1004, 0x1005] ++ if v.twoLeaves p then [0x1006, 0x1007] else []) else [])

/-! ## Leaf drives (R130) -/

/-- HALL_MAP is valid: codes 0 and 7 map to 0xF, codes 1–6 to the sectors 0–5, each once (R130). -/
def hallMapOk (m : Nat) : Bool :=
  let f := fun (k : Nat) => m / 16 ^ k % 16
  decide (f 0 = 15) && decide (f 7 = 15) && (List.range 6).all fun s => ([1, 2, 3, 4, 5, 6].filter fun k => f k = s).length = 1

/-- The positions of the tables of several leaves are non-decreasing (R124): an entry that lies below the one before it is named. -/
def View.tableOk (v : View) (us : List Nat) (first : Nat) : List (Nat × Bool) :=
  (List.range 7).flatMap fun k => us.map fun x => (first + k + 1, decide (v.val (first + k) x ≤ v.val (first + k + 1) x))

/-- The conditions of R130 on the present leaves. -/
def View.check130 (v : View) (p : PortalId) : List (Nat × Bool) :=
  let u := uPortal p
  let lu := (v.leaves p).map (uLeaf p)
  let pmsm := lu.filter fun x => v.val 0x2000 x = 1
  let bdc := lu.filter fun x => v.val 0x2000 x = 2
  let each := fun (q : Nat) (f : Nat → Bool) => lu.map fun x => (q, f x)
  let tab := fun (first vmax : Nat) => (List.range 8).flatMap fun k => each (first + k) fun x => decide (v.val (first + k) x ≤ v.val vmax x)
  let src := fun (l : List Nat) => pmsm.filter fun x => l.contains (v.n 0x2001 x)
  each 0x2000 (fun x => decide (v.val 0x2000 x ≠ 0))
  ++ v.setAll lu [0x2011, 0x2022, 0x2028, 0x2030, 0x2021]
  ++ [(0x2020, decide (v.val 0x2020 u ≠ 0))]
  ++ v.setAll [u] [0x2023, 0x2024, 0x2025, 0x2026, 0x2027]
  ++ each 0x2020 (fun x => decide (40 * v.val 0x2021 x ≤ v.val 0x2020 u))
  ++ [(0x2020, decide (20 * v.val 0x2023 u ≤ v.val 0x2020 u))]
  ++ each 0x2030 (fun x => decide (10 * v.val 0x2030 x ≤ 9 * v.val 0x2028 x))
  ++ each 0x2028 (fun x => decide (10 * v.val 0x2028 x ≤ 9 * v.val 0x2022 x))
  ++ [(0x2026, decide (v.val 0x2026 u < v.val 0x2025 u)), (0x2025, decide (v.val 0x2025 u < v.val 0x2027 u)),
      (0x2027, decide (10 * v.val 0x2027 u ≤ 9 * v.val 0x2024 u))]
  ++ each 0x2011 (fun x => decide (10 * v.val 0x2011 x * v.val 0x2010 x ≤ 1000000000))
  ++ v.tableOk lu 0x2040 ++ v.tableOk lu 0x2050 ++ tab 0x2048 0x2069 ++ tab 0x2058 0x206A
  ++ v.setAll lu [0x2060, 0x2061, 0x2062, 0x2063, 0x2064, 0x2066, 0x2068, 0x2069, 0x206A, 0x2032, 0x2031]
  ++ v.setAll pmsm [0x2002, 0x2001]
  ++ (src [0, 1]).map (fun x => (0x2005, hallMapOk (v.raw 0x2005 x).toNat))
  ++ v.setAll (src [1, 2]) [0x2003]
  ++ v.setAll (src [2]) [0x2006, 0x2007]
  ++ v.setAll bdc [0x2033]
  ++ bdc.map (fun x => (0x2034, decide (v.val 0x2034 x < v.val 0x2035 x)))
  ++ bdc.map (fun x => (0x2020, decide (10 * v.val 0x2033 x * v.val 0x2021 x ≤ 1000 * v.val 0x2020 u)))

/-! ## Slots (R147) -/

/-- The slots that a leaf's mode uses (R147). -/
def View.usedSlots (v : View) (p : PortalId) (l : LeafId) : List SlotId :=
  (if v.val 0x2000 (uLeaf p l) = 2 then [2, 3] else [0, 1, 2, 3]).map fun (j : Fin 4) => leafSlot p l j

/-- The conditions of R147: slots in AUTO (a slot that is not names its SLOT_STATUS), and their parameters. -/
def State.check147 (s : State) (v : View) (p : PortalId) : List (Nat × Bool) :=
  let d := pdOf p
  let u := uEngine d
  let ns := (v.leaves p).flatMap (v.usedSlots p)
  let q := fun (f : Nat) (n : SlotId) => 0x3000 + 0x40 * f + n.val
  ns.map (fun n => (q 0 n, decide ((s.slot d n).mode = .closed)))
  ++ ns.map (fun n => (q 2 n, v.isSet (q 2 n) u))
  ++ ns.map (fun n => (q 15 n, decide (v.raw (q 15 n) u < v.raw (q 16 n) u)))
  ++ ns.map (fun n => (q 13 n, decide (v.raw (q 13 n) u ≤ v.raw (q 14 n) u)))
  ++ ns.map (fun n => (q 17 n, v.isSet (q 17 n) u))

/-- Every slot that a leaf of the portal uses is in AUTO (R147). -/
def State.slotsAuto (s : State) (p : PortalId) : Bool :=
  s.pneumatic p || (s.leaves p).all fun l => (s.view.usedSlots p l).all fun n => decide ((s.slot (pdOf p) n).mode = .closed)

/-! ## Obstacles and fences (R188) -/

/-- The conditions of R188. -/
def View.check188 (v : View) (p : PortalId) : List (Nat × Bool) :=
  let ls := v.leaves p
  let lu := ls.map (uLeaf p)
  let each := fun (q : Nat) (f : Nat → Bool) => lu.map fun x => (q, f x)
  let learn := lu.filter fun x => v.val 0x401B x = 1
  let kg := fun (x : Nat) => v.val 0x4000 x * v.val 0x4001 x
  let r := fun (x : Nat) => v.val 0x4002 x
  v.setAll lu [0x4003, 0x4005]
  ++ ls.map (fun l => (0x6003, decide (100 ≤ v.raw 0x6003 (uFb p (fbOfLeaf l)))))
  ++ each 0x4011 (fun x => decide (v.val 0x4011 x ≤ v.val 0x4005 x))
  ++ (if v.pneumatic p then [] else
      v.setAll lu [0x4000, 0x4001, 0x4002, 0x4004, 0x4007, 0x4012, 0x4013, 0x4014]
      ++ [0x4012, 0x4013, 0x4014].flatMap (fun q => each q fun x => decide (v.val q x ≤ v.val 0x4007 x))
      ++ each 0x4010 (fun x => decide (v.val 0x4010 x ≤ v.val 0x4004 x))
      ++ each 0x4004 (fun x => decide (1000 * (v.val 0x4004 x + v.val 0x4006 x) * r x ≤ v.val 0x2030 x * kg x))
      ++ [0x2032, 0x2031].flatMap (fun q => each q fun x => decide (v.val q x * kg x ≤ 1000 * v.val 0x4004 x * r x)))
  ++ v.setAll learn [0x4018]
  ++ learn.map (fun x => (0x4019, decide (v.val 0x4019 x ≤ v.val 0x4006 x)))
  ++ learn.map (fun x => (0x401A, decide (v.val 0x401A x ≤ v.val 0x4006 x)))

/-! ## Step drive (R222) -/

/-- The resolution of the band in which a speed lies (R204). -/
def View.bandRes (v : View) (u : Nat) (x : Int) : Int :=
  if x < v.val 0x5018 u then 256 else if x < v.val 0x5019 u then 64 else if x < v.val 0x501A u then 16
  else if x < v.val 0x501B u then 4 else 1

/-- The conditions of R222; its last row is judged with the ownership of R245. -/
def View.check222 (v : View) (p : PortalId) : List (Nat × Bool) :=
  let u := uStep p
  let x := fun (q : Nat) => v.val q u
  let below := fun (q : Nat) => (q, decide (100 * x q < x 0x5018 * (100 - x 0x501C)))
  v.setAll [u] [0x5000, 0x5001, 0x5002, 0x5003, 0x5004, 0x5005, 0x5006, 0x5010, 0x5011, 0x5012, 0x5013, 0x5014, 0x5015, 0x5016, 0x5017,
    0x5018, 0x5019, 0x501A, 0x501B, 0x5025, 0x5027, 0x5030, 0x5032, 0x5034, 0x5035]
  ++ [(0x5002, decide (x 0x5002 ≠ 0)), (0x5002, decide (20 * x 0x5003 ≤ x 0x5002)),
      (0x5006, decide (10 * x 0x5006 ≤ 9 * x 0x5005)), (0x5007, decide (10 * x 0x5007 ≤ 9 * x 0x5005)),
      (0x5005, decide (10 * x 0x5005 ≤ 9 * x 0x5004)),
      (0x5010, decide (x 0x5010 ≤ x 0x5012)), (0x5011, decide (x 0x5011 ≤ x 0x5012)), (0x5012, decide (x 0x5012 ≤ x 0x5013)),
      (0x5018, decide (x 0x5018 < x 0x5019)), (0x5019, decide (x 0x5019 < x 0x501A)), (0x501A, decide (x 0x501A < x 0x501B)),
      (0x5018, decide (x 0x5018 * 256 ≤ 200000)), (0x5019, decide (x 0x5019 * 64 ≤ 200000)),
      (0x501A, decide (x 0x501A * 16 ≤ 200000)), (0x501B, decide (x 0x501B * 4 ≤ 200000)),
      (0x5013, decide (x 0x5013 * v.bandRes u (x 0x5013) ≤ 200000)),
      below 0x5010, below 0x5011, below 0x5032]
  ++ (if x 0x5020 = 0 then [] else v.setAll [u] [0x5022, 0x5023] ++ [(0x5023, decide (x 0x5023 < x 0x5022))])
  ++ (if v.val 0x6000 (uFb p 2) = 0 then [] else v.setAll [u] [0x5036])

/-! ## Feedback (R250) -/

/-- The conditions of R250; its last row is judged with the ownership of R245. -/
def View.check250 (v : View) (p : PortalId) : List (Nat × Bool) :=
  let ty := fun (f : FbId) => v.val 0x6000 (uFb p f)
  let fs := ([0, 1, 2] : List FbId).filter fun f => v.fbPresent p f && decide (ty f ≠ 0)
  let of := fun (l : List FbId) => l.map (uFb p)
  let ls := fs.filter fun f => f.val < 2
  let ssi := fs.filter fun f => ty f = 5
  let quad := fs.filter fun f => ty f = 1 ∨ ty f = 2 ∨ ty f = 3
  let hall := fs.filter fun f => ty f = 4 ∨ ty f = 5
  let u := uPortal p
  let src := v.names 0x6030 u
  v.setAll (of fs) [0x6001, 0x6003, 0x6004, 0x6005]
  ++ (of ls).map (fun x => (0x6003, decide (100 ≤ v.val 0x6003 x)))
  ++ ls.map (fun f => (0x6006, decide (ty f = 5 ∨ v.val 0x6006 (uFb p f) = 1 ∨ v.val 0x6010 (uFb p f) ≠ 0)))
  ++ ([0x2069, 0x206A].flatMap fun q => ls.map fun f =>
      (q, decide (v.val q (uLeaf p ⟨f.val % 2, by omega⟩) * 1000000 ≤ 10000000 * v.val 0x6001 (uFb p f))))
  ++ (of quad).map (fun x => (0x6010, decide (v.val 0x6010 x = 0 ∨ v.val 0x6013 x = 0)))
  ++ (of hall).map (fun x => (0x6010, decide (v.val 0x6010 x = 0)))
  ++ (of hall).map (fun x => (0x6013, decide (v.val 0x6013 x = 0)))
  ++ v.setAll (of ssi) [0x6020, 0x6022, 0x6023, 0x6024, 0x6026]
  ++ (of ssi).map (fun x => (0x6020, decide ((v.val 0x6020 x + 1) * 1000 + v.val 0x6023 x * v.val 0x6022 x ≤ 45 * v.val 0x6022 x)))
  ++ (match src with
      | none => []
      | some k =>
        [(0x6030, (([0, 1, 2] : List FbId).any fun f => f.val = k && v.fbPresent p f)),
         (0x6031, decide (v.val 0x6031 u ≤ v.val 0x6032 u)),
         (0x6033, decide (v.raw 0x6033 u ≠ v.raw 0x6034 u)),
         (0x6035, v.isSet 0x6035 u)])

/-! ## Channels (R285) -/

/-- The conditions of R285. -/
def State.check285 (s : State) (v : View) (p : PortalId) : List (Nat × Bool) :=
  let cs := (List.finRange 8).map (uChan p)
  let mode := fun (x : Nat) => v.val 0x7000 x
  let inMode := fun (l : List Int) => cs.filter fun x => l.contains (mode x)
  let named := fun (q : Nat) => match v.names q (uPortal p) with
    | some k => [0x1030 + 0x100 * p.val + k]
    | none => []
  let outs := (List.finRange 64).filterMap fun n =>
    let io := (v.raw (0x3500 + n.val) (uEngine (pdOf p))).toNat
    if 32 ≤ n.val ∧ (s.slot (pdOf p) n).mode ≠ .disabled ∧ v.names (0x34C0 + n.val) (uEngine (pdOf p)) = some p.val ∧ io / 256 % 16 = 1 then
      some (0x1030 + 0x100 * p.val + io / 4096 % 16) else none
  v.setFor (cs.filter fun x => mode x ≠ 0) 0x7001
  ++ v.setFor (cs.filter fun x => mode x ≠ 0 ∧ 0 < v.val 0x700B x) 0x700C
  ++ v.setFor (inMode [2, 3, 4]) 0x7003
  ++ (inMode [3]).map (fun x => (0x7005, decide (v.val 0x7005 x ≠ 0)))
  ++ v.setAll (inMode [4]) [0x7006, 0x7007]
  ++ v.setAll (inMode [5]) [0x7008, 0x7009]
  ++ (cs.filter fun x => v.val 0x7002 x ≠ 0).map (fun x => (0x7000, decide (mode x ≠ 0)))
  ++ (named 0x1001).map (fun x => (0x7000, decide (mode x = 1 ∨ mode x = 4)))
  ++ (named 0x1001).map (fun x => (0x7002, decide (v.val 0x7002 x ≠ 1)))
  ++ (if v.pneumatic p then
      ([0x1004, 0x1005] ++ if v.twoLeaves p then [0x1006, 0x1007] else []).flatMap fun q => (named q).map fun x => (0x7000, decide (mode x = 4))
      else [])
  ++ outs.map (fun x => (0x7000, decide (mode x = 2)))

/-! ## Safety inputs (R319) -/

/-- The portal conditions of R319. -/
def View.check319 (v : View) (p : PortalId) : List (Nat × Bool) :=
  let u := uPortal p
  v.setAll [u] [0x8002, 0x8004, 0x8005]
  ++ (v.leaves p).map (fun l => (0x8005, decide (v.val 0x1011 (uLeaf p l) < v.val 0x8005 u)))
  ++ (if v.val 0x8001 u ≠ 0 then v.setFor [u] 0x8003 else [])
  ++ (if v.stepFitted p then v.setFor [u] 0x8006 else [])

/-- Every condition of the consistency check of a portal, in the order of R61. -/
def State.checkList (s : State) (v : View) (p : PortalId) : List (Nat × Bool) :=
  v.check61 p
  ++ (if v.pneumatic p then [] else v.check130 p ++ s.check147 v p)
  ++ v.check188 p
  ++ (if v.stepFitted p then v.check222 p else [])
  ++ v.check250 p ++ s.check285 v p ++ v.check319 p

/-- The consistency check of a portal: the first PID that fails; an absent portal is not checked (R61). -/
def State.checkPortal (s : State) (v : View) (p : PortalId) : Option Nat :=
  if v.present p then ((s.checkList v p).find? fun c => !c.2).map (·.1) else none

/-- The consistency check of the device: the first portal and PID that fail (R61). -/
def State.checkAll (s : State) (v : View) : Option (PortalId × Nat) :=
  allPortals.findSome? fun p => (s.checkPortal v p).map fun q => (p, q)

/-! ## Ownership of the resources of a portal (R63, R244) -/

/-- An owner: its PID and its unit. -/
abbrev Owner := Nat × Nat

/-- The owners of AUXp[k], in the order of the table of R244. -/
def View.auxOwners (v : View) (p : PortalId) (k : Nat) : List Owner :=
  (if v.stepFitted p ∧ v.names 0x5030 (uStep p) = some k then [(0x5030, uStep p)] else [])
  ++ (([0, 1, 2] : List FbId).flatMap fun f =>
      if v.val 0x6000 (uFb p f) = 5 ∧ v.names 0x6024 (uFb p f) = some k then [(0x6024, uFb p f)] else [])
  ++ (if (v.names 0x6030 (uPortal p)).isSome then
      [0x6033, 0x6034].flatMap fun q => if v.names q (uPortal p) = some k then [(q, uPortal p)] else []
      else [])

/-- The owners of the auxiliary timer of a portal. -/
def View.timerOwners (v : View) (p : PortalId) : List Owner :=
  (if v.stepFitted p ∧ v.val 0x5020 (uStep p) ≠ 0 then [(0x5020, uStep p)] else [])
  ++ (if (v.names 0x6030 (uPortal p)).isSome then [(0x6030, uPortal p)] else [])

/-- The owners of GPIn. -/
def View.gpiOwners (v : View) (n : Nat) : List Owner :=
  allPortals.flatMap fun p => if v.names 0x1003 (uPortal p) = some n then [(0x1003, uPortal p)] else []

/-- The owners of a load channel: its roles, and the slots that have it as their output (R63, R135). -/
def State.chanOwners (s : State) (v : View) (p : PortalId) (c : Nat) : List Owner :=
  let roles := [0x1001, 0x1002] ++ (if v.pneumatic p then [0x1004, 0x1005, 0x1006, 0x1007] else [])
  let e := uEngine (pdOf p)
  (roles.flatMap fun q => if v.names q (uPortal p) = some c then [(q, uPortal p)] else [])
  ++ ((List.finRange 64).flatMap fun n =>
      let io := (v.raw (0x3500 + n.val) e).toNat
      if 32 ≤ n.val ∧ (s.slot (pdOf p) n).mode ≠ .disabled ∧ v.names (0x34C0 + n.val) e = some p.val ∧ io / 256 % 16 = 1 ∧ io / 4096 % 16 = c
      then [(0x3500 + n.val, e)] else [])

/-- The resources of the portals with their owners, in the order of R244: resource word, portals concerned, owners. -/
def State.portalResources (s : State) (v : View) : List (Nat × List Owner) :=
  (allPortals.flatMap fun p => (List.range 4).map fun k => (0x1000 + 256 * p.val + k, v.auxOwners p k))
  ++ (allPortals.map fun p => (0x2000 + 256 * p.val, v.timerOwners p))
  ++ ((List.range 10).map fun n => (0x3000 + n, v.gpiOwners n))
  ++ (allPortals.flatMap fun p => (List.range 8).map fun c => (0x4000 + 256 * p.val + c, s.chanOwners v p c))

/-- The portal that an owner of a portal resource belongs to, engines apart. -/
def ownerPortal (res : Nat) (o : Owner) : Nat := if o.2 / 4096 = 1 then o.2 / 256 % 16 else res / 256 % 16

/-- A conflict of R245 that concerns a portal: the PID of its first owner there. -/
def State.conflictOf (s : State) (v : View) (p : PortalId) : Option Nat :=
  (s.portalResources v).findSome? fun r =>
    if 2 ≤ r.2.length then (r.2.find? fun o => ownerPortal r.1 o = p.val).map (·.1) else none

/-- The check that R62 makes of a portal: consistency, then ownership. -/
def State.checkFail (s : State) (p : PortalId) : Option Nat :=
  if s.present p then (match s.checkPortal s.view p with
    | some q => some q
    | none => s.conflictOf s.view p)
  else none

/-! ## CHECK_FAILED (R62) -/

/-- The run of the check in MAINTAIN: CHECK_FAILED follows it; a portal that fails takes no motion (R62). -/
def State.runCheck (s : State) (p : PortalId) : State :=
  let fail := if s.mode = .maintain then s.checkFail p else none
  let was := (s.portal p).checkFailed
  let s := s.modPortal p fun x => { x with checkFailed := fail.isSome, checkPid := fail.getD 0xFFFF }
  if fail.isSome && !was then s.safeStopPortal p else if was && fail.isNone then s.restart p else s

/-- The run of the check at every portal. -/
def State.runChecks (s : State) : State := foldState allPortals (fun p t => t.runCheck p) s

end Sys2Proof.Machine
end

