-- ==== Sys2Proof/Machine/PortalCmds.lean ====
section
/-! DEFINITION. The portal commands 0x30–0x37 (R83–R93), commands to groups (R20–R26), the flags of a portal (R98), the evaluation of R92, and
the events of the sequencer's timers. -/

namespace Sys2Proof.Machine

/-! ## What a portal reports (R67, R98) -/

/-- The state that a portal reports (R67). -/
def State.shownState (s : State) (p : PortalId) : PState :=
  if !s.present p then .absent
  else match s.mode with
    | .init | .test | .configure => .absent
    | .safe => .fenced
    | _ => (s.portal p).state

/-- FENCE_CAUSE as it is reported: 0x14 in SAFE (R67, R90). -/
def State.shownCause (s : State) (p : PortalId) : Nat :=
  if s.mode = .safe ∧ s.present p then 0x14 else (s.portal p).fenceCause

/-- PORTAL_FLAGS (R98). -/
def State.portalFlags (s : State) (p : PortalId) : Nat :=
  let x := s.portal p
  let st := s.shownState p
  bit (s.released p) + 2 * bit s.zsConfirmed + 4 * bit x.closePending + 8 * bit x.partialOpen + 16 * bit x.closeFailed
    + 32 * bit (s.stepFitted p && x.step.uncertain) + 64 * bit (s.lkLocked p) + 128 * bit (s.closedContacts p) + 256 * bit (s.inWindow p)
    + 512 * bit (s.stw p) + 1024 * bit (decide (st = .fenced) || x.closeFailed) + 2048 * bit (s.ehActive p)
    + 4096 * bit (s.isActive p) + 8192 * bit (s.se0 p || s.se1 p || s.obs p) + 16384 * bit x.checkFailed

/-! ## Addresses -/

/-- The portal of a portal address 0x1p00 (R18). -/
def portalOfUnit (u : Nat) : Option PortalId :=
  if u / 4096 = 1 ∧ u % 256 = 0 ∧ u / 256 % 16 < 8 then some ⟨u / 256 % 8, by omega⟩ else none

/-- The members of a group address: P* or a user group (R20). -/
def State.groupOf (s : State) (u : Nat) : Option (List PortalId) :=
  if u = 0x2000 then some allPortals
  else if u / 4096 = 3 ∧ u % 256 = 0 then
    let m := s.parN (0x0010 + u / 256 % 16) 0
    some (allPortals.filter fun p => m.testBit p.val)
  else none

/-- A rejection addressed to a group: the block of R24, then the detail block (R22, R444). -/
def State.groupRefuse (s : State) (h : Handle) (status included excluded failed pid unit : Nat) : State :=
  s.reply h status (groupBlock included excluded failed ++ detail pid unit)

/-! ## Judgement (R70, R84, R93, R147, R456) -/

/-- What refuses an open request: a status and the PID of the detail block. -/
def State.openRefused (s : State) (p : PortalId) : Option (Nat × Nat) :=
  if s.wdgExpired then some (stModeForbids, 0xD080)
  else match s.shownState p with
    | .absent => some (stBadUnit, 0xFFFF)
    | .fenced => some (stFenced, 0xFFFF)
    | .isolated | .emergency | .jog => some (stModeForbids, 0xFFFF)
    | _ => if s.mode.door && s.released p && s.zsConfirmed && s.slotsAuto p then none else some (stModeForbids, 0xFFFF)

/-- What refuses a close request. -/
def State.closeRefused (s : State) (p : PortalId) : Option (Nat × Nat) :=
  if s.wdgExpired then some (stModeForbids, 0xD080)
  else match s.shownState p with
    | .absent => some (stBadUnit, 0xFFFF)
    | .fenced => some (stFenced, 0xFFFF)
    | .isolated | .emergency | .jog => some (stModeForbids, 0xFFFF)
    | _ => if s.mode.door then none else some (stModeForbids, 0xFFFF)

/-- The condition that clears a fence cause (R90; of 0x03, R127 and R219 as well). -/
def State.causeCleared (s : State) (p : PortalId) (c : Nat) : Bool :=
  let x := s.portal p
  let dies : List DieId := [pdDie p, pwDie p]
  match c with
  | 0x02 => ([0, 1, 2] : List FbId).all fun f => !s.view.fbPresent p f || (decide ((s.fb p f).fault = 0) && s.elapsed (s.fb p f).clearedAt (ms 100))
  | 0x03 => (s.leaves p).all (fun l => !(s.leaf p l).gdFlt) && !x.step.fltIn
      && (!(s.leaves p).any (s.driven p) ||
        (x.sdClockOk && decide ((s.par 0x2026 (uPortal p) : Rat) ≤ x.vbus) && decide (x.vbus ≤ (s.par 0x2027 (uPortal p) : Rat))))
      && (!s.stepFitted p || x.step.clockOk)
  | 0x04 => (List.finRange 64).all (fun n => s.slotOwner (pdOf p) n ≠ some p || !(s.slot (pdOf p) n).residueErr)
      && (s.leaves p).all (fun l => !(s.leaf p l).dpBad && !(s.leaf p l).det.status.getLsbD 13)
      && !s.engines[pdOf p].testFail
  | 0x05 =>
    let r := s.pair (if p.val < 4 then 1 else 2)
    !r.recovering && (decide (r.scope = .coreOnly) || decide (r.scope = .coreCaches))
  | 0x06 => decide (x.siFault = 0)
  | 0x07 | 0x08 => dies.all fun d => decide ((s.die d).epoch = s.epoch)
  | 0x09 => dies.all fun d => !(s.die d).tsFault
  | 0x0A => dies.all fun d => !(s.die d).hubLost || s.ran (s.die d).backSince (ms 10)
  | 0x0B => (List.finRange 8).all fun c => !s.isRole p c || !s.tooHot p c
  | _ => true

/-- FENCE_CLEAR is accepted on a FENCED portal (R91, R340). -/
def State.fenceClearOk (s : State) (p : PortalId) : Bool :=
  let x := s.portal p
  let r := s.pair (if p.val < 4 then 1 else 2)
  (List.range 32).all (fun c => !x.causes.getLsbD c || s.causeCleared p c)
    && (s.leaves p).all (fun l => s.leafStill p l) && (!s.stepFitted p || s.stepStill p)
    && !s.ehActive p && !s.isActive p
    && !(r.scope = .split || r.scope = .held)

/-- Faults, trips and latches of a portal that a fence held are released (R107, R127, R219, R267, R273). -/
def State.releaseFaults (s : State) (p : PortalId) : State :=
  let was := (s.portal p).fsFenced
  -- a heartbeat that is still lost keeps its fail-safe cause (R46, R265)
  let beat := (s.portal p).fsHeartbeat && !(s.die (pwDie p)).hubLost && !(s.die (pwDie p)).pllLost
  let s := s.modPortal p fun x => { x with
    fenceCause := 0, causes := 0, pendingCause := 0, fsFenced := false, fsHeartbeat := x.fsHeartbeat && !beat }
  let s := foldState [0, 1] (fun (l : LeafId) t =>
    let t := t.modLeaf p l fun x => { x with fault := 0, aligned := false, drive := if x.drive = .tripped then .off else x.drive }
    t.syncSlots p l) s
  let s := s.modStep p fun x => { x with fault := 0, drive := if x.drive = .tripped then .off else x.drive }
  let s := foldState (List.finRange 8) (fun c t => if t.isRole p c then t.chanClear p c else t) s
  let s := if was then s.fsPortalEvent p false 4 else s
  if beat then s.fsPortalEvent p false 2 else s

/-- FENCE_CLEAR takes effect (R91): the state comes from the resting evaluation, and the FENCED flag of the DCL logic clears (R297). -/
def State.fenceCleared (s : State) (p : PortalId) : State :=
  (((s.releaseFaults p).modPortal p fun x => { x with fencedHw := false }).hostOff p |>.resting p).degrade

/-! ## Commands at the evaluation that takes them (R84, R92) -/

/-- The status and the OUTCOME of an open or a close command that a group had accepted and the member's evaluation refuses: those of the state
that has overtaken it, or of the mode that was left (R23, R85). Where a guard fails that R85 gives no OUTCOME for, its OUTCOME is the free value
`v` (log 91). -/
def State.overtaken (s : State) (p : PortalId) (v : Nat) : Nat × Nat :=
  if !s.mode.door then (stModeForbids, 7)
  else match (s.portal p).state with
    | .fenced => (stFenced, 2)
    | .emergency => (stModeForbids, 3)
    | .isolated => (stModeForbids, 4)
    | _ => (stModeForbids, v)

/-- Refuse a portal command: a host gets the detail block, a local request its event (R86), a member of a group ends with its status and the
parameters that its command gives for it (R24, R25). -/
def State.refuseCmd (s : State) (p : PortalId) (c : PCmd) (why : Nat × Nat) : State :=
  match c.ref with
  | some (.host h) => s.reply h why.1 (detail why.2 h.unit.toNat)
  | some .silent => s.raisePortal p 0x0303 (uPortal p) why.1
  | some (.group _) =>
    if c.opensOrCloses then
      let (v, s) := s.drawNat
      let o := s.overtaken p v
      s.memberFails p c o.1 o.2
    else s.memberFails p c why.1 0
  | none => s

/-- ACCEPTED for a command that the host addressed to the portal; a group has had its own (R25). -/
def State.acceptCmd (s : State) (r : CmdRef) : State :=
  match r with
  | .host h => s.reply h stAccepted []
  | _ => s

/-- An open request at an evaluation (R70, R84, R85). -/
def State.openCmd (s : State) (p : PortalId) (r : CmdRef) : State :=
  match s.openRefused p with
  | some why => s.refuseCmd p (.open r) why
  | none =>
    let closeRefs := (s.portal p).closeRefs
    let s := s.modPortal p fun x => { x with recloses := 0, closeForce := false, closeRefs := [] }
    let s := s.finishAll p closeRefs stModeForbids [1]
    if (s.portal p).state = PState.open then (s.cancelWarning p).finish p r stDone [0]
    else
      let s := (s.acceptCmd r).modPortal p fun x => { x with openForce := true, openRefs := x.openRefs ++ [r] }
      match (s.portal p).state with
      | .locked => s.beginOpening p
      | .closing => (s.modPortal p fun x => { x with reopenFull := true }).enter p .reopening
      | .reopening =>
        let s := s.modPortal p fun x => { x with reopenFull := true }
        if (s.portal p).stopPartial then s else s.leafOutputs p .reopening
      | .locking => s.enter p .unlocking
      | .stepStow => s.enter p .stepDeploy
      | _ => s

/-- A close request at an evaluation (R84, R85): the close intent acts in the same evaluation. -/
def State.closeCmd (s : State) (p : PortalId) (r : CmdRef) : State :=
  match s.closeRefused p with
  | some why => s.refuseCmd p (.close r) why
  | none =>
    let openRefs := (s.portal p).openRefs
    let s := s.modPortal p fun x => { x with openForce := false, openRefs := [] }
    let s := s.finishAll p openRefs stModeForbids [1]
    let s := s.modPortal p fun x => { x with closeFailed := false }
    if (s.portal p).state = .locked then s.finish p r stDone [0]
    else (s.acceptCmd r).modPortal p fun x => { x with closeForce := true, closeRefs := x.closeRefs ++ [r] }

/-- FENCE_CLEAR at an evaluation (R91). -/
def State.fenceClearCmd (s : State) (p : PortalId) (r : CmdRef) : State :=
  if (s.portal p).state = .fenced then
    (if s.fenceClearOk p then (s.fenceCleared p).finish p r stDone [] else s.refuseCmd p (.fenceClear r) (stFenced, 0xFFFF))
  else if s.causePending p then s.refuseCmd p (.fenceClear r) (stFenced, 0xFFFF)
  else s.finish p r stDone []

/-- EMERGENCY_RESET at an evaluation (R87): refused while the handle is active; on a portal that is not in EMERGENCY it only clears EH_LATCH
(R297). -/
def State.emergencyResetCmd (s : State) (p : PortalId) (r : CmdRef) : State :=
  if s.ehActive p then s.refuseCmd p (.emergencyReset r) (stModeForbids, 0xFFFF)
  else
    let s := s.modPortal p fun x => { x with ehLatch := false }
    (if (s.portal p).state = .emergency then s.resting p else s).finish p r stDone []

/-- JOG_STOP at an evaluation (R93): DONE once JOG is left. -/
def State.jogStopCmd (s : State) (p : PortalId) (r : CmdRef) : State :=
  if (s.portal p).state = .jog then (s.endJogs p).modPortal p fun x => { x with jogStop := x.jogStop ++ [r] }
  else s.finish p r stDone []

/-- PORTAL_FENCE (R83): DONE once the portal is FENCED; in ISOLATED and EMERGENCY, and while the sequencer does not run, the cause and
the reply wait. -/
def State.fenceCmd (s : State) (p : PortalId) (r : CmdRef) : State :=
  let s := s.fenceNow p 0x13 (uPortal p) 0
  if s.shownState p = .fenced ∧ s.mode.runs then s.finish p r stDone []
  else s.modPortal p fun x => { x with fenceWaits := x.fenceWaits ++ [r] }

/-- What refuses a jog: MODE_FORBIDS, FENCED, and the last run of the check (R62, R93, R367, R456). -/
def State.jogRefused (s : State) (p : PortalId) : Option (Nat × Nat × Nat) :=
  if s.wdgExpired then some (stModeForbids, 0xD080, 0)
  else if s.mode ≠ .maintain then some (stModeForbids, 0xFFFF, 0)
  else if (s.portal p).checkFailed then some (stModeForbids, (s.portal p).checkPid, uPortal p)
  else match (s.portal p).state with
    | .fenced => some (stFenced, 0xFFFF, 0)
    | .locked | .open | .jog => if s.claim.held then none else some (stModeForbids, 0xFFFF, 0)
    | _ => some (stModeForbids, 0xFFFF, 0)

/-- Refuse a jog. -/
def State.refuseJog (s : State) (h : Handle) (why : Nat × Nat × Nat) : State :=
  s.reply h why.1 (detail why.2.1 (if why.2.2 = 0 then h.unit.toNat else why.2.2))

/-- JOG to a leaf or the step at an evaluation (R93): while a unit jog runs, only the unit that is jogged. -/
def State.jogUnitCmd (s : State) (p : PortalId) (h : Handle) (k : Fin 3) (speed : Int) : State :=
  match s.jogRefused p with
  | some why => s.refuseJog h why
  | none =>
    let other := match (s.portal p).jog with
      | some j => !j.ending && decide (j.kind ≠ k)
      | none => false
    if (k ≠ 2 && s.lkLocked p) || other then s.refuseJog h (stModeForbids, 0xFFFF, 0)
    else ((s.enterJog p).driveJog p k speed).reply h stDone []

/-- JOG to the portal at an evaluation: the lock jog (R93). -/
def State.jogLockCmd (s : State) (p : PortalId) (h : Handle) (speed : Int) : State :=
  match s.jogRefused p with
  | some why => s.refuseJog h why
  | none =>
    let s := (s.enterJog p).modPortal p fun x => { x with lockJog := some (speed, s.ts) }
    (s.setLock p (decide (0 < speed))).reply h stDone []

/-- A command at the evaluation that takes it. A member that was fenced after a group's acceptance no longer acts on the group's command
(R23). -/
def State.takeCmd (s : State) (p : PortalId) (c : PCmd) : State :=
  if c.ofGroup ∧ (s.portal p).state = .fenced then s.memberFails p c stFenced 2
  else match c with
    | .open r => s.openCmd p r
    | .close r => s.closeCmd p r
    | .fenceClear r => s.fenceClearCmd p r
    | .emergencyReset r => s.emergencyResetCmd p r
    | .jogStop r => s.jogStopCmd p r
    | .fence r => s.fenceCmd p r
    | .jogUnit h k v => s.jogUnitCmd p h k v
    | .jogLock h v => s.jogLockCmd p h v

/-- A command while the sequencer does not run: no evaluation takes it, and its refusal or effect is that of its acceptance; an open or a close
meets the state that the portal reports (R67, R84, R87, R91). -/
def State.takeIdle (s : State) (p : PortalId) (c : PCmd) : State :=
  match c with
  | .open r => s.refuseCmd p (.open r) ((s.openRefused p).getD (stModeForbids, 0xFFFF))
  | .close r => s.refuseCmd p (.close r) ((s.closeRefused p).getD (stModeForbids, 0xFFFF))
  | .fenceClear r => s.refuseCmd p (.fenceClear r) (stModeForbids, 0xFFFF)
  | .emergencyReset r => s.refuseCmd p (.emergencyReset r) (stModeForbids, 0xFFFF)
  | .jogStop r => s.finish p r stDone []
  | .fence r => s.fenceCmd p r
  | .jogUnit h _ _ | .jogLock h _ => s.refuseJog h (stModeForbids, 0xFFFF, 0)

/-- The Hub die accepts a command for a portal (R28). -/
def State.acceptAt (s : State) (p : PortalId) (c : PCmd) : State :=
  if s.mode.runs then s.modPortal p fun x => { x with queue := x.queue ++ [c] } else s.takeIdle p c

/-! ## Acceptance (R22–R25) -/

/-- A portal command to a portal or a group. `before` says that the mode check comes before any other (R87, R91). -/
def State.portalCmd (s : State) (h : Handle) (mk : CmdRef → PCmd) (guard : State → PortalId → Option (Nat × Nat)) (long before : Bool) : State :=
  let u := h.unit.toNat
  match portalOfUnit u with
  | some p =>
    if before && !s.mode.runs then s.refuse h stModeForbids
    else if !s.present p then s.refuse h stBadUnit
    else s.acceptAt p (mk (.host h))
  | none => match s.groupOf u with
    | none => s.refuse h stBadUnit
    | some ms =>
      let out := ms.filter fun p => [PState.absent, .isolated, .fenced].contains (s.shownState p)
      let left := ms.filter fun p => !out.contains p
      let bad := left.filter fun p => (guard s p).isSome
      if ms = [] then s.groupRefuse h stBadUnit 0 0 0 0xFFFF u
      else if before && !s.mode.runs then s.groupRefuse h stModeForbids (maskOf left) (maskOf out) (maskOf left) 0xFFFF u
      else if left = [] then
        s.groupRefuse h (if out.any fun p => s.shownState p = .fenced then stFenced else stBadUnit) 0 (maskOf out) 0 0xFFFF u
      else match bad.head? with
        | some p =>
          let why := (guard s p).getD (stModeForbids, 0xFFFF)
          s.groupRefuse h why.1 (maskOf left) (maskOf out) (maskOf bad) why.2 u
        | none =>
          let id := s.nextGroup
          let g : GroupOp := ⟨id, h, BitVec.ofNat 8 (maskOf out), left.map fun p => ⟨p, false, stDone, []⟩⟩
          let s := { s with groups := s.groups ++ [g], nextGroup := id + 1 }
          let s := if long then s.reply h stAccepted (groupBlock (maskOf left) (maskOf out) 0) else s
          foldState left (fun p t => t.acceptAt p (mk (.group id))) s

/-- PORTAL_OPEN (0x30). -/
def State.portalOpen (s : State) (h : Handle) (_ps : List Byte) : State := s.portalCmd h .open State.openRefused true false

/-- PORTAL_CLOSE (0x31). -/
def State.portalClose (s : State) (h : Handle) (_ps : List Byte) : State := s.portalCmd h .close State.closeRefused true false

/-- PORTAL_STATUS (0x32): a read, answered for every valid portal address (R19, R26, R83). -/
def State.portalStatus (s : State) (h : Handle) (_ps : List Byte) : State :=
  let u := h.unit.toNat
  match portalOfUnit u with
  | some p => s.reply h stDone (le 1 (s.shownState p).code ++ le 2 (s.portalFlags p) ++ le 1 (s.shownCause p) ++ le 1 (s.portal p).recloses
      ++ leI 4 (s.fbPos p 0) ++ leI 4 (s.fbPos p 1) ++ leI 4 (s.stepPos p))
  | none => match s.groupOf u with
    | none => s.refuse h stBadUnit
    | some ms =>
      if ms = [] then s.groupRefuse h stBadUnit 0 0 0 0xFFFF u
      else
        let codes := allPortals.map fun p => if ms.contains p then (s.shownState p).code else 0
        let inc := ms.map fun p => (s.shownState p).code
        let agg := if inc.all fun c => c = inc.headD 0 then inc.headD 0 else 0xFF
        s.reply h stDone (groupBlock (maskOf ms) 0 0 ++ codes.map (BitVec.ofNat 8) ++ [BitVec.ofNat 8 agg])

/-- FENCE_CLEAR (0x33): a member with a kept cause refuses (R91). -/
def State.fenceClear (s : State) (h : Handle) (_ps : List Byte) : State :=
  s.portalCmd h .fenceClear (fun t p => if t.causePending p then some (stFenced, 0xFFFF) else none) false true

/-- EMERGENCY_RESET (0x34): a member whose handle is active refuses (R87). -/
def State.emergencyReset (s : State) (h : Handle) (_ps : List Byte) : State :=
  s.portalCmd h .emergencyReset
    (fun t p => if t.ehActive p then some (stModeForbids, 0xFFFF) else none) false true

/-- JOG_STOP (0x36). -/
def State.jogStop (s : State) (h : Handle) (_ps : List Byte) : State := s.portalCmd h .jogStop (fun _ _ => none) false false

/-- PORTAL_FENCE (0x37). -/
def State.portalFence (s : State) (h : Handle) (_ps : List Byte) : State := s.portalCmd h .fence (fun _ _ => none) false false

/-- JOG (0x35): a leaf, the step, or the portal for its lock (R83, R93). -/
def State.jogCmd (s : State) (h : Handle) (ps : List Byte) : State :=
  let u := h.unit.toNat
  let speed := signedOf 2 (unLe (ps.take 2))
  if u / 2048 = 2 then
    let p : PortalId := ⟨u / 256 % 8, by omega⟩
    match u % 256 with
    | 0x00 => if s.present p then s.acceptAt p (.jogLock h speed) else s.refuse h stBadUnit
    | 0x10 => if s.present p then s.acceptAt p (.jogUnit h 0 speed) else s.refuse h stBadUnit
    | 0x11 => if s.leafPresent p 1 then s.acceptAt p (.jogUnit h 1 speed) else s.refuse h stBadUnit
    | 0x20 => if s.present p && s.stepFitted p then s.acceptAt p (.jogUnit h 2 speed) else s.refuse h stBadUnit
    | _ => s.refuse h stBadUnit
  else s.refuse h stBadUnit

/-! ## The evaluation (R66, R92) -/

/-- Transitions of R76 are suspended: the safe stop of R456, or a portal that fails its check in MAINTAIN (R62). -/
def State.suspended (s : State) (p : PortalId) : Bool := s.wdgExpired || (s.portal p).checkFailed

/-- A command that its evaluation cannot take yet: the returns of FENCED and EMERGENCY are transitions of R76, which the safe stop of R456
suspends (log 28). -/
def State.mustWait (s : State) (p : PortalId) : PCmd → Bool
  | .fenceClear _ => s.wdgExpired && decide ((s.portal p).state = .fenced)
  | .emergencyReset _ => s.wdgExpired && decide ((s.portal p).state = .emergency) && !s.ehActive p
  | _ => false

/-- The commands that wait, in the order of acceptance; one that cannot be taken holds those behind it (R28). -/
def State.takeCmds (s : State) (p : PortalId) : List PCmd → State
  | [] => s
  | c :: q => if s.mustWait p c then s.modPortal p fun x => { x with queue := c :: q } else (s.takeCmd p c).takeCmds p q

/-- A command accepted for a portal waits for the restart of an Eclair, and with it what follows it (R28, R331). -/
def State.heldFor (s : State) (p : PortalId) : Bool := ([1, 2] : List (Fin 3)).any fun d => (s.pair d).held.any fun c => c.portals.contains p

/-- Step 10 of R92. -/
def State.cmdStep (s : State) (p : PortalId) : State :=
  let q := (s.portal p).queue
  if s.heldFor p then s else
  (s.modPortal p fun x => { x with queue := [] }).takeCmds p q

/-- Steps 5 to 10 of R92. -/
def State.evalRest (s : State) (p : PortalId) : State :=
  let susp := s.suspended p
  let s := if susp ∧ (s.portal p).state ≠ .jog then s.clearDeclared p else s.obstStep p
  let s := if susp then s else (((s.zsStep p).timeoutStep p).warnStep p).dwellStep p
  let s := if susp then s else ((s.pauseStep p).completeStep p).closeStep p
  let s := s.cmdStep p
  let s := if susp then s else s.closeStep p
  s.jogStep p

/-- One evaluation in the order of R92. The sequencer's start takes the resting evaluation (R68), and a portal that starts in OPEN follows its
close intent. -/
def State.evaluate (s : State) (p : PortalId) : State :=
  let s := ((s.lockWatch p).pneuStep p).relStep p
  if (s.portal p).start = 1 then
    let s := ((s.foundStep p).modPortal p fun x => { x with start := 0 }).resting p
    (if s.suspended p then s else s.closeStep p).cmdStep p
  else (((((s.isoStep p s.wdgExpired).ehStep p).declStep p).foundStep p).causeStep p).evalRest p

/-! ## The sequencer's own events: an evaluation that finds the end of a time, in the order of R92 -/

/-- An evaluation that finds a condition. -/
def State.evaluateIf (s : State) (p : PortalId) (c : Bool) : State :=
  if s.seqWorks p && !s.suspended p && decide ((s.portal p).start = 0) && c then s.evaluate p else s

/-- TRANSITION_TIMEOUT: the timeout of a transition state has passed at an evaluation (R77). -/
def execTransitionTimeout (dt : Nat) (p : PortalId) (s : State) : Host.Outcome State Fault Refusal :=
  let s := s.advance dt
  .next (s.evaluateIf p (s.stateTimedOut p))

/-- CLOSE_WARNING_END: CLOSE_WARN_TIME has passed at an evaluation (R79). -/
def execCloseWarningEnd (dt : Nat) (p : PortalId) (s : State) : Host.Outcome State Fault Refusal :=
  let s := s.advance dt
  .next (s.evaluateIf p (s.ran (s.portal p).warn (ms (s.parN 0x1040 (uPortal p)))))

/-- RECLOSE_DWELL_END: RECLOSE_DWELL has passed at an evaluation (R81). -/
def execRecloseDwellEnd (dt : Nat) (p : PortalId) (s : State) : Host.Outcome State Fault Refusal :=
  let s := s.advance dt
  .next (s.evaluateIf p (s.ran (s.portal p).dwell (ms (s.parN 0x1042 (uPortal p)))))

/-- OBST_OPEN_PAUSE_END: the pause of an opening has passed at an evaluation (R82). -/
def execObstOpenPauseEnd (dt : Nat) (p : PortalId) (s : State) : Host.Outcome State Fault Refusal :=
  let s := s.advance dt
  .next (s.evaluateIf p (s.ran (s.portal p).pause (ms (s.parN 0x1043 (uPortal p)))))

/-- LOCK_SETTLE_ELAPSED: the LOCKED condition has held for LOCK_SETTLE at an evaluation (R68, R72, R73). -/
def execLockSettleElapsed (dt : Nat) (p : PortalId) (s : State) : Host.Outcome State Fault Refusal :=
  let s := (s.advance dt).lockWatch p
  .next (s.evaluateIf p (s.settled p))

/-- JOG_RENEWAL_TIMEOUT: 250 ms have passed with no renewal of a jog (R93). -/
def execJogRenewalTimeout (dt : Nat) (p : PortalId) (lock : Bool) (s : State) : Host.Outcome State Fault Refusal :=
  let s := s.advance dt
  let x := s.portal p
  .next (if x.state ≠ .jog then s
    else if lock then
      (match x.lockJog with
       | some (_, t) => if s.elapsed t (ms 250) then (s.endLockJog p).jogStep p else s
       | none => s)
    else
      (match x.jog with
       | some j => if s.elapsed j.renew (ms 250) then (s.endUnitJog p).jogStep p else s
       | none => s))

/-- LOCAL_OPEN_REQUEST: the rising edge of the GPI that OPEN_REQ_GPI names, whose accepted level is high, acts as PORTAL_OPEN (R86). -/
def execLocalOpenRequest (dt : Nat) (p : PortalId) (s : State) : Host.Outcome State Fault Refusal :=
  let s := s.advance dt
  .next (match s.parNames 0x1003 (uPortal p) with
    | some n =>
      if s.safety.gpiAdopted && s.safety.gpi.toList.getD n false then
        (if s.present p then s.acceptAt p (.open .silent) else s.raisePortal p 0x0303 (uPortal p) stBadUnit)
      else s
    | none => s)

end Sys2Proof.Machine
end

