-- ==== Sys2Proof/Machine/CanOps.lean ====
section
/-! DEFINITION. The operations of a CAN controller (R375–R396, R403): frames, placement, mailboxes, error state, entry to OFF. -/

namespace Sys2Proof.Machine

/-! ## Parameters and frames (R375, R382, R384, R387, R402) -/

/-- The PID of a parameter of controller n (R402). -/
def canPid (n : CanId) (off : Nat) : Nat := 0xA000 + 0x100 * n.val + off

/-- A parameter of a controller in force. -/
def State.canN (s : State) (n : CanId) (off : Nat) : Nat := s.parN (canPid n off) 0

/-- A bit of CAN_OPTIONS: 0 FD_ENABLE, 1 PEX_ENABLE, 2 AUTO_RECOVER (R402). -/
def State.canOpt (s : State) (n : CanId) (b : Nat) : Bool := (s.view.raw (canPid n 0x0C) 0).toNat.testBit b

/-- The codes of the controller states (R376). -/
def CanState.code : CanState → Nat
  | .off => 0 | .normal => 1 | .listen => 2 | .detecting => 3 | .sleep => 4 | .busOff => 5

/-- The data length that a DLC gives (R375, R387). -/
def dlcLen (fdf : Bool) (dlc : Nat) : Nat :=
  if dlc ≤ 8 then dlc else if !fdf then 8 else [12, 16, 20, 24, 32, 48, 64].getD (dlc - 9) 64

/-- The data length of a frame; remote frames carry none (R387). -/
def frameLen (f : CanFrame) : Nat := if f.rtr && !f.fdf then 0 else dlcLen f.fdf f.dlc.toNat

/-- A frame as the bus can carry it: a base identifier in [10:0], BRS and ESI only in FD frames, RTR only in classic ones, as many data bytes as
the DLC gives. -/
def busFrame (f : CanFrame) : CanFrame :=
  { f with brs := f.brs && f.fdf, esi := f.esi && f.fdf, rtr := f.rtr && !f.fdf, id := if f.ide then f.id else f.id &&& 0x7FF#29,
           data := (f.data ++ List.replicate 64 0).take (frameLen f) }

/-- The arbitration value of a frame: the order of base and extended identifiers on the bus (R390). -/
def arbValue (f : CanFrame) : Nat :=
  if f.ide then f.id.toNat / 2 ^ 18 * 2 ^ 21 + 2 ^ 20 + 2 ^ 19 + f.id.toNat % 2 ^ 18 * 2 + bit f.rtr
  else f.id.toNat % 2048 * 2 ^ 21 + bit f.rtr * 2 ^ 20

/-- An identifier parameter in the form of PF_ID compared under a mask in the form of PF_MASK (R384). -/
def idMatch (f : CanFrame) (id mask : Nat) : Bool :=
  decide ((f.id.toNat ^^^ id) &&& mask &&& 0x1FFFFFFF = 0) && (!mask.testBit 29 || f.ide == id.testBit 29)

/-! ## Events (R404) -/

/-- A traffic event, when TRAFFIC_EVT enables its reason (R399, R404). -/
def State.canTraffic (s : State) (n : CanId) (reason arg outcome : Nat) : State :=
  if (s.canN n 0x70).testBit reason then
    s.raise (20 + n.val) (0x14 + n.val) 0 (reason + 256 * arg + 65536 * outcome + 2 ^ 24 * (s.can n).fifo.length)
  else s

/-- An error or bus-state event (R404). -/
def State.canEvent (s : State) (n : CanId) (reason arg : Nat) : State :=
  let x := s.can n
  s.raise (24 + n.val) (0x18 + n.val) 0 (reason + 256 * arg + 65536 * min 255 x.tec + 2 ^ 24 * min 255 x.recErr)

/-! ## Placement (R383–R386) -/

/-- A copy that has ended leaves the front slot empty, and the frame of the shadow slot moves there (R386). -/
def PrioBuf.settle (b : PrioBuf) (now : Ts) : PrioBuf :=
  match b.lock with
  | none => b
  | some (t, n) =>
    if now.since t ≤ n then b
    else ⟨(match b.shadow with
      | some e => some { e with fromShadow := true }
      | none => b.front), none, none⟩

/-- A frame arrives at a priority buffer: the buffer, and whether it replaced a frame that had not been read (R386). -/
def PrioBuf.arrive (b : PrioBuf) (now : Ts) (e : RxEntry) : PrioBuf × Bool :=
  let b := b.settle now
  if b.lock.isSome then ({ b with shadow := some e }, b.shadow.isSome)
  else ({ b with front := some { e with overwritten := b.front.isSome } }, b.front.isSome)

/-- The filter that places a frame: in ALL mode only those of the safe-telegram engine are matched (R383, R384). -/
def State.filterOf (s : State) (n : CanId) (f : CanFrame) : Option (Fin 8) :=
  (List.finRange 8).find? fun k =>
    ((s.can n).owned.getLsbD k.val || (s.canN n 0x10 = 1 && (s.canN n 0x30).testBit k.val))
      && idMatch f (s.canN n (0x20 + k.val)) (s.canN n (0x28 + k.val))

/-- A frame received without error is placed (R383, R385, R386); `sof` is the time-stamp of its start of frame. -/
def State.canPlace (s : State) (n : CanId) (f : CanFrame) (sof : Ts) (wake : Bool) : State :=
  match s.filterOf n f with
  | some k =>
    let (b, lost) := (s.can n).bufs[k].arrive s.ts ⟨sof, f, false, false, wake, k.val⟩
    let s := s.modCan n fun x => { x with bufs := x.bufs.set k.val b, overwrites := if lost then inc32 x.overwrites else x.overwrites }
    s.canTraffic n 2 k.val 0
  | none =>
    let x := s.can n
    if x.fifo.length < 64 then
      let s := s.modCan n fun y => { y with fifo := y.fifo ++ [⟨sof, f, false, false, wake, 0xFF⟩] }
      if x.fifo = [] then s.canTraffic n 0 0 0 else s
    else
      let s := (s.modCan n fun y => { y with fifoLost := inc32 y.fifoLost, overflow := true, episode := true }).markSet (canPid n 0x8B) 0 0
      if x.episode then s else s.canTraffic n 1 0 0

/-! ## Mailboxes (R389–R393, R411) -/

/-- A mailbox of a controller. -/
def State.box (s : State) (n : CanId) (m : Fin 16) : Option TxBox := (s.can n).boxes[m]

/-- Change a mailbox. -/
def State.setBox (s : State) (n : CanId) (m : Fin 16) (b : Option TxBox) : State := s.modCan n fun x => { x with boxes := x.boxes.set m.val b }

/-- A mailbox is pending. -/
def State.txPending (s : State) (n : CanId) : Bool := (List.finRange 16).any fun m => (s.box n m).isSome

/-- A final outcome (R393): 0 SENT, 1 CANCELLED, 2 STALE, 3 LOST_NO_RETRY, 4 ABORTED. A telegram that waited for the mailbox moves in. -/
def State.txFinal (s : State) (n : CanId) (m : Fin 16) (outcome : Nat) : State :=
  match s.box n m with
  | none => s
  | some b =>
    let s := s.modCan n fun x => { x with boxes := x.boxes.set m.val x.next[m], next := x.next.set m.val none }
    let s := s.canTraffic n 3 m.val outcome
    match b.reply with
    | some h => s.reply h (if outcome = 0 then stDone else stModeForbids) (le 1 outcome ++ le 7 (b.sof.getD 0).toNat)
    | none => s

/-- A frame goes stale (R391). -/
def State.txStale (s : State) (n : CanId) (m : Fin 16) : State :=
  let s := (s.modCan n fun x => { x with stale := inc32 x.stale }).canEvent n 5 m.val
  s.txFinal n m 2

/-- The deadline of a frame has come. -/
def TxBox.late (b : TxBox) (now : Ts) : Bool :=
  match b.deadline with
  | some d => decide (0 ≤ (now - d).toInt)
  | none => false

/-- A frame may still start: its deadline has not passed, or passes at this instant, when the start wins (R391, R400). -/
def TxBox.startable (b : TxBox) (now : Ts) : Bool := !b.late now || b.deadline = some now

/-- The mailbox that a controller offers: the lowest arbitration value, ties by the lower number (R390). -/
def State.txOffer (s : State) (n : CanId) : Option (Fin 16) :=
  (List.finRange 16).foldl (fun (o : Option (Fin 16)) m =>
    match s.box n m, o with
    | none, _ => o
    | some b, none => if b.startable s.ts then some m else o
    | some b, some k => if !b.startable s.ts then o else match s.box n k with
      | some c => if arbValue b.frame < arbValue c.frame then some m else o
      | none => some m) none

/-- An attempt is on the bus. -/
def State.txBusy (s : State) (n : CanId) : Bool := (List.finRange 16).any fun m => match s.box n m with
  | some b => b.inFlight
  | none => false

/-! ## States (R376, R377, R394, R395) -/

/-- The error counters take new values: WARNING and the error state follow, with their events (R394). -/
def State.canLevels (s : State) (n : CanId) (tec recErr : Nat) : State :=
  let x := s.can n
  let st := if 256 ≤ tec then 2 else if 128 ≤ tec ∨ 128 ≤ recErr then 1 else 0
  let warn := decide (96 ≤ tec ∨ 96 ≤ recErr)
  let s := s.modCan n fun y => { y with tec := tec, recErr := min 128 recErr, errState := st, warning := warn, warningSeen := y.warningSeen || (warn && !x.warning) }
  let s := if st ≠ x.errState then s.canEvent n 0 st else s
  if warn ∧ !x.warning then (s.canEvent n 1 st).markSet (canPid n 0x8B) 0 1 else if !warn ∧ x.warning then s.canEvent n 2 st else s

/-- Entry to OFF (R376): mailboxes end ABORTED, frames received are dropped, the counters are 0; a rate detection ends without a result. CAN3
drops every reply of its Mirqua port and frees their tags (R434). -/
def State.canOff (s : State) (n : CanId) : State :=
  let det := (s.can n).detect
  let s := s.modCan n fun x => { x with next := Vector.replicate 16 none, detect := none }
  let s := foldState (List.finRange 16) (fun m t => t.txFinal n m 4) s
  let s := s.modCan n fun x => { x with
    state := .off, fifo := [], bufs := Vector.replicate 8 ⟨none, none, none⟩,
    recovering := false, stopping := false, suspended := false, pex := false, episode := false }
  let s := s.canLevels n 0 0
  let s := match det with
    | some d => s.reply d.reply stModeForbids [0xFF]
    | none => s
  if n = 3 then s.modPort 1 fun x => { x with
    replies := [], txSeg := none, tags := x.replies.foldl (fun m r => if r.frees then m &&& ~~~(1#128 <<< r.tag.toNat) else m) x.tags }
  else s

/-- Every controller enters OFF: at each entry to INIT and TEST (R377). -/
def State.cansOff (s : State) : State := foldState (List.finRange 4) (fun n t => t.canOff n) s

/-- The error counters take new values, and BUS_OFF follows (R394, R395). -/
def State.canCounts (s : State) (n : CanId) (tec recErr : Nat) : State :=
  let was := (s.can n).errState
  let s := s.canLevels n tec recErr
  if (s.can n).errState = 2 ∧ was ≠ 2 then
    let auto := s.canOpt n 2
    let s := s.modCan n fun y => { y with
      state := .busOff, busOffs := inc32 y.busOffs, recovering := auto,
      boxes := y.boxes.map fun (b : Option TxBox) => b.map fun b => { b with inFlight := false } }
    let s := s.canEvent n 3 2
    let s := foldState (List.finRange 16) (fun m t => match t.box n m with
      | some b => if b.noRetry then t.txFinal n m 3 else if b.late t.ts then t.txStale n m else t
      | none => t) s
    if (s.can n).stopping then s.canOff n else s
  else s

end Sys2Proof.Machine
end

