-- ==== Sys2Proof/Machine/TeleOps.lean ====
section
/-! DEFINITION. The safe-telegram engine (R405–R425): building and sending, checking and pairing received copies, the streams, the buffers that it
takes, what a takeover does to its numbers. -/

namespace Sys2Proof.Machine

/-! ## Sending (R405–R412) -/

/-- The engine sends: claim held, in SERVICE, DEGRADED, MAINTAIN or SAFE (R410). -/
def State.teleSends (s : State) : Bool := s.claim.held && (s.mode.door || s.mode = .maintain || s.mode = .safe)

/-- Sender time in µs (R411). -/
def State.teleTime (s : State) : BitVec 32 := BitVec.ofNat 32 (s.ts.toNat / 100) + s.tele.tsOffset

/-- The 64 bytes of a telegram (R406, R407). -/
def State.teleBytes (s : State) (type : Nat) (seq : BitVec 16) (payload : List Byte) : List Byte :=
  let body := le 1 1 ++ le 1 type ++ le 2 (s.parN 0xB000 0) ++ le 2 seq.toNat ++ le 4 s.teleTime.toNat ++ le 1 payload.length ++ le 1 0
    ++ (payload ++ List.replicate 48 0).take 48
  body ++ le 4 (Crc.crc32c (BitVec.ofNat 32 (s.parN 0xB001 0)) body).toNat

/-- The portals that report a state, as a mask. -/
def State.stateMask (s : State) (st : PState) : Nat := maskOf (allPortals.filter fun p => s.shownState p = st)

/-- The portals that show a flag of R98, as a mask. -/
def State.flagMask (s : State) (b : Nat) : Nat := maskOf (allPortals.filter fun p => (s.portalFlags p).testBit b)

/-- The DCL payload (R409). -/
def State.dclPayload (s : State) : List Byte :=
  le 1 (if s.safety.driven then 0xA5 else 0x5A) ++ le 1 s.safety.dclFault.toNat
    ++ le 1 (maskOf (allPortals.filter fun p => (s.portal p).fwTerm)) ++ le 1 (maskOf (allPortals.filter fun p => (s.portal p).hwTerm))
    ++ le 1 s.mode.code ++ le 1 (maskOf (allPortals.filter fun p => s.present p)) ++ le 1 (s.stateMask .isolated) ++ le 1 (s.stateMask .fenced)

/-- The DOOR_STATE payload (R409). -/
def State.doorPayload (s : State) : List Byte :=
  allPortals.map (fun p => BitVec.ofNat 8 (s.shownState p).code) ++ le 1 (s.flagMask 10) ++ le 1 (s.flagMask 11) ++ le 1 s.relMask.toNat
    ++ le 1 (bit s.zsConfirmed)

/-- A telegram goes to a mailbox: an earlier one of its type is cancelled, or finishes the attempt that is on the bus (R411). -/
def State.teleLoad (s : State) (n : CanId) (m : Fin 16) (id : Nat) (bytes : List Byte) : State :=
  let f : CanFrame := ⟨id.testBit 29, true, s.parN 0xB017 0 = 1, false, false, BitVec.ofNat 29 id, 15, bytes⟩
  let new : TxBox := ⟨busFrame f, some (s.ts + BitVec.ofNat 56 (ms 5)), false, none, false, none⟩
  match s.box n m with
  | none => s.setBox n m (some new)
  | some b =>
    if b.inFlight then (s.setBox n m (some { b with noRetry := true })).modCan n fun x => { x with next := x.next.set m.val (some new) }
    else (s.txFinal n m 1).setBox n m (some new)

/-- A DCL telegram is built and sent on both networks (R411). -/
def State.sendDcl (s : State) : State :=
  if !s.teleSends then s
  else
    let b := s.teleBytes 0x01 s.tele.seqDcl s.dclPayload
    let s := { s with tele := { s.tele with seqDcl := s.tele.seqDcl + 1, sentDcl := (s.safety.driven, s.safety.dclFault) } }
    (s.teleLoad 0 12 (s.parN 0xB010 0) b).teleLoad 1 12 (s.parN 0xB010 0) b

/-- Counts since the last 10 ms boundary of the Hub die time-stamp (R411). -/
def State.inTenMs (s : State) : Nat := s.ts.toNat % ms 10

/-- A DCL telegram is due: at a 10 ms boundary, within 1 ms of a change of the driven DCL, or while DCL_FAULT differs from what was sent last
(R411). -/
def State.dclDue (s : State) : Bool :=
  decide (s.inTenMs = 0 ∨ s.ts.since s.safety.drivenSince ≤ ms 1 ∨ s.tele.sentDcl ≠ (s.safety.driven, s.safety.dclFault))

/-- A DOOR_STATE telegram is built and sent on both networks (R411). -/
def State.sendDoor (s : State) : State :=
  if !s.teleSends then s
  else
    let b := s.teleBytes 0x02 s.tele.seqState s.doorPayload
    let s := { s with tele := { s.tele with seqState := s.tele.seqState + 1 } }
    (s.teleLoad 0 13 (s.parN 0xB011 0) b).teleLoad 1 13 (s.parN 0xB011 0) b

/-- The claim is lost with telegrams pending: they are cancelled; a frame already on the bus completes (R421). -/
def State.teleCancel (s : State) : State :=
  foldState [0, 1] (fun (n : CanId) t =>
    let t := t.modCan n fun x => { x with next := (x.next.set 12 none).set 13 none }
    foldState [12, 13] (fun (m : Fin 16) u => match u.box n m with
      | some b => if b.inFlight then u.setBox n m (some { b with noRetry := true }) else u.txFinal n m 1
      | none => u) t) s

/-! ## The streams (R414–R418) -/

/-- A received stream: RELEASE when the flag is set. -/
def State.stream (s : State) (release : Bool) : Stream := if release then s.tele.rel else s.tele.zs

/-- Change a received stream. -/
def State.modStream (s : State) (release : Bool) (f : Stream → Stream) : State :=
  { s with tele := if release then { s.tele with rel := f s.tele.rel } else { s.tele with zs := f s.tele.zs } }

/-- The TYPE of a stream (R408). -/
def streamType (release : Bool) : Nat := if release then 0x82 else 0x81

/-- Event 0x001D (R425). -/
def State.streamEvent (s : State) (release : Bool) (reason : Nat) : State :=
  s.raise 29 0x001D 0 (reason + 256 * streamType release + 65536 * (s.stream release).seqLast.toNat)

/-- A stream becomes NOT_VALID (R417). -/
def State.streamDown (s : State) (release : Bool) : State := s.modStream release fun x => { x with valid := false, first := none, closed := [] }

/-- A copy is valid for a type, a source and a minimum length (R414). -/
def State.copyOk (s : State) (type src minLen : Nat) (f : CanFrame) : Bool :=
  let b := f.data
  let at' := fun k => (b.getD k 0).toNat
  let len := at' 10
  f.fdf && decide (b.length = 64) && decide (at' 0 = 1) && decide (at' 1 = type) && decide (unLe ((b.drop 2).take 2) = src)
    && decide (len ≤ 40) && decide (minLen ≤ len) && decide (at' 11 = 0) && ((b.drop (12 + len)).take (48 - len)).all (fun x => decide (x = 0))
    && decide ((Crc.crc32c (BitVec.ofNat 32 (s.parN 0xB001 0)) (b.take 60)).toNat = unLe (b.drop 60))

/-- The copy that a frame carries. -/
def copyOf (f : CanFrame) (sof : Ts) : TeleCopy :=
  ⟨BitVec.ofNat 16 (unLe ((f.data.drop 4).take 2)), BitVec.ofNat 32 (unLe ((f.data.drop 6).take 4)), sof, f.data⟩

/-- Arrival time in µs (R414). -/
def TeleCopy.arrival (c : TeleCopy) : BitVec 32 := BitVec.ofNat 32 (c.sof.toNat / 100)

/-- The payload of a copy is valid (R409). -/
def TeleCopy.payloadOk (c : TeleCopy) (release : Bool) : Bool :=
  let a := c.bytes.getD 12 0
  if release then c.bytes.getD 13 0 = a ^^^ 0xFF else a = 0xA5 || a = 0x5A

/-- An acceptance (R416, R418). -/
def State.streamAccept (s : State) (release : Bool) (c : TeleCopy) (delays : List Int) (single : Bool) (when' : Ts) : State :=
  let was := (s.stream release).single
  let s := s.modStream release fun x => { x with
    valid := true, first := none, seqLast := c.seq, tsLast := c.ts, delays := (((c.arrival - c.ts).toInt) :: delays).take 64, lastAt := when',
    byte0 := c.bytes.getD 12 0, byte1 := c.bytes.getD 13 0, single := single }
  if single ∧ !was then s.streamEvent release 2 else if !single ∧ was then s.streamEvent release 3 else s

/-- A candidate is rejected (R416). -/
def State.streamReject (s : State) : State := { s with tele := { s.tele with rejected := inc32 s.tele.rejected } }

/-- A candidate of a stream (R416, R417). -/
def State.streamCandidate (s : State) (release : Bool) (c : TeleCopy) (single : Bool) (when' : Ts) : State :=
  let x := s.stream release
  if x.valid then
    let d := (c.seq - x.seqLast).toInt
    let ref := x.delays.foldl min ((c.arrival - c.ts).toInt)
    let lateness := ((c.arrival - c.ts) - BitVec.ofInt 32 ref).toInt
    if d < 1 ∨ (c.ts - x.tsLast).toInt ≤ 0 then s.streamReject
    else if s.par 0xB004 0 * 1000 < lateness then
      let due := match x.lateAt with
        | some t => s.elapsed t (ms 100)
        | none => true
      let s := s.streamReject
      if due then (s.modStream release fun y => { y with lateAt := some s.ts }).streamEvent release 4 else s
    else if !c.payloadOk release then s.streamReject
    else
      let gaps := min 4294967295 (s.tele.seqGaps + (d - 1).toNat)
      ({ s with tele := { s.tele with seqGaps := gaps } }.streamAccept release c x.delays single when').zsReport
  else if !c.payloadOk release then s
  else match x.first with
    | some f =>
      if c.seq = f.seq + 1 ∧ 0 < (c.ts - f.ts).toInt then
        ((s.streamAccept release c [(f.arrival - f.ts).toInt] single when').streamEvent release 1).zsReport
      else s.modStream release fun y => { y with first := some c }
    | none => s.modStream release fun y => { y with first := some c }

/-- A window closes with one copy (R415). -/
def State.windowClose (s : State) (release : Bool) (w : Bool × TeleCopy) (when' : Ts) : State :=
  let s := s.modStream release fun x => { x with windows := x.windows.filter (fun v => decide (v ≠ w)), closed := (w.2.seq :: x.closed).take 64 }
  if s.parN 0xB002 0 = 1 then
    { s with tele := { s.tele with singleAccepts := inc32 s.tele.singleAccepts } }.streamCandidate release w.2 true when'
  else { s with tele := { s.tele with singleDrops := inc32 s.tele.singleDrops } }

/-- µs from one arrival to another. -/
def usBetween (a b : Ts) : Int := ((b.toNat / 100 : Nat) : Int) - ((a.toNat / 100 : Nat) : Int)

/-- The end of a window: 5,000 µs after its first copy (R415). -/
def windowEnd (w : Bool × TeleCopy) : Ts := w.2.sof + BitVec.ofNat 56 (us 5000)

/-- A valid copy is paired (R415): windows that its arrival closes come first. -/
def State.pairCopy (s : State) (release netB : Bool) (c : TeleCopy) : State :=
  let s := foldState (s.stream release).windows (fun w t =>
    if 5000 < usBetween w.2.sof c.sof then t.windowClose release w (windowEnd w)
    else if w.1 = netB ∧ w.2.seq ≠ c.seq then t.windowClose release w c.sof else t) s
  let x := s.stream release
  match x.windows.find? fun w => w.2.seq = c.seq with
  | some w =>
    if w.1 = netB then s.streamReject
    else
      let s := s.modStream release fun y => { y with windows := y.windows.filter (fun v => decide (v ≠ w)), closed := (c.seq :: y.closed).take 64 }
      if w.2.bytes = c.bytes then s.streamCandidate release w.2 false c.sof
      else { s with tele := { s.tele with mismatch := inc32 s.tele.mismatch } }.raise 28 0x001C 0 (65536 * streamType release)
  | none =>
    if x.closed.contains c.seq then s.streamReject
    else s.modStream release fun y => { y with windows := y.windows ++ [(netB, c)] }

/-- A received telegram copy (R414). -/
def State.teleCopy (s : State) (release netB : Bool) (f : CanFrame) (sof : Ts) : State :=
  if s.copyOk (streamType release) (s.parN (if release then 0xB006 else 0xB005) 0) (if release then 2 else 1) f then
    s.pairCopy release netB (copyOf f sof)
  else
    let s := { s with tele := { s.tele with badCopies := inc32 s.tele.badCopies } }
    let due := match (s.stream release).badAt with
      | some t => s.elapsed t (ms 100)
      | none => true
    if due then
      (s.modStream release fun y => { y with badAt := some s.ts }).raise 28 0x001C 0 (1 + 256 * bit netB + 65536 * streamType release)
    else s

/-! ## The own stream in STANDBY and the takeover (R366, R412) -/

/-- In STANDBY the engine follows the partner's DCL telegrams (R412). -/
def State.followOwn (s : State) (f : CanFrame) (sof : Ts) : State :=
  if s.mode ≠ .standby ∨ !s.copyOk 0x01 (s.parN 0xB000 0) 8 f then s
  else
    let c := copyOf f sof
    let d := (c.ts - c.arrival).toInt
    let x := s.tele
    let diffs := match x.ownDiffs with
      | e :: l => if x.ownSeq = some c.seq then max e d :: l else (d :: e :: l).take 64
      | [] => [d]
    { s with tele := { x with ownSeq := some c.seq, ownAt := s.ts, ownDiffs := diffs } }

/-- The later of two sequence numbers in i16 comparison (R412). -/
def laterSeq (a b : BitVec 16) : BitVec 16 := if 0 < (b - a).toInt then b else a

/-- The engine's numbers at a takeover; `snap` holds the snapshot of a warm one and its age (R366, R412). -/
def State.teleTakeover (s : State) (snap : Option (Snapshot × Nat)) : State :=
  let x := s.tele
  let adv := fun (k : Nat) (own : BitVec 16) => match snap with
    | some (z, age) => BitVec.ofNat 16 (z.txSeq.getD k 0) + BitVec.ofNat 16 ((age + ms 10 - 1) / ms 10)
    | none => own
  let dcl := match x.ownSeq, snap with
    | some q, some _ => laterSeq (adv 0 x.seqDcl) (q + 1)
    | some q, none => q + 1
    | none, _ => adv 0 x.seqDcl
  let seen := x.ownSeq.isSome && !s.elapsed x.ownAt (ms 100)
  let off : Int := x.ownDiffs.foldl max (x.ownDiffs.headD 0)
  { s with tele := { x with seqDcl := dcl, seqState := adv 1 x.seqState,
                            tsOffset := if seen then BitVec.ofInt 32 off else 0, fromBus := seen, ownSeq := none, ownDiffs := [] } }

/-! ## The engine's buffers and the mode (R417, R423) -/

/-- At an exit from CONFIGURE the engine takes its buffers of CAN0 and CAN1, unless the host or another stream names the same one (R423). -/
def State.teleTake (s : State) : State :=
  let want := [(0xB014, 0xB012), (0xB015, 0xB013), (0xB016, 0xB010)]
  foldState [0, 1] (fun (n : CanId) t =>
    let t := t.modCan n fun x => { x with owned := 0 }
    foldState want (fun q u =>
      match u.parNames q.1 0 with
      | some k =>
        if u.view.isSet q.2 0 ∧ !(u.canN n 0x30).testBit k ∧ !(u.can n).owned.getLsbD k then
          let ps := store (store u.params (canPid n (0x20 + k), 0) (u.par q.2 0)) (canPid n (0x28 + k), 0) 0x3FFFFFFF
          { u with params := ps }.modCan n fun x => { x with owned := setBit x.owned k true }
        else u
      | none => u) t) s

/-- Both streams are NOT_VALID at each entry to CONFIGURE (R417). -/
def State.teleConfigure (s : State) : State :=
  let s := foldState [false, true] (fun r t => (t.streamDown r).modStream r fun x => { x with windows := [] }) s
  s.zsReport

end Sys2Proof.Machine
end

