-- ==== Sys2Proof/Machine/Modes.lean ====
section
/-! DEFINITION. Device modes (R32–R38), what an entry does to the parts of the device, the two-phase commit (R39–R44), heartbeats (R45–R48), and the
synchronisation of time-stamps (R50–R59). -/

namespace Sys2Proof.Machine

/-! ## Host watchdog and modes (R265, R456, R457) -/

/-- What the watchdog's expiry asks for follows its state: the safe stop and the fail-safe cause begin or end. A stopped watchdog that counts
as expired raises event 40 reason 5. -/
def State.wdgSync (s : State) : State :=
  if s.wdgExpired then
    if s.wdg.stopSince.isSome then s
    else
      let s := if s.wdg.state = 0 then s.raise 40 0x0028 0 (5 + 256 * s.wdg.owner.val + 65536 * s.wdg.window) else s
      (s.safeStop.fsDeviceEvent true 3).allChansSync
  else if s.wdg.stopSince.isSome then
    let s := s.resume.fsDeviceEvent false 3
    foldState allPortals (fun p t => t.hostOff p) s
  else s

/-! ## Lockstep pairs at a change of mode (R329, R334) -/

/-- The pair of a die 0–2. -/
def pairDie (d : Fin 3) : DieId := ⟨d.val, by omega⟩

/-- An event of a lockstep pair (R341): kind, PART, and the unit. -/
def State.pairEvent (s : State) (d : Fin 3) (kind part unit : Nat) : State :=
  s.raiseAt (pairDie d) (32 + d.val) (0x0020 + d.val) unit (kind + 16 * part + 65536 * min 65535 (s.pair d).mismatches)

/-- The scope of replication that the mode asks for (R329). -/
def State.pairScope (s : State) : Scope := if s.mode.fromConfigure then .coreOnly else .coreCaches

/-- A split whose handover is still to come does not take place: its command ends (R333). -/
def State.dropSplit (s : State) (d : Fin 3) (status : Nat) : State :=
  match (s.pair d).splitting with
  | some h => (s.modPair d fun x => { x with splitting := none }).refuse h status
  | none => s

/-- A rejoin releases both copies (R334); the reply waits for the first signature exchange. After a failed diagnostic an Eclair is held
stopped, and the Hub die's mode manager enters SAFE, which the caller does (R335). -/
def State.rejoin (s : State) (d : Fin 3) (reply : Option Handle) : State :=
  let s := s.dropSplit d stModeForbids
  if (s.pair d).scope ≠ .split then s
  else
    let failed := (s.pair d).diag = 3
    let s := if failed ∧ d ≠ 0 then
        (s.modPair d fun x => { x with scope := .held }).pairEvent d 8 0xF (uDie d.val)
      else (s.modPair d fun x => { x with
        scope := s.pairScope, rejoining := true, rejoinReply := reply, diag := if x.diag = 1 then 2 else x.diag }).pairEvent d 6 0xF (uDie d.val)
    if failed ∧ d ≠ 0 then (match reply with
      | some h => s.reply h stDone []
      | none => s) else s

/-! ## SAFE (R38, R44) -/

/-- The seal reader starts a load at an entry to CONFIGURE; one that still runs is followed by a fresh one (R493). -/
def Seal.startLoad (x : Seal) : Seal := if x.loading then { x with again := true, loadDone := false } else { x with loading := true, loadDone := false }

/-- The open and close commands of every portal end, and the commands that wait are judged as the mode asks (R67, R85). -/
def State.flushCommands (s : State) (old : Mode) : State :=
  foldState allPortals (fun p t =>
    let t := if old.door && !t.mode.door then t.endOpenClose p stModeForbids 7 else t
    if t.mode.runs then t
    else
      let q := (t.portal p).queue
      foldState q (fun c u => u.takeIdle p c) (t.modPortal p fun x => { x with queue := [] })) s

/-- The Hub die's part of a change of mode: event 38, commands, host demands, cycles, seal, watchdog, lockstep scope. -/
def State.hubEnter (s : State) (new : Mode) : State :=
  let old := s.mode
  let s := { s with mode := new }
  let s := s.modDie 0 fun x => { x with mode := new, epoch := s.epoch, prepare := none, commit := false }
  let s := s.raise 38 0x0026 0 (old.code + 256 * new.code + 65536 * (s.epoch.toNat % 65536))
  let s := s.flushCommands old
  let s := if new = .configure ∨ new = .test ∨ new = .safe ∨ new = .standby then
      foldState allPortals (fun p t => t.endPulses p stModeForbids) s
    else s
  let s := if new = .configure ∨ new = .test ∨ new = .safe then foldState allPortals (fun p t => t.cycleEnd p true) s
    else if new = .standby then foldState allPortals (fun p t => t.modPortal p fun x => { x with cycle := none }) s
    else s
  let s := if old = .configure ∧ !s.power.mapsLoaded then
      let s := foldState allPortals (fun p t => foldState [0, 1] (fun l u => u.loadMap p l) t) s
      { s with power := { s.power with mapsLoaded := true } }
    else s
  let s := if new = .safe then s.saveCounters else s
  let s := if old = .configure then s.teleTake else s
  let s := if new = .test then s.cansOff else s
  let s := if new = .configure then s.teleConfigure else s
  let s := match s.claim.yield with
    | some (_, h) =>
      let s := { s with claim := { s.claim with yield := none } }
      if new = Mode.standby then s.reply h stDone [] else s.refuse h stModeForbids
    | none => s
  let s := if new = .configure then
      let first := !s.power.configured
      let s := { s with sealer := s.sealer.startLoad, power := { s.power with configured := true } }
      if first then
        let s := { s with safety := { s.safety with zsAdopted := true, gpiAdopted := true, zsSince := s.ts } }
        foldState allPortals (fun p t => ((t.modPortal p fun x => { x with siAdopted := true, pairSince := #v[t.ts, t.ts, t.ts] }).lockWatch p).contactWatch p) s
      else s
    else s
  let s := if old = .maintain then foldState [0, 1, 2] (fun (d : Fin 3) t => t.rejoin d none) s else s
  let s := foldState [0, 1, 2] (fun (d : Fin 3) t => t.modPair d fun x =>
    if new = .test then { x with scope := if x.scope = .restarting then x.scope else .coreCaches, recovering := false, agreed := 0 }
    else if x.scope = .coreCaches ∧ !x.recovering then { x with scope := t.pairScope } else x) s
  s.wdgSync

/-- A portal's part of a change of mode on its portal control die (R34, R67, R68, R95, R110, R157). -/
def State.portalEnter (s : State) (p : PortalId) (old new : Mode) : State :=
  let s := if old = .maintain then (s.endJogs p).abortTunes p 7 stModeForbids else s
  if new.runs then
    let s := if old.runs then s
      else
        let s := s.modPortal p fun x => { x with start := if x.start = 0 then 1 else x.start, timer := none, relPrev := s.released p }
        let s := (s.setLock p false).setWarn p false
        foldState [0, 1] (fun l t => if t.pneumatic p then t.setValves p l false false else t) s
    let s := if s.present p then foldState (s.leaves p) (fun l t => t.fbNeedRef p (fbOfLeaf l)) s else s
    s.runCheck p
  else
    let s := (s.endMotion p).foundStep p
    let s := (s.modPortal p fun x => { x with checkFailed := false, start := 0 }).jogLeft p
    let s := foldState [0, 1] (fun (l : LeafId) t =>
      let t := if new = .safe then t.leafBrake p l else t.leafOff p l
      if new = .configure ∨ new = .standby then t.modLeaf p l fun x => { x with aligned := false } else t) s
    let s := s.stepStop p .off
    match new with
    | .standby =>
      let s := s.modPortal p fun x => { x with
        pendingCause := if x.state = .fenced ∧ x.pendingCause = 0 then x.fenceCause else x.pendingCause, fenceCause := 0 }
      let s := (s.failSafeEnd p).chansSync p
      let s := (s.setLock p false).setWarn p false
      foldState [0, 1] (fun l t => if t.pneumatic p then t.setValves p l false false else t) s
    | .safe => s.modPortal p fun x => { x with state := .fenced, timer := none }
    | _ => s.modPortal p fun x => { x with state := .absent, timer := none }

/-- A participant other than the Hub die takes the Hub die's epoch and a mode (R40, R44, R47). -/
def State.dieEnter (s : State) (d : DieId) (new : Mode) : State :=
  let old := (s.die d).mode
  let s := s.modDie d fun x => { x with mode := new, epoch := s.epoch, prepare := none, commit := false, missed := false, safeDue := false }
  if d.val = 1 ∨ d.val = 2 then foldState (servedBy d) (fun p t => t.portalEnter p old new) s
  else if h : 3 ≤ d.val ∧ d.val ≤ 6 then
    let k : PwId := ⟨d.val - 3, by omega⟩
    let s := if old = .configure ∧ new ≠ .configure then s.fsDieEvent k false 0 else if old = .safe ∧ new ≠ .safe then s.fsDieEvent k false 1 else s
    let s := if new = .configure ∧ old ≠ .configure then s.fsDieEvent k true 0 else if new = .safe ∧ old ≠ .safe then s.fsDieEvent k true 1 else s
    -- a fail-safe state takes the values in force before the host's demands and the slots' duties go (R144, R263, R265)
    let s := foldState (servedBy d) (fun p t => t.chansSync p) s
    if new.runs then s else foldState (servedBy d) (fun p t => (t.hostOff p).slotsOff p) s
  else s

/-- The participants other than the Hub die (R39). -/
def participants : List DieId := [1, 2, 3, 4, 5, 6]

/-- A commit that ends without taking effect: its reply is INTERNAL (R42). -/
def State.failCommit (s : State) (c : Option Commit) : State :=
  match c with
  | some c => match c.reply with
    | some h => s.refuse h stInternal
    | none => s
  | none => s

/-- A SAFE cause arises (R38, R44): MODE_CAUSE, and outside SAFE the entry, which voids a commit in progress. -/
def State.enterSafe (s : State) (b : Nat) : State :=
  if s.mode = .init then s
  else
    let s := { s with safety := { s.safety with causeAt := some s.ts } }
    if s.mode = .safe then { s with modeCause := s.modeCause ||| (1#16 <<< b) }
    else
      let s := (s.failCommit s.commit).failCommit s.retry
      let s := { s with modeCause := 1#16 <<< b, commit := none, retry := none, epoch := s.epoch + 1 }
      let s := foldState participants (fun d t => t.modDie d fun x => { x with safeDue := true }) s
      s.hubEnter .safe

/-- A participant that holds COMMIT and has not yet received a SAFE switches at its T; the SAFE overrides the new mode on receipt (R44). -/
def State.lateSwitch (s : State) (d : DieId) : State :=
  let x := s.die d
  match x.prepare with
  | some y =>
    if x.safeDue && x.commit && decide (0 ≤ (s.ts - y.due).toInt) then
      (s.dieEnter d y.target).modDie d fun z => { z with epoch := y.epoch, safeDue := true }
    else s
  | none => s

/-- SAFE_RECEIVED: a participant applies its SAFE outputs on receipt, and discards a PREPARE (R44). -/
def execSafeReceived (dt : Nat) (d : DieId) (s : State) : Host.Outcome State Fault Refusal :=
  let s := s.advance dt
  .next (if (s.die d).safeDue then s.dieEnter d .safe else s)

/-! ## Two-phase commit (R39–R43) -/

/-- A mask of dies. -/
def dieMask (l : List DieId) : BitVec 8 := BitVec.ofNat 8 (l.foldl (fun m d => m ||| 2 ^ d.val) 0)

/-- The Hub die starts a commit (R40): PREPARE goes to the participants, and the Hub die acknowledges at once. -/
def State.startCommit (s : State) (target : Mode) (reply : Option Handle) (takeover : Option Bool) : State :=
  { s with commit := some ⟨target, s.epoch + 1, s.ts + BitVec.ofNat 56 (us 500), dieMask (0 :: participants), 1, none, false, reply, takeover⟩ }

/-- A commit runs, or waits for its repeat (R43). -/
def State.committing (s : State) : Bool := s.commit.isSome || s.retry.isSome

/-- PREPARE_RECEIVED: a participant holds the PREPARE, and acknowledges it when it can enter the mode and its cores are not restarting (R40,
R331). -/
def execPrepareReceived (dt : Nat) (d : DieId) (canEnter : Bool) (s : State) : Host.Outcome State Fault Refusal :=
  let s := s.advance dt
  .next (match s.commit with
    | some c =>
      if participants.contains d && c.parts.getLsbD d.val && c.decided.isNone then
        let s := s.modDie d fun x => { x with prepare := some ⟨c.epoch, c.target, c.due⟩ }
        let up := if h : d.val < 3 then
            !((s.pair ⟨d.val, h⟩).scope = .restarting || (s.pair ⟨d.val, h⟩).scope = .held) else true
        if canEnter && up then { s with commit := some { c with acks := c.acks ||| dieMask [d] } } else s
      else s
    | none => s)

/-- ACK_DEADLINE: at T − 100 µs the Hub die sends COMMIT or ABORT (R40, R42); after a first abort it fences the portals of the participants that
failed to acknowledge. -/
def execAckDeadline (dt : Nat) (s : State) : Host.Outcome State Fault Refusal :=
  let s := s.advance dt
  .next (match s.commit with
    | some c =>
      if c.decided.isSome || !s.elapsed (c.due - BitVec.ofNat 56 (us 500)) (us 400) then s
      else
        let missing := c.parts &&& ~~~c.acks
        if missing = 0 then { s with commit := some { c with decided := some true } }
        else
          let s := { s with commit := some { c with decided := some false } }
          let s := s.raise 39 0x0027 0 (missing.toNat + 256 * bit c.repeated + 65536 * (c.epoch.toNat % 65536))
          if c.repeated then s
          else foldState participants (fun d t => if missing.getLsbD d.val then t.fenceServed d 0x07 0 else t) s
    | none => s)

/-- COMMIT_RECEIVED by a participant (R40). -/
def execCommitReceived (dt : Nat) (d : DieId) (s : State) : Host.Outcome State Fault Refusal :=
  let s := s.advance dt
  .next (match s.commit with
    | some c => if c.decided = some true ∧ (s.die d).prepare.isSome then s.modDie d fun x => { x with commit := true } else s
    | none => s)

/-- ABORT_RECEIVED by a participant (R40). -/
def execAbortReceived (dt : Nat) (d : DieId) (s : State) : Host.Outcome State Fault Refusal :=
  let s := s.advance dt
  .next (match s.commit with
    | some c => if c.decided = some false then s.modDie d fun x => { x with prepare := none, commit := false } else s
    | none => s)

/-! ## Claim events and what a claim result asks of the modes (R365, R367, R373) -/

/-- Event 31 (R373). -/
def State.claimEvent (s : State) (reason : Nat) (warm : Bool) : State :=
  let c := s.claim
  s.raise 31 0x001F 0 (c.win.toNat + 65536 * bit c.held + 131072 * bit c.ack + 262144 * bit (c.wireA.faulty && c.wireB.faulty)
    + 524288 * bit c.wireA.faulty + 1048576 * bit c.wireB.faulty + 2097152 * reason + 16777216 * bit warm)

/-- A claim failure (R357). -/
def State.claimFailure (s : State) : State :=
  (if s.mode = .safe ∧ s.modeCause.getLsbD 5 then s else s.claimEvent 6 false).enterSafe 5

/-- The age of the adopted snapshot at an instant (R363): the time since its frame ended, plus 0.3 ms. -/
def State.snapAge (s : State) : Nat := s.ts.since s.partner.adoptedAt + us 300

/-- CONFIG_MATCH (R359). -/
def State.configMatch (s : State) : Bool := decide (s.partner.version ≠ 0) && decide (s.partner.digest = s.sealer.config)

/-- The takeover is warm: CONFIG_MATCH, and a snapshot of at most 5 ms at the frame end that gave the claim (R365). -/
def State.warmNow (s : State) : Bool :=
  s.configMatch && s.partner.adopted.isSome && decide (s.claim.since.since s.partner.adoptedAt + us 300 ≤ ms 5)

/-- A claim result calls for STANDBY or for a takeover; while a commit is in progress it waits (R43, R365, R367). -/
def State.claimAct (s : State) : State :=
  let want := (s.mode.door && !s.claim.held) || (s.mode = .standby && s.claim.held)
  let s := { s with claim := { s.claim with deferred := want && s.committing } }
  if !want || s.committing then s
  else if s.mode.door then s.startCommit .standby none none
  else
    let warm := s.warmNow
    let s := s.rejoin 0 none
    s.startCommit .service none (some warm)

/-- Every present portal of a die is fenced, or keeps a cause (R42). -/
def State.dieFenced (s : State) (d : DieId) : Bool :=
  (servedBy d).all fun p => !s.present p || s.causePending p || decide ((s.portal p).found ≠ [])

/-- COMMIT_REPEAT: 1 ms after the aborted T, the commit is repeated once; a participant all of whose portals are fenced takes no part (R42). -/
def execCommitRepeat (dt : Nat) (s : State) : Host.Outcome State Fault Refusal :=
  let s := s.advance dt
  .next (match s.retry with
    | some c =>
      if !s.elapsed (c.due - BitVec.ofNat 56 (ms 1)) (ms 1) then s
      else
        let out := participants.filter fun d => s.dieFenced d &&
          (!c.acks.getLsbD d.val || (servedBy d).any fun p => s.present p)
        { s with retry := none, commit := some { c with
          epoch := s.epoch + 1, due := s.ts + BitVec.ofNat 56 (us 500), parts := dieMask (0 :: participants) &&& ~~~dieMask out,
          acks := 1, decided := none, repeated := true } }
    | none => s)

/-! ## Heartbeats (R45–R48) -/

/-- A heartbeat reaches a participant, which answers with its epoch. -/
def State.beat (s : State) (d : DieId) : State :=
  let s := s.modDie d fun x => { x with
    lastBeat := s.ts, backSince := if x.hubLost then (if x.backSince.isSome then x.backSince else some s.ts) else x.backSince }
  let s := if (s.die d).hubLost && s.ran (s.die d).backSince (ms 10) then s.modDie d fun x => { x with hubLost := false, backSince := none } else s
  let x := s.die d
  if 3 ≤ d.val ∧ x.pllLost then s
  else if x.missed then s.dieEnter d s.mode
  else if x.epoch ≠ s.epoch then
    let s := (s.modDie d fun y => { y with missed := true }).fenceServed d 0x08 x.epoch.toNat
    -- the channels of a power die go to their fail-safe states whether or not a sequencer runs (R47)
    if 3 ≤ d.val then foldState (servedBy d) (fun p t => if t.present p && !(t.pdMode p).runs then t.failSafe p else t) s else s
  else s

/-- HEARTBEAT: the heartbeat of the Hub die reaches the participants of a mask (R45, R47). -/
def execHeartbeat (dt : Nat) (reached : BitVec 8) (s : State) : Host.Outcome State Fault Refusal :=
  let s := s.advance dt
  .next (foldState participants (fun d t => if reached.getLsbD d.val then t.beat d else t) s)

/-- HEARTBEAT_LOSS: a participant has received no heartbeat for 1 ms (R46). -/
def execHeartbeatLoss (dt : Nat) (d : DieId) (s : State) : Host.Outcome State Fault Refusal :=
  let s := s.advance dt
  let x := s.die d
  .next (if !participants.contains d || x.hubLost || !s.elapsed x.lastBeat (ms 1) then s
    else
      let s := s.modDie d fun y => { y with hubLost := true, backSince := none }
      if d.val < 3 then s.fenceServed d 0x0A 0
      else if h : 3 ≤ d.val ∧ d.val ≤ 6 then
        let s := foldState (servedBy d) (fun p t => (t.modPortal p fun y => { y with fsHeartbeat := true }).chansSync p) s
        s.fsDieEvent ⟨d.val - 3, by omega⟩ true 2
      else s)

/-! ## Time-stamp synchronisation (R50, R51, R59, R489) -/

/-- The nanoseconds of an offset in an event, saturated (R58 table). -/
def offs16 (o : Int) : Nat := (clampI (-32767) 32767 o % 65536).toNat

/-- A synchronisation fault of a die is declared (R51). -/
def State.syncFault (s : State) (d : DieId) (missing : Bool) : State :=
  if (s.die d).tsFault then s
  else
    let s := (s.modDie d fun x => { x with tsFault := true, tsGood := 0 }).raise 53 0x0035 (uDie d.val) (offs16 (s.die d).offset + 65536 * bit missing)
    if d = 0 then s.enterSafe 7 else s.fenceServed d 0x09 0

/-- A die's counter at a correction that measured an offset in ns from the master count: it has not stepped backward (R50; log 90). -/
def Die.caughtUp (x : Die) (master : Ts) (o : Int) : Ts :=
  let m := master + BitVec.ofInt 56 (o.tdiv 10)
  if 0 < (m - x.ts).toInt then m else x.ts

/-- TS_CORRECTION: a correction with its measured offset in ns, or none for 500 µs (R50, R51, R59). -/
def execTsCorrection (dt : Nat) (d : DieId) (offset : Option Int) (s : State) : Host.Outcome State Fault Refusal :=
  let s := s.advance dt
  .next (match offset with
    | some o =>
      let s := s.modDie d fun x => { x with
        ts := x.caughtUp s.ts o, slew := (s.ts - x.caughtUp s.ts o).toInt,
        lastCorr := s.ts, offset := o, tsBad := if 50 < |o| then x.tsBad + 1 else 0, tsGood := if |o| ≤ 20 then x.tsGood + 1 else 0 }
      if 3 ≤ (s.die d).tsBad then s.syncFault d false
      else if 10 ≤ (s.die d).tsGood then s.modDie d fun x => { x with tsFault := false } else s
    | none => if s.elapsed (s.die d).lastCorr (us 500) then s.syncFault d true else s)

/-- REFCLK_FAULT seen by the Hub die: SAFE after INIT (R489). -/
def execRefclkFault (dt : Nat) (s : State) : Host.Outcome State Fault Refusal := .next ((s.advance dt).enterSafe 7)

/-- PLL_UNLOCK: a synchronisation fault of a portal control or power die; a power die applies its fail-safe states; the recorder memory die holds
its writes (R489). -/
def execPllUnlock (dt : Nat) (d : DieId) (s : State) : Host.Outcome State Fault Refusal :=
  let s := (s.advance dt).modDie d fun x => { x with pllLost := true }
  .next (if d = 0 ∨ d = 7 ∨ s.mode = .init then s
    else
      let s := s.syncFault d false
      if h : 3 ≤ d.val ∧ d.val ≤ 6 then
        let s := foldState (servedBy d) (fun p t => (t.modPortal p fun y => { y with fsHeartbeat := true }).chansSync p) s
        s.fsDieEvent ⟨d.val - 3, by omega⟩ true 2
      else s)

/-- PLL_RELOCK: the die's clock is good again (R489). -/
def execPllRelock (dt : Nat) (d : DieId) (s : State) : Host.Outcome State Fault Refusal :=
  .next ((s.advance dt).modDie d fun x => { x with pllLost := false })

/-- A Dealim link's far dies (R58 table): 0 HD–PD0, 1 HD–PD1, 2–5 HD–PW0 to PW3, 6 HD–MD, 7–10 PD–PW. -/
def linkDies : Nat → DieId × DieId
  | 0 => (0, 1) | 1 => (0, 2) | 2 => (0, 3) | 3 => (0, 4) | 4 => (0, 5) | 5 => (0, 6) | 6 => (0, 7)
  | 7 => (1, 3) | 8 => (1, 4) | 9 => (2, 5) | _ => (2, 6)

/-- DEALIM_LINK_FAULT: event 50 of the die at one end; both portal control dies cut off from the Hub die enter SAFE (R38, R52, R495). A lost
power die has its portals fenced. -/
def execDealimLinkFault (dt : Nat) (link : Fin 11) (kind : Fin 3) (farEnd : Bool) (s : State) : Host.Outcome State Fault Refusal :=
  let s := s.advance dt
  let ends := linkDies link.val
  let d := if farEnd then ends.2 else ends.1
  let s := s.raiseAt d 50 0x0032 (uDie d.val) (link.val + 256 * kind.val)
  let down := decide (kind.val = 0)
  let s := { s with linksDown := if down then s.linksDown ||| (1#11 <<< link.val)
                                 else if kind.val = 1 then s.linksDown &&& ~~~(1#11 <<< link.val) else s.linksDown }
  let s := if down && decide (2 ≤ link.val) && decide (link.val ≤ 5) then s.fenceServed ends.2 0x08 (s.die ends.2).epoch.toNat else s
  .next (if down && s.linksDown.getLsbD 0 && s.linksDown.getLsbD 1 then s.enterSafe 9 else s)

/-! ## Requests for a mode (R33–R35, R43, R61, R451) -/

/-- The rest-state guard (R34). -/
def State.restGuard (s : State) : Bool :=
  s.zsConfirmed && allPortals.all fun p => !s.present p || [PState.locked, .isolated, .fenced].contains (s.portal p).state

/-- SEAL[15] reads 1 (R305). -/
def State.sealOpen (s : State) : Bool := s.sealer.live.getLsbD 15

/-- Leave MAINTAIN for CONFIGURE because SEAL[15] reads 0 (R37). -/
def State.leaveMaintain (s : State) : State :=
  let s := foldState allPortals (fun p t => (t.endJogs p).abortTunes p 7 stModeForbids) s
  let s := foldState [0, 1, 2] (fun (d : Fin 3) t => t.rejoin d none) s
  let had := decide (s.sealer.writes ≠ [])
  let s := { s with sealer := { s.sealer with writes := [] } }
  let s := if had then s.raise 44 0x002C 0 (s.sealer.live.toNat + 65536 * 3) else s
  if s.committing then s else s.startCommit .configure none none

end Sys2Proof.Machine
end

