-- ==== Sys2Proof/Machine/Sha256.lean ====
section
/-! DEFINITION. SHA-256 (FIPS 180-4), which R306, R359 and R491 name, on lists of bytes. The standard's constants are given as it defines them: the
first 32 bits of the fractional parts of the roots of the first primes. -/

namespace Sys2Proof.Machine.Sha256

/-- The word of the algorithm. -/
abbrev W := BitVec 32

/-- The largest number below 2 ^ n whose `e`-th power does not exceed `x`, added to `r` bit by bit. -/
def root (e x : Nat) : Nat → Nat → Nat
  | 0, r => r
  | n + 1, r => root e x n (if (r + 2 ^ n) ^ e ≤ x then r + 2 ^ n else r)

/-- The first 32 bits of the fractional part of the `e`-th root of `p`. -/
def rootBits (e p : Nat) : W := BitVec.ofNat 32 (root e (p * 2 ^ (32 * e)) 40 0)

/-- The primes below 312, which are the first 64. -/
def primes : List Nat := (List.range 312).filter fun p => decide (2 ≤ p) && (List.range 18).all fun d => d < 2 || decide (d = p) || decide (p % d ≠ 0)

/-- The 64 round constants: cube roots (FIPS 180-4, 4.2.2). -/
def k : List W := primes.map (rootBits 3)

/-- The initial hash value: square roots of the first eight primes (FIPS 180-4, 5.3.3). -/
def init : List W := (primes.take 8).map (rootBits 2)

/-- The exclusive or of a word rotated right by each of the amounts (the Σ functions, and the rotations of the σ functions). -/
def spin (l : List Nat) (x : W) : W := l.foldl (fun y n => y ^^^ x.rotateRight n) 0

/-- The schedule, newest word first: `n` more words after those of the block. -/
def extend : Nat → List W → List W
  | 0, l => l
  | n + 1, l =>
    let back := fun i => l.getD (i - 1) 0
    extend n ((back 16 + back 7 + (spin [7, 18] (back 15) ^^^ (back 15 >>> 3)) + (spin [17, 19] (back 2) ^^^ (back 2 >>> 10))) :: l)

/-- One round on the eight working variables a to h, held in that order. -/
def round (v : List W) (kw : W × W) : List W :=
  let x := fun i => v.getD i 0
  let choose := (x 4 &&& x 5) ||| (~~~(x 4) &&& x 6)
  let major := (x 0 &&& x 1) ||| (x 2 &&& (x 0 ||| x 1))
  let t := x 7 + kw.1 + kw.2 + choose + spin [6, 11, 25] (x 4)
  [t + major + spin [2, 13, 22] (x 0), x 0, x 1, x 2, x 3 + t, x 4, x 5, x 6]

/-- A big-endian word of four bytes, from a list of bytes. -/
def words : Nat → List Byte → List W
  | 0, _ => []
  | n + 1, l => BitVec.ofNat 32 ((l.take 4).foldl (fun a b => a * 256 + b.toNat) 0) :: words n (l.drop 4)

/-- One block of 64 bytes. -/
def block (h : List W) (b : List Byte) : List W :=
  let w := (extend 48 (words 16 b).reverse).reverse
  ((k.zip w).foldl round h).zipWith (· + ·) h

/-- The blocks of a padded message. -/
def blocks : Nat → List W → List Byte → List W
  | 0, h, _ => h
  | n + 1, h, l => blocks n (block h (l.take 64)) (l.drop 64)

/-- The `n` bytes of a number, most significant first. -/
def be : Nat → Nat → List Byte
  | 0, _ => []
  | n + 1, x => BitVec.ofNat 8 (x / 256 ^ n) :: be n x

/-- The digest of a message, 32 bytes: the message, a set bit, zeros and the length in bits fill whole blocks. -/
def digest (m : List Byte) : List Byte :=
  let zeros := (119 - m.length % 64) % 64
  let p := m ++ [0x80] ++ List.replicate zeros 0 ++ be 8 (8 * m.length)
  (blocks (p.length / 64) init p).flatMap fun w => be 4 w.toNat

end Sys2Proof.Machine.Sha256
end

