-- ==== Sys2Proof/Machine/Sealing.lean ====
section
/-! DEFINITION. The sealed parameter block and its reader (R305–R311, R493), the checks of a request for SERVICE (R61, R423), and MODE_REQUEST
(R33, R34, R451). -/

namespace Sys2Proof.Machine

/-! ## The block image (R306) -/

/-- The unit addresses at which a parameter of a scope exists, in ascending order (R18, R30). -/
def unitsOf : PScope → List Nat
  | .device => [0]
  | .die => (List.range 8).map uDie
  | .portal => allPortals.map uPortal
  | .leaf => allPortals.flatMap fun p => [uLeaf p 0, uLeaf p 1]
  | .step => allPortals.map uStep
  | .channel => allPortals.flatMap fun p => (List.finRange 8).map (uChan p)
  | .feedback => allPortals.flatMap fun p => (List.finRange 3).map (uFb p)

/-- Every sealed parameter with its unit and its value in a set of values, ordered by PID and then by unit (R306). -/
def sealedImage (vals : List ((Nat × Nat) × Int)) : List (Nat × Nat × Int) :=
  (List.range 16).flatMap fun sub => (ParamTable.ofSubsys sub).flatMap fun d =>
    if d.access = .srw then
      (List.range (d.last + 1 - d.first)).flatMap fun k => (unitsOf d.scope).map fun u => (d.first + k, u, (stored vals (d.first + k) u).getD d.dflt)
    else []

/-- The bytes of a record: PID, unit address and value (R306, R310). -/
def recordBytes (r : Nat × Nat × Int) : List Byte := le 2 r.1 ++ le 2 r.2.1 ++ leI 4 r.2.2

/-- The digest of a block image (R306). -/
def imageDigest (vals : List ((Nat × Nat) × Int)) : List Byte := Sha256.digest ((sealedImage vals).flatMap recordBytes)

/-- CONFIG_DIGEST: the image without the PIDs of SUBSYS 0x9 (R359). -/
def configDigest (vals : List ((Nat × Nat) × Int)) : List Byte :=
  Sha256.digest (((sealedImage vals).filter fun r => r.1 / 0x1000 ≠ 9).flatMap recordBytes)

/-- The switch code of a digest (R306). -/
def switchCode (d : List Byte) : Nat := ((d.getD 0 0).toNat + 256 * (d.getD 1 0).toNat) % 32768

/-- Values written over others. -/
def overlay (base writes : List ((Nat × Nat) × Int)) : List ((Nat × Nat) × Int) := writes.foldl (fun l e => store l e.1 e.2) base

/-- The copy in use: the higher commit count among those whose digest verifies (R306). -/
def Seal.committed (x : Seal) : Option SealCopy :=
  let a := x.copies[0]
  let b := x.copies[1]
  match decide (a.written ∧ a.intact), decide (b.written ∧ b.intact) with
  | true, true => some (if a.commits < b.commits then b else a)
  | true, false => some a
  | false, true => some b
  | false, false => none

/-- Neither copy has ever been written (R308). -/
def Seal.blank (x : Seal) : Bool := !x.copies[0].written && !x.copies[1].written

/-- SEAL_STORED (R320). -/
def Seal.stored (x : Seal) : Nat :=
  match x.committed with
  | some c => c.word.toNat
  | none => 0xFFFF

/-- SEAL_COMMITS (R320). -/
def Seal.commitCount (x : Seal) : Nat :=
  match x.committed with
  | some c => c.commits
  | none => 0

/-- The values of the committed block. -/
def Seal.base (x : Seal) : List ((Nat × Nat) × Int) :=
  match x.committed with
  | some c => c.records
  | none => []

/-- The pending image: the committed block with every uncommitted write applied (R310). -/
def Seal.pending (x : Seal) : List ((Nat × Nat) × Int) :=
  let base := match x.commit with
    | some c => overlay x.base c.writes
    | none => x.base
  overlay base x.writes

/-- The seal word matches the copy in use (R307). -/
def Seal.matches (x : Seal) : Bool :=
  match x.committed with
  | some c => decide (x.live.toNat % 32768 = c.word.toNat % 32768)
  | none => false

/-- The seal event (R322). -/
def State.sealEvent (s : State) (reason : Nat) : State := s.raise 44 0x002C 0 (s.sealer.live.toNat + 65536 * reason)

/-! ## Loading at an entry to CONFIGURE (R184, R266, R297, R306–R309, R493) -/

/-- Change every portal. -/
def State.eachPortal (s : State) (f : PortalId → State → State) : State := foldState allPortals f s

/-- The fail-safe registers take the committed values, or OFF (R266). -/
def State.loadFailSafe (s : State) (ok : Bool) : State :=
  let s := { s with sealer := { s.sealer with fsLoaded := ok } }
  s.eachPortal fun p t => (foldState (List.finRange 8) (fun c u =>
    u.modChan p c fun x => { x with fsReg := if ok then u.parN 0x7002 (uChan p c) else 0 }) t).chansSync p

/-- What changes with the sealed values in force: an interface whose FB_TYPE changes starts anew (R247), the current loops of a leaf that
becomes BRUSHED_DC are held (R146), and a step that is present for the first time since the power-up reports its position uncertain (R213; log 18). -/
def State.afterLoad (s : State) (old : View) : State :=
  s.eachPortal fun p t =>
    let t := foldState [0, 1, 2] (fun (f : FbId) u =>
      if old.val 0x6000 (uFb p f) = u.par 0x6000 (uFb p f) then u
      else u.fbRetype p f) t
    let t := foldState [0, 1] (fun (l : LeafId) u =>
      if u.leafMode p l = 2 ∧ old.val 0x2000 (uLeaf p l) ≠ 2 then
        foldState [0, 1] (fun (j : Fin 4) w => (w.endClosing (pdOf p) (leafSlot p l j)).modSlot (pdOf p) (leafSlot p l j) fun x => { x with mode := .hold }) u
      else u) t
    let t := if t.present p && t.stepFitted p && !(t.stepOf p).powerTold then
        (t.modStep p fun x => { x with powerTold := true }).raisePortal p 0x0331 (uStep p) 0
      else t
    t.modPortal p fun x => { x with ehLatch := false }

/-- SEAL_LOAD_COMPLETE: the load of the seal reader ends (R493). -/
def execSealLoadComplete (dt : Nat) (s : State) : Host.Outcome State Fault Refusal :=
  let s := s.advance dt
  let x := s.sealer
  .next (if !x.loading then s
    else
      let s := { s with sealer := { x with loading := x.again, again := false, loadDone := !x.again, blockOk := x.committed.isSome } }
      match x.committed with
      | some c =>
        if x.matches then
          let old := s.view
          let s := { s with sealer := { s.sealer with loaded := c.records, shadow := c.digest, config := configDigest c.records, mismatch := false } }
          ((s.afterLoad old).loadFailSafe true)
        else
          let s := (s.eachPortal fun p t => t.modPortal p fun y => { y with ehLatch := false }).loadFailSafe false
          if 2 ≤ x.mismatches then s.enterSafe 1 else s
      | none =>
        let s := (s.eachPortal fun p t => t.modPortal p fun y => { y with ehLatch := false }).loadFailSafe false
        if x.blank then s else (s.sealEvent 4).enterSafe 2)

/-! ## The continuous checks (R305, R307, R309) -/

/-- SEAL_READ: two samples 1 ms apart; a read whose samples differ is discarded (R305, R307, R37). -/
def execSealRead (dt : Nat) (first second : BitVec 16) (s : State) : Host.Outcome State Fault Refusal :=
  let s := s.advance dt
  .next (if first ≠ second then s
    else
      let changed := s.sealer.liveKnown && decide (s.sealer.live ≠ first)
      let s := { s with sealer := { s.sealer with live := first, liveKnown := true } }
      let s := if changed then s.sealEvent 0 else s
      let bad := s.sealer.committed.isSome && !s.sealer.matches
      let n := if bad then s.sealer.mismatches + 1 else 0
      let was := s.sealer.mismatch
      let s := { s with sealer := { s.sealer with mismatches := n, mismatch := decide (2 ≤ n) } }
      let s := if 2 ≤ n ∧ !was then s.sealEvent 1 else s
      -- in SAFE a mismatch that arises adds its bit (R38)
      let s := if 2 ≤ n ∧ (s.mode = .configure ∨ s.mode.door ∨ s.mode = .standby ∨ (s.mode = .safe ∧ !was)) then s.enterSafe 1 else s
      if s.mode = .maintain ∧ !s.sealOpen ∧ s.sealer.commit.isNone then s.leaveMaintain else s)

/-- SEAL_SHADOW_CHECK: loaded registers against the shadow, and its digest against the committed block, except in MAINTAIN and SAFE (R309). -/
def execSealShadowCheck (dt : Nat) (regsEqual : Bool) (s : State) : Host.Outcome State Fault Refusal :=
  let s := s.advance dt
  let x := s.sealer
  let digestBad := match x.committed with
    | some c => decide (x.shadow ≠ []) && decide (x.shadow ≠ c.digest) && decide (s.mode ≠ .maintain) && decide (s.mode ≠ .safe)
    | none => false
  .next (if !s.power.configured || x.loading then s
    else if !regsEqual || digestBad then (s.sealEvent 4).enterSafe 2 else s)

/-- A copy of the block fails its digest. -/
def Seal.spoil (x : Seal) : Seal :=
  match x.committed with
  | some c => { x with copies := x.copies.map fun (k : SealCopy) => if k = c then { k with intact := false } else k }
  | none => x

/-- SEAL_BLOCK_REVERIFY: the committed block is read again; a failure enters SAFE (R309). -/
def execSealBlockReverify (dt : Nat) (readable : Bool) (s : State) : Host.Outcome State Fault Refusal :=
  let s := s.advance dt
  .next (if !s.power.configured || s.sealer.committed.isNone || readable then s
    else ({ s with sealer := s.sealer.spoil }.sealEvent 4).enterSafe 2)

/-! ## Ownership over the whole device (R244–R246) -/

/-- The owners of the priority buffers of the controllers (R244, R423). -/
def canResources (v : View) : List (Nat × List Owner) :=
  (List.range 4).flatMap fun n => (List.range 8).map fun b =>
    (0x5000 + 256 * n + b,
      (if n < 2 then [0xB014, 0xB015, 0xB016].flatMap fun q => if v.names q 0 = some b then [(q, 0)] else [] else [])
      ++ (if (v.raw (0xA030 + 0x100 * n) 0).toNat.testBit b then [(0xA030 + 0x100 * n, 0)] else []))

/-- Every resource with its owners, in the order of R244. -/
def State.resources (s : State) (v : View) : List (Nat × List Owner) := s.portalResources v ++ canResources v

/-- The block of R246 for the first resource with two owners under a view; the present owner is one that owns it already. -/
def State.ownerConflict (s : State) (v : View) : Option (List Byte) :=
  let now := s.resources s.view
  (s.resources v).findSome? fun r =>
    if 2 ≤ r.2.length then
      let had := (now.find? fun q => q.1 = r.1).map (·.2)
      let o := ((r.2.find? fun o => (had.getD []).contains o).orElse fun _ => r.2.head?).getD (0, 0)
      some (le 2 r.1 ++ le 2 o.1 ++ le 2 o.2)
    else none

/-- Leaves of a pneumatic portal whose LEAF_MODE is not DISABLED (R95). -/
def View.pneuLeaf (v : View) : Option (PortalId × LeafId) :=
  allPortals.findSome? fun p => if v.pneumatic p then ([0, 1] : List LeafId).findSome? fun l =>
    if v.val 0x2000 (uLeaf p l) ≠ 0 then some (p, l) else none else none

/-! ## The checks of a request for SERVICE (R34, R61, R319, R344, R423, R457) -/

/-- The device-level checks, in their order. -/
def State.deviceChecks (s : State) : List (Nat × Bool) :=
  let v := s.view
  let ids := [0xB010, 0xB011, 0xB012, 0xB013]
  v.setAll [0] [0x8010, 0x8011, 0x8012, 0x8013, 0x9000]
  ++ v.setAll [0] ([0xB000, 0xB001, 0xB002, 0xB003, 0xB004, 0xB005, 0xB006] ++ ids ++ [0xB014, 0xB015, 0xB016, 0xB017])
  ++ [(0xB005, decide (v.val 0xB005 0 ≠ v.val 0xB000 0)), (0xB006, decide (v.val 0xB006 0 ≠ v.val 0xB000 0))]
  ++ (ids.zipIdx.map fun q => (q.1, (ids.take q.2).all fun r => decide (v.raw r 0 ≠ v.raw q.1 0)))
  ++ [(0xA00C, (v.n 0xA00C 0).testBit 0), (0xA10C, (v.n 0xA10C 0).testBit 0)]
  ++ [(0xD000, decide (v.val 0xD000 0 ≠ 1 ∨ s.wdg.state = 1))]

/-- What refuses a request for SERVICE from CONFIGURE: a status and the parameters of its reply (R61). -/
def State.serviceRefused (s : State) : Option (Nat × List Byte) :=
  if s.sealOpen || !s.sealer.matches || !s.sealer.blockOk || !s.sealer.loadDone then some (stSealed, detail 0xFFFF 0)
  else match s.checkAll s.view with
    | some (p, q) => some (stModeForbids, detail q (uPortal p))
    | none => match s.ownerConflict s.view with
      | some b => some (stResource, b)
      | none => match s.deviceChecks.find? fun c => !c.2 with
        | some c => some (stModeForbids, detail c.1 0)
        | none => none

/-! ## MODE_REQUEST (R33, R34, R43, R332, R451) -/

/-- What the transition table says of a request for a mode: refused, or a commit. The table has no row for the last pairs, and R34 states no status
for them: MODE_FORBIDS is the model's choice (DESIGN CHOICE, log 94). -/
def State.modeRefused (s : State) (target : Mode) : Option (Nat × List Byte) :=
  let no := some (stModeForbids, detail 0xFFFF 0)
  let shut := some (stSealed, detail 0xFFFF 0)
  match s.mode, target with
  | .configure, .test => none
  | .configure, .service => s.serviceRefused
  | .configure, .maintain => if s.sealOpen then none else shut
  | .service, .maintain | .degraded, .maintain => if !s.sealOpen then shut else if s.restGuard then none else no
  | .service, .configure | .degraded, .configure => if s.restGuard then none else no
  | .standby, .configure | .maintain, .configure => none
  | _, _ => no

/-- MODE_REQUEST (0x20). DESIGN CHOICE (log 94): a request for the present mode is DONE while a commit runs as well, where R33 says DONE and R43 says
MODE_FORBIDS; and a request for STANDBY or DEGRADED is BAD_PARAM in that mode too, where R33 states both BAD_PARAM and DONE. -/
def State.modeRequest (s : State) (h : Handle) (ps : List Byte) : State :=
  if h.unit ≠ 0 then s.refuse h stBadUnit
  else match Mode.ofCode (ps.getD 0 0).toNat with
    | none | some .init | some .standby | some .degraded => s.refuse h stBadParam
    | some m =>
      if m = s.mode then s.reply h stDone []
      else if m = .safe then (s.enterSafe 8).reply h stDone []
      else if s.committing ∨ (s.pair 0).scope = .split then s.refuse h stModeForbids
      else match s.modeRefused m with
        | some why => s.reply h why.1 why.2
        | none => (s.reply h stAccepted []).startCommit m (some h) none

/-! ## The seal commands (R310, R311) -/

/-- SEAL_STATUS (0x78); the start of the stored digest of a blank device is not stated: a free value. -/
def State.sealStatus (s : State) (h : Handle) (_ps : List Byte) : State :=
  if h.unit ≠ 0 then s.refuse h stBadUnit
  else
    let x := s.sealer
    let d := imageDigest x.pending
    let (free, s) := s.drawNat
    let st := match x.committed with
      | some c => c.digest.take 8
      | none => le 8 free
    s.reply h stDone (le 2 x.live.toNat ++ le 2 x.stored ++ le 4 x.commitCount
      ++ le 1 (bit (decide (x.writes ≠ [])) + 2 * bit x.blank + 4 * bit x.mismatch) ++ d.take 8 ++ le 2 (switchCode d) ++ st)

/-- What refuses a SEAL_COMMIT, in the order of R311. -/
def State.commitRefused (s : State) (start : List Byte) : Option (Nat × List Byte) :=
  let x := s.sealer
  let d := imageDigest x.pending
  let v : View := ⟨s.params, x.pending⟩
  if s.mode ≠ .maintain then some (stModeForbids, detail 0xFFFF 0)
  else if !s.sealOpen then some (stSealed, detail 0xFFFF 0)
  else if d.take 8 ≠ start then some (stBadParam, detail 0xFFFF 0)
  else if x.live.toNat % 32768 ≠ switchCode d then some (stSealed, detail 0xFFFF 0)
  else match s.checkAll v with
    | some (p, q) => some (stModeForbids, detail q (uPortal p))
    | none => match s.ownerConflict v with
      | some b => some (stResource, b)
      | none => match v.pneuLeaf with
        | some (p, l) => some (stResource, conflictBlock 6 p.val l.val 0x2000 (uLeaf p l))
        | none => if x.commit.isSome then some (stModeForbids, detail 0xFFFF 0) else none

/-- SEAL_COMMIT (0x79). -/
def State.sealCommit (s : State) (h : Handle) (ps : List Byte) : State :=
  if h.unit ≠ 0 then s.refuse h stBadUnit
  else match s.commitRefused (ps.take 8) with
    | some why => s.reply h why.1 why.2
    | none =>
      let s := s.reply h stAccepted []
      { s with sealer := { s.sealer with commit := some ⟨h, s.sealer.writes⟩, writes := [] } }

/-- SEAL_DISCARD (0x7A). -/
def State.sealDiscard (s : State) (h : Handle) (_ps : List Byte) : State :=
  if h.unit ≠ 0 then s.refuse h stBadUnit
  else
    let had := decide (s.sealer.writes ≠ [])
    let s := { s with sealer := { s.sealer with writes := [] } }
    (if had then s.sealEvent 3 else s).reply h stDone []

/-- SEAL_IMAGE_READ (0x7B). -/
def State.sealImageRead (s : State) (h : Handle) (ps : List Byte) : State :=
  let off := unLe (ps.take 2)
  let n := (ps.getD 2 0).toNat
  if h.unit ≠ 0 then s.refuse h stBadUnit
  else if n < 1 ∨ 32 < n then s.refuse h stOutOfRange
  else s.reply h stDone ((((sealedImage s.sealer.pending).drop off).take n).flatMap recordBytes)

/-- SEAL_COMMIT_DONE: the older copy holds the new block, read back and verified (R306, R311); the move to CONFIGURE that SEAL[15] asked for
meanwhile follows (R318). -/
def execSealCommitDone (dt : Nat) (s : State) : Host.Outcome State Fault Refusal :=
  let s := s.advance dt
  .next (match s.sealer.commit with
    | none => s
    | some c =>
      -- MRAM writes are blocked after a power-fail flush (R476)
      if s.recorder.blocked then s else
      let x := s.sealer
      let vals := overlay x.base c.writes
      let d := imageDigest vals
      let n := x.commitCount + 1
      let copy : SealCopy := ⟨true, vals, d, BitVec.ofNat 16 (switchCode d), n, true⟩
      let older : Fin 2 := match x.committed with
        | some k => if x.copies[0] = k then 1 else 0
        | none => 0
      let s := { s with sealer := { x with copies := x.copies.set older.val copy, commit := none, config := configDigest vals } }
      let s : State := (s.sealEvent 2).reply c.handle stDone (le 2 (switchCode d) ++ le 4 n)
      -- every commit in MAINTAIN runs the check again (R62)
      let s := if s.mode = .maintain then s.runChecks else s
      if s.mode = .maintain ∧ !s.sealOpen then s.leaveMaintain else s)

end Sys2Proof.Machine
end

