-- ==== Sys2Proof/Machine/Dcl.lean ====
section
/-! DEFINITION. Safety inputs (R289–R294), zero speed (R295), GPIs (R320), the two computations of DCL and its outputs (R296–R302), and the safety
reset (R312–R315). -/

namespace Sys2Proof.Machine

/-! ## Portal safety inputs (R290–R294) -/

/-- Event 0x0350 of a present portal (R294, R322). -/
def State.inputEvent (s : State) (p : PortalId) (n : Nat) (level : Bool) : State :=
  if s.present p then s.raisePortal p 0x0350 (uPortal p) (n + 256 * bit level + 65536 * (s.shownState p).code) else s

/-- SAFETY_INPUT_CHANGE: a level is accepted; before the first sample it is the level that the first sample will find (R290, R292). -/
def execSafetyInputChange (dt : Nat) (p : PortalId) (n : Fin 12) (level : Bool) (s : State) : Host.Outcome State Fault Refusal :=
  let s := s.advance dt
  let x := s.portal p
  .next (if x.si[n] = level then s
    else
      let s1 := s.modPortal p fun y => { y with si := y.si.set n.val level }
      if !x.siAdopted then s1
      else
        let k : Fin 3 := ⟨(n.val - 2) / 2 % 3, by omega⟩
        let s1 := if 2 ≤ n.val ∧ n.val ≤ 7 ∧ (decide (s.pairSt p k = 2) != decide (s1.pairSt p k = 2)) then
            s1.modPortal p fun y => { y with pairSince := y.pairSince.set k.val s.ts }
          else s1
        -- SE0, SE1 or OBS active, after SI_POL and SI_FITTED: a traversal is no longer clean (R172, R291)
        let s1 := if (n.val = 8 ∧ s1.se0 p) ∨ (n.val = 9 ∧ s1.twoLeaves p ∧ s1.se1 p) ∨ (n.val = 11 ∧ s1.obs p) then s1.notClean p else s1
        ((s1.inputEvent p n.val level).lockWatch p).contactWatch p)

/-- A bit of SI_FAULT is set: the portal is fenced with cause 0x06; an absent portal reports it alone (R293, R294, R298). PARAM of event
0x0206 has the layout of R322, not the 0 that R99 gives for other causes (log 94, DESIGN CHOICE). -/
def State.siFaultSet (s : State) (p : PortalId) (b : Nat) (extra : Nat) : State :=
  if (s.portal p).siFault.getLsbD b then s
  else
    let s := s.modPortal p fun x => { x with siFault := setBit x.siFault b true }
    if s.present p then s.fence p 0x06 (uPortal p) (b + extra)
    else s.raiseAt (pdDie p) (8 + p.val) 0x0206 (uPortal p) (b + extra)

/-- A bit of SI_FAULT clears. -/
def State.siFaultClear (s : State) (p : PortalId) (b : Nat) : State :=
  s.modPortal p fun x => { x with siFault := setBit x.siFault b false }

/-- SI_DISCREPANCY: a pair has been DISCREPANT for SI_DISC_TIME (R293). -/
def execSiDiscrepancy (dt : Nat) (p : PortalId) (pair : Fin 3) (s : State) : Host.Outcome State Fault Refusal :=
  let s := s.advance dt
  let x := s.portal p
  .next (if x.siAdopted && s.pairSt p pair = 2 && s.elapsed x.pairSince[pair] (ms (s.parN 0x8004 (uPortal p))) then s.siFaultSet p pair.val 0 else s)

/-- SI_DISCREPANCY_CLEAR: a pair has agreed for 100 ms (R293). -/
def execSiDiscrepancyClear (dt : Nat) (p : PortalId) (pair : Fin 3) (s : State) : Host.Outcome State Fault Refusal :=
  let s := s.advance dt
  let x := s.portal p
  .next (if x.siAdopted && s.pairSt p pair ≠ 2 && s.elapsed x.pairSince[pair] (ms 100) then s.siFaultClear p pair.val else s)

/-- SI_PLAUSIBILITY: a check's condition has lasted 200 ms (R294). -/
def execSiPlausibility (dt : Nat) (p : PortalId) (chk : Fin 3) (s : State) : Host.Outcome State Fault Refusal :=
  let s := s.advance dt
  let s := s.plausWatch p
  .next (if s.implausible p chk && s.elapsed (s.portal p).plaus[chk].2 (ms 200) then s.siFaultSet p (3 + chk.val) 0 else s)

/-- SI_PLAUSIBILITY_CLEAR: 100 ms without the condition (R294). -/
def execSiPlausibilityClear (dt : Nat) (p : PortalId) (chk : Fin 3) (s : State) : Host.Outcome State Fault Refusal :=
  let s := s.advance dt
  let s := s.plausWatch p
  .next (if !s.implausible p chk && s.elapsed (s.portal p).plaus[chk].2 (ms 100) then s.siFaultClear p (3 + chk.val) else s)

/-! ## Zero speed and GPIs (R295, R320) -/

/-- ZS_INPUT_CHANGE: a level of ZS_A or ZS_B is accepted (R295). -/
def execZsInputChange (dt : Nat) (isB : Bool) (level : Bool) (s : State) : Host.Outcome State Fault Refusal :=
  let s := s.advance dt
  let x := s.safety
  let y := if isB then { x with zsB := level } else { x with zsA := level }
  let y := if x.zsAdopted && (decide (x.zsA = x.zsB) != decide (y.zsA = y.zsB)) then { y with zsSince := s.ts } else y
  .next ({ s with safety := y }.zsReport)

/-- ZS_FAULT changes: event 0x002E, with any change of ZS_CONFIRMED that it brings (R295). -/
def State.setZsFault (s : State) (v : Bool) : State :=
  let s := { s with safety := { s.safety with zsFault := v } }
  { s with safety := { s.safety with zsShown := s.zsConfirmed } }.zsEvent

/-- ZS_DISCREPANCY: the pair has been DISCREPANT for ZS_DISC_TIME (R295). -/
def execZsDiscrepancy (dt : Nat) (s : State) : Host.Outcome State Fault Refusal :=
  let s := s.advance dt
  let x := s.safety
  .next (if x.zsAdopted && x.zsA = x.zsB && !x.zsFault && s.elapsed x.zsSince (ms (s.parN 0x8011 0)) then s.setZsFault true else s)

/-- ZS_FAULT_CLEAR: the pair has agreed for 1 s (R295). -/
def execZsFaultClear (dt : Nat) (s : State) : Host.Outcome State Fault Refusal :=
  let s := s.advance dt
  let x := s.safety
  .next (if x.zsAdopted && x.zsA ≠ x.zsB && x.zsFault && s.elapsed x.zsSince (ms 1000) then s.setZsFault false else s)

/-- GPI_CHANGE: a level of a GPI is accepted; its event is raised when its bit of GPI_EVT_ENABLE is set (R320). -/
def execGpiChange (dt : Nat) (n : Fin 10) (level : Bool) (s : State) : Host.Outcome State Fault Refusal :=
  let s := s.advance dt
  let x := s.safety
  let s1 := { s with safety := { x with gpi := x.gpi.set n.val level } }
  .next (if x.gpiAdopted && decide (x.gpi[n] ≠ level) && (s.parN 0x8015 0).testBit n.val then
      s1.raise (54 + n.val) (0x0036 + n.val) 0 (bit level)
    else s1)

/-! ## DCL terms (R296–R298) -/

/-- The firmware term of a portal (R296). -/
def State.fwTermOf (s : State) (p : PortalId) : Bool :=
  !s.present p || s.shownState p = .isolated ||
    (s.shownState p = .locked && s.lockedCond p && s.lkLocked p && s.pairSt p 1 = 0 && s.pairSt p 2 = 0)

/-- A mask of firmware or hardware terms (R320). -/
def State.termMask (s : State) (f : Portal → Bool) : Nat := maskOf (allPortals.filter fun p => f (s.portal p))

/-- Event 0x002F (R322). -/
def State.dclEvent (s : State) : State :=
  s.raise 47 0x002F 0 (bit s.safety.driven + 256 * s.safety.dclFault.toNat + 65536 * s.termMask (·.fwTerm) + 16777216 * s.termMask (·.hwTerm))

/-- A bit of DCL_FAULT is set (R301, R302). -/
def State.dclFaultSet (s : State) (b : Nat) : State :=
  if s.safety.dclFault.getLsbD b then s
  else { s with safety := { s.safety with dclFault := setBit s.safety.dclFault b true } }.dclEvent

/-- DCL_FW_RENEWAL: firmware renews its eight terms (R296); a halted or restarting Hub pair renews none (R327, R337). -/
def execDclFwRenewal (dt : Nat) (s : State) : Host.Outcome State Fault Refusal :=
  let s := s.advance dt
  .next (if s.mode = .init ∨ (s.pair 0).scope = .restarting ∨ (s.pair 0).halted then s
    else
      let s := { s with safety := { s.safety with fwAt := s.ts } }
      s.eachPortal fun p t => t.modPortal p fun x => { x with fwTerm := t.fwTermOf p })

/-- FW_STALL: no renewal for 2 ms; every firmware term is false (R296). -/
def execFwStall (dt : Nat) (s : State) : Host.Outcome State Fault Refusal :=
  let s := s.advance dt
  .next (if s.mode ≠ .init ∧ s.elapsed s.safety.fwAt (ms 2) then
      (s.eachPortal fun p t => t.modPortal p fun x => { x with fwTerm := false }).dclFaultSet 6
    else s)

/-- The portals of a portal control die. -/
def pdPortals (d : PdId) : List PortalId := allPortals.filter fun p => pdOf p = d

/-- The conditions that must hold for LOCK_SETTLE in the hardware term (R297). -/
def State.hwCond (s : State) (p : PortalId) : Bool :=
  let x := s.portal p
  !x.fencedHw && !x.ehLatch && s.closedContacts p && s.lkLocked p && (!s.stepFitted p || s.stw p) && x.win
    && s.pairSt p 1 = 0 && s.pairSt p 2 = 0

/-- The frame of one portal: WIN, EH_LATCH and the hardware term (R297). -/
def State.inputFrame (s : State) (p : PortalId) : State :=
  let eh := s.ehActive p
  let s := s.modPortal p fun x => { x with
    win := s.inWindow p, ehLatch := x.ehLatch || (eh && !x.ehPrev && !s.isActive p), ehPrev := eh }
  let ok := s.hwCond p
  let since := if ok then (match (s.portal p).hwSince with
    | some t => some t
    | none => some s.ts) else none
  s.modPortal p fun x => { x with
    hwSince := since, hwTerm := !s.present p || s.isActive p || s.ran since (ms (s.parN 0x1044 (uPortal p))) }

/-- DCL_INPUT_FRAME: the frame of a portal control die reaches the DCL logic (R297). -/
def execDclInputFrame (dt : Nat) (d : PdId) (s : State) : Host.Outcome State Fault Refusal :=
  let s := s.advance dt
  .next (if !s.power.configured then s
    else foldState (pdPortals d) (fun p t => t.inputFrame p) { s with safety := { s.safety with frameAt := s.safety.frameAt.set d.val s.ts } })

/-- DCL_FRAME_MISSING: no frame for 1 ms makes the terms of that die's portals false (R297). -/
def execDclFrameMissing (dt : Nat) (d : PdId) (s : State) : Host.Outcome State Fault Refusal :=
  let s := s.advance dt
  .next (if s.elapsed s.safety.frameAt[d] (ms 1) then
      foldState (pdPortals d) (fun p t => t.modPortal p fun x => { x with hwTerm := false, hwSince := none }) s
    else s)

/-- The terms are compared (R298). -/
def State.comparing (s : State) : Bool :=
  s.mode.runs || (s.mode = .standby && s.partner.adopted.isSome && !s.elapsed s.partner.adoptedAt (ms 10))

/-- DCL_TERM_COMPARE: each portal's firmware term with its hardware term (R298). -/
def execDclTermCompare (dt : Nat) (s : State) : Host.Outcome State Fault Refusal :=
  let s := s.advance dt
  .next (s.eachPortal fun p t => t.modPortal p fun x =>
    if !s.comparing then { x with differSince := none, agreeSince := none }
    else if x.fwTerm = x.hwTerm then
      { x with differSince := none, agreeSince := if x.agreeSince.isSome then x.agreeSince else some s.ts }
    else { x with agreeSince := none, differSince := if x.differSince.isSome then x.differSince else some s.ts })

/-- DCL_TERM_DISAGREE: the terms have differed for 10 ms (R298). -/
def execDclTermDisagree (dt : Nat) (p : PortalId) (s : State) : Host.Outcome State Fault Refusal :=
  let s := s.advance dt
  let x := s.portal p
  .next (if s.comparing && s.ran x.differSince (ms 10) then s.siFaultSet p 6 (256 * bit x.hwTerm + 512 * bit x.fwTerm) else s)

/-- DCL_TERM_AGREE: the terms have agreed for 100 ms (R298). -/
def execDclTermAgree (dt : Nat) (p : PortalId) (s : State) : Host.Outcome State Fault Refusal :=
  let s := s.advance dt
  .next (if s.ran (s.portal p).agreeSince (ms 100) then s.siFaultClear p 6 else s)

/-! ## The driven DCL (R299–R302) -/

/-- The conditions of the driven DCL (R299, R497). -/
def State.dclTrue (s : State) : Bool :=
  s.mode.door && s.claim.held && allPortals.any (fun p => s.present p)
    && allPortals.all (fun p => (s.portal p).fwTerm && (s.portal p).hwTerm) && s.safety.dclFault = 0 && !s.power.pfail

/-- The level that DCL_A carries (R300); DCL_B carries the inverse while the wave runs. -/
def Safety.levelA (x : Safety) : Bool := x.driven && x.waveHigh
/-- The level that DCL_B carries (R300). -/
def Safety.levelB (x : Safety) : Bool := x.driven && !x.waveHigh

/-- DCL_HALF_PERIOD: at a multiple of 500 µs the driven DCL is judged, and the wave starts, toggles or stops (R300). -/
def execDclHalfPeriod (dt : Nat) (s : State) : Host.Outcome State Fault Refusal :=
  let s := s.advance dt
  let x := s.safety
  let now := s.dclTrue
  .next (if s.ts.toNat % us 500 ≠ 0 then s
    else
      let y := { x with driven := now, waveHigh := now && !(x.driven && x.waveHigh) }
      if now = x.driven then { s with safety := y }
      else { s with safety := { y with drivenSince := s.ts, reachA := decide (x.rbA = now), reachB := decide (x.rbB = now) } }.dclEvent)

/-- One check of a ball against its driven level: agreeing checks since the last disagreement, and whether the fault is found (R301). -/
def pinCheck (hist : Option Nat) (agree : Bool) : Option Nat × Bool :=
  if agree then
    (match hist with
     | some n => if n + 1 < 2 then some (n + 1) else none
     | none => none, false)
  else (some 0, hist.isSome)

/-- DCL_BALL_CHECK: the levels of the DCL_A and DCL_B balls, 250 µs into a half-period (R301). -/
def execDclBallCheck (dt : Nat) (ballA ballB : Bool) (s : State) : Host.Outcome State Fault Refusal :=
  let s := s.advance dt
  let x := s.safety
  let a := pinCheck x.pinA (decide (ballA = x.levelA))
  let b := pinCheck x.pinB (decide (ballB = x.levelB))
  let s := { s with safety := { x with ballA := ballA, ballB := ballB, pinA := a.1, pinB := b.1 } }
  let s := if a.2 then s.dclFaultSet 0 else s
  .next (if b.2 then s.dclFaultSet 1 else s)

/-- DCL_READBACK_CHANGE: a readback follows the driven DCL and then stays, while the device holds the claim (R301). -/
def execDclReadbackChange (dt : Nat) (isB : Bool) (level : Bool) (s : State) : Host.Outcome State Fault Refusal :=
  let s := s.advance dt
  let x := s.safety
  let reached := if isB then x.reachB else x.reachA
  let ok := decide (level = x.driven)
  let s := { s with safety := if isB then { x with rbB := level, reachB := reached || ok } else { x with rbA := level, reachA := reached || ok } }
  .next (if s.claim.held && !ok && reached then s.dclFaultSet ((if x.driven then 2 else 4) + bit isB) else s)

/-- DCL_PICKUP_DROP_TIMEOUT: DCL_PICKUP_MAX or DCL_DROP_MAX has passed without the expected readback (R301). -/
def execDclPickupDropTimeout (dt : Nat) (isB : Bool) (s : State) : Host.Outcome State Fault Refusal :=
  let s := s.advance dt
  let x := s.safety
  let reached := if isB then x.reachB else x.reachA
  let lim := ms (s.parN (if x.driven then 0x8012 else 0x8013) 0)
  .next (if s.claim.held && !reached && s.elapsed x.drivenSince lim then s.dclFaultSet ((if x.driven then 2 else 4) + bit isB) else s)

/-! ## Safety reset (R312–R315, R318) -/

/-- Event 0x002D (R322). -/
def State.resetEvent (s : State) (reason asserted : Nat) : State := s.raise 45 0x002D 0 (reason + 65536 * min 65535 (asserted / 100000))

/-- DCL_FAULT clears when both readbacks and both balls read low and renewals arrive (R302). -/
def State.clearDclFault (s : State) : State :=
  let x := s.safety
  if x.dclFault ≠ 0 ∧ !x.rbA ∧ !x.rbB ∧ !x.ballA ∧ !x.ballB ∧ !s.elapsed x.fwAt (ms 2) then
    { s with safety := { x with dclFault := 0 } }.dclEvent
  else s

/-- A clean edge takes effect (R315, R318): in SAFE it starts the way out, and in every mode it clears DCL_FAULT. An edge that meets a new SAFE
cause, or the commit that leaves SAFE, has no effect. -/
def State.cleanEdge (s : State) (asserted : Nat) : State :=
  let fresh := match s.safety.causeAt with
    | some t => !s.elapsed t (us 100)
    | none => false
  if fresh || (s.mode = .safe && s.committing) then s.resetEvent 6 asserted
  else
    let s := (s.resetEvent 0 asserted).clearDclFault
    if s.mode = .safe then s.startCommit (if s.modeCause &&& 0x18#16 = 0 then .configure else .test) none none else s

/-- A press ends: the first reason that makes it no clean edge (R313, R314). -/
def State.pressEnd (s : State) (x : Press) : State :=
  let s1 := { s with safety := { s.safety with press := none, jammed := false } }
  if s.safety.jammed then s1.resetEvent 5 ((x.runEnd.getD s.ts).since (x.run.getD s.ts))
  else match x.asserted with
  | none => if x.reported then s1 else s1.resetEvent 4 0
  | some t =>
    let left := x.leaving.getD s.ts
    let held := left.since t
    if x.reported then s1
    else if x.voided then s1.resetEvent 6 held
    else if held < ms 50 then s1.resetEvent 1 held
    else if ms 2000 < held then s1.resetEvent 2 held
    else if ms 100 < s.ts.since left then s1.resetEvent 4 held
    else s1.cleanEdge held

/-- SAFETY_RESET_EDGE: the debounced levels of the pair, as a press is judged (R312, R313). A pair that has not become ASSERTED 100 ms after the
press began is reported then. -/
def execSafetyResetEdge (dt : Nat) (a b : Bool) (s : State) : Host.Outcome State Fault Refusal :=
  let s := s.advance dt
  let was := pairState s.safety.srA s.safety.srB
  let st := pairState a b
  let s := { s with safety := { s.safety with srA := a, srB := b } }
  let p : Option Press := match s.safety.press with
    | some x => some x
    | none => if st = 0 then none else some ⟨s.ts, none, none, none, none, false, false⟩
  .next (match p with
    | none => s
    | some x =>
      let x := if st = 1 ∧ x.asserted.isNone ∧ !(ms 100 < s.ts.since x.start) then { x with asserted := some s.ts } else x
      let x := if was = 1 ∧ st ≠ 1 ∧ x.leaving.isNone then { x with leaving := some s.ts } else x
      let x := if st = 1 ∧ was ≠ 1 then { x with run := some s.ts, runEnd := none } else if was = 1 ∧ st ≠ 1 then { x with runEnd := some s.ts } else x
      if st = 0 then s.pressEnd x
      else if x.asserted.isNone && !x.reported && !x.voided && s.elapsed x.start (ms 100) then
        { s with safety := { s.safety with press := some { x with reported := true } } }.resetEvent 4 0
      else { s with safety := { s.safety with press := some x } })

/-- SAFETY_RESET_JAM: the pair has been ASSERTED for 10 s without a break (R314). -/
def execSafetyResetJam (dt : Nat) (s : State) : Host.Outcome State Fault Refusal :=
  let s := s.advance dt
  .next (match s.safety.press with
    | some x =>
      if !s.safety.jammed && pairState s.safety.srA s.safety.srB = 1 && s.ran x.run (ms 10000) then
        { s with safety := { s.safety with jammed := true } }.resetEvent 3 (s.ts.since (x.run.getD s.ts))
      else s
    | none => s)

/-! ## Status words (R321) -/

/-- SI_STATUS; 0 before the first sample (R290). -/
def State.siStatus (s : State) (p : PortalId) : Nat :=
  let x := s.portal p
  if !x.siAdopted then 0
  else
    ((List.finRange 12).foldl (fun m n => m + 2 ^ n.val * bit x.si[n]) 0)
      + 2 ^ 12 * s.pairSt p 0 + 2 ^ 14 * s.pairSt p 1 + 2 ^ 16 * s.pairSt p 2
      + 2 ^ 18 * (bit (s.cl0 p) + 2 * bit (s.cl1 p) + 4 * bit (s.se0 p) + 8 * bit (s.se1 p) + 16 * bit (s.stw p) + 32 * bit (s.obs p))
      + 2 ^ 24 * bit x.ehLatch + 2 ^ 25 * bit x.fencedHw + 2 ^ 26 * bit x.win + 2 ^ 27 * bit x.hwTerm + 2 ^ 28 * bit x.fwTerm

/-- SAFETY_STATUS. -/
def State.safetyStatus (s : State) : Nat :=
  let x := s.safety
  let y := s.sealer
  (if x.zsAdopted then pairState x.zsA x.zsB else 0) + 4 * bit x.zsFault + 8 * bit s.zsConfirmed + 16 * pairState x.srA x.srB + 64 * bit x.jammed
    + 128 * bit (allPortals.all fun p => (s.portal p).fwTerm) + 256 * bit (allPortals.all fun p => (s.portal p).hwTerm)
    + 512 * bit x.driven + 1024 * bit x.rbA + 2048 * bit x.rbB + 4096 * bit s.sealOpen + 8192 * bit y.mismatch
    + 16384 * bit (!y.blank) + 32768 * bit y.blockOk + 65536 * bit (decide (y.writes ≠ []))

end Sys2Proof.Machine
end

