-- ==== Sys2Proof/Machine/Lockstep.lean ====
section
/-! DEFINITION. Lockstep pairs, split and rejoin, ECC errors, the debug port (R323–R342, R496). -/

namespace Sys2Proof.Machine

/-! ## Mismatches (R327, R328) -/

/-- The portal of a partition of an Eclair: its local portals are partitions 0–3 (R328). -/
def partPortal (d : Fin 3) (part : Nat) : Option PortalId :=
  if d = 0 ∨ 3 < part then none else some ⟨(4 * (d.val - 1) + part) % 8, by omega⟩

/-- A pair that is held stopped completes none of the commands that waited for its restart (R331, R442). -/
def State.dropHeld (s : State) (d : Fin 3) : State :=
  let l := (s.pair d).held
  foldState l (fun c t => t.refuse c.handle stInternal) (s.modPair d fun x => { x with held := [] })

/-- A restart ends a split whose handover is to come, and a rejoin whose first exchange is to come: INTERNAL (R333, R334, R342). -/
def State.dropBarrier (s : State) (d : Fin 3) : State :=
  let s := s.dropSplit d stInternal
  let reply := (s.pair d).rejoinReply
  let s := s.modPair d fun x => { x with rejoining := false, rejoinReply := none, diag := if x.scope = .split ∧ x.diag = 1 then 0 else x.diag }
  match reply with
  | some h => s.refuse h stInternal
  | none => s

/-- A mismatch or a divergence of a pair (R327, R330): `who` is the portal that it is attributed to. -/
def State.pairFails (s : State) (d : Fin 3) (kind part : Nat) (who : Option PortalId) : State :=
  let r := s.pair d
  if s.mode = .init ∨ r.scope = .held then s
  else
    let again := decide (r.scope = .restarting) || r.recovering
    let s := s.dropBarrier d
    let s := s.modPair d fun x => { x with mismatches := inc32 x.mismatches, lastMismatch := some s.ts }
    let unit := match who with
      | some p => if again then uDie d.val else uPortal p
      | none => uDie d.val
    let s := s.pairEvent d kind part unit
    if d = 0 then (s.modPair d fun x => { x with scope := .restarting }).enterSafe 3
    else if again then
      let s := ((s.modPair d fun x => { x with scope := .held, recovering := false }).pairEvent d 8 0xF (uDie d.val)).dropHeld d
      s.fenceServed (pairDie d) 0x05 0
    else
      let s := s.modPair d fun x => { x with scope := .restarting }
      match who with
      | some p => s.fence p 0x05 (uPortal p) 0
      | none => s.fenceServed (pairDie d) 0x05 0

/-- The rejoin has failed (R334): a mismatch that is not attributed, and INTERNAL. -/
def State.rejoinFails (s : State) (d : Fin 3) (kind part : Nat) : State :=
  (s.pairEvent d 7 part (uDie d.val)).pairFails d kind part none

/-- LOCKSTEP_MISMATCH at the boundary of a pair (R323, R324, R328): nothing is compared while the die is split (R333), and before the first
exchange after a rejoin the rejoin has failed (R342). -/
def execLockstepMismatch (dt : Nat) (d : Fin 3) (a : Attribution) (s : State) : Host.Outcome State Fault Refusal :=
  let s := s.advance dt
  let same := decide (a.partMain = a.partCheck)
  let part := if same then a.partMain.val else 0xF
  .next (if (s.pair d).scope = .split then s
    else if (s.pair d).rejoining then s.rejoinFails d 0 part
    else s.pairFails d 0 part (if same && a.inRegion then partPortal d a.partMain.val else none))

/-- The first exchange after a release agrees (R334, R335): LOCKSTEP_REJOIN is done; a failed diagnostic of the Hub die leads to SAFE. -/
def State.rejoined (s : State) (d : Fin 3) : State :=
  let reply := (s.pair d).rejoinReply
  let s := s.modPair d fun x => { x with rejoining := false, rejoinReply := none }
  let s := match reply with
    | some h => s.reply h stDone []
    | none => s
  if d = 0 ∧ (s.pair d).diag = 3 then s.enterSafe 3 else s

/-- SIGNATURE_EXCHANGE at a 1 ms boundary (R326, R330, R334, R337): skipped while the pair is halted, split, restarting or held. -/
def execSignatureExchange (dt : Nat) (d : Fin 3) (agree : Bool) (part : Fin 5) (s : State) : Host.Outcome State Fault Refusal :=
  let s := s.advance dt
  let r := s.pair d
  .next (if s.mode = .init ∨ r.halted ∨ r.scope = .split ∨ r.scope = .restarting ∨ r.scope = .held then s
    else if agree then
      let s := if r.recovering then s.modPair d fun x => { x with agreed := x.agreed + 1 } else s
      if r.rejoining then s.rejoined d else s
    else if r.rejoining then s.rejoinFails d 1 part.val
    else s.pairFails d 1 part.val (partPortal d part.val))

/-- COMPARATOR_SELF_TEST (R325); suspended while the die is split (R333). -/
def execComparatorSelfTest (dt : Nat) (d : Fin 3) (pass : Bool) (s : State) : Host.Outcome State Fault Refusal :=
  let s := s.advance dt
  .next (if s.mode = .init ∨ (s.pair d).scope = .split then s
    else
      let s := s.modPair d fun x => { x with tests := inc32 x.tests, testFails := if pass then x.testFails else satInc 65535 x.testFails }
      if pass then s else (s.pairEvent d 2 0xF (uDie d.val)).enterSafe 4)

/-- CORE_WATCHDOG_EXPIRY: handled as a signature divergence of the die (R496). -/
def execCoreWatchdogExpiry (dt : Nat) (d : Fin 3) (part : Fin 5) (s : State) : Host.Outcome State Fault Refusal :=
  .next ((s.advance dt).pairFails d 1 part.val (partPortal d part.val))

/-- RECOVERY_COMPLETE: 1,000 consecutive exchanges have agreed (R330). -/
def execRecoveryComplete (dt : Nat) (d : Fin 3) (s : State) : Host.Outcome State Fault Refusal :=
  let s := s.advance dt
  let r := s.pair d
  .next (if r.recovering ∧ 1000 ≤ r.agreed then
      (s.modPair d fun x => { x with recovering := false, agreed := 0, scope := s.pairScope }).pairEvent d 4 0xF (uDie d.val)
    else s)

/-! ## Split and rejoin (R332–R335, R340) -/

/-- The pair of a lockstep address (R340). -/
def pairOfUnit (u : Nat) : Option (Fin 3) := if u = 0x4000 then some 0 else if u = 0x4100 then some 1 else if u = 0x4200 then some 2 else none

/-- Every present portal of a pair's die is FENCED (R332, R336). -/
def State.allFenced (s : State) (d : Fin 3) : Bool :=
  (servedBy (pairDie d)).all fun p => !s.present p || decide (s.shownState p = .fenced)

/-- LOCKSTEP_SPLIT (0x28), checked in the order of R332. -/
def State.lockstepSplit (s : State) (h : Handle) (_ps : List Byte) : State :=
  match pairOfUnit h.unit.toNat with
  | none => s.refuse h stBadUnit
  | some d =>
    let r := s.pair d
    if !(s.mode = .maintain || (d = 0 && s.mode = .standby)) then s.refuse h stModeForbids
    else if d ≠ 0 && !s.allFenced d then s.refuse h stModeForbids
    else if r.scope = .restarting || r.recovering || r.scope = .held then s.refuse h stModeForbids
    else if s.committing then s.refuse h stModeForbids
    else if r.scope = .split then s.reply h stDone []
    else if r.splitting.isSome then s.refuse h stModeForbids
    else (s.reply h stAccepted []).modPair d fun x => { x with splitting := some h }

/-- SPLIT_HANDOVER_DONE at the signature point that follows (R333). -/
def execSplitHandoverDone (dt : Nat) (d : Fin 3) (agree : Bool) (s : State) : Host.Outcome State Fault Refusal :=
  let s := s.advance dt
  .next (match (s.pair d).splitting with
    | none => s
    | some h =>
      if agree then
        let s := s.modPair d fun x => { x with splitting := none }
        ((s.modPair d fun x => { x with scope := .split, diag := 1 }).pairEvent d 5 0xF (uDie d.val)).reply h stDone []
      else s.pairFails d 1 0xF none)

/-- LOCKSTEP_REJOIN (0x29). -/
def State.lockstepRejoin (s : State) (h : Handle) (_ps : List Byte) : State :=
  match pairOfUnit h.unit.toNat with
  | none => s.refuse h stBadUnit
  | some d => if (s.pair d).scope ≠ .split then s.refuse h stModeForbids else s.rejoin d (some h)

/-- The codes of the scopes (R340). -/
def Scope.code : Scope → Nat
  | .coreOnly => 0 | .coreCaches => 1 | .split => 2 | .restarting => 3 | .held => 4

/-- LOCKSTEP_STATUS (0x2A). -/
def State.lockstepStatus (s : State) (h : Handle) (_ps : List Byte) : State :=
  match pairOfUnit h.unit.toNat with
  | none => s.refuse h stBadUnit
  | some d =>
    let r := s.pair d
    s.reply h stDone (le 1 r.scope.code ++ le 1 r.diag ++ le 4 r.mismatches ++ le 4 r.tests ++ le 2 r.testFails ++ le 4 r.eccCorr
      ++ le 4 r.eccUncorr ++ le 8 ((r.lastMismatch.getD 0).toNat))

/-- DIAGNOSTIC_FAILED: the secondary image reports a failed diagnostic (R335). -/
def execDiagnosticFailed (dt : Nat) (d : Fin 3) (s : State) : Host.Outcome State Fault Refusal :=
  let s := s.advance dt
  .next (if (s.pair d).scope = .split then (s.modPair d fun x => { x with diag := 3 }).pairEvent d 9 0xF (uDie d.val) else s)

/-! ## ECC (R338, R339) -/

/-- A corrected error: event 35 at most once every 100 ms for a die (R339). -/
def State.eccCorrected (s : State) (d : DieId) (memory : Nat) : State :=
  let s := if h : d.val < 3 then s.modPair ⟨d.val, h⟩ fun x => { x with eccCorr := inc32 x.eccCorr } else s
  let n := (s.die d).eccPend + 1
  let due := match (s.die d).eccLast with
    | some t => s.elapsed t (ms 100)
    | none => true
  if due then
    (s.modDie d fun x => { x with eccPend := 0, eccLast := some s.ts }).raiseAt d 35 0x0023 (uDie d.val) (memory + 256 * min 16777215 n)
  else s.modDie d fun x => { x with eccPend := n }

/-- An uncorrectable error and its reaction (R338). -/
def State.eccUncorrectable (s : State) (d : DieId) (memory region index : Nat) : State :=
  let who := if h : d.val < 3 then (if memory < 2 then partPortal ⟨d.val, h⟩ region else none) else none
  let unit := match who with
    | some p => uPortal p
    | none => uDie d.val
  let s := s.raiseAt d 36 0x0024 unit (memory + 16 * region + 256 * (index % 2 ^ 24))
  if h : d.val < 3 then
    let s := s.modPair ⟨d.val, h⟩ fun x => { x with eccUncorr := inc32 x.eccUncorr }
    if d = 0 then s.enterSafe 6
    else match who with
      | some p => s.fence p 0x12 (uPortal p) 0
      | none =>
        let k : Fin 3 := ⟨d.val, h⟩
        let s := s.fenceServed d 0x12 0
        if (s.pair k).scope = .held ∨ s.mode = .init then s else (s.dropBarrier k).modPair k fun x => { x with scope := .restarting, recovering := false }
  else if d = 7 then
    match region with
    | 5 =>
      let b : Fin 2 := if index < 65536 then 0 else 1
      { s with power := { s.power with banks := s.power.banks.set b.val { s.power.banks[b] with bad := (index % 65536) :: s.power.banks[b].bad } } }
    | 6 => { s with sealer := s.sealer.spoil }.enterSafe 2
    | 7 =>
      let k := Config.mapBlock index % 32
      let c : Fin 2 := ⟨k % 2, by omega⟩
      s.modDet ⟨k / 4, by omega⟩ ⟨k / 2 % 2, by omega⟩ fun x => { x with copies := x.copies.set c.val none }
    | 9 =>
      let k := Config.otherBlock index
      let r := s.recorder
      if h : k < 64 then { s with recorder := { r with slots := r.slots.set k none } }
      else if k = 64 then { s with power := { s.power with boot := s.power.boot.set 0 none } }
      else if k = 65 then { s with power := { s.power with boot := s.power.boot.set 1 none } }
      else if k = 66 then
        { s with recorder := { r with saved := r.saved.map fun x => { x with snap := none } } }
      else s
    | _ => s
  else s

/-- ECC_ERROR: one error that the scrub or an access meets (R338, R339). -/
def execEccError (dt : Nat) (d : DieId) (memory : Fin 3) (region : Fin 10) (uncorrectable : Bool) (index : Nat) (s : State) :
    Host.Outcome State Fault Refusal :=
  let s := s.advance dt
  .next (if uncorrectable then s.eccUncorrectable d memory.val region.val index else s.eccCorrected d memory.val)

/-! ## Debug port (R336, R337) -/

/-- A private debug instruction reaches the main core of a die: MAINTAIN, SEAL[15] = 1, and an Eclair with every present portal FENCED. -/
def State.debugAllowed (s : State) (d : Fin 3) : Bool := s.mode = .maintain && s.sealOpen && (d = 0 || s.allFenced d)

/-- DEBUG_INSTRUCTION: halt and resume are state of the pair; the other instructions change nothing that the manual names, and EXTEST and CLAMP
act as BYPASS outside POR_N. -/
def execDebugInstruction (dt : Nat) (i : DebugInstr) (s : State) : Host.Outcome State Fault Refusal :=
  let s := s.advance dt
  .next (match i with
    | .halt d => if s.debugAllowed d then s.modPair d fun x => { x with halted := true } else s
    | .resume d => if s.debugAllowed d then s.modPair d fun x => { x with halted := false } else s
    | _ => s)

end Sys2Proof.Machine
end

