-- ==== Sys2Proof/Machine/SnapOps.lean ====
section
/-! DEFINITION. The content of a snapshot (R361), its adoption by the standby (R175, R363), and what a takeover restores from it (R218, R364–R366). -/

namespace Sys2Proof.Machine

/-! ## The snapshot that a device takes (R361) -/

/-- The codes of the leaf drive states (R104). -/
def Drive.code : Drive → Nat
  | .off => 0 | .starting => 1 | .aligning => 2 | .position => 3 | .creep => 4 | .force => 5 | .brake => 6 | .tripped => 7

/-- The codes of the step drive states (R197). -/
def StepDrive.code : StepDrive → Nat
  | .off => 0 | .shorted => 1 | .holding => 2 | .moving => 3 | .homing => 4 | .tripped => 5

/-- The portal state of a code (R64). -/
def PState.ofCode (n : Nat) : PState :=
  ([.absent, .isolated, .locked, .stepDeploy, .unlocking, .opening, .open, .closing, .reopening, .locking, .stepStow, .emergency, .fenced, .jog]
    : List PState).getD n .absent

/-- ms in a number of 10 ns counts, saturated. -/
def msOf (mx counts : Nat) : Nat := min mx (counts / 100000)

/-- Whole ms that a timer has left. -/
def State.msLeft (s : State) (t : Option Ts) (total : Nat) : Nat :=
  match t with
  | some t => min 65535 ((total * 100000 - s.ts.since t) / 100000)
  | none => 0

/-- ELEC_REF is valid: encoder operation with a reference of its own, on a referenced interface. -/
def State.elecValid (s : State) (p : PortalId) (l : LeafId) : Bool :=
  s.leafMode p l = 1 && (s.fb p (fbOfLeaf l)).referenced &&
    ((s.angleSource p l = some 2 && (s.leaf p l).aligned) || (s.angleSource p l = some 1 && (s.leaf p l).hallRef))

/-- A leaf's sub-block. -/
def State.snapLeaf (s : State) (p : PortalId) (l : LeafId) : SnapLeaf :=
  let x := s.leaf p l
  let d := x.det
  let dc : Int := (x.c0 - (s.fb p (fbOfLeaf l)).c0).toInt
  { drive := x.drive.code
    flags := BitVec.ofNat 8 (bit (d.status.getLsbD 3) + 2 * bit d.clean + 4 * bit d.declClamp.isSome + 8 * bit (d.status.getLsbD 8)
      + 16 * bit (d.status.getLsbD 9) + 32 * bit (s.elecValid p l))
    elecRef := BitVec.ofInt 16 ((x.theta0.toNat : Int) - quant (65536 * 256 * (dc : Rat) / (s.parN 0x2003 (uLeaf p l) : Rat)))
    xT := x.target
    vCmd := quant (x.vCmd * 100)
    u := (List.finRange 4).map fun j => (s.slot (pdOf p) (leafSlot p l j)).u
    peakFOpp := d.peakFOpp
    peakE := d.peakE }

/-- The step's sub-block. -/
def State.snapStep (s : State) (p : PortalId) : SnapStep :=
  let x := s.stepOf p
  { drive := x.drive.code
    flags := BitVec.ofNat 8 (bit x.uncertain + 2 * bit (s.stepStill p) + 4 * bit x.homed + 8 * bit (decide (x.drive = .homing)) + 16 * bit x.delta.isSome)
    phi := x.phi
    phi0 := x.phi0
    delta := quant (x.delta.getD 0)
    phiT := x.phiT
    homeCorr := x.homeCorr }

/-- The field causes of R364, bit c for cause c: 0x01, 0x02, 0x03, 0x06, 0x0B–0x10, 0x13. -/
def fieldCauses : BitVec 32 := 0x0009F84E#32

/-- A portal's block. -/
def State.snapPortal (s : State) (p : PortalId) : SnapPortal :=
  let x := s.portal p
  let u := uPortal p
  let cyc := x.cycle
  let close : Nat := match cyc with
    | some c => match c.lockingTs, c.closingTs with
      | some _, _ => tenMs 4095 c.closeTime
      | none, some t => tenMs 4095 (s.ts.since t)
      | none, none => 0
    | none => 0
  let lock : Nat := match cyc with
    | some c => match c.lockingTs with
      | some t => msOf 65535 (s.ts.since t)
      | none => 0
    | none => 0
  { pstate := (s.shownState p).code
    fenceCause := BitVec.ofNat 8 (s.shownCause p)
    flags := BitVec.ofNat 16 (s.portalFlags p)
    recloses := x.recloses
    seqFlags := BitVec.ofNat 8 (bit x.openForce + 2 * bit x.closeForce + 4 * bit x.pause.isSome + 8 * bit (decide (0 < x.openObst)) + 16 * bit cyc.isSome
      + 32 * bit (decide (x.causes &&& fieldCauses = 0)) + 64 * bit x.jogFromOpen)
    stateTime := msOf 65535 (s.ts.since x.since)
    timer := if x.pause.isSome then s.msLeft x.pause (s.parN 0x1043 u) else if x.dwell.isSome then s.msLeft x.dwell (s.parN 0x1042 u)
      else s.msLeft x.warn (s.parN 0x1040 u)
    closeTime := close
    reopenTarget := max x.reopen[0] x.reopen[1]
    leaves := [s.snapLeaf p 0, s.snapLeaf p 1]
    step := s.snapStep p
    hostDemand := BitVec.ofNat 8 ((List.finRange 8).foldl (fun m c => m + 2 ^ c.val * bit (s.chan p c).hostDemand) 0)
    pulseLeft := (List.finRange 8).map fun c => match (s.chan p c).pulseEnd with
      | some t => min 65535 (t.since s.ts / 100000)
      | none => 0
    cycleElapsed := match cyc with
      | some c => s.ts.since c.start / 100000
      | none => 0
    openTime := match cyc with
      | some c => msOf 65535 (c.openTime.getD 0)
      | none => 0
    obstCount := match cyc with
      | some c => min 255 c.obst
      | none => 0
    lockElapsed := lock }

/-- The snapshot of this instant, with a sequence number. -/
def State.snapshot (s : State) (seq : BitVec 32) : Snapshot :=
  { crcOk := true
    version := BitVec.ofNat 8 s.partner.version
    length := 1356
    seq := seq
    ts := s.ts
    mode := BitVec.ofNat 8 s.mode.code
    epoch := s.epoch
    claimWord := s.claim.own
    present := BitVec.ofNat 8 (maskOf (allPortals.filter fun p => s.present p))
    fenced := BitVec.ofNat 8 (s.stateMask .fenced)
    digest := s.sealer.config
    txSeq := [s.tele.seqDcl.toNat, s.tele.seqState.toNat, 0, 0, 0, 0, 0, 0]
    genU := ([0, 1] : List PdId).map fun d => (List.finRange 32).map fun k => (s.slot d ⟨32 + k.val, by omega⟩).u
    portals := allPortals.map s.snapPortal }

/-! ## Adoption (R67, R175, R363) -/

/-- A leaf's block of a snapshot. -/
def snapLeafOf (b : SnapPortal) (l : LeafId) : SnapLeaf := b.leaves.getD l.val ⟨0, 0, 0, 0, 0, [], 0, 0⟩

/-- What the standby cannot see makes the traversals in progress not clean (R175): a declaration, the OBSTACLE_INPUT flag, a fence, a gap in the
snapshots, or on one leaf FF_SEEN or EF_SEEN. -/
def State.snapSpoils (s : State) (p : PortalId) (b : SnapPortal) (fenced gap : Bool) : State :=
  let declared := ([0, 1] : List LeafId).any fun l => (snapLeafOf b l).flags.getLsbD 0
  if declared || b.flags.getLsbD 13 || fenced || gap then s.notClean p
  else foldState [0, 1] (fun (l : LeafId) t =>
    if (snapLeafOf b l).flags &&& 0x18 ≠ 0 then t.modDet p l fun d => { d with clean := false } else t) s

/-- The reported state of a portal follows an adopted snapshot, and so do the shadow detectors: traversals start and end with the states, and what
the standby cannot see comes from the flags, for the traversal that ends with the snapshot as for the one that starts (R175). `gap` says that no
snapshot was adopted for more than 10 ms. -/
def State.adoptPortal (s : State) (p : PortalId) (b : SnapPortal) (fenced gap : Bool) : State :=
  let old := (s.portal p).state
  let new := PState.ofCode b.pstate
  let s := s.snapSpoils p b fenced gap
  let s := if old = new then s
    else match old with
      | .opening => s.traversalEnd p true (decide (new = PState.open) && !b.flags.getLsbD 3)
      | .closing => s.traversalEnd p false (decide (new = .locking))
      | _ => s
  let s := s.modPortal p fun x => { x with state := new, since := if old = new then x.since else s.ts }
  let s := foldState [0, 1] (fun (l : LeafId) t => t.modLeaf p l fun x => { x with vCmd := ((snapLeafOf b l).vCmd : Rat) / 100, target := (snapLeafOf b l).xT }) s
  let s := if old ≠ new ∧ (new = .opening ∨ new = .closing) then (s.latchAll p).traversalStart p else s
  s.snapSpoils p b fenced gap

/-- A snapshot is adopted. -/
def State.adopt (s : State) (z : Snapshot) : State :=
  let gap := match s.partner.adopted with
    | some _ => s.elapsed s.partner.adoptedAt (ms 10 + 1)
    | none => false
  let s := { s with partner := { s.partner with adopted := some z, adoptedAt := s.ts, snapLast := z.seq } }
  foldState (allPortals.zip z.portals) (fun e t => if t.present e.1 then t.adoptPortal e.1 e.2 (z.fenced.getLsbD e.1.val) gap else t) s

/-! ## Restoring (R281, R364–R366) -/

/-- A time that lies a number of ms and counts back. -/
def State.back (s : State) (msN counts : Nat) : Ts := s.ts - BitVec.ofNat 56 (ms msN + counts)

/-- The start of a timer of `total` ms that had `left` ms to run at the capture, the age passed. -/
def State.startFor (s : State) (total left age : Nat) : Ts := s.ts - BitVec.ofNat 56 age + BitVec.ofNat 56 (ms left) - BitVec.ofNat 56 (ms total)

/-- What a die loads before T in a warm takeover: general slots, host demands and pulses (R366). -/
def State.loadGeneral (s : State) (z : Snapshot) : State :=
  let s := foldState ([0, 1] : List PdId) (fun d t => foldState (List.finRange 32) (fun k u =>
    u.modSlot d ⟨32 + k.val, by omega⟩ fun y => { y with u := (z.genU.getD d.val []).getD k.val 0, preset := true }) t) s
  foldState (allPortals.zip z.portals) (fun e t =>
    if t.present e.1 then
      (foldState (List.finRange 8) (fun c u =>
        let left := e.2.pulseLeft.getD c.val 0
        u.modChan e.1 c fun y => { y with
          hostDemand := e.2.hostDemand.getLsbD c.val
          pulseReply := none
          pulseEnd := if 0 < left then some (u.ts + BitVec.ofNat 56 (ms left)) else none }) t).chansSync e.1
    else t) s

/-- A leaf in a warm takeover: held outputs, angle reference, profile, detector (R366). -/
def State.restoreLeaf (s : State) (p : PortalId) (l : LeafId) (b : SnapLeaf) : State :=
  let s := foldState (List.finRange 4) (fun (j : Fin 4) t =>
    t.modSlot (pdOf p) (leafSlot p l j) fun y => { y with u := b.u.getD j.val 0, preset := true }) s
  let f := s.fb p (fbOfLeaf l)
  let ref := b.flags.getLsbD 5 && f.referenced
  let s := s.modLeaf p l fun x => { x with
    target := b.xT, holding := false, stopping := false, carry := true,
    theta0 := if ref then b.elecRef else x.theta0, c0 := if ref then f.c0 else x.c0, aligned := x.aligned || ref }
  s.modDet p l fun d => { d with
    declared := b.flags.getLsbD 0, peakFOpp := b.peakFOpp, peakE := b.peakE,
    status := d.status ||| (if b.flags.getLsbD 0 then 0x08#16 else 0#16) ||| (if b.flags.getLsbD 3 then 0x100#16 else 0#16)
      ||| (if b.flags.getLsbD 4 then 0x200#16 else 0#16) }

/-- The step in a warm takeover (R218). -/
def State.restoreStep (s : State) (p : PortalId) (b : SnapStep) : State :=
  let moving := decide (b.drive = 3 ∨ b.drive = 4) && !b.flags.getLsbD 1
  let delta : Option Rat := if b.flags.getLsbD 4 then some (b.delta : Rat) else none
  let s := s.modStep p fun x => { x with
    phi0 := b.phi0, delta := delta, homed := b.flags.getLsbD 2, homeCorr := b.homeCorr, v := 0, w := 0, acc := 0,
    phi := if moving then x.phi else b.phi, phiT := if moving then x.phiT else b.phi, uncertain := if moving then x.uncertain else b.flags.getLsbD 0 }
  if moving then (if s.f2Confirms p then s.adoptF2 p else s.stepUncertain p 3 (s.portal p).state.code) else s

/-- The door cycle in a warm takeover (R366, R468). -/
def State.restoreCycle (s : State) (b : SnapPortal) (age : Nat) : Option Cycle :=
  if !b.seqFlags.getLsbD 4 then none
  else
    let st := PState.ofCode b.pstate
    let locked := decide (b.lockElapsed ≠ 0)
    some { start := s.back b.cycleElapsed age
           openTime := if b.openTime = 0 then none else some (ms b.openTime)
           closingTs := if locked ∨ b.closeTime = 0 then none else some (s.back (10 * b.closeTime) (if st = .closing then age else 0))
           closeTime := ms (10 * b.closeTime)
           lockingTs := if locked then some (s.back b.lockElapsed (if st = .locking ∨ st = .stepStow then age else 0)) else none
           obst := b.obstCount
           homeCorr := b.step.homeCorr
           flags := 0x08 ||| (if b.flags.getLsbD 3 then 0x02#8 else 0) ||| (if b.recloses ≠ 0 then 0x04#8 else 0)
             ||| (if st = .fenced ∨ st = .emergency ∨ st = .isolated then 0x10#8 else 0) }

/-- A portal takes its state from the snapshot (R365, R366). Of the close warning and the reclose dwell the snapshot does not say which one
runs: a free value says it (log 8). -/
def State.restorePortal (s : State) (p : PortalId) (b : SnapPortal) (age : Nat) : State :=
  let st := PState.ofCode b.pstate
  let u := uPortal p
  let (v, s) := s.drawNat
  let pendingClose := decide (st = PState.open) && b.flags.getLsbD 2
  let warns := pendingClose && decide (v % 2 = 0)
  let dwells := pendingClose && !warns
  let f := b.seqFlags
  let since := s.back b.stateTime age
  let tgt := fun (l : LeafId) => min (s.openPos p l) b.reopenTarget
  let s := s.modPortal p fun x => { x with
    state := st, since := since, timer := some since, recloses := b.recloses, closePending := b.flags.getLsbD 2, partialOpen := b.flags.getLsbD 3,
    closeFailed := b.flags.getLsbD 4, openForce := f.getLsbD 0, openRefs := [], closeForce := f.getLsbD 1, closeRefs := [],
    openObst := bit (f.getLsbD 3), jogFromOpen := f.getLsbD 6, stopPartial := false, closeStart := b.recloses, reopenFull := false,
    reopen := #v[tgt 0, tgt 1],
    warn := if warns then some (s.startFor (s.parN 0x1040 u) b.timer age) else none,
    dwell := if dwells then some (s.startFor (s.parN 0x1042 u) b.timer age) else none,
    pause := if f.getLsbD 2 then some (s.startFor (s.parN 0x1043 u) b.timer age) else none,
    cycle := s.restoreCycle b age }
  let s := match st with
    | .opening | .closing | .reopening | .unlocking | .locking => s.latchAll p
    | _ => s
  let s := ((s.leafOutputs p st).stepOutputs p st).roleOutputs p st
  -- a homing run has its own timeout (R77)
  let s := if (s.stepOf p).drive = .homing then s.modPortal p fun x => { x with timer := none } else s
  foldState (s.leaves p) (fun l t => t.restoreLeaf p l (snapLeafOf b l)) s

/-- A portal of the winner takes its state (R364, R365): a pending cause fences; a warm takeover takes the snapshot, with internal causes and JOG
left to the resting evaluation; a cold one takes the resting evaluation. The flag says whether the state came from the snapshot and runs on. -/
def State.takeOver (s : State) (p : PortalId) : State × Bool :=
  let warm := decide ((s.portal p).start = 2)
  let s := s.modPortal p fun x => { x with start := 0 }
  let block := if warm then s.partner.adopted.bind fun z => (z.portals[p.val]?) else none
  -- the step takes its count whatever state the portal takes (R218)
  let s := match block with
    | some b => s.restoreStep p b.step
    | none => s
  if s.causePending p then (s.enterKept p, false)
  else match block with
    | none => (s.resting p, false)
    | some b =>
      match PState.ofCode b.pstate with
      | .jog | .absent => (s.resting p, false)
      | .fenced =>
        if b.seqFlags.getLsbD 5 then (s.resting p, false)
        else
          let c := b.fenceCause.toNat
          let s := s.modPortal p fun x => { x with
            state := .fenced, fenceCause := c, causes := x.causes ||| (1#32 <<< c), cycle := s.restoreCycle b s.snapAge, recloses := b.recloses }
          (s.enterFenced p, false)
      | _ => (s.restorePortal p b s.snapAge, true)

end Sys2Proof.Machine
end

