-- ==== Sys2Proof/Machine/Pairing.lean ====
section
/-! DEFINITION. Pairing (R344–R373): the claim word, claim frames, who holds the claim, the Swetric link, heartbeats, snapshots, yields; the moment at
which a commit takes effect, and the sequencer evaluation with its takeover. -/

namespace Sys2Proof.Machine

/-! ## Health and the claim word (R350, R351) -/

/-- The device is PRIMARY, which an unset PAIR_ROLE also makes it (R344, R350, R521). -/
def State.primary (s : State) : Bool := s.par 0x9000 0 = 0

/-- F of R351: present portals that are FENCED or, in STANDBY, hold a pending cause. -/
def State.healthF (s : State) : Nat :=
  (allPortals.filter fun p => s.present p && (s.shownState p = .fenced || (s.mode = .standby && s.causePending p))).length

/-- L of R351: channels of present portals in OC_LATCHED or THERMAL_LATCHED. -/
def State.healthL (s : State) : Nat :=
  (allPortals.map fun p => if s.present p then ((List.finRange 8).filter fun c => s.chState p c = 4 || s.chState p c = 5).length else 0).sum

/-- A snapshot has been adopted within the last 10 ms. -/
def State.snapFresh (s : State) : Bool := s.partner.adopted.isSome && !s.elapsed s.partner.adoptedAt (ms 10 + 1)

/-- The conditions of K, in the order of R351. -/
def State.healthK (s : State) : List Bool :=
  [!s.partner.linkUp || s.partner.version = 0, s.claim.wireA.faulty, s.claim.wireB.faulty, s.mode = .standby && !s.snapFresh]

/-- HEALTH is 0 (R351, R371). -/
def State.healthZero (s : State) : Bool :=
  s.mode = .configure || s.mode = .safe || s.power.pfail || s.claim.yield.isSome ||
    (match s.partner.hbSentAt with
      | some t => s.elapsed t (ms 2)
      | none => true)

/-- HEALTH (R351). -/
def State.health (s : State) : Nat :=
  if s.healthZero then 0
  else max 1 (127 - 12 * s.healthF - 2 * min s.healthL 8 - 8 * (s.healthK.filter id).length)

/-- The claim word (R350). -/
def State.claimWord (s : State) : BitVec 16 :=
  BitVec.ofNat 16 (512 * s.health + 256 * bit s.claim.heldEnd + 128 * bit s.primary + Config.unitSerial.toNat % 128)

/-! ## Claim frames (R348, R349, R352) -/

/-- The bits, of those below bit n, that a device still drives: it goes on while no released bit reads low. Gives the mask of driven bits and
whether it has lost (R349). -/
def driveBits (word level : BitVec 16) : Nat → BitVec 16 → Bool → BitVec 16 × Bool
  | 0, m, lost => (m, lost)
  | n + 1, m, lost =>
    if lost then driveBits word level n m true
    else if word.getLsbD n then driveBits word level n (setBit m n true) false
    else driveBits word level n m (level.getLsbD n)

/-- The set bits among the frames kept. -/
def countBits (x : BitVec 16) : Nat := ((List.range 16).filter fun k => x.getLsbD k).length

/-- A wire after a frame (R352): `mine` and `other` are its levels and the other wire's, low as 1; `driven` the bits that this device drove. -/
def Wire.afterFrame (w : Wire) (mine other driven : BitVec 16) (stuck : Bool) : Wire :=
  let high := ~~~mine &&& other
  let isOpen := decide (high &&& ~~~driven ≠ 0)
  let isDrv := decide (high &&& driven ≠ 0)
  let ob := (w.openBad <<< 1) ||| (if isOpen then 1#16 else 0#16)
  let db := if isDrv then w.drvBad + 1 else 0
  let bad := stuck || decide (2 ≤ countBits ob) || decide (2 ≤ db)
  let good := if stuck || isOpen || isDrv then 0 else w.good + 1
  if bad ∧ !w.faulty then ⟨true, ob, db, 0⟩
  else if w.faulty ∧ 64 ≤ good then ⟨false, 0, 0, 0⟩
  else ⟨w.faulty, ob, db, good⟩

/-- CLAIM_FRAME_START: the claim word is latched and the frame runs (R348–R352). -/
def execClaimFrameStart (dt : Nat) (smp : ClaimSample) (s : State) : Host.Outcome State Fault Refusal :=
  let s := s.advance dt
  let c := s.claim
  let level := (if c.wireA.faulty then 0 else smp.wireA) ||| (if c.wireB.faulty then 0 else smp.wireB)
  let part := s.mode.fromConfigure
  let own := s.claimWord
  let (driven, lost) := if part then driveBits own level 16 0 false else (0#16, true)
  let both := part && decide (driven &&& ~~~smp.wireA &&& ~~~smp.wireB ≠ 0)
  let wa := c.wireA.afterFrame smp.wireA smp.wireB driven smp.stuckA
  let wb := c.wireB.afterFrame smp.wireB smp.wireA driven smp.stuckB
  let won := part && !lost
  let changed := decide (wa.faulty ≠ c.wireA.faulty) || decide (wb.faulty ≠ c.wireB.faulty)
  let s := { s with claim := { c with
    own := if part then own else c.own, win := if won then own else level, took := part, won := won, ack := part && (smp.ack || lost),
    wireA := wa, wireB := wb, bothBad := if both then c.bothBad + 1 else 0 } }
  -- the manual gives a change of a wire fault no reason in event 31: a free value (log 8)
  let s := if changed then (let (v, t) := s.drawNat; t.claimEvent (v % 8) false) else s
  .next (if 2 ≤ s.claim.bothBad then { s with claim := { s.claim with bothBad := 0 } }.claimFailure else s)

/-! ## Taking and dropping the claim (R243, R301, R354, R367) -/

/-- The A/B state that echo levels show: A leads B for positive steps (R242). -/
def echoState (a b : Bool) : Nat := match a, b with
  | false, false => 0 | true, false => 1 | true, true => 2 | false, true => 3

/-- What the loss of the claim cuts on a portal (R181, R183, R211): a step stops at once, energy-fence brakes and valve overrides end. -/
def State.cutPortal (s : State) (p : PortalId) : State :=
  let x := s.stepOf p
  let s := if s.stepFitted p ∧ (x.drive = .moving ∨ x.drive = .homing) then s.stepStop p (s.standstill p) else s
  let s := foldState [0, 1] (fun (l : LeafId) t => (t.endEfBrake p l).syncSlots p l) s
  s.modPortal p fun y => { y with valveOff := Vector.replicate 2 false }

/-- DCL_A and DCL_B are no longer driven (R303, R354). -/
def State.dclCut (s : State) : State :=
  let x := s.safety
  if x.driven then { s with safety := { x with driven := false, waveHigh := false, drivenSince := s.ts, reachA := !x.rbA, reachB := !x.rbB } }.dclEvent
  else s

/-- The device stops holding the claim. -/
def State.dropClaim (s : State) (reason : Nat) : State :=
  let s := { s with claim := { s.claim with held := false, since := s.ts } }.claimEvent reason false
  let s := ((foldState allPortals (fun p t => t.cutPortal p) s).dclCut.allChansSync).teleCancel
  let s := if s.mode = .maintain then foldState allPortals (fun p t => (t.endJogs p).abortTunes p 7 stModeForbids) s else s
  s.claimAct

/-- The device starts holding the claim; its outputs follow after 50 µs. -/
def State.takeClaim (s : State) (reason : Nat) : State :=
  let s := { s with claim := { s.claim with held := true, since := s.ts } }.claimEvent reason false
  let x := s.safety
  let s := { s with safety := { x with drivenSince := s.ts, reachA := decide (x.rbA = x.driven), reachB := decide (x.rbB = x.driven) } }
  let s := foldState allPortals (fun p t =>
    match t.parNames 0x6033 (uPortal p), t.parNames 0x6034 (uPortal p) with
    | some a, some b => t.modPortal p fun y => { y with echo := { y.echo with ab := echoState (y.aux.getLsbD a) (y.aux.getLsbD b) } }
    | _, _ => t) s
  s.allChansSync.claimAct

/-- Isolated (R353). -/
def State.isolated (s : State) : Bool :=
  (decide (8 ≤ s.claim.noAck) || (s.claim.wireA.faulty && s.claim.wireB.faulty)) && s.partner.lost

/-- The levels of the AUX pins as the input logic reads them at the frame end (R243, R244). -/
def State.auxRead (s : State) (levels : BitVec 32) : State :=
  foldState allPortals (fun p t => t.modPortal p fun x => { x with aux := levels.extractLsb' (4 * p.val) 4 }) s

/-- CLAIM_FRAME_END: who holds the claim for the next 250 µs (R353–R357); the channels of a device that goes on holding it decide again (R264). -/
def execClaimFrameEnd (dt : Nat) (st : ClaimStatus) (s : State) : Host.Outcome State Fault Refusal :=
  let s := s.advance dt
  let c := s.claim
  let s := { s with claim := { c with noAck := if c.ack then 0 else c.noAck + 1 } }
  let iso := s.isolated
  let n : Option Nat := if iso then (match c.isoFrames with
    | some k => some (k + 1)
    | none => some 0) else none
  let s := ({ s with claim := { s.claim with isoFrames := n } }).auxRead st.aux
  let lineLost := c.wireA.faulty && c.wireB.faulty
  let guard := match n with
    | some k => s.primary && decide (4 ≤ k)
    | none => false
  let hold := s.mode.fromConfigure && !(iso && !s.primary) &&
    (if lineLost then guard else c.won && (c.ack || c.heldEnd || guard))
  let s := if hold ∧ !c.held then s.takeClaim (if iso then 2 else 0)
    else if !hold ∧ c.held then s.dropClaim (if iso && !s.primary then 3 else if c.yield.isSome then 4 else 1)
    else if hold then s.allChansSync
    else s
  let s := { s with claim := { s.claim with heldEnd := s.claim.held } }
  .next (if st.ballWon ≠ s.claim.held ∨ !st.gatesOk then s.claimFailure else s)

/-! ## Swetric (R358–R360) -/

/-- Event 30 (R373). -/
def State.swetricEvent (s : State) (reason : Nat) : State :=
  s.raise 30 0x001E 0 (reason + 256 * s.partner.version + 65536 * (s.partner.discarded % 65536))

/-- SWETRIC_LINK_CHANGE (R358). -/
def execSwetricLinkChange (dt : Nat) (up : Bool) (s : State) : Host.Outcome State Fault Refusal :=
  let s := s.advance dt
  .next (if s.partner.linkUp = up then s
    else
      let s := { s with partner := { s.partner with linkUp := up, version := if up then s.partner.version else 0, noCommon := false, digestBad := false } }
      s.swetricEvent (if up then 0 else 1))

/-- CAP_SEND: at every link-up and every 100 ms (R359). -/
def execCapSend (dt : Nat) (s : State) : Host.Outcome State Fault Refusal :=
  let s := s.advance dt
  .next { s with partner := { s.partner with capAt := some s.ts } }

/-- CAP_RECEIVED (R357, R359). This ISD-816 supports version 1 only. -/
def execCapReceived (dt : Nat) (cap : CapFrame) (s : State) : Host.Outcome State Fault Refusal :=
  let s := s.advance dt
  .next (if !cap.crcOk then s
    else
      let v := min 1 cap.maxVer.toNat
      let agreed := if max 1 cap.minVer.toNat ≤ v then v else 0
      let x := s.partner
      let s := { s with partner := { x with serial := cap.serial, digest := cap.digest, version := agreed, noCommon := decide (agreed = 0) } }
      let s := if agreed ≠ 0 ∧ x.version ≠ agreed then s.swetricEvent 2 else if agreed = 0 ∧ !x.noCommon then s.swetricEvent 3 else s
      let differ := decide (cap.digest ≠ s.sealer.config)
      let s := { s with partner := { s.partner with digestBad := differ } }
      let s := if differ ∧ !x.digestBad then s.swetricEvent 6 else s
      let clash : Bool := match s.parNames 0x9000 0 with
        | some r => decide (cap.role.toNat = r)
        | none => false
      let s := { s with partner := { s.partner with roleConflict := clash } }
      let s := if clash ∧ !x.roleConflict then s.swetricEvent 7 else s
      if clash then s.claimFailure else s)

/-- HEARTBEAT_SEND: every 250 µs from CONFIGURE onwards (R360). -/
def execHeartbeatSend (dt : Nat) (s : State) : Host.Outcome State Fault Refusal :=
  let s := s.advance dt
  .next (if s.mode.fromConfigure then { s with partner := { s.partner with hbSeq := s.partner.hbSeq + 1, hbSentAt := some s.ts } } else s)

/-- A valid HEARTBEAT or SNAPSHOT has arrived (R360). -/
def State.heard (s : State) : State :=
  let was := s.partner.lost
  let s := { s with partner := { s.partner with heardAt := some s.ts, lost := false } }
  if was then s.swetricEvent 5 else s

/-- HEARTBEAT_RECEIVED (R356, R360). -/
def execHeartbeatReceived (dt : Nat) (hb : HeartbeatFrame) (s : State) : Host.Outcome State Fault Refusal :=
  let s := s.advance dt
  .next (if !hb.crcOk then s
    else
      let s := s.heard
      let s := { s with partner := { s.partner with heartbeat := some hb } }
      if s.claim.held && hb.flags.getLsbD 0 then (if s.primary then s.claimEvent 5 false else s.dropClaim 5) else s)

/-- PARTNER_LOST: no valid HEARTBEAT or SNAPSHOT for 2 ms (R360). -/
def execPartnerLost (dt : Nat) (s : State) : Host.Outcome State Fault Refusal :=
  let s := s.advance dt
  let quiet : Bool := match s.partner.heardAt with
    | some t => s.elapsed t (ms 2)
    | none => true
  .next (if quiet ∧ !s.partner.lost then { s with partner := { s.partner with lost := true } }.swetricEvent 4 else s)

/-! ## Snapshots (R361, R363) -/

/-- SNAPSHOT_TAKE: at a 1 ms boundary (R361); one that is assembled is kept for the power-fail flush (R476), and it is sent once a version is
agreed (R359). -/
def execSnapshotTake (dt : Nat) (ready : Bool) (s : State) : Host.Outcome State Fault Refusal :=
  let s := s.advance dt
  .next (if !s.claim.held || !s.mode.runs then s
    else if !ready then { s with partner := { s.partner with skipped := inc32 s.partner.skipped } }
    else
      let q := s.partner.snapSent + 1
      let z := s.snapshot q
      let s := { s with recorder := { s.recorder with lastSnap := some z } }
      if s.partner.version = 0 then s else { s with partner := { s.partner with snapSent := q, snapLast := q } })

/-- SNAPSHOT_RECEIVED (R363): adopted by a device in STANDBY that does not hold the claim, or discarded. -/
def execSnapshotReceived (dt : Nat) (snap : Snapshot) (s : State) : Host.Outcome State Fault Refusal :=
  let s := s.advance dt
  let s := if snap.crcOk then s.heard else s
  let last : BitVec 32 := match s.partner.adopted with
    | some z => z.seq
    | none => 0
  let ok := snap.crcOk && decide (s.partner.version ≠ 0) && decide (snap.version.toNat = s.partner.version) && decide (snap.length = 1356)
    && decide (1 ≤ (snap.seq - last).toInt) && s.configMatch
  .next (if s.mode ≠ .standby ∨ s.claim.held then s
    else if ok then s.adopt snap
    else
      let s := { s with partner := { s.partner with discarded := inc32 s.partner.discarded } }
      let due := match s.partner.lastDiscard with
        | some t => s.elapsed t (ms 100)
        | none => true
      if due then { s with partner := { s.partner with lastDiscard := some s.ts } }.swetricEvent 8 else s)

/-! ## Yield (R371) -/

/-- CLAIM_YIELD (0x2B). -/
def State.claimYield (s : State) (h : Handle) (_ps : List Byte) : State :=
  if h.unit ≠ 0 then s.refuse h stBadUnit
  else
    let partnerOk := match s.partner.heartbeat with
      | some b => decide (b.mode.toNat = 3) && decide (b.pending = 0)
      | none => false
    if s.mode.door && s.claim.held && s.restGuard && partnerOk && s.claim.ack && s.claim.yield.isNone then
      let s := s.reply h stAccepted []
      { s with claim := { s.claim with yield := some (s.ts, h) } }
    else s.refuse h stModeForbids

/-- YIELD_TIMEOUT: the claim is still held 20 ms after the acceptance (R371). -/
def execYieldTimeout (dt : Nat) (s : State) : Host.Outcome State Fault Refusal :=
  let s := s.advance dt
  .next (match s.claim.yield with
    | some (t, h) =>
      if s.claim.held && s.elapsed t (ms 20) then { s with claim := { s.claim with yield := none } }.refuse h stModeForbids else s
    | none => s)

/-! ## The commit takes effect (R35, R36, R40, R42, R357, R365–R367) -/

/-- The Hub die and the participants that hold COMMIT switch (R35, R36, R40, R365). -/
def State.commitNow (s : State) (c : Commit) : State :=
  -- an adopted portal that stays FENCED under R364
  let adopted := fun (p : PortalId) => match (if c.takeover = some true then s.partner.adopted.bind fun z => z.portals[p.val]? else none) with
    | some b => decide (PState.ofCode b.pstate = .fenced) && !b.seqFlags.getLsbD 5
    | none => false
  let kept := allPortals.any fun p => s.present p && (s.causePending p || adopted p)
  let new : Mode := match c.target with
    | .service =>
      if s.claim.held || c.takeover.isSome then (if kept then .degraded else .service) else .standby
    | m => m
  let s := { s with commit := none, retry := none, epoch := c.epoch }
  let s := match c.takeover with
    | some w =>
      let s := { s with partner := { s.partner with takeovers := inc32 s.partner.takeovers } }
      let s := foldState allPortals (fun p t => t.modPortal p fun x => { x with start := if w then 2 else 3 }) s
      let z := if w then s.partner.adopted else none
      let s := s.teleTakeover (z.map fun z => (z, s.snapAge))
      let s := match z with
        | some z => s.loadGeneral z
        | none => s
      s.claimEvent 7 w
    | none => s
  let s := s.hubEnter new
  let s := foldState participants (fun d t =>
    if !c.parts.getLsbD d.val then t.modDie d fun x => { x with missed := true }
    else if (t.die d).commit then t.dieEnter d new
    else t.modDie d fun x => { x with prepare := none }) s
  let s := match c.reply with
    | some h => s.reply h stDone []
    | none => s
  s.claimAct

/-- EPOCH_COMMIT_TIME: at T the commit takes effect, or the abort is followed by its repeat or by INTERNAL (R40, R42, R357). -/
def execEpochCommitTime (dt : Nat) (s : State) : Host.Outcome State Fault Refusal :=
  let s := s.advance dt
  .next (match s.commit with
    | some c =>
      -- a recovery restart waits for the restart of the Hub pair (R342)
      if !s.elapsed (c.due - BitVec.ofNat 56 (us 500)) (us 500) || (c.target = .test && (s.pair 0).scope = .restarting) then s
      else match c.decided with
        | none => s
        | some true => s.commitNow c
        | some false =>
          let s := { s with commit := none }
          let s := foldState participants (fun d t => t.modDie d fun x => { x with prepare := none, commit := false }) s
          if c.repeated then
            let s := s.failCommit (some c)
            if c.takeover.isSome then s.claimFailure else s.claimAct
          else { s with retry := some { c with due := c.due + BitVec.ofNat 56 (ms 1) } }
    | none => foldState participants (fun d t => t.lateSwitch d) s)

/-! ## The sequencer's evaluation (R66, R92, R362, R365) -/

/-- In STANDBY a pending cause clears as soon as its condition holds; with none left, what it held is released (R362). -/
def State.standbyStep (s : State) (p : PortalId) : State :=
  let x := s.portal p
  if x.pendingCause = 0 then s
  else
    let left := (List.range 32).filter fun c => (x.causes.getLsbD c || decide (c = x.pendingCause)) && !s.causeCleared p c
    if left = [] then s.releaseFaults p
    else s.modPortal p fun y => { y with
      pendingCause := if left.contains y.pendingCause then y.pendingCause else left.headD 0
      causes := BitVec.ofNat 32 (left.foldl (fun m c => m + 2 ^ c) 0) }

/-- SEQUENCER_EVALUATION of a portal: its start takes the resting evaluation or the takeover (R66, R68, R92, R365). -/
def execSequencerEvaluation (dt : Nat) (p : PortalId) (s : State) : Host.Outcome State Fault Refusal :=
  let s := (s.advance dt).lockWatch p
  .next (if s.seqWorks p then
      if 2 ≤ (s.portal p).start then
        let (t, restored) := s.takeOver p
        if restored then t.evaluate p else t
      else s.evaluate p
    else if s.mode = .standby ∧ s.present p then s.standbyStep p
    else s)

end Sys2Proof.Machine
end

