-- ==== Sys2Proof/Machine/Can.lean ====
section
/-! DEFINITION. The CAN controllers' commands and events (R374–R404), and the events of the safe-telegram engine (R411–R417). -/

namespace Sys2Proof.Machine

/-! ## Bit timing (R379, R382) -/

/-- The first PID offset whose timing check fails, for values by offset (R379). A check over several parameters names the first of them that it
compares: NBRP, NSJW, DBRP or DSJW. -/
def timingFail (v : Nat → Int) (fd : Bool) : Option Nat :=
  let nom := v 0 * (1 + v 1 + v 2 + v 3)
  let dat := v 5 * (1 + v 6 + v 7 + v 8)
  match (List.range 12).find? fun k => !(descOf (0xA000 + k)).inRange (v k) with
  | some k => some k
  | none =>
    if nom < 80 then some 0
    else if v 2 < v 4 ∨ v 3 < v 4 then some 4
    else if fd ∧ (dat < 10 ∨ nom < dat) then some 5
    else if fd ∧ (v 7 < v 9 ∨ v 8 < v 9) then some 9
    else if v 10 = 1 ∧ 2 < v 5 then some 5
    else none

/-- The timing in force of a controller (R379). -/
def State.canTiming (s : State) (n : CanId) : Option Nat := timingFail (fun k => s.view.raw (canPid n k) 0) (s.canOpt n 0)

/-- The twelve timing values that a candidate loads (R382). -/
def candValue (nom dat : Nat) (k : Nat) : Int :=
  let f := fun (x lo w : Nat) => ((x / 2 ^ lo % 2 ^ w : Nat) : Int)
  match k with
  | 0 => f nom 0 8 + 1
  | 1 => (f nom 8 8 + 1) - (f nom 16 7 + 1)
  | 2 | 3 => f nom 16 7 + 1
  | 4 => f nom 23 7 + 1
  | 5 => f dat 0 5 + 1
  | 6 => (f dat 5 6 + 1) - min 32 (f dat 5 6 + 1)
  | 7 => min 32 (f dat 5 6 + 1)
  | 8 => f dat 11 4 + 1
  | 9 => f dat 15 4 + 1
  | 10 => f dat 26 1
  | _ => f dat 19 7

/-- The values of candidate i. -/
def State.cand (s : State) (n : CanId) (i : Nat) (k : Nat) : Int := candValue (s.canN n (0x40 + i)) (s.canN n (0x48 + i)) k

/-- The next candidate to try from `i` on; those that cannot be loaded are skipped at their turn (R381, R382). -/
def State.nextCand (s : State) (n : CanId) (i : Nat) : Option Nat :=
  let count := s.canN n 0x50
  ((List.range count).map fun k => (i + k) % count).find? fun k => (timingFail (s.cand n k) (s.canOpt n 0)).isNone

/-! ## Errors (R375, R394) -/

/-- A rate detection moves on to the next candidate (R381). -/
def State.detectMove (s : State) (n : CanId) : State :=
  let next := fun (d : Detect) => s.nextCand n (match d.cand with
    | some k => k + 1
    | none => 0)
  s.modCan n fun x => { x with detect := x.detect.map fun d => { d with cand := next d, since := s.ts, good := 0, fdSeen := false } }

/-- The codes of LAST_ERROR (R394). -/
def errCode : CanErrKind → Nat
  | .stuff => 1 | .form => 2 | .ack => 3 | .bit1 => 4 | .bit0 => 5 | .crc => 6

/-- A bus error (R394; the counting is that of ISO 11898-1): a transmitter counts 8, but nothing for a missing acknowledgement while it is error
passive and sees no dominant bit; a receiver counts 1, or 8 for a severe error. In LISTEN the counters are frozen. -/
def State.canErr (s : State) (n : CanId) (k : CanErrKind) (transmitting severe : Bool) : State :=
  let x := s.can n
  let note := s.modCan n fun y => { y with lastError := errCode k }
  match x.state with
  | .normal =>
    if transmitting then (if k = .ack ∧ x.errState = 1 ∧ !severe then note else note.canCounts n (x.tec + 8) x.recErr)
    else note.canCounts n x.tec (x.recErr + (if severe then 8 else 1))
  | .listen => note
  | .detecting => if k = .ack then note else note.detectMove n
  | _ => s

/-- A protocol exception: the controller stops taking part until 11 recessive bits (R375). -/
def State.canException (s : State) (n : CanId) : State :=
  let st := (s.can n).state
  if s.canOpt n 1 ∧ (st = .normal ∨ st = .listen ∨ st = .detecting) then
    (s.modCan n fun x => { x with pex := true, suspended := true }).canEvent n 8 (s.can n).errState
  else s

/-! ## Waking and detecting (R381, R396) -/

/-- The controller wakes: it returns to the state it slept from. -/
def State.canWakeUp (s : State) (n : CanId) : State :=
  let s := s.modCan n fun x => { x with state := x.sleptFrom }
  ((s.canEvent n 9 (s.can n).errState).canTraffic n 4 0 0).segLoad

/-- A frame meets the wake condition of FRAME mode. -/
def State.wakes (s : State) (n : CanId) (f : CanFrame) : Bool :=
  idMatch f (s.canN n 0x61) (s.canN n 0x62) && (List.range 8).all fun k =>
    let part := fun (off : Nat) => s.canN n (off + k / 4) / 256 ^ (k % 4) % 256
    let mask := part 0x65
    decide (mask = 0) || (match f.data[k]? with
      | some b => decide ((b.toNat ^^^ part 0x63) &&& mask = 0)
      | none => false)

/-- A frame received in RATE_DETECT: the second one without an error between finds the candidate. -/
def State.detectFrame (s : State) (n : CanId) (f : CanFrame) : State :=
  match (s.can n).detect with
  | some d => match d.cand with
    | some k =>
      let fdSeen := d.fdSeen || (f.fdf && f.brs)
      if d.good = 0 then s.modCan n fun x => { x with detect := some { d with good := 1, fdSeen := fdSeen } }
      else
        let ps := (List.range 12).foldl (fun l i => store l (canPid n i, 0) (s.cand n k i)) s.params
        let st : CanState := if s.canN n 0x53 = 1 then .normal else .listen
        let s := { s with params := ps }.modCan n fun x => { x with state := st, detect := none, detected := some k, verified := fdSeen }
        ((s.canEvent n 6 k).reply d.reply stDone [BitVec.ofNat 8 k]).segLoad
    | none => s
  | none => s

/-- A frame received without error (R375, R383, R394, R396); `take` says that another part takes it in place of the filters. The flag says
whether the controller received it. -/
def State.canReceive (s : State) (n : CanId) (f : CanFrame) (sof : Nat) (take : Bool) : State × Bool :=
  let x := s.can n
  let f := busFrame f
  let began := s.ts - BitVec.ofNat 56 sof
  let place := fun (t : State) (wake : Bool) => if take then t else t.canPlace n f began wake
  if x.suspended then (s, false)
  else if f.fdf ∧ !s.canOpt n 0 then
    (if s.canOpt n 1 then s.canException n else s.canErr n .form false false, false)
  else
    let clear := s.modCan n fun y => { y with pex := false }
    match x.state with
    | .normal =>
      let (v, s) := clear.drawNat
      let r := if x.recErr = 0 then 0 else if x.recErr < 128 then x.recErr - 1 else 119 + v % 9
      (place (s.canCounts n x.tec r) false, true)
    | .listen => (place clear false, true)
    | .detecting => ((place clear false).detectFrame n f, true)
    | .sleep =>
      if 0 ≤ (x.sleptAt - began).toInt then (place clear false, true)
      else if s.canN n 0x60 = 1 ∧ s.wakes n f then (place (clear.canWakeUp n) true, true)
      else (s, false)
    | _ => (s, false)

/-! ## Events of a controller -/

/-- CAN_TX_OUTCOME: an attempt begins, succeeds, or is lost (R380, R390–R393). -/
def execCanTxOutcome (dt : Nat) (n : CanId) (m : Fin 16) (e : TxEnd) (loopDelay : Nat) (s : State) : Host.Outcome State Fault Refusal :=
  let s := s.advance dt
  let x := s.can n
  .next (match s.box n m with
    | none => s
    | some b =>
      if x.state ≠ .normal then s
      else
        let stop := fun (t : State) => if (t.can n).stopping && !t.txBusy n then t.canOff n else t
        match e with
        | .sofSent =>
          if s.txBusy n ∨ x.suspended ∨ s.txOffer n ≠ some m then s
          else s.setBox n m (some { b with inFlight := true, sof := some s.ts })
        | .sent =>
          if !b.inFlight then s
          else
            let s := if s.canN n 0x0A = 1 ∧ b.frame.fdf ∧ b.frame.brs then s.modCan n fun y => { y with loopDelay := min 127 loopDelay } else s
            stop ((s.canCounts n (x.tec - 1) x.recErr).txFinal n m 0)
        | .lost =>
          if !b.inFlight then s
          else
            let s := s.setBox n m (some { b with inFlight := false })
            stop (if b.noRetry then s.txFinal n m 3 else if b.late s.ts then s.txStale n m else s))

/-- CAN_DEADLINE_STALE (R391). -/
def execCanDeadlineStale (dt : Nat) (n : CanId) (m : Fin 16) (s : State) : Host.Outcome State Fault Refusal :=
  let s := s.advance dt
  .next (match s.box n m with
    | some b => if b.late s.ts && !b.inFlight then s.txStale n m else s
    | none => s)

/-- CAN_ERROR (R394). -/
def execCanError (dt : Nat) (n : CanId) (k : CanErrKind) (transmitting severe : Bool) (s : State) : Host.Outcome State Fault Refusal :=
  .next ((s.advance dt).canErr n k transmitting severe)

/-- BUS_OFF_RECOVERED: 128 occurrences of 11 recessive bits (R395). -/
def execBusOffRecovered (dt : Nat) (n : CanId) (s : State) : Host.Outcome State Fault Refusal :=
  let s := s.advance dt
  let x := s.can n
  .next (if x.state = .busOff ∧ x.recovering then
      let s := s.modCan n fun y => { y with state := .normal, recovering := false, recoveredAt := some s.ts }
      ((s.canCounts n 0 0).canEvent n 4 0).segLoad
    else s)

/-- DETECT_WINDOW_END (R381). -/
def execDetectWindowEnd (dt : Nat) (n : CanId) (s : State) : Host.Outcome State Fault Refusal :=
  let s := s.advance dt
  .next (match (s.can n).detect with
    | some d => if s.elapsed d.since (ms (s.canN n 0x51)) then s.detectMove n else s
    | none => s)

/-- DETECT_TIMEOUT: back to OFF, event 7, and the reply (R381, R398). -/
def execDetectTimeout (dt : Nat) (n : CanId) (s : State) : Host.Outcome State Fault Refusal :=
  let s := s.advance dt
  .next (match (s.can n).detect with
    | some d => if s.elapsed d.start (ms (s.canN n 0x52)) then (s.canOff n).canEvent n 7 0 else s
    | none => s)

/-- WAKE_EDGE: RXD dominant for a number of 10 ns counts in SLEEP with WAKE_MODE = EDGE (R396). -/
def execWakeEdge (dt : Nat) (n : CanId) (dominant : Nat) (s : State) : Host.Outcome State Fault Refusal :=
  let s := s.advance dt
  .next (if (s.can n).state = .sleep ∧ s.canN n 0x60 = 0 ∧ us (s.canN n 0x67) ≤ dominant then
      (s.canWakeUp n).modCan n fun x => { x with suspended := true }
    else s)

/-- PROTOCOL_EXCEPTION (R375). -/
def execProtocolException (dt : Nat) (n : CanId) (s : State) : Host.Outcome State Fault Refusal := .next ((s.advance dt).canException n)

/-- BUS_INTEGRATION: 11 consecutive recessive bits (R375, R396). -/
def execBusIntegration (dt : Nat) (n : CanId) (s : State) : Host.Outcome State Fault Refusal :=
  .next ((s.advance dt).modCan n fun x => { x with suspended := false })

/-! ## Commands (R384, R386, R392, R395, R396, R398, R399) -/

/-- The controller that a command names, or the refusal (R398). -/
def State.withCan (s : State) (h : Handle) (ps : List Byte) (f : CanId → State) : State :=
  let c := (ps.getD 0 0).toNat
  if h.unit ≠ 0 then s.refuse h stBadUnit
  else if hc : c < 4 then (if s.mode.fromConfigure then f ⟨c, hc⟩ else s.refuse h stModeForbids)
  else s.refuse h stBadParam

/-- DONE with the state of the controller. -/
def State.canState (s : State) (h : Handle) (n : CanId) : State := s.reply h stDone [BitVec.ofNat 8 (s.can n).state.code]

/-- START_NORMAL and START_LISTEN (R379, R398). -/
def State.canStart (s : State) (h : Handle) (n : CanId) (st : CanState) : State :=
  let now := (s.can n).state
  if !(now = .off || now = .normal || now = .listen) then s.refuse h stModeForbids
  else match s.canTiming n with
    | some k => s.reply h stBadParam (detail (canPid n k) 0)
    | none => ((s.modCan n fun x => { x with state := st }).canState h n).segLoad

/-- CAN_CTRL (0x2C). -/
def State.canCtrl (s : State) (h : Handle) (ps : List Byte) : State :=
  s.withCan h ps fun n =>
    let x := s.can n
    match (ps.getD 1 0).toNat with
    | 0 => (if s.txBusy n && x.state = .normal then s.modCan n fun y => { y with stopping := true } else s.canOff n).canState h n
    | 1 => s.canStart h n .normal
    | 2 => s.canStart h n .listen
    | 3 =>
      if x.state ≠ .off then s.refuse h stModeForbids
      else (s.reply h stAccepted []).modCan n fun y => { y with
        state := .detecting, detect := some ⟨s.ts, s.nextCand n 0, s.ts, 0, false, h⟩ }
    | 4 =>
      if (x.state = .normal || x.state = .listen) && !s.txPending n then
        (s.modCan n fun y => { y with state := .sleep, sleptFrom := y.state, sleptAt := s.ts }).canState h n
      else s.refuse h stModeForbids
    | 5 => if x.state = .sleep then (s.canWakeUp n).canState h n else s.refuse h stModeForbids
    | 6 =>
      if x.state = .busOff then (s.modCan n fun y => { y with recovering := true }).canState h n
      else if x.recoveredAt = some s.ts then s.canState h n
      else s.refuse h stModeForbids
    | _ => s.refuse h stBadParam

/-- CAN_TX (0x2D), checked in the order of R399. -/
def State.canTx (s : State) (h : Handle) (ps : List Byte) : State :=
  s.withCan h ps fun n =>
    let m := (ps.getD 1 0).toNat
    let id := unLe ((ps.drop 2).take 4)
    let fl := (ps.getD 6 0).toNat
    let dlc := (ps.getD 7 0).toNat
    let dl := unLe ((ps.drop 8).take 2)
    let data := ps.drop 10
    let ide := fl.testBit 0
    let fdf := fl.testBit 1
    let brs := fl.testBit 2
    let rtr := fl.testBit 3
    if hm : 12 ≤ m then s.refuse h stBadParam
    else if 16 ≤ fl ∨ (rtr ∧ fdf) ∨ (brs ∧ !fdf) ∨ (fdf ∧ !s.canOpt n 0) ∨ (!ide ∧ 2048 ≤ id) ∨ 2 ^ 29 ≤ id ∨ 16 ≤ dlc then s.refuse h stBadParam
    else
      let f : CanFrame := ⟨ide, fdf, brs, rtr, false, BitVec.ofNat 29 id, BitVec.ofNat 4 dlc, data⟩
      let box : Fin 16 := ⟨m, by omega⟩
      let st := (s.can n).state
      if data.length ≠ frameLen f then s.refuse h stBadLength
      else if (s.box n box).isSome then s.refuse h stModeForbids
      else if st = .off ∨ st = .detecting ∨ st = .sleep then s.refuse h stModeForbids
      else
        let dead := if dl = 0 then none else some (s.ts + BitVec.ofNat 56 (ms dl))
        (s.reply h stAccepted []).setBox n box (some ⟨busFrame f, dead, false, none, false, some h⟩)

/-- CAN_CANCEL (0x2E) (R392). -/
def State.canCancel (s : State) (h : Handle) (ps : List Byte) : State :=
  s.withCan h ps fun n =>
    let m := (ps.getD 1 0).toNat
    if hm : 12 ≤ m then s.refuse h stBadParam
    else
      let box : Fin 16 := ⟨m, by omega⟩
      match s.box n box with
      | none => s.refuse h stModeForbids
      | some b =>
        if b.inFlight then (s.setBox n box (some { b with noRetry := true })).refuse h stTooLate
        else (s.txFinal n box 1).reply h stDone []

/-- The bytes of an entry of CAN_RX (R387). -/
def RxEntry.bytes (e : RxEntry) : List Byte :=
  let f := e.frame
  le 7 e.ts.toNat ++ le 1 (bit f.ide + 2 * bit f.fdf + 4 * bit f.brs + 8 * bit f.rtr + 16 * bit f.esi + 32 * bit e.overwritten
    + 64 * bit e.fromShadow + 128 * bit e.wake) ++ le 4 f.id.toNat ++ le 1 f.dlc.toNat ++ le 1 e.filter ++ le 2 0 ++ f.data

/-- CAN_RX (0x2F). A read of a priority buffer locks it for at most 2 µs; the manual does not say how long within that: a free value (log 8). -/
def State.canRx (s : State) (h : Handle) (ps : List Byte) : State :=
  s.withCan h ps fun n =>
    let src := (ps.getD 1 0).toNat
    let count := (ps.getD 2 0).toNat
    let out := fun (t : State) (l : List RxEntry) => t.reply h stDone (le 1 l.length ++ l.flatMap RxEntry.bytes)
    if count = 0 ∨ 8 < count then s.refuse h stBadParam
    else if src = 0 then
      let got := (s.can n).fifo.take count
      let s := s.modCan n fun x =>
        let rest := x.fifo.drop count
        { x with fifo := rest, episode := x.episode && decide (32 < rest.length) }
      out s got
    else if hs : src < 9 then
      let k : Fin 8 := ⟨src - 1, by omega⟩
      if (s.can n).owned.getLsbD k.val then
        let pid := ([0xB014, 0xB015, 0xB016].find? fun q => s.parNames q 0 = some k.val).getD 0xB014
        s.reply h stResource (conflictBlock 5 n.val k.val pid 0)
      else
        let b := (s.can n).bufs[k]
        let b := b.settle (s.ts + (match b.lock with
          | some _ => BitVec.ofNat 56 (us 2 + 1)
          | none => 0))
        let (v, s) := s.drawNat
        match b.front with
        | some e => out (s.modCan n fun x => { x with bufs := x.bufs.set k.val ⟨none, none, some (s.ts, v % (us 2 + 1))⟩ }) [e]
        | none => out (s.modCan n fun x => { x with bufs := x.bufs.set k.val b }) []
    else s.refuse h stBadParam

/-! ## Events of the safe-telegram engine (R411, R414, R415, R417) -/

/-- DCL_TELEGRAM_SEND: at a 10 ms boundary, or after a change of the driven DCL or of DCL_FAULT (R411). -/
def execDclTelegramSend (dt : Nat) (s : State) : Host.Outcome State Fault Refusal :=
  let s := s.advance dt
  .next (if s.dclDue then s.sendDcl else s)

/-- DOOR_STATE_SEND: 5 ms after a 10 ms boundary (R411). -/
def execDoorStateSend (dt : Nat) (s : State) : Host.Outcome State Fault Refusal :=
  let s := s.advance dt
  .next (if s.inTenMs = ms 5 then s.sendDoor else s)

/-- The buffer parameter of a received stream (R424). -/
def streamBuf (release : Bool) : Nat := if release then 0xB015 else 0xB014

/-- TELEGRAM_COPY_RECEIVED: the engine takes a copy of a stream from its buffer on a network, whose controller is NORMAL or LISTEN (R414–R418); its
start of frame was `sof` counts ago. -/
def execTelegramCopyReceived (dt : Nat) (release netB : Bool) (f : CanFrame) (sof : Nat) (s : State) : Host.Outcome State Fault Refusal :=
  let s := s.advance dt
  let n : CanId := if netB then 1 else 0
  let st := (s.can n).state
  .next (if s.mode.fromConfigure ∧ (st = .normal ∨ st = .listen) then
      let s := match s.parNames (streamBuf release) 0 with
        | some k => if hk : k < 8 then s.modCan n fun x => { x with bufs := x.bufs.set k ⟨none, none, none⟩ } else s
        | none => s
      s.teleCopy release netB (busFrame f) (s.ts - BitVec.ofNat 56 sof)
    else s)

/-- PAIRING_WINDOW_CLOSE: 5,000 µs after the arrival of its first copy (R415); a copy that arrives exactly then is within the window (R421). -/
def execPairingWindowClose (dt : Nat) (release : Bool) (s : State) : Host.Outcome State Fault Refusal :=
  let s := s.advance dt
  .next (match (s.stream release).windows.find? fun w => 5000 < usBetween w.2.sof s.ts with
    | some w => s.windowClose release w (windowEnd w)
    | none => s)

/-- STREAM_TIMEOUT: ST_TIMEOUT without an acceptance (R417). -/
def execStreamTimeout (dt : Nat) (release : Bool) (s : State) : Host.Outcome State Fault Refusal :=
  let s := s.advance dt
  let x := s.stream release
  .next (if x.valid ∧ s.elapsed x.lastAt (ms (s.parN 0xB003 0)) then
      let s := (s.streamDown release)
      ({ s with tele := { s.tele with timeouts := inc32 s.tele.timeouts } }.streamEvent release 0).zsReport
    else s)

end Sys2Proof.Machine
end

