-- ==== Sys2Proof/Machine/Memory.lean ====
section
/-! DEFINITION. The addressed memory of the block: the two 4 MiB firmware banks (R491), as sparse lists of cells in one canonical form. -/

namespace Sys2Proof.Machine

/-- The byte at an address; `rest` is what an unlisted address reads as. -/
def Memory.read (rest : Nat → Byte) : List Host.Cell → Nat → Byte
  | [], a => rest a
  | c :: l, a => if c.1 = a then c.2 else Memory.read rest l a

/-- Write one byte, keeping the canonical form. -/
def Memory.write (rest : Nat → Byte) : List Host.Cell → Nat → Byte → List Host.Cell
  | [], a, v => if v = rest a then [] else [(a, v)]
  | c :: l, a, v =>
    if a < c.1 then (if v = rest a then c :: l else (a, v) :: c :: l)
    else if a = c.1 then (if v = rest a then l else (a, v) :: l)
    else c :: Memory.write rest l a v

/-- Write bytes at rising addresses. -/
def Memory.writeAll (rest : Nat → Byte) : List Host.Cell → Nat → List Byte → List Host.Cell
  | l, _, [] => l
  | l, a, v :: vs => Memory.writeAll rest (Memory.write rest l a v) (a + 1) vs

/-- The canonical form: addresses strictly rising, no entry equal to what an unlisted address reads as. -/
def Memory.wf (rest : Nat → Byte) : List Host.Cell → Bool
  | [] => true
  | [c] => decide (c.2 ≠ rest c.1)
  | c :: d :: l => decide (c.2 ≠ rest c.1) && decide (c.1 < d.1) && Memory.wf rest (d :: l)

/-- The bytes of a bank: 4 MiB (R491). -/
def bankSize : Nat := 4194304

/-- What an unlisted byte of a bank reads as (log 14). -/
def Bank.rest (b : Bank) : Nat → Byte := if b.delivered then Config.imageByte else fun _ => 0

/-- The byte of a bank. -/
def Bank.read (b : Bank) (a : Nat) : Byte := Memory.read b.rest b.cells a

/-- Bytes of a bank from an address. -/
def Bank.bytes (b : Bank) (a n : Nat) : List Byte := (List.range n).map fun k => b.read (a + k)

/-- Write bytes into a bank; a block that is written has a whole code again (log 15). -/
def Bank.write (b : Bank) (a : Nat) (l : List Byte) : Bank :=
  { b with cells := Memory.writeAll b.rest b.cells a l, bad := b.bad.filter fun k => decide (64 * k + 63 < a ∨ a + l.length ≤ 64 * k) }

/-- A bank's cells are in the canonical form. -/
def Bank.wf (b : Bank) : Bool := Memory.wf b.rest b.cells

end Sys2Proof.Machine
end

