-- ==== Sys2Proof/Machine/Recorder.lean ====
section
/-! DEFINITION. The event controller's release (R54–R56) and the recorder (R462–R484). -/

namespace Sys2Proof.Machine

/-! ## Severity and filter (R465, R466) -/

/-- The severity of an event code with its PARAM, and whether the previous 0x002F had PARAM [15:8] non-zero (R465): 0 INFO, 1 NOTICE,
2 FAULT, 3 SAFETY. A 0x002B of reason 0 carries its own severity (R481). -/
def eventSev (code param : Nat) (prev2F : Bool) : Nat :=
  let reason := param % 256
  let kind := param % 16
  let upper := param / 65536 % 65536
  let isSafety :=
    (code = 0x26 && param / 256 % 256 = 6)
    || (0x20 ≤ code && code ≤ 0x22 && [0, 1, 2, 7, 8, 9].contains kind)
    || code = 0x24 || (code = 0x2C && [1, 2, 4].contains (upper % 256)) || (code = 0x2D && reason = 0)
    || (code = 0x2F && (param / 256 % 256 ≠ 0 || prev2F))
    || (code = 0x1F && [5, 6].contains (param / 2097152 % 8))
    || (code = 0x206 && reason = 6) || [0x20C, 0x20D, 0x20E].contains code
  let isFault :=
    (0x200 ≤ code && code ≤ 0x2FF) || [0x25, 0x27, 0x35, 0x1C, 0x302, 0x320, 0x322, 0x400, 0x401, 0x402, 0x410].contains code
    || (code = 0x28 && [0, 1, 2, 5].contains reason) || (code = 0x32 && [0, 2].contains (param / 256 % 256))
    || (code = 0x1D && [0, 4].contains reason) || (0x18 ≤ code && code ≤ 0x1B && [3, 5].contains reason)
  let isInfo :=
    [0x300, 0x303, 0x342, 0x350, 0x29, 0x2A].contains code || (0x14 ≤ code && code ≤ 0x1B) || (0x36 ≤ code && code ≤ 0x3F)
    || (code = 0x28 && [3, 4].contains reason) || (code = 0x1D && [1, 2, 3].contains reason)
  if code = 0x2B then (if reason = 0 then param / 256 % 256 else 1)
  else if isSafety then 3 else if isFault then 2 else if isInfo then 0 else 1

/-- The bit of a source in REC_SRC_ENABLE (R466). -/
def State.recEnabled (s : State) (src : Nat) : Bool :=
  if src < 32 then (s.parN 0xC000 0).testBit src else (s.parN 0xC001 0).testBit (src - 32)

/-- A released event entry goes to the recorder (R464–R466). -/
def State.recEvent (s : State) (e : Event) : State :=
  let sev := eventSev e.code e.param s.recorder.prev2F
  let s := if e.code = 0x2F then { s with recorder := { s.recorder with prev2F := decide (e.param / 256 % 256 ≠ 0) } } else s
  if sev < 2 ∧ e.code ≠ 0x2B ∧ !s.recEnabled e.src then s
  else s.recEnqueue ⟨e.code, e.src, sev, if e.late then 1 else 0, e.ts, 0, e.param, e.unit, false⟩

/-! ## The event controller (R54–R56) -/

/-- An entry is released: the host buffer, the pending bit, the recorder (R54–R56). -/
def State.release (s : State) (e : Event) : State :=
  let s := if s.buffer.length < 256 then { s with buffer := s.buffer ++ [e] } else { s with lostEvents := satInc 65535 s.lostEvents }
  let later : Bool := match s.lastRel with
    | some (t, n) => decide (t.toNat < e.ts.toNat ∨ (t = e.ts ∧ n < e.src))
    | none => true
  let s := { s with evtPending := setBit s.evtPending e.src true, lastRel := if later then some (e.ts, e.src) else s.lastRel }
  (s.markSet (if e.src < 32 then 0xE012 else 0xE013) 0 (e.src % 32)).recEvent e

/-- The order of release places `a` before `b` (R55). -/
def Event.before (a b : Event) : Bool := decide (a.ts.toNat < b.ts.toNat ∨ (a.ts = b.ts ∧ a.src < b.src))

/-- Put an entry into a list that is in the order of release, after its equals. -/
def insertEvent (e : Event) : List Event → List Event
  | [] => [e]
  | x :: l => if e.before x then e :: x :: l else x :: insertEvent e l

/-- EVENT_ARRIVAL: the oldest entry under way from a die reaches the Hub die; it is released at once, LATE, when one that the order places after
it has been released (R55). -/
def execEventArrival (dt : Nat) (d : DieId) (s : State) : Host.Outcome State Fault Refusal :=
  let s := s.advance dt
  .next (match (s.die d).raised with
    | [] => s
    | e :: l =>
      let s := s.modDie d fun x => { x with raised := l }
      let late : Bool := match s.lastRel with
        | some (t, n) => decide (e.ts.toNat < t.toNat ∨ (e.ts = t ∧ e.src < n))
        | none => false
      if late then s.release { e with late := true } else { s with waiting := s.waiting ++ [e] })

/-- EVENT_RELEASE: every entry whose TS lies 10 µs back is released, in ascending order of TS, then source, then arrival (R55). -/
def execEventRelease (dt : Nat) (s : State) : Host.Outcome State Fault Refusal :=
  let s := s.advance dt
  let (due, rest) := s.waiting.partition fun e => s.elapsed e.ts (us 10)
  .next (foldState (due.foldl (fun l e => insertEvent e l) []) (fun e t => t.release e) { s with waiting := rest })

/-! ## Writing (R471, R473, R476) -/

/-- The records that the region holds (R462). -/
def recCapacity : Nat := 1572864

/-- The quota of a severity (R471). -/
def recQuota (sev : Nat) : Nat := if sev = 0 then 131072 else if sev = 1 then 524288 else if sev = 2 then 262144 else 131072

/-- The records of a severity. -/
def Recorder.count (r : Recorder) (sev : Nat) : Nat := (r.records.filter fun x => x.entry.sev = sev).length

/-- The place of the record that a new record of a severity overwrites in a full region (R471). -/
def Recorder.victim (r : Recorder) (sev : Nat) : Option Nat :=
  let c := (((List.range (sev + 1)).find? fun c => decide (recQuota c < r.count c))).getD sev
  r.records.findIdx? fun x => decide (x.entry.sev = c)

/-- A new record takes a free slot or overwrites one; it counts in REC_WRITTEN, a cycle record in CYCLE_COUNT (R469, R471). -/
def State.putRecord (s : State) (x : Record) : State :=
  let r := s.recorder
  let put := fun (l : List Record) =>
    let s := { s with recorder := { r with records := l ++ [x], written := inc32 r.written } }
    if x.entry.cycle then s.modPortal ⟨x.entry.code % 8, by omega⟩ fun y => { y with cycleCount := inc32 y.cycleCount } else s
  if r.records.length < recCapacity then put r.records
  else match r.victim x.entry.sev with
    | some k => put (r.records.eraseIdx k)
    | none => { s with recorder := { r with lost := inc32 r.lost } }

/-- Write an entry as the next record (R463, R464); SEQ moves on when the record is written. -/
def State.writeRecord (s : State) (e : RecEntry) : State :=
  let r := s.recorder
  let s := s.putRecord ⟨e.fill s.mode, r.opSeconds, r.powerCycles, r.nextSeq⟩
  if s.recorder.written = r.written ∧ s.recorder.lost ≠ r.lost then s
  else { s with recorder := { s.recorder with nextSeq := (r.nextSeq + 1) % 65536 } }

/-- The recorder may write: the scan has ended, writes are not blocked, the recorder memory die has its clock (R475, R476, R489). -/
def State.recWrites (s : State) : Bool := s.recorder.ready && !s.recorder.blocked && !(s.die 7).pllLost

/-- RECORD_WRITE: the oldest queued entry becomes a record for one write credit (R473). After T_PF the flush writes (R476). -/
def execRecordWrite (dt : Nat) (s : State) : Host.Outcome State Fault Refusal :=
  let s := s.advance dt
  .next (match s.recorder.queue with
    | [] => s
    | e :: q =>
      if !s.recWrites || s.recorder.credit = 0 then s
      else { s with recorder := { s.recorder with queue := q, credit := s.recorder.credit - 1 } }.writeRecord e)

/-- WRITE_CREDIT_REGAIN: one credit every 40 µs, up to 128 (R473). -/
def execWriteCreditRegain (dt : Nat) (s : State) : Host.Outcome State Fault Refusal :=
  let s := s.advance dt
  let r := s.recorder
  .next (if s.elapsed r.creditAt (us 40) then { s with recorder := { r with credit := satInc 128 r.credit, creditAt := s.ts } } else s)

/-- PARAM of a 0x002B event of reason 0 (R481). -/
def Recorder.lossParam (r : Recorder) : Nat := 256 * r.lossSev + 65536 * min 65535 r.pendingLoss

/-- LOSS_SUMMARY: with 32 free places the pending loss count is reported and returns to 0 (R474). -/
def execLossSummary (dt : Nat) (s : State) : Host.Outcome State Fault Refusal :=
  let s := s.advance dt
  let r := s.recorder
  .next (if r.pendingLoss = 0 ∨ 96 < r.queue.length then s
    else { s with recorder := { r with pendingLoss := 0, lossSev := 0 } }.raise 43 0x002B 0 r.lossParam)

/-- COUNTER_SAVE: every 60 s (R470). -/
def execCounterSave (dt : Nat) (s : State) : Host.Outcome State Fault Refusal :=
  let s := s.advance dt
  .next (if s.elapsed s.recorder.savedAt (60 * ms 1000) then s.saveCounters else s)

/-- OP_SECOND: the seconds that have passed since the last count (R469). -/
def execOpSecond (dt : Nat) (s : State) : Host.Outcome State Fault Refusal :=
  let s := s.advance dt
  let r := s.recorder
  let n := s.ts.since r.secSince / ms 1000
  .next { s with recorder := { r with opSeconds := min 4294967295 (r.opSeconds + n), secSince := r.secSince + BitVec.ofNat 56 (n * ms 1000) } }

/-! ## Power-up (R470, R475, R477) -/

/-- The newest saved counter block that verifies. -/
def Recorder.newest (r : Recorder) : Option CounterBlock :=
  r.slots.toList.foldl (fun m b =>
    match m, b with
    | some x, some y => if x.gen < y.gen then some y else some x
    | none, y => y
    | x, none => x) none

/-- The generations between the newest slot and the slot that holds a block (R470, R481). -/
def Recorder.skippedSlots (r : Recorder) (b : CounterBlock) : Nat :=
  ((List.range 64).find? fun k => decide (r.slots[(r.slotAt.val + 64 - k) % 64]? = some (some b))).getD 0

/-- The counters restored from a block: what was counted since the release of POR_N is added (R469, R470). -/
def State.restoreCounters (s : State) (b : CounterBlock) : State :=
  let add := fun (n : Nat) (l : List Nat) (k : Nat) => min 4294967295 (n + l.getD k 0)
  let r := s.recorder
  let s := { s with recorder := { r with
    opSeconds := min 4294967295 (r.opSeconds + b.opSeconds), powerCycles := b.cycles,
    written := min 4294967295 (r.written + b.written), lost := min 4294967295 (r.lost + b.lost) } }
  foldState allPortals (fun p t => t.modPortal p fun x => { x with
    cycleCount := add x.cycleCount b.cycleCount p.val, obstTotal := add x.obstTotal b.obstTotal p.val,
    fenceTotal := add x.fenceTotal b.fenceTotal p.val,
    chans := Vector.ofFn fun c => { x.chans[c] with
      shutdowns := add x.chans[c].shutdowns b.shutdowns (8 * p.val + c.val), switchings := add x.chans[c].switchings b.switchings (8 * p.val + c.val) } }) s

/-- The POWER_LOST record of a portal whose block shows a cycle in progress (R468, R477). -/
def lostCycle (z : Snapshot) (p : PortalId) (b : SnapPortal) (fl : SavedFlush) (seq : Nat) : Record :=
  let f := fun (l : Nat) => (b.leaves[l]?.map (·.peakFOpp)).getD 0
  let e := fun (l : Nat) => (b.leaves[l]?.map (·.peakE)).getD 0
  let flags : BitVec 8 := 0x20#8 ||| (if b.flags.getLsbD 3 then 0x02#8 else 0) ||| (if b.recloses ≠ 0 then 0x04#8 else 0)
    ||| (if f 0 < f 1 then 0x40#8 else 0) ||| (if b.step.homeCorr ≠ 0 then 0x01#8 else 0)
    ||| (if [1, 11, 12].contains b.pstate then 0x10#8 else 0)
  let entry : RecEntry := ⟨0x0100 + p.val, p.val, 1, flags, BitVec.ofNat 56 (z.ts.toNat % 2 ^ 48),
    min 4095 (b.openTime / 10) + 4096 * min 15 b.obstCount, 4096 * min 4095 (max (f 0) (f 1)),
    min 65535 (max (e 0) (e 1)) + 65536 * sat16 b.step.homeCorr, true⟩
  ⟨entry, fl.opSeconds, fl.cycles, seq⟩

/-- The portals of a saved snapshot whose blocks show a cycle in progress (SEQ_FLAGS [4]). -/
def lostPortals (z : Snapshot) : List (PortalId × SnapPortal) :=
  allPortals.filterMap fun p => match z.portals[p.val]? with
    | some b => if b.seqFlags.getLsbD 4 then some (p, b) else none
    | none => none

/-- RECORDER_SCAN_DONE: torn records and both records of every uncorrectable block are freed (places in write order), the counters are restored,
and what the last flush saved is used up (R470, R475, R477, R481). -/
def execRecorderScanDone (dt : Nat) (torn badBlocks : List Nat) (s : State) : Host.Outcome State Fault Refusal :=
  let s := s.advance dt
  .next (if s.mode ≠ .test ∨ s.recorder.ready then s
    else
      let r := s.recorder
      let kept := (r.records.zipIdx.filter fun x => !torn.contains x.2 && !badBlocks.contains (x.2 / 2)).map (·.1)
      let nTorn := (torn.eraseDups.filter fun k => decide (k < r.records.length)).length
      let s := { s with recorder := { r with records := kept, torn := nTorn } }
      let s := foldState badBlocks (fun b t => t.raiseAt 7 36 0x0024 (uDie 7) (2 + 16 * 8 + 256 * (b % 2 ^ 24))) s
      let newestSlot : Option CounterBlock := r.slots[r.slotAt]
      let s := match r.newest with
        | some b =>
          let s := s.restoreCounters b
          if newestSlot = some b then s
          else s.raise 43 0x002B 0 (4 + 256 * r.skippedSlots b)
        | none => s
      let s := { s with recorder := { s.recorder with
        powerCycles := satInc 16777215 s.recorder.powerCycles, ready := true, nextSeq := 0, savedAt := s.ts } }
      let s := s.raise 43 0x002B 0 (1 + 256 * min 16777215 nTorn)
      match r.saved with
      | none => s
      | some fl =>
        let s := s.raise 43 0x002B 0 (5 + 256 * min 16777215 fl.written)
        let s := { s with recorder := { s.recorder with saved := none } }
        match fl.snap with
        | none => s
        | some z =>
          let l := lostPortals z
          if l = [] then s
          else
            let s := foldState l.zipIdx (fun x t => t.putRecord (lostCycle z x.1.1 x.1.2 fl ((fl.nextSeq + x.2) % 65536))) s
            s.raise 43 0x002B 0 (6 + 256 * maskOf (l.map (·.1))))

/-! ## The power-fail flush (R476) -/

/-- Every output inert, but for a leaf in BRAKE (R4, R497). -/
def State.inert (s : State) : State :=
  let s := foldState allPortals (fun p t =>
    let t := foldState [0, 1] (fun l u => if (u.leaf p l).drive = .brake then u else u.leafOff p l) t
    t.stepStop p .off) s
  let s := { s with safety := { s.safety with driven := false, drivenSince := if s.safety.driven then s.ts else s.safety.drivenSince } }
  s.cansOff.allChansSync

/-- POWER_FAIL_FLUSH at T_PF + 12 µs: the queue, the loss record, the counter block and the snapshot are written, and MRAM is blocked (R476). In
TEST, before the scan has ended, nothing is written (R503). -/
def execPowerFailFlush (dt : Nat) (s : State) : Host.Outcome State Fault Refusal :=
  let s := s.advance dt
  .next (match s.recorder.tPf with
    | none => s
    | some t =>
      if s.recorder.blocked ∨ !s.elapsed t (us 12) then s
      else
        let s :=
          if !s.recWrites then { s with recorder := { s.recorder with queue := [] } }
          else
            let before := s.recorder.written
            let mark := fun (e : RecEntry) => if e.cycle then e else { e with flags := e.flags ||| 2 }
            let s := foldState s.recorder.queue (fun e u => u.writeRecord (mark e)) { s with recorder := { s.recorder with queue := [] } }
            let s := if s.recorder.pendingLoss = 0 then s
              else
                let r := s.recorder
                { s with recorder := { r with pendingLoss := 0, lossSev := 0 } }.writeRecord
                  ⟨0x002B, 43, r.lossSev, 2, s.ts, 0, r.lossParam, 0, false⟩
            let s := s.saveCounters
            let r := s.recorder
            { s with recorder := { r with saved := some ⟨r.lastSnap, r.nextSeq, r.opSeconds, r.powerCycles, r.written - before⟩ } }
        { s with recorder := { s.recorder with flushing := false, blocked := true }, power := { s.power with flushed := true } }.inert)

/-! ## Reading the log (R478–R480) -/

/-- A key: POWER_CYCLES, OP_SECONDS, SEQ (R463). -/
structure RecKey where
  cycles : Nat
  secs   : Nat
  seq    : Nat
  deriving DecidableEq, Repr

/-- The key of a record. -/
def Record.key (r : Record) : RecKey := ⟨r.cycles, r.opSeconds, r.seq⟩

/-- Key order: SEQ compares by its difference as i16; the all-zero key precedes every record (R463). -/
def RecKey.before (a b : RecKey) : Bool :=
  if a.cycles ≠ b.cycles then decide (a.cycles < b.cycles)
  else if a.secs ≠ b.secs then decide (a.secs < b.secs)
  else decide (0 < (BitVec.ofNat 16 b.seq - BitVec.ofNat 16 a.seq).toInt)

/-- Put a record into a list that is in key order, before its equals. -/
def insertRecord (r : Record) : List Record → List Record
  | [] => [r]
  | x :: l => if x.key.before r.key then x :: insertRecord r l else r :: x :: l

/-- The records of the region in key order (R463, R479). -/
def Recorder.sorted (r : Recorder) : List Record := r.records.foldr insertRecord []

/-- The 9 bytes of a key. -/
def RecKey.bytes (k : RecKey) : List Byte := le 3 k.cycles ++ le 4 k.secs ++ le 2 k.seq

/-- The 32 bytes of a record (R462). -/
def Record.bytes (r : Record) : List Byte :=
  let e := r.entry
  let head := le 2 e.code ++ le 1 (e.src % 64 + 64 * e.sev) ++ [e.flags] ++ le 4 r.opSeconds ++ le 3 r.cycles ++ [0] ++ le 6 e.ts.toNat
  let tail := le 4 e.param0 ++ le 4 e.param1 ++ le 2 r.seq
  head ++ le 2 e.rep ++ tail ++ le 2 (Crc.crc16 (head ++ tail)).toNat

/-- A recorder command is served: address 0x0000, and only once the scan has ended (R478). -/
def State.recServes (s : State) (h : Handle) (f : State) : State :=
  if h.unit ≠ 0 then s.refuse h stBadUnit else if !s.recorder.ready then s.refuse h stModeForbids else f

/-- REC_INFO (0x50); of an empty region both keys are all zero, the key that precedes every record. -/
def State.recInfo (s : State) (h : Handle) (_ps : List Byte) : State :=
  let r := s.recorder
  let k := fun (x : Option Record) => ((x.map Record.key).getD ⟨0, 0, 0⟩).bytes
  s.recServes h (s.reply h stDone (le 4 (r.count 0) ++ le 4 (r.count 1) ++ le 4 (r.count 2) ++ le 4 (r.count 3)
    ++ le 4 (recCapacity - r.records.length) ++ k r.sorted.head? ++ k r.sorted.getLast? ++ le 1 r.queue.length ++ le 4 r.written ++ le 4 r.lost))

/-- REC_READ (0x51, R479). -/
def State.recRead (s : State) (h : Handle) (ps : List Byte) : State :=
  let k : RecKey := ⟨unLe (ps.take 3), unLe ((ps.drop 3).take 4), unLe ((ps.drop 7).take 2)⟩
  let n := (ps.getD 9 0).toNat
  let sev := (ps.getD 10 0).toNat
  let r := s.recorder
  s.recServes h
    (if n < 1 ∨ 31 < n ∨ 3 < sev then s.refuse h stOutOfRange
    else
      let rep := match r.records.find? fun x => decide (x.key = k) with
        | some x => if x.entry.cycle then 0 else x.entry.rep
        | none => 0
      let out := (r.sorted.filter fun x => (decide (k = ⟨0, 0, 0⟩) || k.before x.key) && decide (sev ≤ x.entry.sev)).take n
      s.reply h stDone (le 2 rep ++ le 1 out.length ++ out.flatMap Record.bytes))

/-- REC_CLEAR (0x52, R480). -/
def State.recClear (s : State) (h : Handle) (ps : List Byte) : State :=
  let m := (ps.getD 0 0).toNat
  let r := s.recorder
  s.recServes h
    (if m = 0 ∨ 3 < m then s.refuse h stBadParam
    else if s.mode ≠ .maintain then s.refuse h stModeForbids
    else if !s.sealOpen then s.refuse h stSealed
    else
      let kept := r.records.filter fun x => !(m.testBit x.entry.sev && decide (x.entry.sev < 2))
      let n := r.records.length - kept.length
      let s := { s with recorder := { r with records := kept } }
      (s.raise 43 0x002B 0 (7 + 256 * m + 1024 * min 4194303 n)).reply h stDone (le 4 n))

end Sys2Proof.Machine
end

