-- ==== Sys2Proof/Machine/Power.lean ====
section
/-! DEFINITION. Power-up, the boot record and the firmware banks, power failure, die temperature (R485–R503, R518). -/

namespace Sys2Proof.Machine

/-! ## Banks and the boot record (R491, R499) -/

/-- The verification of a bank against ROLLBACK_FLOOR: the reason of R499, 0 when it is valid, with FW_VERSION and SEC_COUNTER. An image that
is as delivered is valid (log 14). -/
def Bank.check (b : Bank) (floor : Nat) : Nat × Nat × Nat :=
  if b.delivered && b.cells.isEmpty then
    (if Config.fwSecCounter < floor then 5 else if b.bad ≠ [] then 6 else 0, Config.fwVersion, Config.fwSecCounter)
  else
    let h := b.bytes 0 512
    let word := fun (k : Nat) => unLe ((h.drop k).take 4)
    let len := word 12
    let why :=
      if word 0 ≠ 0x46575848 ∨ (h.drop 112).any (· ≠ 0) then 1
      else if 4193792 < len then 2
      else if Sha256.digest (b.bytes 512 len) ≠ (h.drop 16).take 32 then 3
      else if !Config.signatureOk (h.take 112) then 4
      else if word 8 < floor then 5
      else if b.bad ≠ [] then 6 else 0
    (why, word 4, word 8)

/-- A bank is valid (R491). -/
def Bank.valid (b : Bank) (floor : Nat) : Bool := (b.check floor).1 = 0

/-- The boot record in force: the copy of the higher generation whose CRC verifies. -/
def Power.record (x : Power) : Option BootRecord :=
  match x.boot[0], x.boot[1] with
  | some a, some b => if b.gen < a.gen then some a else some b
  | some a, none => some a
  | none, r => r

/-- Change the boot record: its older copy is written (R500). -/
def Power.setRecord (x : Power) (f : BootRecord → BootRecord) : Power :=
  match x.record with
  | none => x
  | some r =>
    let k : Fin 2 := if x.boot[0] = some r then 1 else 0
    { x with boot := x.boot.set k.val (some { f r with gen := r.gen + 1 }) }

/-- ROLLBACK_FLOOR. -/
def Power.floor (x : Power) : Nat := (x.record.map (·.floor)).getD 0

/-- The bank that is not running: the inactive bank of the firmware commands (R499, R500; log 15). -/
def Power.other (x : Power) : Fin 2 := 1 - x.running

/-- FW_VERSION of a bank, 0 when it is invalid (R499). -/
def Power.version (x : Power) (k : Fin 2) : Nat :=
  let c := x.banks[k].check x.floor
  if c.1 = 0 then c.2.1 else 0

/-- Event 51 with a bank (R502). -/
def State.fwEvent (s : State) (reason : Nat) (k : Fin 2) : State :=
  s.raise 51 0x0033 0 (reason + 256 * k.val + 65536 * (s.power.version k % 65536))

/-! ## Power-up (R485–R492) -/

/-- What survives a loss of power: the recorder memory with its records, counters, saved flush, sealed block, friction maps and firmware; the
queue and the counter of free values are the model's own. Everything else is as after reset. -/
def State.powerCycle (s : State) : State :=
  let r := s.recorder
  { State.reset with
    pending := s.pending, free := s.free
    recorder := { Recorder.reset with records := r.records, slots := r.slots, slotAt := r.slotAt, saved := r.saved }
    sealer := { Seal.reset with copies := s.sealer.copies }
    portals := s.portals.map fun p =>
      { Portal.reset with leaves := p.leaves.map fun l =>
          { Leaf.reset with det := { Detector.reset with copies := l.det.copies, nextCopy := l.det.nextCopy } } }
    power := { Power.reset with boot := s.power.boot, banks := s.power.banks, running := s.power.running } }

/-- LOGIC_SUPPLY_LOST: POR_N asserted, or a supply below its threshold for 1 µs: INIT with every output inert (R34, R486). -/
def execLogicSupplyLost (dt : Nat) (s : State) : Host.Outcome State Fault Refusal :=
  let s := (s.advance dt).powerCycle
  .next { s with power := { s.power with off := true } }

/-- POR_N_RELEASE: the time-stamp starts, and INIT begins. The levels of the safety-reset pair are taken: a press in progress gives no edge
(R49, R314, R490). -/
def execPorNRelease (dt : Nat) (sresetA sresetB : Bool) (s : State) : Host.Outcome State Fault Refusal :=
  .next (if !s.power.off then s.advance dt
    else
      let s := s.powerCycle
      let press : Option Press := if pairState sresetA sresetB = 0 then none
        else let t := if pairState sresetA sresetB = 1 then some 0 else none
          some ⟨0, t, none, t, none, true, false⟩
      { s with safety := { s.safety with srA := sresetA, srB := sresetB, press := press } })

/-- The bank chosen at step 3 of INIT, with the boot record as the choice leaves it and the events that it raises: reason and bank (R491). -/
def Power.choose (x : Power) : Option (Fin 2 × Power × List (Nat × Fin 2)) :=
  match x.record with
  | none => none
  | some r =>
    let ok := fun (k : Fin 2) => x.banks[k].valid r.floor
    let trial := match r.trial with
      | some t => if !r.attempted && ok t then some t else none
      | none => none
    match trial with
    | some t => some (t, { x.setRecord (fun y => { y with attempted := true }) with trialRunning := true }, [(1, t)])
    | none =>
      let (x, ev) : Power × List (Nat × Fin 2) := match r.trial with
        | some t => if r.attempted then (x.setRecord fun y => { y with trial := none, attempted := false }, [(2, t)]) else (x, [])
        | none => (x, [])
      let b : Fin 2 := 1 - r.active
      if ok r.active then some (r.active, x, ev ++ [(0, r.active)])
      else if ok b then some (b, { x.setRecord (fun y => { y with active := b }) with fallback := true }, ev ++ [(3, b)])
      else none

/-- The steps of INIT (R490): the first that fails, or the entry to TEST with the epoch at 0. -/
def State.initRun (s : State) (i : InitInputs) (retries step : Nat) : State :=
  let fail := fun (n : Nat) => { s with power := { s.power with initFail := some (n, retries, s.ts) } }
  if !i.pllLocked || !i.refclkOk then fail 1
  else if !i.linksUp then fail 2
  else match s.power.choose with
    | none => fail 3
    | some (k, x, evs) =>
      let s := { s with power := { x with running := k, initFail := none }, epoch := 0 }
      let s := s.hubEnter .test
      let s := foldState participants (fun d t => t.dieEnter d .test) s
      let s := if retries = 0 then s else s.raise 51 0x0033 0 (5 + 256 * step + 65536 * min 65535 retries)
      foldState evs (fun e t => t.fwEvent e.1 e.2) s

/-- The device is in INIT with its supplies up. -/
def State.inInit (s : State) : Bool := decide (s.mode = .init) && !s.power.off

/-- INIT_COMPLETE: the steps of INIT at the first attempt (R490). -/
def execInitComplete (dt : Nat) (i : InitInputs) (s : State) : Host.Outcome State Fault Refusal :=
  let s := s.advance dt
  .next (if s.inInit && s.power.initFail.isNone then s.initRun i 0 0 else s)

/-- INIT_RETRY: 100 ms after a failed step, INIT is tried again (R490). -/
def execInitRetry (dt : Nat) (i : InitInputs) (s : State) : Host.Outcome State Fault Refusal :=
  let s := s.advance dt
  .next (match s.power.initFail with
    | some (step, n, t) => if s.inInit && s.elapsed t (ms 100) then s.initRun i (n + 1) step else s
    | none => s)

/-- TEST_COMPLETE: a failed self-test leads to SAFE; with every test passed and the scan ended, CONFIGURE follows (R34, R492). -/
def execTestComplete (dt : Nat) (fails : BitVec 16) (s : State) : Host.Outcome State Fault Refusal :=
  let s := s.advance dt
  let f := fails &&& 0x01FF#16
  .next (if s.mode ≠ .test then s
    else
      let s := { s with power := { s.power with selftest := f } }
      if f ≠ 0 then s.enterSafe 0
      else if s.recorder.ready ∧ !s.committing then s.startCommit .configure none none else s)

/-! ## Power failure (R476, R497) -/

/-- PFAIL accepted: event 48, every modulating leaf into BRAKE, every step stopped, T_PF for the flush (R497). -/
def execPfail (dt : Nat) (s : State) : Host.Outcome State Fault Refusal :=
  let s := s.advance dt
  .next (if s.power.off ∨ s.power.pfail then s
    else
      let s := { s with power := { s.power with pfail := true }, recorder := { s.recorder with tPf := some s.ts, flushing := true } }
      let leaf := fun (p : PortalId) (l : LeafId) (t : State) =>
        if (t.leaf p l).drive = .off then t else t.leafBrake p l
      let s := foldState allPortals (fun p t =>
        let t := foldState [0, 1] (leaf p) t
        if (t.stepOf p).drive = .off then t else t.stepStop p (t.standstill p)) s
      let n := (allPortals.flatMap fun p => (s.portal p).leaves.toList).filter fun l => decide (l.drive = .brake)
      s.raise 48 0x0030 0 n.length)

/-! ## Firmware commands (R499, R500) -/

/-- A firmware command is served: address 0x0000, and a mode that admits it. -/
def State.fwServes (s : State) (h : Handle) (ok : Bool) (f : State) : State :=
  if h.unit ≠ 0 then s.refuse h stBadUnit else if !ok then s.refuse h stModeForbids else f

/-- FW_STATUS (0x70); a trial is pending when one is named that does not run. -/
def State.fwStatus (s : State) (h : Handle) (_ps : List Byte) : State :=
  let x := s.power
  let r := x.record
  let act := (r.map (·.active)).getD x.running
  let named := ((r.map (·.trial)).getD none).isSome
  s.fwServes h true (s.reply h stDone (le 1 act.val ++ le 1 x.running.val
    ++ le 1 (bit x.trialRunning + 2 * bit (named && !x.trialRunning) + 4 * bit x.verified)
    ++ le 4 (x.version 0) ++ le 4 (x.version 1) ++ le 4 x.floor))

/-- The inactive bank is written: it is no longer verified (R500). -/
def State.fwPut (s : State) (a : Nat) (l : List Byte) : State :=
  let x := s.power
  { s with power := { x with banks := x.banks.set x.other.val (x.banks[x.other].write a l), verified := false } }

/-- FW_BEGIN (0x71). -/
def State.fwBegin (s : State) (h : Handle) (_ps : List Byte) : State :=
  s.fwServes h (s.mode = .maintain) ((s.fwPut 0 (List.replicate 512 0)).reply h stDone [])

/-- FW_WRITE (0x72). -/
def State.fwWrite (s : State) (h : Handle) (ps : List Byte) : State :=
  let a := unLe (ps.take 4)
  let d := ps.drop 4
  s.fwServes h (s.mode = .maintain)
    (if a % 4 ≠ 0 ∨ d.length % 4 ≠ 0 ∨ bankSize < a + d.length then s.refuse h stBadParam else (s.fwPut a d).reply h stDone [])

/-- FW_VERIFY (0x73); a second one while one runs is refused (log 15). -/
def State.fwVerify (s : State) (h : Handle) (_ps : List Byte) : State :=
  s.fwServes h (s.mode = .maintain && s.power.verify.isNone)
    ({ s with power := { s.power with verify := some h } }.reply h stAccepted [])

/-- FW_VERIFY_DONE (R499, R502). -/
def execFwVerifyDone (dt : Nat) (s : State) : Host.Outcome State Fault Refusal :=
  let s := s.advance dt
  .next (match s.power.verify with
    | none => s
    | some h =>
      let k := s.power.other
      let (why, ver, sec) := s.power.banks[k].check s.power.floor
      let s := { s with power := { s.power with verify := none, verified := decide (why = 0) } }
      if why = 0 then (s.fwEvent 6 k).reply h stDone (le 4 ver ++ le 4 sec) else s.reply h stBadParam (le 1 why))

/-- FW_ACTIVATE (0x74). -/
def State.fwActivate (s : State) (h : Handle) (_ps : List Byte) : State :=
  let k := s.power.other
  s.fwServes h (s.mode = .maintain && s.power.verified)
    ({ s with power := s.power.setRecord fun r => { r with trial := some k, attempted := false } }.reply h stDone [])

/-- FW_CONFIRM (0x75). -/
def State.fwConfirm (s : State) (h : Handle) (_ps : List Byte) : State :=
  let k := s.power.running
  let sec := (s.power.banks[k].check 0).2.2
  let s' := { s with power := { s.power.setRecord fun r =>
    { r with active := k, trial := none, attempted := false, floor := max r.floor sec } with trialRunning := false } }
  s.fwServes h ((s.mode = .configure || s.mode = .maintain) && s.power.trialRunning) ((s'.fwEvent 4 k).reply h stDone [])

/-- FW_REVERT (0x76). -/
def State.fwRevert (s : State) (h : Handle) (_ps : List Byte) : State :=
  let named := (s.power.record.map (·.trial)).getD none
  let s' := { s with power := { s.power.setRecord fun r => { r with trial := none, attempted := false } with trialRunning := false } }
  s.fwServes h (s.mode = .maintain) (match named with
    | some k => (s'.fwEvent 7 k).reply h stDone []
    | none => s.reply h stDone [])

/-! ## Die temperature (R518) -/

/-- DIE_TEMPERATURE: DIE_TEMP and its peak, and event 0x0431 at 145.0 °C and below 140.0 °C. R518 has the Hub die raise it, where the table of
R52 names the die that measured: it is raised on the Hub die (log 94, DESIGN CHOICE). -/
def execDieTemperature (dt : Nat) (d : DieId) (temp : Int) (s : State) : Host.Outcome State Fault Refusal :=
  let s := s.advance dt
  let x := s.die d
  let t := clampI (-32768) 32767 temp
  let hot := if x.hot then decide (1400 ≤ t) else decide (1450 ≤ t)
  let s := s.modDie d fun x => { x with temp := t, peak := some ((x.peak.map (max · t)).getD t), hot := hot }
  .next (if hot = x.hot then s else s.raise 49 0x0431 (uDie d.val) (sat16 t + 65536 * bit hot))

end Sys2Proof.Machine
end

