-- ==== Sys2Proof/Machine/Status.lean ====
section
/-! DEFINITION. What a parameter reads as: the status parameters of every chapter, and the values that the host or the seal holds (R10, R449).
A measured value reads as it is at the read; the manual refreshes most of them every 1 ms (log 16). -/

namespace Sys2Proof.Machine

/-- A count of ms, saturated in 16 bits. -/
def ms16 (counts : Nat) : Nat := min 65535 (counts / 100000)

/-! ## Device scope -/

/-- PAIR_STATUS (R372). -/
def State.pairStatus (s : State) : Nat :=
  let c := s.claim
  let x := s.partner
  bit c.held + 2 * bit c.ack + 4 * bit c.wireA.faulty + 8 * bit c.wireB.faulty + 16 * bit (c.wireA.faulty && c.wireB.faulty)
    + 32 * bit s.isolated + 64 * bit x.linkUp + 128 * bit (decide (x.version ≠ 0)) + 256 * bit (x.heardAt.isSome && !x.lost)
    + 512 * bit s.snapFresh + 1024 * bit s.configMatch + 2048 * bit x.roleConflict + 4096 * bit c.yield.isSome + 8192 * bit s.healthZero

/-- HEALTH_DETAIL (R372). -/
def State.healthDetail (s : State) : Nat :=
  s.health + 128 * min 15 s.healthF + 2048 * min 31 s.healthL
    + 65536 * ((s.healthK.zipIdx.map fun k => 2 ^ k.2 * bit k.1).sum)

/-- CAN_STATUS (R403). -/
def State.canStatus (s : State) (n : CanId) : Nat :=
  let x := s.can n
  x.state.code + 8 * x.errState + 32 * bit x.warning + 64 * bit x.recovering + 128 * bit x.verified + 256 * bit x.pex
    + 512 * bit (s.txPending n)

/-- WDG_STATUS (R460); owner and key belong to a watchdog that is not stopped. -/
def Watchdog.status (w : Watchdog) : Nat :=
  if w.state = 0 then 0 else w.state + 4 * w.owner.val + 8 * bit (decide (w.kicks % 2 = 1))

/-- WDG_REMAINING (R460). -/
def State.wdgRemaining (s : State) : Nat :=
  if s.wdg.state = 1 then (ms s.wdg.window - s.ts.since s.wdg.last) / 100000 else 0

/-- The tags in use on a port (R437). -/
def Port.tagCount (x : Port) : Nat := ((List.range 128).filter fun t => x.tags.getLsbD t).length

/-- SESSION_SPI and SESSION_CAN3 (R460). -/
def Port.sessionWord (x : Port) : Nat := x.version % 256 + 256 * min 255 x.tagCount

/-- ST_STATUS (R424). -/
def State.teleStatus (s : State) : Nat :=
  let z := s.tele.zs
  let r := s.tele.rel
  bit z.valid + 2 * bit r.valid + 4 * bit (z.valid && z.single) + 8 * bit (r.valid && r.single) + 16 * bit s.teleSends + 32 * bit s.tele.fromBus

/-- The status of a CAN controller, by offset (R402). -/
def State.canRead (s : State) (n : CanId) (off : Nat) : Int :=
  let x := s.can n
  match off with
  | 0x80 => s.canStatus n
  | 0x81 => (min 255 x.tec : Nat)
  | 0x82 => x.recErr
  | 0x83 => x.fifo.length
  | 0x84 => x.fifoLost
  | 0x85 => x.overwrites
  | 0x86 => x.loopDelay
  | 0x87 => x.busOffs
  | 0x88 => x.stale
  | 0x89 => x.lastError
  | 0x8A => (x.detected.getD 0xFF : Nat)
  | 0x8B => (bit x.overflow + 2 * bit x.warningSeen : Nat)
  | _ => 0

/-- Status parameters of the device chapters: modes, boot, recorder, watchdog (R58, R460, R484, R501). -/
def State.readSystem (s : State) (pid : Nat) : Int :=
  let r := s.recorder
  match pid with
  | 0xE000 => s.mode.code
  | 0xE001 => s.modeCause.toNat
  | 0xE002 => s.epoch.toNat
  | 0xE012 => (s.evtPending.toNat % 2 ^ 32 : Nat)
  | 0xE013 => (s.evtPending.toNat / 2 ^ 32 : Nat)
  | 0xE020 => s.ts.toNat
  | 0xE021 => ((List.finRange 8).map fun d => 2 ^ d.val * bit (s.die d).tsFault).sum
  | 0xE040 => (s.power.running.val + 2 * bit s.power.trialRunning + 4 * bit s.power.fallback : Nat)
  | 0xE041 => s.power.selftest.toNat
  | 0xE042 => s.power.version s.power.running
  | 0xE043 => s.power.floor
  | 0xE044 => (bit s.power.pfail + 2 * bit s.power.flushed : Nat)
  | 0xD080 => s.wdg.status
  | 0xD081 => if s.wdg.state = 0 then 0 else s.wdg.window
  | 0xD082 => s.wdgRemaining
  | 0xD083 => (s.port 0).sessionWord
  | 0xD084 => (s.port 1).sessionWord
  | 0xC080 => (bit r.ready + 2 * bit (decide (recCapacity ≤ r.records.length)) + 4 * bit r.flushing
      + 8 * bit (decide (r.pendingLoss ≠ 0)) : Nat)
  | 0xC081 => r.queue.length
  | 0xC082 => r.count 0
  | 0xC083 => r.count 1
  | 0xC084 => r.count 2
  | 0xC085 => r.count 3
  | 0xC086 => r.written
  | 0xC087 => r.lost
  | 0xC088 => r.torn
  | 0xC089 => r.opSeconds
  | 0xC08A => r.powerCycles
  | 0xC08B => r.nextSeq
  | _ => 0

/-- Status parameters of the safety, pairing, CAN and telegram chapters (R320, R372, R402, R424). -/
def State.readSafety (s : State) (pid : Nat) : Int :=
  match pid with
  | 0x8090 => s.safetyStatus
  | 0x8091 => (s.termMask (·.fwTerm) + 256 * s.termMask (·.hwTerm) : Nat)
  | 0x8092 => s.safety.dclFault.toNat
  | 0x8093 => s.sealer.live.toNat
  | 0x8094 => s.sealer.stored
  | 0x8095 => s.sealer.commitCount
  | 0x8096 => if !s.safety.gpiAdopted then 0 else ((List.finRange 10).map fun n => 2 ^ n.val * bit s.safety.gpi[n]).sum
  | 0x9080 => s.pairStatus
  | 0x9081 => s.claim.own.toNat
  | 0x9082 => s.claim.win.toNat
  | 0x9083 => s.healthDetail
  | 0x9084 => Config.unitSerial.toNat
  | 0x9085 => s.partner.serial.toNat
  | 0x9086 => s.partner.version
  | 0x9087 => s.partner.snapLast.toNat
  | 0x9088 => if s.partner.adopted.isSome then (min 65535 (s.snapAge / 10000) : Nat) else 65535
  | 0x9089 => s.partner.discarded
  | 0x908A => s.partner.skipped
  | 0x908B => s.partner.takeovers
  | 0x908C => if s.mode = .standby then maskOf (allPortals.filter fun p => s.present p && s.causePending p) else 0
  | 0xB080 => s.teleStatus
  | 0xB081 => (bit s.zsTold + 256 * s.relMask.toNat : Nat)
  | 0xB082 => s.tele.seqDcl.toNat
  | 0xB083 => s.tele.seqState.toNat
  | 0xB084 => s.tele.zs.seqLast.toNat
  | 0xB085 => s.tele.rel.seqLast.toNat
  | 0xB086 => s.tele.mismatch
  | 0xB087 => s.tele.badCopies
  | 0xB088 => s.tele.singleAccepts
  | 0xB089 => s.tele.singleDrops
  | 0xB08A => s.tele.rejected
  | 0xB08B => s.tele.seqGaps
  | 0xB08C => s.tele.timeouts
  | _ => if pid / 0x1000 = 0xA then s.canRead ⟨pid / 0x100 % 4, by omega⟩ (pid % 0x100) else 0

/-! ## Dies, portals and their parts -/

/-- The engine of a die address, if it has one. -/
def engineOf (unit : Nat) : PdId := if unit = 0x4200 then 1 else 0

/-- A field of a slot (R165). -/
def State.readSlot (s : State) (d : PdId) (f : Nat) (n : SlotId) : Int :=
  let x := s.slot d n
  match f with
  | 0 => x.statusWord
  | 1 => s.slotRate d n
  | 32 => x.e
  | 33 => x.u
  | 34 => clampI (-2147483648) 2147483647 x.i
  | 35 => x.tuTu
  | 36 => x.tuAmp
  | 37 => x.tuKu
  | 38 => x.tuShift
  | 39 => x.tuB0
  | 40 => x.tuKi
  | 41 => x.tuKb
  | 42 => x.tuFlags
  | _ => 0

/-- The portals of a power die. -/
def pwPortals (unit : Nat) : List PortalId := allPortals.filter fun p => decide ((pwDie p).val = unit / 256 % 16)

/-- The hottest channel of a power die, 0 without one. -/
def State.hottest (s : State) (unit : Nat) : Int :=
  match (pwPortals unit).flatMap fun p => (List.finRange 8).map fun c => (s.chan p c).temp with
  | [] => 0
  | t :: l => l.foldl max t

/-- Status parameters of die scope (R165, R286, R518). -/
def State.readDie (s : State) (unit pid : Nat) : Int :=
  let d : DieId := ⟨unit / 256 % 8, by omega⟩
  match pid with
  | 0xE050 => (s.die d).temp
  | 0xE051 => (s.die d).peak.getD 0
  | 0x7200 =>
    let ps := pwPortals unit
    (bit (s.die d).hubLost + 2 * bit (ps.any fun p => s.fsCause p) + 4 * bit (ps.any fun p => (s.portal p).vlsStatus.getLsbD 3)
      + 8 * bit s.gates + 16 * bit s.sealer.fsLoaded : Nat)
  | 0x7201 => s.hottest unit
  | _ => s.readSlot (engineOf unit) ((pid - 0x3000) / 0x40) ⟨pid % 0x40, by omega⟩

/-- Status parameters of portal scope (R97, R132, R251, R286, R320, R484). -/
def State.readPortal (s : State) (p : PortalId) (pid : Nat) : Int :=
  let x := s.portal p
  match pid with
  | 0x1080 => (s.shownState p).code
  | 0x1081 => s.portalFlags p
  | 0x1082 => s.shownCause p
  | 0x1083 => x.recloses
  | 0x2084 => quant x.vbus
  | 0x6089 => (bit (s.echoDrives p) + 2 * bit x.echo.overrun + 4 * x.echo.ab : Nat)
  | 0x608A => x.echo.backlog
  | 0x608B => x.aux.toNat
  | 0x7100 => x.vls
  | 0x7101 => x.vlsStatus.toNat
  | 0x8080 => s.siStatus p
  | 0x8081 => x.siFault.toNat
  | 0xC090 => x.cycleCount
  | 0xC091 => x.obstTotal
  | 0xC092 => x.fenceTotal
  | _ => 0

/-- Status parameters of leaf scope (R132, R192); an energy-fence brake shows as BRAKE (R181), and LEARNING as the traversal is clean (R193). -/
def State.readLeaf (s : State) (p : PortalId) (l : LeafId) (pid : Nat) : Int :=
  let x := s.leaf p l
  let d := x.det
  let k := pid % 0x100
  match pid with
  | 0x2080 => ((if s.pdMode p = .standby then Drive.off.code else if x.efOverride then Drive.brake.code else x.drive.code)
      + 8 * bit x.voltSat + 16 * bit x.aligned : Nat)
  | 0x2081 => x.fault.toNat
  | 0x2082 => x.iq
  | 0x2083 => x.id
  | 0x2085 => x.chopFreq
  | 0x2086 => (s.thetaNow p l).toNat
  | 0x4080 => (setBit d.status 10 d.clean).toNat
  | 0x4081 => d.fRes
  | 0x4082 => d.fOpp
  | 0x4083 => d.thrEff
  | 0x4084 => d.eKin
  | 0x4085 => d.ffCurrent
  | 0x4086 => d.efSpeed
  | 0x4087 => d.peakFOpp
  | 0x4088 => d.peakE
  | 0x4089 => d.updates
  | _ =>
    match pid / 0x100 with
    | 0x41 => quant (d.mOpen.getD k 0)
    | 0x42 => quant (d.mClose.getD k 0)
    | 0x43 => (d.confOpen.getD k 0 + 16 * d.confClose.getD k 0 : Nat)
    | _ => 0

/-- STEP_STATUS (R224); its default without a step. -/
def State.stepStatus (s : State) (p : PortalId) : Nat :=
  let x := s.stepOf p
  if !s.stepFitted p then 0
  else x.drive.code + 8 * bit x.uncertain + 16 * bit x.strong + 32 * bit x.homed + 64 * bit (decide (x.phi = x.phiT ∧ x.v = 0))
    + 128 * bit (s.stepStill p) + 256 * bit x.homeInput + 512 * bit x.dir

/-- Status parameters of step scope (R223). -/
def State.readStep (s : State) (p : PortalId) (pid : Nat) : Int :=
  let x := s.stepOf p
  match pid with
  | 0x5080 => s.stepStatus p
  | 0x5081 => x.fault.toNat
  | 0x5082 => s.stepPos p
  | 0x5083 => (x.phi - x.phi0).toInt
  | 0x5084 => quant x.v
  | 0x5085 => clampI (-32768) 32767 x.ia
  | 0x5086 => clampI (-32768) 32767 x.ib
  | 0x5087 => x.r
  | 0x5088 => x.homeCorr
  | _ => 0

/-- Status parameters of channel scope (R286). -/
def State.readChan (s : State) (p : PortalId) (c : ChanId) (pid : Nat) : Int :=
  let x := s.chan p c
  match pid with
  | 0x7080 => s.chStatus p c
  | 0x7081 => (min 8190 x.iAvg : Nat)
  | 0x7082 => (min 8190 x.iOn : Nat)
  | 0x7083 => x.temp
  | 0x7084 => x.retries
  | 0x7085 => x.dutyEff
  | 0x7086 => x.shutdowns
  | 0x7087 => x.switchings
  | _ => 0

/-- Status parameters of feedback scope (R251). -/
def State.readFb (s : State) (p : PortalId) (f : FbId) (pid : Nat) : Int :=
  let x := s.fb p f
  match pid with
  | 0x6080 => s.fbStatus p f
  | 0x6081 => x.fault.toNat
  | 0x6082 => x.c.toInt
  | 0x6083 => s.fbPos p f
  | 0x6084 => truncR (s.fbV p f)
  | 0x6085 => truncR (s.fbA p f)
  | 0x6086 => x.illegal
  | 0x6087 => x.lcMismatch
  | 0x6088 => x.lastSpan
  | _ => 0

/-! ## Any parameter -/

/-- A status value: a parameter that hardware or firmware keeps. -/
def State.readStatus (s : State) (d : PDesc) (pid unit : Nat) : Int :=
  let p : PortalId := ⟨unit / 256 % 8, by omega⟩
  match d.scope with
  | .device => if pid / 0x1000 = 0x8 ∨ pid / 0x1000 = 0x9 ∨ pid / 0x1000 = 0xA ∨ pid / 0x1000 = 0xB then s.readSafety pid else s.readSystem pid
  | .die => s.readDie unit pid
  | .portal => s.readPortal p pid
  | .leaf => s.readLeaf p ⟨unit % 2, by omega⟩ pid
  | .step => s.readStep p pid
  | .channel => s.readChan p ⟨unit % 8, by omega⟩ pid
  | .feedback => s.readFb p ⟨unit % 16 % 3, by omega⟩ pid

/-- The SLOT_RATE of a leaf slot (R165). -/
def leafRate (pid : Nat) : Bool := decide (0x3040 ≤ pid ∧ pid < 0x3060)

/-- PF_ENABLE of a controller (R402). -/
def pfEnable (pid : Nat) : Option CanId :=
  if pid / 0x400 = 0x28 ∧ pid % 0x100 = 0x30 then some ⟨pid / 0x100 % 4, by omega⟩ else none

/-- The value that a read of a parameter gives: WO reads 0, status as it is, any other the value in force (R10). PF_ENABLE shows the filters
that the telegram engine has enabled beside the host's (R384, R423). -/
def State.readValue (s : State) (d : PDesc) (pid unit : Nat) : Int :=
  match d.access with
  | .wo => 0
  | .ro | .hw | .w1c | .roW1c => s.readStatus d pid unit
  | _ =>
    if leafRate pid then s.slotRate (engineOf unit) ⟨pid % 0x40, by omega⟩
    else match pfEnable pid with
      | some n => ((s.view.raw pid unit).toNat ||| (s.can n).owned.toNat : Nat)
      | none => s.view.raw pid unit

end Sys2Proof.Machine
end

