-- ==== Sys2Proof/Machine/ParamCmds.lean ====
section
/-! DEFINITION. The parameter opcodes 0x10–0x13 (R449, R450): which write is refused, what a write does, and the writes that act (R10, R27, R57). -/

namespace Sys2Proof.Machine

/-! ## Addresses (R18, R27, R30) -/

/-- A valid unit address (R18). -/
def unitValid (u : Nat) : Bool :=
  isGroup u || ([PScope.device, .die, .portal, .leaf, .step, .channel, .feedback].any fun sc => (unitsOf sc).contains u)

/-- The unit lies in the scope of the PID: slot parameters exist on PD0 and PD1, the status of a power die on the power dies (R30, R165, R286). -/
def PDesc.atUnit (d : PDesc) (pid unit : Nat) : Bool :=
  (unitsOf d.scope).contains unit
    && (pid / 0x1000 ≠ 3 || unit = 0x4100 || unit = 0x4200)
    && (!(pid = 0x7200 || pid = 0x7201) || decide (0x4300 ≤ unit ∧ unit ≤ 0x4600))

/-! ## Records -/

/-- A record of a write: PID, SIZE and the value's bytes. -/
structure ParamRec where
  pid   : Nat
  size  : Nat
  value : List Byte
  deriving DecidableEq, Repr

/-- The value that a record carries for a parameter. -/
def ParamRec.num (r : ParamRec) (d : PDesc) : Int := if d.signed then signedOf d.width (unLe r.value) else unLe r.value

/-- The record at the head of some bytes, and the bytes behind it. -/
def takeRec (l : List Byte) : Option (ParamRec × List Byte) :=
  let n := (l.getD 2 0).toNat
  if l.length < 3 + n then none else some (⟨unLe (l.take 2), n, (l.drop 3).take n⟩, l.drop (3 + n))

/-- `n` records that use up some bytes. -/
def takeRecs : Nat → List Byte → Option (List ParamRec)
  | 0, l => if l = [] then some [] else none
  | n + 1, l =>
    if l.length < 3 then none
    else match takeRec l with
      | some (r, rest) => (takeRecs n rest).map (r :: ·)
      | none => none

/-- A parameter to write: its row, PID, unit, SIZE and value. -/
structure ParamPut where
  desc : PDesc
  pid  : Nat
  unit : Nat
  size : Nat
  v    : Int
  deriving DecidableEq, Repr

/-! ## What refuses a write (R10, R13, R245, R450) -/

/-- A reserved bit of the value is not 0 (R9; PORTAL_CONFIG, SLOT_STATUS, OBST_STATUS, CH_STATUS, CAN_OPTIONS and CAN_FLAGS: R60, R165, R193, R287,
R402). -/
def reservedBits (r : ParamRec) : Bool :=
  let v := unLe r.value
  (r.pid = 0x1000 && decide (16 ≤ v)) || (r.pid / 0x40 = 0xC0 && decide (1024 ≤ v)) || (r.pid = 0x4080 && decide (16384 ≤ v))
    || (r.pid = 0x7080 && decide (4096 ≤ v)) ||
    (r.pid / 0x400 = 0x28 && ((r.pid % 0x100 = 0x0C && decide (8 ≤ v)) || (r.pid % 0x100 = 0x8B && decide (4 ≤ v))))

/-- Timing parameters, CAN_OPTIONS and RX_MODE: written only while the controller is OFF (R379). -/
def canOffPid (pid : Nat) : Option CanId :=
  if pid / 0x400 = 0x28 ∧ (pid % 0x100 ≤ 0x0C ∨ pid % 0x100 = 0x10) then some ⟨pid / 0x100 % 4, by omega⟩ else none

/-- SLOT_RATE, SLOT_PORTAL, SLOT_IO and SETPOINT of a leaf slot (R165). -/
def leafSlotPid (pid : Nat) : Bool :=
  let f := (pid - 0x3000) / 0x40
  decide (pid / 0x1000 = 3) && [1, 19, 20, 21].contains f && decide (pid % 0x40 < 32)

/-- The access of R10 with the modes of the owning chapter: the status of a write that it forbids. -/
def State.accessRefused (s : State) (q : ParamPut) : Option Nat :=
  let edit := s.mode = .configure || s.mode = .maintain
  let only := fun (ok : Bool) => if ok then none else some stModeForbids
  match q.desc.access with
  | .ro | .hw => some stBadParam
  | .w1c | .roW1c => none
  | .srw => if s.mode = .maintain ∧ s.sealOpen then none else some stSealed
  | .rw => if leafSlotPid q.pid then some stBadParam else only edit
  | .rwAll => if leafSlotPid q.pid then some stBadParam else none
  | .rwMaint => only (s.mode = .maintain)
  | .rwConf => if q.pid = 0x6006 ∧ q.unit % 16 = 2 then some stBadParam else only (s.mode = .configure)
  | .rwFromConf => match canOffPid q.pid with
    | some n => only (s.mode.fromConfigure && (s.can n).state = .off)
    | none => only s.mode.fromConfigure
  | .rwCoef => s.coefRefused (engineOf q.unit) ⟨q.pid % 0x40, by omega⟩
  | .wo => match q.pid with
    | 0x4020 => only (s.mode = .maintain)
    | 0x6015 => if !edit then some stModeForbids else if s.par 0x6010 q.unit ≠ 2 then some stBadParam else none
    | _ => none

/-- SLOT_IO in the form of R134. -/
def slotIoOk (v : Nat) : Bool :=
  let kind := v % 16
  let idx := v / 16 % 16
  decide (kind ≤ 3) && decide (kind = 0 ∨ (kind = 3 ∧ idx ≤ 7) ∨ idx ≤ 2) && decide (v / 256 % 16 ≤ 1)
    && decide (v / 256 % 16 = 0 ∨ v / 4096 % 16 ≤ 7)

/-- The range of R13: the status of a value outside it. -/
def ParamPut.rangeRefused (q : ParamPut) : Option Nat :=
  let only := fun (ok : Bool) => if ok then none else some stOutOfRange
  match q.desc.access with
  | .w1c | .roW1c => none
  | _ =>
    if q.pid = 0x2000 ∨ q.pid = 0x4020 ∨ q.pid = 0x7000 then (if q.desc.inRange q.v then none else some stBadParam)
    else if q.pid / 0x40 = 0xD3 then only (q.desc.inRange q.v && decide (q.v / 4 = (if q.unit = 0x4100 then 0 else 1)))
    else if q.pid / 0x40 = 0xD4 then only (slotIoOk q.v.toNat)
    else if q.pid = 0x8003 then only (q.desc.inRange q.v && decide (q.v % 100 = 0))
    else only (q.desc.inRange q.v)

/-- The limits that a chapter states against other parameters (R192, R460), on the values after the write. -/
def State.limitRefused (s t : State) (q : ParamPut) : Option Nat :=
  let cap := fun (pid : Nat) => if s.view.isSet pid q.unit && decide (s.view.raw pid q.unit < q.v) then some stOutOfRange else none
  match q.pid with
  | 0x4010 => cap 0x4004
  | 0x4011 => cap 0x4005
  | 0xD001 | 0xD002 =>
    if t.view.isSet 0xD001 0 && t.view.isSet 0xD002 0 && decide (t.view.raw 0xD001 0 % 2 ^ 30 = t.view.raw 0xD002 0 % 2 ^ 30) then some stBadParam
    else none
  | _ => none

/-- An owner parameter of R244, or one of the condition that makes it one. -/
def ownerPid (pid : Nat) : Bool :=
  [0x1000, 0x1001, 0x1002, 0x1003, 0x1004, 0x1005, 0x1006, 0x1007, 0x5020, 0x5030, 0x6000, 0x6024, 0x6030, 0x6033, 0x6034, 0xB014, 0xB015, 0xB016].contains pid
    || pid / 0x40 = 0xD3 || pid / 0x40 = 0xD4 || (pfEnable pid).isSome

/-- A resource that a write gives a second owner: the block of R246 naming the present one. -/
def State.writeConflict (s t : State) (before after : View) : Option (List Byte) :=
  let had := s.resources before
  (t.resources after).findSome? fun (r : Nat × List Owner) =>
    let old : List Owner := ((had.find? fun x => x.1 = r.1).map (·.2)).getD []
    if 2 ≤ r.2.length ∧ r.2.any (fun o => !old.contains o) then
      let o := ((r.2.find? fun o => old.contains o).orElse fun _ => r.2.head?).getD (0, 0)
      some (le 2 r.1 ++ le 2 o.1 ++ le 2 o.2)
    else none

/-- A leaf of a pneumatic portal that keeps a LEAF_MODE (R95). -/
def pneuConflict (v : View) (q : ParamPut) : Option (List Byte) :=
  let p : PortalId := ⟨q.unit / 256 % 8, by omega⟩
  if !v.pneumatic p then none
  else match q.pid with
    | 0x2000 => if q.v ≠ 0 then some (conflictBlock 6 p.val (q.unit % 2) 0x1000 (uPortal p)) else none
    | 0x1000 => (([0, 1] : List LeafId).find? fun l => v.val 0x2000 (uLeaf p l) ≠ 0).map fun l => conflictBlock 6 p.val l.val 0x2000 (uLeaf p l)
    | _ => none

/-- The stream parameter that names a buffer of the telegram engine (R423). -/
def State.bufOwner (s : State) (k : Nat) : Nat := ([0xB014, 0xB015, 0xB016].find? fun q => s.parNames q 0 = some k).getD 0xB014

/-- A filter of a buffer that the telegram engine owns (R384). -/
def State.filterConflict (s : State) (q : ParamPut) : Option (List Byte) :=
  if q.pid / 0x400 ≠ 0x28 then none
  else
    let n : CanId := ⟨q.pid / 0x100 % 4, by omega⟩
    let off := q.pid % 0x100
    let own := (s.can n).owned
    let hit := fun (k : Nat) => some (conflictBlock 5 n.val k (s.bufOwner k) 0)
    if 0x20 ≤ off ∧ off < 0x30 then (if own.getLsbD (off % 8) then hit (off % 8) else none)
    else if off = 0x30 then
      match (List.range 8).find? fun k => own.getLsbD k && !q.v.toNat.testBit k with
      | some k => hit k
      | none => none
    else none

/-- The ownership of R245, on the values after the write: of the running device for an RW parameter, of the block that a commit would build for
a sealed one. -/
def State.ownerRefused (s t : State) (q : ParamPut) : Option (List Byte) :=
  let sealedPid := decide (q.desc.access = .srw)
  let before : View := ⟨s.params, if sealedPid then s.sealer.pending else s.sealer.loaded⟩
  let after : View := ⟨t.params, if sealedPid then t.sealer.pending else t.sealer.loaded⟩
  match pneuConflict after q with
  | some b => some b
  | none => match s.filterConflict q with
    | some b => some b
    | none => match (if ownerPid q.pid then s.writeConflict t before after else none) with
      | some b => some b
      | none => if q.pid / 0x40 = 0xD4 then t.slotConflict (engineOf q.unit) ⟨q.pid % 0x40, by omega⟩ else none

/-- Everything that refuses a record, in the order of R450: the status and what follows the group block of its reply; `t` is the state as it
would stand after the whole write, `unit` the header's. -/
def State.putRefused (s t : State) (unit : Nat) (q : ParamPut) : Option (Nat × List Byte) :=
  let plain := fun (o : Option Nat) => o.map fun st => (st, detail q.pid unit)
  (plain (if q.size = q.desc.width then none else some stBadLength))
    <|> plain (s.accessRefused q) <|> plain q.rangeRefused <|> plain (s.limitRefused t q)
    <|> (s.ownerRefused t q).map fun b => (stResource, b)

/-! ## What a write does -/

/-- Store a value: a sealed one waits for its commit (R10, R14), status and WO parameters store nothing; a filter bit that the telegram engine
owns stays out of the host's PF_ENABLE. -/
def State.put (s : State) (q : ParamPut) : State :=
  match q.desc.access with
  | .ro | .hw | .wo | .w1c | .roW1c => s
  | .srw => { s with sealer := { s.sealer with writes := store s.sealer.writes (q.pid, q.unit) q.v } }
  | _ =>
    let v := match pfEnable q.pid with
      | some n => ((q.v.toNat &&& (255 - (s.can n).owned.toNat)) : Nat)
      | none => q.v
    { s with params := store s.params (q.pid, q.unit) v }

/-- What ends with the old value: the channel of a slot or of the warning role is let go. -/
def State.letGo (s : State) (q : ParamPut) : State :=
  if q.pid / 0x40 = 0xD3 ∨ q.pid / 0x40 = 0xD4 then
    (if s.view.raw q.pid q.unit = q.v then s else s.slotUndrive (engineOf q.unit) ⟨q.pid % 0x40, by omega⟩)
  else if q.pid = 0x1002 ∧ s.view.raw q.pid q.unit ≠ q.v then s.setRole ⟨q.unit / 256 % 8, by omega⟩ (s.parNames 0x1002 q.unit) false
  else s

/-- A clear of pending events (R56, R57). -/
def State.clearPending (s : State) (hi : Bool) (v : Nat) : State :=
  let m := s.w1cMask (if hi then 0xE013 else 0xE012) 0 32 v
  { s with evtPending := s.evtPending &&& ~~~(BitVec.ofNat 64 (if hi then m * 2 ^ 32 else m)) }

/-- A clear of SAT_SEEN (R165). -/
def State.clearSat (s : State) (d : PdId) (n : SlotId) (v : Nat) : State :=
  if (s.w1cMask (0x3000 + n.val) (uEngine d) 16 v).testBit 9 then s.modSlot d n fun x => { x with satSeen := false } else s

/-- A clear of the W1C bits 8 and 9 of OBST_STATUS (R193). -/
def State.clearObst (s : State) (p : PortalId) (l : LeafId) (v : Nat) : State :=
  let m := s.w1cMask 0x4080 (uLeaf p l) 16 v
  s.modDet p l fun d =>
    let d := if m.testBit 8 then d.setStat 8 false else d
    if m.testBit 9 then d.setStat 9 false else d

/-- A clear of SHUTDOWN_SEEN (R287). -/
def State.clearShutdown (s : State) (p : PortalId) (c : ChanId) (v : Nat) : State :=
  if (s.w1cMask 0x7080 (uChan p c) 16 v).testBit 9 then s.modChan p c fun x => { x with shutdownSeen := false } else s

/-- A clear of CAN_FLAGS (R402). -/
def State.clearCanFlags (s : State) (n : CanId) (v : Nat) : State :=
  let m := s.w1cMask (canPid n 0x8B) 0 8 v
  s.modCan n fun x => { x with overflow := x.overflow && !m.testBit 0, warningSeen := x.warningSeen && !m.testBit 1 }

/-- FB_ARM written with 1 (R235). -/
def State.fbArmed (s : State) (p : PortalId) (f : FbId) : State := s.modFb p f fun x => { x with armed := true, armedAt := s.ts }

/-- FB_COUNT_CLEAR written with 1: a count of this instant stays (R251, R57). -/
def State.fbCleared (s : State) (p : PortalId) (f : FbId) : State :=
  s.modFb p f fun x => { x with illegal := bit (s.isSetNow 0x6086 (uFb p f) 0), lcMismatch := bit (s.isSetNow 0x6087 (uFb p f) 0) }

/-- What a stored or acting value does at once. -/
def State.acted (s : State) (q : ParamPut) : State :=
  let p : PortalId := ⟨q.unit / 256 % 8, by omega⟩
  let v := q.v.toNat
  match q.pid with
  | 0xE012 => s.clearPending false v
  | 0xE013 => s.clearPending true v
  | 0x4080 => s.clearObst p ⟨q.unit % 2, by omega⟩ v
  | 0x7080 => s.clearShutdown p ⟨q.unit % 8, by omega⟩ v
  | 0x1002 => s.setWarn p (s.portal p).warnOn
  | 0x4020 => if v = 1 then s.fricReset p ⟨q.unit % 2, by omega⟩ else s
  | 0x6015 => if v = 1 then s.fbArmed p ⟨q.unit % 16 % 3, by omega⟩ else s
  | 0x6016 => if v = 1 then s.fbCleared p ⟨q.unit % 16 % 3, by omega⟩ else s
  | 0x6000 => s.fbRetype p ⟨q.unit % 16 % 3, by omega⟩
  | 0xD001 | 0xD002 => (s.modPort 1 fun x => { x with seg := none }).segLoad
  | _ =>
    if q.pid / 0x40 = 0xC0 then s.clearSat (engineOf q.unit) ⟨q.pid % 0x40, by omega⟩ v
    else if q.pid / 0x400 = 0x28 ∧ q.pid % 0x100 = 0x8B then s.clearCanFlags ⟨q.pid / 0x100 % 4, by omega⟩ v
    else if q.desc.access = .rwCoef then s.modSlot (engineOf q.unit) ⟨q.pid % 0x40, by omega⟩ fun x => { x with wHist := [0, 0, 0] }
    else s

/-- All values of a write take effect at one instant (R450); a write in MAINTAIN runs the check again (R62). -/
def State.writeAll (s : State) (l : List ParamPut) : State :=
  let s := foldState l (fun q t => t.letGo q) s
  let s := foldState l (fun q t => t.put q) s
  let s := foldState l (fun q t => t.acted q) s
  if s.mode = .maintain then s.runChecks else s

/-! ## The opcodes (R449, R450) -/

/-- The writes of records to a unit, or the first record whose PID or address is refused (R30). -/
def putsOf (unit about : Nat) : List ParamRec → Except (Nat × List Byte) (List ParamPut)
  | [] => .ok []
  | r :: l =>
    match ParamTable.find r.pid with
    | none => .error (stBadParam, detail r.pid about)
    | some d =>
      if !d.atUnit r.pid unit then .error (stBadUnit, detail r.pid about)
      else match putsOf unit about l with
        | .error e => .error e
        | .ok qs => .ok (⟨d, r.pid, unit, r.size, r.num d⟩ :: qs)

/-- The records up to the first one whose PID or address is refused, and its refusal: records are checked one at a time (R450). -/
def putsUpTo (unit about : Nat) : List ParamRec → List ParamPut × Option (Nat × List Byte)
  | [] => ([], none)
  | r :: l =>
    match putsOf unit about [r] with
    | .error e => ([], some e)
    | .ok qs =>
      let rest := putsUpTo unit about l
      (qs ++ rest.1, rest.2)

/-- What refuses records at one unit, `t` being the state after the whole write. -/
def State.recsRefused (s t : State) (unit about : Nat) (rs : List ParamRec) : Option (Nat × List Byte) :=
  let (qs, bad) := putsUpTo unit about rs
  (qs.findSome? fun q => s.putRefused t about q) <|> bad

/-- A PID stands twice among the records. -/
def twice : List ParamRec → Option ParamRec
  | [] => none
  | r :: l => if l.any (fun x => x.pid = r.pid) then some r else twice l

/-- Records written to the header's unit, or to every member of a group, if it is one, as one operation (R27); `done` follows DONE. -/
def State.writeRecs (s : State) (members : Option (List PortalId)) (h : Handle) (rs : List ParamRec) (done : List Byte) : State :=
  let u := h.unit.toNat
  match members with
  | none =>
    let qs := (putsUpTo u u rs).1
    let t := foldState qs (fun q t => t.put q) s
    (match s.recsRefused t u u rs with
      | some why => s.reply h why.1 why.2
      | none => (s.writeAll qs).reply h stDone done)
  | some ms =>
    let inc := maskOf ms
    if ms = [] then s.reply h stBadUnit (groupBlock 0 0 0 ++ detail 0xFFFF u) else
    let stray := rs.find? fun r => match ParamTable.find r.pid with
      | some d => d.scope ≠ .portal
      | none => true
    match stray with
    | some r =>
      let st := if (ParamTable.find r.pid).isSome then stBadUnit else stBadParam
      s.reply h st (groupBlock inc 0 0 ++ detail r.pid u)
    | none =>
      let qs := ms.flatMap fun p => (putsUpTo (uPortal p) u rs).1
      let t := foldState qs (fun q t => t.put q) s
      let no := ms.filterMap fun p => (s.recsRefused t (uPortal p) u rs).map fun why => (p, why)
      match no with
      | [] => (s.writeAll qs).reply h stDone (groupBlock inc 0 0 ++ done)
      | (_, why) :: _ => s.reply h why.1 (groupBlock inc 0 (maskOf (no.map (·.1))) ++ why.2)

/-- The value of a parameter in its width, after SIZE (R449). -/
def State.readBytes (s : State) (d : PDesc) (pid unit : Nat) : List Byte := le 1 d.width ++ leI d.width (s.readValue d pid unit)

/-- PARAM_READ (0x10). -/
def State.paramRead (s : State) (h : Handle) (ps : List Byte) : State :=
  let u := h.unit.toNat
  let pid := unLe (ps.take 2)
  if isGroup u then s.reply h stBadUnit (failParams u pid u)
  else match ParamTable.find pid with
    | none => s.reply h stBadParam (detail pid u)
    | some d => if d.atUnit pid u then s.reply h stDone (s.readBytes d pid u) else s.reply h stBadUnit (detail pid u)

/-- PARAM_WRITE to a unit, or to the members of a group as they stood at its acceptance (R23). -/
def State.paramWriteTo (s : State) (members : Option (List PortalId)) (h : Handle) (ps : List Byte) : State :=
  match takeRec ps with
  | some (r, _) => s.writeRecs members h [r] []
  | none => s.refuse h stBadLength

/-- PARAM_WRITE (0x11). -/
def State.paramWrite (s : State) (h : Handle) (ps : List Byte) : State := s.paramWriteTo (s.groupOf h.unit.toNat) h ps

/-- PARAM_READ_RANGE (0x12). -/
def State.paramReadRange (s : State) (h : Handle) (ps : List Byte) : State :=
  let u := h.unit.toNat
  let first := unLe (ps.take 2)
  let n := (ps.getD 2 0).toNat
  if isGroup u then s.refuse h stBadUnit
  else if n < 1 ∨ 64 < n then s.reply h stOutOfRange (detail first u)
  else
    let got := ((List.range n).map (first + ·)).filterMap fun pid =>
      match ParamTable.find pid with
      | some d => if d.atUnit pid u then some (pid, d) else none
      | none => none
    if got = [] then s.reply h stBadParam (detail first u)
    else s.reply h stDone (le 1 got.length ++ got.flatMap fun x => le 2 x.1 ++ s.readBytes x.2 x.1 u)

/-- PARAM_WRITE_SET to a unit, or to the members of a group as they stood at its acceptance (R20, R23). -/
def State.paramWriteSetTo (s : State) (members : Option (List PortalId)) (h : Handle) (ps : List Byte) : State :=
  let n := (ps.getD 0 0).toNat
  if members = some [] then s.refuse h stBadUnit
  else if n < 1 ∨ 16 < n then s.refuse h stOutOfRange
  else match takeRecs n (ps.drop 1) with
    | none => s.refuse h stBadLength
    | some rs => match twice rs with
      | some r => s.reply h stBadParam (failParams h.unit.toNat r.pid h.unit.toNat)
      | none => s.writeRecs members h rs (le 1 n)

/-- PARAM_WRITE_SET (0x13). -/
def State.paramWriteSet (s : State) (h : Handle) (ps : List Byte) : State := s.paramWriteSetTo (s.groupOf h.unit.toNat) h ps

end Sys2Proof.Machine
end

