-- ==== Sys2Proof/Machine/Session.lean ====
section
/-! DEFINITION. The session opcodes 0x00–0x07 (R446–R448), the host watchdog (R452–R457), and the checks that every command passes (R443). -/

namespace Sys2Proof.Machine

/-! ## HELLO, DEVICE_INFO, EVENT_READ, QUEUE_STATUS, ECHO (R446–R448) -/

/-- RESET in a HELLO (R448): replies and tags go; what earlier commands still reply is discarded with their session. A segment of a dropped
reply that is on the bus ends its attempt, another one leaves its mailbox. -/
def State.resetPort (s : State) (n : PortId) : State :=
  let s := s.modPort n fun x => { x with session := x.session + 1, replies := [], tags := 0, owing := 0, txSeg := none }
  if n = 1 then
    match s.box 3 12 with
    | some b => if b.inFlight then s.setBox 3 12 (some { b with noRetry := true }) else s.txFinal 3 12 1
    | none => s
  else s

/-- A tag comes into use (R437). -/
def State.takeTag (s : State) (n : PortId) (tag : BitVec 7) : State :=
  s.modPort n fun x => { x with tags := x.tags ||| (1#128 <<< tag.toNat) }

/-- A tag is freed (R437). -/
def State.freeTag (s : State) (n : PortId) (tag : BitVec 7) : State :=
  s.modPort n fun x => { x with tags := x.tags &&& ~~~(1#128 <<< tag.toNat) }

/-- HELLO (0x00). This device speaks version 1 only. -/
def State.hello (s : State) (h : Handle) (ps : List Byte) : State :=
  let lo := (ps.getD 0 0).toNat
  let hi := (ps.getD 1 0).toNat
  if h.unit ≠ 0 then s.refuse h stBadUnit
  else if hi < lo then s.refuse h stBadParam
  else
    let agreed := if lo ≤ 1 ∧ 1 ≤ hi then 1 else 0
    let s := if (ps.getD 2 0).getLsbD 0 then (s.resetPort h.port).takeTag h.port h.tag else s
    let s := s.modPort h.port fun x => { x with version := agreed }
    s.reply { h with session := (s.port h.port).session } (if agreed = 1 then stDone else stVersion)
      (le 1 1 ++ le 1 1 ++ le 1 agreed ++ le 1 h.port.val ++ le 2 1024 ++ le 1 128)

/-- DEVICE_INFO (0x01): the active bank of the boot record, and the version that runs. -/
def State.deviceInfo (s : State) (h : Handle) (_ps : List Byte) : State :=
  let x := s.power
  if h.unit ≠ 0 then s.refuse h stBadUnit
  else s.reply h stDone (le 4 Config.unitSerial.toNat ++ le 1 s.mode.code ++ le 4 s.epoch.toNat
    ++ le 1 ((x.record.map (·.active)).getD x.running).val ++ le 4 (x.version x.running) ++ leI 1 (s.view.raw 0x9000 0) ++ le 1 h.port.val)

/-- The 16 bytes of an event entry (R53). -/
def Event.bytes (e : Event) : List Byte :=
  le 7 e.ts.toNat ++ le 1 (e.src % 64 + 64 * bit e.late) ++ le 2 e.code ++ le 2 e.unit ++ le 4 e.param

/-- EVENT_READ (0x05): the entries that it returns leave the buffer (R54). -/
def State.eventRead (s : State) (h : Handle) (ps : List Byte) : State :=
  let n := (ps.getD 0 0).toNat
  if h.unit ≠ 0 then s.refuse h stBadUnit
  else if n < 1 ∨ 32 < n then s.refuse h stOutOfRange
  else
    let got := s.buffer.take n
    { s with buffer := s.buffer.drop n, lostEvents := 0 }.reply h stDone (le 2 s.lostEvents ++ le 1 got.length ++ got.flatMap Event.bytes)

/-- QUEUE_FULL replies that wait on a port (R439). -/
def Port.fullCount (x : Port) : Nat := (x.replies.filter (·.full)).length

/-- Bytes of the reply buffer in use; QUEUE_FULL replies wait in their own list (R439, R440). -/
def Port.used (x : Port) : Nat := ((x.replies.filter fun r => !r.full).map Reply.size).sum

/-- Bytes in use of the unreserved part (R440). -/
def Port.usedOpen (x : Port) : Nat := ((x.replies.filter fun r => !r.full && !r.owed).map Reply.size).sum

/-- QUEUE_STATUS (0x06), of the port on which it arrives. -/
def State.queueStatus (s : State) (h : Handle) (_ps : List Byte) : State :=
  let x := s.port h.port
  if h.unit ≠ 0 then s.refuse h stBadUnit
  else s.reply h stDone (le 1 x.rxq.length ++ le 1 16 ++ le 1 x.tagCount ++ le 16 x.tags.toNat ++ le 2 (min 65535 x.used) ++ le 1 x.fullCount)

/-- ECHO (0x07). -/
def State.echo (s : State) (h : Handle) (ps : List Byte) : State :=
  if h.unit ≠ 0 then s.refuse h stBadUnit else s.reply h stDone ps

/-! ## Host watchdog (R452–R457) -/

/-- Event 40 (R461). -/
def State.wdgEvent (s : State) (reason : Nat) : State :=
  s.raise 40 0x0028 0 (reason + 256 * s.wdg.owner.val + 65536 * s.wdg.window)

/-- The watchdog expires (R456). -/
def State.wdgExpire (s : State) (reason : Nat) : State :=
  ({ s with wdg := { s.wdg with state := 2 } }.wdgEvent reason).wdgSync

/-- The time since the last valid kick or the start. -/
def State.wdgAge (s : State) : Nat := s.ts.since s.wdg.last

/-- WDG_START (0x02), checked in the order of R452; an expiry of the same instant comes first (R458). -/
def State.wdgStart (s : State) (h : Handle) (ps : List Byte) : State :=
  let w := unLe (ps.take 2)
  let k := BitVec.ofNat 16 (unLe (ps.drop 2))
  if h.unit ≠ 0 then s.refuse h stBadUnit
  else if k = 0 ∨ k = 0xFFFF then s.refuse h stBadParam
  else if w < 10 ∨ 1000 < w then s.refuse h stOutOfRange
  else if s.wdg.state ≠ 0 ∧ s.wdg.owner ≠ h.port then s.refuse h stModeForbids
  else
    let s := if s.wdg.state = 1 ∧ ms s.wdg.window ≤ s.wdgAge then s.wdgExpire 0 else s
    let was := s.wdgExpired
    let s := { s with wdg := { s.wdg with state := 1, window := w, key := k, owner := h.port, kicks := 0, last := s.ts } }
    let s := if was then s.wdgEvent 3 else s
    s.wdgSync.reply h stDone []

/-- The key that the next kick must carry (R453). -/
def Watchdog.nextKey (w : Watchdog) : BitVec 16 := if w.kicks % 2 = 0 then w.key ^^^ 0xFFFF else w.key

/-- WDG_KICK (0x03), judged at this instant (R453). -/
def State.wdgKick (s : State) (h : Handle) (ps : List Byte) : State :=
  let w := s.wdg
  let age := s.wdgAge
  let bad := fun (t : State) => t.reply h stModeForbids (detail 0xD080 h.unit.toNat)
  if h.unit ≠ 0 then s.refuse h stBadUnit
  else if w.state ≠ 1 ∨ w.owner ≠ h.port then s.refuse h stModeForbids
  else if ms w.window < age then (s.wdgExpire 0).refuse h stModeForbids
  else if BitVec.ofNat 16 (unLe ps) ≠ w.nextKey then bad (s.wdgExpire 1)
  else if 4 * age < ms w.window then bad (s.wdgExpire 2)
  else { s with wdg := { w with kicks := w.kicks + 1, last := s.ts } }.reply h stDone (le 2 (age / 100000))

/-- WDG_STOP (0x04), checked in the order of R455. -/
def State.wdgStop (s : State) (h : Handle) (ps : List Byte) : State :=
  if h.unit ≠ 0 then s.refuse h stBadUnit
  else if s.wdg.state = 0 then s.reply h stDone []
  else if s.wdg.owner ≠ h.port then s.refuse h stModeForbids
  else if s.par 0xD000 0 = 1 ∧ s.mode ≠ .configure ∧ s.mode ≠ .maintain then s.refuse h stModeForbids
  else if BitVec.ofNat 16 (unLe ps) ≠ s.wdg.nextKey then s.refuse h stBadParam
  else
    let s := if s.wdg.state = 2 then s.wdgEvent 4 else s
    { s with wdg := { s.wdg with state := 0 } }.wdgSync.reply h stDone []

/-- WATCHDOG_EXPIRY: W has passed without a valid kick (R453, R456). -/
def execWatchdogExpiry (dt : Nat) (s : State) : Host.Outcome State Fault Refusal :=
  let s := s.advance dt
  .next (if s.wdg.state = 1 ∧ ms s.wdg.window ≤ s.wdgAge then s.wdgExpire 0 else s)

/-! ## The checks of a command (R426, R443) -/

/-- The opcodes of R445 with the lengths of their parameters: from, to. PARAM_WRITE, PARAM_WRITE_SET and CAN_TX are checked against their
content as well. -/
def opLengths : List (Nat × Nat × Nat) :=
  [(0x00, 3, 3), (0x01, 0, 0), (0x02, 4, 4), (0x03, 2, 2), (0x04, 2, 2), (0x05, 1, 1), (0x06, 0, 0), (0x07, 0, 1024),
   (0x10, 2, 2), (0x11, 3, 1024), (0x12, 3, 3), (0x13, 1, 1024), (0x20, 1, 1), (0x28, 0, 0), (0x29, 0, 0), (0x2A, 0, 0), (0x2B, 0, 0),
   (0x2C, 2, 2), (0x2D, 10, 1024), (0x2E, 2, 2), (0x2F, 3, 3)]
  ++ [(0x30, 0, 0), (0x31, 0, 0), (0x32, 0, 0), (0x33, 0, 0), (0x34, 0, 0), (0x35, 2, 2), (0x36, 0, 0), (0x37, 1, 1),
   (0x40, 0, 0), (0x41, 0, 0), (0x42, 2, 2), (0x43, 2, 2), (0x44, 0, 0), (0x50, 0, 0), (0x51, 11, 11), (0x52, 1, 1)]
  ++ [(0x60, 1, 1), (0x61, 1, 1), (0x62, 3, 3), (0x63, 21, 21), (0x64, 1, 1), (0x65, 11, 11), (0x66, 1, 1), (0x67, 1, 1), (0x68, 1, 1),
   (0x70, 0, 0), (0x71, 0, 0), (0x72, 8, 1020), (0x73, 0, 0), (0x74, 0, 0), (0x75, 0, 0), (0x76, 0, 0),
   (0x78, 0, 0), (0x79, 8, 8), (0x7A, 0, 0), (0x7B, 3, 3)]

/-- LENGTH suits the opcode's parameters (step 5 of R443). A set whose COUNT lies outside 1–16 is left to that check. -/
def lengthOk (op : Nat) (ps : List Byte) : Bool :=
  let n := (ps.getD 0 0).toNat
  (match opLengths.find? fun x => x.1 = op with
    | some (_, a, b) => decide (a ≤ ps.length ∧ ps.length ≤ b)
    | none => false)
  && (op ≠ 0x11 || ps.length = 3 + (ps.getD 2 0).toNat)
  && (op ≠ 0x13 || n < 1 || 16 < n || (takeRecs n (ps.drop 1)).isSome)

/-- A reserved bit or byte of the parameters is not 0 (step 6 of R443): the PID concerned. -/
def reservedIn (op : Nat) (ps : List Byte) : Option Nat :=
  let set := fun (b : Bool) => if b then some 0xFFFF else none
  match op with
  | 0x00 => set (decide (2 ≤ (ps.getD 2 0).toNat))
  | 0x37 => set (decide (ps.getD 0 0 ≠ 0))
  | 0x52 => set (decide (4 ≤ (ps.getD 0 0).toNat))
  | 0x2D => set (decide (16 ≤ (ps.getD 6 0).toNat ∨ 2 ^ 29 ≤ unLe ((ps.drop 2).take 4)))
  | 0x11 => match takeRec ps with
    | some (r, _) => if reservedBits r then some r.pid else none
    | none => none
  | 0x13 => match takeRecs (ps.getD 0 0).toNat (ps.drop 1) with
    | some rs => (rs.find? reservedBits).map (·.pid)
    | none => none
  | _ => none

/-- Opcodes that only read (R497). -/
def isRead (op : Nat) : Bool := [0x01, 0x05, 0x06, 0x07, 0x10, 0x12, 0x2A, 0x2F, 0x32, 0x50, 0x51, 0x64, 0x67, 0x70, 0x78, 0x7B].contains op

/-- The interpreter takes commands: from TEST onwards, on a Hub pair that runs (R327, R426). -/
def State.interprets (s : State) : Bool :=
  let r := s.pair 0
  s.mode ≠ .init && !s.power.off && !(r.scope = .restarting || r.halted)

/-- The Eclairs that an address concerns: the die of a portal's units or of a slot's address; of a group's members. -/
def State.eclairsOf (s : State) (unit : Nat) : List (Fin 3) :=
  let one := fun (p : PortalId) => (if p.val < 4 then 1 else 2 : Fin 3)
  if unit = 0x4100 then [1] else if unit = 0x4200 then [2]
  else if unit / 4096 = 1 ∧ unit / 16 % 16 ≠ 3 then [one ⟨unit / 256 % 8, by omega⟩]
  else match s.groupOf unit with
    | some ms => ms.map one
    | none => []

/-- The portals that an address concerns: a portal with its units, the members of a group, those of the die of a slot (R28). -/
def State.portalsOf (s : State) (unit : Nat) : List PortalId :=
  if unit = 0x4100 ∨ unit = 0x4200 then allPortals.filter fun p => decide (uDie (pdDie p).val = unit)
  else if unit / 2048 = 2 then [⟨unit / 256 % 8, by omega⟩]
  else (s.groupOf unit).getD []

/-- The Eclair whose restart holds a command: loop commands and writes of parameters go to the die (R331); and one that follows a command held for a
portal that it concerns waits behind it (R28). Portal commands wait at their portal. -/
def State.holdsBack (s : State) (op unit : Nat) : Option (Fin 3) :=
  let toDie := decide (0x60 ≤ op ∧ op ≤ 0x68 ∨ op = 0x11 ∨ op = 0x13)
  match (if toDie then (s.eclairsOf unit).find? fun d => (s.pair d).scope = .restarting else none) with
  | some d => some d
  | none =>
    if toDie || decide (0x40 ≤ op ∧ op ≤ 0x44) then
      ([1, 2] : List (Fin 3)).find? fun d => (s.pair d).held.any fun c => c.portals.any (s.portalsOf unit).contains
    else none

/-- A command is accepted: steps 1–6 of R443, and then what its opcode does. -/
def State.command (s : State) (op : Nat) (c : CmdHeader) (ps : List Byte) (f : State → Handle → List Byte → State) : State :=
  let x := s.port c.port
  let u := c.unit.toNat
  let h : Handle := ⟨c.port, x.session, c.tag, op, c.unit⟩
  let busy := x.tags.getLsbD c.tag.toNat
  let late := decide (op ≠ 0) && (decide (x.version = 0) || decide (c.version.toNat ≠ x.version))
  if busy then s.replyApart h (if late then stVersion else stTagInUse) false (failParams u 0xFFFF u)
  else
    let s := s.takeTag c.port c.tag
    if late then s.refuse h stVersion
    else if !opLengths.any (fun y => y.1 = op) then s.refuse h stBadOpcode
    else if !unitValid u then s.refuse h stBadUnit
    else if !lengthOk op ps then s.refuse h stBadLength
    else if c.flags ≠ 0 then s.refuse h stBadParam
    else match reservedIn op ps with
      | some pid => s.reply h stBadParam (failParams u pid u)
      | none =>
        if s.power.pfail && !isRead op then s.refuse h stModeForbids
        else match s.holdsBack op u with
          | some d => s.modPair d fun y => { y with held := y.held ++ [⟨h, ps, s.portalsOf u⟩] }
          | none => f s h ps

end Sys2Proof.Machine
end

