-- ==== Sys2Proof/Machine/Interp.lean ====
section
/-! DEFINITION. The opcode table (R445), the interpreter (R426, R440), and the commands of the table that are Mirqua packets. A command's row is its
acceptance (R426): the packet is interpreted at that instant (log 3). -/

namespace Sys2Proof.Machine

/-- What the opcodes do (R445). -/
def opcodes : List (Nat × (State → Handle → List Byte → State)) :=
  [(0x00, State.hello), (0x01, State.deviceInfo), (0x02, State.wdgStart), (0x03, State.wdgKick), (0x04, State.wdgStop),
   (0x05, State.eventRead), (0x06, State.queueStatus), (0x07, State.echo),
   (0x10, State.paramRead), (0x11, State.paramWrite), (0x12, State.paramReadRange), (0x13, State.paramWriteSet),
   (0x20, State.modeRequest), (0x28, State.lockstepSplit), (0x29, State.lockstepRejoin), (0x2A, State.lockstepStatus),
   (0x2B, State.claimYield), (0x2C, State.canCtrl), (0x2D, State.canTx), (0x2E, State.canCancel), (0x2F, State.canRx)]
  ++ [(0x30, State.portalOpen), (0x31, State.portalClose), (0x32, State.portalStatus), (0x33, State.fenceClear),
   (0x34, State.emergencyReset), (0x35, State.jogCmd), (0x36, State.jogStop), (0x37, State.portalFence),
   (0x40, State.chOn), (0x41, State.chOff), (0x42, State.chPulse), (0x43, State.chMulti), (0x44, State.chClear),
   (0x50, State.recInfo), (0x51, State.recRead), (0x52, State.recClear)]
  ++ [(0x60, State.loopOpen), (0x61, State.loopClose), (0x62, State.loopManual), (0x63, State.coefWrite), (0x64, State.slotRead),
   (0x65, State.tuneStart), (0x66, State.tuneStop), (0x67, State.tuneResult), (0x68, State.slotDisable),
   (0x70, State.fwStatus), (0x71, State.fwBegin), (0x72, State.fwWrite), (0x73, State.fwVerify), (0x74, State.fwActivate),
   (0x75, State.fwConfirm), (0x76, State.fwRevert),
   (0x78, State.sealStatus), (0x79, State.sealCommit), (0x7A, State.sealDiscard), (0x7B, State.sealImageRead)]

/-- What an opcode does; a reserved one never reaches this (R443). -/
def opFun (op : Nat) : State → Handle → List Byte → State :=
  ((opcodes.find? fun x => x.1 = op).map (·.2)).getD fun s h _ => s.refuse h stBadOpcode

/-- The interpreter takes a packet. -/
def State.interpret (s : State) (n : PortId) (k : Packet) : State :=
  s.command k.op.toNat ⟨n, k.version, k.tag, k.unit, k.flags⟩ k.params (opFun k.op.toNat)

/-- Room for a port's next command: 2,048 free bytes in the unreserved part of its reply buffer (R440). -/
def Port.room (x : Port) : Bool := decide (x.usedOpen + 2048 ≤ 65536 - 9216)

/-- One packet of a port (R426, R440). -/
def State.turn (s : State) (n : PortId) : State :=
  match (s.port n).rxq with
  | [] => s
  | k :: l => if (s.port n).room then (s.modPort n fun x => { x with rxq := l }).interpret n k else s

/-- INTERPRETER_TURN: the oldest packet of the SPI port, then that of CAN3 (R426, R458). -/
def execInterpreterTurn (dt : Nat) (s : State) : Host.Outcome State Fault Refusal :=
  let s := s.advance dt
  .next (if s.interprets then (s.turn 0).turn 1 else s)

/-- A packet has been received whole: a kick goes to the watchdog logic, another packet into the queue, and a full queue answers QUEUE_FULL while
its list has room (R439, R454). In INIT the port takes nothing (R426). -/
def State.receive (s : State) (n : PortId) (k : Packet) : State :=
  let x := s.port n
  if s.mode = .init ∨ s.power.off then s
  else if k.op = 0x03 then s.interpret n k
  else if x.rxq.length < 16 then
    let s := s.modPort n fun y => { y with rxq := y.rxq ++ [k] }
    if x.rxq.length = 15 then s.raise 42 0x002A 0 (n.val + 256 * x.fullCount) else s
  else if x.fullCount < 16 then
    s.replyApart ⟨n, x.session, k.tag, k.op.toNat, k.unit⟩ stQueueFull true (failParams k.unit.toNat 0xFFFF k.unit.toNat)
  else s

/-- A command packet at its acceptance; while the interpreter takes none, the packet waits as any other. -/
def State.packet (s : State) (op : Nat) (h : CmdHeader) (ps : List Byte) (f : State → Handle → List Byte → State) : State :=
  if s.interprets then s.command op h ps f else s.receive h.port ⟨h.version, h.tag, BitVec.ofNat 8 op, h.unit, h.flags, ps⟩

/-! ## The session opcodes (R446) -/

/-- HELLO (0x00). -/
def execHello (dt : Nat) (h : CmdHeader) (ps : List Byte) (s : State) : Host.Outcome State Fault Refusal :=
  .next ((s.advance dt).packet 0x00 h ps State.hello)

/-- DEVICE_INFO (0x01). -/
def execDeviceInfo (dt : Nat) (h : CmdHeader) (ps : List Byte) (s : State) : Host.Outcome State Fault Refusal :=
  .next ((s.advance dt).packet 0x01 h ps State.deviceInfo)

/-- WDG_START (0x02). -/
def execWdgStart (dt : Nat) (h : CmdHeader) (ps : List Byte) (s : State) : Host.Outcome State Fault Refusal :=
  .next ((s.advance dt).packet 0x02 h ps State.wdgStart)

/-- WDG_KICK (0x03). -/
def execWdgKick (dt : Nat) (h : CmdHeader) (ps : List Byte) (s : State) : Host.Outcome State Fault Refusal :=
  .next ((s.advance dt).packet 0x03 h ps State.wdgKick)

/-- WDG_STOP (0x04). -/
def execWdgStop (dt : Nat) (h : CmdHeader) (ps : List Byte) (s : State) : Host.Outcome State Fault Refusal :=
  .next ((s.advance dt).packet 0x04 h ps State.wdgStop)

/-- EVENT_READ (0x05). -/
def execEventRead (dt : Nat) (h : CmdHeader) (ps : List Byte) (s : State) : Host.Outcome State Fault Refusal :=
  .next ((s.advance dt).packet 0x05 h ps State.eventRead)

/-- QUEUE_STATUS (0x06). -/
def execQueueStatus (dt : Nat) (h : CmdHeader) (ps : List Byte) (s : State) : Host.Outcome State Fault Refusal :=
  .next ((s.advance dt).packet 0x06 h ps State.queueStatus)

/-- ECHO (0x07). -/
def execEcho (dt : Nat) (h : CmdHeader) (ps : List Byte) (s : State) : Host.Outcome State Fault Refusal :=
  .next ((s.advance dt).packet 0x07 h ps State.echo)

/-! ## The parameter opcodes (R449, R450) -/

/-- PARAM_READ (0x10). -/
def execParamRead (dt : Nat) (h : CmdHeader) (ps : List Byte) (s : State) : Host.Outcome State Fault Refusal :=
  .next ((s.advance dt).packet 0x10 h ps State.paramRead)

/-- PARAM_WRITE (0x11). -/
def execParamWrite (dt : Nat) (h : CmdHeader) (ps : List Byte) (s : State) : Host.Outcome State Fault Refusal :=
  .next ((s.advance dt).packet 0x11 h ps State.paramWrite)

/-- PARAM_READ_RANGE (0x12). -/
def execParamReadRange (dt : Nat) (h : CmdHeader) (ps : List Byte) (s : State) : Host.Outcome State Fault Refusal :=
  .next ((s.advance dt).packet 0x12 h ps State.paramReadRange)

/-- PARAM_WRITE_SET (0x13). -/
def execParamWriteSet (dt : Nat) (h : CmdHeader) (ps : List Byte) (s : State) : Host.Outcome State Fault Refusal :=
  .next ((s.advance dt).packet 0x13 h ps State.paramWriteSet)

/-! ## The modes, lockstep, claim (R340, R371, R451) -/

/-- MODE_REQUEST (0x20). -/
def execModeRequest (dt : Nat) (h : CmdHeader) (ps : List Byte) (s : State) : Host.Outcome State Fault Refusal :=
  .next ((s.advance dt).packet 0x20 h ps State.modeRequest)

/-- LOCKSTEP_SPLIT (0x28). -/
def execLockstepSplit (dt : Nat) (h : CmdHeader) (ps : List Byte) (s : State) : Host.Outcome State Fault Refusal :=
  .next ((s.advance dt).packet 0x28 h ps State.lockstepSplit)

/-- LOCKSTEP_REJOIN (0x29). -/
def execLockstepRejoin (dt : Nat) (h : CmdHeader) (ps : List Byte) (s : State) : Host.Outcome State Fault Refusal :=
  .next ((s.advance dt).packet 0x29 h ps State.lockstepRejoin)

/-- LOCKSTEP_STATUS (0x2A). -/
def execLockstepStatus (dt : Nat) (h : CmdHeader) (ps : List Byte) (s : State) : Host.Outcome State Fault Refusal :=
  .next ((s.advance dt).packet 0x2A h ps State.lockstepStatus)

/-- CLAIM_YIELD (0x2B). -/
def execClaimYield (dt : Nat) (h : CmdHeader) (ps : List Byte) (s : State) : Host.Outcome State Fault Refusal :=
  .next ((s.advance dt).packet 0x2B h ps State.claimYield)

/-! ## The CAN (R398) -/

/-- CAN_TX (0x2D). -/
def execCanTx (dt : Nat) (h : CmdHeader) (ps : List Byte) (s : State) : Host.Outcome State Fault Refusal :=
  .next ((s.advance dt).packet 0x2D h ps State.canTx)

/-- CAN_CANCEL (0x2E). -/
def execCanCancel (dt : Nat) (h : CmdHeader) (ps : List Byte) (s : State) : Host.Outcome State Fault Refusal :=
  .next ((s.advance dt).packet 0x2E h ps State.canCancel)

/-- CAN_RX (0x2F). -/
def execCanRx (dt : Nat) (h : CmdHeader) (ps : List Byte) (s : State) : Host.Outcome State Fault Refusal :=
  .next ((s.advance dt).packet 0x2F h ps State.canRx)

/-! ## The portal commands (R83) -/

/-- PORTAL_OPEN (0x30). -/
def execPortalOpen (dt : Nat) (h : CmdHeader) (ps : List Byte) (s : State) : Host.Outcome State Fault Refusal :=
  .next ((s.advance dt).packet 0x30 h ps State.portalOpen)

/-- PORTAL_CLOSE (0x31). -/
def execPortalClose (dt : Nat) (h : CmdHeader) (ps : List Byte) (s : State) : Host.Outcome State Fault Refusal :=
  .next ((s.advance dt).packet 0x31 h ps State.portalClose)

/-- PORTAL_STATUS (0x32). -/
def execPortalStatus (dt : Nat) (h : CmdHeader) (ps : List Byte) (s : State) : Host.Outcome State Fault Refusal :=
  .next ((s.advance dt).packet 0x32 h ps State.portalStatus)

/-- FENCE_CLEAR (0x33). -/
def execFenceClear (dt : Nat) (h : CmdHeader) (ps : List Byte) (s : State) : Host.Outcome State Fault Refusal :=
  .next ((s.advance dt).packet 0x33 h ps State.fenceClear)

/-- EMERGENCY_RESET (0x34). -/
def execEmergencyReset (dt : Nat) (h : CmdHeader) (ps : List Byte) (s : State) : Host.Outcome State Fault Refusal :=
  .next ((s.advance dt).packet 0x34 h ps State.emergencyReset)

/-- JOG (0x35). -/
def execJog (dt : Nat) (h : CmdHeader) (ps : List Byte) (s : State) : Host.Outcome State Fault Refusal :=
  .next ((s.advance dt).packet 0x35 h ps State.jogCmd)

/-- JOG_STOP (0x36). -/
def execJogStop (dt : Nat) (h : CmdHeader) (ps : List Byte) (s : State) : Host.Outcome State Fault Refusal :=
  .next ((s.advance dt).packet 0x36 h ps State.jogStop)

/-- PORTAL_FENCE (0x37). -/
def execPortalFence (dt : Nat) (h : CmdHeader) (ps : List Byte) (s : State) : Host.Outcome State Fault Refusal :=
  .next ((s.advance dt).packet 0x37 h ps State.portalFence)

/-! ## The channel commands (R262) -/

/-- CH_ON (0x40). -/
def execChOn (dt : Nat) (h : CmdHeader) (ps : List Byte) (s : State) : Host.Outcome State Fault Refusal :=
  .next ((s.advance dt).packet 0x40 h ps State.chOn)

/-- CH_OFF (0x41). -/
def execChOff (dt : Nat) (h : CmdHeader) (ps : List Byte) (s : State) : Host.Outcome State Fault Refusal :=
  .next ((s.advance dt).packet 0x41 h ps State.chOff)

/-- CH_PULSE (0x42). -/
def execChPulse (dt : Nat) (h : CmdHeader) (ps : List Byte) (s : State) : Host.Outcome State Fault Refusal :=
  .next ((s.advance dt).packet 0x42 h ps State.chPulse)

/-- CH_MULTI (0x43). -/
def execChMulti (dt : Nat) (h : CmdHeader) (ps : List Byte) (s : State) : Host.Outcome State Fault Refusal :=
  .next ((s.advance dt).packet 0x43 h ps State.chMulti)

/-- CH_CLEAR (0x44). -/
def execChClear (dt : Nat) (h : CmdHeader) (ps : List Byte) (s : State) : Host.Outcome State Fault Refusal :=
  .next ((s.advance dt).packet 0x44 h ps State.chClear)

/-! ## The recorder commands (R478) -/

/-- REC_INFO (0x50). -/
def execRecInfo (dt : Nat) (h : CmdHeader) (ps : List Byte) (s : State) : Host.Outcome State Fault Refusal :=
  .next ((s.advance dt).packet 0x50 h ps State.recInfo)

/-- REC_READ (0x51). -/
def execRecRead (dt : Nat) (h : CmdHeader) (ps : List Byte) (s : State) : Host.Outcome State Fault Refusal :=
  .next ((s.advance dt).packet 0x51 h ps State.recRead)

/-- REC_CLEAR (0x52). -/
def execRecClear (dt : Nat) (h : CmdHeader) (ps : List Byte) (s : State) : Host.Outcome State Fault Refusal :=
  .next ((s.advance dt).packet 0x52 h ps State.recClear)

/-! ## The loop commands (R164) -/

/-- LOOP_OPEN (0x60). -/
def execLoopOpen (dt : Nat) (h : CmdHeader) (ps : List Byte) (s : State) : Host.Outcome State Fault Refusal :=
  .next ((s.advance dt).packet 0x60 h ps State.loopOpen)

/-- LOOP_CLOSE (0x61). -/
def execLoopClose (dt : Nat) (h : CmdHeader) (ps : List Byte) (s : State) : Host.Outcome State Fault Refusal :=
  .next ((s.advance dt).packet 0x61 h ps State.loopClose)

/-- LOOP_MANUAL (0x62). -/
def execLoopManual (dt : Nat) (h : CmdHeader) (ps : List Byte) (s : State) : Host.Outcome State Fault Refusal :=
  .next ((s.advance dt).packet 0x62 h ps State.loopManual)

/-- COEF_WRITE (0x63). -/
def execCoefWrite (dt : Nat) (h : CmdHeader) (ps : List Byte) (s : State) : Host.Outcome State Fault Refusal :=
  .next ((s.advance dt).packet 0x63 h ps State.coefWrite)

/-- SLOT_READ (0x64). -/
def execSlotRead (dt : Nat) (h : CmdHeader) (ps : List Byte) (s : State) : Host.Outcome State Fault Refusal :=
  .next ((s.advance dt).packet 0x64 h ps State.slotRead)

/-- TUNE_START (0x65). -/
def execTuneStart (dt : Nat) (h : CmdHeader) (ps : List Byte) (s : State) : Host.Outcome State Fault Refusal :=
  .next ((s.advance dt).packet 0x65 h ps State.tuneStart)

/-- TUNE_STOP (0x66). -/
def execTuneStop (dt : Nat) (h : CmdHeader) (ps : List Byte) (s : State) : Host.Outcome State Fault Refusal :=
  .next ((s.advance dt).packet 0x66 h ps State.tuneStop)

/-- TUNE_RESULT (0x67). -/
def execTuneResult (dt : Nat) (h : CmdHeader) (ps : List Byte) (s : State) : Host.Outcome State Fault Refusal :=
  .next ((s.advance dt).packet 0x67 h ps State.tuneResult)

/-- SLOT_DISABLE (0x68). -/
def execSlotDisable (dt : Nat) (h : CmdHeader) (ps : List Byte) (s : State) : Host.Outcome State Fault Refusal :=
  .next ((s.advance dt).packet 0x68 h ps State.slotDisable)

/-! ## The firmware commands (R499) -/

/-- FW_STATUS (0x70). -/
def execFwStatus (dt : Nat) (h : CmdHeader) (ps : List Byte) (s : State) : Host.Outcome State Fault Refusal :=
  .next ((s.advance dt).packet 0x70 h ps State.fwStatus)

/-- FW_BEGIN (0x71). -/
def execFwBegin (dt : Nat) (h : CmdHeader) (ps : List Byte) (s : State) : Host.Outcome State Fault Refusal :=
  .next ((s.advance dt).packet 0x71 h ps State.fwBegin)

/-- FW_WRITE (0x72). -/
def execFwWrite (dt : Nat) (h : CmdHeader) (ps : List Byte) (s : State) : Host.Outcome State Fault Refusal :=
  .next ((s.advance dt).packet 0x72 h ps State.fwWrite)

/-- FW_VERIFY (0x73). -/
def execFwVerify (dt : Nat) (h : CmdHeader) (ps : List Byte) (s : State) : Host.Outcome State Fault Refusal :=
  .next ((s.advance dt).packet 0x73 h ps State.fwVerify)

/-- FW_ACTIVATE (0x74). -/
def execFwActivate (dt : Nat) (h : CmdHeader) (ps : List Byte) (s : State) : Host.Outcome State Fault Refusal :=
  .next ((s.advance dt).packet 0x74 h ps State.fwActivate)

/-- FW_CONFIRM (0x75). -/
def execFwConfirm (dt : Nat) (h : CmdHeader) (ps : List Byte) (s : State) : Host.Outcome State Fault Refusal :=
  .next ((s.advance dt).packet 0x75 h ps State.fwConfirm)

/-- FW_REVERT (0x76). -/
def execFwRevert (dt : Nat) (h : CmdHeader) (ps : List Byte) (s : State) : Host.Outcome State Fault Refusal :=
  .next ((s.advance dt).packet 0x76 h ps State.fwRevert)

/-! ## The seal commands (R310) -/

/-- SEAL_STATUS (0x78). -/
def execSealStatus (dt : Nat) (h : CmdHeader) (ps : List Byte) (s : State) : Host.Outcome State Fault Refusal :=
  .next ((s.advance dt).packet 0x78 h ps State.sealStatus)

/-- SEAL_COMMIT (0x79). -/
def execSealCommit (dt : Nat) (h : CmdHeader) (ps : List Byte) (s : State) : Host.Outcome State Fault Refusal :=
  .next ((s.advance dt).packet 0x79 h ps State.sealCommit)

/-- SEAL_DISCARD (0x7A). -/
def execSealDiscard (dt : Nat) (h : CmdHeader) (ps : List Byte) (s : State) : Host.Outcome State Fault Refusal :=
  .next ((s.advance dt).packet 0x7A h ps State.sealDiscard)

/-- SEAL_IMAGE_READ (0x7B). -/
def execSealImageRead (dt : Nat) (h : CmdHeader) (ps : List Byte) (s : State) : Host.Outcome State Fault Refusal :=
  .next ((s.advance dt).packet 0x7B h ps State.sealImageRead)

/-! ## CAN_CTRL (0x2C), one row for each action (R398) -/

/-- CAN_CTRL with action 0, STOP. -/
def execCanStop (dt : Nat) (h : CmdHeader) (ctrl : Byte) (s : State) : Host.Outcome State Fault Refusal :=
  .next ((s.advance dt).packet 0x2C h [ctrl, 0] State.canCtrl)

/-- CAN_CTRL with action 1, START_NORMAL. -/
def execCanStartNormal (dt : Nat) (h : CmdHeader) (ctrl : Byte) (s : State) : Host.Outcome State Fault Refusal :=
  .next ((s.advance dt).packet 0x2C h [ctrl, 1] State.canCtrl)

/-- CAN_CTRL with action 2, START_LISTEN. -/
def execCanStartListen (dt : Nat) (h : CmdHeader) (ctrl : Byte) (s : State) : Host.Outcome State Fault Refusal :=
  .next ((s.advance dt).packet 0x2C h [ctrl, 2] State.canCtrl)

/-- CAN_CTRL with action 3, DETECT_RATE. -/
def execDetectRate (dt : Nat) (h : CmdHeader) (ctrl : Byte) (s : State) : Host.Outcome State Fault Refusal :=
  .next ((s.advance dt).packet 0x2C h [ctrl, 3] State.canCtrl)

/-- CAN_CTRL with action 4, SLEEP. -/
def execCanSleep (dt : Nat) (h : CmdHeader) (ctrl : Byte) (s : State) : Host.Outcome State Fault Refusal :=
  .next ((s.advance dt).packet 0x2C h [ctrl, 4] State.canCtrl)

/-- CAN_CTRL with action 5, WAKE. -/
def execCanWake (dt : Nat) (h : CmdHeader) (ctrl : Byte) (s : State) : Host.Outcome State Fault Refusal :=
  .next ((s.advance dt).packet 0x2C h [ctrl, 5] State.canCtrl)

/-- CAN_CTRL with action 6, RECOVER. -/
def execCanRecover (dt : Nat) (h : CmdHeader) (ctrl : Byte) (s : State) : Host.Outcome State Fault Refusal :=
  .next ((s.advance dt).packet 0x2C h [ctrl, 6] State.canCtrl)

/-! ## PARAM_WRITE of the parameters that act (R10, R57) -/

/-- The parameters of a PARAM_WRITE. -/
def writeParams (pid width v : Nat) : List Byte := le 2 pid ++ le 1 width ++ le width v

/-- EVT_PENDING_CLEAR: EVT_PENDING_LO or EVT_PENDING_HI (R56, R57). -/
def execEvtPendingClear (dt : Nat) (h : CmdHeader) (hi : Bool) (value : BitVec 32) (s : State) : Host.Outcome State Fault Refusal :=
  .next ((s.advance dt).packet 0x11 h (writeParams (if hi then 0xE013 else 0xE012) 4 value.toNat) State.paramWrite)

/-- SAT_SEEN_CLEAR: SLOT_STATUS of a slot (R165). -/
def execSatSeenClear (dt : Nat) (h : CmdHeader) (slot : SlotId) (value : BitVec 16) (s : State) : Host.Outcome State Fault Refusal :=
  .next ((s.advance dt).packet 0x11 h (writeParams (0x3000 + slot.val) 2 value.toNat) State.paramWrite)

/-- OBST_STATUS_CLEAR (R193). -/
def execObstStatusClear (dt : Nat) (h : CmdHeader) (value : BitVec 16) (s : State) : Host.Outcome State Fault Refusal :=
  .next ((s.advance dt).packet 0x11 h (writeParams 0x4080 2 value.toNat) State.paramWrite)

/-- SHUTDOWN_SEEN_CLEAR: CH_STATUS (R287). -/
def execShutdownSeenClear (dt : Nat) (h : CmdHeader) (value : BitVec 16) (s : State) : Host.Outcome State Fault Refusal :=
  .next ((s.advance dt).packet 0x11 h (writeParams 0x7080 2 value.toNat) State.paramWrite)

/-- CAN_FLAGS_CLEAR (R402). -/
def execCanFlagsClear (dt : Nat) (h : CmdHeader) (n : CanId) (value : Byte) (s : State) : Host.Outcome State Fault Refusal :=
  .next ((s.advance dt).packet 0x11 h (writeParams (canPid n 0x8B) 1 value.toNat) State.paramWrite)

/-- FRIC_RESET (R175, R192). -/
def execFricReset (dt : Nat) (h : CmdHeader) (value : Byte) (s : State) : Host.Outcome State Fault Refusal :=
  .next ((s.advance dt).packet 0x11 h (writeParams 0x4020 1 value.toNat) State.paramWrite)

/-- FB_ARM (R235). -/
def execFbArm (dt : Nat) (h : CmdHeader) (value : Byte) (s : State) : Host.Outcome State Fault Refusal :=
  .next ((s.advance dt).packet 0x11 h (writeParams 0x6015 1 value.toNat) State.paramWrite)

/-- FB_COUNT_CLEAR (R251). -/
def execFbCountClear (dt : Nat) (h : CmdHeader) (value : Byte) (s : State) : Host.Outcome State Fault Refusal :=
  .next ((s.advance dt).packet 0x11 h (writeParams 0x6016 1 value.toNat) State.paramWrite)

/-- FB_TYPE_WRITE (R247). -/
def execFbTypeWrite (dt : Nat) (h : CmdHeader) (value : Byte) (s : State) : Host.Outcome State Fault Refusal :=
  .next ((s.advance dt).packet 0x11 h (writeParams 0x6000 1 value.toNat) State.paramWrite)

/-! ## A restart ends (R330, R331) -/

/-- A command that waited acts, unless another Eclair that it needs still restarts (R23, R28, R331). -/
def State.deliverHeld (s : State) (c : HeldCmd) : State :=
  match s.holdsBack c.handle.op c.handle.unit.toNat with
  | some d => s.modPair d fun x => { x with held := x.held ++ [c] }
  | none =>
    let members := if isGroup c.handle.unit.toNat then some c.portals else none
    if c.handle.op = 0x11 then s.paramWriteTo members c.handle c.params
    else if c.handle.op = 0x13 then s.paramWriteSetTo members c.handle c.params
    else opFun c.handle.op s c.handle c.params

/-- RESTART_COMPLETE: the copies run from a verified image. An Eclair delivers the commands held for it and starts the recovery window; the Hub
pair runs in SAFE. When the image verifies from no source, the pair is held stopped and the portals of its die are fenced (R496). -/
def execRestartComplete (dt : Nat) (d : Fin 3) (imageOk : Bool) (s : State) : Host.Outcome State Fault Refusal :=
  let s := s.advance dt
  let r := s.pair d
  .next (if r.scope ≠ .restarting then s
    else if !imageOk then
      let s := ((s.modPair d fun x => { x with scope := .held }).pairEvent d 8 0xF (uDie d.val)).dropHeld d
      if d = 0 then s else s.fenceServed (pairDie d) 0x05 0
    else if d = 0 then (s.modPair d fun x => { x with scope := s.pairScope, halted := false }).pairEvent d 3 0xF (uDie d.val)
    else
      let s := (s.modPair d fun x => { x with scope := .coreCaches, recovering := true, agreed := 0, halted := false, held := [] }).pairEvent d 3 0xF (uDie d.val)
      foldState r.held (fun c t => t.deliverHeld c) s)

end Sys2Proof.Machine
end

