-- ==== Sys2Proof/Machine/Ports.lean ====
section
/-! DEFINITION. The host ports: SPI transactions (R427–R431), the segments of CAN3 (R432–R434), and a frame received on a CAN controller (R383, R388,
R412). -/

namespace Sys2Proof.Machine

/-! ## Packets (R429, R435, R436) -/

/-- A packet that passes the checks of R429; CAN3 allows padding behind it (R434). -/
def parsePacket (padded : Bool) (l : List Byte) : Option Packet :=
  let n := unLe ((l.drop 5).take 2)
  let size := 10 + n
  if l.length < 10 ∨ 1024 < n ∨ l.length < size ∨ (!padded ∧ l.length ≠ size) then none
  else if (Crc.crc16 (l.take (8 + n))).toNat ≠ unLe ((l.drop (8 + n)).take 2) then none
  else if (l.getD 1 0).getLsbD 7 then none
  else some ⟨l.getD 0 0, BitVec.ofNat 7 (l.getD 1 0).toNat, l.getD 2 0, BitVec.ofNat 16 (unLe ((l.drop 3).take 2)), l.getD 7 0, (l.drop 8).take n⟩

/-! ## SPI (R427–R431) -/

/-- INT_N is asserted (R58). -/
def State.intN (s : State) : Bool :=
  decide (s.evtPending &&& BitVec.ofNat 64 (s.parN 0xE010 0 + 2 ^ 32 * s.parN 0xE011 0) ≠ 0)

/-- SPI_STAT (R428). -/
def State.spiStat (s : State) : Nat :=
  let x := s.port 0
  bit (s.mode ≠ .init && !s.power.off) + 2 * bit (decide (x.replies ≠ [])) + 4 * bit (decide (16 ≤ x.rxq.length)) + 8 * bit x.lastBad
    + 16 * bit s.intN

/-- Free places in the receive queue of the SPI port. -/
def State.spiFree (s : State) : Nat := 16 - (s.port 0).rxq.length

/-- What the device shifts out in a transaction of `n` bytes: SPI_STAT, the bytes of the operation, then zeros. -/
def State.shiftOut (s : State) (n : Nat) (l : List Byte) : State :=
  s.modPort 0 fun x => { x with miso := ((BitVec.ofNat 8 s.spiStat :: l) ++ List.replicate n 0).take n }

/-- The head reply of the SPI port as READ sends it, and its length. -/
def State.spiHead (s : State) : List Byte := match (s.port 0).replies with
  | [] => []
  | r :: _ => r.bytes

/-- The head reply of a port has been delivered: its tag is freed (R437). -/
def State.deliver (s : State) (n : PortId) : State :=
  match (s.port n).replies with
  | [] => s
  | r :: l =>
    let s := s.modPort n fun x => { x with replies := l }
    if r.frees then s.freeTag n r.tag else s

/-- SPI_WRITE: `bytes` follow the operation code; `cut` says that HOST_CS_N rose within a byte (R428, R429). -/
def execSpiWrite (dt : Nat) (bytes : List Byte) (cut : Bool) (s : State) : Host.Outcome State Fault Refusal :=
  let s := s.advance dt
  let s := s.shiftOut (1 + bytes.length) [BitVec.ofNat 8 s.spiFree]
  .next (if s.mode = .init ∨ s.power.off then s
    else match (if cut then none else parsePacket false bytes) with
      | none => s.modPort 0 fun x => { x with lastBad := true }
      | some k => (s.modPort 0 fun x => { x with lastBad := false }).receive 0 k)

/-- SPI_READ: `clocked` counts the bytes of the transaction, the operation code among them. The head reply is consumed when all of it has been
clocked (R430). -/
def execSpiRead (dt : Nat) (clocked : Nat) (s : State) : Host.Outcome State Fault Refusal :=
  let s := s.advance dt
  let r := s.spiHead
  let s := s.shiftOut clocked (le 2 r.length ++ r)
  .next (if r ≠ [] ∧ r.length + 3 ≤ clocked then s.deliver 0 else s)

/-- SPI_POLL (R428). -/
def execSpiPoll (dt : Nat) (clocked : Nat) (s : State) : Host.Outcome State Fault Refusal :=
  let s := s.advance dt
  .next (s.shiftOut clocked (le 2 s.spiHead.length ++ [BitVec.ofNat 8 s.spiFree]))

/-! ## CAN3 (R432–R434) -/

/-- The identifier of a frame is MQ_CAN_ID_CMD, and the CAN3 port works (R388, R432). -/
def State.isMirqua (s : State) (f : CanFrame) : Bool := s.segWorks && idMatch (busFrame f) (s.parN 0xD001 0) 0x3FFFFFFF

/-- A frame with the identifier of Mirqua commands: one segment (R434). A classic or a remote frame is discarded. -/
def State.segReceive (s : State) (f : CanFrame) : State :=
  if !f.fdf then s
  else match f.data with
    | [] => s
    | b :: d =>
      let i := b.toNat % 64
      let none' := s.modPort 1 fun x => { x with seg := none }
      let add := fun (l : List Byte) =>
        if b.getLsbD 7 then (match parsePacket true l with
          | some k => none'.receive 1 k
          | none => none')
        else s.modPort 1 fun x => { x with seg := some (l, i, s.ts) }
      if i = 0 then add d
      else match (s.port 1).seg with
        | some (l, j, t) => if i = j + 1 ∧ s.ts.since t ≤ ms 100 then add (l ++ d) else none'
        | none => s

/-- A frame received on CAN3 that Mirqua takes before any filter (R388). -/
def State.mirquaFrame (s : State) (f : CanFrame) (sof : Nat) : State :=
  let (s, got) := s.canReceive 3 f sof true
  if got then s.segReceive (busFrame f) else s

/-- A frame received on any other path: it is placed; the telegram engine takes the partner's DCL telegrams from its own-stream buffer (R412). -/
def State.plainFrame (s : State) (n : CanId) (f : CanFrame) (sof : Nat) : State :=
  let own := s.parNames 0xB016 0
  let (s, got) := s.canReceive n f sof false
  let f := busFrame f
  match s.filterOf n f with
  | some k =>
    if got && decide (n.val < 2) && (s.can n).owned.getLsbD k.val && decide (own = some k.val) then
      (s.modCan n fun x => { x with bufs := x.bufs.set k.val ⟨none, none, none⟩ }).followOwn f (s.ts - BitVec.ofNat 56 sof)
    else s
  | none => s

/-- CAN_FRAME_RECEIVED: a frame without error; its start of frame was `sof` counts ago (R383, R388). -/
def execCanFrameReceived (dt : Nat) (n : CanId) (f : CanFrame) (sof : Nat) (s : State) : Host.Outcome State Fault Refusal :=
  let s := s.advance dt
  .next (if n = 3 ∧ s.isMirqua f then s.mirquaFrame f sof else s.plainFrame n f sof)

/-- MIRQUA_SEGMENT_RECEIVED: a frame on CAN3 that carries a segment (R434). -/
def execMirquaSegmentReceived (dt : Nat) (f : CanFrame) (s : State) : Host.Outcome State Fault Refusal :=
  let s := s.advance dt
  .next (if s.isMirqua f then s.mirquaFrame f 0 else s)

/-- SEGMENT_GAP_TIMEOUT: 100 ms have passed since the last segment; the packet is discarded (R434). -/
def execSegmentGapTimeout (dt : Nat) (s : State) : Host.Outcome State Fault Refusal :=
  let s := s.advance dt
  .next (match (s.port 1).seg with
    | some (_, _, t) => if s.elapsed t (ms 100) then s.modPort 1 fun x => { x with seg := none } else s
    | none => s)

/-- The segment in mailbox 12 of CAN3 has been sent: the next one is loaded, or the reply has been delivered and another one begins (R434, R437). -/
def State.segSent (s : State) : State :=
  match (s.port 1).txSeg, (s.port 1).replies with
  | some k, r :: _ =>
    if r.bytes.length ≤ 63 * (k + 1) then ((s.modPort 1 fun x => { x with txSeg := none }).deliver 1).segLoad else s.segPut (k + 1)
  | _, _ => (s.modPort 1 fun x => { x with txSeg := none }).segLoad

/-- MIRQUA_SEGMENT_SENT: the frame has been transmitted and acknowledged; CAN_TX_OUTCOME of the same frame may have emptied the mailbox already. -/
def execMirquaSegmentSent (dt : Nat) (s : State) : Host.Outcome State Fault Refusal :=
  let s := s.advance dt
  let x := s.can 3
  .next (if x.state ≠ .normal then s
    else match s.box 3 12 with
      | some _ => ((s.canCounts 3 (x.tec - 1) x.recErr).txFinal 3 12 0).segSent
      | none => s.segSent)

end Sys2Proof.Machine
end

