-- ==== Sys2Proof/Machine/Dispatch.lean ====
section
/-! DEFINITION. What a command does to everything but the queue: one meaning for each row of the opcode table. -/

namespace Sys2Proof.Machine

/-- The effect of a command. -/
def exec (i : Instr) (s : State) : Host.Outcome State Fault Refusal :=
  match i with
  | .hello dt h ps => Sys2Proof.Machine.execHello dt h ps s
  | .deviceInfo dt h ps => Sys2Proof.Machine.execDeviceInfo dt h ps s
  | .wdgStart dt h ps => Sys2Proof.Machine.execWdgStart dt h ps s
  | .wdgKick dt h ps => Sys2Proof.Machine.execWdgKick dt h ps s
  | .wdgStop dt h ps => Sys2Proof.Machine.execWdgStop dt h ps s
  | .eventRead dt h ps => Sys2Proof.Machine.execEventRead dt h ps s
  | .queueStatus dt h ps => Sys2Proof.Machine.execQueueStatus dt h ps s
  | .echo dt h ps => Sys2Proof.Machine.execEcho dt h ps s
  | .paramRead dt h ps => Sys2Proof.Machine.execParamRead dt h ps s
  | .paramWrite dt h ps => Sys2Proof.Machine.execParamWrite dt h ps s
  | .paramReadRange dt h ps => Sys2Proof.Machine.execParamReadRange dt h ps s
  | .paramWriteSet dt h ps => Sys2Proof.Machine.execParamWriteSet dt h ps s
  | .modeRequest dt h ps => Sys2Proof.Machine.execModeRequest dt h ps s
  | .lockstepSplit dt h ps => Sys2Proof.Machine.execLockstepSplit dt h ps s
  | .lockstepRejoin dt h ps => Sys2Proof.Machine.execLockstepRejoin dt h ps s
  | .lockstepStatus dt h ps => Sys2Proof.Machine.execLockstepStatus dt h ps s
  | .claimYield dt h ps => Sys2Proof.Machine.execClaimYield dt h ps s
  | .canStop dt h ctrl => Sys2Proof.Machine.execCanStop dt h ctrl s
  | .canStartNormal dt h ctrl => Sys2Proof.Machine.execCanStartNormal dt h ctrl s
  | .canStartListen dt h ctrl => Sys2Proof.Machine.execCanStartListen dt h ctrl s
  | .detectRate dt h ctrl => Sys2Proof.Machine.execDetectRate dt h ctrl s
  | .canSleep dt h ctrl => Sys2Proof.Machine.execCanSleep dt h ctrl s
  | .canWake dt h ctrl => Sys2Proof.Machine.execCanWake dt h ctrl s
  | .canRecover dt h ctrl => Sys2Proof.Machine.execCanRecover dt h ctrl s
  | .canTx dt h ps => Sys2Proof.Machine.execCanTx dt h ps s
  | .canCancel dt h ps => Sys2Proof.Machine.execCanCancel dt h ps s
  | .canRx dt h ps => Sys2Proof.Machine.execCanRx dt h ps s
  | .portalOpen dt h ps => Sys2Proof.Machine.execPortalOpen dt h ps s
  | .portalClose dt h ps => Sys2Proof.Machine.execPortalClose dt h ps s
  | .portalStatus dt h ps => Sys2Proof.Machine.execPortalStatus dt h ps s
  | .fenceClear dt h ps => Sys2Proof.Machine.execFenceClear dt h ps s
  | .emergencyReset dt h ps => Sys2Proof.Machine.execEmergencyReset dt h ps s
  | .jog dt h ps => Sys2Proof.Machine.execJog dt h ps s
  | .jogStop dt h ps => Sys2Proof.Machine.execJogStop dt h ps s
  | .portalFence dt h ps => Sys2Proof.Machine.execPortalFence dt h ps s
  | .chOn dt h ps => Sys2Proof.Machine.execChOn dt h ps s
  | .chOff dt h ps => Sys2Proof.Machine.execChOff dt h ps s
  | .chPulse dt h ps => Sys2Proof.Machine.execChPulse dt h ps s
  | .chMulti dt h ps => Sys2Proof.Machine.execChMulti dt h ps s
  | .chClear dt h ps => Sys2Proof.Machine.execChClear dt h ps s
  | .recInfo dt h ps => Sys2Proof.Machine.execRecInfo dt h ps s
  | .recRead dt h ps => Sys2Proof.Machine.execRecRead dt h ps s
  | .recClear dt h ps => Sys2Proof.Machine.execRecClear dt h ps s
  | .loopOpen dt h ps => Sys2Proof.Machine.execLoopOpen dt h ps s
  | .loopClose dt h ps => Sys2Proof.Machine.execLoopClose dt h ps s
  | .loopManual dt h ps => Sys2Proof.Machine.execLoopManual dt h ps s
  | .coefWrite dt h ps => Sys2Proof.Machine.execCoefWrite dt h ps s
  | .slotRead dt h ps => Sys2Proof.Machine.execSlotRead dt h ps s
  | .tuneStart dt h ps => Sys2Proof.Machine.execTuneStart dt h ps s
  | .tuneStop dt h ps => Sys2Proof.Machine.execTuneStop dt h ps s
  | .tuneResult dt h ps => Sys2Proof.Machine.execTuneResult dt h ps s
  | .slotDisable dt h ps => Sys2Proof.Machine.execSlotDisable dt h ps s
  | .fwStatus dt h ps => Sys2Proof.Machine.execFwStatus dt h ps s
  | .fwBegin dt h ps => Sys2Proof.Machine.execFwBegin dt h ps s
  | .fwWrite dt h ps => Sys2Proof.Machine.execFwWrite dt h ps s
  | .fwVerify dt h ps => Sys2Proof.Machine.execFwVerify dt h ps s
  | .fwActivate dt h ps => Sys2Proof.Machine.execFwActivate dt h ps s
  | .fwConfirm dt h ps => Sys2Proof.Machine.execFwConfirm dt h ps s
  | .fwRevert dt h ps => Sys2Proof.Machine.execFwRevert dt h ps s
  | .sealStatus dt h ps => Sys2Proof.Machine.execSealStatus dt h ps s
  | .sealCommit dt h ps => Sys2Proof.Machine.execSealCommit dt h ps s
  | .sealDiscard dt h ps => Sys2Proof.Machine.execSealDiscard dt h ps s
  | .sealImageRead dt h ps => Sys2Proof.Machine.execSealImageRead dt h ps s
  | .evtPendingClear dt h hi value => Sys2Proof.Machine.execEvtPendingClear dt h hi value s
  | .satSeenClear dt h slot value => Sys2Proof.Machine.execSatSeenClear dt h slot value s
  | .obstStatusClear dt h value => Sys2Proof.Machine.execObstStatusClear dt h value s
  | .shutdownSeenClear dt h value => Sys2Proof.Machine.execShutdownSeenClear dt h value s
  | .canFlagsClear dt h n value => Sys2Proof.Machine.execCanFlagsClear dt h n value s
  | .fricReset dt h value => Sys2Proof.Machine.execFricReset dt h value s
  | .fbArm dt h value => Sys2Proof.Machine.execFbArm dt h value s
  | .fbCountClear dt h value => Sys2Proof.Machine.execFbCountClear dt h value s
  | .fbTypeWrite dt h value => Sys2Proof.Machine.execFbTypeWrite dt h value s
  | .spiWrite dt bytes cut => Sys2Proof.Machine.execSpiWrite dt bytes cut s
  | .spiRead dt clocked => Sys2Proof.Machine.execSpiRead dt clocked s
  | .spiPoll dt clocked => Sys2Proof.Machine.execSpiPoll dt clocked s
  | .mirquaSegmentReceived dt f => Sys2Proof.Machine.execMirquaSegmentReceived dt f s
  | .segmentGapTimeout dt => Sys2Proof.Machine.execSegmentGapTimeout dt s
  | .mirquaSegmentSent dt => Sys2Proof.Machine.execMirquaSegmentSent dt s
  | .interpreterTurn dt => Sys2Proof.Machine.execInterpreterTurn dt s
  | .porNRelease dt sresetA sresetB => Sys2Proof.Machine.execPorNRelease dt sresetA sresetB s
  | .logicSupplyLost dt => Sys2Proof.Machine.execLogicSupplyLost dt s
  | .initRetry dt x => Sys2Proof.Machine.execInitRetry dt x s
  | .initComplete dt x => Sys2Proof.Machine.execInitComplete dt x s
  | .testComplete dt fails => Sys2Proof.Machine.execTestComplete dt fails s
  | .recorderScanDone dt torn badBlocks => Sys2Proof.Machine.execRecorderScanDone dt torn badBlocks s
  | .sealLoadComplete dt => Sys2Proof.Machine.execSealLoadComplete dt s
  | .sealRead dt first second => Sys2Proof.Machine.execSealRead dt first second s
  | .sealShadowCheck dt regsEqual => Sys2Proof.Machine.execSealShadowCheck dt regsEqual s
  | .sealBlockReverify dt readable => Sys2Proof.Machine.execSealBlockReverify dt readable s
  | .sealCommitDone dt => Sys2Proof.Machine.execSealCommitDone dt s
  | .prepareReceived dt d canEnter => Sys2Proof.Machine.execPrepareReceived dt d canEnter s
  | .ackDeadline dt => Sys2Proof.Machine.execAckDeadline dt s
  | .commitReceived dt d => Sys2Proof.Machine.execCommitReceived dt d s
  | .abortReceived dt d => Sys2Proof.Machine.execAbortReceived dt d s
  | .safeReceived dt d => Sys2Proof.Machine.execSafeReceived dt d s
  | .epochCommitTime dt => Sys2Proof.Machine.execEpochCommitTime dt s
  | .commitRepeat dt => Sys2Proof.Machine.execCommitRepeat dt s
  | .heartbeat dt reached => Sys2Proof.Machine.execHeartbeat dt reached s
  | .heartbeatLoss dt d => Sys2Proof.Machine.execHeartbeatLoss dt d s
  | .tsCorrection dt d offset => Sys2Proof.Machine.execTsCorrection dt d offset s
  | .eventArrival dt d => Sys2Proof.Machine.execEventArrival dt d s
  | .eventRelease dt => Sys2Proof.Machine.execEventRelease dt s
  | .sequencerEvaluation dt p => Sys2Proof.Machine.execSequencerEvaluation dt p s
  | .transitionTimeout dt p => Sys2Proof.Machine.execTransitionTimeout dt p s
  | .closeWarningEnd dt p => Sys2Proof.Machine.execCloseWarningEnd dt p s
  | .recloseDwellEnd dt p => Sys2Proof.Machine.execRecloseDwellEnd dt p s
  | .obstOpenPauseEnd dt p => Sys2Proof.Machine.execObstOpenPauseEnd dt p s
  | .lockSettleElapsed dt p => Sys2Proof.Machine.execLockSettleElapsed dt p s
  | .jogRenewalTimeout dt p lock => Sys2Proof.Machine.execJogRenewalTimeout dt p lock s
  | .localOpenRequest dt p => Sys2Proof.Machine.execLocalOpenRequest dt p s
  | .safetyInputChange dt p n level => Sys2Proof.Machine.execSafetyInputChange dt p n level s
  | .siDiscrepancy dt p pair => Sys2Proof.Machine.execSiDiscrepancy dt p pair s
  | .siDiscrepancyClear dt p pair => Sys2Proof.Machine.execSiDiscrepancyClear dt p pair s
  | .siPlausibility dt p chk => Sys2Proof.Machine.execSiPlausibility dt p chk s
  | .siPlausibilityClear dt p chk => Sys2Proof.Machine.execSiPlausibilityClear dt p chk s
  | .zsInputChange dt isB level => Sys2Proof.Machine.execZsInputChange dt isB level s
  | .zsDiscrepancy dt => Sys2Proof.Machine.execZsDiscrepancy dt s
  | .zsFaultClear dt => Sys2Proof.Machine.execZsFaultClear dt s
  | .gpiChange dt n level => Sys2Proof.Machine.execGpiChange dt n level s
  | .dclFwRenewal dt => Sys2Proof.Machine.execDclFwRenewal dt s
  | .fwStall dt => Sys2Proof.Machine.execFwStall dt s
  | .dclInputFrame dt d => Sys2Proof.Machine.execDclInputFrame dt d s
  | .dclFrameMissing dt d => Sys2Proof.Machine.execDclFrameMissing dt d s
  | .dclTermCompare dt => Sys2Proof.Machine.execDclTermCompare dt s
  | .dclTermDisagree dt p => Sys2Proof.Machine.execDclTermDisagree dt p s
  | .dclTermAgree dt p => Sys2Proof.Machine.execDclTermAgree dt p s
  | .dclHalfPeriod dt => Sys2Proof.Machine.execDclHalfPeriod dt s
  | .dclBallCheck dt ballA ballB => Sys2Proof.Machine.execDclBallCheck dt ballA ballB s
  | .dclReadbackChange dt isB level => Sys2Proof.Machine.execDclReadbackChange dt isB level s
  | .dclPickupDropTimeout dt isB => Sys2Proof.Machine.execDclPickupDropTimeout dt isB s
  | .safetyResetEdge dt a b => Sys2Proof.Machine.execSafetyResetEdge dt a b s
  | .safetyResetJam dt => Sys2Proof.Machine.execSafetyResetJam dt s
  | .gdFault dt p pin => Sys2Proof.Machine.execGdFault dt p pin s
  | .overcurrentTrip dt p l phaseV y => Sys2Proof.Machine.execOvercurrentTrip dt p l phaseV y s
  | .vbusOver dt p y => Sys2Proof.Machine.execVbusOver dt p y s
  | .vbusUnder dt p y => Sys2Proof.Machine.execVbusUnder dt p y s
  | .sdClock dt p c => Sys2Proof.Machine.execSdClock dt p c s
  | .sdStuck dt p which => Sys2Proof.Machine.execSdStuck dt p which s
  | .hallEdge dt p l code => Sys2Proof.Machine.execHallEdge dt p l code s
  | .hallTimeout dt p l => Sys2Proof.Machine.execHallTimeout dt p l s
  | .driveStartDelayEnd dt p l => Sys2Proof.Machine.execDriveStartDelayEnd dt p l s
  | .alignTimeEnd dt p l => Sys2Proof.Machine.execAlignTimeEnd dt p l s
  | .brakeEnd dt p l => Sys2Proof.Machine.execBrakeEnd dt p l s
  | .currentTick dt p l smp => Sys2Proof.Machine.execCurrentTick dt p l smp s
  | .datapathResidueClear dt p l => Sys2Proof.Machine.execDatapathResidueClear dt p l s
  | .directionFault dt p l => Sys2Proof.Machine.execDirectionFault dt p l s
  | .chopAdapt dt p l arm => Sys2Proof.Machine.execChopAdapt dt p l arm s
  | .profileTick dt p l => Sys2Proof.Machine.execProfileTick dt p l s
  | .slotTick dt d n residue => Sys2Proof.Machine.execSlotTick dt d n residue s
  | .slotResidueClear dt d n => Sys2Proof.Machine.execSlotResidueClear dt d n s
  | .checkerSelfTest dt d flagged => Sys2Proof.Machine.execCheckerSelfTest dt d flagged s
  | .tuneEnd dt d n => Sys2Proof.Machine.execTuneEnd dt d n s
  | .obstacleDeclared dt p l => Sys2Proof.Machine.execObstacleDeclared dt p l s
  | .energyFenceBrake dt p l => Sys2Proof.Machine.execEnergyFenceBrake dt p l s
  | .energyBrakeRelease dt p l => Sys2Proof.Machine.execEnergyBrakeRelease dt p l s
  | .fenceSelfTest dt p l pass => Sys2Proof.Machine.execFenceSelfTest dt p l pass s
  | .mapSave dt p l => Sys2Proof.Machine.execMapSave dt p l s
  | .stepRecompute dt smp => Sys2Proof.Machine.execStepRecompute dt smp s
  | .stepBridgeFault dt p flt first second => Sys2Proof.Machine.execStepBridgeFault dt p flt first second s
  | .stepStill dt p => Sys2Proof.Machine.execStepStill dt p s
  | .homeInputAccepted dt p => Sys2Proof.Machine.execHomeInputAccepted dt p s
  | .homingFailure dt p => Sys2Proof.Machine.execHomingFailure dt p s
  | .posDeviation dt p => Sys2Proof.Machine.execPosDeviation dt p s
  | .f2ConfirmWindowEnd dt p => Sys2Proof.Machine.execF2ConfirmWindowEnd dt p s
  | .quietTrim dt p ys => Sys2Proof.Machine.execQuietTrim dt p ys s
  | .fbCountChange dt p f a b z => Sys2Proof.Machine.execFbCountChange dt p f a b z s
  | .indexEdge dt p f pins => Sys2Proof.Machine.execIndexEdge dt p f pins s
  | .ssiFrame dt p f raw edges dataHigh => Sys2Proof.Machine.execSsiFrame dt p f raw edges dataHigh s
  | .observerTick dt p f => Sys2Proof.Machine.execObserverTick dt p f s
  | .tStillExpiry dt p f => Sys2Proof.Machine.execTStillExpiry dt p f s
  | .closedContactReference dt p l => Sys2Proof.Machine.execClosedContactReference dt p l s
  | .fbFaultClear dt p f n => Sys2Proof.Machine.execFbFaultClear dt p f n s
  | .echoOutputStep dt p => Sys2Proof.Machine.execEchoOutputStep dt p s
  | .channelPeriodStart dt p c vls iAvg iOn => Sys2Proof.Machine.execChannelPeriodStart dt p c vls iAvg iOn s
  | .pullInEnd dt p c => Sys2Proof.Machine.execPullInEnd dt p c s
  | .chPulseEnd dt p c => Sys2Proof.Machine.execChPulseEnd dt p c s
  | .channelLimitShutdown dt p c peak => Sys2Proof.Machine.execChannelLimitShutdown dt p c peak s
  | .channelFastOff dt p c peak => Sys2Proof.Machine.execChannelFastOff dt p c peak s
  | .retryIntervalEnd dt p c => Sys2Proof.Machine.execRetryIntervalEnd dt p c s
  | .retryCountReset dt p c => Sys2Proof.Machine.execRetryCountReset dt p c s
  | .channelTemperature dt p c temp => Sys2Proof.Machine.execChannelTemperature dt p c temp s
  | .supplyAnomaly dt p k mv gndMv => Sys2Proof.Machine.execSupplyAnomaly dt p k mv gndMv s
  | .lockstepMismatch dt d a => Sys2Proof.Machine.execLockstepMismatch dt d a s
  | .signatureExchange dt d agree part => Sys2Proof.Machine.execSignatureExchange dt d agree part s
  | .comparatorSelfTest dt d pass => Sys2Proof.Machine.execComparatorSelfTest dt d pass s
  | .coreWatchdogExpiry dt d part => Sys2Proof.Machine.execCoreWatchdogExpiry dt d part s
  | .restartComplete dt d imageOk => Sys2Proof.Machine.execRestartComplete dt d imageOk s
  | .recoveryComplete dt d => Sys2Proof.Machine.execRecoveryComplete dt d s
  | .splitHandoverDone dt d agree => Sys2Proof.Machine.execSplitHandoverDone dt d agree s
  | .diagnosticFailed dt d => Sys2Proof.Machine.execDiagnosticFailed dt d s
  | .eccError dt d memory region uncorrectable index => Sys2Proof.Machine.execEccError dt d memory region uncorrectable index s
  | .claimFrameStart dt smp => Sys2Proof.Machine.execClaimFrameStart dt smp s
  | .claimFrameEnd dt st => Sys2Proof.Machine.execClaimFrameEnd dt st s
  | .swetricLinkChange dt up => Sys2Proof.Machine.execSwetricLinkChange dt up s
  | .capSend dt => Sys2Proof.Machine.execCapSend dt s
  | .capReceived dt cap => Sys2Proof.Machine.execCapReceived dt cap s
  | .heartbeatSend dt => Sys2Proof.Machine.execHeartbeatSend dt s
  | .heartbeatReceived dt hb => Sys2Proof.Machine.execHeartbeatReceived dt hb s
  | .partnerLost dt => Sys2Proof.Machine.execPartnerLost dt s
  | .snapshotTake dt ready => Sys2Proof.Machine.execSnapshotTake dt ready s
  | .snapshotReceived dt snap => Sys2Proof.Machine.execSnapshotReceived dt snap s
  | .yieldTimeout dt => Sys2Proof.Machine.execYieldTimeout dt s
  | .canFrameReceived dt n f sof => Sys2Proof.Machine.execCanFrameReceived dt n f sof s
  | .canTxOutcome dt n m e loopDelay => Sys2Proof.Machine.execCanTxOutcome dt n m e loopDelay s
  | .canDeadlineStale dt n m => Sys2Proof.Machine.execCanDeadlineStale dt n m s
  | .canError dt n k transmitting severe => Sys2Proof.Machine.execCanError dt n k transmitting severe s
  | .busOffRecovered dt n => Sys2Proof.Machine.execBusOffRecovered dt n s
  | .detectWindowEnd dt n => Sys2Proof.Machine.execDetectWindowEnd dt n s
  | .detectTimeout dt n => Sys2Proof.Machine.execDetectTimeout dt n s
  | .wakeEdge dt n dominant => Sys2Proof.Machine.execWakeEdge dt n dominant s
  | .protocolException dt n => Sys2Proof.Machine.execProtocolException dt n s
  | .dclTelegramSend dt => Sys2Proof.Machine.execDclTelegramSend dt s
  | .doorStateSend dt => Sys2Proof.Machine.execDoorStateSend dt s
  | .telegramCopyReceived dt release netB f sof => Sys2Proof.Machine.execTelegramCopyReceived dt release netB f sof s
  | .pairingWindowClose dt release => Sys2Proof.Machine.execPairingWindowClose dt release s
  | .streamTimeout dt release => Sys2Proof.Machine.execStreamTimeout dt release s
  | .recordWrite dt => Sys2Proof.Machine.execRecordWrite dt s
  | .writeCreditRegain dt => Sys2Proof.Machine.execWriteCreditRegain dt s
  | .lossSummary dt => Sys2Proof.Machine.execLossSummary dt s
  | .counterSave dt => Sys2Proof.Machine.execCounterSave dt s
  | .opSecond dt => Sys2Proof.Machine.execOpSecond dt s
  | .pfail dt => Sys2Proof.Machine.execPfail dt s
  | .powerFailFlush dt => Sys2Proof.Machine.execPowerFailFlush dt s
  | .refclkFault dt => Sys2Proof.Machine.execRefclkFault dt s
  | .pllUnlock dt d => Sys2Proof.Machine.execPllUnlock dt d s
  | .dieTemperature dt d temp => Sys2Proof.Machine.execDieTemperature dt d temp s
  | .watchdogExpiry dt => Sys2Proof.Machine.execWatchdogExpiry dt s
  | .dealimLinkFault dt link kind farEnd => Sys2Proof.Machine.execDealimLinkFault dt link kind farEnd s
  | .pllRelock dt d => Sys2Proof.Machine.execPllRelock dt d s
  | .fwVerifyDone dt => Sys2Proof.Machine.execFwVerifyDone dt s
  | .debugInstruction dt x => Sys2Proof.Machine.execDebugInstruction dt x s
  | .busIntegration dt n => Sys2Proof.Machine.execBusIntegration dt n s
  | .homeInputInactive dt p => Sys2Proof.Machine.execHomeInputInactive dt p s

end Sys2Proof.Machine
end

