-- ==== Sys2Proof/WellFormed.lean ====
section
/-! DEFINITION. Which operands a sender can give a command: the manual's limits on packets, frames, snapshots, dies and record places. -/

namespace Sys2Proof

/-- A Mirqua packet carries at most 1,024 parameter bytes (R435). -/
def paramsWf (ps : List Byte) : Bool := decide (ps.length ≤ 1024)

/-- The data lengths of an FD frame by DLC (R375). -/
def fdLength (dlc : Nat) : Nat :=
  match dlc with
  | 9 => 12 | 10 => 16 | 11 => 20 | 12 => 24 | 13 => 32 | 14 => 48 | 15 => 64
  | n => n

/-- A frame that a bus can carry (R374, R375): an 11-bit identifier in a base frame, remote and ESI and BRS only where the format has them, the data
length that the DLC names; a classic DLC of 9–15 carries 8 bytes. -/
def CanFrame.wf (f : CanFrame) : Bool :=
  (f.ide || decide (f.id.toNat < 2048)) && !(f.fdf && f.rtr) && (f.fdf || !f.brs) && (f.fdf || !f.esi)
    && decide (f.data.length = if f.rtr then 0 else if f.fdf then fdLength f.dlc.toNat else min 8 f.dlc.toNat)

/-- A CAP carries a digest of 32 bytes (R359). -/
def CapFrame.wf (c : CapFrame) : Bool := decide (c.digest.length = 32)

/-- A snapshot has the fields of R361 in their numbers: 32 digest bytes, 8 sequence numbers, two engines of 32 outputs, 8 portals of 2 leaves with 4
outputs each and 8 pulses. -/
def Snapshot.wf (x : Snapshot) : Bool :=
  decide (x.digest.length = 32) && decide (x.txSeq.length = 8) && decide (x.genU.length = 2) && x.genU.all (fun l => decide (l.length = 32))
    && decide (x.portals.length = 8)
    && x.portals.all fun p => decide (p.leaves.length = 2) && decide (p.pulseLeft.length = 8) && p.leaves.all fun l => decide (l.u.length = 4)

/-- The dies that the Hub die sends the messages of an epoch commit: all but itself and the recorder memory, which takes no part (R39, R40). -/
def partDie (d : DieId) : Bool := decide (d ≠ 0) && decide (d ≠ 7)

/-- The counts that pass before a command (log 1). -/
def Instr.elapsed : Instr → Nat
  | .hello dt _ _ => dt
  | .deviceInfo dt _ _ => dt
  | .wdgStart dt _ _ => dt
  | .wdgKick dt _ _ => dt
  | .wdgStop dt _ _ => dt
  | .eventRead dt _ _ => dt
  | .queueStatus dt _ _ => dt
  | .echo dt _ _ => dt
  | .paramRead dt _ _ => dt
  | .paramWrite dt _ _ => dt
  | .paramReadRange dt _ _ => dt
  | .paramWriteSet dt _ _ => dt
  | .modeRequest dt _ _ => dt
  | .lockstepSplit dt _ _ => dt
  | .lockstepRejoin dt _ _ => dt
  | .lockstepStatus dt _ _ => dt
  | .claimYield dt _ _ => dt
  | .canStop dt _ _ => dt
  | .canStartNormal dt _ _ => dt
  | .canStartListen dt _ _ => dt
  | .detectRate dt _ _ => dt
  | .canSleep dt _ _ => dt
  | .canWake dt _ _ => dt
  | .canRecover dt _ _ => dt
  | .canTx dt _ _ => dt
  | .canCancel dt _ _ => dt
  | .canRx dt _ _ => dt
  | .portalOpen dt _ _ => dt
  | .portalClose dt _ _ => dt
  | .portalStatus dt _ _ => dt
  | .fenceClear dt _ _ => dt
  | .emergencyReset dt _ _ => dt
  | .jog dt _ _ => dt
  | .jogStop dt _ _ => dt
  | .portalFence dt _ _ => dt
  | .chOn dt _ _ => dt
  | .chOff dt _ _ => dt
  | .chPulse dt _ _ => dt
  | .chMulti dt _ _ => dt
  | .chClear dt _ _ => dt
  | .recInfo dt _ _ => dt
  | .recRead dt _ _ => dt
  | .recClear dt _ _ => dt
  | .loopOpen dt _ _ => dt
  | .loopClose dt _ _ => dt
  | .loopManual dt _ _ => dt
  | .coefWrite dt _ _ => dt
  | .slotRead dt _ _ => dt
  | .tuneStart dt _ _ => dt
  | .tuneStop dt _ _ => dt
  | .tuneResult dt _ _ => dt
  | .slotDisable dt _ _ => dt
  | .fwStatus dt _ _ => dt
  | .fwBegin dt _ _ => dt
  | .fwWrite dt _ _ => dt
  | .fwVerify dt _ _ => dt
  | .fwActivate dt _ _ => dt
  | .fwConfirm dt _ _ => dt
  | .fwRevert dt _ _ => dt
  | .sealStatus dt _ _ => dt
  | .sealCommit dt _ _ => dt
  | .sealDiscard dt _ _ => dt
  | .sealImageRead dt _ _ => dt
  | .evtPendingClear dt _ _ _ => dt
  | .satSeenClear dt _ _ _ => dt
  | .obstStatusClear dt _ _ => dt
  | .shutdownSeenClear dt _ _ => dt
  | .canFlagsClear dt _ _ _ => dt
  | .fricReset dt _ _ => dt
  | .fbArm dt _ _ => dt
  | .fbCountClear dt _ _ => dt
  | .fbTypeWrite dt _ _ => dt
  | .spiWrite dt _ _ => dt
  | .spiRead dt _ => dt
  | .spiPoll dt _ => dt
  | .mirquaSegmentReceived dt _ => dt
  | .segmentGapTimeout dt => dt
  | .mirquaSegmentSent dt => dt
  | .interpreterTurn dt => dt
  | .porNRelease dt _ _ => dt
  | .logicSupplyLost dt => dt
  | .initRetry dt _ => dt
  | .initComplete dt _ => dt
  | .testComplete dt _ => dt
  | .recorderScanDone dt _ _ => dt
  | .sealLoadComplete dt => dt
  | .sealRead dt _ _ => dt
  | .sealShadowCheck dt _ => dt
  | .sealBlockReverify dt _ => dt
  | .sealCommitDone dt => dt
  | .prepareReceived dt _ _ => dt
  | .ackDeadline dt => dt
  | .commitReceived dt _ => dt
  | .abortReceived dt _ => dt
  | .safeReceived dt _ => dt
  | .epochCommitTime dt => dt
  | .commitRepeat dt => dt
  | .heartbeat dt _ => dt
  | .heartbeatLoss dt _ => dt
  | .tsCorrection dt _ _ => dt
  | .eventArrival dt _ => dt
  | .eventRelease dt => dt
  | .sequencerEvaluation dt _ => dt
  | .transitionTimeout dt _ => dt
  | .closeWarningEnd dt _ => dt
  | .recloseDwellEnd dt _ => dt
  | .obstOpenPauseEnd dt _ => dt
  | .lockSettleElapsed dt _ => dt
  | .jogRenewalTimeout dt _ _ => dt
  | .localOpenRequest dt _ => dt
  | .safetyInputChange dt _ _ _ => dt
  | .siDiscrepancy dt _ _ => dt
  | .siDiscrepancyClear dt _ _ => dt
  | .siPlausibility dt _ _ => dt
  | .siPlausibilityClear dt _ _ => dt
  | .zsInputChange dt _ _ => dt
  | .zsDiscrepancy dt => dt
  | .zsFaultClear dt => dt
  | .gpiChange dt _ _ => dt
  | .dclFwRenewal dt => dt
  | .fwStall dt => dt
  | .dclInputFrame dt _ => dt
  | .dclFrameMissing dt _ => dt
  | .dclTermCompare dt => dt
  | .dclTermDisagree dt _ => dt
  | .dclTermAgree dt _ => dt
  | .dclHalfPeriod dt => dt
  | .dclBallCheck dt _ _ => dt
  | .dclReadbackChange dt _ _ => dt
  | .dclPickupDropTimeout dt _ => dt
  | .safetyResetEdge dt _ _ => dt
  | .safetyResetJam dt => dt
  | .gdFault dt _ _ => dt
  | .overcurrentTrip dt _ _ _ _ => dt
  | .vbusOver dt _ _ => dt
  | .vbusUnder dt _ _ => dt
  | .sdClock dt _ _ => dt
  | .sdStuck dt _ _ => dt
  | .hallEdge dt _ _ _ => dt
  | .hallTimeout dt _ _ => dt
  | .driveStartDelayEnd dt _ _ => dt
  | .alignTimeEnd dt _ _ => dt
  | .brakeEnd dt _ _ => dt
  | .currentTick dt _ _ _ => dt
  | .datapathResidueClear dt _ _ => dt
  | .directionFault dt _ _ => dt
  | .chopAdapt dt _ _ _ => dt
  | .profileTick dt _ _ => dt
  | .slotTick dt _ _ _ => dt
  | .slotResidueClear dt _ _ => dt
  | .checkerSelfTest dt _ _ => dt
  | .tuneEnd dt _ _ => dt
  | .obstacleDeclared dt _ _ => dt
  | .energyFenceBrake dt _ _ => dt
  | .energyBrakeRelease dt _ _ => dt
  | .fenceSelfTest dt _ _ _ => dt
  | .mapSave dt _ _ => dt
  | .stepRecompute dt _ => dt
  | .stepBridgeFault dt _ _ _ _ => dt
  | .stepStill dt _ => dt
  | .homeInputAccepted dt _ => dt
  | .homingFailure dt _ => dt
  | .posDeviation dt _ => dt
  | .f2ConfirmWindowEnd dt _ => dt
  | .quietTrim dt _ _ => dt
  | .fbCountChange dt _ _ _ _ _ => dt
  | .indexEdge dt _ _ _ => dt
  | .ssiFrame dt _ _ _ _ _ => dt
  | .observerTick dt _ _ => dt
  | .tStillExpiry dt _ _ => dt
  | .closedContactReference dt _ _ => dt
  | .fbFaultClear dt _ _ _ => dt
  | .echoOutputStep dt _ => dt
  | .channelPeriodStart dt _ _ _ _ _ => dt
  | .pullInEnd dt _ _ => dt
  | .chPulseEnd dt _ _ => dt
  | .channelLimitShutdown dt _ _ _ => dt
  | .channelFastOff dt _ _ _ => dt
  | .retryIntervalEnd dt _ _ => dt
  | .retryCountReset dt _ _ => dt
  | .channelTemperature dt _ _ _ => dt
  | .supplyAnomaly dt _ _ _ _ => dt
  | .lockstepMismatch dt _ _ => dt
  | .signatureExchange dt _ _ _ => dt
  | .comparatorSelfTest dt _ _ => dt
  | .coreWatchdogExpiry dt _ _ => dt
  | .restartComplete dt _ _ => dt
  | .recoveryComplete dt _ => dt
  | .splitHandoverDone dt _ _ => dt
  | .diagnosticFailed dt _ => dt
  | .eccError dt _ _ _ _ _ => dt
  | .claimFrameStart dt _ => dt
  | .claimFrameEnd dt _ => dt
  | .swetricLinkChange dt _ => dt
  | .capSend dt => dt
  | .capReceived dt _ => dt
  | .heartbeatSend dt => dt
  | .heartbeatReceived dt _ => dt
  | .partnerLost dt => dt
  | .snapshotTake dt _ => dt
  | .snapshotReceived dt _ => dt
  | .yieldTimeout dt => dt
  | .canFrameReceived dt _ _ _ => dt
  | .canTxOutcome dt _ _ _ _ => dt
  | .canDeadlineStale dt _ _ => dt
  | .canError dt _ _ _ _ => dt
  | .busOffRecovered dt _ => dt
  | .detectWindowEnd dt _ => dt
  | .detectTimeout dt _ => dt
  | .wakeEdge dt _ _ => dt
  | .protocolException dt _ => dt
  | .dclTelegramSend dt => dt
  | .doorStateSend dt => dt
  | .telegramCopyReceived dt _ _ _ _ => dt
  | .pairingWindowClose dt _ => dt
  | .streamTimeout dt _ => dt
  | .recordWrite dt => dt
  | .writeCreditRegain dt => dt
  | .lossSummary dt => dt
  | .counterSave dt => dt
  | .opSecond dt => dt
  | .pfail dt => dt
  | .powerFailFlush dt => dt
  | .refclkFault dt => dt
  | .pllUnlock dt _ => dt
  | .dieTemperature dt _ _ => dt
  | .watchdogExpiry dt => dt
  | .dealimLinkFault dt _ _ _ => dt
  | .pllRelock dt _ => dt
  | .fwVerifyDone dt => dt
  | .debugInstruction dt _ => dt
  | .busIntegration dt _ => dt
  | .homeInputInactive dt _ => dt

/-- The same command after another number of counts. -/
def Instr.after (delay : Nat) : Instr → Instr
  | .hello _ h ps => .hello delay h ps
  | .deviceInfo _ h ps => .deviceInfo delay h ps
  | .wdgStart _ h ps => .wdgStart delay h ps
  | .wdgKick _ h ps => .wdgKick delay h ps
  | .wdgStop _ h ps => .wdgStop delay h ps
  | .eventRead _ h ps => .eventRead delay h ps
  | .queueStatus _ h ps => .queueStatus delay h ps
  | .echo _ h ps => .echo delay h ps
  | .paramRead _ h ps => .paramRead delay h ps
  | .paramWrite _ h ps => .paramWrite delay h ps
  | .paramReadRange _ h ps => .paramReadRange delay h ps
  | .paramWriteSet _ h ps => .paramWriteSet delay h ps
  | .modeRequest _ h ps => .modeRequest delay h ps
  | .lockstepSplit _ h ps => .lockstepSplit delay h ps
  | .lockstepRejoin _ h ps => .lockstepRejoin delay h ps
  | .lockstepStatus _ h ps => .lockstepStatus delay h ps
  | .claimYield _ h ps => .claimYield delay h ps
  | .canStop _ h ctrl => .canStop delay h ctrl
  | .canStartNormal _ h ctrl => .canStartNormal delay h ctrl
  | .canStartListen _ h ctrl => .canStartListen delay h ctrl
  | .detectRate _ h ctrl => .detectRate delay h ctrl
  | .canSleep _ h ctrl => .canSleep delay h ctrl
  | .canWake _ h ctrl => .canWake delay h ctrl
  | .canRecover _ h ctrl => .canRecover delay h ctrl
  | .canTx _ h ps => .canTx delay h ps
  | .canCancel _ h ps => .canCancel delay h ps
  | .canRx _ h ps => .canRx delay h ps
  | .portalOpen _ h ps => .portalOpen delay h ps
  | .portalClose _ h ps => .portalClose delay h ps
  | .portalStatus _ h ps => .portalStatus delay h ps
  | .fenceClear _ h ps => .fenceClear delay h ps
  | .emergencyReset _ h ps => .emergencyReset delay h ps
  | .jog _ h ps => .jog delay h ps
  | .jogStop _ h ps => .jogStop delay h ps
  | .portalFence _ h ps => .portalFence delay h ps
  | .chOn _ h ps => .chOn delay h ps
  | .chOff _ h ps => .chOff delay h ps
  | .chPulse _ h ps => .chPulse delay h ps
  | .chMulti _ h ps => .chMulti delay h ps
  | .chClear _ h ps => .chClear delay h ps
  | .recInfo _ h ps => .recInfo delay h ps
  | .recRead _ h ps => .recRead delay h ps
  | .recClear _ h ps => .recClear delay h ps
  | .loopOpen _ h ps => .loopOpen delay h ps
  | .loopClose _ h ps => .loopClose delay h ps
  | .loopManual _ h ps => .loopManual delay h ps
  | .coefWrite _ h ps => .coefWrite delay h ps
  | .slotRead _ h ps => .slotRead delay h ps
  | .tuneStart _ h ps => .tuneStart delay h ps
  | .tuneStop _ h ps => .tuneStop delay h ps
  | .tuneResult _ h ps => .tuneResult delay h ps
  | .slotDisable _ h ps => .slotDisable delay h ps
  | .fwStatus _ h ps => .fwStatus delay h ps
  | .fwBegin _ h ps => .fwBegin delay h ps
  | .fwWrite _ h ps => .fwWrite delay h ps
  | .fwVerify _ h ps => .fwVerify delay h ps
  | .fwActivate _ h ps => .fwActivate delay h ps
  | .fwConfirm _ h ps => .fwConfirm delay h ps
  | .fwRevert _ h ps => .fwRevert delay h ps
  | .sealStatus _ h ps => .sealStatus delay h ps
  | .sealCommit _ h ps => .sealCommit delay h ps
  | .sealDiscard _ h ps => .sealDiscard delay h ps
  | .sealImageRead _ h ps => .sealImageRead delay h ps
  | .evtPendingClear _ h hi value => .evtPendingClear delay h hi value
  | .satSeenClear _ h slot value => .satSeenClear delay h slot value
  | .obstStatusClear _ h value => .obstStatusClear delay h value
  | .shutdownSeenClear _ h value => .shutdownSeenClear delay h value
  | .canFlagsClear _ h n value => .canFlagsClear delay h n value
  | .fricReset _ h value => .fricReset delay h value
  | .fbArm _ h value => .fbArm delay h value
  | .fbCountClear _ h value => .fbCountClear delay h value
  | .fbTypeWrite _ h value => .fbTypeWrite delay h value
  | .spiWrite _ bytes cut => .spiWrite delay bytes cut
  | .spiRead _ clocked => .spiRead delay clocked
  | .spiPoll _ clocked => .spiPoll delay clocked
  | .mirquaSegmentReceived _ f => .mirquaSegmentReceived delay f
  | .segmentGapTimeout _  => .segmentGapTimeout delay 
  | .mirquaSegmentSent _  => .mirquaSegmentSent delay 
  | .interpreterTurn _  => .interpreterTurn delay 
  | .porNRelease _ sresetA sresetB => .porNRelease delay sresetA sresetB
  | .logicSupplyLost _  => .logicSupplyLost delay 
  | .initRetry _ i => .initRetry delay i
  | .initComplete _ i => .initComplete delay i
  | .testComplete _ fails => .testComplete delay fails
  | .recorderScanDone _ torn badBlocks => .recorderScanDone delay torn badBlocks
  | .sealLoadComplete _  => .sealLoadComplete delay 
  | .sealRead _ first second => .sealRead delay first second
  | .sealShadowCheck _ regsEqual => .sealShadowCheck delay regsEqual
  | .sealBlockReverify _ readable => .sealBlockReverify delay readable
  | .sealCommitDone _  => .sealCommitDone delay 
  | .prepareReceived _ d canEnter => .prepareReceived delay d canEnter
  | .ackDeadline _  => .ackDeadline delay 
  | .commitReceived _ d => .commitReceived delay d
  | .abortReceived _ d => .abortReceived delay d
  | .safeReceived _ d => .safeReceived delay d
  | .epochCommitTime _  => .epochCommitTime delay 
  | .commitRepeat _  => .commitRepeat delay 
  | .heartbeat _ reached => .heartbeat delay reached
  | .heartbeatLoss _ d => .heartbeatLoss delay d
  | .tsCorrection _ d offset => .tsCorrection delay d offset
  | .eventArrival _ d => .eventArrival delay d
  | .eventRelease _  => .eventRelease delay 
  | .sequencerEvaluation _ p => .sequencerEvaluation delay p
  | .transitionTimeout _ p => .transitionTimeout delay p
  | .closeWarningEnd _ p => .closeWarningEnd delay p
  | .recloseDwellEnd _ p => .recloseDwellEnd delay p
  | .obstOpenPauseEnd _ p => .obstOpenPauseEnd delay p
  | .lockSettleElapsed _ p => .lockSettleElapsed delay p
  | .jogRenewalTimeout _ p lock => .jogRenewalTimeout delay p lock
  | .localOpenRequest _ p => .localOpenRequest delay p
  | .safetyInputChange _ p n level => .safetyInputChange delay p n level
  | .siDiscrepancy _ p pair => .siDiscrepancy delay p pair
  | .siDiscrepancyClear _ p pair => .siDiscrepancyClear delay p pair
  | .siPlausibility _ p chk => .siPlausibility delay p chk
  | .siPlausibilityClear _ p chk => .siPlausibilityClear delay p chk
  | .zsInputChange _ isB level => .zsInputChange delay isB level
  | .zsDiscrepancy _  => .zsDiscrepancy delay 
  | .zsFaultClear _  => .zsFaultClear delay 
  | .gpiChange _ n level => .gpiChange delay n level
  | .dclFwRenewal _  => .dclFwRenewal delay 
  | .fwStall _  => .fwStall delay 
  | .dclInputFrame _ d => .dclInputFrame delay d
  | .dclFrameMissing _ d => .dclFrameMissing delay d
  | .dclTermCompare _  => .dclTermCompare delay 
  | .dclTermDisagree _ p => .dclTermDisagree delay p
  | .dclTermAgree _ p => .dclTermAgree delay p
  | .dclHalfPeriod _  => .dclHalfPeriod delay 
  | .dclBallCheck _ ballA ballB => .dclBallCheck delay ballA ballB
  | .dclReadbackChange _ isB level => .dclReadbackChange delay isB level
  | .dclPickupDropTimeout _ isB => .dclPickupDropTimeout delay isB
  | .safetyResetEdge _ a b => .safetyResetEdge delay a b
  | .safetyResetJam _  => .safetyResetJam delay 
  | .gdFault _ p pin => .gdFault delay p pin
  | .overcurrentTrip _ p l phaseV y => .overcurrentTrip delay p l phaseV y
  | .vbusOver _ p y => .vbusOver delay p y
  | .vbusUnder _ p y => .vbusUnder delay p y
  | .sdClock _ p c => .sdClock delay p c
  | .sdStuck _ p which => .sdStuck delay p which
  | .hallEdge _ p l code => .hallEdge delay p l code
  | .hallTimeout _ p l => .hallTimeout delay p l
  | .driveStartDelayEnd _ p l => .driveStartDelayEnd delay p l
  | .alignTimeEnd _ p l => .alignTimeEnd delay p l
  | .brakeEnd _ p l => .brakeEnd delay p l
  | .currentTick _ p l smp => .currentTick delay p l smp
  | .datapathResidueClear _ p l => .datapathResidueClear delay p l
  | .directionFault _ p l => .directionFault delay p l
  | .chopAdapt _ p l arm => .chopAdapt delay p l arm
  | .profileTick _ p l => .profileTick delay p l
  | .slotTick _ d n residue => .slotTick delay d n residue
  | .slotResidueClear _ d n => .slotResidueClear delay d n
  | .checkerSelfTest _ d flagged => .checkerSelfTest delay d flagged
  | .tuneEnd _ d n => .tuneEnd delay d n
  | .obstacleDeclared _ p l => .obstacleDeclared delay p l
  | .energyFenceBrake _ p l => .energyFenceBrake delay p l
  | .energyBrakeRelease _ p l => .energyBrakeRelease delay p l
  | .fenceSelfTest _ p l pass => .fenceSelfTest delay p l pass
  | .mapSave _ p l => .mapSave delay p l
  | .stepRecompute _ smp => .stepRecompute delay smp
  | .stepBridgeFault _ p flt first second => .stepBridgeFault delay p flt first second
  | .stepStill _ p => .stepStill delay p
  | .homeInputAccepted _ p => .homeInputAccepted delay p
  | .homingFailure _ p => .homingFailure delay p
  | .posDeviation _ p => .posDeviation delay p
  | .f2ConfirmWindowEnd _ p => .f2ConfirmWindowEnd delay p
  | .quietTrim _ p iMeas => .quietTrim delay p iMeas
  | .fbCountChange _ p f a b z => .fbCountChange delay p f a b z
  | .indexEdge _ p f pins => .indexEdge delay p f pins
  | .ssiFrame _ p f raw edges dataHigh => .ssiFrame delay p f raw edges dataHigh
  | .observerTick _ p f => .observerTick delay p f
  | .tStillExpiry _ p f => .tStillExpiry delay p f
  | .closedContactReference _ p l => .closedContactReference delay p l
  | .fbFaultClear _ p f n => .fbFaultClear delay p f n
  | .echoOutputStep _ p => .echoOutputStep delay p
  | .channelPeriodStart _ p c vls iAvg iOn => .channelPeriodStart delay p c vls iAvg iOn
  | .pullInEnd _ p c => .pullInEnd delay p c
  | .chPulseEnd _ p c => .chPulseEnd delay p c
  | .channelLimitShutdown _ p c peak => .channelLimitShutdown delay p c peak
  | .channelFastOff _ p c peak => .channelFastOff delay p c peak
  | .retryIntervalEnd _ p c => .retryIntervalEnd delay p c
  | .retryCountReset _ p c => .retryCountReset delay p c
  | .channelTemperature _ p c temp => .channelTemperature delay p c temp
  | .supplyAnomaly _ p k mv gndMv => .supplyAnomaly delay p k mv gndMv
  | .lockstepMismatch _ d a => .lockstepMismatch delay d a
  | .signatureExchange _ d agree part => .signatureExchange delay d agree part
  | .comparatorSelfTest _ d pass => .comparatorSelfTest delay d pass
  | .coreWatchdogExpiry _ d part => .coreWatchdogExpiry delay d part
  | .restartComplete _ d imageOk => .restartComplete delay d imageOk
  | .recoveryComplete _ d => .recoveryComplete delay d
  | .splitHandoverDone _ d agree => .splitHandoverDone delay d agree
  | .diagnosticFailed _ d => .diagnosticFailed delay d
  | .eccError _ d memory region uncorrectable index => .eccError delay d memory region uncorrectable index
  | .claimFrameStart _ smp => .claimFrameStart delay smp
  | .claimFrameEnd _ st => .claimFrameEnd delay st
  | .swetricLinkChange _ up => .swetricLinkChange delay up
  | .capSend _  => .capSend delay 
  | .capReceived _ cap => .capReceived delay cap
  | .heartbeatSend _  => .heartbeatSend delay 
  | .heartbeatReceived _ hb => .heartbeatReceived delay hb
  | .partnerLost _  => .partnerLost delay 
  | .snapshotTake _ ready => .snapshotTake delay ready
  | .snapshotReceived _ snap => .snapshotReceived delay snap
  | .yieldTimeout _  => .yieldTimeout delay 
  | .canFrameReceived _ n f sof => .canFrameReceived delay n f sof
  | .canTxOutcome _ n m e loopDelay => .canTxOutcome delay n m e loopDelay
  | .canDeadlineStale _ n m => .canDeadlineStale delay n m
  | .canError _ n k transmitting severe => .canError delay n k transmitting severe
  | .busOffRecovered _ n => .busOffRecovered delay n
  | .detectWindowEnd _ n => .detectWindowEnd delay n
  | .detectTimeout _ n => .detectTimeout delay n
  | .wakeEdge _ n dominant => .wakeEdge delay n dominant
  | .protocolException _ n => .protocolException delay n
  | .dclTelegramSend _  => .dclTelegramSend delay 
  | .doorStateSend _  => .doorStateSend delay 
  | .telegramCopyReceived _ release netB f sof => .telegramCopyReceived delay release netB f sof
  | .pairingWindowClose _ release => .pairingWindowClose delay release
  | .streamTimeout _ release => .streamTimeout delay release
  | .recordWrite _  => .recordWrite delay 
  | .writeCreditRegain _  => .writeCreditRegain delay 
  | .lossSummary _  => .lossSummary delay 
  | .counterSave _  => .counterSave delay 
  | .opSecond _  => .opSecond delay 
  | .pfail _  => .pfail delay 
  | .powerFailFlush _  => .powerFailFlush delay 
  | .refclkFault _  => .refclkFault delay 
  | .pllUnlock _ d => .pllUnlock delay d
  | .dieTemperature _ d temp => .dieTemperature delay d temp
  | .watchdogExpiry _  => .watchdogExpiry delay 
  | .dealimLinkFault _ link kind farEnd => .dealimLinkFault delay link kind farEnd
  | .pllRelock _ d => .pllRelock delay d
  | .fwVerifyDone _  => .fwVerifyDone delay 
  | .debugInstruction _ i => .debugInstruction delay i
  | .busIntegration _ n => .busIntegration delay n
  | .homeInputInactive _ p => .homeInputInactive delay p

/-- A command that a sender can give. -/
def Instr.wf : Instr → Bool
  | .hello _ _ ps => paramsWf ps
  | .deviceInfo _ _ ps => paramsWf ps
  | .wdgStart _ _ ps => paramsWf ps
  | .wdgKick _ _ ps => paramsWf ps
  | .wdgStop _ _ ps => paramsWf ps
  | .eventRead _ _ ps => paramsWf ps
  | .queueStatus _ _ ps => paramsWf ps
  | .echo _ _ ps => paramsWf ps
  | .paramRead _ _ ps => paramsWf ps
  | .paramWrite _ _ ps => paramsWf ps
  | .paramReadRange _ _ ps => paramsWf ps
  | .paramWriteSet _ _ ps => paramsWf ps
  | .modeRequest _ _ ps => paramsWf ps
  | .lockstepSplit _ _ ps => paramsWf ps
  | .lockstepRejoin _ _ ps => paramsWf ps
  | .lockstepStatus _ _ ps => paramsWf ps
  | .claimYield _ _ ps => paramsWf ps
  | .canStop _ _ _ => true
  | .canStartNormal _ _ _ => true
  | .canStartListen _ _ _ => true
  | .detectRate _ _ _ => true
  | .canSleep _ _ _ => true
  | .canWake _ _ _ => true
  | .canRecover _ _ _ => true
  | .canTx _ _ ps => paramsWf ps
  | .canCancel _ _ ps => paramsWf ps
  | .canRx _ _ ps => paramsWf ps
  | .portalOpen _ _ ps => paramsWf ps
  | .portalClose _ _ ps => paramsWf ps
  | .portalStatus _ _ ps => paramsWf ps
  | .fenceClear _ _ ps => paramsWf ps
  | .emergencyReset _ _ ps => paramsWf ps
  | .jog _ _ ps => paramsWf ps
  | .jogStop _ _ ps => paramsWf ps
  | .portalFence _ _ ps => paramsWf ps
  | .chOn _ _ ps => paramsWf ps
  | .chOff _ _ ps => paramsWf ps
  | .chPulse _ _ ps => paramsWf ps
  | .chMulti _ _ ps => paramsWf ps
  | .chClear _ _ ps => paramsWf ps
  | .recInfo _ _ ps => paramsWf ps
  | .recRead _ _ ps => paramsWf ps
  | .recClear _ _ ps => paramsWf ps
  | .loopOpen _ _ ps => paramsWf ps
  | .loopClose _ _ ps => paramsWf ps
  | .loopManual _ _ ps => paramsWf ps
  | .coefWrite _ _ ps => paramsWf ps
  | .slotRead _ _ ps => paramsWf ps
  | .tuneStart _ _ ps => paramsWf ps
  | .tuneStop _ _ ps => paramsWf ps
  | .tuneResult _ _ ps => paramsWf ps
  | .slotDisable _ _ ps => paramsWf ps
  | .fwStatus _ _ ps => paramsWf ps
  | .fwBegin _ _ ps => paramsWf ps
  | .fwWrite _ _ ps => paramsWf ps
  | .fwVerify _ _ ps => paramsWf ps
  | .fwActivate _ _ ps => paramsWf ps
  | .fwConfirm _ _ ps => paramsWf ps
  | .fwRevert _ _ ps => paramsWf ps
  | .sealStatus _ _ ps => paramsWf ps
  | .sealCommit _ _ ps => paramsWf ps
  | .sealDiscard _ _ ps => paramsWf ps
  | .sealImageRead _ _ ps => paramsWf ps
  | .evtPendingClear _ _ _ _ => true
  | .satSeenClear _ _ _ _ => true
  | .obstStatusClear _ _ _ => true
  | .shutdownSeenClear _ _ _ => true
  | .canFlagsClear _ _ _ _ => true
  | .fricReset _ _ _ => true
  | .fbArm _ _ _ => true
  | .fbCountClear _ _ _ => true
  | .fbTypeWrite _ _ _ => true
  | .spiWrite _ _ _ => true
  | .spiRead _ _ => true
  | .spiPoll _ _ => true
  | .mirquaSegmentReceived _ f => f.wf
  | .segmentGapTimeout _  => true
  | .mirquaSegmentSent _  => true
  | .interpreterTurn _  => true
  | .porNRelease _ _ _ => true
  | .logicSupplyLost _  => true
  | .initRetry _ _ => true
  | .initComplete _ _ => true
  | .testComplete _ _ => true
  | .recorderScanDone _ torn badBlocks => torn.all (fun k => decide (k < 1572864)) && badBlocks.all (fun k => decide (k < 786432))
  | .sealLoadComplete _  => true
  | .sealRead _ _ _ => true
  | .sealShadowCheck _ _ => true
  | .sealBlockReverify _ _ => true
  | .sealCommitDone _  => true
  | .prepareReceived _ d _ => partDie d
  | .ackDeadline _  => true
  | .commitReceived _ d => partDie d
  | .abortReceived _ d => partDie d
  | .safeReceived _ d => partDie d
  | .epochCommitTime _  => true
  | .commitRepeat _  => true
  | .heartbeat _ _ => true
  | .heartbeatLoss _ d => partDie d
  | .tsCorrection _ _ _ => true
  | .eventArrival _ d => decide (d ≠ 0)
  | .eventRelease _  => true
  | .sequencerEvaluation _ _ => true
  | .transitionTimeout _ _ => true
  | .closeWarningEnd _ _ => true
  | .recloseDwellEnd _ _ => true
  | .obstOpenPauseEnd _ _ => true
  | .lockSettleElapsed _ _ => true
  | .jogRenewalTimeout _ _ _ => true
  | .localOpenRequest _ _ => true
  | .safetyInputChange _ _ _ _ => true
  | .siDiscrepancy _ _ _ => true
  | .siDiscrepancyClear _ _ _ => true
  | .siPlausibility _ _ _ => true
  | .siPlausibilityClear _ _ _ => true
  | .zsInputChange _ _ _ => true
  | .zsDiscrepancy _  => true
  | .zsFaultClear _  => true
  | .gpiChange _ _ _ => true
  | .dclFwRenewal _  => true
  | .fwStall _  => true
  | .dclInputFrame _ _ => true
  | .dclFrameMissing _ _ => true
  | .dclTermCompare _  => true
  | .dclTermDisagree _ _ => true
  | .dclTermAgree _ _ => true
  | .dclHalfPeriod _  => true
  | .dclBallCheck _ _ _ => true
  | .dclReadbackChange _ _ _ => true
  | .dclPickupDropTimeout _ _ => true
  | .safetyResetEdge _ _ _ => true
  | .safetyResetJam _  => true
  | .gdFault _ _ _ => true
  | .overcurrentTrip _ _ _ _ _ => true
  | .vbusOver _ _ _ => true
  | .vbusUnder _ _ _ => true
  | .sdClock _ _ _ => true
  | .sdStuck _ _ _ => true
  | .hallEdge _ _ _ _ => true
  | .hallTimeout _ _ _ => true
  | .driveStartDelayEnd _ _ _ => true
  | .alignTimeEnd _ _ _ => true
  | .brakeEnd _ _ _ => true
  | .currentTick _ _ _ _ => true
  | .datapathResidueClear _ _ _ => true
  | .directionFault _ _ _ => true
  | .chopAdapt _ _ _ _ => true
  | .profileTick _ _ _ => true
  | .slotTick _ _ _ _ => true
  | .slotResidueClear _ _ _ => true
  | .checkerSelfTest _ _ _ => true
  | .tuneEnd _ _ _ => true
  | .obstacleDeclared _ _ _ => true
  | .energyFenceBrake _ _ _ => true
  | .energyBrakeRelease _ _ _ => true
  | .fenceSelfTest _ _ _ _ => true
  | .mapSave _ _ _ => true
  | .stepRecompute _ _ => true
  | .stepBridgeFault _ _ _ _ _ => true
  | .stepStill _ _ => true
  | .homeInputAccepted _ _ => true
  | .homingFailure _ _ => true
  | .posDeviation _ _ => true
  | .f2ConfirmWindowEnd _ _ => true
  | .quietTrim _ _ _ => true
  | .fbCountChange _ _ _ _ _ _ => true
  | .indexEdge _ _ _ _ => true
  | .ssiFrame _ _ _ _ _ _ => true
  | .observerTick _ _ _ => true
  | .tStillExpiry _ _ _ => true
  | .closedContactReference _ _ _ => true
  | .fbFaultClear _ _ _ _ => true
  | .echoOutputStep _ _ => true
  | .channelPeriodStart _ _ _ _ _ _ => true
  | .pullInEnd _ _ _ => true
  | .chPulseEnd _ _ _ => true
  | .channelLimitShutdown _ _ _ _ => true
  | .channelFastOff _ _ _ _ => true
  | .retryIntervalEnd _ _ _ => true
  | .retryCountReset _ _ _ => true
  | .channelTemperature _ _ _ _ => true
  | .supplyAnomaly _ _ _ _ _ => true
  | .lockstepMismatch _ _ _ => true
  | .signatureExchange _ _ _ _ => true
  | .comparatorSelfTest _ _ _ => true
  | .coreWatchdogExpiry _ _ _ => true
  | .restartComplete _ _ _ => true
  | .recoveryComplete _ _ => true
  | .splitHandoverDone _ _ _ => true
  | .diagnosticFailed _ _ => true
  | .eccError _ _ _ _ _ index => decide (index < 1048576)
  | .claimFrameStart _ _ => true
  | .claimFrameEnd _ _ => true
  | .swetricLinkChange _ _ => true
  | .capSend _  => true
  | .capReceived _ cap => cap.wf
  | .heartbeatSend _  => true
  | .heartbeatReceived _ _ => true
  | .partnerLost _  => true
  | .snapshotTake _ _ => true
  | .snapshotReceived _ snap => snap.wf
  | .yieldTimeout _  => true
  | .canFrameReceived _ _ f _ => f.wf
  | .canTxOutcome _ _ _ _ _ => true
  | .canDeadlineStale _ _ _ => true
  | .canError _ _ _ _ _ => true
  | .busOffRecovered _ _ => true
  | .detectWindowEnd _ _ => true
  | .detectTimeout _ _ => true
  | .wakeEdge _ _ _ => true
  | .protocolException _ _ => true
  | .dclTelegramSend _  => true
  | .doorStateSend _  => true
  | .telegramCopyReceived _ _ _ f _ => f.wf
  | .pairingWindowClose _ _ => true
  | .streamTimeout _ _ => true
  | .recordWrite _  => true
  | .writeCreditRegain _  => true
  | .lossSummary _  => true
  | .counterSave _  => true
  | .opSecond _  => true
  | .pfail _  => true
  | .powerFailFlush _  => true
  | .refclkFault _  => true
  | .pllUnlock _ _ => true
  | .dieTemperature _ _ _ => true
  | .watchdogExpiry _  => true
  | .dealimLinkFault _ _ _ _ => true
  | .pllRelock _ _ => true
  | .fwVerifyDone _  => true
  | .debugInstruction _ _ => true
  | .busIntegration _ _ => true
  | .homeInputInactive _ _ => true

end Sys2Proof
end

