-- ==== Sys2Proof/Safety.lean ====
section
/-! DEFINITION. What the statements about the device say in common: the bounds that every state keeps, a command packet that is interpreted as it comes, and what
a reply looks like. -/

namespace Sys2Proof.Machine

/-! ## Bounds -/

/-- The bounds of the stores that the manual bounds: the firmware banks are in their canonical form, the host buffer holds at most 256 entries and counts
what it lost up to 65,535 (R54), a receive queue holds at most 16 commands (R439), there are at most 128 write credits (R473). -/
def State.Bounded (s : State) : Prop :=
  (∀ b : Fin 2, s.power.banks[b].wf) ∧ s.buffer.length ≤ 256 ∧ s.lostEvents ≤ 65535 ∧ (∀ n : PortId, (s.port n).rxq.length ≤ 16)
    ∧ s.recorder.credit ≤ 128

/-! ## Commands from the host -/

/-- A command packet that passes the checks before its opcode (R443) on a device whose interpreter takes commands: its port has agreed on version 1, which
the header carries; its tag is free; the address is valid; the length suits the opcode; no reserved bit is set; PFAIL has not been accepted; no Eclair that it
concerns restarts. -/
def State.Takes (s : State) (op : Nat) (c : CmdHeader) (ps : List Byte) : Prop :=
  s.interprets ∧ (s.port c.port).version = 1 ∧ c.version = 1 ∧ (s.port c.port).tags.getLsbD c.tag.toNat = false ∧ unitValid c.unit.toNat
    ∧ lengthOk op ps ∧ c.flags = 0 ∧ reservedIn op ps = none ∧ s.power.pfail = false ∧ s.holdsBack op c.unit.toNat = none

/-- The handle of a command that arrives now. -/
def State.handle (s : State) (op : Nat) (c : CmdHeader) : Handle := ⟨c.port, (s.port c.port).session, c.tag, op, c.unit⟩

/-- The state in which the opcode of a command acts: `dt` counts have passed and its tag is in use. -/
def State.accepted (s : State) (dt : Nat) (c : CmdHeader) : State := (s.advance dt).takeTag c.port c.tag

/-- A parameter that only holds its value: the host or a commit may write it, and neither the old nor the new value acts at the write (R10). -/
def holdsOnly (pid : Nat) (d : PDesc) : Prop :=
  (d.access = .srw ∨ d.access = .rw ∨ d.access = .rwAll ∨ d.access = .rwMaint ∨ d.access = .rwConf ∨ d.access = .rwFromConf)
    ∧ pfEnable pid = none ∧ pid / 0x40 ≠ 0xD3 ∧ pid / 0x40 ≠ 0xD4 ∧ pid ≠ 0x1002 ∧ pid ≠ 0x6000 ∧ pid ≠ 0xD001 ∧ pid ≠ 0xD002

/-- From `s` to `t` the port of the command has got exactly one more reply, the command's, with this status and these parameters, and its tag is in use until the
reply is delivered (R435–R440). -/
def Answered (s t : State) (op : Nat) (c : CmdHeader) (status : Nat) (params : List Byte) : Prop :=
  ∃ owed : Bool, (t.port c.port).replies = (s.port c.port).replies
      ++ [⟨(t.port c.port).version, c.tag, op, c.unit, status, params, owed, decide (status ≠ stAccepted), false⟩]
    ∧ (t.port c.port).tags = (s.port c.port).tags ||| (1#128 <<< c.tag.toNat)

end Sys2Proof.Machine
end

