-- ==== Sys2Proof/Certificates/Slice0/Obligations.lean ====
section
/-! DEFINITION. The statements about the device. Each docstring names the rule of the manual, or the log entry, that the statement formalises. -/

open Sys2Proof Sys2Proof.Machine

/-! ## The block as a whole -/

/-- A step runs the command at the front of the queue on the state with the queue's rest, and an empty queue leaves the device as it is (log 4). -/
def Obligations.StepRunsFront : Prop :=
  (∀ (c : Instr) (s : State), step { s with pending := c :: s.pending } = exec c s)
    ∧ (∀ (c : Instr) (l : List Instr) (s : State), s.pending = c :: l → step s = exec c { s with pending := l })
    ∧ ∀ s : State, s.pending = [] → step s = .next s

/-- Every command of the table answers a next state in every state, with the queue of waiting commands as it was: no meaning stops. -/
def Obligations.EveryCommandAnswers : Prop :=
  ∀ (i : Instr) (s : State), ∃ t, exec i s = .next t ∧ t.pending = s.pending

/-- A command leaves the queue of waiting commands alone. -/
def Obligations.QueueKept : Prop :=
  ∀ (i : Instr) (s t : State), exec i s = .next t → t.pending = s.pending

/-- Every step keeps the bounds of the bounded stores: the firmware banks in canonical form, the host buffer at 256 entries (R54), the receive queues at 16
commands (R439), the write credits at 128 (R473). -/
def Obligations.StepKeepsBounds : Prop :=
  ∀ s t : State, s.Bounded → step s = .next t → t.Bounded

/-- The device after reset (R4, R32, R49, R200, R213, R235, R376, R447, R452): it is within the bounds; in INIT at time-stamp 0 and epoch 0, every portal reported ABSENT, no channel conducting, every
leaf drive and every CAN controller OFF, every step at count 0 with its position uncertain, every interface armed, the driven DCL false, the claim not held, no version agreed, the
watchdog stopped, no parameter written, nothing waiting. -/
def Obligations.ResetState : Prop :=
  State.reset.Bounded ∧ State.reset.mode = .init ∧ State.reset.ts = 0 ∧ State.reset.epoch = 0 ∧ State.reset.pending = [] ∧ State.reset.params = [] ∧ State.reset.waiting = []
    ∧ State.reset.buffer = [] ∧ State.reset.wdg.state = 0 ∧ State.reset.claim.held = false ∧ State.reset.safety.driven = false ∧ State.reset.evtPending = 0
    ∧ (∀ n, (State.reset.port n).version = 0 ∧ (State.reset.port n).replies = []) ∧ (∀ n, (State.reset.can n).state = .off)
    ∧ ∀ p, State.reset.shownState p = .absent ∧ (∀ l, (State.reset.leaf p l).drive = .off) ∧ (∀ c, (State.reset.chan p c).on = false)
      ∧ (State.reset.stepOf p).phi = 0 ∧ (State.reset.stepOf p).uncertain = true ∧ ∀ f, (State.reset.fb p f).armed = true

/-! ## Session commands and the host watchdog -/

/-- HELLO (R447), whatever VERSION its header carries: MIN_VER above MAX_VER is rejected with BAD_PARAM. Else the agreed version is the smaller of MAX_VER and 1 when
that is at least the larger of MIN_VER and 1: the port keeps it, and the reply is DONE; otherwise the port has none, and the reply is VERSION. The header of the
reply carries 1 in both cases.

Completed here: hello. -/
def Obligations.HelloAgrees : Prop :=
  ∀ (dt : Nat) (c : CmdHeader) (lo hi opt : Byte) (s : State), s.interprets → s.power.pfail = false →
    (s.port c.port).tags.getLsbD c.tag.toNat = false → c.unit = 0 → c.flags = 0 → opt.toNat ≤ 1 →
    (hi.toNat < lo.toNat → exec (.hello dt c [lo, hi, opt]) s = .next ((s.accepted dt c).refuse (s.handle 0 c) stBadParam))
    ∧ (lo.toNat ≤ hi.toNat → ∀ agreed : Nat, agreed = (if max lo.toNat 1 ≤ min hi.toNat 1 then min hi.toNat 1 else 0) →
        ∃ t owed, exec (.hello dt c [lo, hi, opt]) s = .next t ∧ (t.port c.port).version = agreed
          ∧ (t.port c.port).replies.getLast? = some ⟨1, c.tag, 0, 0, if agreed = 1 then stDone else stVersion,
              [1, 1, BitVec.ofNat 8 agreed, BitVec.ofNat 8 c.port.val, 0, 4, 128], owed, true, false⟩)

/-- A HELLO without RESET that agrees on version 1 changes only the agreed version, the port's replies and its tag. One with RESET, whatever it agrees on, leaves the
port with its own reply and its own tag alone, and with a new session, so that what earlier commands still reply is discarded; the other port and the host
watchdog are as they were (R448). -/
def Obligations.HelloReset : Prop :=
  ∀ (dt : Nat) (c : CmdHeader) (lo hi : Byte) (s : State), s.interprets → s.power.pfail = false →
    (s.port c.port).tags.getLsbD c.tag.toNat = false → c.unit = 0 → c.flags = 0 → lo.toNat ≤ hi.toNat → (∀ b, s.box 3 12 = some b → b.reply = none) →
    (lo.toNat ≤ 1 → 1 ≤ hi.toNat → exec (.hello dt c [lo, hi, 0]) s
        = .next (((s.accepted dt c).modPort c.port fun x => { x with version := 1 }).reply (s.handle 0 c) stDone [1, 1, 1, BitVec.ofNat 8 c.port.val, 0, 4, 128]))
    ∧ ∃ t r, exec (.hello dt c [lo, hi, 1]) s = .next t ∧ (t.port c.port).replies = [r] ∧ r.tag = c.tag ∧ r.op = 0
        ∧ (t.port c.port).tags = 1#128 <<< c.tag.toNat ∧ (t.port c.port).session = (s.port c.port).session + 1
        ∧ (t.port c.port).rxq = (s.port c.port).rxq ∧ (∀ n, n ≠ c.port → t.port n = s.port n) ∧ t.wdg = s.wdg

/-- DEVICE_INFO, QUEUE_STATUS and ECHO answer DONE with what R446 lists and change nothing but the port's replies and tag.

EVENT_READ returns the oldest COUNT entries, at most 32, with the count of lost entries; they leave the buffer and the count returns to 0 (R54, R446).

Completed here: deviceInfo, eventRead, queueStatus, echo. -/
def Obligations.SessionReads : Prop :=
  (
  ∀ (dt : Nat) (c : CmdHeader) (ps : List Byte) (s : State), c.unit = 0 →
    (s.Takes 0x01 c ps → exec (.deviceInfo dt c ps) s = .next ((s.accepted dt c).reply (s.handle 0x01 c) stDone
      (le 4 Config.unitSerial.toNat ++ le 1 s.mode.code ++ le 4 s.epoch.toNat ++ le 1 ((s.power.record.map (·.active)).getD s.power.running).val
        ++ le 4 (s.power.version s.power.running) ++ leI 1 (s.view.raw 0x9000 0) ++ le 1 c.port.val)))
    ∧ (s.Takes 0x06 c ps → ∃ t x, x = (s.accepted dt c).port c.port ∧ exec (.queueStatus dt c ps) s = .next t ∧
        t = (s.accepted dt c).reply (s.handle 0x06 c) stDone (le 1 x.rxq.length ++ le 1 16 ++ le 1 x.tagCount ++ le 16 x.tags.toNat
          ++ le 2 (min 65535 x.used) ++ le 1 x.fullCount))
    ∧ (s.Takes 0x07 c ps → exec (.echo dt c ps) s = .next ((s.accepted dt c).reply (s.handle 0x07 c) stDone ps))
  )
  ∧ (
  ∀ (dt : Nat) (c : CmdHeader) (n : Byte) (s : State), s.Takes 0x05 c [n] → c.unit = 0 → 1 ≤ n.toNat → n.toNat ≤ 32 →
    exec (.eventRead dt c [n]) s = .next ({ s.accepted dt c with buffer := s.buffer.drop n.toNat, lostEvents := 0 }.reply (s.handle 0x05 c) stDone
      (le 2 s.lostEvents ++ le 1 (s.buffer.take n.toNat).length ++ (s.buffer.take n.toNat).flatMap Event.bytes))
  )

/-- WDG_START, checked in the order of R452: a key of 0x0000 or 0xFFFF is BAD_PARAM, a window outside 10–1,000 ms OUT_OF_RANGE, a watchdog that runs or has expired
under the other port MODE_FORBIDS; else the watchdog runs on this port with the window and the key, its period starts now, an expiry in force ends, and the
reply is DONE.

Completed here: wdgStart. -/
def Obligations.WatchdogStarts : Prop :=
  ∀ (dt : Nat) (c : CmdHeader) (ps : List Byte) (s : State) (w : Nat) (k : BitVec 16) (h : Handle), s.Takes 0x02 c ps → c.unit = 0 → h = s.handle 0x02 c →
    w = unLe (ps.take 2) → k = BitVec.ofNat 16 (unLe (ps.drop 2)) →
    (k = 0 ∨ k = 0xFFFF → exec (.wdgStart dt c ps) s = .next ((s.accepted dt c).refuse h stBadParam))
    ∧ (k ≠ 0 → k ≠ 0xFFFF → (w < 10 ∨ 1000 < w → exec (.wdgStart dt c ps) s = .next ((s.accepted dt c).refuse h stOutOfRange))
      ∧ (10 ≤ w → w ≤ 1000 →
        (s.wdg.state ≠ 0 → s.wdg.owner ≠ c.port → exec (.wdgStart dt c ps) s = .next ((s.accepted dt c).refuse h stModeForbids))
        ∧ (s.wdg.state = 0 ∨ s.wdg.owner = c.port → ∃ t : State, exec (.wdgStart dt c ps) s = .next (t.wdgSync.reply h stDone [])
            ∧ t.wdg = ⟨1, w, k, c.port, 0, s.ts + BitVec.ofNat 56 dt, t.wdg.stopSince⟩ ∧ t.wdgExpired = false)))

/-- A kick (R453). The n-th after a start carries K XOR 0xFFFF when n is odd and K when n is even; with that key, from the port that started the watchdog, not
earlier than W/4 and not later than W, it replies DONE and starts the next period. With another key, or earlier, it expires the watchdog and replies
MODE_FORBIDS with 0xD080. While the watchdog is stopped or expired, or on the other port, it replies MODE_FORBIDS and changes nothing. When W has passed
without a valid kick the watchdog expires.

Completed here: wdgKick, watchdogExpiry. -/
def Obligations.WatchdogKicks : Prop :=
  (∀ (dt : Nat) (c : CmdHeader) (ps : List Byte) (s : State) (n age : Nat) (key : BitVec 16) (h : Handle), s.Takes 0x03 c ps → c.unit = 0 → h = s.handle 0x03 c →
    n = s.wdg.kicks + 1 → key = (if n % 2 = 1 then s.wdg.key ^^^ 0xFFFF else s.wdg.key) → age = (s.ts + BitVec.ofNat 56 dt - s.wdg.last).toNat →
    (s.wdg.state ≠ 1 ∨ s.wdg.owner ≠ c.port → exec (.wdgKick dt c ps) s = .next ((s.accepted dt c).refuse h stModeForbids))
    ∧ (s.wdg.state = 1 → s.wdg.owner = c.port → age ≤ ms s.wdg.window →
      (BitVec.ofNat 16 (unLe ps) = key → ms s.wdg.window ≤ 4 * age → exec (.wdgKick dt c ps) s
        = .next ({ s.accepted dt c with wdg := { s.wdg with kicks := n, last := s.ts + BitVec.ofNat 56 dt } }.reply h stDone (le 2 (age / 100000))))
      ∧ (BitVec.ofNat 16 (unLe ps) ≠ key ∨ 4 * age < ms s.wdg.window → ∃ why, exec (.wdgKick dt c ps) s
        = .next (((s.accepted dt c).wdgExpire why).reply h stModeForbids (detail 0xD080 0)))))
  ∧ ∀ (dt : Nat) (s : State), s.wdg.state = 1 → ms s.wdg.window ≤ (s.ts + BitVec.ofNat 56 dt - s.wdg.last).toNat →
    exec (.watchdogExpiry dt) s = .next ((s.advance dt).wdgExpire 0)

/-- WDG_STOP, checked in the order of R455, stops the watchdog and ends an expiry in force; a wrong key does not expire it. An expiry raises event 40 with the port
and the window, and what it asks for follows (R456).

Completed here: wdgStop. -/
def Obligations.WatchdogStops : Prop :=
  (∀ (dt : Nat) (c : CmdHeader) (ps : List Byte) (s : State) (h : Handle), s.Takes 0x04 c ps → c.unit = 0 → h = s.handle 0x04 c →
    (s.wdg.state = 0 → exec (.wdgStop dt c ps) s = .next ((s.accepted dt c).reply h stDone []))
    ∧ (s.wdg.state ≠ 0 → s.wdg.owner ≠ c.port → exec (.wdgStop dt c ps) s = .next ((s.accepted dt c).refuse h stModeForbids))
    ∧ (s.wdg.state ≠ 0 → s.wdg.owner = c.port →
      (s.par 0xD000 0 = 1 → s.mode ≠ .configure → s.mode ≠ .maintain → exec (.wdgStop dt c ps) s = .next ((s.accepted dt c).refuse h stModeForbids))
      ∧ (s.par 0xD000 0 ≠ 1 ∨ s.mode = .configure ∨ s.mode = .maintain →
        (BitVec.ofNat 16 (unLe ps) ≠ s.wdg.nextKey → exec (.wdgStop dt c ps) s = .next ((s.accepted dt c).refuse h stBadParam))
        ∧ (BitVec.ofNat 16 (unLe ps) = s.wdg.nextKey → ∃ t : State, exec (.wdgStop dt c ps) s = .next (t.wdgSync.reply h stDone [])
            ∧ t.wdg = { s.wdg with state := 0 } ∧ t.wdgExpired = false))))
  ∧ ∀ (s : State) (why : Nat), s.wdgExpire why
      = (({ s with wdg := { s.wdg with state := 2 } } : State).raise 40 0x0028 0 (why + 256 * s.wdg.owner.val + 65536 * s.wdg.window)).wdgSync

/-! ## Parameters -/

/-- PARAM_READ of a PID that exists at the unit answers DONE with the width and the value of the parameter in that width; a PID that does not exist answers
BAD_PARAM, one that does not exist at the unit BAD_UNIT (R30, R449). PARAM_READ_RANGE answers with the PIDs of its range that are valid at the unit, in order.

What a read returns: a WO parameter reads as 0; a parameter that the host may write reads as the value written to it, else as its default; a sealed one as
the value in force, not as the one that waits for its commit (R10, R14, R449).

A write puts the value under its PID and unit, and leaves the value of every other PID and unit as it was.

Completed here: paramRead, paramReadRange. -/
def Obligations.ParamReads : Prop :=
  (
  (∀ (dt : Nat) (c : CmdHeader) (ps : List Byte) (s : State) (pid : Nat), s.Takes 0x10 c ps → isGroup c.unit.toNat = false → pid = unLe (ps.take 2) →
    (∀ d, ParamTable.find pid = some d → d.atUnit pid c.unit.toNat = true →
      exec (.paramRead dt c ps) s = .next ((s.accepted dt c).reply (s.handle 0x10 c) stDone
        (le 1 d.width ++ leI d.width ((s.accepted dt c).readValue d pid c.unit.toNat))))
    ∧ (∀ d, ParamTable.find pid = some d → d.atUnit pid c.unit.toNat = false →
      exec (.paramRead dt c ps) s = .next ((s.accepted dt c).reply (s.handle 0x10 c) stBadUnit (detail pid c.unit.toNat)))
    ∧ (ParamTable.find pid = none →
      exec (.paramRead dt c ps) s = .next ((s.accepted dt c).reply (s.handle 0x10 c) stBadParam (detail pid c.unit.toNat))))
  ∧ ∀ (dt : Nat) (c : CmdHeader) (ps : List Byte) (s : State) (first n : Nat) (got : List (Nat × PDesc)), s.Takes 0x12 c ps →
    isGroup c.unit.toNat = false → first = unLe (ps.take 2) → n = (ps.getD 2 0).toNat → 1 ≤ n → n ≤ 64 →
    got = (List.range' first n).filterMap (fun pid => (ParamTable.find pid).bind fun d => if d.atUnit pid c.unit.toNat then some (pid, d) else none) →
    got ≠ [] →
    exec (.paramReadRange dt c ps) s = .next ((s.accepted dt c).reply (s.handle 0x12 c) stDone
      (le 1 got.length ++ got.flatMap fun x => le 2 x.1 ++ (le 1 x.2.width ++ leI x.2.width ((s.accepted dt c).readValue x.2 x.1 c.unit.toNat))))
  )
  ∧ (
  ∀ (s : State) (d : PDesc) (pid unit : Nat), ParamTable.find pid = some d →
    (d.access = .wo → s.readValue d pid unit = 0)
    ∧ (d.access = .srw → s.readValue d pid unit = (stored s.sealer.loaded pid unit).getD d.dflt)
    ∧ (d.access = .rwMaint ∨ d.access = .rwConf → pfEnable pid = none → leafRate pid = false →
        s.readValue d pid unit = (stored s.params pid unit).getD d.dflt)
  )
  ∧ (
  ∀ (l : List ((Nat × Nat) × Int)) (pid unit p u : Nat) (v : Int), l.Pairwise (fun a b => keyLt a.1 b.1) →
    stored (store l (pid, unit) v) pid unit = some v ∧ ((p, u) ≠ (pid, unit) → stored (store l (pid, unit) v) p u = stored l p u)
      ∧ (store l (pid, unit) v).Pairwise (fun a b => keyLt a.1 b.1)
  )

/-- PARAM_WRITE of a record that no check of R450 refuses takes effect and answers DONE. A parameter that only holds its value changes nothing but that value: a
host-written one at once, a sealed one among the writes that wait for SEAL_COMMIT (R10); in MAINTAIN the check of R62 runs after it.

PARAM_WRITE_SET takes effect whole or not at all (R450): when no record is refused all of them are written at once; a refused record leaves everything but the
port's replies and tag as it was.

Completed here: paramWrite, paramWriteSet. -/
def Obligations.ParamWrites : Prop :=
  (
  ∀ (dt : Nat) (c : CmdHeader) (r : ParamRec) (d : PDesc) (s : State) (q : ParamPut), s.Takes 0x11 c (le 2 r.pid ++ le 1 r.size ++ r.value) →
    r.pid < 65536 → r.size = r.value.length → r.size < 256 → s.groupOf c.unit.toNat = none → ParamTable.find r.pid = some d →
    d.atUnit r.pid c.unit.toNat = true → q = ⟨d, r.pid, c.unit.toNat, r.size, r.num d⟩ →
    (s.accepted dt c).putRefused ((s.accepted dt c).put q) c.unit.toNat q = none →
    exec (.paramWrite dt c (le 2 r.pid ++ le 1 r.size ++ r.value)) s = .next (((s.accepted dt c).writeAll [q]).reply (s.handle 0x11 c) stDone [])
    ∧ ∀ t : State, holdsOnly r.pid d →
      t = (if d.access = Access.srw then
            { s.accepted dt c with sealer := { s.sealer with writes := store s.sealer.writes (r.pid, c.unit.toNat) (r.num d) } }
          else { s.accepted dt c with params := store s.params (r.pid, c.unit.toNat) (r.num d) }) →
      exec (.paramWrite dt c (le 2 r.pid ++ le 1 r.size ++ r.value)) s
        = .next ((if s.mode = .maintain then t.runChecks else t).reply (s.handle 0x11 c) stDone [])
  )
  ∧ (
  ∀ (dt : Nat) (c : CmdHeader) (ps : List Byte) (s : State) (n : Nat) (rs : List ParamRec), s.Takes 0x13 c ps → n = (ps.getD 0 0).toNat → 1 ≤ n → n ≤ 16 →
    takeRecs n (ps.drop 1) = some rs → s.groupOf c.unit.toNat = none →
    (twice rs = none →
      (∀ qs, putsOf c.unit.toNat c.unit.toNat rs = .ok qs →
        (∀ q ∈ qs, (s.accepted dt c).putRefused (foldState qs (fun q t => t.put q) (s.accepted dt c)) c.unit.toNat q = none) →
        exec (.paramWriteSet dt c ps) s = .next (((s.accepted dt c).writeAll qs).reply (s.handle 0x13 c) stDone [BitVec.ofNat 8 n]))
      ∧ ∀ qs q, putsOf c.unit.toNat c.unit.toNat rs = .ok qs → q ∈ qs →
        (s.accepted dt c).putRefused (foldState qs (fun q t => t.put q) (s.accepted dt c)) c.unit.toNat q ≠ none →
        ∃ st ps', st ≠ stDone ∧ exec (.paramWriteSet dt c ps) s = .next ((s.accepted dt c).reply (s.handle 0x13 c) st ps'))
    ∧ ∀ r, twice rs = some r → exec (.paramWriteSet dt c ps) s
        = .next ((s.accepted dt c).reply (s.handle 0x13 c) stBadParam (failParams c.unit.toNat r.pid c.unit.toNat))
  )

/-- The writes of PARAM_WRITE that act: 1 clears a W1C bit (R57, R165, R193, R287, R402), FRIC_RESET forgets the friction map (R175), FB_ARM arms the index (R235),
FB_COUNT_CLEAR clears the error counters (R251), FB_TYPE starts the interface anew (R247). Each answers DONE, and in MAINTAIN the check of R62 follows.

A clear of W1C bits clears the bits written 1 but those that hardware has set at this instant, and no other bit (R57).

Completed here: evtPendingClear, satSeenClear, obstStatusClear, shutdownSeenClear, canFlagsClear, fricReset, fbArm, fbCountClear, fbTypeWrite. -/
def Obligations.ClearsAct : Prop :=
  (
  ∀ (dt : Nat) (c : CmdHeader) (s : State) (fin : State → State),
    fin = (fun t => (if s.mode = .maintain then t.runChecks else t).reply (s.handle 0x11 c) stDone []) →
    (∀ hi (v : BitVec 32), s.Takes 0x11 c (writeParams (if hi then 0xE013 else 0xE012) 4 v.toNat) → c.unit = 0 →
      exec (.evtPendingClear dt c hi v) s = .next (fin ((s.accepted dt c).clearPending hi v.toNat)))
    ∧ (∀ (d : PdId) n (v : BitVec 16), s.Takes 0x11 c (writeParams (0x3000 + n.val) 2 v.toNat) → c.unit.toNat = uEngine d →
      exec (.satSeenClear dt c n v) s = .next (fin ((s.accepted dt c).clearSat d n v.toNat)))
    ∧ (∀ p l (v : BitVec 16), s.Takes 0x11 c (writeParams 0x4080 2 v.toNat) → c.unit.toNat = uLeaf p l →
      exec (.obstStatusClear dt c v) s = .next (fin ((s.accepted dt c).clearObst p l v.toNat)))
    ∧ (∀ p ch (v : BitVec 16), s.Takes 0x11 c (writeParams 0x7080 2 v.toNat) → c.unit.toNat = uChan p ch →
      exec (.shutdownSeenClear dt c v) s = .next (fin ((s.accepted dt c).clearShutdown p ch v.toNat)))
    ∧ (∀ n (v : Byte), s.Takes 0x11 c (writeParams (canPid n 0x8B) 1 v.toNat) → c.unit = 0 →
      exec (.canFlagsClear dt c n v) s = .next (fin ((s.accepted dt c).clearCanFlags n v.toNat)))
    ∧ (∀ p l, s.Takes 0x11 c (writeParams 0x4020 1 1) → c.unit.toNat = uLeaf p l → s.mode = .maintain →
      exec (.fricReset dt c 1) s = .next (fin ((s.accepted dt c).fricReset p l)))
    ∧ (∀ p f, s.Takes 0x11 c (writeParams 0x6015 1 1) → c.unit.toNat = uFb p f → (s.mode = .configure ∨ s.mode = .maintain) → s.par 0x6010 (uFb p f) = 2 →
      exec (.fbArm dt c 1) s = .next (fin ((s.accepted dt c).modFb p f fun x => { x with armed := true, armedAt := s.ts + BitVec.ofNat 56 dt })))
    ∧ (∀ p f, s.Takes 0x11 c (writeParams 0x6016 1 1) → c.unit.toNat = uFb p f →
      exec (.fbCountClear dt c 1) s = .next (fin ((s.accepted dt c).fbCleared p f)))
    ∧ ∀ p f d (v : Byte) (q : ParamPut), s.Takes 0x11 c (writeParams 0x6000 1 v.toNat) → c.unit.toNat = uFb p f → ParamTable.find 0x6000 = some d →
      q = ⟨d, 0x6000, uFb p f, 1, v.toNat⟩ → (s.accepted dt c).putRefused ((s.accepted dt c).put q) (uFb p f) q = none →
      exec (.fbTypeWrite dt c v) s = .next (fin (({ s.accepted dt c with sealer := { s.sealer with writes := store s.sealer.writes (0x6000, uFb p f) v.toNat } } : State).fbRetype p f))
  )
  ∧ (
  (∀ (s : State) (pid unit n v b : Nat), (s.w1cMask pid unit n v).testBit b = (decide (b < n) && v.testBit b && !s.isSetNow pid unit b))
  ∧ ∀ (s : State) (hi : Bool) (v b : Nat), b < 64 → (s.clearPending hi v).evtPending.getLsbD b
      = (s.evtPending.getLsbD b && !(decide (b / 32 = bit hi) && v.testBit (b % 32) && !s.isSetNow (if hi then 0xE013 else 0xE012) 0 (b % 32)))
  )

/-! ## Modes, epochs and the dies -/

/-- MODE_REQUEST (R33): INIT, STANDBY and DEGRADED are rejected with BAD_PARAM, a request for the current mode replies DONE and changes nothing else, SAFE is
entered, another request that the transition table allows replies ACCEPTED and starts a commit whose T lies 500 µs ahead (R40), and one that it forbids, or that
comes during a commit (R43), is refused.

Completed here: modeRequest. -/
def Obligations.ModeRequests : Prop :=
  ∀ (dt : Nat) (c : CmdHeader) (b : Byte) (s : State) (h : Handle), s.Takes 0x20 c [b] → c.unit = 0 → h = s.handle 0x20 c →
    ((Mode.ofCode b.toNat).all (fun m => m = .init ∨ m = .standby ∨ m = .degraded) →
      exec (.modeRequest dt c [b]) s = .next ((s.accepted dt c).refuse h stBadParam))
    ∧ ∀ m, Mode.ofCode b.toNat = some m → m ≠ .init → m ≠ .standby → m ≠ .degraded →
      (m = s.mode → exec (.modeRequest dt c [b]) s = .next ((s.accepted dt c).reply h stDone []))
      ∧ (m ≠ s.mode → m = .safe → exec (.modeRequest dt c [b]) s = .next (((s.accepted dt c).enterSafe 8).reply h stDone []))
      ∧ (m ≠ s.mode → m ≠ .safe →
        (s.commit.isSome ∨ s.retry.isSome ∨ (s.pair 0).scope = .split → exec (.modeRequest dt c [b]) s = .next ((s.accepted dt c).refuse h stModeForbids))
        ∧ (s.commit = none → s.retry = none → (s.pair 0).scope ≠ .split →
          (∀ st ps, (s.accepted dt c).modeRefused m = some (st, ps) → exec (.modeRequest dt c [b]) s = .next ((s.accepted dt c).reply h st ps))
          ∧ ((s.accepted dt c).modeRefused m = none → exec (.modeRequest dt c [b]) s = .next { (s.accepted dt c).reply h stAccepted [] with
              commit := some ⟨m, s.epoch + 1, s.ts + BitVec.ofNat 56 dt + BitVec.ofNat 56 50000, 0x7F, 1, none, false, some h, none⟩ })))

/-- The changes of mode that a request can make (R33): CONFIGURE to TEST, SERVICE or MAINTAIN; SERVICE and DEGRADED to MAINTAIN or CONFIGURE; STANDBY and
MAINTAIN to CONFIGURE. MAINTAIN takes SEAL[15] = 1, and door service is left only at rest (R34). -/
def Obligations.ModeTransitions : Prop :=
  ∀ (s : State) (m : Mode), s.modeRefused m = none →
    (s.mode = .configure ∧ (m = .test ∨ m = .service ∨ (m = .maintain ∧ s.sealOpen)))
      ∨ ((s.mode = .service ∨ s.mode = .degraded) ∧ s.restGuard ∧ (m = .configure ∨ (m = .maintain ∧ s.sealOpen)))
      ∨ ((s.mode = .standby ∨ s.mode = .maintain) ∧ m = .configure)

/-- A SAFE cause after INIT puts the device into SAFE and sets its bit of MODE_CAUSE; on an entry the earlier bits are cleared, the epoch increments by one, a
commit in progress of the Hub die is void, and SAFE is under way to every participant, which keeps its PREPARE and COMMIT until then (R38, R39, R44). In SAFE the bits
accumulate and nothing else but the time of the cause changes. -/
def Obligations.SafeEntry : Prop :=
  ∀ (s : State) (b : Nat), s.mode ≠ .init →
    (s.mode = .safe → s.enterSafe b = { s with modeCause := s.modeCause ||| (1#16 <<< b), safety := { s.safety with causeAt := some s.ts } })
    ∧ (s.mode ≠ .safe → ∃ t : State, s.enterSafe b = t.hubEnter .safe ∧ t.mode = s.mode ∧ t.modeCause = 1#16 <<< b ∧ t.epoch = s.epoch + 1
        ∧ t.commit = none ∧ t.retry = none
        ∧ (∀ d ∈ participants, (t.die d).prepare = (s.die d).prepare ∧ (t.die d).commit = (s.die d).commit ∧ (t.die d).safeDue = true))
    ∧ (s.enterSafe b).mode = .safe

/-- A participant answers PREPARE and takes COMMIT, ABORT and SAFE (R40, R44): it holds a PREPARE and acknowledges it when it can enter the mode and its cores run; it
takes COMMIT for a PREPARE that it holds; ABORT discards the PREPARE; SAFE puts it into SAFE, with the epoch of the Hub die and without the PREPARE.

At T − 100 µs the Hub die decides (R40, R42): COMMIT when every participant has acknowledged; else ABORT with event 39, and after a first abort the portals of
each participant that failed to acknowledge are fenced.

Completed here: prepareReceived, ackDeadline, commitReceived, abortReceived, safeReceived. -/
def Obligations.CommitsRun : Prop :=
  (
  ∀ (dt : Nat) (d : DieId) (s : State),
    (∀ (can : Bool) (c : Commit), s.commit = some c → d ∈ participants → c.parts.getLsbD d.val → c.decided = none →
      ∃ t, t = (s.advance dt).modDie d (fun x => { x with prepare := some ⟨c.epoch, c.target, c.due⟩ })
        ∧ (can = false → exec (.prepareReceived dt d can) s = .next t)
        ∧ (can = true → (∀ k : Fin 3, k.val = d.val → (s.pair k).scope ≠ .restarting ∧ (s.pair k).scope ≠ .held) →
          exec (.prepareReceived dt d can) s = .next { t with commit := some { c with acks := c.acks ||| BitVec.ofNat 8 (2 ^ d.val) } }))
    ∧ (∀ c, s.commit = some c → c.decided = some true → (s.die d).prepare.isSome →
      exec (.commitReceived dt d) s = .next ((s.advance dt).modDie d fun x => { x with commit := true }))
    ∧ (∀ c, s.commit = some c → c.decided = some false →
      exec (.abortReceived dt d) s = .next ((s.advance dt).modDie d fun x => { x with prepare := none, commit := false }))
    ∧ (d ∈ participants → (s.die d).safeDue → ∃ t, exec (.safeReceived dt d) s = .next t ∧ t = (s.advance dt).dieEnter d .safe ∧ (t.die d).mode = .safe
        ∧ (t.die d).epoch = s.epoch ∧ (t.die d).prepare = none ∧ (t.die d).commit = false ∧ (t.die d).safeDue = false)
  )
  ∧ (
  ∀ (dt : Nat) (s : State) (c : Commit), s.commit = some c → c.decided = none → (s.advance dt).elapsed (c.due - BitVec.ofNat 56 50000) 40000 →
    (c.parts &&& ~~~c.acks = 0 → exec (.ackDeadline dt) s = .next { s.advance dt with commit := some { c with decided := some true } })
    ∧ (c.parts &&& ~~~c.acks ≠ 0 → ∃ t, t = ({ s.advance dt with commit := some { c with decided := some false } } : State).raise 39 0x0027 0
          ((c.parts &&& ~~~c.acks).toNat + 256 * bit c.repeated + 65536 * (c.epoch.toNat % 65536))
        ∧ exec (.ackDeadline dt) s = .next (if c.repeated then t
            else foldState participants (fun d u => if (c.parts &&& ~~~c.acks).getLsbD d.val then u.fenceServed d 0x07 0 else u) t))
  )

/-- At T a decided commit takes effect (R40): the device is in the new epoch, the commit is over, and the mode is the target, or for a request for SERVICE what the
claim and the fenced portals leave (R35, R36). After a first abort the commit waits 1 ms for its repeat in the old epoch; the repeat has a new T and the next
epoch; a repeat that aborts ends with INTERNAL to the requester (R42).

Completed here: epochCommitTime, commitRepeat. -/
def Obligations.CommitTakesEffect : Prop :=
  ∀ (dt : Nat) (s : State) (c : Commit),
    (s.commit = some c → (s.advance dt).elapsed (c.due - BitVec.ofNat 56 50000) 50000 → (c.target ≠ .test ∨ (s.pair 0).scope ≠ .restarting) →
      (c.decided = some true → ∃ t, exec (.epochCommitTime dt) s = .next t ∧ t.epoch = c.epoch
          ∧ (c.target.door = false → t.mode = c.target) ∧ (c.target = .service → t.mode = .service ∨ t.mode = .degraded ∨ t.mode = .standby))
      ∧ (c.decided = some false → c.repeated = false → ∃ t, exec (.epochCommitTime dt) s = .next t ∧ t.mode = s.mode ∧ t.epoch = s.epoch ∧ t.commit = none
          ∧ t.retry = some { c with due := c.due + BitVec.ofNat 56 100000 } ∧ ∀ d ∈ participants, (t.die d).prepare = none)
      ∧ (c.decided = some false → c.repeated = true → c.takeover = none → ∀ h, c.reply = some h → ∃ t : State,
          exec (.epochCommitTime dt) s = .next ((t.refuse h stInternal).claimAct) ∧ t.mode = s.mode ∧ t.epoch = s.epoch ∧ t.commit = none))
    ∧ (s.retry = some c → (s.advance dt).elapsed (c.due - BitVec.ofNat 56 100000) 100000 → ∃ t c', exec (.commitRepeat dt) s = .next t ∧ t.commit = some c'
        ∧ t = { s.advance dt with retry := none, commit := some c' } ∧ c'.target = c.target ∧ c'.epoch = s.epoch + 1 ∧ c'.repeated = true ∧ c'.decided = none
        ∧ c'.acks = 1 ∧ c'.due = s.ts + BitVec.ofNat 56 dt + BitVec.ofNat 56 50000)

/-- Heartbeats (R45–R47): one that reaches a participant in step with the Hub die is noted; a participant with another epoch is marked at the first heartbeat, and a
fence cause is found for its portals, whose channels a power die puts into their fail-safe states where no sequencer runs; at the following one it takes the epoch
and the mode of the Hub die. A participant without a heartbeat for 1 ms declares the Hub die lost: for a portal control die a fence cause is found for its portals, a
power die applies the fail-safe states of its channels.

Time-stamp synchronisation (R50, R51): a correction sets the die's counter to the master count as it measured it, but never backward (log 90), and one within ±50 ns is
only noted; the third beyond it in a row, or 500 µs without one, declares a fault of the die with event 53, a fence cause for the portals of a portal control or power
die, SAFE with cause bit 7 for the Hub die. The loss of the reference clock leads to SAFE with cause bit 7 (R489); a portal control or power die whose PLL unlocks has
a synchronisation fault, and a power die applies its fail-safe states; a relock ends the mark of the PLL.

Completed here: heartbeat, heartbeatLoss, tsCorrection, refclkFault, pllUnlock, pllRelock. -/
def Obligations.HeartbeatsAndTime : Prop :=
  (
  (∀ (dt : Nat) (d : DieId) (s t : State), d ∈ participants → (s.die d).pllLost = false → (s.die d).hubLost = false →
    t = (s.advance dt).modDie d (fun x => { x with lastBeat := s.ts + BitVec.ofNat 56 dt }) →
    ((s.die d).missed = false → (s.die d).epoch = s.epoch → exec (.heartbeat dt (BitVec.ofNat 8 (2 ^ d.val))) s = .next t)
    ∧ ((s.die d).missed = false → (s.die d).epoch ≠ s.epoch → ∀ u, u = (t.modDie d fun x => { x with missed := true }).fenceServed d 0x08 (s.die d).epoch.toNat →
        exec (.heartbeat dt (BitVec.ofNat 8 (2 ^ d.val))) s = .next (if d.val ≤ 2 then u
          else foldState (servedBy d) (fun p w => if w.present p && !(w.pdMode p).runs then w.failSafe p else w) u))
    ∧ ((s.die d).missed = true → exec (.heartbeat dt (BitVec.ofNat 8 (2 ^ d.val))) s = .next (t.dieEnter d s.mode)))
  ∧ ∀ (dt : Nat) (d : DieId) (s t : State), d ∈ participants → (s.die d).hubLost = false → (s.advance dt).elapsed (s.die d).lastBeat 100000 →
    t = (s.advance dt).modDie d (fun x => { x with hubLost := true, backSince := none }) →
    (d.val ≤ 2 → exec (.heartbeatLoss dt d) s = .next (t.fenceServed d 0x0A 0))
    ∧ ∀ k : PwId, d.val = 3 + k.val → exec (.heartbeatLoss dt d) s
        = .next ((foldState (servedBy d) (fun p u => (u.modPortal p fun y => { y with fsHeartbeat := true }).chansSync p) t).fsDieEvent k true 2)
  )
  ∧ (
  (∀ (dt : Nat) (d : DieId) (o : Int) (s : State) (now : Ts) (corr : Die → Die), now = s.ts + BitVec.ofNat 56 dt →
      corr = (fun x => { x with ts := x.caughtUp now o, slew := (now - x.caughtUp now o).toInt, lastCorr := now, offset := o }) → (s.die d).tsFault = false →
      (-50 ≤ o → o ≤ 50 → exec (.tsCorrection dt d (some o)) s
        = .next ((s.advance dt).modDie d fun x => { corr x with tsBad := 0, tsGood := if -20 ≤ o ∧ o ≤ 20 then x.tsGood + 1 else 0 }))
      ∧ ((o < -50 ∨ 50 < o) → (s.die d).tsBad < 2 → exec (.tsCorrection dt d (some o)) s
        = .next ((s.advance dt).modDie d fun x => { corr x with tsBad := x.tsBad + 1, tsGood := 0 }))
      ∧ ((o < -50 ∨ 50 < o) → 2 ≤ (s.die d).tsBad → ∀ t : State,
        t = ((s.advance dt).modDie d fun x => { corr x with tsBad := x.tsBad + 1, tsGood := 0, tsFault := true }).raise 53 0x0035 (uDie d.val) (offs16 o) →
        exec (.tsCorrection dt d (some o)) s = .next (if d = 0 then t.enterSafe 7 else t.fenceServed d 0x09 0)))
  ∧ (∀ (x : Die) (now : Ts) (o : Int), 0 ≤ (x.caughtUp now o - x.ts).toInt)
  ∧ (∀ (dt : Nat) (d : DieId) (s t : State), (s.die d).tsFault = false → (s.advance dt).elapsed (s.die d).lastCorr 50000 →
      t = ((s.advance dt).modDie d fun x => { x with tsFault := true, tsGood := 0 }).raise 53 0x0035 (uDie d.val) (offs16 (s.die d).offset + 65536) →
      exec (.tsCorrection dt d none) s = .next (if d = 0 then t.enterSafe 7 else t.fenceServed d 0x09 0))
  ∧ (∀ (dt : Nat) (s : State), exec (.refclkFault dt) s = .next ((s.advance dt).enterSafe 7))
  ∧ (∀ (dt : Nat) (d : DieId) (s t : State), d.val = 1 ∨ d.val = 2 → s.mode ≠ .init → (s.die d).tsFault = false →
      t = ((s.advance dt).modDie d fun x => { x with pllLost := true, tsFault := true, tsGood := 0 }).raise 53 0x0035 (uDie d.val) (offs16 (s.die d).offset) →
      exec (.pllUnlock dt d) s = .next (t.fenceServed d 0x09 0))
  ∧ (∀ (dt : Nat) (k : PwId) (d : DieId) (s t : State), d.val = 3 + k.val → s.mode ≠ .init → (s.die d).tsFault = false →
      t = (((s.advance dt).modDie d fun x => { x with pllLost := true, tsFault := true, tsGood := 0 }).raise 53 0x0035 (uDie d.val) (offs16 (s.die d).offset)).fenceServed d 0x09 0 →
      exec (.pllUnlock dt d) s
        = .next ((foldState (servedBy d) (fun p u => (u.modPortal p fun y => { y with fsHeartbeat := true }).chansSync p) t).fsDieEvent k true 2))
  ∧ ∀ (dt : Nat) (d : DieId) (s : State), exec (.pllRelock dt d) s = .next ((s.advance dt).modDie d fun x => { x with pllLost := false })
  )

/-- A Dealim link fault raises event 50 on the die at one end of the link (R58); a link that goes down is marked, one that comes up is not, and nothing else happens
but this: with both links to the portal control dies down the device enters SAFE with cause bit 9 (R38), and a link to a power die that goes down is a fence cause for
that die's portals.

Completed here: dealimLinkFault. -/
def Obligations.LinkFaults : Prop :=
  ∀ (dt : Nat) (link : Fin 11) (kind : Fin 3) (far : Bool) (s t : State) (d : DieId), d = (if far then (linkDies link.val).2 else (linkDies link.val).1) →
    t = (s.advance dt).raiseAt d 50 0x0032 (uDie d.val) (link.val + 256 * kind.val) →
    (kind = 1 → exec (.dealimLinkFault dt link kind far) s = .next { t with linksDown := s.linksDown &&& ~~~(1#11 <<< link.val) })
    ∧ (kind = 2 → exec (.dealimLinkFault dt link kind far) s = .next t)
    ∧ (kind = 0 → link.val ≤ 1 → ∃ u, u = { t with linksDown := s.linksDown ||| (1#11 <<< link.val) }
        ∧ exec (.dealimLinkFault dt link kind far) s = .next (if u.linksDown.getLsbD 0 && u.linksDown.getLsbD 1 then u.enterSafe 9 else u))
    ∧ (kind = 0 → 2 ≤ link.val → link.val ≤ 5 → (s.linksDown.getLsbD 0 && s.linksDown.getLsbD 1) = false → exec (.dealimLinkFault dt link kind far) s
        = .next ({ t with linksDown := s.linksDown ||| (1#11 <<< link.val) }.fenceServed (linkDies link.val).2 0x08 (s.die (linkDies link.val).2).epoch.toNat))
    ∧ (kind = 0 → 6 ≤ link.val → (s.linksDown.getLsbD 0 && s.linksDown.getLsbD 1) = false → exec (.dealimLinkFault dt link kind far) s
        = .next { t with linksDown := s.linksDown ||| (1#11 <<< link.val) })

/-! ## Lockstep, memories and the debug port -/

/-- A mismatch, a signature divergence or the core watchdog of a pair that runs in lockstep counts, raises the pair's event (R327, R328) and restarts the pair; on the
Hub die the device enters SAFE with cause bit 3, on an Eclair fence cause 0x05 is found for an attributed portal or for all of its portals. A second one before the
recovery has ended holds the pair stopped (R330).

Completed here: lockstepMismatch, signatureExchange, coreWatchdogExpiry. -/
def Obligations.PairFailures : Prop :=
  ∀ (dt : Nat) (d : Fin 3) (s : State) (kind part : Nat) (who : Option PortalId) (i : Instr), s.mode ≠ .init →
    (s.pair d).splitting = none → (s.pair d).rejoining = false → (s.pair d).rejoinReply = none →
    ((∃ a : Attribution, i = .lockstepMismatch dt d a ∧ kind = 0 ∧ part = (if a.partMain = a.partCheck then a.partMain.val else 15)
          ∧ who = (if a.partMain = a.partCheck ∧ a.inRegion then partPortal d a.partMain.val else none))
      ∨ (∃ n : Fin 5, i = .coreWatchdogExpiry dt d n ∧ kind = 1 ∧ part = n.val ∧ who = partPortal d n.val)
      ∨ (∃ n : Fin 5, i = .signatureExchange dt d false n ∧ kind = 1 ∧ part = n.val ∧ who = partPortal d n.val ∧ (s.pair d).halted = false
          ∧ (s.pair d).scope ≠ .restarting)) →
    ∀ (unit : Nat) (t : State), unit = (if (s.pair d).scope = .restarting ∨ (s.pair d).recovering then uDie d.val else (who.map uPortal).getD (uDie d.val)) →
      t = ((s.advance dt).modPair d fun x => { x with mismatches := inc32 x.mismatches, lastMismatch := some (s.ts + BitVec.ofNat 56 dt) }).pairEvent d kind part unit →
      (s.pair d).scope ≠ .split → (s.pair d).scope ≠ .held →
      (d = 0 → exec i s = .next ((t.modPair d fun x => { x with scope := .restarting }).enterSafe 3))
      ∧ (d ≠ 0 → (s.pair d).scope ≠ .restarting → (s.pair d).recovering = false →
          (∀ p, who = some p → exec i s = .next ((t.modPair d fun x => { x with scope := .restarting }).fence p 0x05 (uPortal p) 0))
          ∧ (who = none → exec i s = .next ((t.modPair d fun x => { x with scope := .restarting }).fenceServed (pairDie d) 0x05 0)))
      ∧ (d ≠ 0 → (s.pair d).scope = .restarting ∨ (s.pair d).recovering → exec i s
          = .next ((((t.modPair d fun x => { x with scope := .held, recovering := false }).pairEvent d 8 15 (uDie d.val)).dropHeld d).fenceServed (pairDie d) 0x05 0))

/-- An agreeing exchange counts towards the recovery, and the 1,000th ends it (R330); a passed comparator self-test counts, a failed one raises the pair's event
and leads to SAFE with cause bit 4 (R325). A restart from a verified image ends with the recovery window of an Eclair and the commands held for it, in order, or with
the Hub pair in the scope of its mode; without one the pair is held stopped, and a fence cause is found for the portals of an Eclair (R331, R496).

LOCKSTEP_SPLIT, LOCKSTEP_REJOIN and LOCKSTEP_STATUS (R332–R335, R340): a split is accepted in MAINTAIN, of an Eclair with every present portal FENCED, of the Hub die
also in STANDBY, and takes effect at the signature point; a rejoin of a split pair releases both copies; the first agreeing exchange answers it.

Completed here: lockstepSplit, lockstepRejoin, lockstepStatus, signatureExchange, comparatorSelfTest, restartComplete, recoveryComplete, splitHandoverDone,
diagnosticFailed. -/
def Obligations.PairRecovers : Prop :=
  (
  ∀ (dt : Nat) (d : Fin 3) (s : State),
    (∀ n, s.mode ≠ .init → (s.pair d).halted = false → (s.pair d).rejoining = false → (s.pair d).recovering = true → (s.pair d).scope = .coreCaches →
      exec (.signatureExchange dt d true n) s = .next ((s.advance dt).modPair d fun x => { x with agreed := x.agreed + 1 }))
    ∧ ((s.pair d).recovering = true → 1000 ≤ (s.pair d).agreed → exec (.recoveryComplete dt d) s
        = .next (((s.advance dt).modPair d fun x => { x with recovering := false, agreed := 0, scope := s.pairScope }).pairEvent d 4 15 (uDie d.val)))
    ∧ (s.mode ≠ .init → (s.pair d).scope ≠ .split →
      exec (.comparatorSelfTest dt d true) s = .next ((s.advance dt).modPair d fun x => { x with tests := inc32 x.tests })
      ∧ exec (.comparatorSelfTest dt d false) s = .next ((((s.advance dt).modPair d fun x =>
          { x with tests := inc32 x.tests, testFails := satInc 65535 x.testFails }).pairEvent d 2 15 (uDie d.val)).enterSafe 4))
    ∧ ((s.pair d).scope = .restarting →
      (d = 0 → exec (.restartComplete dt d true) s = .next (((s.advance dt).modPair d fun x => { x with scope := s.pairScope, halted := false }).pairEvent d 3 15 (uDie d.val)))
      ∧ (d ≠ 0 → exec (.restartComplete dt d true) s = .next (foldState (s.pair d).held (fun c t => t.deliverHeld c)
          (((s.advance dt).modPair d fun x => { x with scope := .coreCaches, recovering := true, agreed := 0, halted := false, held := [] }).pairEvent d 3 15 (uDie d.val))))
      ∧ ∃ t, t = (((s.advance dt).modPair d fun x => { x with scope := .held }).pairEvent d 8 15 (uDie d.val)).dropHeld d
          ∧ exec (.restartComplete dt d false) s = .next (if d = 0 then t else t.fenceServed (pairDie d) 0x05 0))
  )
  ∧ (
  ∀ (dt : Nat) (c : CmdHeader) (d : Fin 3) (s : State), c.unit.toNat = uDie d.val →
    (s.Takes 0x28 c [] → (s.mode = .maintain ∨ (d = 0 ∧ s.mode = .standby)) → (d = 0 ∨ s.allFenced d) → ((s.pair d).scope = .coreOnly ∨ (s.pair d).scope = .coreCaches) →
      (s.pair d).recovering = false → s.commit = none → s.retry = none → (s.pair d).splitting = none → exec (.lockstepSplit dt c []) s
        = .next (((s.accepted dt c).reply (s.handle 0x28 c) stAccepted []).modPair d fun x => { x with splitting := some (s.handle 0x28 c) }))
    ∧ (∀ h, (s.pair d).splitting = some h → exec (.splitHandoverDone dt d true) s
        = .next ((((s.advance dt).modPair d fun x => { x with splitting := none, scope := .split, diag := 1 }).pairEvent d 5 15 (uDie d.val)).reply h stDone []))
    ∧ ((s.pair d).scope = .split → exec (.diagnosticFailed dt d) s
        = .next (((s.advance dt).modPair d fun x => { x with diag := 3 }).pairEvent d 9 15 (uDie d.val)))
    ∧ (s.Takes 0x29 c [] → (s.pair d).scope = .split → (s.pair d).splitting = none → (s.pair d).diag ≠ 3 → exec (.lockstepRejoin dt c []) s
        = .next (((s.accepted dt c).modPair d fun x => { x with scope := s.pairScope, rejoining := true, rejoinReply := some (s.handle 0x29 c), diag := if x.diag = 1 then 2 else x.diag }).pairEvent d 6 15 (uDie d.val)))
    ∧ (∀ n h, s.mode ≠ .init → (s.pair d).halted = false → (s.pair d).rejoining = true → (s.pair d).rejoinReply = some h → (s.pair d).recovering = false →
        ((s.pair d).scope = .coreOnly ∨ (s.pair d).scope = .coreCaches) → (s.pair d).diag ≠ 3 → exec (.signatureExchange dt d true n) s
        = .next (((s.advance dt).modPair d fun x => { x with rejoining := false, rejoinReply := none }).reply h stDone []))
    ∧ (s.Takes 0x2A c [] → ∃ r, r = s.pair d ∧ exec (.lockstepStatus dt c []) s = .next ((s.accepted dt c).reply (s.handle 0x2A c) stDone
        (le 1 r.scope.code ++ le 1 r.diag ++ le 4 r.mismatches ++ le 4 r.tests ++ le 2 r.testFails ++ le 4 r.eccCorr ++ le 4 r.eccUncorr
          ++ le 8 ((r.lastMismatch.getD 0).toNat))))
  )

/-- ECC errors (R338, R339): a corrected error counts, and of a die without a lockstep pair raises event 35 with the number of errors since the last one when 100 ms have
passed; an uncorrectable one on the Hub die raises event 36 and leads to SAFE with cause bit 6, one in a core memory of an Eclair raises it and is fence cause 0x12 of the
portal of its partition, and one in a firmware bank marks the block. A debug instruction halts and resumes the main core only in MAINTAIN with SEAL[15] = 1, on an
Eclair with its portals FENCED; otherwise, and with any other instruction, it changes nothing (R336, R337).

Completed here: eccError, debugInstruction. -/
def Obligations.EccAndDebug : Prop :=
  (∀ (dt : Nat) (d : DieId) (mem : Fin 3) (region : Fin 10) (index : Nat) (s : State), 3 ≤ d.val →
    (∀ n, n = (s.die d).eccPend + 1 → ((s.die d).eccLast = none ∨ ∃ b, (s.die d).eccLast = some b ∧ (s.advance dt).elapsed b 10000000) →
      exec (.eccError dt d mem region false index) s = .next (((s.advance dt).modDie d fun x =>
        { x with eccPend := 0, eccLast := some (s.ts + BitVec.ofNat 56 dt) }).raiseAt d 35 0x0023 (uDie d.val) (mem.val + 256 * min 16777215 n)))
    ∧ (∀ b, (s.die d).eccLast = some b → (s.advance dt).elapsed b 10000000 = false →
      exec (.eccError dt d mem region false index) s = .next ((s.advance dt).modDie d fun x => { x with eccPend := x.eccPend + 1 })))
  ∧ (∀ (dt : Nat) (d : Fin 3) (mem : Fin 3) (region : Fin 10) (index : Nat) (s : State), ∃ t, exec (.eccError dt (pairDie d) mem region false index) s = .next t
      ∧ (t.pair d).eccCorr = inc32 (s.pair d).eccCorr ∧ (t.pair d).eccUncorr = (s.pair d).eccUncorr ∧ t.mode = s.mode)
  ∧ (∀ (dt : Nat) (mem : Fin 3) (region : Fin 10) (index : Nat) (s : State), exec (.eccError dt 0 mem region true index) s
      = .next ((((s.advance dt).raiseAt 0 36 0x0024 0x4000 (mem.val + 16 * region.val + 256 * (index % 2 ^ 24))).modPair 0
          fun x => { x with eccUncorr := inc32 x.eccUncorr }).enterSafe 6))
  ∧ (∀ (dt : Nat) (d : Fin 3) (mem : Fin 3) (region : Fin 10) (index : Nat) (p : PortalId) (s : State), d ≠ 0 → mem.val < 2 → partPortal d region.val = some p →
      exec (.eccError dt (pairDie d) mem region true index) s = .next ((((s.advance dt).raiseAt (pairDie d) 36 0x0024 (uPortal p)
          (mem.val + 16 * region.val + 256 * (index % 2 ^ 24))).modPair d fun x => { x with eccUncorr := inc32 x.eccUncorr }).fence p 0x12 (uPortal p) 0))
  ∧ (∀ (dt : Nat) (mem : Fin 3) (index : Nat) (b : Fin 2) (s : State), b.val = (if index < 65536 then 0 else 1) → ∃ t, exec (.eccError dt 7 mem 5 true index) s = .next t
      ∧ t.power.banks[b].bad = (index % 65536) :: s.power.banks[b].bad ∧ t.power.banks[b].cells = s.power.banks[b].cells)
  ∧ ∀ (dt : Nat) (d : Fin 3) (s : State),
      ((s.mode = .maintain ∧ s.sealOpen ∧ (d = 0 ∨ s.allFenced d)) →
        exec (.debugInstruction dt (.halt d)) s = .next ((s.advance dt).modPair d fun x => { x with halted := true })
        ∧ exec (.debugInstruction dt (.resume d)) s = .next ((s.advance dt).modPair d fun x => { x with halted := false }))
      ∧ ((s.mode ≠ .maintain ∨ s.sealOpen = false ∨ (d ≠ 0 ∧ s.allFenced d = false)) →
        exec (.debugInstruction dt (.halt d)) s = .next (s.advance dt) ∧ exec (.debugInstruction dt (.resume d)) s = .next (s.advance dt))
      ∧ ∀ i, i ≠ .halt d → i ≠ .resume d → (∀ k : Fin 3, k ≠ d → i ≠ .halt k ∧ i ≠ .resume k) → exec (.debugInstruction dt i) s = .next (s.advance dt)

/-! ## The seal -/

/-- The host's seal commands (R310, R311): SEAL_STATUS and SEAL_IMAGE_READ show the seal and the pending image (of a blank device the digest start that SEAL_STATUS shows
is a free value, log 8); SEAL_DISCARD drops the uncommitted writes; SEAL_COMMIT that every check of R311 lets pass is accepted, and takes the uncommitted writes with
it; one that a check refuses gets that check's reply.

SEAL_COMMIT takes the current mode MAINTAIN and SEAL[15] = 1, and the switches must carry the code of the image's digest, whose start the command names (R306,
R311). When the block is written its records are the old ones with the committed writes over them, the commit count has grown by one, its digest and switch word
are the image's, the older copy has gone, the reply is DONE with the word and the count, and in MAINTAIN the check of R62 runs.

Completed here: sealStatus, sealCommit, sealDiscard, sealImageRead, sealCommitDone. -/
def Obligations.SealCommits : Prop :=
  (
  ∀ (dt : Nat) (c : CmdHeader) (ps : List Byte) (s : State), c.unit = 0 →
    (s.Takes 0x78 c [] → ∃ st, exec (.sealStatus dt c []) s = .next ({ s.accepted dt c with free := s.free + 1 }.reply (s.handle 0x78 c) stDone
        (le 2 s.sealer.live.toNat ++ le 2 s.sealer.stored ++ le 4 s.sealer.commitCount
          ++ le 1 (bit (decide (s.sealer.writes ≠ [])) + 2 * bit s.sealer.blank + 4 * bit s.sealer.mismatch)
          ++ (imageDigest s.sealer.pending).take 8 ++ le 2 (switchCode (imageDigest s.sealer.pending)) ++ st))
      ∧ ∀ k, s.sealer.committed = some k → st = k.digest.take 8)
    ∧ (s.Takes 0x79 c ps → (s.accepted dt c).commitRefused (ps.take 8) = none → exec (.sealCommit dt c ps) s
        = .next { (s.accepted dt c).reply (s.handle 0x79 c) stAccepted [] with sealer := { s.sealer with commit := some ⟨s.handle 0x79 c, s.sealer.writes⟩, writes := [] } })
    ∧ (s.Takes 0x79 c ps → ∀ st b, (s.accepted dt c).commitRefused (ps.take 8) = some (st, b) → exec (.sealCommit dt c ps) s
        = .next ((s.accepted dt c).reply (s.handle 0x79 c) st b))
    ∧ (s.Takes 0x7A c [] → ∃ t : State, t = { s.accepted dt c with sealer := { s.sealer with writes := [] } } ∧ exec (.sealDiscard dt c []) s
        = .next ((if s.sealer.writes ≠ [] then t.raise 44 0x002C 0 (s.sealer.live.toNat + 65536 * 3) else t).reply (s.handle 0x7A c) stDone []))
    ∧ ∀ off n, s.Takes 0x7B c ps → off = unLe (ps.take 2) → n = (ps.getD 2 0).toNat → 1 ≤ n → n ≤ 32 → exec (.sealImageRead dt c ps) s
        = .next ((s.accepted dt c).reply (s.handle 0x7B c) stDone ((((sealedImage s.sealer.pending).drop off).take n).flatMap recordBytes))
  )
  ∧ (
  (∀ (s : State) (start : List Byte), s.commitRefused start = none → s.mode = .maintain ∧ s.sealOpen
      ∧ start = (imageDigest s.sealer.pending).take 8 ∧ s.sealer.live.toNat % 32768 = switchCode (imageDigest s.sealer.pending) ∧ s.sealer.commit = none)
  ∧ ∀ (dt : Nat) (s t : State) (h : Handle) (w : List ((Nat × Nat) × Int)) (copy : SealCopy) (older : Fin 2), s.sealer.commit = some ⟨h, w⟩ →
      s.recorder.blocked = false → (s.mode ≠ .maintain ∨ s.sealOpen) → older = (if s.sealer.committed = some s.sealer.copies[0] then 1 else 0) →
      copy = ⟨true, overlay s.sealer.base w, imageDigest (overlay s.sealer.base w),
        BitVec.ofNat 16 (switchCode (imageDigest (overlay s.sealer.base w))), s.sealer.commitCount + 1, true⟩ →
      t = (({ s.advance dt with sealer := { s.sealer with
          copies := s.sealer.copies.set older.val copy, commit := none, config := configDigest (overlay s.sealer.base w) } } : State).raise 44 0x002C 0
            (s.sealer.live.toNat + 65536 * 2)).reply h stDone (le 2 (switchCode (imageDigest (overlay s.sealer.base w))) ++ le 4 (s.sealer.commitCount + 1)) →
      exec (.sealCommitDone dt) s = .next (if s.mode = .maintain then t.runChecks else t)
  )

/-- The seal reader (R37, R38, R305, R307, R309, R493). A read whose two samples differ is discarded. One whose word matches the block in use, or finds none, sets
SEAL_LIVE and ends a mismatch, with event 44 when the word has changed. The first mismatch in a row only counts; the second raises event 44 with reason 1, and in
CONFIGURE, STANDBY, SERVICE, DEGRADED and SAFE sets cause bit 1 of SAFE, in TEST, and in MAINTAIN with SEAL[15] = 1, nothing more. In MAINTAIN with SEAL[15] = 0 and no
commit under way the device leaves MAINTAIN.

The checks: a difference of the loaded registers from the shadow, or outside MAINTAIN and SAFE of the shadow's digest from the block in use, raises event 44 with
reason 4 and leads to SAFE with cause bit 2, as does a block that reads wrong; checks that pass change nothing.

The end of a load: a verified block whose word matches comes into force; with another word the fail-safe registers are OFF, and a mismatch that was there already
leads to SAFE with cause bit 1; of a blank device they are OFF; without a verified copy event 44 and SAFE with cause bit 2 follow.

Completed here: sealRead, sealShadowCheck, sealBlockReverify, sealLoadComplete. -/
def Obligations.SealReader : Prop :=
  (
  ∀ (dt : Nat) (s : State) (a : BitVec 16) (x : Seal) (t : State), x = { s.sealer with live := a, liveKnown := true } →
    t = (if s.sealer.liveKnown = true ∧ s.sealer.live ≠ a then ({ s.advance dt with sealer := x } : State).raise 44 0x002C 0 a.toNat else { s.advance dt with sealer := x }) →
    (∀ b, a ≠ b → exec (.sealRead dt a b) s = .next (s.advance dt))
    ∧ ((x.committed.isSome → x.matches = true) → (s.mode ≠ .maintain ∨ a.getLsbD 15 = true) →
        exec (.sealRead dt a a) s = .next { t with sealer := { x with mismatches := 0, mismatch := false } })
    ∧ (x.committed.isSome → x.matches = false → x.mismatches = 0 → (s.mode ≠ .maintain ∨ a.getLsbD 15 = true) →
        exec (.sealRead dt a a) s = .next { t with sealer := { x with mismatches := 1, mismatch := false } })
    ∧ (x.committed.isSome → x.matches = false → x.mismatches = 1 → x.mismatch = false → ∀ u : State,
        u = ({ t with sealer := { x with mismatches := 2, mismatch := true } } : State).raise 44 0x002C 0 (a.toNat + 65536) →
        ((s.mode = .configure ∨ s.mode = .standby ∨ s.mode = .service ∨ s.mode = .degraded ∨ s.mode = .safe) → exec (.sealRead dt a a) s = .next (u.enterSafe 1))
        ∧ ((s.mode = .test ∨ (s.mode = .maintain ∧ a.getLsbD 15 = true)) → exec (.sealRead dt a a) s = .next u))
    ∧ (s.mode = .maintain → a.getLsbD 15 = false → x.commit = none → (x.committed.isSome → x.matches = true) →
        exec (.sealRead dt a a) s = .next (({ t with sealer := { x with mismatches := 0, mismatch := false } } : State).leaveMaintain))
  )
  ∧ (
  ∀ (dt : Nat) (s bad : State), s.power.configured → bad = (s.advance dt).raise 44 0x002C 0 (s.sealer.live.toNat + 65536 * 4) →
    (s.sealer.loading = false →
      exec (.sealShadowCheck dt false) s = .next (bad.enterSafe 2)
      ∧ (∀ k, s.sealer.committed = some k → s.sealer.shadow ≠ [] → s.sealer.shadow ≠ k.digest → s.mode ≠ .maintain → s.mode ≠ .safe →
          exec (.sealShadowCheck dt true) s = .next (bad.enterSafe 2))
      ∧ ((∀ k, s.sealer.committed = some k → s.sealer.shadow = [] ∨ s.sealer.shadow = k.digest ∨ s.mode = .maintain ∨ s.mode = .safe) →
          exec (.sealShadowCheck dt true) s = .next (s.advance dt)))
    ∧ (s.sealer.committed.isSome → exec (.sealBlockReverify dt false) s
        = .next ((({ s.advance dt with sealer := s.sealer.spoil } : State).raise 44 0x002C 0 (s.sealer.live.toNat + 65536 * 4)).enterSafe 2))
    ∧ exec (.sealBlockReverify dt true) s = .next (s.advance dt)
  )
  ∧ (
  ∀ (dt : Nat) (s t : State), s.sealer.loading = true →
    t = { s.advance dt with sealer := { s.sealer with
      loading := s.sealer.again, again := false, loadDone := !s.sealer.again, blockOk := s.sealer.committed.isSome } } →
    (∀ k, s.sealer.committed = some k →
      (s.sealer.matches = true → exec (.sealLoadComplete dt) s = .next (((
        { t with sealer := { t.sealer with loaded := k.records, shadow := k.digest, config := configDigest k.records, mismatch := false } } : State).afterLoad s.view).loadFailSafe true))
      ∧ (s.sealer.matches = false → ∀ u : State, u = (t.eachPortal fun p v => v.modPortal p fun y => { y with ehLatch := false }).loadFailSafe false →
        exec (.sealLoadComplete dt) s = .next (if 2 ≤ s.sealer.mismatches then u.enterSafe 1 else u)))
    ∧ (s.sealer.committed = none → ∀ u : State, u = (t.eachPortal fun p v => v.modPortal p fun y => { y with ehLatch := false }).loadFailSafe false →
        exec (.sealLoadComplete dt) s = .next (if s.sealer.blank = true then u else (u.raise 44 0x002C 0 (s.sealer.live.toNat + 65536 * 4)).enterSafe 2))
  )

/-! ## Events and the recorder -/

/-- An entry under way from a die reaches the Hub die (R55): it waits there, unless an entry that the order of release places after it has been released; then it is
released at once, with LATE.

A released entry is stored in the host buffer when it has room, else the count of lost entries grows, up to 65,535 (R54); the pending bit of its source is set in
both cases (R56), and no other pending bit changes.

Completed here: eventArrival. -/
def Obligations.EventsStored : Prop :=
  (
  ∀ (dt : Nat) (d : DieId) (s : State) (e : Event) (l : List Event), (s.die d).raised = e :: l →
    (s.lastRel = none ∨ (∃ t n, s.lastRel = some (t, n) ∧ (t.toNat < e.ts.toNat ∨ (t = e.ts ∧ n ≤ e.src))) →
      exec (.eventArrival dt d) s = .next { (s.advance dt).modDie d fun x => { x with raised := l } with waiting := s.waiting ++ [e] })
    ∧ ∀ t n, s.lastRel = some (t, n) → (e.ts.toNat < t.toNat ∨ (e.ts = t ∧ e.src < n)) →
      exec (.eventArrival dt d) s = .next (((s.advance dt).modDie d fun x => { x with raised := l }).release { e with late := true })
  )
  ∧ (
  ∀ (s : State) (e : Event), e.src < 64 →
    (s.buffer.length < 256 → (s.release e).buffer = s.buffer ++ [e] ∧ (s.release e).lostEvents = s.lostEvents)
    ∧ (256 ≤ s.buffer.length → (s.release e).buffer = s.buffer ∧ (s.release e).lostEvents = min 65535 (s.lostEvents + 1))
    ∧ ∀ b, b < 64 → (s.release e).evtPending.getLsbD b = (decide (b = e.src) || s.evtPending.getLsbD b)
  )

/-- The entries whose time-stamp lies 10 µs back are released in ascending order of time-stamp and then of source, entries with both equal in the order in which they
arrived (R55); the others go on waiting.

Completed here: eventRelease. -/
def Obligations.EventsReleasedInOrder : Prop :=
  ∀ (dt : Nat) (s : State), ∃ l : List Event,
    exec (.eventRelease dt) s = .next (foldState l (fun e t => t.release e) { s.advance dt with waiting := s.waiting.filter fun e => !(s.advance dt).elapsed e.ts 1000 })
    ∧ l.Perm (s.waiting.filter fun e => (s.advance dt).elapsed e.ts 1000)
    ∧ l.Pairwise (fun a b => b.before a = false)
    ∧ ∀ (t : Ts) (n : Nat), l.filter (fun e => e.ts = t ∧ e.src = n) = s.waiting.filter fun e => (s.advance dt).elapsed e.ts 1000 ∧ e.ts = t ∧ e.src = n

/-- The recorder's own steps: a queued entry becomes the next record for one write credit (R473); a credit comes back 40 µs after the last one, up to 128; the pending loss is reported with
event 0x002B once the queue has 32 free places (R474); the counters are saved every 60 s (R470); OP_SECONDS counts seconds (R469).

The recorder's commands, once the scan has ended (R478–R480): REC_INFO counts and gives the first and the last key, REC_READ returns the records after a key of at least
a severity, in key order, and REC_CLEAR in MAINTAIN with SEAL[15] = 1 removes the INFO and NOTICE records that its mask names, with event 0x002B of reason 7.

Completed here: recInfo, recRead, recClear, recordWrite, writeCreditRegain, lossSummary, counterSave, opSecond. -/
def Obligations.RecorderRuns : Prop :=
  (
  ∀ (dt : Nat) (s : State),
    (∀ e q, s.recorder.queue = e :: q → s.recWrites → s.recorder.credit ≠ 0 → exec (.recordWrite dt) s
        = .next ({ s.advance dt with recorder := { s.recorder with queue := q, credit := s.recorder.credit - 1 } }.writeRecord e))
    ∧ ((s.advance dt).elapsed s.recorder.creditAt 4000 → exec (.writeCreditRegain dt) s
        = .next { s.advance dt with recorder := { s.recorder with credit := min 128 (s.recorder.credit + 1), creditAt := s.ts + BitVec.ofNat 56 dt } })
    ∧ (s.recorder.pendingLoss ≠ 0 → s.recorder.queue.length ≤ 96 → exec (.lossSummary dt) s
        = .next ({ s.advance dt with recorder := { s.recorder with pendingLoss := 0, lossSev := 0 } }.raise 43 0x002B 0 s.recorder.lossParam))
    ∧ (s.recWrites → (s.advance dt).elapsed s.recorder.savedAt 6000000000 → ∀ n : Fin 64, n.val = (s.recorder.slotAt.val + 1) % 64 → exec (.counterSave dt) s
        = .next { s.advance dt with recorder := { s.recorder with
            slots := s.recorder.slots.set n (some s.counterBlock), slotAt := n, savedAt := s.ts + BitVec.ofNat 56 dt } })
    ∧ ∀ k, k = ((s.ts + BitVec.ofNat 56 dt) - s.recorder.secSince).toNat / 100000000 → exec (.opSecond dt) s
        = .next { s.advance dt with recorder := { s.recorder with
            opSeconds := min 4294967295 (s.recorder.opSeconds + k), secSince := s.recorder.secSince + BitVec.ofNat 56 (k * 100000000) } }
  )
  ∧ (
  ∀ (dt : Nat) (c : CmdHeader) (ps : List Byte) (s : State), c.unit = 0 → s.recorder.ready = true →
    s.recorder.sorted.Perm s.recorder.records
    ∧ (s.Takes 0x50 c [] → ∃ f l, exec (.recInfo dt c []) s = .next ((s.accepted dt c).reply (s.handle 0x50 c) stDone
        (le 4 (s.recorder.count 0) ++ le 4 (s.recorder.count 1) ++ le 4 (s.recorder.count 2) ++ le 4 (s.recorder.count 3)
          ++ le 4 (recCapacity - s.recorder.records.length) ++ RecKey.bytes f ++ RecKey.bytes l ++ le 1 s.recorder.queue.length ++ le 4 s.recorder.written
          ++ le 4 s.recorder.lost)) ∧ (∀ r rs, s.recorder.sorted = r :: rs → f = r.key ∧ (r :: rs).getLast?.map Record.key = some l))
    ∧ (∀ (k : RecKey) (n sev : Nat) (out : List Record), s.Takes 0x51 c ps → k = ⟨unLe (ps.take 3), unLe ((ps.drop 3).take 4), unLe ((ps.drop 7).take 2)⟩ →
        n = (ps.getD 9 0).toNat → sev = (ps.getD 10 0).toNat → 1 ≤ n → n ≤ 31 → sev ≤ 3 →
        out = (s.recorder.sorted.filter fun x => (decide (k = ⟨0, 0, 0⟩) || k.before x.key) && decide (sev ≤ x.entry.sev)).take n →
        ∃ rep, exec (.recRead dt c ps) s = .next ((s.accepted dt c).reply (s.handle 0x51 c) stDone (le 2 rep ++ le 1 out.length ++ out.flatMap Record.bytes)))
    ∧ ∀ (m : Byte) (rest : List Record), s.Takes 0x52 c [m] → 1 ≤ m.toNat → m.toNat ≤ 3 → s.mode = .maintain → s.sealOpen →
        rest = s.recorder.records.filter (fun x => !(m.getLsbD x.entry.sev && decide (x.entry.sev < 2))) → ∀ n, n = s.recorder.records.length - rest.length →
        exec (.recClear dt c [m]) s = .next (({ s.accepted dt c with recorder := { s.recorder with records := rest } }.raise 43 0x002B 0
          (7 + 256 * m.toNat + 1024 * min 4194303 n)).reply (s.handle 0x52 c) stDone (le 4 n))
  )

/-- A record that is written takes the next SEQ, OP_SECONDS and POWER_CYCLES (R463); in a region with a free slot it goes after the records that are there, and counts in
REC_WRITTEN; in a full region it overwrites the oldest record of the first severity, from INFO to its own, that holds more than its quota, else the oldest of its
own severity (R471).

The scan in TEST: a region without torn records or bad blocks and without a saved flush keeps its records, the counters come back, the power cycle counts, and
event 0x002B of reason 1 tells (R475, R481). The flush at T_PF + 12 µs leaves the recorder blocked, its queue empty and every output inert (R476).

Completed here: recorderScanDone, powerFailFlush. -/
def Obligations.RecordWritten : Prop :=
  (
  ∀ (s : State) (e : RecEntry) (x : Record), e.cycle = false → x = ⟨e.fill s.mode, s.recorder.opSeconds, s.recorder.powerCycles, s.recorder.nextSeq⟩ →
    (s.recorder.records.length < recCapacity → s.recorder.written < 4294967295 → s.writeRecord e
        = { s with recorder := { s.recorder with
            records := s.recorder.records ++ [x], written := s.recorder.written + 1, nextSeq := (s.recorder.nextSeq + 1) % 65536 } })
    ∧ ∀ sev k, recCapacity ≤ s.recorder.records.length → s.recorder.written < 4294967295 → e.sev ≤ 3 →
        ((sev ≤ e.sev ∧ recQuota sev < s.recorder.count sev ∧ ∀ j < sev, s.recorder.count j ≤ recQuota j)
          ∨ (sev = e.sev ∧ ∀ j ≤ e.sev, s.recorder.count j ≤ recQuota j)) →
        s.recorder.records.findIdx? (fun y => decide (y.entry.sev = sev)) = some k → s.writeRecord e
        = { s with recorder := { s.recorder with
            records := s.recorder.records.eraseIdx k ++ [x], written := s.recorder.written + 1, nextSeq := (s.recorder.nextSeq + 1) % 65536 } }
  )
  ∧ (
  (∀ (dt : Nat) (s : State) (b : CounterBlock), s.mode = .test → s.recorder.ready = false → s.recorder.saved = none → s.recorder.newest = some b →
    s.recorder.slots[s.recorder.slotAt] = some b → ∃ t, exec (.recorderScanDone dt [] []) s = .next t ∧ t.recorder.ready = true ∧ t.recorder.records = s.recorder.records
      ∧ t.recorder.torn = 0 ∧ t.recorder.powerCycles = min 16777215 (b.cycles + 1) ∧ t.recorder.opSeconds = min 4294967295 (s.recorder.opSeconds + b.opSeconds)
      ∧ t.recorder.nextSeq = 0 ∧ t.waiting = s.waiting ++ [⟨s.ts + BitVec.ofNat 56 dt, 43, false, 0x002B, 0, 1⟩])
  ∧ ∀ (dt : Nat) (s : State) (b : Ts), s.recorder.tPf = some b → s.recorder.blocked = false → (s.advance dt).elapsed b 1200 →
    ∃ t : State, exec (.powerFailFlush dt) s = .next t.inert ∧ t.recorder.blocked = true ∧ t.recorder.flushing = false ∧ t.recorder.queue = [] ∧ t.power.flushed = true
  )

/-! ## Power, start-up and firmware -/

/-- A loss of the logic supply, or POR_N, takes the device to INIT with everything at its reset value but what the recorder memory holds: the records, the saved
counters and flush, the sealed block, the friction maps, the boot record and the banks (R485, R486); the queue of commands and the counter of free values are the
model's own and stay. The release of POR_N starts INIT with the time-stamp at 0, with the same parts kept; a press that the pair shows then is taken as voided (R49,
R314, R490); while the supply is up it changes nothing.

PFAIL is accepted once (R497): T_PF is taken for the flush, event 48 is raised, every leaf that modulates brakes, and one in OFF stays so. A die's temperature and its
peak are kept, and event 0x0431 is raised when it reaches 145.0 °C and when it falls below 140.0 °C (R518; on the Hub die: the model's choice, log 94).

Completed here: logicSupplyLost, porNRelease, pfail, dieTemperature. -/
def Obligations.PowerCycles : Prop :=
  (
  (∀ (dt : Nat) (s : State), ∃ t, exec (.logicSupplyLost dt) s = .next t ∧ t.mode = .init ∧ t.power.off = true
    ∧ t = { State.reset with pending := s.pending, free := s.free, recorder := t.recorder, sealer := t.sealer, portals := t.portals, power := t.power }
    ∧ t.recorder = { Recorder.reset with records := s.recorder.records, slots := s.recorder.slots, slotAt := s.recorder.slotAt, saved := s.recorder.saved }
    ∧ t.sealer = { Seal.reset with copies := s.sealer.copies }
    ∧ t.power = { Power.reset with boot := s.power.boot, banks := s.power.banks, running := s.power.running, off := true }
    ∧ ∀ p, (∀ l, (t.leaf p l).det.copies = (s.leaf p l).det.copies ∧ (t.leaf p l).det.nextCopy = (s.leaf p l).det.nextCopy ∧ (t.leaf p l).drive = .off
        ∧ (t.leaf p l).fault = 0) ∧ (t.portal p).state = .absent ∧ (t.portal p).chans = (State.reset.portal p).chans ∧ (t.portal p).step = (State.reset.portal p).step
        ∧ (t.portal p).fbs = (State.reset.portal p).fbs)
  ∧ ∀ (dt : Nat) (a b : Bool) (s : State),
    (s.power.off = true → ∃ t, exec (.porNRelease dt a b) s = .next t ∧ t.power.off = false ∧ t.mode = .init ∧ t.ts = 0
      ∧ t = { State.reset with pending := s.pending, free := s.free, recorder := t.recorder, sealer := t.sealer, portals := t.portals, power := t.power, safety := t.safety }
      ∧ t.recorder.records = s.recorder.records ∧ t.recorder.slots = s.recorder.slots ∧ t.recorder.saved = s.recorder.saved ∧ t.sealer.copies = s.sealer.copies
      ∧ t.power.banks = s.power.banks ∧ t.power.boot = s.power.boot ∧ (∀ p l, (t.leaf p l).det.copies = (s.leaf p l).det.copies)
      ∧ t.safety = { State.reset.safety with srA := a, srB := b, press := t.safety.press } ∧ (t.safety.press.isSome ↔ pairState a b ≠ 0)
      ∧ ∀ x, t.safety.press = some x → x.voided = true)
    ∧ (s.power.off = false → exec (.porNRelease dt a b) s = .next (s.advance dt))
  )
  ∧ (
  (∀ (dt : Nat) (s : State), s.power.off = false → s.power.pfail = false → ∃ (t : State) (n : Nat), exec (.pfail dt) s = .next (t.raise 48 0x0030 0 n) ∧ t.power.pfail = true
    ∧ t.recorder.tPf = some (s.ts + BitVec.ofNat 56 dt) ∧ t.recorder.flushing = true
    ∧ ∀ p l, ((s.leaf p l).drive = .off → (t.leaf p l).drive = .off)
      ∧ (s.driven p l → (s.leaf p l).drive = .brake ∨ (s.leaf p l).drive.modulating → (t.leaf p l).drive = .brake))
  ∧ ∀ (dt : Nat) (d : DieId) (temp : Int) (s t : State), -32768 ≤ temp → temp ≤ 32767 →
    (((s.die d).hot = false ∧ temp < 1450) ∨ ((s.die d).hot = true ∧ 1400 ≤ temp) → exec (.dieTemperature dt d temp) s
      = .next ((s.advance dt).modDie d fun x => { x with temp := temp, peak := some ((x.peak.map (max · temp)).getD temp) }))
    ∧ ((s.die d).hot = false → 1450 ≤ temp → exec (.dieTemperature dt d temp) s
      = .next (((s.advance dt).modDie d fun x => { x with temp := temp, peak := some ((x.peak.map (max · temp)).getD temp), hot := true }).raise 49 0x0431 (uDie d.val) (sat16 temp + 65536)))
    ∧ ((s.die d).hot = true → temp < 1400 → exec (.dieTemperature dt d temp) s
      = .next (((s.advance dt).modDie d fun x => { x with temp := temp, peak := some ((x.peak.map (max · temp)).getD temp), hot := false }).raise 49 0x0431 (uDie d.val) (sat16 temp)))
  )

/-- INIT (R490): its first step that fails is kept for the retry 100 ms later; with every step passed the chosen bank runs and the device enters TEST with the epoch
at 0. TEST leads to CONFIGURE by a commit once its tests have passed and the scan has ended, and a failed test to SAFE with cause bit 0 (R34, R492).

Completed here: initRetry, initComplete, testComplete. -/
def Obligations.InitAndTest : Prop :=
  (∀ (dt : Nat) (i : InitInputs) (s : State), s.mode = .init → s.power.off = false → s.power.initFail = none →
    (i.pllLocked = false ∨ i.refclkOk = false → exec (.initComplete dt i) s
        = .next { s.advance dt with power := { s.power with initFail := some (1, 0, s.ts + BitVec.ofNat 56 dt) } })
    ∧ (i.pllLocked = true → i.refclkOk = true → i.linksUp = true → ∀ k x evs, s.power.choose = some (k, x, evs) → ∃ t, exec (.initComplete dt i) s
        = .next (foldState evs (fun e u => u.fwEvent e.1 e.2) t) ∧ t.mode = .test ∧ t.epoch = 0
        ∧ t = foldState participants (fun d u => u.dieEnter d .test) ({ s.advance dt with power := { x with running := k, initFail := none }, epoch := 0 }.hubEnter .test)))
  ∧ (∀ (dt : Nat) (i : InitInputs) (s : State) (step n : Nat) (b : Ts), s.mode = .init → s.power.off = false → s.power.initFail = some (step, n, b) →
      (s.advance dt).elapsed b 10000000 → i.pllLocked = true → i.refclkOk = true → i.linksUp = true → ∀ k x evs, s.power.choose = some (k, x, evs) →
      ∃ t : State, exec (.initRetry dt i) s = .next (foldState evs (fun e u => u.fwEvent e.1 e.2) (t.raise 51 0x0033 0 (5 + 256 * step + 65536 * min 65535 (n + 1))))
        ∧ t.mode = .test ∧ t.epoch = 0)
  ∧ ∀ (dt : Nat) (f : BitVec 16) (s : State), s.mode = .test →
      (f &&& 0x01FF ≠ 0 → exec (.testComplete dt f) s = .next ({ s.advance dt with power := { s.power with selftest := f &&& 0x01FF } }.enterSafe 0))
      ∧ (f &&& 0x01FF = 0 → s.recorder.ready → s.commit = none → s.retry = none → exec (.testComplete dt f) s
        = .next ({ s.advance dt with power := { s.power with selftest := 0 } }.startCommit .configure none none))

/-- FW_WRITE in MAINTAIN stores its bytes at its address in the bank that does not run, and FW_BEGIN zeroes the 512 bytes of the header; every other byte of that bank,
and the bank that runs, reads as before. The bank is no longer verified, and the reply is DONE (R499, R500).

Completed here: fwBegin, fwWrite. -/
def Obligations.FirmwareStores : Prop :=
  ∀ (dt : Nat) (c : CmdHeader) (ps : List Byte) (s : State) (i : Instr) (op a : Nat) (l : List Byte), s.Bounded → c.unit = 0 → s.mode = .maintain → s.Takes op c ps →
    ((op = 0x72 ∧ i = .fwWrite dt c ps ∧ a = unLe (ps.take 4) ∧ l = ps.drop 4 ∧ a % 4 = 0 ∧ l.length % 4 = 0 ∧ a + l.length ≤ bankSize)
      ∨ (op = 0x71 ∧ i = .fwBegin dt c ps ∧ a = 0 ∧ l = List.replicate 512 0)) →
    ∃ t : State, exec i s = .next (t.reply (s.handle op c) stDone []) ∧ (∀ k (h : k < l.length), t.power.banks[s.power.other].read (a + k) = l[k])
      ∧ (∀ x, (x < a ∨ a + l.length ≤ x) → t.power.banks[s.power.other].read x = s.power.banks[s.power.other].read x)
      ∧ t.power.banks[s.power.running] = s.power.banks[s.power.running] ∧ t.power.verified = false
      ∧ t = { s.accepted dt c with power := { s.power with banks := t.power.banks, verified := false } }

/-- The other firmware commands in the modes that admit them (R499, R500): FW_STATUS tells; FW_VERIFY is accepted and its end answers with the version and the security
counter of a bank that passes every check, else with the first check that it fails; FW_ACTIVATE names a verified bank for a trial; FW_CONFIRM makes the trial bank the
active one and raises ROLLBACK_FLOOR to its counter; FW_REVERT ends the trial.

Completed here: fwStatus, fwVerify, fwActivate, fwConfirm, fwRevert, fwVerifyDone. -/
def Obligations.FirmwareCommands : Prop :=
  ∀ (dt : Nat) (c : CmdHeader) (s : State), c.unit = 0 →
    (s.Takes 0x70 c [] → ∃ act named, exec (.fwStatus dt c []) s = .next ((s.accepted dt c).reply (s.handle 0x70 c) stDone (le 1 act ++ le 1 s.power.running.val
        ++ le 1 (bit s.power.trialRunning + 2 * bit (named && !s.power.trialRunning) + 4 * bit s.power.verified)
        ++ le 4 (s.power.version 0) ++ le 4 (s.power.version 1) ++ le 4 s.power.floor))
        ∧ ∀ r, s.power.record = some r → act = r.active.val ∧ named = r.trial.isSome)
    ∧ (s.Takes 0x73 c [] → s.mode = .maintain → s.power.verify = none → exec (.fwVerify dt c []) s
        = .next ({ s.accepted dt c with power := { s.power with verify := some (s.handle 0x73 c) } }.reply (s.handle 0x73 c) stAccepted []))
    ∧ (∀ h why ver sec t, s.power.verify = some h → s.power.banks[s.power.other].check s.power.floor = (why, ver, sec) →
        t = ({ s.advance dt with power := { s.power with verify := none, verified := decide (why = 0) } } : State) →
        (why = 0 → exec (.fwVerifyDone dt) s = .next ((t.fwEvent 6 s.power.other).reply h stDone (le 4 ver ++ le 4 sec)))
        ∧ (why ≠ 0 → exec (.fwVerifyDone dt) s = .next (t.reply h stBadParam (le 1 why))))
    ∧ (s.Takes 0x74 c [] → s.mode = .maintain → s.power.verified = true → exec (.fwActivate dt c []) s
        = .next ({ s.accepted dt c with power := s.power.setRecord fun r => { r with trial := some s.power.other, attempted := false } }.reply (s.handle 0x74 c) stDone []))
    ∧ (s.Takes 0x75 c [] → (s.mode = .configure ∨ s.mode = .maintain) → s.power.trialRunning = true → ∀ r, s.power.record = some r → ∃ t : State,
        exec (.fwConfirm dt c []) s = .next ((t.fwEvent 4 s.power.running).reply (s.handle 0x75 c) stDone []) ∧ t.power.trialRunning = false
        ∧ t.power.record = some ⟨r.gen + 1, s.power.running, none, false, max r.floor (s.power.banks[s.power.running].check 0).2.2⟩)
    ∧ (s.Takes 0x76 c [] → s.mode = .maintain → ∀ r, s.power.record = some r →
        (r.trial = none → exec (.fwRevert dt c []) s = .next ((s.accepted dt c).reply (s.handle 0x76 c) stDone []))
        ∧ ∀ k, r.trial = some k → exec (.fwRevert dt c []) s = .next (({ s.accepted dt c with power := { s.power.setRecord fun r => { r with trial := none, attempted := false } with
            trialRunning := false } }.fwEvent 7 k).reply (s.handle 0x76 c) stDone []))

/-! ## Load channels -/

/-- The channel state machine (R264): a supply anomaly, a latch, a claim that the device does not hold, a flushed device or the energy fence turn a channel off, whatever is
demanded; with none of them a channel in mode ON that was not demanded conducts exactly when a fail-safe cause applies with ON, or with HOLD and the demand held, or
without one its owner demands it; at a cause that begins now the demand held is the one before it. In INIT and TEST it is off. No other channel changes, and nothing
outside the portals. -/
def Obligations.ChannelDecides : Prop :=
  ∀ (s t : State) (p : PortalId) (c : ChanId), t = s.chanSync p c →
    ((s.supplyOff p ∨ (s.chan p c).thermLatch ∨ (s.chan p c).ocLatch ∨ s.gates = false ∨ s.power.flushed ∨ s.efOff p c
        ∨ (s.die (pwDie p)).mode.fromConfigure = false ∨ s.present p = false) → (t.chan p c).on = false ∧ (t.chan p c).dutyEff = 0)
    ∧ (s.heldOff p c = false → (s.die (pwDie p)).mode.fromConfigure → s.present p → (s.chan p c).demand = false → (s.chan p c).allowed = false →
        s.parN 0x7000 (uChan p c) = 1 →
        (s.fsCause p = false → (s.chan p c).fsSince = none → (t.chan p c).on = s.ownerDemand p c)
        ∧ (s.fsCause p → (s.chan p c).fsSince = none → (∀ u y, (s.chan p c).past = some (u, y) → u ≠ s.ts) →
            (t.chan p c).on = decide ((s.chan p c).fsReg = 1) ∧ (t.chan p c).fsSince = some s.ts ∧ (t.chan p c).holdDemand = false)
        ∧ (s.fsCause p → (s.chan p c).fsSince.isSome → (t.chan p c).on = ((s.chan p c).fsReg = 1 || ((s.chan p c).fsReg = 2 && (s.chan p c).holdDemand))))
    ∧ (∀ q d, (q ≠ p ∨ d ≠ c) → t.chan q d = s.chan q d) ∧ t = { s with portals := t.portals }

/-- The host's commands to a channel that it owns (R262, R263), of a present portal that is not FENCED, in SERVICE, DEGRADED or MAINTAIN: CH_ON and CH_OFF set the demand,
CH_PULSE sets it for its length, CH_MULTI sets the demands of several channels, CH_CLEAR clears the latches unless the channel is too hot (R273) or was shut down at
this very clock (R282). The reply carries CH_STATUS. Completed here: chOn, chOff, chPulse, chMulti, chClear. -/
def Obligations.ChannelCommands : Prop :=
  ∀ (dt : Nat) (c : CmdHeader) (ps : List Byte) (p : PortalId) (k : ChanId) (s : State), s.present p → s.mode.runs →
    (c.unit.toNat = uChan p k → s.view.roleOf p k.val = none → s.slotOfChan p k = none → (s.chan p k).pulseEnd = none → (s.portal p).state ≠ .fenced →
      ∀ t : Bool → State, t = (fun on => ((s.accepted dt c).modChan p k fun x => { x with hostDemand := on }).chanSync p k) →
      (s.Takes 0x40 c [] → s.parN 0x7000 (uChan p k) ≠ 0 → exec (.chOn dt c []) s = .next ((t true).reply (s.handle 0x40 c) stDone (le 2 ((t true).chStatus p k))))
      ∧ (s.Takes 0x41 c [] → exec (.chOff dt c []) s = .next ((t false).reply (s.handle 0x41 c) stDone (le 2 ((t false).chStatus p k))))
      ∧ (s.Takes 0x42 c ps → s.parN 0x7000 (uChan p k) ≠ 0 → 1 ≤ unLe (ps.take 2) → unLe (ps.take 2) ≤ 60000 → exec (.chPulse dt c ps) s
          = .next (((t true).reply (s.handle 0x42 c) stAccepted (le 2 ((t true).chStatus p k))).modChan p k fun x =>
              { x with pulseEnd := some (s.ts + BitVec.ofNat 56 dt + BitVec.ofNat 56 (100000 * unLe (ps.take 2))), pulseReply := some (s.handle 0x42 c) })))
    ∧ (c.unit.toNat = uChan p k → s.view.roleOf p k.val = none → s.Takes 0x44 c [] →
      (((s.chan p k).thermLatch = false ∨ (s.chan p k).temp < 1500) → (∀ u a b, (s.chan p k).shutAt = some (u, a, b) → u ≠ s.ts + BitVec.ofNat 56 dt) → ∃ t, t = (s.accepted dt c).chanClear p k ∧ (t.chan p k).thermLatch = false ∧ (t.chan p k).ocLatch = false
        ∧ (t.chan p k).retries = 0 ∧ exec (.chClear dt c []) s = .next (t.reply (s.handle 0x44 c) stDone (le 2 (t.chStatus p k))))
      ∧ ((s.chan p k).thermLatch = true → 1500 ≤ (s.chan p k).temp → exec (.chClear dt c []) s
        = .next ((s.accepted dt c).reply (s.handle 0x44 c) stModeForbids (leI 2 (s.chan p k).temp ++ le 2 ((s.accepted dt c).chStatus p k)))))
    ∧ (∀ (affect on : Byte) (ks : List ChanId) (t : State), s.Takes 0x43 c [affect, on] → c.unit.toNat = uPortal p → on &&& ~~~affect = 0 → (s.portal p).state ≠ .fenced →
        ks = (List.finRange 8).filter (fun k => affect.getLsbD k.val) →
        (∀ k ∈ ks, s.view.roleOf p k.val = none ∧ s.slotOfChan p k = none ∧ (on.getLsbD k.val → s.parN 0x7000 (uChan p k) ≠ 0)) →
        t = foldState ks (fun k u => u.hostDemand p k (on.getLsbD k.val)) (s.accepted dt c) →
        exec (.chMulti dt c [affect, on]) s = .next (t.reply (s.handle 0x43 c) stDone ((List.finRange 8).flatMap fun k => le 2 (t.chStatus p k))))

/-- A period start takes the measured means, and applies the duty of the mode (R258–R261): of a VALVE channel after its pull-in the hold duty, of a LAMP channel the
compensated one, of a PWM channel CH_DUTY, its slot's or the one HOLD keeps; of a FLASH channel the pattern's step. A period of P counts starts where t − c × P/8 is a
multiple of P. A pull-in ends after CH_PULL_TIME with the hold duty, and a pulse at the end of its length, when its command is answered DONE (R262).

Protection (R269–R273): at the limit inside the blanking window the channel limits; after it, or above 1.5 × I_LIM, it shuts down, is counted, and waits for a retry
while RETRY_COUNT is below CH_RETRY_MAX, else latches. The retry turns it on and counts; a second of conduction resets the count. A temperature above 160.0 °C warns,
one of 175.0 °C latches, unless a retry falls on the same clock (R282).

A supply measurement that ends or begins no anomaly changes only the measured voltage (R279); one that does sets or clears its bit of VLS_STATUS on the portal, a
ground loss on both portals of the die, with event 0x0410 or 0x0411.

Completed here: channelPeriodStart, pullInEnd, chPulseEnd, channelLimitShutdown, channelFastOff, retryIntervalEnd, retryCountReset, channelTemperature,
supplyAnomaly. -/
def Obligations.ChannelRuns : Prop :=
  (
  ∀ (dt : Nat) (p : PortalId) (c : ChanId) (s : State),
    (∀ (vls : Int) (i : Nat) (on : Option Nat) (u : State), u = (((s.advance dt).modPortal p fun x => { x with vls := vls }).modChan p c (fun x =>
        { x with iAvg := min i 8190, iOn := (on.map (min · 8190)).getD x.iOn })).chanSync p c →
      ((u.chan p c).allowed = false ∨ u.periodDue p c = false ∨ (u.chan p c).modeIn = 1 ∨ ((u.chan p c).modeIn = 4 ∧ (u.chan p c).pullSince.isSome) →
        exec (.channelPeriodStart dt p c vls i on) s = .next u)
      ∧ ((u.chan p c).allowed = true → u.periodDue p c = true →
          ((u.chan p c).modeIn = 2 → ¬ ((u.chan p c).fsSince = some u.ts ∧ (u.chan p c).fsReg = 2) → exec (.channelPeriodStart dt p c vls i on) s
            = .next (u.modChan p c fun x => x.applyDuty u.ts (if u.fsCause p ∧ (u.chan p c).fsReg = 2 then (u.chan p c).holdDuty else u.ownerDuty p c) (u.pwmPeriod p c)))
          ∧ ((u.chan p c).modeIn = 3 → exec (.channelPeriodStart dt p c vls i on) s
            = .next (u.modChan p c fun x => x.applyDuty u.ts (lampDuty (u.par 0x7004 (uChan p c)) (u.chanPar p c 0x7005) vls) (u.pwmPeriod p c)))
          ∧ ((u.chan p c).modeIn = 4 → (u.chan p c).pullSince = none → exec (.channelPeriodStart dt p c vls i on) s
            = .next (u.modChan p c fun x => x.applyDuty u.ts (holdDuty (u.chanPar p c 0x7007) (u.chanPar p c 0x7005) vls) (u.pwmPeriod p c)))
          ∧ ((u.chan p c).modeIn = 5 → ∃ v, exec (.channelPeriodStart dt p c vls i on) s = .next v
            ∧ (v.chan p c).on = flashOn (u.chanPar p c 0x7008).toNat (u.chanPar p c 0x7009).toNat (u.pwTs p) ∧ (v.chan p c).dutyEff = (if (v.chan p c).on then 1000 else 0))))
    ∧ (∀ f P : Nat, f * P = 100000000 → P % 8 = 0 → (s.chanPar p c 0x7003).toNat = f → (s.chan p c).modeIn ≠ 5 →
        (s.periodDue p c = true ↔ ((s.pwTs p).toNat + P - c.val * (P / 8)) % P = 0))
    ∧ (∀ b n, (s.chan p c).pullSince = some b → n = 100000 * (s.chanPar p c 0x7006).toNat → (s.advance dt).elapsed b n → (s.chan p c).modeIn = 4 → exec (.pullInEnd dt p c) s
        = .next ((s.advance dt).modChan p c fun x => { x with
            pullSince := none, dutyEff := holdDuty (s.chanPar p c 0x7007) (s.chanPar p c 0x7005) (s.portal p).vls }))
    ∧ ∀ b h, (s.chan p c).pulseEnd = some b → (s.chan p c).pulseReply = some h → 0 ≤ (s.ts + BitVec.ofNat 56 dt - b).toInt → ∃ t : State, exec (.chPulseEnd dt p c) s
        = .next (t.reply h stDone (le 2 (t.chStatus p c))) ∧ (t.chan p c).hostDemand = false ∧ (t.chan p c).pulseEnd = none ∧ (t.chan p c).pulseReply = none
  )
  ∧ (
  ∀ (dt : Nat) (p : PortalId) (c : ChanId) (peak : Nat) (s : State),
    ((s.chan p c).on = true → (s.advance dt).ran (s.chan p c).blankSince (100 * (s.chanPar p c 0x700A).toNat) = false → exec (.channelLimitShutdown dt p c peak) s
        = .next ((s.advance dt).modChan p c fun x => { x with limiting := true }))
    ∧ ((s.chan p c).on = true → (s.advance dt).ran (s.chan p c).blankSince (100 * (s.chanPar p c 0x700A).toNat) = true → exec (.channelLimitShutdown dt p c peak) s
        = .next ((s.advance dt).chanShutdown p c peak false))
    ∧ ((s.chan p c).on = true → 3 * s.iLimCh p c < 2 * peak → exec (.channelFastOff dt p c peak) s = .next ((s.advance dt).chanShutdown p c peak true))
    ∧ (∀ fast t, t = s.chanShutdown p c peak fast →
        ((s.chan p c).retries < (s.chanPar p c 0x700B).toNat → s.wantOn p c → (s.chan p c).demand → s.fsCause p = (s.chan p c).fsSince.isSome → (t.chan p c).on = false ∧ (t.chan p c).retrySince = some s.ts
          ∧ (t.chan p c).ocLatch = (s.chan p c).ocLatch ∧ (t.chan p c).shutdowns = min 4294967295 ((s.chan p c).shutdowns + 1))
        ∧ ((s.chanPar p c 0x700B).toNat ≤ (s.chan p c).retries → ∃ u : State, t = (if s.isRole p c then u.fence p 0x0B (uChan p c) 0 else u)
          ∧ (u.chan p c).on = false ∧ (u.chan p c).ocLatch = true ∧ (u.chan p c).shutdowns = min 4294967295 ((s.chan p c).shutdowns + 1)))
    ∧ (∀ b u, (s.chan p c).retrySince = some b → (s.advance dt).elapsed b (100000 * (s.chanPar p c 0x700C).toNat) → (s.chan p c).demand = true →
        u = (s.advance dt).modChan p c (fun x => { x with retrySince := none }) → u.heldOff p c = false → exec (.retryIntervalEnd dt p c) s
        = .next (((s.advance dt).modChan p c fun x => { x with
            retrySince := none, retries := min 15 (x.retries + 1), retryAt := some (s.ts + BitVec.ofNat 56 dt, x.retries) }).chanSync p c))
    ∧ (100000000 ≤ (s.chan p c).conducted (s.ts + BitVec.ofNat 56 dt) → (s.chan p c).thermLatch = false → exec (.retryCountReset dt p c) s
        = .next ((s.advance dt).modChan p c fun x => { x with retries := 0 }))
    ∧ (∀ temp : Int, 1500 ≤ temp → temp ≤ 1600 → exec (.channelTemperature dt p c temp) s = .next ((s.advance dt).modChan p c fun x => { x with temp := temp }))
    ∧ (∀ (temp : Int), 1600 < temp → temp < 1750 → (s.chan p c).tempWarn = false → exec (.channelTemperature dt p c temp) s
        = .next (((s.advance dt).modChan p c fun x => { x with temp := temp, tempWarn := true }).raiseAt (pwDie p) 49 0x0430 (uChan p c) (sat16 temp)))
    ∧ ∀ (temp : Int) (t : State), 1750 ≤ temp → (s.chan p c).tempWarn = true → (s.chan p c).thermLatch = false → s.isRole p c = false →
        (∀ u n, (s.chan p c).retryAt = some (u, n) → u ≠ s.ts + BitVec.ofNat 56 dt) →
        t = ((s.advance dt).modChan p c fun x => { x with temp := temp, thermLatch := true }).chanSync p c → (t.chan p c).on = false
          ∧ exec (.channelTemperature dt p c temp) s = .next (t.raiseAt (pwDie p) (pwSrc p) 0x0402 (uChan p c) (sat16 temp))
  )
  ∧ (
  ∀ (dt : Nat) (p : PortalId) (k : SupplyKind) (mv : Int) (gnd : Nat) (s t : State) (old : Bool), t = (s.advance dt).modPortal p (fun x => { x with vls := mv }) →
    old = (s.portal p).vlsStatus.getLsbD (supplyBit k) →
    (anomalyAt k old mv gnd = old → exec (.supplyAnomaly dt p k mv gnd) s = .next t)
    ∧ (k ≠ .groundLoss → anomalyAt k old mv gnd ≠ old → exec (.supplyAnomaly dt p k mv gnd) s
        = .next (((t.modPortal p fun x => { x with vlsStatus := setBit x.vlsStatus (supplyBit k) (!old) }).chansSync p).raiseAt (pwDie p) (pwSrc p)
            (if old then 0x0411 else 0x0410) (uPortal p) (supplyBit k + 65536 * sat16 (mv / 100))))
    ∧ (k = .groundLoss → anomalyAt k old mv gnd ≠ old → ∃ u, exec (.supplyAnomaly dt p k mv gnd) s = .next u
        ∧ ∀ q, ((u.portal q).vlsStatus.getLsbD 3 = if pwDie q = pwDie p then !old else (s.portal q).vlsStatus.getLsbD 3))
  )

/-! ## The control engine -/

/-- A tick of a slot that comes in its place in the order of its instant, ascending rate and then slot number (R137–R148); one whose place has passed is none. A slot
that does not run keeps everything, and a general slot that may run no more is cleared (R144). HOLD records the error and the shaping output and keeps its output; AUTO
releases the saturated sum of shaping output, integrator and offset, within OUT_LO and OUT_HI, and OUT_SAT says whether the value in force downstream differs from
that sum (R139); its first tick presets the integrator so that the sum is exactly the output held before, and answers the waiting LOOP_CLOSE; MANUAL moves its ramp;
a tick with a residue mismatch holds the slot and reports to its portal (R160). Completed here: slotTick. -/
def Obligations.SlotTicks : Prop :=
  ∀ (dt : Nat) (d : PdId) (n : SlotId) (s v r : State) (run : Bool) (e w : Int), (s.slot d n).residueErr = false →
    v = { s.advance dt with engines := s.engines.set d { s.engines[d] with last := some (s.ts + BitVec.ofNat 56 dt, s.slotRate d n, n.val) } } →
    run = (if n.val < 32 then (s.slot d n).running else (s.advance dt).generalRuns d n && decide ((s.slot d n).mode ≠ .disabled)) →
    r = (if n.val < 32 then v else v.modSlot d n fun x => { x with running := true }) → e = r.slotErr d n → w = r.shape d n e →
    ((∃ m k, s.engines[d].last = some (s.ts + BitVec.ofNat 56 dt, m, k) ∧ (s.slotRate d n < m ∨ (m = s.slotRate d n ∧ n.val ≤ k))) → ∀ b,
      exec (.slotTick dt d n b) s = .next (s.advance dt))
    ∧ ((∀ t m k, s.engines[d].last = some (t, m, k) → t ≠ s.ts + BitVec.ofNat 56 dt ∨ m < s.slotRate d n ∨ (m = s.slotRate d n ∧ k < n.val)) →
      (run = false → (s.slot d n).running = false → ∀ b, exec (.slotTick dt d n b) s = .next v)
      ∧ (run = false → (s.slot d n).running = true → 32 ≤ n.val → ∀ b, ∃ t, exec (.slotTick dt d n b) s = .next t ∧ t.slot d n = { (s.slot d n).cleared with closing := [] })
      ∧ (run = true →
        ((s.slot d n).mode = .hold → exec (.slotTick dt d n false) s = .next (r.holdTick d n e w) ∧ (r.holdTick d n e w).slot d n
          = { s.slot d n with running := true, e := e, w := w, eHist := (e :: (s.slot d n).eHist).take 3, wHist := (w :: (s.slot d n).wHist).take 3 })
        ∧ ((s.slot d n).mode = .manual → s.innerTunes d n = false → (n.val < 32 → slotLoop n = 3 → (s.leaf (slotPortal d n) (slotLeaf n)).drive ≠ .creep) →
          ∃ t x, exec (.slotTick dt d n false) s = .next t ∧ x = t.slot d n ∧ x.e = e ∧ x.w = w ∧ x.mode = .manual
            ∧ ((s.slot d n).ramp ≤ (s.slot d n).manual → (s.slotRaw d n 15 : Rat) ≤ (s.slot d n).ramp → ((s.slot d n).manual : Rat) ≤ s.slotRaw d n 16 →
                x.ramp = min ((s.slot d n).manual : Rat) ((s.slot d n).ramp + ((s.slotPar d n 18).toNat : Rat) / (s.slotRate d n : Rat)) ∧ x.u = quant x.ramp))
        ∧ ((s.slot d n).mode = .closed → s.innerTunes d n = false → (n.val < 32 → slotLoop n = 3 → (s.leaf (slotPortal d n) (slotLeaf n)).drive ≠ .creep) →
          ∃ t x, exec (.slotTick dt d n false) s = .next t ∧ x = t.slot d n ∧ x.e = e ∧ x.w = w ∧ x.mode = .closed
            ∧ (s.slotRaw d n 15 ≤ s.slotRaw d n 16 → s.slotRaw d n 15 ≤ x.u ∧ x.u ≤ s.slotRaw d n 16)
            ∧ (s.slotRaw d n 13 ≤ s.slotRaw d n 14 → 32768 * s.slotRaw d n 13 ≤ x.i ∧ x.i ≤ 32768 * s.slotRaw d n 14)
            ∧ ((s.slot d n).preset = true → 32768 * w + x.i + x.o = 32768 * (s.slot d n).u ∧ x.preset = false ∧ x.closing = [] ∧ x.satSeen = false)
            ∧ ((s.slot d n).preset = false →
              x.u = clampI (s.slotRaw d n 15) (s.slotRaw d n 16) (clampI (-32768) 32767 ((32768 * w + (s.slot d n).i + (s.slot d n).o + 16384) / 32768))
              ∧ ∀ ua, ua = (r.applySlot d n x.u).1 → x.outSat = decide (32768 * ua ≠ 32768 * w + (s.slot d n).i + (s.slot d n).o) ∧ x.satSeen = ((s.slot d n).satSeen || x.outSat)))
        ∧ exec (.slotTick dt d n true) s = .next (r.slotResidue d n)))

/-- The loop commands that the modes admit (R146, R164): LOOP_OPEN holds the slot, LOOP_CLOSE puts it into AUTO with its preset to come, and answers at once when the slot
does not tick, LOOP_MANUAL ramps to a target, SLOT_DISABLE clears it, COEF_WRITE takes the whole coefficient set, SLOT_READ and TUNE_RESULT read. A request at the tick
of a residue mismatch is refused with FENCED (R163).

A relay tune (R154–R157): TUNE_START from HOLD in MAINTAIN is accepted and puts the slot into TUNE, on a leaf slot unless the portal's last check failed; TUNE_STOP ends
it with ABORTED to its requester, unless an end condition that holds at that instant ends it, and is answered DONE then too (R163); an aborted tune leaves zero results,
event 0x0034, and the slot in HOLD with the bias as its output, or 0 where it no longer runs; a tune ends with COMPLETED once the periods have been counted, and by its
limit or its timeout.

Completed here: loopOpen, loopClose, loopManual, slotDisable, slotRead, tuneResult, coefWrite, tuneStart, tuneStop, tuneEnd. -/
def Obligations.LoopsAndTunes : Prop :=
  (
  ∀ (dt : Nat) (c : CmdHeader) (b : Byte) (d : PdId) (n : SlotId) (s : State), s.slotTarget c.unit.toNat b.toNat = .ok (d, n) → (s.slot d n).tune = none →
    (s.slot d n).closing = [] →
    ((s.slot d n).errAt = some (s.ts + BitVec.ofNat 56 dt) → s.Takes 0x60 c [b] → exec (.loopOpen dt c [b]) s
        = .next ((s.accepted dt c).reply (s.handle 0x60 c) stFenced (detail 0xFFFF (s.slotUnit d n))))
    ∧ (s.Takes 0x60 c [b] → (s.accepted dt c).slotRequest d n .hold = none → exec (.loopOpen dt c [b]) s
        = .next (((s.accepted dt c).modSlot d n fun x => { x with mode := .hold }).reply (s.handle 0x60 c) stDone []))
    ∧ (s.Takes 0x61 c [b] → (s.accepted dt c).slotRequest d n .closed = none → (s.slot d n).mode ≠ .closed →
      ((s.slot d n).running = false → exec (.loopClose dt c [b]) s = .next (((s.accepted dt c).modSlot d n fun x =>
        { x with mode := .closed, preset := true, prevMode := x.mode }).reply (s.handle 0x61 c) stDone [2]))
      ∧ ((s.slot d n).running = true → exec (.loopClose dt c [b]) s = .next ((s.accepted dt c).modSlot d n fun x =>
        { x with mode := .closed, preset := true, prevMode := x.mode, closing := [s.handle 0x61 c] })))
    ∧ (∀ v, s.Takes 0x62 c (b :: v) → (s.accepted dt c).slotRequest d n .manual = none → s.slotIsSet d n 18 → exec (.loopManual dt c (b :: v)) s
        = .next (((s.accepted dt c).modSlot d n fun x => { x with mode := .manual, manual := signedOf 2 (unLe v), ramp := if x.mode = .manual then x.ramp else x.u }).reply
          (s.handle 0x62 c) stDone []))
    ∧ (s.Takes 0x68 c [b] → (s.accepted dt c).slotRequest d n .disabled = none → s.slotOut d n = none → exec (.slotDisable dt c [b]) s
        = .next (((s.accepted dt c).modSlot d n fun x => { x.cleared with mode := .disabled }).reply (s.handle 0x68 c) stDone []))
    ∧ (s.Takes 0x64 c [b] → exec (.slotRead dt c [b]) s = .next ((s.accepted dt c).reply (s.handle 0x64 c) stDone (le 2 (s.slot d n).statusWord ++ leI 2 (s.slot d n).e
        ++ leI 2 (s.slot d n).w ++ leI 2 (s.slot d n).u ++ leI 4 (clampI (-(2 ^ 31)) (2 ^ 31 - 1) (s.slot d n).i) ++ leI 2 (satQ15 (roundQ30 (s.slot d n).o)))))
    ∧ (s.Takes 0x67 c [b] → exec (.tuneResult dt c [b]) s = .next ((s.accepted dt c).reply (s.handle 0x67 c) stDone (0 :: (s.slot d n).tuneFields)))
    ∧ ∀ ps, s.Takes 0x63 c (b :: ps) → s.coefRefused d n = none → ∀ vals : List (Nat × Int),
        vals = [(2, ((ps.getD 0 0).toNat : Int)), (3, ((ps.getD 1 0).toNat : Int))] ++ (List.range 9).map (fun k => (4 + k, signedOf 2 (unLe ((ps.drop (2 + 2 * k)).take 2)))) →
        (∀ e ∈ vals, (descOf (0x3000 + 0x40 * e.1 + n.val)).inRange e.2) → exec (.coefWrite dt c (b :: ps)) s
        = .next (({ s.accepted dt c with params := vals.foldl (fun l (e : Nat × Int) => store l (0x3000 + 0x40 * e.1 + n.val, uEngine d) e.2) s.params }.modSlot d n fun x =>
          { x with wHist := [0, 0, 0] }).reply (s.handle 0x63 c) stDone [])
  )
  ∧ (
  (∀ (dt : Nat) (c : CmdHeader) (b : Byte) (q : List Byte) (d : PdId) (n : SlotId) (s : State) (th eps bias : Int) (periods rule timeout : Nat), (n.val < 32 → (s.portal (slotPortal d n)).checkFailed = false) →
    s.slotTarget c.unit.toNat b.toNat = .ok (d, n) → s.Takes 0x65 c (b :: q) → (s.accepted dt c).slotRequest d n .tune = none → (s.slot d n).mode = .hold →
    th = signedOf 2 (unLe (q.take 2)) → eps = signedOf 2 (unLe ((q.drop 2).take 2)) → bias = signedOf 2 (unLe ((q.drop 4).take 2)) → periods = (q.getD 6 0).toNat →
    rule = (q.getD 7 0).toNat → timeout = unLe ((q.drop 8).take 2) → s.slotIsSet d n 22 → 164 ≤ th → th ≤ 16384 → 0 ≤ eps → 2 * eps ≤ th →
    s.slotRaw d n 15 + th ≤ bias → bias ≤ s.slotRaw d n 16 - th → 3 ≤ periods → periods ≤ 20 → rule ≤ 1 → 100 ≤ timeout → timeout ≤ 60000 →
    exec (.tuneStart dt c (b :: q)) s = .next (((s.accepted dt c).reply (s.handle 0x65 c) stAccepted []).modSlot d n fun x => { x with
      mode := .tune
      tune := some ⟨th, eps, bias, periods, rule, timeout, s.ts + BitVec.ofNat 56 dt, none, s.ts + BitVec.ofNat 56 dt, [], [], 0, 0, some (s.handle 0x65 c)⟩ }))
  ∧ (∀ (dt : Nat) (c : CmdHeader) (b : Byte) (d : PdId) (n : SlotId) (s : State), s.slotTarget c.unit.toNat b.toNat = .ok (d, n) → s.Takes 0x66 c [b] →
      ((s.slot d n).tune.isSome → exec (.tuneStop dt c [b]) s
        = .next ((((s.accepted dt c).tuneCheck d n).abortTune d n 1 stModeForbids).reply (s.handle 0x66 c) stDone []))
      ∧ ((s.slot d n).tune = none → (s.slot d n).endAt = some (s.ts + BitVec.ofNat 56 dt) → exec (.tuneStop dt c [b]) s
        = .next ((s.accepted dt c).reply (s.handle 0x66 c) stDone []))
      ∧ ((s.slot d n).tune = none → (s.slot d n).endAt ≠ some (s.ts + BitVec.ofNat 56 dt) → exec (.tuneStop dt c [b]) s
        = .next ((s.accepted dt c).refuse (s.handle 0x66 c) stModeForbids)))
  ∧ (∀ (d : PdId) (n : SlotId) (s : State) (t : Tune) (outcome st : Nat), (s.slot d n).tune = some t → ∃ u x, u = s.abortTune d n outcome st ∧ x = u.slot d n
      ∧ x.mode = .hold ∧ x.tune = none ∧ x.u = (if (s.slot d n).running then t.bias else 0) ∧ x.tuTu = 0 ∧ x.tuAmp = 0 ∧ x.tuKu = 0 ∧ x.tuShift = 0 ∧ x.tuB0 = 0
      ∧ x.tuKi = 0 ∧ x.tuKb = 0 ∧ x.tuFlags = 0
      ∧ ∃ v, (u.die (engineDie d)).raised = (s.die (engineDie d)).raised ++ [⟨(s.die (engineDie d)).ts, 52, false, 0x0034, s.slotUnit d n, v⟩])
  ∧ ∀ (dt : Nat) (d : PdId) (n : SlotId) (s : State) (t : Tune), (s.slot d n).tune = some t →
      (s.slotPar d n 22 < |(s.slot d n).e| → exec (.tuneEnd dt d n) s = .next ((s.advance dt).abortTune d n 4 stModeForbids))
      ∧ (|(s.slot d n).e| ≤ s.slotPar d n 22 →
        (t.periods + 3 ≤ t.crossings.length → 2 * (t.periods : Int) * t.eps < ((t.swings.drop 2).take t.periods).foldl (· + ·) 0 → ∃ u : State,
          exec (.tuneEnd dt d n) s = .next (u.endTune d n 0 stDone (u.slot d n).tuneFields) ∧ u = (s.advance dt).modSlot d n (s.tuneResults d n t))
        ∧ (t.crossings.length < t.periods + 3 → (s.advance dt).elapsed t.lastSwitch (25000 * t.timeout) = false → (s.advance dt).elapsed t.start (100000 * t.timeout) = true →
          exec (.tuneEnd dt d n) s = .next ((s.advance dt).abortTune d n 2 stModeForbids)))
  )

/-! ## The drives -/

/-- RESIDUE_ERR clears after 1,000 consecutive checked passes (R161). An injected error that the checker does not flag is a self-test failure of the die: event 0x0025,
and fence cause 0x04 for its portals; three flagged ones in a row end the failure (R162).

Faults of a driven leaf (R113, R114, R116, R127): a gate driver fault while GD_EN has been high for GD_EN_DELAY, two fast outputs above IOC_TRIP, a bus voltage above
VBUS_MAX or, for 10 ms of modulation, below VBUS_MIN, and 20 ms in the wrong direction set their bit of LD_FAULT, trip or brake the leaf, and are found as a fence cause of
the portal; the level of GD_FLT_N and a bus voltage within its limits are only noted. The bus is measured from its filter's outputs while the modulator clock runs.

Completed here: slotResidueClear, checkerSelfTest, gdFault, overcurrentTrip, vbusOver, vbusUnder, directionFault, datapathResidueClear. -/
def Obligations.LeafFaults : Prop :=
  (
  ∀ (dt : Nat) (d : PdId) (s : State),
    (∀ n, (s.slot d n).residueErr = true → 1000 ≤ (s.slot d n).checked → exec (.slotResidueClear dt d n) s
        = .next ((s.advance dt).modSlot d n fun x => { x with residueErr := false, checked := 0 }))
    ∧ (s.engines[d].testFail = false → s.engines[d].passes = 0 → exec (.checkerSelfTest dt d true) s = .next (s.advance dt))
    ∧ (s.engines[d].testFail = true → exec (.checkerSelfTest dt d true) s = .next { s.advance dt with engines := s.engines.set d { s.engines[d] with
        passes := s.engines[d].passes + 1, testFail := decide (s.engines[d].passes + 1 < 3) } })
    ∧ exec (.checkerSelfTest dt d false) s = .next (foldState ((List.finRange 8).filter fun p => pdOf p = d) (fun p t => t.fence p 0x04 (uEngine d) 0)
        ({ s.advance dt with engines := s.engines.set d { s.engines[d] with passes := 0, testFail := true } }.raiseAt (engineDie d) 37 0x0025 (uEngine d) 256))
  )
  ∧ (
  ∀ (dt : Nat) (p : PortalId) (l : LeafId) (s : State),
    (∀ low t, t = (s.advance dt).modLeaf p l (fun x => { x with gdFlt := low }) →
      (low = false → exec (.gdFault dt p ⟨l, low⟩) s = .next t)
      ∧ (low = true → s.driven p l → (s.leaf p l).pwm.enable → (s.advance dt).gates → (s.advance dt).elapsed (s.leaf p l).enableSince (100 * s.parN 0x2013 (uLeaf p l)) →
          (s.advance dt).elapsed s.claim.since (5000 + 100 * s.parN 0x2013 (uLeaf p l)) → exec (.gdFault dt p ⟨l, low⟩) s = .next (t.leafFault p l 0 true 0x03)))
    ∧ (∀ ph a b, s.driven p l → s.sdRuns p → (ph = false ∨ s.leafMode p l ≠ 2) → (s.par 0x2028 (uLeaf p l) : Rat) < |s.fastCurrent p l a| →
      (s.par 0x2028 (uLeaf p l) : Rat) < |s.fastCurrent p l b| → exec (.overcurrentTrip dt p l ph (a, b)) s = .next ((s.advance dt).leafFault p l 1 true 0x03))
    ∧ (∀ (y : Nat) (v : Rat) (t : State), v = (2 * (y : Rat) / (s.parN 0x2023 (uPortal p) : Rat) ^ 3 - 1) * (s.par 0x2024 (uPortal p) : Rat) →
      t = (s.advance dt).modPortal p (fun x => { x with vbus := v, vbusLow := if v < (s.par 0x2026 (uPortal p) : Rat) then some (x.vbusLow.getD (s.ts + BitVec.ofNat 56 dt)) else none }) →
      (s.sdRuns p = false → exec (.vbusOver dt p y) s = .next (s.advance dt) ∧ exec (.vbusUnder dt p y) s = .next (s.advance dt))
      ∧ (s.sdRuns p →
        ((s.par 0x2027 (uPortal p) : Rat) < v → exec (.vbusOver dt p y) s = .next (t.leavesFault p 2 true))
        ∧ (v ≤ (s.par 0x2027 (uPortal p) : Rat) → exec (.vbusOver dt p y) s = .next t)
        ∧ ((s.par 0x2026 (uPortal p) : Rat) ≤ v → exec (.vbusUnder dt p y) s = .next t)
        ∧ (∀ b m, v < (s.par 0x2026 (uPortal p) : Rat) → (s.portal p).vbusLow = some b → (s.advance dt).elapsed b 1000000 → (s.portal p).modSince = some m →
            (s.advance dt).elapsed m 1000000 → (s.portal p).modUntil = none → exec (.vbusUnder dt p y) s = .next (t.leavesFault p 3 false))))
    ∧ (∀ b, (s.leaf p l).dirBad = some b → (s.advance dt).elapsed b 2000000 → exec (.directionFault dt p l) s = .next ((s.advance dt).leafFault p l 8 false 0x02))
    ∧ ((s.leaf p l).dpBad = true → 1000 ≤ (s.leaf p l).checked → exec (.datapathResidueClear dt p l) s
        = .next ((s.advance dt).modLeaf p l fun x => { x with dpBad := false, checked := 0 }))
    ∧ ∀ b trip cause, s.leafFault p l b trip cause = (let t := s.modLeaf p l fun x => { x with fault := setBit x.fault b true }
        (if trip then t.leafTrip p l else t.faultBrake p l).fence p cause (uLeaf p l) 0)
  )

/-- Starting and braking (R104–R106, R110): after its delays STARTING leads to the wanted state, of a leaf with an incremental encoder that has not been aligned through
ALIGNING, and a gate driver that still shows its fault trips the leaf; ALIGNING takes the angle reference; BRAKE ends after 2 s, or after 100 ms of STILL.

A Hall edge to the next sector sets the angle at the boundary between the two, and the speed of the interval (R111); the third invalid code within 1 s is a fault of a
driven PMSM leaf (log 93); 50 ms without an edge put the angle to the centre of the sector.

Completed here: driveStartDelayEnd, alignTimeEnd, brakeEnd, hallEdge, hallTimeout. -/
def Obligations.DriveStarts : Prop :=
  (
  ∀ (dt : Nat) (p : PortalId) (l : LeafId) (s : State),
    ((s.leaf p l).drive = .starting → ((s.leaf p l).gdFlt = false ∨ (s.advance dt).gdWatched p l = false) →
      (s.advance dt).elapsed (s.leaf p l).driveSince (100 * (s.parN 0x2013 (uLeaf p l) + s.parN 0x2012 (uLeaf p l))) → (s.leaf p l).wanted ≠ .brake →
      ((s.leafMode p l ≠ 1 ∨ s.angleSource p l ≠ some 2 ∨ (s.leaf p l).aligned = true) →
        exec (.driveStartDelayEnd dt p l) s = .next ((s.advance dt).modulate p l (s.leaf p l).wanted))
      ∧ (s.leafMode p l = 1 → s.angleSource p l = some 2 → (s.leaf p l).aligned = false → ∃ x, exec (.driveStartDelayEnd dt p l) s
        = .next (((s.advance dt).modulate p l .aligning).modLeaf p l fun y => { y with alignX := x })))
    ∧ ((s.leaf p l).drive = .starting → (s.advance dt).elapsed (s.leaf p l).driveSince (100 * s.parN 0x2013 (uLeaf p l)) → (s.leaf p l).wanted = .brake →
      (((s.leaf p l).gdFlt = false ∨ (s.advance dt).gdWatched p l = false) → exec (.driveStartDelayEnd dt p l) s = .next ((s.advance dt).setDrive p l .brake))
      ∧ ((s.leaf p l).gdFlt = true → (s.advance dt).gdWatched p l = true → exec (.driveStartDelayEnd dt p l) s = .next ((s.advance dt).leafFault p l 0 true 0x03)))
    ∧ ((s.leaf p l).drive = .aligning → (s.advance dt).elapsed (s.leaf p l).driveSince (100000 * (s.drivePar p l 0x2007).toNat) → exec (.alignTimeEnd dt p l) s
        = .next (((s.advance dt).modLeaf p l fun y => { y with c0 := (s.fb p (fbOfLeaf l)).c, theta0 := 0, aligned := true }).modulate p l (s.leaf p l).wanted))
    ∧ ((s.leaf p l).drive = .brake → s.power.pfail = false → ((s.advance dt).elapsed (s.leaf p l).driveSince 200000000
        ∨ ((s.fb p (fbOfLeaf l)).still ∧ (s.advance dt).elapsed (s.fb p (fbOfLeaf l)).stillAt 10000000 ∧ (s.advance dt).elapsed (s.leaf p l).driveSince 10000000)) →
        exec (.brakeEnd dt p l) s = .next ((s.advance dt).setDrive p l .off))
  )
  ∧ (
  ∀ (dt : Nat) (p : PortalId) (l : LeafId) (s : State) (code : BitVec 3) (k : Nat),
    (∀ (j : Nat) (b : Ts), s.hallSector p l code = some k → (s.leaf p l).sector = some j → k = (j + 1) % 6 → (s.leaf p l).lastEdge = some b → (s.advance dt).ts ≠ b →
      ∃ t x, exec (.hallEdge dt p l code) s = .next t ∧ t = (s.advance dt).modLeaf p l (fun _ => x) ∧ x.sector = some k ∧ x.hallCode = code ∧ x.lastEdge = some (s.advance dt).ts
        ∧ x.thetaEdge = s.sectorCentre p l j + sixth / 2 ∧ x.theta = BitVec.ofInt 16 (quant (s.sectorCentre p l j + sixth / 2))
        ∧ x.edgeSpeed = sixth / (((s.advance dt).ts - b).toNat : Rat))
    ∧ (s.hallSector p l code = none → ∀ inv, inv = (s.advance dt).ts :: (s.leaf p l).invalid.filter (fun t => !(s.advance dt).elapsed t 100000001) →
      (inv.length < 3 → exec (.hallEdge dt p l code) s = .next ((s.advance dt).modLeaf p l fun y => { y with hallCode := code, invalid := inv }))
      ∧ (3 ≤ inv.length → s.leafMode p l = 1 → s.driven p l → exec (.hallEdge dt p l code) s
        = .next (((s.advance dt).modLeaf p l fun y => { y with hallCode := code, invalid := [] }).leafFault p l 6 false 0x02)))
    ∧ ∀ b, (s.leaf p l).sector = some k → (s.leaf p l).lastEdge = some b → (s.advance dt).elapsed b 5000000 → exec (.hallTimeout dt p l) s
        = .next ((s.advance dt).modLeaf p l fun y =>
          { y with thetaEdge := s.sectorCentre p l k, edgeSpeed := 0, theta := BitVec.ofInt 16 (quant (s.sectorCentre p l k)) })
  )

/-- A current tick (R112, R117–R120, R127, R186): it takes the samples, the angle and the currents of the rotor frame, runs the detector and the fence unit, sets the
references of the drive state, takes a residue mismatch of the datapath, the detector or the fence unit, ticks the two current slots in their order, and for a modulating
leaf gives the bridge the compare values, or the choppings of a brushed motor at every output of its filter. A compare value never leaves the range that the dead time
allows (R109).

The chopper (R120) drives below |i_ref| − h, freewheels above |i_ref| + h and keeps its phase between the two; a phase lasts 1 µs at least; at a change of sign it
freewheels, and drives the other diagonal once the current is below h. Its half-band is adapted once a millisecond from the drive phases counted, the outputs that
come with the row included, and stays within
CHOP_BAND_MIN and CHOP_BAND_MAX; below 5 phases it keeps its value (R121).

The profile generator (R124–R126): a holding leaf does not move its reference; a creeping one follows the leaf at −CREEP_SPEED; a moving one moves it by the
speed command, which changes in a tick by no more than the accelerations allow, until the target holds it.

Completed here: currentTick, chopAdapt, profileTick. -/
def Obligations.CurrentAndProfile : Prop :=
  (
  (∀ (dt : Nat) (p : PortalId) (l : LeafId) (m : CurrentSample) (s u v v1 v2 v3 w : State) (th : BitVec 16) (bdc : Bool) (bus ia ib : Rat), bdc = decide (s.leafMode p l = 2) →
    th = (s.advance dt).thetaNow p l → bus = s.busValue p m.yv →
    ia = (2 * (m.ya : Rat) / (s.parN 0x2021 (uLeaf p l) : Rat) ^ 3 - 1) * (s.par 0x2022 (uLeaf p l) : Rat) →
    ib = (2 * (m.yb : Rat) / (s.parN 0x2021 (uLeaf p l) : Rat) ^ 3 - 1) * (s.par 0x2022 (uLeaf p l) : Rat) →
    u = (if s.sdRuns p then ((s.advance dt).modPortal p fun x =>
          { x with vbus := bus, vbusLow := if bus < (s.par 0x2026 (uPortal p) : Rat) then some (x.vbusLow.getD (s.ts + BitVec.ofNat 56 dt)) else none }).modLeaf p l (fun x =>
          { x with theta := th, id := if bdc then 0 else quant (park ia ib th).1, iq := if bdc then quant ia else quant (park ia ib th).2
                   checked := if x.dpBad then (if m.focResidue then 0 else x.checked + 1) else x.checked })
        else (s.advance dt).modLeaf p l fun x => { x with theta := th, checked := if x.dpBad then (if m.focResidue then 0 else x.checked + 1) else x.checked }) →
    v = ((u.detTick p l).directRefs p l).modLeaf p l (fun y => { y with dirBad := none }) →
    ((v.leaf p l).drive ≠ .position ∨ 0 ≤ (v.leaf p l).vRef * v.vObs p l) → (v.leaf p l).drive ≠ .aligning →
    v1 = (if m.focResidue = true ∧ v.leafMode p l ≠ 2 ∧ (v.leaf p l).dpBad = false then v.datapathResidue p l else v) →
    v2 = (if m.detResidue then v1.fenceUnitFault p l false 1 else v1) → v3 = (if m.fenceResidue then v2.fenceUnitFault p l false 2 else v2) →
    w = (v3.slotTick (pdOf p) (leafSlot p l 0) m.dResidue).slotTick (pdOf p) (leafSlot p l 1) m.qResidue →
    exec (.currentTick dt p l m) s = .next (
      if (w.leaf p l).drive.modulating = false ∨ (w.leaf p l).efOverride = true then w
      else if w.leafMode p l = 2 then (if w.sdRuns p then w.modLeaf p l fun x => m.arm.foldl (fun y a => chopStep (w.ts - BitVec.ofNat 56 a.age) (w.phaseCurrent p l a.y) y) x else w)
      else w.focLoad p l))
  ∧ (∀ (n m d : Nat) (c : Int), shapeC n m d c ≤ n - (d + 4) / 5)
  ∧ ∀ (t : Ts) (i : Rat) (x : Leaf), ((t.since x.chopAt < 100 → chopStep t i x = x)
      ∧ (100 ≤ t.since x.chopAt → x.chopSign = sgn x.iqRef → 0 ≤ x.chopH → (chopStep t i x).chopSign = x.chopSign
        ∧ (|(x.iqRef : Rat)| + x.chopH < |i| → (chopStep t i x).chopDrive = false)
        ∧ (|i| < |(x.iqRef : Rat)| - x.chopH → (chopStep t i x).chopDrive = true)
        ∧ (|(x.iqRef : Rat)| - x.chopH ≤ |i| → |i| ≤ |(x.iqRef : Rat)| + x.chopH → chopStep t i x = x))
      ∧ (100 ≤ t.since x.chopAt → x.chopSign ≠ sgn x.iqRef →
        (x.chopDrive = true → (chopStep t i x).chopDrive = false ∧ (chopStep t i x).chopSign = x.chopSign ∧ (chopStep t i x).chopAt = t)
        ∧ (x.chopDrive = false → x.chopH ≤ |i| → chopStep t i x = x)
        ∧ (x.chopDrive = false → |i| < x.chopH → x.iqRef ≠ 0 → (chopStep t i x).chopDrive = true ∧ (chopStep t i x).chopSign = sgn x.iqRef ∧ (chopStep t i x).chopAt = t)))
  )
  ∧ (
  ∀ (dt : Nat) (p : PortalId) (l : LeafId) (arm : List SincSample) (s u : State) (n : Nat) (h lo hi : Rat),
    u = (if s.sdRuns p then (s.advance dt).modLeaf p l fun x =>
          arm.foldl (fun y a => chopStep (s.ts + BitVec.ofNat 56 dt - BitVec.ofNat 56 a.age) (s.phaseCurrent p l a.y) y) x
        else s.advance dt) →
    n = (u.leaf p l).chopCount → h = (u.leaf p l).chopH → lo = u.drivePar p l 0x2034 → hi = u.drivePar p l 0x2035 →
    (s.leafMode p l = 2 → (s.leaf p l).drive.modulating → (s.advance dt).elapsed (s.leaf p l).chopSince 100000 → ∃ t x, exec (.chopAdapt dt p l arm) s = .next t
      ∧ t = u.modLeaf p l (fun _ => x)
      ∧ x = { u.leaf p l with chopFreq := 1000 * n, chopH := x.chopH, chopCount := 0, chopSince := s.ts + BitVec.ofNat 56 dt } ∧ (n < 5 → x.chopH = h)
      ∧ (5 ≤ n → x.chopH = clampR lo hi (clampR (h / 2) (2 * h) (h * (1 + ((1000 * n : Rat) / (u.drivePar p l 0x2033 : Rat) - 1) / 4))) ∧ (lo ≤ hi → lo ≤ x.chopH ∧ x.chopH ≤ hi)))
    ∧ (s.leafMode p l ≠ 2 ∨ (s.leaf p l).drive.modulating = false ∨ (s.advance dt).elapsed (s.leaf p l).chopSince 100000 = false →
      exec (.chopAdapt dt p l arm) s = .next (s.advance dt))
  )
  ∧ (
  (∀ (dt : Nat) (p : PortalId) (l : LeafId) (s : State),
    ((s.leaf p l).drive = .position → (s.leaf p l).holding = true → exec (.profileTick dt p l) s = .next (s.advance dt))
    ∧ ((s.leaf p l).drive = .creep → exec (.profileTick dt p l) s = .next ((s.advance dt).modLeaf p l fun y =>
        { y with xRef := s.xObs p l, vCmd := -(s.latched p l 0x2068 : Rat) }))
    ∧ ((s.leaf p l).drive = .position → (s.leaf p l).holding = false → (∀ j, (s.slot (pdOf p) (leafSlot p l j)).tune = none) → (s.portal p).state ≠ .jog →
        (s.portal p).state ≠ .closing → exec (.profileTick dt p l) s = .next ((s.advance dt).profileMove p l none)))
  ∧ ∀ (p : PortalId) (l : LeafId) (s : State) (x y : Leaf) (a : Rat), x = s.leaf p l → x.carry = false → x.stopping = false →
      0 ≤ s.latched p l 0x2060 → 0 ≤ s.latched p l 0x2061 → 0 ≤ s.latched p l 0x2062 → 0 ≤ s.latched p l 0x2063 → 0 ≤ s.latched p l 0x2064 →
      a = max (max (s.latched p l 0x2060 : Rat) (s.latched p l 0x2061)) (max (max (s.latched p l 0x2062 : Rat) (s.latched p l 0x2063)) (s.latched p l 0x2064)) / 1000 →
      y = (s.profileMove p l none).leaf p l →
      (y.holding = true ∧ y.xRef = x.target ∧ y.vCmd = 0) ∨ (y.holding = x.holding ∧ y.xRef = x.xRef + y.vCmd / 10 ∧ |y.vCmd - x.vCmd| ≤ a)
  )

/-- Faults of a fitted step (R199, R214, R216, R219): the bridge's fault line while EN has been high for 20 µs, two fast outputs above its limit, a modulator clock that is
missing or off its frequency (R114), a stuck stream, a lost position and a homing that finds no end set their bit of STEP_FAULT, stop the step at once, and are found as a
fence cause of the portal. A lost or stuck modulator of the leaves is a fault of the leaves (R127).

The step's motion (R201–R217): a step at rest is only recomputed; a moving one takes the speed of its profile, quantised, and its velocity word; a homing one goes off the home
input and then towards it; the home input sets the position to HOME_OFFSET, ends the uncertainty, raises event 0x0330 and goes on with the sequencer's task; a jog
towards stowed of an uncertain step stops at it. A confirmation that does not come within 200 ms leaves the position uncertain.

The coils (R197, R207, R208): in OFF, SHORTED and TRIPPED all lines are low; in quiet mode the two lines of a coil switch with duties 1/2 ± u/2; in strong mode a coil that
drives has one line high, decays at its reference after the blanking time, and drives again after STEP_T_OFF. QUIET_TRIM (R207): the outputs of the millisecond give the
measured currents, and while the step drives with TRIM_ENABLE and not at the strong current, the gain moves by at most 1/64 of itself towards the set current, within 1/2
to 2.

Completed here: stepBridgeFault, sdClock, sdStuck, posDeviation, homingFailure, stepRecompute, homeInputInactive, homeInputAccepted, stepStill, f2ConfirmWindowEnd,
quietTrim. -/
def Obligations.StepMoves : Prop :=
  (
  ∀ (dt : Nat) (p : PortalId) (s : State),
    (∀ c y1 y2, s.stepClock p → (s.par 0x5005 (uStep p) : Rat) < |s.coilFast p y1| → (s.par 0x5005 (uStep p) : Rat) < |s.coilFast p y2| →
      exec (.stepBridgeFault dt p (.fast c) y1 y2) s = .next ((s.advance dt).stepFault p 1 true 0x03))
    ∧ (∀ y1 y2, exec (.stepBridgeFault dt p (.line false) y1 y2) s = .next ((s.advance dt).modStep p fun x => { x with fltIn := false }))
    ∧ (s.stepFitted p → (s.advance dt).stepEn p → (s.advance dt).elapsed (s.stepOf p).enSince 2000 → (s.advance dt).elapsed s.claim.since 7000 →
        ∀ y1 y2, exec (.stepBridgeFault dt p (.line true) y1 y2) s = .next (((s.advance dt).modStep p fun x => { x with fltIn := true }).stepFault p 0 true 0x03))
    ∧ (∀ n khz : Nat, clockPasses none khz = false ∧ (clockPasses (some n) khz = true ↔ 98 * khz ≤ 1000 * n ∧ 1000 * n ≤ 102 * khz))
    ∧ (s.stepClock p → exec (.sdStuck dt p 2) s = .next ((s.advance dt).stepFault p 3 false 0x03)
        ∧ ∀ c ok t, ok = clockPasses c (s.parN 0x5002 (uStep p)) → t = (s.advance dt).modStep p (fun x => { x with clockOk := ok }) →
          (ok = true ∨ (s.stepOf p).fault.getLsbD 2 = true → exec (.sdClock dt p ⟨true, c⟩) s = .next t)
          ∧ (ok = false → (s.stepOf p).fault.getLsbD 2 = false → exec (.sdClock dt p ⟨true, c⟩) s = .next (t.stepFault p 2 false 0x03)))
    ∧ (s.sdRuns p → (∀ c ok t, ok = clockPasses c (s.parN 0x2020 (uPortal p)) → t = (s.advance dt).modPortal p (fun x => { x with sdClockOk := ok }) →
          exec (.sdClock dt p ⟨false, c⟩) s = .next (if ok then t else t.leavesFault p 4 false))
        ∧ ∀ l : LeafId, s.driven p l → exec (.sdStuck dt p ⟨l.val, by omega⟩) s = .next ((s.advance dt).leafFault p l 5 false 0x03))
    ∧ (∀ b, (s.stepOf p).devSince = some b → (s.advance dt).elapsed b 2000000 → (s.stepOf p).drive = .moving →
        exec (.posDeviation dt p) s = .next ((s.advance dt).stepFault p 4 false 0x10))
    ∧ (∀ t x, t = (s.advance dt).stepCatchUp p → x = t.stepOf p → x.drive = .homing → ∀ travel : Rat,
        travel = |(((x.phi - x.phaseStart).toInt : Rat) * (t.parN 0x5000 (uStep p) : Rat) / 2560000)| →
        (x.phase = 2 → t.stepPar p 0x5034 < travel → exec (.homingFailure dt p) s = .next (t.stepFault p 5 false 0x10))
        ∧ (x.phase = 2 → travel ≤ t.stepPar p 0x5034 → t.timedOut p 7 x.homeStart = true → exec (.homingFailure dt p) s = .next (t.stepFault p 6 false 0x10))
        ∧ (x.phase = 1 → t.timedOut p 7 x.homeStart = true → exec (.homingFailure dt p) s = .next (t.stepFault p 6 false 0x10))
        ∧ (x.phase = 1 → x.homeInput = true → t.stepPar p 0x5035 ≤ travel → t.timedOut p 7 x.homeStart = false →
          exec (.homingFailure dt p) s = .next (t.stepFault p 7 false 0x10)))
    ∧ ∀ b trip cause, s.stepFault p b trip cause = (let t := s.modStep p fun x => { x with fault := setBit x.fault b true }
        (t.stepStop p (if trip then .tripped else if (t.pdMode p).runs then t.standstill p else .off)).fence p cause (uStep p) 0)
  )
  ∧ (
  ∀ (dt : Nat) (p : PortalId) (fast : List FastSample) (s t r u h : State) (x : Step), t = (s.advance dt).stepCatchUp p → x = t.stepOf p →
    r = (t.modStep p fun y => { y with devSince := none }).chopCoils p fast → h = ((s.advance dt).homeLevel p true).stepCatchUp p →
    (x.drive ≠ .moving → x.drive ≠ .homing → exec (.stepRecompute dt ⟨p, fast⟩) s = .next (r.coilMode p s.ts))
    ∧ (x.drive = .homing → ∀ ph v, ph = (if x.phase = 1 ∧ x.homeInput = false ∧ t.ran x.homeClear 1000000 then 2 else x.phase) →
        v = (if ph = 1 then t.stepPar p 0x5032 else -t.stepPar p 0x5032) → exec (.stepRecompute dt ⟨p, fast⟩) s = .next ((r.modStep p fun y => { y with
          phase := ph, phaseStart := if ph = y.phase then y.phaseStart else y.phi, r := 256, pendingR := none, v := v
          strongWant := t.strongFor p (t.stepPar p 0x5032) y.strongWant, w := velWord (t.stepPar p 0x5032) 256, acc := if y.v * v < 0 ∨ y.v = 0 then 0 else y.acc }).coilMode p s.ts))
    ∧ (x.drive = .moving → x.v ≠ 0 → t.f2InUse p = false → ∀ v fresh, t.stepSpeed p (if x.job = 3 then t.stepJogCap p else (t.par 0x5013 (uStep p) : Rat)) = (v, fresh) →
        ∃ w y, exec (.stepRecompute dt ⟨p, fast⟩) s = .next (w.coilMode p s.ts) ∧ w = r.modStep p (fun _ => y) ∧ y.v = stepQuant v ∧ y.w = velWord |stepQuant v| y.r ∧ y.phi = x.phi
          ∧ y.phiT = x.phiT ∧ y.drive = .moving ∧ y.devSince = none ∧ y.strongWant = t.strongFor p |stepQuant v| x.strongWant)
    ∧ exec (.homeInputInactive dt p) s = .next ((((s.advance dt).homeLevel p false).stepCatchUp p).modStep p fun y =>
        { y with homeInput := false, homeClear := some (s.ts + BitVec.ofNat 56 dt) })
    ∧ (u = h.modStep p (fun y => { y with homeInput := true, homeClear := none }) →
      (x.drive ≠ .homing → (x.drive ≠ .moving ∨ x.job ≠ 3 ∨ x.uncertain = false ∨ 0 ≤ x.v) → exec (.homeInputAccepted dt p) s = .next u)
      ∧ (x.drive = .moving → x.job = 3 → x.uncertain = true → x.v < 0 → ∃ n : Int, exec (.homeInputAccepted dt p) s
          = .next (u.modStep p fun y => { y with phiT := y.phi - BitVec.ofInt 32 n }) ∧ abs ((n : Rat) - 256 * brakeDist (t.stepPar p 0x5011) (t.stepPar p 0x5012) (t.stepPar p 0x5016) (t.stepPar p 0x5017) (abs x.v)) < 1)
      ∧ (x.drive = .homing → x.phase ≠ 2 → exec (.homeInputAccepted dt p) s = .next u)
      ∧ (x.drive = .homing → x.phase = 2 → ∃ (w : State) (y : Step), exec (.homeInputAccepted dt p) s = .next (w.stepTask p (x.job = 1)) ∧ y = w.stepOf p ∧ y.homed = true ∧ y.uncertain = false
          ∧ y.phi - y.phi0 = BitVec.ofInt 32 (t.fineOf p (t.stepPar p 0x5033))
          ∧ y.homeCorr = (if x.homed then (x.phi - x.phi0).toInt - t.fineOf p (t.stepPar p 0x5033) else 0)))
    ∧ (t.stepStill p → t.f2Confirms p → exec (.stepStill dt p) s = .next (t.adoptF2 p))
    ∧ (∀ b n, x.confirm = some (b, n) → t.elapsed b 20000000 → exec (.f2ConfirmWindowEnd dt p) s
        = .next (if t.f2Confirms p then t.adoptF2 p else (t.stepUncertain p n (t.portal p).state.code).homeAgain p))
  )
  ∧ (
  (∀ (p : PortalId) (s : State) (b : Bool) (x : Step) (c : Coil) (u : Rat), x = s.stepOf p → c = (if b then x.coilB else x.coilA) →
    u = s.quietAmp p * (if b then sinR x.theta else cosR x.theta) →
    (x.drive = .off ∨ x.drive = .shorted ∨ x.drive = .tripped → s.coilLines p b = (.low, .low))
    ∧ (x.drive = .moving ∨ x.drive = .homing ∨ x.drive = .holding →
      (x.strong = false → s.coilLines p b = (.pwm (1 / 2 + u / 2), .pwm (1 / 2 - u / 2)))
      ∧ (x.strong = true → c.phase = .drive → s.coilLines p b = (if 0 ≤ c.sgn then (.high, .low) else (.low, .high)))))
  ∧ (∀ (c : Coil) (i ref amp tOff tBlank : Rat) (t : Ts),
    (c.phase = .drive → 0 ≤ c.sgn * refSign ref → tBlank ≤ (t.since c.since : Rat) * 10 → |ref| ≤ |i| → c.sample i ref amp tOff tBlank t = { c with phase := .decay, since := t })
    ∧ (c.phase = .drive → 0 ≤ c.sgn * refSign ref → (t.since c.since : Rat) * 10 < tBlank ∨ |i| < |ref| → c.sample i ref amp tOff tBlank t = c)
    ∧ (c.phase = .drive → c.sgn * refSign ref < 0 → c.sample i ref amp tOff tBlank t = { c with phase := .cross, since := t })
    ∧ (c.phase = .cross → |i| < amp * 2 / 100 → c.sample i ref amp tOff tBlank t = { c with phase := .drive, since := t, sgn := refSign ref })
    ∧ (c.phase = .decay → ∀ n : Nat, n = (tOff / 10).floor.toNat → n ≤ t.since c.since → c.offEnd ref tOff t = { c with phase := .drive, since := c.since + BitVec.ofNat 56 n, sgn := refSign ref }))
  ∧ ∀ (dt : Nat) (p : PortalId) (ys : List (Nat × Nat)) (a b : Nat) (s : State), s.stepClock p → ys.getLast? = some (a, b) → ∃ t g, exec (.quietTrim dt p ys) s = .next t
    ∧ t = (s.advance dt).modStep p (fun y => { y with
        ia := quant (s.coilSinc3 p a), ib := quant (s.coilSinc3 p b), g := g
        iMeas := (ys.map fun y => sqrtR (s.coilSinc3 p y.1 * s.coilSinc3 p y.1 + s.coilSinc3 p y.2 * s.coilSinc3 p y.2)).sum / ys.length })
    ∧ (((s.stepOf p).drive = .off ∨ (s.stepOf p).drive = .shorted ∨ (s.stepOf p).drive = .tripped ∨ (s.stepOf p).strong = true ∨ s.stepPar p 0x5028 ≠ 1) → g = (s.stepOf p).g)
    ∧ (((s.stepOf p).drive = .moving ∨ (s.stepOf p).drive = .holding ∨ (s.stepOf p).drive = .homing) → (s.stepOf p).strong = false → s.stepPar p 0x5028 = 1 →
        1 / 2 ≤ (s.stepOf p).g → (s.stepOf p).g ≤ 2 → 1 / 2 ≤ g ∧ g ≤ 2 ∧ 63 * (s.stepOf p).g ≤ 64 * g ∧ 64 * g ≤ 65 * (s.stepOf p).g)
  )

/-! ## Feedback -/

/-- New levels of the pins of a running interface (R227, R228): a legal transition changes the count by its direction and ends STILL; an illegal one is counted, and four of
them within 1,024 counts are a fault; levels that give no count change nothing else.

Counting of quadrature levels (R227): a change of one level counts one, the change back counts one the other way, a change of both is illegal.

Completed here: fbCountChange. -/
def Obligations.FeedbackCounts : Prop :=
  (
  ∀ (dt : Nat) (p : PortalId) (f : FbId) (a b z : Bool) (s u : State), u = (s.advance dt).modFb p f (fun y =>
      { y with a := a, b := b, z := z, zAt := if z = y.z then y.zAt else some (s.ts + BitVec.ofNat 56 dt) }) →
    (s.fbRuns p f = false → exec (.fbCountChange dt p f a b z) s = .next u)
    ∧ (s.fbRuns p f = true → ∀ r, r = countOf (s.fbType p f) (s.fb p f).a (s.fb p f).b (s.fb p f).z a b z →
      (r = some 0 → exec (.fbCountChange dt p f a b z) s = .next u)
      ∧ (∀ d, r = some d → d ≠ 0 → ∃ t x, exec (.fbCountChange dt p f a b z) s = .next t ∧ x = t.fb p f ∧ x.c = (s.fb p f).c + BitVec.ofInt 32 d
          ∧ x.legal = (s.fb p f).legal + 1 ∧ x.still = false ∧ x.lastDir = d ∧ x.lastChange = some (s.ts + BitVec.ofNat 56 dt) ∧ x.a = a ∧ x.b = b ∧ x.z = z)
      ∧ (r = none → ∀ t, t = (u.modFb p f fun y => { y with
            illegal := min 65535 (y.illegal + 1), illegalAt := (y.legal :: y.illegalAt).take 4, okSince := y.okSince.set 0 (some (s.ts + BitVec.ofNat 56 dt))
            badAt := some (s.ts + BitVec.ofNat 56 dt) }).markSet 0x6086 (uFb p f) 0 →
          ((s.fb p f).illegalAt.length < 3 → exec (.fbCountChange dt p f a b z) s = .next t)
          ∧ (∀ i j k l, (s.fb p f).illegalAt = i :: j :: k :: l → (s.fb p f).legal - k < 1024 → exec (.fbCountChange dt p f a b z) s = .next (t.fbLose p f 0))))
  )
  ∧ (
  ∀ a b z a' b' z' : Bool, (∀ d, countOf 1 a b z a' b' z' = some d → countOf 1 a' b' z' a b z = some (-d) ∧ |d| ≤ 1) ∧ (countOf 1 a b z a' b' z' = none ↔ a ≠ a' ∧ b ≠ b')
    ∧ countOf 1 false false z true false z' = some 1 ∧ countOf 1 true false z true true z' = some 1 ∧ countOf 1 true true z false true z' = some 1
    ∧ countOf 1 false true z false false z' = some 1
  )

/-- A value in Gray code decodes to itself (R230).

SSI frames (R230, R231): too few edges or a low line is a bad frame, and so is a jump beyond SSI_JUMP_MAX; the third bad one in a row is a fault. A good frame moves the count by the
wrapped difference of its value. Completed here: ssiFrame. -/
def Obligations.SsiFrames : Prop :=
  (
  (∀ n b : Nat, b < 2 ^ n → grayDecode n (b ^^^ (b / 2)) = b)
  ∧ ∀ (s u : State) (p : PortalId) (f : FbId) (b : Nat), u = s.modFb p f (fun x =>
      { x with ssiBad := x.ssiBad + 1, zeroErr := true, okSince := (x.okSince.set 3 none).set 4 none }) →
    ((s.fb p f).ssiBad < 2 → s.ssiBadFrame p f b = u) ∧ (2 ≤ (s.fb p f).ssiBad → s.ssiBadFrame p f b = u.fbFault p f b)
  )
  ∧ (
  ∀ (dt : Nat) (p : PortalId) (f : FbId) (raw : BitVec 32) (edges : Nat) (hi : Bool) (s : State) (n v : Nat), s.fbRuns p f = true → s.fbType p f = 5 → n = s.parN 0x6020 (uFb p f) →
    v = (if s.parN 0x6021 (uFb p f) = 1 then grayDecode n (raw.toNat % 2 ^ n) else raw.toNat % 2 ^ n) →
    ((edges < n + 1 ∨ hi = false) → exec (.ssiFrame dt p f raw edges hi) s = .next ((s.advance dt).ssiBadFrame p f 3))
    ∧ (n + 1 ≤ edges → hi = true →
      ((s.fb p f).ssiPrev = none → ∃ t, exec (.ssiFrame dt p f raw edges hi) s = .next t ∧ (t.fb p f).c = BitVec.ofNat 32 v ∧ (t.fb p f).ssiPrev = some v
          ∧ (t.fb p f).referenced = true ∧ (t.fb p f).ssiBad = 0)
      ∧ ∀ v0, (s.fb p f).ssiPrev = some v0 →
        ((s.parN 0x6026 (uFb p f) : Int) < |wrapS n ((v : Int) - v0)| → exec (.ssiFrame dt p f raw edges hi) s = .next ((s.advance dt).ssiBadFrame p f 4))
        ∧ (|wrapS n ((v : Int) - v0)| ≤ (s.parN 0x6026 (uFb p f) : Int) → ∃ t, exec (.ssiFrame dt p f raw edges hi) s = .next t
          ∧ (t.fb p f).c = (s.fb p f).c + BitVec.ofInt 32 (wrapS n ((v : Int) - v0)) ∧ (t.fb p f).ssiPrev = some v ∧ (t.fb p f).ssiBad = 0))
  )

/-- The observer (R237, R238, R240): at STILL it stands at the measured position; while it seeds only its position follows; else it is advanced by the tracking error, and an error
above TRACK_MAX is a fault. T_STILL without a count change sets STILL.

References and faults of an interface (R233, R235, R241, R248): an edge of Z to its active level, after the count change of its sample, is an index; in a sample with an
illegal transition it only discards the span. An index in INDEX_MODE 1, or the first one after FB_ARM in INDEX_MODE 2, and the closed contact with STILL for 100 ms take
their reference, the index before the contact; a reference makes the position the one given; a fault clears after its condition has held for 100 ms. The echo moves its
lines by one place (R242).

Completed here: observerTick, tStillExpiry, indexEdge, closedContactReference, fbFaultClear, echoOutputStep. -/
def Obligations.ObserverTracks : Prop :=
  (
  ∀ (dt : Nat) (p : PortalId) (f : FbId) (s : State), s.fbRuns p f = true →
    ((s.fb p f).still = true → ∃ t, exec (.observerTick dt p f) s = .next t ∧ (t.fb p f).xHat = (s.fbMeas p f : Rat) ∧ (t.fb p f).vHat = 0 ∧ (t.fb p f).aHat = 0
      ∧ (t.fb p f).c = (s.fb p f).c ∧ (t.fb p f).fault = (s.fb p f).fault)
    ∧ ((s.fb p f).still = false → (s.fb p f).seeding = false → ∀ (e w : Rat), e = (if (s.fb p f).zeroErr then 0 else (s.fbMeas p f : Rat) - (s.fb p f).xHat) →
        w = 2 * piR * (s.parN 0x6003 (uFb p f) : Rat) → |e| ≤ (s.parN 0x6005 (uFb p f) : Rat) → ∃ t x, exec (.observerTick dt p f) s = .next t ∧ x = t.fb p f
        ∧ x.aHat = (s.fb p f).aHat + w ^ 3 * e / 20000 ∧ x.vHat = (s.fb p f).vHat + (x.aHat + 3 * w ^ 2 * e) / 20000
        ∧ x.xHat = (s.fb p f).xHat + (x.vHat + 3 * w * e) / 20000 ∧ x.zeroErr = false)
    ∧ ((s.fb p f).still = false → (s.fb p f).seeding = false → (s.fb p f).zeroErr = false → (s.parN 0x6005 (uFb p f) : Rat) < |(s.fbMeas p f : Rat) - (s.fb p f).xHat| →
        ∃ t y, exec (.observerTick dt p f) s = .next (t.fbLose p f 2) ∧ t = ((s.advance dt).modFb p f fun _ => y).lockWatch p ∧ y.c = (s.fb p f).c
          ∧ y.fault = (s.fb p f).fault ∧ y.referenced = (s.fb p f).referenced)
    ∧ ∀ b, (s.fb p f).still = false → (s.fb p f).lastChange = some b → (s.advance dt).elapsed b (100000 * s.parN 0x6004 (uFb p f)) → exec (.tStillExpiry dt p f) s
        = .next (((s.advance dt).modFb p f fun y => { y with
          still := true, stillAt := s.ts + BitVec.ofNat 56 dt, seeding := false, xHat := (s.fbMeas p f : Rat), vHat := 0, aHat := 0
          wake := some (y.seeding, y.xHat, y.vHat, y.aHat) }).contactWatch p)
  )
  ∧ (
  ∀ (dt : Nat) (p : PortalId) (f : FbId) (s : State),
    (∀ a b z u, u = (s.advance dt).fbSample p f a b z →
      (u.fbRuns p f = false ∨ u.fbType p f = 4 ∨ u.fbType p f = 5 ∨ z ≠ u.indexLevel p f ∨ (u.fb p f).zAt ≠ some u.ts → exec (.indexEdge dt p f ⟨a, b, z⟩) s = .next u)
      ∧ (u.fbRuns p f = true → u.fbType p f ≠ 4 → u.fbType p f ≠ 5 → z = u.indexLevel p f → (u.fb p f).zAt = some u.ts →
        ((u.fb p f).badAt = some u.ts → exec (.indexEdge dt p f ⟨a, b, z⟩) s = .next (u.modFb p f fun x => { x with zAt := none, spanUp := true, spanDown := true }))
        ∧ ((u.fb p f).badAt ≠ some u.ts → ∀ t, t = (u.modFb p f fun x => { x with zAt := none }).lineCount p f →
          (t.parN 0x6010 (uFb p f) = 0 → exec (.indexEdge dt p f ⟨a, b, z⟩) s = .next t)
          ∧ (t.parN 0x6010 (uFb p f) = 1 → exec (.indexEdge dt p f ⟨a, b, z⟩) s = .next (t.indexReference p f))
          ∧ (t.parN 0x6010 (uFb p f) = 2 → (t.fb p f).armed = true → (t.fb p f).armedAt ≠ t.ts → exec (.indexEdge dt p f ⟨a, b, z⟩) s
            = .next ((t.modFb p f fun y => { y with armed := false }).indexReference p f))
          ∧ (t.parN 0x6010 (uFb p f) = 2 → (t.fb p f).armed = false → exec (.indexEdge dt p f ⟨a, b, z⟩) s = .next t))))
    ∧ ((∀ k c e, (s.fb p f).contactRef = some (k, c, e) → k ≠ s.ts) → s.indexReference p f = s.fbReference p f (s.par 0x6012 (uFb p f)) 0)
    ∧ (∀ l b, f = fbOfLeaf l → s.fbRuns p f = true → s.fbType p f ≠ 5 → s.parN 0x6006 (uFb p f) = 1 → (s.fb p f).referenced = false → (s.fb p f).contactSince = some b →
        (s.advance dt).elapsed b 10000000 → exec (.closedContactReference dt p l) s = .next (((s.advance dt).modFb p f fun x =>
          { x with contactRef := some (s.ts + BitVec.ofNat 56 dt, x.c0, x.everRef) }).fbReference p f 0 1))
    ∧ (∀ pos src t, t = s.fbReference p f pos src → (s.fb p f).still = true → (t.fb p f).c = (s.fb p f).c ∧ (t.fb p f).referenced = true
        ∧ (t.fb p f).c0 = (s.fb p f).c - BitVec.ofInt 32 (s.fbSign p f * s.fbCounts p f pos) ∧ (t.fb p f).fault.getLsbD 5 = false)
    ∧ (∀ (n : Fin 6) (b : Ts), n.val ≠ 5 → n.val ≠ 1 → (s.fb p f).okSince[n] = some b → (s.advance dt).elapsed b 10000000 → exec (.fbFaultClear dt p f n) s
        = .next ((s.advance dt).modFb p f fun y => y.clearFault n.val (s.ts + BitVec.ofNat 56 dt)))
    ∧ ((s.fb p f).lastBad = false → exec (.fbFaultClear dt p f 1) s = .next ((s.advance dt).modFb p f fun y => y.clearFault 1 (s.ts + BitVec.ofNat 56 dt)))
    ∧ ((s.fb p f).referenced = true → exec (.fbFaultClear dt p f 5) s = .next ((s.advance dt).modFb p f fun y => y.clearFault 5 (s.ts + BitVec.ofNat 56 dt)))
    ∧ ((s.portal p).echo.backlog ≠ 0 → (s.portal p).echo.lastEdge = none → (s.parNames 0x6030 (uPortal p)).isSome → ∃ t e, exec (.echoOutputStep dt p) s = .next t
        ∧ t = (s.advance dt).modPortal p (fun x => { x with echo := e }) ∧ e.backlog = (s.portal p).echo.backlog - sgn (s.portal p).echo.backlog
        ∧ e.ab = ((s.portal p).echo.ab + (if 0 < (s.portal p).echo.backlog then 1 else 3)) % 4 ∧ e.lastEdge = some (s.ts + BitVec.ofNat 56 dt) ∧ e.acc = (s.portal p).echo.acc)
  )

/-! ## Obstacles and fences -/

/-- A full confirm counter of a present leaf is a declaration, with the threshold clamped (R177, R178), in STANDBY only a new count. An energy above its limit overrides the phase
lines of a leaf that is neither OFF nor TRIPPED, or shuts both valves, from then on for at least 2 ms, until the energy has fallen to 0.81 of the limit (R181–R183, R185).
A failed shadow pass brakes the leaf and is found as a fence cause; the third pass after it ends the mark (R186). After 256 updates the map is saved in the older copy
(R174).

The fences bound what the loops may ask for: the current reference never leaves the force-fence limit (R179), the speed reference never leaves the energy-fence speed (R181).

Completed here: obstacleDeclared, energyFenceBrake, energyBrakeRelease, fenceSelfTest, mapSave. -/
def Obligations.ObstacleReactions : Prop :=
  (
  ∀ (dt : Nat) (p : PortalId) (l : LeafId) (s : State),
    (20 * (s.latched p l 0x4016).toNat ≤ (s.leaf p l).det.confirm → (s.leaf p l).det.confirm ≠ 0 → s.leafPresent p l →
      (s.mode = .standby → exec (.obstacleDeclared dt p l) s = .next ((s.advance dt).modDet p l fun d => { d with confirm := 0 }))
      ∧ (s.mode ≠ .standby → ∃ t d, exec (.obstacleDeclared dt p l) s = .next t ∧ t = ((s.advance dt).modDet p l fun _ => d).notClean p ∧ d.declared = true ∧ d.confirm = 0
          ∧ d.status.getLsbD 3 = true ∧ d.status.getLsbD 4 = true ∧ d.declClamp = some (s.thrNow p l (s.leaf p l).det.dir ((s.leaf p l).det.status.getLsbD 1))))
    ∧ (s.leafPresent p l → (s.advance dt).gates → (s.eEff p l : Rat) < s.eKin p l → (s.leaf p l).det.efSince = none →
      (s.pneumatic p = false → (s.leaf p l).drive ≠ .off → (s.leaf p l).drive ≠ .tripped → ∃ t : State, exec (.energyFenceBrake dt p l) s = .next (t.syncSlots p l) ∧ (t.leaf p l).efOverride = true
        ∧ (t.leaf p l).det.efSince = some (s.ts + BitVec.ofNat 56 dt) ∧ (t.leaf p l).det.status.getLsbD 7 = true ∧ (t.leaf p l).det.status.getLsbD 9 = true)
      ∧ (s.pneumatic p = true → ∃ t : State, exec (.energyFenceBrake dt p l) s = .next (t.chansSync p) ∧ (t.portal p).valveOff[l] = true
        ∧ (t.leaf p l).det.efSince = some (s.ts + BitVec.ofNat 56 dt)))
    ∧ (∀ b, (s.leaf p l).det.efSince = some b → (s.advance dt).elapsed b 200000 → 100 * s.eKin p l ≤ 81 * (s.eEff p l : Rat) → ∃ t : State,
        exec (.energyBrakeRelease dt p l) s = .next (t.syncSlots p l) ∧ (t.leaf p l).efOverride = false ∧ (t.portal p).valveOff[l] = false ∧ (t.leaf p l).det.efSince = none)
    ∧ ((s.leaf p l).det.status.getLsbD 13 = false → exec (.fenceSelfTest dt p l true) s = .next (s.advance dt))
    ∧ ((s.leaf p l).det.status.getLsbD 13 = true → ∃ t d, exec (.fenceSelfTest dt p l true) s = .next t ∧ t = (s.advance dt).modDet p l (fun _ => d)
        ∧ d.status.getLsbD 13 = decide ((s.leaf p l).det.passes < 2))
    ∧ exec (.fenceSelfTest dt p l false) s = .next ((s.advance dt).fenceUnitFault p l true 2)
    ∧ ((s.leaf p l).det.savedAt + 256 ≤ (s.leaf p l).det.updates → s.power.pfail = false → ∃ t d, exec (.mapSave dt p l) s = .next t ∧ t = (s.advance dt).modDet p l (fun _ => d)
        ∧ d.copies[(s.leaf p l).det.nextCopy % 2]? = some (some (s.mapCopy p l)) ∧ d.copies[1 - (s.leaf p l).det.nextCopy % 2]? = (s.leaf p l).det.copies[1 - (s.leaf p l).det.nextCopy % 2]?
        ∧ d.savedAt = (s.leaf p l).det.updates)
  )
  ∧ (
  (∀ (s : State) (p : PortalId) (l : LeafId) (i : Int), 0 ≤ s.ffLimit p l → -s.ffLimit p l ≤ (s.ffClamp p l i).1 ∧ (s.ffClamp p l i).1 ≤ s.ffLimit p l
    ∧ (-s.ffLimit p l ≤ i → i ≤ s.ffLimit p l → (s.ffClamp p l i).1 = i))
  ∧ ∀ (s : State) (p : PortalId) (l : LeafId) (v : Rat), -(s.vE p l : Rat) ≤ (s.efClamp p l v).1 ∧ (s.efClamp p l v).1 ≤ (s.vE p l : Rat)
    ∧ (-(s.vE p l : Rat) ≤ v → v ≤ (s.vE p l : Rat) → (s.efClamp p l v).1 = v)
  )

/-! ## Safety functions -/

/-- Safety inputs (R290–R294). A level found before the first sample is only taken; a level that is already accepted changes nothing; a change after it is accepted and reported, with
the watches of the lock and of the closed contact. A pair DISCREPANT for SI_DISC_TIME, and a plausibility check whose condition has lasted 200 ms, set their bit; the bit clears
when the pair has agreed, or the condition been absent, for 100 ms. Setting a bit is found as fence cause 0x06 of a present portal.

Zero speed and general-purpose inputs (R69, R295, R320). A level of the zero-speed pair is taken, and event 0x002E is raised when zero speed changes between confirmed and not
confirmed; a pair that has been equal for ZS_DISC_TIME is a fault, which withholds zero speed until the pair has agreed for 1 s. A changed GPI is reported when its bit of
GPI_EVT_ENABLE is set.

Completed here: safetyInputChange, siDiscrepancy, siDiscrepancyClear, siPlausibility, siPlausibilityClear, zsInputChange, zsDiscrepancy, zsFaultClear, gpiChange. -/
def Obligations.SafetyInputs : Prop :=
  (
  ∀ (dt : Nat) (p : PortalId) (n : Fin 12) (level : Bool) (k chk : Fin 3) (s : State),
    ((s.portal p).si[n] = level → exec (.safetyInputChange dt p n level) s = .next (s.advance dt))
    ∧ ((s.portal p).siAdopted = false → ∃ t, exec (.safetyInputChange dt p n level) s = .next t ∧ (t.portal p).si[n] = level ∧ t.waiting = s.waiting ∧ t.dies = (s.advance dt).dies)
    ∧ ((s.portal p).siAdopted = true → (s.portal p).si[n] ≠ level → ∃ t : State, exec (.safetyInputChange dt p n level) s = .next (((t.inputEvent p n level).lockWatch p).contactWatch p)
        ∧ (t.portal p).si = (s.portal p).si.set n level ∧ (∀ m : Fin 12, m ≠ n → (t.portal p).si[m] = (s.portal p).si[m]))
    ∧ ((s.portal p).siAdopted = true → s.pairSt p k = 2 → (s.advance dt).elapsed (s.portal p).pairSince[k] (100000 * s.parN 0x8004 (uPortal p)) →
        exec (.siDiscrepancy dt p k) s = .next ((s.advance dt).siFaultSet p k 0))
    ∧ ((s.portal p).siAdopted = true → s.pairSt p k ≠ 2 → (s.advance dt).elapsed (s.portal p).pairSince[k] 10000000 →
        exec (.siDiscrepancyClear dt p k) s = .next ((s.advance dt).siFaultClear p k))
    ∧ (∀ b, s.implausible p chk = true → (s.portal p).plaus[chk] = (true, b) →
        ((s.advance dt).elapsed b 20000000 = true → exec (.siPlausibility dt p chk) s = .next (((s.advance dt).plausWatch p).siFaultSet p (3 + chk) 0))
        ∧ ((s.advance dt).elapsed b 20000000 = false → exec (.siPlausibility dt p chk) s = .next ((s.advance dt).plausWatch p)))
    ∧ (∀ b, s.implausible p chk = false → (s.portal p).plaus[chk] = (false, b) →
        ((s.advance dt).elapsed b 10000000 = true → exec (.siPlausibilityClear dt p chk) s = .next (((s.advance dt).plausWatch p).siFaultClear p (3 + chk)))
        ∧ ((s.advance dt).elapsed b 10000000 = false → exec (.siPlausibilityClear dt p chk) s = .next ((s.advance dt).plausWatch p)))
    ∧ ((s.plausWatch p).portal p).plaus[chk] = (if (s.portal p).plaus[chk].1 = s.implausible p chk then (s.portal p).plaus[chk] else (s.implausible p chk, s.ts))
    ∧ ∀ b extra, (s.portal p).siFault.getLsbD b = false → s.present p → ∃ t : State, s.siFaultSet p b extra = t.fence p 0x06 (uPortal p) (b + extra)
        ∧ (t.portal p).siFault = setBit (s.portal p).siFault b true
  )
  ∧ (
  ∀ (dt : Nat) (isB level : Bool) (n : Fin 10) (s : State),
    (∃ t, exec (.zsInputChange dt isB level) s = .next t ∧ (if isB then t.safety.zsB else t.safety.zsA) = level
        ∧ (if isB then t.safety.zsA = s.safety.zsA else t.safety.zsB = s.safety.zsB) ∧ t.safety.zsShown = t.zsConfirmed ∧ t.safety.zsFault = s.safety.zsFault)
    ∧ (s.safety.zsAdopted = true → s.safety.zsA = s.safety.zsB → s.safety.zsFault = false → (s.advance dt).elapsed s.safety.zsSince (100000 * s.parN 0x8011 0) →
        ∃ t, exec (.zsDiscrepancy dt) s = .next t ∧ t.safety.zsFault = true ∧ t.zsConfirmed = false ∧ t.mode = s.mode ∧ ∀ p, t.portal p = s.portal p)
    ∧ (s.safety.zsAdopted = true → s.safety.zsA ≠ s.safety.zsB → s.safety.zsFault = true → (s.advance dt).elapsed s.safety.zsSince 100000000 →
        ∃ t, exec (.zsFaultClear dt) s = .next t ∧ t.safety.zsFault = false ∧ t.zsConfirmed = (s.safety.zsA && s.zsTold) ∧ t.safety.zsShown = t.zsConfirmed)
    ∧ ∃ t : State, t.safety.gpi = s.safety.gpi.set n level ∧ t.waiting = s.waiting ∧ exec (.gpiChange dt n level) s
        = .next (if s.safety.gpiAdopted = true ∧ s.safety.gpi[n] ≠ level ∧ (s.parN 0x8015 0).testBit n then t.raise (54 + n) (0x0036 + n) 0 (bit level) else t)
  )

/-- The firmware terms (R296), the hardware terms (R297) and their comparison (R298): what a renewal and a frame of the input logic leave, how long each may be missing, and the fault
of terms that differ for 10 ms. Completed here: dclFwRenewal, fwStall, dclInputFrame, dclFrameMissing, dclTermCompare, dclTermDisagree, dclTermAgree. -/
def Obligations.DclTerms : Prop :=
  (∀ (dt : Nat) (s : State), s.mode ≠ .init → (s.pair 0).scope ≠ .restarting → (s.pair 0).halted = false → ∃ t, exec (.dclFwRenewal dt) s = .next t
      ∧ t.safety.fwAt = s.ts + BitVec.ofNat 56 dt ∧ ∀ p, (t.portal p).fwTerm = (!s.present p || decide (s.shownState p = .isolated)
        || (decide (s.shownState p = .locked) && s.lockedCond p && s.lkLocked p && decide (s.pairSt p 1 = 0) && decide (s.pairSt p 2 = 0))))
  ∧ (∀ (dt : Nat) (s : State), s.mode ≠ .init → (s.advance dt).elapsed s.safety.fwAt 200000 → ∃ t, exec (.fwStall dt) s = .next t
      ∧ (∀ p, (t.portal p).fwTerm = false) ∧ t.safety.dclFault.getLsbD 6 = true)
  ∧ (∀ (dt : Nat) (d : PdId) (p : PortalId) (s : State), s.power.configured = true → ∃ t : State, exec (.dclInputFrame dt d) s = .next t
      ∧ (pdOf p ≠ d → t.portal p = s.portal p)
      ∧ (pdOf p = d → (t.portal p).win = s.inWindow p ∧ (t.portal p).ehLatch = ((s.portal p).ehLatch || (s.ehActive p && !(s.portal p).ehPrev && !s.isActive p))
        ∧ (t.portal p).hwSince.isSome = ((t.portal p).win && !(s.portal p).fencedHw && !(t.portal p).ehLatch && s.closedContacts p && s.lkLocked p && (!s.stepFitted p || s.stw p)
          && decide (s.pairSt p 1 = 0) && decide (s.pairSt p 2 = 0))
        ∧ (s.present p = false ∨ s.isActive p = true → (t.portal p).hwTerm = true)
        ∧ (s.present p = true → s.isActive p = false → (t.portal p).hwSince = none → (t.portal p).hwTerm = false)
        ∧ (∀ b, s.present p = true → s.isActive p = false → (s.portal p).hwSince = some b → (t.portal p).hwSince.isSome →
          (t.portal p).hwTerm = (s.advance dt).elapsed b (100000 * s.parN 0x1044 (uPortal p)))))
  ∧ (∀ (dt : Nat) (d : PdId) (s : State), (s.advance dt).elapsed s.safety.frameAt[d] 100000 → ∃ t : State, exec (.dclFrameMissing dt d) s = .next t
      ∧ ∀ p, if pdOf p = d then (t.portal p).hwTerm = false ∧ (t.portal p).hwSince = none else t.portal p = s.portal p)
  ∧ (∀ (dt : Nat) (s : State), ∃ t : State, exec (.dclTermCompare dt) s = .next t ∧ ∀ p,
      ((s.advance dt).comparing = false → (t.portal p).differSince = none ∧ (t.portal p).agreeSince = none)
      ∧ ((s.advance dt).comparing = true → (t.portal p).differSince.isSome = decide ((s.portal p).fwTerm ≠ (s.portal p).hwTerm)
        ∧ (t.portal p).agreeSince.isSome = decide ((s.portal p).fwTerm = (s.portal p).hwTerm)))
  ∧ ∀ (dt : Nat) (p : PortalId) (b : Ts) (s : State),
      ((s.advance dt).comparing = true → (s.portal p).differSince = some b → (s.advance dt).elapsed b 1000000 → exec (.dclTermDisagree dt p) s
        = .next ((s.advance dt).siFaultSet p 6 (256 * bit (s.portal p).hwTerm + 512 * bit (s.portal p).fwTerm)))
      ∧ ((s.portal p).agreeSince = some b → (s.advance dt).elapsed b 10000000 → exec (.dclTermAgree dt p) s = .next ((s.advance dt).siFaultClear p 6))

/-- The driven DCL (R299, R300). After a half-period boundary it is true exactly when the device is in SERVICE or DEGRADED and holds the claim, some portal is present, every term of
both computations is true, no DCL fault is latched and power has not failed; its two lines then carry opposite levels that toggle at each boundary, the first with DCL_A high, and
are low otherwise.

The checks of the outputs (R301). A ball whose level differs from the driven level at a second check, with fewer than two agreeing ones between, sets its bit; a readback that has
followed the driven DCL and leaves it, or does not follow it in time, sets its bit while the device holds the claim.

Completed here: dclHalfPeriod, dclBallCheck, dclReadbackChange, dclPickupDropTimeout. -/
def Obligations.DclDriven : Prop :=
  (
  ∀ (dt : Nat) (s : State), (s.ts + BitVec.ofNat 56 dt).toNat % 50000 = 0 → ∃ t, exec (.dclHalfPeriod dt) s = .next t
    ∧ (t.safety.driven = true ↔ (s.mode = .service ∨ s.mode = .degraded) ∧ s.claim.held = true ∧ (∃ p, s.present p = true)
      ∧ (∀ p, (s.portal p).fwTerm = true ∧ (s.portal p).hwTerm = true) ∧ s.safety.dclFault = 0 ∧ s.power.pfail = false)
    ∧ (t.safety.driven = true → t.safety.levelA = (!s.safety.levelA) ∧ t.safety.levelB = !t.safety.levelA)
    ∧ (t.safety.driven = false → t.safety.levelA = false ∧ t.safety.levelB = false)
    ∧ t.safety.dclFault = s.safety.dclFault ∧ ∀ p, t.portal p = s.portal p
  )
  ∧ (
  (∀ (dt : Nat) (a b : Bool) (s : State), ∃ t, exec (.dclBallCheck dt a b) s = .next t ∧ t.safety.ballA = a ∧ t.safety.ballB = b
    ∧ (a ≠ s.safety.levelA → s.safety.pinA.isSome → t.safety.dclFault.getLsbD 0 = true)
    ∧ (a ≠ s.safety.levelA → t.safety.pinA = some 0) ∧ (a = s.safety.levelA → s.safety.pinA = some 0 → t.safety.pinA = some 1)
    ∧ (a = s.safety.levelA → s.safety.pinA = some 1 → t.safety.pinA = none) ∧ (a = s.safety.levelA → t.safety.dclFault.getLsbD 0 = s.safety.dclFault.getLsbD 0)
    ∧ (b ≠ s.safety.levelB → s.safety.pinB.isSome → t.safety.dclFault.getLsbD 1 = true)
    ∧ (b = s.safety.levelB → t.safety.dclFault.getLsbD 1 = s.safety.dclFault.getLsbD 1))
  ∧ ∀ (dt : Nat) (isB level : Bool) (s : State) (reached : Bool) (bitNo : Nat), reached = (if isB then s.safety.reachB else s.safety.reachA) →
      bitNo = (if s.safety.driven then 2 else 4) + bit isB →
      (∃ t, exec (.dclReadbackChange dt isB level) s = .next t ∧ (if isB then t.safety.rbB else t.safety.rbA) = level
        ∧ (if isB then t.safety.reachB else t.safety.reachA) = (reached || decide (level = s.safety.driven))
        ∧ t.safety.dclFault = if s.claim.held ∧ level ≠ s.safety.driven ∧ reached then setBit s.safety.dclFault bitNo true else s.safety.dclFault)
      ∧ (s.claim.held = true → reached = false → (s.advance dt).elapsed s.safety.drivenSince (100000 * s.parN (if s.safety.driven then 0x8012 else 0x8013) 0) →
        exec (.dclPickupDropTimeout dt isB) s = .next ((s.advance dt).dclFaultSet bitNo))
  )

/-- The safety reset (R312–R315). A press begins when either input leaves its released level, becomes ASSERTED, and is judged when the pair is DEASSERTED; asserted for less than 50 ms,
more than 2 s, or after a slow release, it only reports its reason. A clean edge reports reason 0, clears DCL_FAULT when both readbacks and both balls are low and renewals arrive, and
in SAFE starts the way out; no press clears a fence. A pair that is ASSERTED for 10 s without a break is jammed. Completed here: safetyResetEdge,
safetyResetJam. -/
def Obligations.SafetyResets : Prop :=
  (∀ (dt : Nat) (a b : Bool) (s : State), s.safety.press = none →
    (pairState a b = 0 → ∃ t, exec (.safetyResetEdge dt a b) s = .next t ∧ t.safety.press = none ∧ t.waiting = s.waiting)
    ∧ (pairState a b = 2 → pairState s.safety.srA s.safety.srB = 0 → ∃ t, exec (.safetyResetEdge dt a b) s = .next t
        ∧ t.safety.press = some ⟨s.ts + BitVec.ofNat 56 dt, none, none, none, none, false, false⟩ ∧ t.waiting = s.waiting))
  ∧ (∀ (dt : Nat) (a b : Bool) (x : Press) (s : State), s.safety.press = some x → x.asserted = none → pairState a b = 1 → pairState s.safety.srA s.safety.srB ≠ 1 →
      ((s.ts + BitVec.ofNat 56 dt).since x.start ≤ 10000000 → ∃ t, exec (.safetyResetEdge dt a b) s = .next t ∧ t.waiting = s.waiting
        ∧ t.safety.press = some { x with asserted := some (s.ts + BitVec.ofNat 56 dt), run := some (s.ts + BitVec.ofNat 56 dt), runEnd := none })
      ∧ (10000000 < (s.ts + BitVec.ofNat 56 dt).since x.start → x.reported = false → x.voided = false → ∃ t : State, exec (.safetyResetEdge dt a b) s = .next (t.resetEvent 4 0)
        ∧ t.waiting = s.waiting ∧ t.safety.press = some { x with reported := true, run := some (s.ts + BitVec.ofNat 56 dt), runEnd := none }))
  ∧ (∀ (dt : Nat) (x : Press) (t0 left : Ts) (s : State) (held : Nat), s.safety.press = some x → x.asserted = some t0 → x.reported = false → x.voided = false →
    s.safety.jammed = false → x.leaving.isSome ∨ pairState s.safety.srA s.safety.srB = 1 → left = x.leaving.getD (s.ts + BitVec.ofNat 56 dt) → held = left.since t0 →
    ∃ t : State, t.mode = s.mode ∧ t.waiting = s.waiting ∧ t.safety.press = none ∧ exec (.safetyResetEdge dt false true) s
      = .next (if held < 5000000 then t.resetEvent 1 held else if 200000000 < held then t.resetEvent 2 held
        else if 10000000 < (s.ts + BitVec.ofNat 56 dt).since left then t.resetEvent 4 held else t.cleanEdge held))
  ∧ (∀ (s : State) (n : Nat), (∀ c, s.safety.causeAt = some c → s.elapsed c 10000 = true) → ¬ (s.mode = .safe ∧ s.committing = true) →
    (s.mode ≠ .safe → s.cleanEdge n = (s.resetEvent 0 n).clearDclFault)
    ∧ (s.mode = .safe → s.cleanEdge n = (s.resetEvent 0 n).clearDclFault.startCommit (if s.modeCause &&& 0x18#16 = 0 then .configure else .test) none none))
  ∧ (∀ s : State, s.clearDclFault.safety.dclFault = if s.safety.rbA = false ∧ s.safety.rbB = false ∧ s.safety.ballA = false ∧ s.safety.ballB = false
      ∧ s.elapsed s.safety.fwAt 200000 = false then 0 else s.safety.dclFault)
  ∧ (∀ (dt : Nat) (a b : Bool) (s t : State), s.mode ≠ .safe → exec (.safetyResetEdge dt a b) s = .next t → ∀ p, t.portal p = s.portal p)
  ∧ ∀ (dt : Nat) (x : Press) (t0 : Ts) (s : State), s.safety.press = some x → x.run = some t0 → s.safety.jammed = false → pairState s.safety.srA s.safety.srB = 1 →
    (s.advance dt).elapsed t0 1000000000 → ∃ t : State, exec (.safetyResetJam dt) s = .next (t.resetEvent 3 ((s.ts + BitVec.ofNat 56 dt).since t0)) ∧ t.safety.jammed = true
      ∧ t.safety.press = some x

/-! ## CAN, the host ports and safe telegrams -/

/-- CAN_CTRL (R376, R379, R381, R395, R396, R398). STOP takes the controller to OFF and replies with that state, or waits for the frame on the bus; the two starts need OFF,
NORMAL or LISTEN and a timing that passes its checks; DETECT_RATE begins in OFF with the first candidate; SLEEP needs NORMAL or LISTEN and no frame pending; WAKE needs SLEEP;
RECOVER begins the recovery of BUS_OFF, and is answered with the state at the clock of a recovery. Elsewhere they reply MODE_FORBIDS.

Bus errors and states (R375, R381, R394–R396). An error counts 8 for a transmitter, but nothing for a missing acknowledgement that an error-passive one sees without a
dominant bit, and 1, or 8, for a receiver; in LISTEN it is only noted; 96 is a warning, 128 error passive, 256 bus-off, which aborts
the attempt on the bus and, with AUTO_RECOVER, begins the recovery. 128 idle sequences end it with both counters 0. A rate detection ends its window with the next candidate, and
its time in OFF. An edge of the set length wakes a sleeping controller; a protocol exception stops the controller from taking part until 11 recessive bits.

Completed here: canStop, canStartNormal, canStartListen, detectRate, canSleep, canWake, canRecover, canError, busOffRecovered, detectWindowEnd, detectTimeout, wakeEdge,
protocolException, busIntegration. -/
def Obligations.CanStates : Prop :=
  (
  ∀ (dt : Nat) (c : CmdHeader) (ctrl : Byte) (n : CanId) (s : State) (h : Handle) (st : CanState), c.unit = 0 → ctrl.toNat = n.val → s.mode.fromConfigure →
    h = s.handle 0x2C c → st = (s.can n).state →
    (s.Takes 0x2C c [ctrl, 0] → (s.txBusy n = false ∨ st ≠ .normal → exec (.canStop dt c ctrl) s = .next (((s.accepted dt c).canOff n).reply h stDone [0]))
      ∧ (s.txBusy n = true → st = .normal → exec (.canStop dt c ctrl) s = .next (((s.accepted dt c).modCan n fun x => { x with stopping := true }).reply h stDone [1])))
    ∧ (s.Takes 0x2C c [ctrl, 1] → (st = .off ∨ st = .normal ∨ st = .listen → (s.accepted dt c).canTiming n = none →
        exec (.canStartNormal dt c ctrl) s = .next ((((s.accepted dt c).modCan n fun x => { x with state := .normal }).reply h stDone [1]).segLoad)))
    ∧ (s.Takes 0x2C c [ctrl, 2] → (st = .off ∨ st = .normal ∨ st = .listen →
        ((s.accepted dt c).canTiming n = none →
          exec (.canStartListen dt c ctrl) s = .next ((((s.accepted dt c).modCan n fun x => { x with state := .listen }).reply h stDone [2]).segLoad))
        ∧ ∀ k, (s.accepted dt c).canTiming n = some k → exec (.canStartListen dt c ctrl) s = .next ((s.accepted dt c).reply h stBadParam (detail (0xA000 + 256 * n.val + k) 0))))
    ∧ (st = .detecting ∨ st = .sleep ∨ st = .busOff →
        (s.Takes 0x2C c [ctrl, 1] → exec (.canStartNormal dt c ctrl) s = .next ((s.accepted dt c).refuse h stModeForbids))
        ∧ (s.Takes 0x2C c [ctrl, 2] → exec (.canStartListen dt c ctrl) s = .next ((s.accepted dt c).refuse h stModeForbids)))
    ∧ (s.Takes 0x2C c [ctrl, 3] → (st = .off → ∃ t d, exec (.detectRate dt c ctrl) s = .next t ∧ t = ((s.accepted dt c).reply h stAccepted []).modCan n (fun x => { x with
        state := .detecting, detect := some d }) ∧ d.start = s.ts + BitVec.ofNat 56 dt ∧ d.good = 0 ∧ d.reply = h)
      ∧ (st ≠ .off → exec (.detectRate dt c ctrl) s = .next ((s.accepted dt c).refuse h stModeForbids)))
    ∧ (s.Takes 0x2C c [ctrl, 4] → (st = .normal ∨ st = .listen → s.txPending n = false → exec (.canSleep dt c ctrl) s
        = .next (((s.accepted dt c).modCan n fun x => { x with state := .sleep, sleptFrom := st, sleptAt := s.ts + BitVec.ofNat 56 dt }).reply h stDone [4]))
      ∧ ((st ≠ .normal ∧ st ≠ .listen) ∨ s.txPending n = true → exec (.canSleep dt c ctrl) s = .next ((s.accepted dt c).refuse h stModeForbids)))
    ∧ (s.Takes 0x2C c [ctrl, 5] → (st = .sleep → ∃ t : State, exec (.canWake dt c ctrl) s = .next (t.reply h stDone [BitVec.ofNat 8 (s.can n).sleptFrom.code])
        ∧ (t.can n).state = (s.can n).sleptFrom) ∧ (st ≠ .sleep → exec (.canWake dt c ctrl) s = .next ((s.accepted dt c).refuse h stModeForbids)))
    ∧ (s.Takes 0x2C c [ctrl, 6] → (st = .busOff → exec (.canRecover dt c ctrl) s
        = .next (((s.accepted dt c).modCan n fun x => { x with recovering := true }).reply h stDone [5]))
      ∧ (st ≠ .busOff → exec (.canRecover dt c ctrl) s = .next (if (s.can n).recoveredAt = some (s.ts + BitVec.ofNat 56 dt) then
          (s.accepted dt c).reply h stDone [BitVec.ofNat 8 st.code] else (s.accepted dt c).refuse h stModeForbids)))
  )
  ∧ (
  ∀ (dt : Nat) (n : CanId) (k : CanErrKind) (severe : Bool) (s : State),
    ((s.can n).state = .listen → ∀ b, exec (.canError dt n k b severe) s = .next ((s.advance dt).modCan n fun x => { x with lastError := errCode k }))
    ∧ ((s.can n).state = .normal → (s.can n).errState = 1 → exec (.canError dt n .ack true false) s
        = .next ((s.advance dt).modCan n fun x => { x with lastError := 3 }))
    ∧ ((s.can n).state = .normal → (k ≠ .ack ∨ (s.can n).errState ≠ 1 ∨ severe = true) → (exec (.canError dt n k true severe) s
        = .next (((s.advance dt).modCan n fun x => { x with lastError := errCode k }).canCounts n ((s.can n).tec + 8) (s.can n).recErr))
      ∧ exec (.canError dt n k false severe) s
        = .next (((s.advance dt).modCan n fun x => { x with lastError := errCode k }).canCounts n (s.can n).tec ((s.can n).recErr + (if severe then 8 else 1))))
    ∧ (∀ tec rec t, t = s.canCounts n tec rec → (tec < 256 → (t.can n).state = (s.can n).state ∧ (t.can n).tec = tec ∧ (t.can n).recErr = min 128 rec
          ∧ (t.can n).errState = (if 128 ≤ tec ∨ 128 ≤ rec then 1 else 0) ∧ (t.can n).warning = decide (96 ≤ tec ∨ 96 ≤ rec))
        ∧ (256 ≤ tec → (s.can n).errState ≠ 2 → (s.can n).stopping = false → (∀ (m : Fin 16) b, (s.can n).next[m] = some b → b.inFlight = false) → (t.can n).state = .busOff ∧ (t.can n).recovering = s.canOpt n 2 ∧ t.txBusy n = false))
    ∧ ((s.can n).state = .busOff → (s.can n).recovering = true → ∃ t, exec (.busOffRecovered dt n) s = .next t ∧ (t.can n).state = .normal ∧ (t.can n).tec = 0 ∧ (t.can n).recErr = 0
        ∧ (t.can n).errState = 0)
    ∧ (∀ d, (s.can n).detect = some d →
        ((s.advance dt).elapsed d.since (100000 * s.canN n 0x51) → ∃ t d', exec (.detectWindowEnd dt n) s = .next t ∧ t = (s.advance dt).modCan n (fun x => { x with detect := some d' })
          ∧ d'.good = 0 ∧ d'.since = s.ts + BitVec.ofNat 56 dt ∧ d'.start = d.start ∧ d'.reply = d.reply)
        ∧ ((s.advance dt).elapsed d.start (100000 * s.canN n 0x52) → ∃ t, exec (.detectTimeout dt n) s = .next t ∧ (t.can n).state = .off ∧ (t.can n).detect = none))
    ∧ (∀ long, (s.can n).state = .sleep → s.canN n 0x60 = 0 → 100 * s.canN n 0x67 ≤ long → ∃ t, exec (.wakeEdge dt n long) s = .next t ∧ (t.can n).state = (s.can n).sleptFrom ∧ (t.can n).suspended = true)
    ∧ (s.canOpt n 1 = true → (s.can n).state = .normal ∨ (s.can n).state = .listen → ∃ t, exec (.protocolException dt n) s = .next t ∧ (t.can n).pex = true
        ∧ (t.can n).suspended = true ∧ (t.can n).state = (s.can n).state)
    ∧ exec (.busIntegration dt n) s = .next ((s.advance dt).modCan n fun x => { x with suspended := false })
  )

/-- Mailboxes (R389–R393, R399). CAN_TX puts a frame that the bus can carry into an empty host mailbox, with its deadline, and is ACCEPTED; a mailbox in use, and a controller in
OFF, RATE_DETECT or SLEEP, are MODE_FORBIDS. CAN_CANCEL ends a frame that is not on the bus CANCELLED. Among the frames that may start, the controller offers the lowest arbitration
value, ties by the lower number. The attempt of the offered one may begin; it ends SENT, or LOST_NO_RETRY after a cancellation, or STALE after its deadline, or stays for another
attempt. A final outcome is the command's final reply, and empties the mailbox.

Frames received (R383–R387). On a controller in LISTEN that takes part, a frame that a filter matches goes to that filter's buffer, where it replaces one that was not read; any
other goes to the end of the FIFO, and is counted as lost when 64 wait there. CAN_RX returns the oldest frames of the FIFO, which leave it, or the frame of a buffer, which
is locked for at most 2 µs.

Completed here: canTx, canCancel, canTxOutcome, canDeadlineStale, canFrameReceived, canRx. -/
def Obligations.CanFrames : Prop :=
  (
  (∀ (dt : Nat) (c : CmdHeader) (n : CanId) (m : Fin 16) (f : CanFrame) (dl : Nat) (ps : List Byte) (s : State) (h : Handle), c.unit = 0 → s.mode.fromConfigure →
    m.val < 12 → dl < 65536 → busFrame f = f → f.esi = false → (f.fdf = true → s.canOpt n 0 = true) →
    ps = le 1 n.val ++ le 1 m.val ++ le 4 f.id.toNat ++ le 1 (bit f.ide + 2 * bit f.fdf + 4 * bit f.brs + 8 * bit f.rtr) ++ le 1 f.dlc.toNat ++ le 2 dl ++ f.data →
    s.Takes 0x2D c ps → h = s.handle 0x2D c →
    (s.box n m = none → (s.can n).state = .normal ∨ (s.can n).state = .listen ∨ (s.can n).state = .busOff → exec (.canTx dt c ps) s
        = .next (((s.accepted dt c).reply h stAccepted []).setBox n m (some ⟨f, if dl = 0 then none else some (s.ts + BitVec.ofNat 56 dt + BitVec.ofNat 56 (100000 * dl)), false, none, false, some h⟩)))
    ∧ (s.box n m ≠ none ∨ (s.can n).state = .off ∨ (s.can n).state = .detecting ∨ (s.can n).state = .sleep → exec (.canTx dt c ps) s = .next ((s.accepted dt c).refuse h stModeForbids)))
  ∧ (∀ (dt : Nat) (c : CmdHeader) (n : CanId) (m : Fin 16) (s : State) (h : Handle), c.unit = 0 → s.mode.fromConfigure → m.val < 12 → s.Takes 0x2E c (le 1 n.val ++ le 1 m.val) →
    h = s.handle 0x2E c →
    (s.box n m = none → exec (.canCancel dt c (le 1 n.val ++ le 1 m.val)) s = .next ((s.accepted dt c).refuse h stModeForbids))
    ∧ ∀ b, s.box n m = some b → exec (.canCancel dt c (le 1 n.val ++ le 1 m.val)) s = .next (if b.inFlight = true then
        ((s.accepted dt c).setBox n m (some { b with noRetry := true })).refuse h stTooLate else ((s.accepted dt c).txFinal n m 1).reply h stDone []))
  ∧ (∀ (s : State) (n : CanId) (k : Fin 16), s.txOffer n = some k → ∃ b, s.box n k = some b ∧ b.startable s.ts = true ∧ ∀ m x, s.box n m = some x → x.startable s.ts = true →
      arbValue b.frame ≤ arbValue x.frame ∧ (arbValue b.frame = arbValue x.frame → k ≤ m))
  ∧ (∀ (dt : Nat) (n : CanId) (m : Fin 16) (b : TxBox) (delay : Nat) (s : State), s.box n m = some b → (s.can n).state = .normal →
    (s.txBusy n = false → (s.can n).suspended = false → (s.advance dt).txOffer n = some m → exec (.canTxOutcome dt n m .sofSent delay) s
        = .next ((s.advance dt).setBox n m (some { b with inFlight := true, sof := some (s.ts + BitVec.ofNat 56 dt) })))
    ∧ (b.inFlight = true → (s.can n).stopping = false →
      (exec (.canTxOutcome dt n m .sent delay) s = .next (((if s.canN n 0x0A = 1 ∧ b.frame.fdf = true ∧ b.frame.brs = true then
        (s.advance dt).modCan n fun y => { y with loopDelay := min 127 delay } else s.advance dt).canCounts n ((s.can n).tec - 1) (s.can n).recErr).txFinal n m 0))
      ∧ ∀ x, x = (s.advance dt).setBox n m (some { b with inFlight := false }) → exec (.canTxOutcome dt n m .lost delay) s
        = .next (if b.noRetry = true then x.txFinal n m 3 else if b.late (s.ts + BitVec.ofNat 56 dt) = true then x.txStale n m else x))
    ∧ (b.inFlight = false → b.late (s.ts + BitVec.ofNat 56 dt) = true → exec (.canDeadlineStale dt n m) s = .next ((s.advance dt).txStale n m)))
  ∧ ∀ (s : State) (n : CanId) (m : Fin 16) (b : TxBox) (outcome : Nat), s.box n m = some b → m.val < 12 →
    (s.txFinal n m outcome).box n m = (s.can n).next[m]
    ∧ ∀ h, b.reply = some h → ∃ t : State, s.txFinal n m outcome = t.reply h (if outcome = 0 then stDone else stModeForbids) (le 1 outcome ++ le 7 (b.sof.getD 0).toNat)
  )
  ∧ (
  (∀ (dt : Nat) (n : CanId) (f : CanFrame) (sof : Nat) (s : State), n ≠ 3 → (s.can n).state = .listen → (s.can n).suspended = false → (f.fdf = true → s.canOpt n 0 = true) →
    (s.advance dt).filterOf n (busFrame f) = none → ∃ t, exec (.canFrameReceived dt n f sof) s = .next t ∧ (∀ m, s.box n m = t.box n m) ∧ (t.can n).bufs = (s.can n).bufs
      ∧ ((s.can n).fifo.length < 64 → (t.can n).fifo = (s.can n).fifo ++ [⟨s.ts + BitVec.ofNat 56 dt - BitVec.ofNat 56 sof, busFrame f, false, false, false, 0xFF⟩]
          ∧ (t.can n).fifoLost = (s.can n).fifoLost)
      ∧ (64 ≤ (s.can n).fifo.length → (t.can n).fifo = (s.can n).fifo ∧ (t.can n).fifoLost = inc32 (s.can n).fifoLost ∧ (t.can n).overflow = true))
  ∧ (∀ (dt : Nat) (n : CanId) (f : CanFrame) (sof : Nat) (k : Fin 8) (s : State), n ≠ 3 → (s.can n).state = .listen → (s.can n).suspended = false →
    (f.fdf = true → s.canOpt n 0 = true) → (s.advance dt).filterOf n (busFrame f) = some k → (s.can n).owned.getLsbD k.val = false →
    ∃ t, exec (.canFrameReceived dt n f sof) s = .next t ∧ (∀ m, s.box n m = t.box n m) ∧ (t.can n).fifo = (s.can n).fifo
      ∧ (t.can n).bufs = (s.can n).bufs.set k ((s.can n).bufs[k].arrive (s.ts + BitVec.ofNat 56 dt)
          ⟨s.ts + BitVec.ofNat 56 dt - BitVec.ofNat 56 sof, busFrame f, false, false, false, k.val⟩).1)
  ∧ (∀ (b : PrioBuf) (now : Ts) (e : RxEntry), b.lock = none → b.arrive now e = ({ b with front := some { e with overwritten := b.front.isSome } }, b.front.isSome))
  ∧ (∀ (b : PrioBuf) (now t : Ts) (k : Nat) (e : RxEntry), b.lock = some (t, k) → now.since t ≤ k → b.arrive now e = ({ b with shadow := some e }, b.shadow.isSome))
  ∧ (∀ (dt : Nat) (c : CmdHeader) (n : CanId) (k : Fin 8) (count : Nat) (s : State), c.unit = 0 → s.mode.fromConfigure → 1 ≤ count → count ≤ 8 →
    (s.can n).owned.getLsbD k.val = false → (s.can n).bufs[k].lock = none → s.Takes 0x2F c (le 1 n.val ++ le 1 (k.val + 1) ++ le 1 count) →
    ((s.can n).bufs[k].front = none → ∃ t : State, exec (.canRx dt c (le 1 n.val ++ le 1 (k.val + 1) ++ le 1 count)) s = .next (t.reply (s.handle 0x2F c) stDone [0])
      ∧ (t.can n) = (s.can n))
    ∧ ∀ e, (s.can n).bufs[k].front = some e → ∃ (t : State) (v : Nat), exec (.canRx dt c (le 1 n.val ++ le 1 (k.val + 1) ++ le 1 count)) s
        = .next (t.reply (s.handle 0x2F c) stDone (1 :: e.bytes)) ∧ v ≤ 200 ∧ (t.can n).fifo = (s.can n).fifo
        ∧ (t.can n).bufs = (s.can n).bufs.set k ⟨none, none, some (s.ts + BitVec.ofNat 56 dt, v)⟩)
  ∧ ∀ (dt : Nat) (c : CmdHeader) (n : CanId) (count : Nat) (s : State), c.unit = 0 → s.mode.fromConfigure → 1 ≤ count → count ≤ 8 →
    s.Takes 0x2F c (le 1 n.val ++ [0] ++ le 1 count) → ∃ t : State, exec (.canRx dt c (le 1 n.val ++ [0] ++ le 1 count)) s = .next (t.reply (s.handle 0x2F c) stDone
      (le 1 (min count (s.can n).fifo.length) ++ ((s.can n).fifo.take count).flatMap RxEntry.bytes)) ∧ (t.can n).fifo = (s.can n).fifo.drop count ∧ (t.can n).bufs = (s.can n).bufs
  )

/-- SPI transactions (R427–R431). WRITE takes one packet that passes its checks and rejects anything else, which SPI_STAT shows from then on; READ shifts out the head reply with its
length, and delivers it when all of it has been clocked; POLL changes nothing but what was shifted out. The first byte shifted out is SPI_STAT.

Segments on CAN3 (R432–R434). A first segment that is not the last begins a packet, the next index continues it, another index discards it, and so does a gap of 100 ms. After the
last segment of a reply it has been delivered and the next reply begins; after another one the next segment is loaded.

A turn of the interpreter (R426, R440, R458): with room for its reply, the oldest packet of the SPI port leaves its queue and is interpreted, then that of CAN3; a port without room, or without a
packet, is passed over.

Completed here: spiWrite, spiRead, spiPoll, mirquaSegmentReceived, segmentGapTimeout, mirquaSegmentSent, interpreterTurn. -/
def Obligations.HostPorts : Prop :=
  (
  (∀ (dt : Nat) (bytes : List Byte) (s : State), s.mode ≠ .init → s.power.off = false →
    (parsePacket false bytes = none → ∃ t, exec (.spiWrite dt bytes false) s = .next t ∧ (t.port 0).lastBad = true ∧ (t.port 0).rxq = (s.port 0).rxq
      ∧ (t.port 0).replies = (s.port 0).replies ∧ t.params = s.params)
    ∧ (∃ t, exec (.spiWrite dt bytes true) s = .next t ∧ (t.port 0).lastBad = true ∧ (t.port 0).rxq = (s.port 0).rxq)
    ∧ ∀ k, parsePacket false bytes = some k → ∃ t : State, exec (.spiWrite dt bytes false) s = .next (t.receive 0 k) ∧ (t.port 0).lastBad = false
      ∧ (t.port 0).rxq = (s.port 0).rxq ∧ (t.port 0).replies = (s.port 0).replies)
  ∧ (∀ (dt n : Nat) (s : State) (r : Reply) (l : List Reply), (s.port 0).replies = r :: l → ∃ t, exec (.spiRead dt n) s = .next t
      ∧ (t.port 0).miso = ((BitVec.ofNat 8 (s.advance dt).spiStat :: le 2 (10 + r.params.length) ++ r.bytes) ++ List.replicate n 0).take n
      ∧ (t.port 0).replies = (if 13 + r.params.length ≤ n then l else r :: l)
      ∧ (t.port 0).tags = (if 13 + r.params.length ≤ n ∧ r.frees = true then (s.port 0).tags &&& ~~~(1#128 <<< r.tag.toNat) else (s.port 0).tags))
  ∧ (∀ (dt n : Nat) (s : State), ∃ x, exec (.spiPoll dt n) s = .next ((s.advance dt).modPort 0 fun y => { y with miso := x }) ∧ x.length = n
      ∧ (0 < n → x.head? = some (BitVec.ofNat 8 (s.advance dt).spiStat)))
  ∧ ∀ (k : Packet), k.params.length ≤ 1024 → ∀ l : List Byte, l = [k.version, k.tag.setWidth 8, k.op] ++ le 2 k.unit.toNat ++ le 2 k.params.length ++ [k.flags] ++ k.params →
      parsePacket false (l ++ le 2 (Crc.crc16 l).toNat) = some k
  )
  ∧ (
  (∀ (s : State) (f : CanFrame) (b : Byte) (d : List Byte), f.fdf = true → f.data = b :: d → b.getLsbD 7 = false →
    (b.toNat % 64 = 0 → s.segReceive f = s.modPort 1 fun x => { x with seg := some (d, 0, s.ts) })
    ∧ ∀ l j t, (s.port 1).seg = some (l, j, t) → b.toNat % 64 ≠ 0 → s.segReceive f = s.modPort 1 fun x => { x with
        seg := if b.toNat % 64 = j + 1 ∧ s.ts.since t ≤ 10000000 then some (l ++ d, j + 1, s.ts) else none })
  ∧ (∀ (s : State) (f : CanFrame) (b : Byte) (d : List Byte) (k : Packet), f.fdf = true → f.data = b :: d → b.toNat = 128 → parsePacket true d = some k →
      s.segReceive f = (s.modPort 1 fun x => { x with seg := none }).receive 1 k)
  ∧ (∀ (dt : Nat) (f : CanFrame) (s : State), (s.advance dt).isMirqua f = true → (s.can 3).state = .listen → (s.can 3).suspended = false → (f.fdf = true → s.canOpt 3 0 = true) →
      ∃ t : State, exec (.mirquaSegmentReceived dt f) s = .next (t.segReceive (busFrame f)) ∧ t.ports = s.ports ∧ (t.can 3).fifo = (s.can 3).fifo ∧ (t.can 3).bufs = (s.can 3).bufs)
  ∧ (∀ (dt : Nat) (s : State) (l : List Byte) (j : Nat) (t : Ts), (s.port 1).seg = some (l, j, t) → (s.advance dt).elapsed t 10000000 →
      exec (.segmentGapTimeout dt) s = .next ((s.advance dt).modPort 1 fun x => { x with seg := none }))
  ∧ ∀ (dt : Nat) (s : State) (r : Reply) (l : List Reply) (k : Nat), (s.can 3).state = .normal → s.box 3 12 = none → (s.port 1).txSeg = some k → (s.port 1).replies = r :: l →
      (63 * (k + 1) < 10 + r.params.length → exec (.mirquaSegmentSent dt) s = .next ((s.advance dt).segPut (k + 1)))
      ∧ (10 + r.params.length ≤ 63 * (k + 1) → ∃ t : State, exec (.mirquaSegmentSent dt) s = .next t.segLoad ∧ (t.port 1).replies = l ∧ (t.port 1).txSeg = none)
  )
  ∧ (
  ∀ (dt : Nat) (s : State), s.interprets →
    ((s.port 0).rxq = [] → (s.port 1).rxq = [] → exec (.interpreterTurn dt) s = .next (s.advance dt))
    ∧ (∀ k l, (s.port 0).rxq = k :: l → (s.port 1).rxq = [] → (s.port 0).room = true → ∃ t : State, t.pending = s.pending ∧ (t.port 0).rxq = l ∧ (t.port 1).rxq = []
        ∧ exec (.interpreterTurn dt) s = .next ((t.interpret 0 k).turn 1))
    ∧ ∀ k l, (s.port 0).rxq = [] → (s.port 1).rxq = k :: l → (s.port 1).room = true → exec (.interpreterTurn dt) s
        = .next (((s.advance dt).modPort 1 fun x => { x with rxq := l }).interpret 1 k)
  )

/-- Sending (R405–R411). While the device holds the claim in SERVICE, DEGRADED, MAINTAIN or SAFE, each of the two telegrams goes with its next number and its 64 bytes to its mailbox of
both networks when it is due, in place of the one that waits there; a telegram that is on the bus may only finish that attempt. Else nothing is sent. The DCL telegram is due
at a 10 ms boundary, within 1 ms of a change of the driven DCL, and while DCL_FAULT differs from what was sent; DOOR_STATE 5 ms after a boundary.

Receiving (R414–R417). A copy that fails a check is counted; the first valid copy of a number opens a window; the same bytes from the other network close it with an accepted
candidate, other bytes with a mismatch. A window that is more than 5,000 µs old closes with one copy. A stream is NOT_VALID when no telegram has been accepted for ST_TIMEOUT. A valid candidate
must bring a later number and a later time.

Completed here: dclTelegramSend, doorStateSend, telegramCopyReceived, pairingWindowClose, streamTimeout. -/
def Obligations.SafeTelegrams : Prop :=
  (
  (∀ (dt : Nat) (s : State), (s.teleSends = false → exec (.dclTelegramSend dt) s = .next (s.advance dt) ∧ exec (.doorStateSend dt) s = .next (s.advance dt))
    ∧ ((s.advance dt).dclDue = false → exec (.dclTelegramSend dt) s = .next (s.advance dt))
    ∧ ((s.advance dt).dclDue = true ↔ (s.ts + BitVec.ofNat 56 dt).toNat % 1000000 = 0 ∨ (s.ts + BitVec.ofNat 56 dt - s.safety.drivenSince).toNat ≤ 100000
        ∨ s.tele.sentDcl ≠ (s.safety.driven, s.safety.dclFault))
    ∧ ((s.ts + BitVec.ofNat 56 dt).toNat % 1000000 ≠ 500000 → exec (.doorStateSend dt) s = .next (s.advance dt))
    ∧ (s.claim.held = true → s.mode = .service ∨ s.mode = .degraded ∨ s.mode = .maintain ∨ s.mode = .safe →
      ((s.advance dt).dclDue = true → ∃ t, exec (.dclTelegramSend dt) s = .next t ∧ t.tele.seqDcl = s.tele.seqDcl + 1 ∧ t.tele.seqState = s.tele.seqState ∧ ∀ n : CanId, n.val < 2 →
        ((∀ b, s.box n 12 = some b → b.inFlight = false) → ∃ b, t.box n 12 = some b ∧ b.reply = none ∧ b.noRetry = false ∧ b.deadline = some (s.ts + BitVec.ofNat 56 dt + 500000)
          ∧ b.frame.data = (s.advance dt).teleBytes 1 s.tele.seqDcl (s.advance dt).dclPayload)
        ∧ (∀ b, s.box n 12 = some b → b.inFlight = true → t.box n 12 = some { b with noRetry := true } ∧ ∃ x, (t.can n).next[12] = some x
          ∧ x.frame.data = (s.advance dt).teleBytes 1 s.tele.seqDcl (s.advance dt).dclPayload))
      ∧ ((s.ts + BitVec.ofNat 56 dt).toNat % 1000000 = 500000 → ∃ t, exec (.doorStateSend dt) s = .next t ∧ t.tele.seqState = s.tele.seqState + 1 ∧ t.tele.seqDcl = s.tele.seqDcl ∧ ∀ n : CanId, n.val < 2 →
        (∀ b, s.box n 13 = some b → b.inFlight = false) → ∃ b, t.box n 13 = some b ∧ b.frame.data = (s.advance dt).teleBytes 2 s.tele.seqState (s.advance dt).doorPayload)))
  ∧ ∀ (s : State) (type : Nat) (seq : BitVec 16) (l : List Byte), l.length ≤ 48 → ∃ body : List Byte, body.length = 60 ∧ (body.drop 12).take l.length = l
      ∧ s.teleBytes type seq l = body ++ le 4 (Crc.crc32c (BitVec.ofNat 32 (s.parN 0xB001 0)) body).toNat
  )
  ∧ (
  (∀ (s : State) (r netB : Bool) (f : CanFrame) (sof : Ts), s.copyOk (streamType r) (s.parN (if r then 0xB006 else 0xB005) 0) (if r then 2 else 1) f = false →
    (s.teleCopy r netB f sof).tele.badCopies = inc32 s.tele.badCopies ∧ (s.teleCopy r netB f sof).stream r = { s.stream r with badAt := ((s.teleCopy r netB f sof).stream r).badAt })
  ∧ (∀ (s : State) (r netB : Bool) (k : TeleCopy), (s.stream r).windows = [] →
    s.pairCopy r netB k = if (s.stream r).closed.contains k.seq then s.streamReject else s.modStream r fun x => { x with windows := [(netB, k)] })
  ∧ (∀ (s : State) (r netB : Bool) (k w : TeleCopy), (s.stream r).windows = [(!netB, w)] → w.seq = k.seq → usBetween w.sof k.sof ≤ 5000 → ∃ t : State,
    t.stream r = { s.stream r with windows := [], closed := (k.seq :: (s.stream r).closed).take 64 }
      ∧ s.pairCopy r netB k = if w.bytes = k.bytes then t.streamCandidate r w false k.sof
        else { t with tele := { t.tele with mismatch := inc32 s.tele.mismatch } }.raise 28 0x001C 0 (65536 * streamType r))
  ∧ (∀ (dt : Nat) (r netB : Bool) (f : CanFrame) (sof : Nat) (s : State), s.mode.fromConfigure → (s.can (if netB then 1 else 0)).state = .normal ∨ (s.can (if netB then 1 else 0)).state = .listen →
    ∃ t : State, exec (.telegramCopyReceived dt r netB f sof) s = .next (t.teleCopy r netB (busFrame f) (s.ts + BitVec.ofNat 56 dt - BitVec.ofNat 56 sof)) ∧ t.tele = s.tele)
  ∧ (∀ (dt : Nat) (r b : Bool) (w : TeleCopy) (s : State), (s.stream r).windows = [(b, w)] → 5000 < usBetween w.sof (s.advance dt).ts →
    exec (.pairingWindowClose dt r) s = .next ((s.advance dt).windowClose r (b, w) (w.sof + 500000)))
  ∧ (∀ (dt : Nat) (r : Bool) (s : State), (s.stream r).valid = true → (s.advance dt).elapsed (s.stream r).lastAt (100000 * s.parN 0xB003 0) → ∃ t, exec (.streamTimeout dt r) s = .next t
      ∧ (t.stream r).valid = false ∧ (t.stream r).first = none ∧ t.tele.timeouts = inc32 s.tele.timeouts ∧ (r = true → t.relMask = 0) ∧ (r = false → t.zsConfirmed = false))
  ∧ ∀ (s : State) (r single : Bool) (k : TeleCopy) (at' : Ts), (s.stream r).valid = true → ((k.seq - (s.stream r).seqLast).toInt < 1 ∨ (k.ts - (s.stream r).tsLast).toInt ≤ 0 →
      s.streamCandidate r k single at' = s.streamReject)
  )

/-! ## Pairing -/

/-- Arbitration (R349): of two devices that drive the claim line with different words, the one with the higher word drives to the end and the other loses.

A claim frame (R348–R352, R371). A device in CONFIGURE or later latches its claim word; on two wires that show the same it has won unless a bit that its word releases reads low, and
it has seen ACK when it lost or another drove it. In INIT and TEST it takes no part. A driven bit that reads high on both wires in a second frame running is a claim failure. A yield
in force makes HEALTH 0; no fault, no latch and no degraded condition leave 127.

The frame end (R353–R357). With the partner heard, a device holds the claim for the next 250 µs exactly when the claim line is not lost, it won the frame, and it saw ACK or held the
claim after the frame before. An isolated SECONDARY does not hold it; an isolated PRIMARY holds it from the fourth frame after it became isolated. A gate or a ball that differs is a claim failure.

Completed here: claimFrameStart, claimFrameEnd. -/
def Obligations.ClaimArbitration : Prop :=
  (
  ∀ a b level : BitVec 16, level = (driveBits a level 16 0 false).1 ||| (driveBits b level 16 0 false).1 → b.toNat < a.toNat →
    (driveBits a level 16 0 false).2 = false ∧ (driveBits b level 16 0 false).2 = true ∧ level = a
  )
  ∧ (
  ∀ (dt : Nat) (x : ClaimSample) (s : State) (own drive : BitVec 16), s.claim.wireA.faulty = false → s.claim.wireB.faulty = false → own = (s.advance dt).claimWord →
    drive = (driveBits own (x.wireA ||| x.wireB) 16 0 false).1 →
    (s.mode.fromConfigure → x.wireA = x.wireB → drive &&& ~~~x.wireA = 0 → ∃ t, exec (.claimFrameStart dt x) s = .next t ∧ t.claim.own = own
      ∧ t.claim.won = decide (x.wireA &&& ~~~own = 0) ∧ t.claim.ack = (x.ack || decide (x.wireA &&& ~~~own ≠ 0)) ∧ t.claim.took = true ∧ t.claim.bothBad = 0
      ∧ t.claim.win = (if x.wireA &&& ~~~own = 0 then own else x.wireA) ∧ t.claim.held = s.claim.held ∧ t.mode = s.mode)
    ∧ (s.mode = .init ∨ s.mode = .test → ∃ t, exec (.claimFrameStart dt x) s = .next t ∧ t.claim.took = false ∧ t.claim.won = false ∧ t.claim.own = s.claim.own ∧ t.mode = s.mode)
    ∧ (s.mode.fromConfigure → drive &&& ~~~x.wireA &&& ~~~x.wireB ≠ 0 → 1 ≤ s.claim.bothBad → ∃ t : State, exec (.claimFrameStart dt x) s = .next t.claimFailure)
    ∧ (s.claim.yield.isSome ∨ s.mode = .configure ∨ s.mode = .safe ∨ s.power.pfail = true → s.health = 0)
    ∧ (s.healthZero = false → s.healthF = 0 → s.healthL = 0 → (∀ k ∈ s.healthK, k = false) → s.health = 127)
  )
  ∧ (
  (∀ (dt : Nat) (x : ClaimStatus) (s : State) (hold : Bool), s.partner.lost = false →
    hold = (s.mode.fromConfigure && !(s.claim.wireA.faulty && s.claim.wireB.faulty) && s.claim.won && (s.claim.ack || s.claim.heldEnd)) → x.ballWon = hold → x.gatesOk = true →
    ∃ t, exec (.claimFrameEnd dt x) s = .next t ∧ t.claim.held = hold ∧ t.claim.heldEnd = hold ∧ t.claim.noAck = (if s.claim.ack then 0 else s.claim.noAck + 1)
      ∧ t.claim.since = (if hold = s.claim.held then s.claim.since else s.ts + BitVec.ofNat 56 dt))
  ∧ (∀ (dt : Nat) (x : ClaimStatus) (s : State), s.mode.fromConfigure → s.partner.lost = true → s.claim.ack = false → 7 ≤ s.claim.noAck → x.gatesOk = true →
    (s.primary = false → x.ballWon = false → ∃ t, exec (.claimFrameEnd dt x) s = .next t ∧ t.claim.held = false)
    ∧ (∀ k, s.primary = true → s.claim.isoFrames = some k → 3 ≤ k → s.claim.won = true → x.ballWon = true → ∃ t, exec (.claimFrameEnd dt x) s = .next t ∧ t.claim.held = true))
  ∧ (∀ (dt : Nat) (x : ClaimStatus) (s : State), x.gatesOk = false → ∃ t : State, exec (.claimFrameEnd dt x) s = .next t.claimFailure)
  ∧ ∀ (s : State) (reason : Nat), (s.takeClaim reason).claim.held = true ∧ (s.dropClaim reason).claim.held = false
  )

/-- Swetric (R356–R360). A link that goes down loses its version; a CAP frame brings the partner's serial, digest and version, and one with the own role is a claim failure; heartbeats
are numbered; a valid one restores the partner, and one whose sender also holds the claim makes a SECONDARY give it up; 2 ms of silence declare the partner lost.

Snapshots (R361–R363). At its boundary the holder of the claim, while its sequencers run, takes the snapshot of that instant, and numbers it where a version is agreed; one that is not ready is skipped. A device
in STANDBY adopts a complete snapshot of the agreed version with a later number and a matching configuration, and its portals report the states in it; it discards any other and counts it.

CLAIM_YIELD (R371): it is accepted when the device holds the claim in SERVICE or DEGRADED at rest and the partner stands by without a pending cause; it ends MODE_FORBIDS when the claim
is still held after 20 ms.

Completed here: swetricLinkChange, capSend, capReceived, heartbeatSend, heartbeatReceived, partnerLost, snapshotTake, snapshotReceived, claimYield, yieldTimeout. -/
def Obligations.PartnerFrames : Prop :=
  (
  ∀ (dt : Nat) (s : State),
    (∀ up, (s.partner.linkUp = up → exec (.swetricLinkChange dt up) s = .next (s.advance dt))
      ∧ (s.partner.linkUp ≠ up → ∃ t, exec (.swetricLinkChange dt up) s = .next t ∧ t.partner.linkUp = up ∧ t.partner.version = (if up then s.partner.version else 0)))
    ∧ exec (.capSend dt) s = .next { s.advance dt with partner := { s.partner with capAt := some (s.ts + BitVec.ofNat 56 dt) } }
    ∧ (∀ cap : CapFrame, (cap.crcOk = false → exec (.capReceived dt cap) s = .next (s.advance dt))
      ∧ (cap.crcOk = true → ∃ t : State, t.partner.serial = cap.serial ∧ t.partner.digest = cap.digest
        ∧ t.partner.version = (if cap.minVer.toNat ≤ 1 ∧ 1 ≤ cap.maxVer.toNat then 1 else 0) ∧ (t.partner.roleConflict = true ↔ s.parNames 0x9000 0 = some cap.role.toNat)
        ∧ exec (.capReceived dt cap) s = .next (if s.parNames 0x9000 0 = some cap.role.toNat then t.claimFailure else t)))
    ∧ (s.mode.fromConfigure → exec (.heartbeatSend dt) s
        = .next { s.advance dt with partner := { s.partner with hbSeq := s.partner.hbSeq + 1, hbSentAt := some (s.ts + BitVec.ofNat 56 dt) } })
    ∧ (∀ hb : HeartbeatFrame, hb.crcOk = true → ∃ t : State, t.partner.lost = false ∧ t.partner.heardAt = some (s.ts + BitVec.ofNat 56 dt) ∧ t.partner.heartbeat = some hb
        ∧ t.claim = s.claim ∧ exec (.heartbeatReceived dt hb) s
          = .next (if s.claim.held && hb.flags.getLsbD 0 then (if s.par 0x9000 0 = 0 then t.claimEvent 5 false else t.dropClaim 5) else t))
    ∧ (∀ b, s.partner.heardAt = some b → (s.advance dt).elapsed b 200000 → s.partner.lost = false → exec (.partnerLost dt) s
        = .next ({ s.advance dt with partner := { s.partner with lost := true } }.swetricEvent 4))
  )
  ∧ (
  (∀ (dt : Nat) (s : State), s.claim.held = true → s.mode = .service ∨ s.mode = .degraded ∨ s.mode = .maintain →
    (s.partner.version ≠ 0 → exec (.snapshotTake dt true) s = .next { s.advance dt with
        recorder := { s.recorder with lastSnap := some ((s.advance dt).snapshot (s.partner.snapSent + 1)) },
        partner := { s.partner with snapSent := s.partner.snapSent + 1, snapLast := s.partner.snapSent + 1 } })
    ∧ (s.partner.version = 0 → exec (.snapshotTake dt true) s
        = .next { s.advance dt with recorder := { s.recorder with lastSnap := some ((s.advance dt).snapshot (s.partner.snapSent + 1)) } })
    ∧ exec (.snapshotTake dt false) s = .next { s.advance dt with partner := { s.partner with skipped := inc32 s.partner.skipped } })
  ∧ ∀ (dt : Nat) (z : Snapshot) (s : State) (ok : Bool), s.mode = .standby → s.claim.held = false →
    (ok = true ↔ z.crcOk = true ∧ s.partner.version ≠ 0 ∧ z.version.toNat = s.partner.version ∧ z.length = 1356
      ∧ 1 ≤ (z.seq - (s.partner.adopted.elim 0 (·.seq))).toInt ∧ s.partner.digest = s.sealer.config) →
    (ok = true → ∃ t, exec (.snapshotReceived dt z) s = .next t ∧ t.partner.adopted = some z ∧ t.partner.adoptedAt = s.ts + BitVec.ofNat 56 dt
      ∧ t.partner.discarded = s.partner.discarded ∧ ∀ (p : PortalId) b, z.portals[p.val]? = some b → s.present p → (t.portal p).state = PState.ofCode b.pstate)
    ∧ (ok = false → ∃ t, exec (.snapshotReceived dt z) s = .next t ∧ t.partner.adopted = s.partner.adopted ∧ t.partner.discarded = inc32 s.partner.discarded
      ∧ ∀ p, t.portal p = s.portal p)
  )
  ∧ (
  (∀ (dt : Nat) (c : CmdHeader) (s : State) (ready : Bool), s.Takes 0x2B c [] → c.unit = 0 →
    (ready = true ↔ (s.mode = .service ∨ s.mode = .degraded) ∧ s.claim.held = true ∧ s.restGuard = true
      ∧ (∃ hb, s.partner.heartbeat = some hb ∧ hb.mode.toNat = 3 ∧ hb.pending = 0) ∧ s.claim.ack = true ∧ s.claim.yield = none) →
    (ready = true → ∃ t : State, exec (.claimYield dt c []) s = .next t ∧ t = { (s.accepted dt c).reply (s.handle 0x2B c) stAccepted [] with claim := t.claim }
      ∧ t.claim = { s.claim with yield := some (s.ts + BitVec.ofNat 56 dt, s.handle 0x2B c) })
    ∧ (ready = false → exec (.claimYield dt c []) s = .next ((s.accepted dt c).refuse (s.handle 0x2B c) stModeForbids)))
  ∧ ∀ (dt : Nat) (b : Ts) (h : Handle) (s : State), s.claim.yield = some (b, h) → s.claim.held = true → (s.advance dt).elapsed b 2000000 →
    exec (.yieldTimeout dt) s = .next ({ s.advance dt with claim := { s.claim with yield := none } }.refuse h stModeForbids)
  )

/-! ## Portals -/

/-- Portal commands to one portal (R22, R28, R83). While the sequencer runs, each is queued for the portal's next evaluation; an absent portal refuses with BAD_UNIT; FENCE_CLEAR and
EMERGENCY_RESET outside those modes are MODE_FORBIDS. PORTAL_STATUS answers at once. JOG goes to the lock, a leaf or the step that its address names.

PORTAL_STATUS of a portal and JOG of its units (R83, R93, R98).

Completed here: portalOpen, portalClose, fenceClear, emergencyReset, jogStop, portalFence, portalStatus, jog. -/
def Obligations.PortalCommands : Prop :=
  (
  ∀ (dt : Nat) (c : CmdHeader) (p : PortalId) (s : State) (i : Instr) (op : Nat) (cmd : PCmd) (ps : List Byte), s.Takes op c ps → c.unit.toNat = uPortal p →
    ((op = 0x30 ∧ i = .portalOpen dt c ps ∧ cmd = .open (.host (s.handle op c))) ∨ (op = 0x31 ∧ i = .portalClose dt c ps ∧ cmd = .close (.host (s.handle op c)))
      ∨ (op = 0x33 ∧ i = .fenceClear dt c ps ∧ cmd = .fenceClear (.host (s.handle op c)))
      ∨ (op = 0x34 ∧ i = .emergencyReset dt c ps ∧ cmd = .emergencyReset (.host (s.handle op c)))
      ∨ (op = 0x36 ∧ i = .jogStop dt c ps ∧ cmd = .jogStop (.host (s.handle op c))) ∨ (op = 0x37 ∧ i = .portalFence dt c ps ∧ cmd = .fence (.host (s.handle op c)))) →
    (s.present p → s.mode = .service ∨ s.mode = .degraded ∨ s.mode = .maintain → exec i s = .next ((s.accepted dt c).modPortal p fun x => { x with queue := x.queue ++ [cmd] }))
    ∧ (s.present p = false → op ≠ 0x33 → op ≠ 0x34 → exec i s = .next ((s.accepted dt c).refuse (s.handle op c) stBadUnit))
    ∧ (op = 0x33 ∨ op = 0x34 → s.mode = .standby ∨ s.mode = .configure ∨ s.mode = .safe → exec i s = .next ((s.accepted dt c).refuse (s.handle op c) stModeForbids))
  )
  ∧ (
  ∀ (dt : Nat) (c : CmdHeader) (p : PortalId) (s : State),
    (s.Takes 0x32 c [] → c.unit.toNat = uPortal p → ∃ t, t = s.accepted dt c ∧ exec (.portalStatus dt c []) s = .next (t.reply (s.handle 0x32 c) stDone
      (le 1 (s.shownState p).code ++ le 2 (t.portalFlags p) ++ le 1 (s.shownCause p) ++ le 1 (s.portal p).recloses ++ leI 4 (t.fbPos p 0) ++ leI 4 (t.fbPos p 1) ++ leI 4 (t.stepPos p))))
    ∧ ∀ (ps : List Byte) (k : Fin 3) (v : Int), s.Takes 0x35 c ps → v = (BitVec.ofNat 16 (unLe (ps.take 2))).toInt → s.mode = .service ∨ s.mode = .degraded ∨ s.mode = .maintain →
      s.present p →
      (c.unit.toNat = uPortal p → exec (.jog dt c ps) s = .next ((s.accepted dt c).modPortal p fun x => { x with queue := x.queue ++ [.jogLock (s.handle 0x35 c) v] }))
      ∧ (c.unit.toNat = uPortal p + (if k = 2 then 0x20 else 0x10 + k.val) → (k = 1 → s.leafPresent p 1) → (k = 2 → s.stepFitted p) → exec (.jog dt c ps) s
        = .next ((s.accepted dt c).modPortal p fun x => { x with queue := x.queue ++ [.jogUnit (s.handle 0x35 c) k v] }))
  )

/-- What the commands do at the evaluation that takes them (R70, R71, R84–R93). An open request needs SERVICE or DEGRADED, release and zero speed, and no watchdog expiry in force; in LOCKED
it starts the opening, in OPEN it is DONE, in CLOSING it reopens to OPEN_POS. A close request is DONE in LOCKED and otherwise in force. FENCE_CLEAR ends a fence whose
causes have cleared, to the resting evaluation; PORTAL_FENCE fences with cause 0x13; EMERGENCY_RESET is refused while the handle is active.

A fence (R65, R66, R89, R90, R92): where the sequencer works a cause is found, and the next evaluation applies what was found in ascending order; where it does not, the cause
acts at once. A cause that acts on a present portal makes it FENCED from every state but ISOLATED and EMERGENCY, the first cause is kept, the FENCED flag of the hardware term is
set, and no command stays in force; in those two states, and where the mode does not run the sequencer, the cause waits. On an absent portal nothing happens. -/
def Obligations.PortalReactions : Prop :=
  (
  ∀ (s : State) (p : PortalId) (h : Handle), s.present p → s.wdgExpired = false → s.mode = .service ∨ s.mode = .degraded →
    (s.released p = false ∨ s.zsConfirmed = false → (s.portal p).state = .locked → s.takeCmd p (.open (.host h)) = s.reply h stModeForbids (detail 0xFFFF h.unit.toNat))
    ∧ (s.released p = true → s.zsConfirmed = true → s.slotsAuto p = true →
      ((s.portal p).state = .locked → ((s.takeCmd p (.open (.host h))).portal p).state = (if s.stepFitted p then .stepDeploy else .unlocking))
      ∧ ((s.portal p).state = .closing → ((s.takeCmd p (.open (.host h))).portal p).state = .reopening))
    ∧ ((s.portal p).state = .fenced → s.takeCmd p (.open (.host h)) = s.reply h stFenced (detail 0xFFFF h.unit.toNat)
      ∧ s.takeCmd p (.close (.host h)) = s.reply h stFenced (detail 0xFFFF h.unit.toNat)
      ∧ (s.fenceClearOk p = false → s.takeCmd p (.fenceClear (.host h)) = s.reply h stFenced (detail 0xFFFF h.unit.toNat))
      ∧ (s.fenceClearOk p = true → s.takeCmd p (.fenceClear (.host h)) = (s.fenceCleared p).reply h stDone []))
    ∧ ((s.portal p).state = .open → ∃ t : State, s.takeCmd p (.close (.host h)) = t ∧ (t.portal p).closeForce = true ∧ (t.portal p).openForce = false ∧ (t.portal p).closeFailed = false
        ∧ (t.portal p).state = .open ∧ CmdRef.host h ∈ (t.portal p).closeRefs)
    ∧ (s.ehActive p = true → s.takeCmd p (.emergencyReset (.host h)) = s.reply h stModeForbids (detail 0xFFFF h.unit.toNat))
    ∧ ((s.pdMode p).runs → (s.portal p).start = 0 → (s.portal p).state ≠ .isolated → (s.portal p).state ≠ .emergency → ((s.takeCmd p (.fence (.host h))).portal p).state = .fenced)
  )
  ∧ (
  ∀ (s : State) (p : PortalId) (cause unit param : Nat), cause < 32 →
    (s.present p = false → s.fence p cause unit param = s)
    ∧ (s.seqWorks p = false → s.fence p cause unit param = s.fenceNow p cause unit param)
    ∧ (s.seqWorks p = true → s.fence p cause unit param = (s.modPortal p fun x => { x with found := x.found ++ [(cause, unit, param)] }).notClean p)
    ∧ ((s.portal p).found = [(cause, unit, param)] → s.foundStep p = (s.modPortal p fun x => { x with found := [] }).fenceNow p cause unit param)
    ∧ (∀ c u q, c < cause → (s.portal p).found = [(cause, unit, param), (c, u, q)] →
        s.foundStep p = ((s.modPortal p fun x => { x with found := [] }).fenceNow p c u q).fenceNow p cause unit param)
    ∧ (s.present p → (s.pdMode p).runs → (s.portal p).start = 0 → (s.portal p).state ≠ .isolated → (s.portal p).state ≠ .emergency →
      ∃ x, (s.fenceNow p cause unit param).portal p = x ∧ x.state = .fenced ∧ x.causes.getLsbD cause = true
        ∧ x.fenceCause = (if (s.portal p).fenceCause = 0 then cause else (s.portal p).fenceCause)
        ∧ ((s.portal p).state ≠ .fenced → x.fencedHw = true ∧ x.openForce = false ∧ x.closeForce = false ∧ x.jog = none ∧ x.openRefs = [] ∧ x.closeRefs = []))
    ∧ (s.present p → (s.pdMode p).runs = false ∨ (s.portal p).start ≠ 0 ∨ (s.portal p).state = .isolated ∨ (s.portal p).state = .emergency →
      ∃ x, (s.fenceNow p cause unit param).portal p = x ∧ x.state = (s.portal p).state ∧ x.causes.getLsbD cause = true
        ∧ x.pendingCause = (if (s.portal p).pendingCause = 0 then cause else (s.portal p).pendingCause))
  )

/-- An evaluation (R66, R68, R87, R88, R92): the isolation switch comes before the emergency handle, and the handle before everything else; a portal that starts takes the resting evaluation, which
ends in LOCKED when the LOCKED condition has held for LOCK_SETTLE and in OPEN otherwise, from where a lost zero speed may close it at once. While the sequencer does not work the
portal stays as it is.

The transitions (R71, R72, R76–R82). A completed step deploys on to UNLOCKING, an unlocked lock to OPENING; OPENING ends in OPEN at OPEN_POS; CLOSING in LOCKING at the closed window with both
contacts and no edge; a state that lasts beyond its timeout fences with cause 0x01, but CLOSING reopens. Entering a state makes it the state of the portal, and no other. A time
that has passed is found by an evaluation.

Completed here: sequencerEvaluation, transitionTimeout, closeWarningEnd, recloseDwellEnd, obstOpenPauseEnd, lockSettleElapsed, jogRenewalTimeout, localOpenRequest. -/
def Obligations.PortalEvaluations : Prop :=
  (
  ∀ (dt : Nat) (p : PortalId) (s : State), (s.portal p).queue = [] →
    (s.seqWorks p = false → s.mode ≠ .standby → exec (.sequencerEvaluation dt p) s = .next ((s.advance dt).lockWatch p))
    ∧ (s.seqWorks p = true → (s.portal p).start = 0 →
      (s.isActive p = true → ∃ t, exec (.sequencerEvaluation dt p) s = .next t ∧ (t.portal p).state = .isolated)
      ∧ (s.isActive p = false → s.ehActive p = true → (s.portal p).state ≠ .isolated → (s.portal p).state ≠ .absent →
        ∃ t, exec (.sequencerEvaluation dt p) s = .next t ∧ (t.portal p).state = .emergency))
    ∧ (s.seqWorks p = true → (s.portal p).start = 1 → s.pneumatic p = false → (s.portal p).found = [] → ∃ t x, exec (.sequencerEvaluation dt p) s = .next t ∧ x = t.portal p
      ∧ x.start = 0 ∧ x.state = (if s.isActive p then .isolated else if s.ehActive p then .emergency else if s.causePending p then .fenced
        else if ((s.advance dt).lockWatch p).settled p then .locked else if x.state = .closing ∧ s.zsConfirmed = false then .closing else .open))
  )
  ∧ (
  (∀ (s : State) (p : PortalId) (st : PState), ((s.enter p st).portal p).state = st ∧ ∀ q, q ≠ p → ((s.enter p st).portal q).state = (s.portal q).state)
  ∧ (∀ (s : State) (p : PortalId), ((s.portal p).state = .unlocking → s.completeStep p = if s.lkUnlocked p = true then s.enter p .opening else s)
    ∧ ((s.portal p).state = .opening → (s.portal p).stopPartial = false → (s.portal p).pause = none → (∀ l ∈ s.leaves p, s.near p l (s.openPos p l) = true ∧ s.leafStill p l = true) →
        ((s.completeStep p).portal p).state = .open ∧ ((s.completeStep p).portal p).partialOpen = false)
    ∧ ((s.portal p).state = .closing → s.inWindow p = true → s.closedContacts p = true → s.se0 p = false → s.se1 p = false → s.obs p = false → s.completeStep p = s.enter p .locking)
    ∧ ((s.portal p).state = .opening → s.closeIntent p = true → ((s.closeStep p).portal p).stopPartial = true)
    ∧ ((s.portal p).state = .closing → ∀ k, s.obstacle p true true = some k → (((s.obstStep p).portal p).state = .reopening)))
  ∧ (∀ (s : State) (p : PortalId) (k : Nat), timeoutOf (s.portal p).state = some k → s.timedOut p k (s.portal p).timer →
      s.timeoutStep p = if (s.portal p).state = .closing then s.reopen p 7 else s.fenceNow p 0x01 (uPortal p) (s.portal p).state.code)
  ∧ (∀ (dt : Nat) (p : PortalId) (s t u : State), t = s.advance dt → u = t.lockWatch p →
      (s.seqWorks p = false ∨ s.suspended p = true ∨ (s.portal p).start ≠ 0 → exec (.transitionTimeout dt p) s = .next t ∧ exec (.closeWarningEnd dt p) s = .next t
        ∧ exec (.recloseDwellEnd dt p) s = .next t ∧ exec (.obstOpenPauseEnd dt p) s = .next t ∧ exec (.lockSettleElapsed dt p) s = .next u)
      ∧ (s.seqWorks p = true → s.suspended p = false → (s.portal p).start = 0 →
        (∀ k, timeoutOf (s.portal p).state = some k → t.timedOut p k (s.portal p).timer → exec (.transitionTimeout dt p) s = .next (t.evaluate p))
        ∧ (∀ b, (s.portal p).warn = some b → t.elapsed b (100000 * s.parN 0x1040 (uPortal p)) → exec (.closeWarningEnd dt p) s = .next (t.evaluate p))
        ∧ (∀ b, (s.portal p).dwell = some b → t.elapsed b (100000 * s.parN 0x1042 (uPortal p)) → exec (.recloseDwellEnd dt p) s = .next (t.evaluate p))
        ∧ (∀ b, (s.portal p).pause = some b → t.elapsed b (100000 * s.parN 0x1043 (uPortal p)) → exec (.obstOpenPauseEnd dt p) s = .next (t.evaluate p))
        ∧ (u.settled p = true → exec (.lockSettleElapsed dt p) s = .next (u.evaluate p))))
  ∧ (∀ (dt : Nat) (p : PortalId) (s t : State) (b : Ts), t = s.advance dt → s.seqWorks p = true → s.suspended p = false → (s.portal p).start = 0 → s.isActive p = false →
      s.ehActive p = false → (s.portal p).found = [] → (s.portal p).pendingCause = 0 → (s.portal p).queue = [] → s.pneumatic p = false →
      (∀ k, timeoutOf (s.portal p).state = some k → (s.portal p).state ≠ .closing → t.timedOut p k (s.portal p).timer → ∃ v, exec (.transitionTimeout dt p) s = .next v
        ∧ (v.portal p).state = .fenced ∧ (v.portal p).causes.getLsbD 1 = true)
      ∧ ((s.portal p).state = .open → s.closeIntent p = true → s.zsConfirmed = true → s.inWindow p = false →
        ((s.portal p).warn = some b → t.elapsed b (100000 * s.parN 0x1040 (uPortal p)) → ∃ v, exec (.closeWarningEnd dt p) s = .next v ∧ (v.portal p).state = .closing
          ∧ (v.portal p).recloses = (s.portal p).recloses)
        ∧ ((s.portal p).warn = none → (s.portal p).dwell = some b → t.elapsed b (100000 * s.parN 0x1042 (uPortal p)) → ∃ v, exec (.recloseDwellEnd dt p) s = .next v
          ∧ (v.portal p).state = .closing ∧ (v.portal p).recloses = min 10 ((s.portal p).recloses + 1)))
      ∧ ((s.portal p).state = .opening → (s.portal p).stopPartial = false → (s.portal p).closeFailed = false → s.closeIntent p = false → s.obstacle p false false = none →
        t.stateTimedOut p = false → (∃ l ∈ s.leaves p, s.near p l (s.openPos p l) = false) → (s.portal p).pause = some b → t.elapsed b (100000 * s.parN 0x1043 (uPortal p)) →
        ∃ v, exec (.obstOpenPauseEnd dt p) s = .next v ∧ (v.portal p).state = .opening ∧ (v.portal p).pause = none
          ∧ ∀ l ∈ s.leaves p, (v.leaf p l).target = s.openPos p l ∧ (v.leaf p l).holding = false)
      ∧ ((s.portal p).state = .locking → s.stepFitted p = false → s.lkLocked p = true → (t.lockWatch p).settled p = true → t.stateTimedOut p = false →
        ∃ v, exec (.lockSettleElapsed dt p) s = .next v ∧ (v.portal p).state = .locked ∧ (v.portal p).recloses = 0 ∧ (v.portal p).closeForce = false))
  ∧ ∀ (dt : Nat) (p : PortalId) (s : State) (b : Ts) (v : Int) (j : Jog) (n : Nat),
      ((s.portal p).state = .jog → (s.portal p).lockJog = some (v, b) → (s.advance dt).elapsed b 25000000 → exec (.jogRenewalTimeout dt p true) s
        = .next (((s.advance dt).endLockJog p).jogStep p))
      ∧ ((s.portal p).state = .jog → (s.portal p).jog = some j → (s.advance dt).elapsed j.renew 25000000 → exec (.jogRenewalTimeout dt p false) s
        = .next (((s.advance dt).endUnitJog p).jogStep p))
      ∧ (s.present p → s.mode = .service ∨ s.mode = .degraded ∨ s.mode = .maintain → s.parNames 0x1003 (uPortal p) = some n → s.safety.gpiAdopted = true → (s.safety.gpi.toList.getD n false) = true →
        exec (.localOpenRequest dt p) s = .next ((s.advance dt).modPortal p fun x => { x with queue := x.queue ++ [.open .silent] }))
  )
end

