-- ==== Sys2Proof/Laws/Kept.lean ====
section
/-! SUPPORT. The part of the state that most operations leave alone: the queue of commands, the firmware banks, the event buffer, the receive queues, the
write credit. One lemma per operation says that it keeps that part, so that a whole-machine invariant over it needs a look at the few that do not. -/

namespace Sys2Proof.Machine

/-- The queue of waiting commands and the bounded stores of the device. -/
structure Kept where
  pending : List Instr
  bankA   : Bool × List Host.Cell
  bankB   : Bool × List Host.Cell
  buffer  : List Event
  lost    : Nat
  rxq0    : List Packet
  rxq1    : List Packet
  credit  : Nat

/-- The kept part of a state. -/
def State.kept (s : State) : Kept :=
  ⟨s.pending, (s.power.banks[0].delivered, s.power.banks[0].cells), (s.power.banks[1].delivered, s.power.banks[1].cells),
     s.buffer, s.lostEvents, s.ports[0].rxq, s.ports[1].rxq, s.recorder.credit⟩

@[simp ↓] theorem State.kept_mk (pending ts mode modeCause epoch commit retry dies waiting buffer lostEvents lastRel evtPending setNow params ports wdg groups nextGroup portals engines safety sealer pairs claim partner cans tele recorder power linksDown free) :
    State.kept ⟨pending, ts, mode, modeCause, epoch, commit, retry, dies, waiting, buffer, lostEvents, lastRel, evtPending, setNow, params, ports, wdg, groups, nextGroup, portals, engines, safety, sealer, pairs, claim, partner, cans, tele, recorder, power, linksDown, free⟩ =
      ⟨pending, (power.banks[0].delivered, power.banks[0].cells), (power.banks[1].delivered, power.banks[1].cells),
         buffer, lostEvents, ports[0].rxq, ports[1].rxq, recorder.credit⟩ := id rfl

@[simp ↓] theorem State.kept_eta (s : State) :
    Kept.mk s.pending (s.power.banks[0].delivered, s.power.banks[0].cells) (s.power.banks[1].delivered, s.power.banks[1].cells) s.buffer s.lostEvents s.ports[0].rxq s.ports[1].rxq s.recorder.credit = s.kept := id rfl

@[simp] theorem State.kept_ite (c : Prop) [Decidable c] (s t : State) : (if c then s else t).kept = if c then s.kept else t.kept := by
  split <;> rfl

theorem next_ite {c : Prop} [Decidable c] {a b : Host.Outcome State Fault Refusal} {P : State → Prop} (ha : ∃ t, a = .next t ∧ P t)
    (hb : ∃ t, b = .next t ∧ P t) : ∃ t, (if c then a else b) = .next t ∧ P t := by
  split
  · exact ha
  · exact hb

@[simp] theorem State.kept_dite (c : Prop) [Decidable c] (s : c → State) (t : ¬c → State) (k : Kept) (hs : ∀ h, (s h).kept = k) (ht : ∀ h, (t h).kept = k) :
    (if h : c then s h else t h).kept = k := by
  split
  · exact hs _
  · exact ht _

@[simp ↓] theorem State.modPort_kept (s : State) (n : PortId) (f : Port → Port) (h : ∀ x, (f x).rxq = x.rxq) : (s.modPort n f).kept = s.kept := by
  have e : ∀ m : Fin 2, ((s.ports.set n (f s.ports[n]))[m]).rxq = (s.ports[m]).rxq := by
    intro m
    rw [Fin.getElem_fin, Vector.getElem_set]
    split
    · rename_i hm; rw [h]; simp [hm]
    · rfl
  have e0 := e 0
  have e1 := e 1
  simp only [State.modPort, State.kept_mk, State.kept] at *
  simp_all

@[simp ↓] theorem foldState_kept {α : Type} (l : List α) (f : α → State → State) (s : State) (h : ∀ a t, (f a t).kept = t.kept) :
    (foldState l f s).kept = s.kept := by
  unfold foldState
  induction l generalizing s with
  | nil => rfl
  | cons a l ih => rw [List.foldl_cons, ih, h]

end Sys2Proof.Machine
end

