-- ==== Sys2Proof/Laws/KeptParams.lean ====
section
/-! SUPPORT. The operations of Machine/Params.lean keep the kept part. -/

namespace Sys2Proof.Machine



end Sys2Proof.Machine
end

