-- ==== Sys2Proof/Laws/KeptOps.lean ====
section
/-! SUPPORT. The operations of Machine/Ops.lean keep the kept part. -/

namespace Sys2Proof.Machine

@[simp ↓] theorem State.setPortal_kept (s : State) (p : PortalId) (x : Portal) : (State.setPortal s p x).kept = s.kept := by
  unfold State.setPortal
  first | (simp [*]; done) | ((try dsimp only); repeat' (first | (simp; done) | (simp [*]; done) | intro _ | split | (apply Eq.trans; apply foldState_kept; all_goals intros) | simp))

@[simp ↓] theorem State.modPortal_kept (s : State) (p : PortalId) (f : Portal → Portal) : (State.modPortal s p f).kept = s.kept := by
  unfold State.modPortal
  first | (simp [*]; done) | ((try dsimp only); repeat' (first | (simp; done) | (simp [*]; done) | intro _ | split | (apply Eq.trans; apply foldState_kept; all_goals intros) | simp))

@[simp ↓] theorem State.modLeaf_kept (s : State) (p : PortalId) (l : LeafId) (f : Leaf → Leaf) : (State.modLeaf s p l f).kept = s.kept := by
  unfold State.modLeaf
  first | (simp [*]; done) | ((try dsimp only); repeat' (first | (simp; done) | (simp [*]; done) | intro _ | split | (apply Eq.trans; apply foldState_kept; all_goals intros) | simp))

@[simp ↓] theorem State.modDet_kept (s : State) (p : PortalId) (l : LeafId) (f : Detector → Detector) : (State.modDet s p l f).kept = s.kept := by
  unfold State.modDet
  first | (simp [*]; done) | ((try dsimp only); repeat' (first | (simp; done) | (simp [*]; done) | intro _ | split | (apply Eq.trans; apply foldState_kept; all_goals intros) | simp))

@[simp ↓] theorem State.modStep_kept (s : State) (p : PortalId) (f : Step → Step) : (State.modStep s p f).kept = s.kept := by
  unfold State.modStep
  first | (simp [*]; done) | ((try dsimp only); repeat' (first | (simp; done) | (simp [*]; done) | intro _ | split | (apply Eq.trans; apply foldState_kept; all_goals intros) | simp))

@[simp ↓] theorem State.modFb_kept (s : State) (p : PortalId) (f : FbId) (g : Feedback → Feedback) : (State.modFb s p f g).kept = s.kept := by
  unfold State.modFb
  first | (simp [*]; done) | ((try dsimp only); repeat' (first | (simp; done) | (simp [*]; done) | intro _ | split | (apply Eq.trans; apply foldState_kept; all_goals intros) | simp))

@[simp ↓] theorem State.modChan_kept (s : State) (p : PortalId) (c : ChanId) (f : Channel → Channel) : (State.modChan s p c f).kept = s.kept := by
  unfold State.modChan
  first | (simp [*]; done) | ((try dsimp only); repeat' (first | (simp; done) | (simp [*]; done) | intro _ | split | (apply Eq.trans; apply foldState_kept; all_goals intros) | simp))

@[simp ↓] theorem State.modDie_kept (s : State) (d : DieId) (f : Die → Die) : (State.modDie s d f).kept = s.kept := by
  unfold State.modDie
  first | (simp [*]; done) | ((try dsimp only); repeat' (first | (simp; done) | (simp [*]; done) | intro _ | split | (apply Eq.trans; apply foldState_kept; all_goals intros) | simp))

@[simp ↓] theorem State.modSlot_kept (s : State) (d : PdId) (n : SlotId) (f : Slot → Slot) : (State.modSlot s d n f).kept = s.kept := by
  unfold State.modSlot
  first | (simp [*]; done) | ((try dsimp only); repeat' (first | (simp; done) | (simp [*]; done) | intro _ | split | (apply Eq.trans; apply foldState_kept; all_goals intros) | simp))

@[simp ↓] theorem State.modCan_kept (s : State) (n : CanId) (f : Can → Can) : (State.modCan s n f).kept = s.kept := by
  unfold State.modCan
  first | (simp [*]; done) | ((try dsimp only); repeat' (first | (simp; done) | (simp [*]; done) | intro _ | split | (apply Eq.trans; apply foldState_kept; all_goals intros) | simp))

@[simp ↓] theorem State.modPair_kept (s : State) (d : Fin 3) (f : Pair → Pair) : (State.modPair s d f).kept = s.kept := by
  unfold State.modPair
  first | (simp [*]; done) | ((try dsimp only); repeat' (first | (simp; done) | (simp [*]; done) | intro _ | split | (apply Eq.trans; apply foldState_kept; all_goals intros) | simp))

@[simp ↓] theorem State.advance_kept (s : State) (dt : Nat) : (State.advance s dt).kept = s.kept := by
  unfold State.advance
  first | (simp [*]; done) | ((try dsimp only); repeat' (first | (simp; done) | (simp [*]; done) | intro _ | split | (apply Eq.trans; apply foldState_kept; all_goals intros) | simp))

@[simp ↓] theorem State.markSet_kept (s : State) (pid unit bit : Nat) : (State.markSet s pid unit bit).kept = s.kept := by
  unfold State.markSet
  first | (simp [*]; done) | ((try dsimp only); repeat' (first | (simp; done) | (simp [*]; done) | intro _ | split | (apply Eq.trans; apply foldState_kept; all_goals intros) | simp))

@[simp ↓] theorem State.raiseAt_kept (s : State) (d : DieId) (src code unit param : Nat) : (State.raiseAt s d src code unit param).kept = s.kept := by
  unfold State.raiseAt
  first | (simp [*]; done) | ((try dsimp only); repeat' (first | (simp; done) | (simp [*]; done) | intro _ | split | (apply Eq.trans; apply foldState_kept; all_goals intros) | simp))

@[simp ↓] theorem State.raise_kept (s : State) (src code unit param : Nat) : (State.raise s src code unit param).kept = s.kept := by
  unfold State.raise
  first | (simp [*]; done) | ((try dsimp only); repeat' (first | (simp; done) | (simp [*]; done) | intro _ | split | (apply Eq.trans; apply foldState_kept; all_goals intros) | simp))

@[simp ↓] theorem State.raisePortal_kept (s : State) (p : PortalId) (code unit param : Nat) : (State.raisePortal s p code unit param).kept = s.kept := by
  unfold State.raisePortal
  first | (simp [*]; done) | ((try dsimp only); repeat' (first | (simp; done) | (simp [*]; done) | intro _ | split | (apply Eq.trans; apply foldState_kept; all_goals intros) | simp))

@[simp ↓] theorem State.segPut_kept (s : State) (k : Nat) : (State.segPut s k).kept = s.kept := by
  unfold State.segPut
  first | (simp [*]; done) | ((try dsimp only); repeat' (first | (simp; done) | (simp [*]; done) | intro _ | split | (apply Eq.trans; apply foldState_kept; all_goals intros) | simp))

@[simp ↓] theorem State.segLoad_kept (s : State) : (State.segLoad s).kept = s.kept := by
  unfold State.segLoad
  first | (simp [*]; done) | ((try dsimp only); repeat' (first | (simp; done) | (simp [*]; done) | intro _ | split | (apply Eq.trans; apply foldState_kept; all_goals intros) | simp))

@[simp ↓] theorem State.putReply_kept (s : State) (n : PortId) (r : Reply) : (State.putReply s n r).kept = s.kept := by
  unfold State.putReply
  first | (simp [*]; done) | ((try dsimp only); repeat' (first | (simp; done) | (simp [*]; done) | intro _ | split | (apply Eq.trans; apply foldState_kept; all_goals intros) | simp))

@[simp ↓] theorem State.replyApart_kept (s : State) (h : Handle) (status : Nat) (full : Bool) (params : List Byte) : (State.replyApart s h status full params).kept = s.kept := by
  unfold State.replyApart
  first | (simp [*]; done) | ((try dsimp only); repeat' (first | (simp; done) | (simp [*]; done) | intro _ | split | (apply Eq.trans; apply foldState_kept; all_goals intros) | simp))

@[simp ↓] theorem State.reply_kept (s : State) (h : Handle) (status : Nat) (params : List Byte) : (State.reply s h status params).kept = s.kept := by
  unfold State.reply
  first | (simp [*]; done) | ((try dsimp only); repeat' (first | (simp; done) | (simp [*]; done) | intro _ | split | (apply Eq.trans; apply foldState_kept; all_goals intros) | simp))

@[simp ↓] theorem State.refuse_kept (s : State) (h : Handle) (status : Nat) : (State.refuse s h status).kept = s.kept := by
  unfold State.refuse
  first | (simp [*]; done) | ((try dsimp only); repeat' (first | (simp; done) | (simp [*]; done) | intro _ | split | (apply Eq.trans; apply foldState_kept; all_goals intros) | simp))

@[simp ↓] theorem State.groupReply_kept (s : State) (g : GroupOp) : (State.groupReply s g).kept = s.kept := by
  unfold State.groupReply
  first | (simp [*]; done) | ((try dsimp only); repeat' (first | (simp; done) | (simp [*]; done) | intro _ | split | (apply Eq.trans; apply foldState_kept; all_goals intros) | simp))

@[simp ↓] theorem State.memberEnd_kept (s : State) (id : Nat) (p : PortalId) (status : Nat) (params : List Byte) : (State.memberEnd s id p status params).kept = s.kept := by
  unfold State.memberEnd
  first | (simp [*]; done) | ((try dsimp only); repeat' (first | (simp; done) | (simp [*]; done) | intro _ | split | (apply Eq.trans; apply foldState_kept; all_goals intros) | simp))

@[simp ↓] theorem State.finish_kept (s : State) (p : PortalId) (r : CmdRef) (status : Nat) (params : List Byte) : (State.finish s p r status params).kept = s.kept := by
  unfold State.finish
  first | (simp [*]; done) | ((try dsimp only); repeat' (first | (simp; done) | (simp [*]; done) | intro _ | split | (apply Eq.trans; apply foldState_kept; all_goals intros) | simp))

@[simp ↓] theorem State.finishAll_kept (s : State) (p : PortalId) (l : List CmdRef) (status : Nat) (params : List Byte) : (State.finishAll s p l status params).kept = s.kept := by
  unfold State.finishAll
  first | (simp [*]; done) | ((try dsimp only); repeat' (first | (simp; done) | (simp [*]; done) | intro _ | split | (apply Eq.trans; apply foldState_kept; all_goals intros) | simp))

@[simp ↓] theorem State.drawNat_kept (s : State) : (State.drawNat s).2.kept = s.kept := by
  unfold State.drawNat
  first | (simp [*]; done) | ((try dsimp only); repeat' (first | (simp; done) | (simp [*]; done) | intro _ | split | (apply Eq.trans; apply foldState_kept; all_goals intros) | simp))

@[simp ↓] theorem State.drawRat_kept (s : State) : (State.drawRat s).2.kept = s.kept := by
  unfold State.drawRat
  first | (simp [*]; done) | ((try dsimp only); repeat' (first | (simp; done) | (simp [*]; done) | intro _ | split | (apply Eq.trans; apply foldState_kept; all_goals intros) | simp))

@[simp ↓] theorem State.zsEvent_kept (s : State) : (State.zsEvent s).kept = s.kept := by
  unfold State.zsEvent
  first | (simp [*]; done) | ((try dsimp only); repeat' (first | (simp; done) | (simp [*]; done) | intro _ | split | (apply Eq.trans; apply foldState_kept; all_goals intros) | simp))

@[simp ↓] theorem State.zsReport_kept (s : State) : (State.zsReport s).kept = s.kept := by
  unfold State.zsReport
  first | (simp [*]; done) | ((try dsimp only); repeat' (first | (simp; done) | (simp [*]; done) | intro _ | split | (apply Eq.trans; apply foldState_kept; all_goals intros) | simp))

end Sys2Proof.Machine
end

