-- ==== Sys2Proof/Laws/KeptChanOps.lean ====
section
/-! SUPPORT. The operations of Machine/ChanOps.lean keep the kept part. -/

namespace Sys2Proof.Machine

@[simp ↓] theorem State.fsDieEvent_kept (s : State) (k : PwId) (set : Bool) (cause : Nat) : (State.fsDieEvent s k set cause).kept = s.kept := by
  unfold State.fsDieEvent
  first | (simp [*]; done) | ((try dsimp only); repeat' (first | (simp; done) | (simp [*]; done) | intro _ | split | (apply Eq.trans; apply foldState_kept; all_goals intros) | simp))

@[simp ↓] theorem State.fsDeviceEvent_kept (s : State) (set : Bool) (cause : Nat) : (State.fsDeviceEvent s set cause).kept = s.kept := by
  unfold State.fsDeviceEvent
  first | (simp [*]; done) | ((try dsimp only); repeat' (first | (simp; done) | (simp [*]; done) | intro _ | split | (apply Eq.trans; apply foldState_kept; all_goals intros) | simp))

@[simp ↓] theorem State.fsPortalEvent_kept (s : State) (p : PortalId) (set : Bool) (cause : Nat) : (State.fsPortalEvent s p set cause).kept = s.kept := by
  unfold State.fsPortalEvent
  first | (simp [*]; done) | ((try dsimp only); repeat' (first | (simp; done) | (simp [*]; done) | intro _ | split | (apply Eq.trans; apply foldState_kept; all_goals intros) | simp))

@[simp ↓] theorem State.chanSync_kept (s : State) (p : PortalId) (c : ChanId) : (State.chanSync s p c).kept = s.kept := by
  unfold State.chanSync
  first | (simp [*]; done) | ((try dsimp only); repeat' (first | (simp; done) | (simp [*]; done) | intro _ | split | (apply Eq.trans; apply foldState_kept; all_goals intros) | simp))

@[simp ↓] theorem State.chansSync_kept (s : State) (p : PortalId) : (State.chansSync s p).kept = s.kept := by
  unfold State.chansSync
  first | (simp [*]; done) | ((try dsimp only); repeat' (first | (simp; done) | (simp [*]; done) | intro _ | split | (apply Eq.trans; apply foldState_kept; all_goals intros) | simp))

@[simp ↓] theorem State.allChansSync_kept (s : State) : (State.allChansSync s).kept = s.kept := by
  unfold State.allChansSync
  first | (simp [*]; done) | ((try dsimp only); repeat' (first | (simp; done) | (simp [*]; done) | intro _ | split | (apply Eq.trans; apply foldState_kept; all_goals intros) | simp))

@[simp ↓] theorem State.setRole_kept (s : State) (p : PortalId) (ch : Option Nat) (on : Bool) : (State.setRole s p ch on).kept = s.kept := by
  unfold State.setRole
  first | (simp [*]; done) | ((try dsimp only); repeat' (first | (simp; done) | (simp [*]; done) | intro _ | split | (apply Eq.trans; apply foldState_kept; all_goals intros) | simp))

@[simp ↓] theorem State.setLock_kept (s : State) (p : PortalId) (on : Bool) : (State.setLock s p on).kept = s.kept := by
  unfold State.setLock
  first | (simp [*]; done) | ((try dsimp only); repeat' (first | (simp; done) | (simp [*]; done) | intro _ | split | (apply Eq.trans; apply foldState_kept; all_goals intros) | simp))

@[simp ↓] theorem State.setWarn_kept (s : State) (p : PortalId) (on : Bool) : (State.setWarn s p on).kept = s.kept := by
  unfold State.setWarn
  first | (simp [*]; done) | ((try dsimp only); repeat' (first | (simp; done) | (simp [*]; done) | intro _ | split | (apply Eq.trans; apply foldState_kept; all_goals intros) | simp))

@[simp ↓] theorem State.setValves_kept (s : State) (p : PortalId) (l : LeafId) (op cl : Bool) : (State.setValves s p l op cl).kept = s.kept := by
  unfold State.setValves
  first | (simp [*]; done) | ((try dsimp only); repeat' (first | (simp; done) | (simp [*]; done) | intro _ | split | (apply Eq.trans; apply foldState_kept; all_goals intros) | simp))

@[simp ↓] theorem State.endPulse_kept (s : State) (p : PortalId) (c : ChanId) (status : Nat) : (State.endPulse s p c status).kept = s.kept := by
  unfold State.endPulse
  first | (simp [*]; done) | ((try dsimp only); repeat' (first | (simp; done) | (simp [*]; done) | intro _ | split | (apply Eq.trans; apply foldState_kept; all_goals intros) | simp))

@[simp ↓] theorem State.endPulses_kept (s : State) (p : PortalId) (status : Nat) : (State.endPulses s p status).kept = s.kept := by
  unfold State.endPulses
  first | (simp [*]; done) | ((try dsimp only); repeat' (first | (simp; done) | (simp [*]; done) | intro _ | split | (apply Eq.trans; apply foldState_kept; all_goals intros) | simp))

@[simp ↓] theorem State.slotsOff_kept (s : State) (p : PortalId) : (State.slotsOff s p).kept = s.kept := by
  unfold State.slotsOff
  first | (simp [*]; done) | ((try dsimp only); repeat' (first | (simp; done) | (simp [*]; done) | intro _ | split | (apply Eq.trans; apply foldState_kept; all_goals intros) | simp))

@[simp ↓] theorem State.hostOff_kept (s : State) (p : PortalId) : (State.hostOff s p).kept = s.kept := by
  unfold State.hostOff
  first | (simp [*]; done) | ((try dsimp only); repeat' (first | (simp; done) | (simp [*]; done) | intro _ | split | (apply Eq.trans; apply foldState_kept; all_goals intros) | simp))

end Sys2Proof.Machine
end

