-- ==== Sys2Proof/Laws/KeptFence.lean ====
section
/-! SUPPORT. The operations of Machine/Fence.lean keep the kept part. -/

namespace Sys2Proof.Machine

@[simp ↓] theorem State.endTune_kept (s : State) (d : PdId) (n : SlotId) (outcome status : Nat) (results : List Byte) : (State.endTune s d n outcome status results).kept = s.kept := by
  unfold State.endTune
  first | (simp [*]; done) | ((try dsimp only); repeat' (first | (simp; done) | (simp [*]; done) | intro _ | split | (apply Eq.trans; apply foldState_kept; all_goals intros) | simp))

@[simp ↓] theorem State.abortTune_kept (s : State) (d : PdId) (n : SlotId) (outcome status : Nat) : (State.abortTune s d n outcome status).kept = s.kept := by
  unfold State.abortTune
  first | (simp [*]; done) | ((try dsimp only); repeat' (first | (simp; done) | (simp [*]; done) | intro _ | split | (apply Eq.trans; apply foldState_kept; all_goals intros) | simp))

@[simp ↓] theorem State.endClosing_kept (s : State) (d : PdId) (n : SlotId) : (State.endClosing s d n).kept = s.kept := by
  unfold State.endClosing
  first | (simp [*]; done) | ((try dsimp only); repeat' (first | (simp; done) | (simp [*]; done) | intro _ | split | (apply Eq.trans; apply foldState_kept; all_goals intros) | simp))

@[simp ↓] theorem State.syncSlots_kept (s : State) (p : PortalId) (l : LeafId) : (State.syncSlots s p l).kept = s.kept := by
  unfold State.syncSlots
  first | (simp [*]; done) | ((try dsimp only); repeat' (first | (simp; done) | (simp [*]; done) | intro _ | split | (apply Eq.trans; apply foldState_kept; all_goals intros) | simp))

@[simp ↓] theorem State.abortTunes_kept (s : State) (p : PortalId) (outcome status : Nat) : (State.abortTunes s p outcome status).kept = s.kept := by
  unfold State.abortTunes
  first | (simp [*]; done) | ((try dsimp only); repeat' (first | (simp; done) | (simp [*]; done) | intro _ | split | (apply Eq.trans; apply foldState_kept; all_goals intros) | simp))

@[simp ↓] theorem State.modWatch_kept (s : State) (p : PortalId) : (State.modWatch s p).kept = s.kept := by
  unfold State.modWatch
  first | (simp [*]; done) | ((try dsimp only); repeat' (first | (simp; done) | (simp [*]; done) | intro _ | split | (apply Eq.trans; apply foldState_kept; all_goals intros) | simp))

@[simp ↓] theorem State.endEfBrake_kept (s : State) (p : PortalId) (l : LeafId) : (State.endEfBrake s p l).kept = s.kept := by
  unfold State.endEfBrake
  first | (simp [*]; done) | ((try dsimp only); repeat' (first | (simp; done) | (simp [*]; done) | intro _ | split | (apply Eq.trans; apply foldState_kept; all_goals intros) | simp))

@[simp ↓] theorem State.setDrive_kept (s : State) (p : PortalId) (l : LeafId) (d : Drive) : (State.setDrive s p l d).kept = s.kept := by
  unfold State.setDrive
  first | (simp [*]; done) | ((try dsimp only); repeat' (first | (simp; done) | (simp [*]; done) | intro _ | split | (apply Eq.trans; apply foldState_kept; all_goals intros) | simp))

@[simp ↓] theorem State.leafBrake_kept (s : State) (p : PortalId) (l : LeafId) : (State.leafBrake s p l).kept = s.kept := by
  unfold State.leafBrake
  first | (simp [*]; done) | ((try dsimp only); repeat' (first | (simp; done) | (simp [*]; done) | intro _ | split | (apply Eq.trans; apply foldState_kept; all_goals intros) | simp))

@[simp ↓] theorem State.faultBrake_kept (s : State) (p : PortalId) (l : LeafId) : (State.faultBrake s p l).kept = s.kept := by
  unfold State.faultBrake
  first | (simp [*]; done) | ((try dsimp only); repeat' (first | (simp; done) | (simp [*]; done) | intro _ | split | (apply Eq.trans; apply foldState_kept; all_goals intros) | simp))

@[simp ↓] theorem State.leafTrip_kept (s : State) (p : PortalId) (l : LeafId) : (State.leafTrip s p l).kept = s.kept := by
  unfold State.leafTrip
  first | (simp [*]; done) | ((try dsimp only); repeat' (first | (simp; done) | (simp [*]; done) | intro _ | split | (apply Eq.trans; apply foldState_kept; all_goals intros) | simp))

@[simp ↓] theorem State.leafOff_kept (s : State) (p : PortalId) (l : LeafId) : (State.leafOff s p l).kept = s.kept := by
  unfold State.leafOff
  first | (simp [*]; done) | ((try dsimp only); repeat' (first | (simp; done) | (simp [*]; done) | intro _ | split | (apply Eq.trans; apply foldState_kept; all_goals intros) | simp))

@[simp ↓] theorem State.stepUncertain_kept (s : State) (p : PortalId) (reason stateCode : Nat) : (State.stepUncertain s p reason stateCode).kept = s.kept := by
  unfold State.stepUncertain
  first | (simp [*]; done) | ((try dsimp only); repeat' (first | (simp; done) | (simp [*]; done) | intro _ | split | (apply Eq.trans; apply foldState_kept; all_goals intros) | simp))

@[simp ↓] theorem State.stepCatchUp_kept (s : State) (p : PortalId) : (State.stepCatchUp s p).kept = s.kept := by
  unfold State.stepCatchUp
  first | (simp [*]; done) | ((try dsimp only); repeat' (first | (simp; done) | (simp [*]; done) | intro _ | split | (apply Eq.trans; apply foldState_kept; all_goals intros) | simp))

@[simp ↓] theorem State.stepCatchUpTo_kept (s : State) (p : PortalId) : (State.stepCatchUpTo s p).kept = s.kept := by
  unfold State.stepCatchUpTo
  first | (simp [*]; done) | ((try dsimp only); repeat' (first | (simp; done) | (simp [*]; done) | intro _ | split | (apply Eq.trans; apply foldState_kept; all_goals intros) | simp))

@[simp ↓] theorem State.stepStop_kept (s : State) (p : PortalId) (d : StepDrive) : (State.stepStop s p d).kept = s.kept := by
  unfold State.stepStop
  first | (simp [*]; done) | ((try dsimp only); repeat' (first | (simp; done) | (simp [*]; done) | intro _ | split | (apply Eq.trans; apply foldState_kept; all_goals intros) | simp))

@[simp ↓] theorem State.undeclare_kept (s : State) (p : PortalId) : (State.undeclare s p).kept = s.kept := by
  unfold State.undeclare
  first | (simp [*]; done) | ((try dsimp only); repeat' (first | (simp; done) | (simp [*]; done) | intro _ | split | (apply Eq.trans; apply foldState_kept; all_goals intros) | simp))

@[simp ↓] theorem State.notClean_kept (s : State) (p : PortalId) : (State.notClean s p).kept = s.kept := by
  unfold State.notClean
  first | (simp [*]; done) | ((try dsimp only); repeat' (first | (simp; done) | (simp [*]; done) | intro _ | split | (apply Eq.trans; apply foldState_kept; all_goals intros) | simp))

@[simp ↓] theorem State.setPState_kept (s : State) (p : PortalId) (st : PState) : (State.setPState s p st).kept = s.kept := by
  unfold State.setPState
  first | (simp [*]; done) | ((try dsimp only); repeat' (first | (simp; done) | (simp [*]; done) | intro _ | split | (apply Eq.trans; apply foldState_kept; all_goals intros) | simp))

@[simp ↓] theorem State.endOpenClose_kept (s : State) (p : PortalId) (status outcome : Nat) : (State.endOpenClose s p status outcome).kept = s.kept := by
  unfold State.endOpenClose
  first | (simp [*]; done) | ((try dsimp only); repeat' (first | (simp; done) | (simp [*]; done) | intro _ | split | (apply Eq.trans; apply foldState_kept; all_goals intros) | simp))

@[simp ↓] theorem State.stepJogCut_kept (s : State) (p : PortalId) : (State.stepJogCut s p).kept = s.kept := by
  unfold State.stepJogCut
  first | (simp [*]; done) | ((try dsimp only); repeat' (first | (simp; done) | (simp [*]; done) | intro _ | split | (apply Eq.trans; apply foldState_kept; all_goals intros) | simp))

@[simp ↓] theorem State.endMotion_kept (s : State) (p : PortalId) : (State.endMotion s p).kept = s.kept := by
  unfold State.endMotion
  first | (simp [*]; done) | ((try dsimp only); repeat' (first | (simp; done) | (simp [*]; done) | intro _ | split | (apply Eq.trans; apply foldState_kept; all_goals intros) | simp))

@[simp ↓] theorem State.jogLeft_kept (s : State) (p : PortalId) : (State.jogLeft s p).kept = s.kept := by
  unfold State.jogLeft
  first | (simp [*]; done) | ((try dsimp only); repeat' (first | (simp; done) | (simp [*]; done) | intro _ | split | (apply Eq.trans; apply foldState_kept; all_goals intros) | simp))

@[simp ↓] theorem State.degrade_kept (s : State) : (State.degrade s).kept = s.kept := by
  unfold State.degrade
  first | (simp [*]; done) | ((try dsimp only); repeat' (first | (simp; done) | (simp [*]; done) | intro _ | split | (apply Eq.trans; apply foldState_kept; all_goals intros) | simp))

@[simp ↓] theorem State.failSafe_kept (s : State) (p : PortalId) : (State.failSafe s p).kept = s.kept := by
  unfold State.failSafe
  first | (simp [*]; done) | ((try dsimp only); repeat' (first | (simp; done) | (simp [*]; done) | intro _ | split | (apply Eq.trans; apply foldState_kept; all_goals intros) | simp))

@[simp ↓] theorem State.failSafeEnd_kept (s : State) (p : PortalId) : (State.failSafeEnd s p).kept = s.kept := by
  unfold State.failSafeEnd
  first | (simp [*]; done) | ((try dsimp only); repeat' (first | (simp; done) | (simp [*]; done) | intro _ | split | (apply Eq.trans; apply foldState_kept; all_goals intros) | simp))

@[simp ↓] theorem State.memberFails_kept (s : State) (p : PortalId) (c : PCmd) (status outcome : Nat) : (State.memberFails s p c status outcome).kept = s.kept := by
  unfold State.memberFails
  first | (simp [*]; done) | ((try dsimp only); repeat' (first | (simp; done) | (simp [*]; done) | intro _ | split | (apply Eq.trans; apply foldState_kept; all_goals intros) | simp))

@[simp ↓] theorem State.stopMembers_kept (s : State) (p : PortalId) : (State.stopMembers s p).kept = s.kept := by
  unfold State.stopMembers
  first | (simp [*]; done) | ((try dsimp only); repeat' (first | (simp; done) | (simp [*]; done) | intro _ | split | (apply Eq.trans; apply foldState_kept; all_goals intros) | simp))

@[simp ↓] theorem State.enterFenced_kept (s : State) (p : PortalId) : (State.enterFenced s p).kept = s.kept := by
  unfold State.enterFenced
  first | (simp [*]; done) | ((try dsimp only); repeat' (first | (simp; done) | (simp [*]; done) | intro _ | split | (apply Eq.trans; apply foldState_kept; all_goals intros) | simp))

@[simp ↓] theorem State.fenceNow_kept (s : State) (p : PortalId) (cause unit param : Nat) : (State.fenceNow s p cause unit param).kept = s.kept := by
  unfold State.fenceNow
  first | (simp [*]; done) | ((try dsimp only); repeat' (first | (simp; done) | (simp [*]; done) | intro _ | split | (apply Eq.trans; apply foldState_kept; all_goals intros) | simp))

@[simp ↓] theorem State.fence_kept (s : State) (p : PortalId) (cause unit param : Nat) : (State.fence s p cause unit param).kept = s.kept := by
  unfold State.fence
  first | (simp [*]; done) | ((try dsimp only); repeat' (first | (simp; done) | (simp [*]; done) | intro _ | split | (apply Eq.trans; apply foldState_kept; all_goals intros) | simp))

@[simp ↓] theorem State.foundStep_kept (s : State) (p : PortalId) : (State.foundStep s p).kept = s.kept := by
  unfold State.foundStep
  first | (simp [*]; done) | ((try dsimp only); repeat' (first | (simp; done) | (simp [*]; done) | intro _ | split | (apply Eq.trans; apply foldState_kept; all_goals intros) | simp))

@[simp ↓] theorem State.fenceP_kept (s : State) (p : PortalId) (cause : Nat) : (State.fenceP s p cause).kept = s.kept := by
  unfold State.fenceP
  first | (simp [*]; done) | ((try dsimp only); repeat' (first | (simp; done) | (simp [*]; done) | intro _ | split | (apply Eq.trans; apply foldState_kept; all_goals intros) | simp))

@[simp ↓] theorem State.fenceServed_kept (s : State) (d : DieId) (cause param : Nat) : (State.fenceServed s d cause param).kept = s.kept := by
  unfold State.fenceServed
  first | (simp [*]; done) | ((try dsimp only); repeat' (first | (simp; done) | (simp [*]; done) | intro _ | split | (apply Eq.trans; apply foldState_kept; all_goals intros) | simp))

end Sys2Proof.Machine
end

