-- ==== Sys2Proof/Laws/KeptObstacle.lean ====
section
/-! SUPPORT. The operations of Machine/Obstacle.lean keep the kept part. -/

namespace Sys2Proof.Machine

@[simp ↓] theorem State.latchTransition_kept (s : State) (p : PortalId) (l : LeafId) : (State.latchTransition s p l).kept = s.kept := by
  unfold State.latchTransition
  first | (simp [*]; done) | ((try dsimp only); repeat' (first | (simp; done) | (simp [*]; done) | intro _ | split | (apply Eq.trans; apply foldState_kept; all_goals intros) | simp))

@[simp ↓] theorem State.setSeen_kept (s : State) (p : PortalId) (l : LeafId) (b : Nat) : (State.setSeen s p l b).kept = s.kept := by
  unfold State.setSeen
  first | (simp [*]; done) | ((try dsimp only); repeat' (first | (simp; done) | (simp [*]; done) | intro _ | split | (apply Eq.trans; apply foldState_kept; all_goals intros) | simp))

@[simp ↓] theorem State.detTick_kept (s : State) (p : PortalId) (l : LeafId) : (State.detTick s p l).kept = s.kept := by
  unfold State.detTick
  first | (simp [*]; done) | ((try dsimp only); repeat' (first | (simp; done) | (simp [*]; done) | intro _ | split | (apply Eq.trans; apply foldState_kept; all_goals intros) | simp))

@[simp ↓] theorem State.ffClamp_kept (s : State) (p : PortalId) (l : LeafId) (i : Int) : (State.ffClamp s p l i).2.kept = s.kept := by
  unfold State.ffClamp
  first | (simp [*]; done) | ((try dsimp only); repeat' (first | (simp; done) | (simp [*]; done) | intro _ | split | (apply Eq.trans; apply foldState_kept; all_goals intros) | simp))

@[simp ↓] theorem State.efClamp_kept (s : State) (p : PortalId) (l : LeafId) (v : Rat) : (State.efClamp s p l v).2.kept = s.kept := by
  unfold State.efClamp
  first | (simp [*]; done) | ((try dsimp only); repeat' (first | (simp; done) | (simp [*]; done) | intro _ | split | (apply Eq.trans; apply foldState_kept; all_goals intros) | simp))

theorem execObstacleDeclared_kept (dt : Nat) (p : PortalId) (l : LeafId) (s : State) : ∃ t, execObstacleDeclared dt p l s = .next t ∧ t.kept = s.kept := by
  unfold execObstacleDeclared
  (try dsimp only)
  repeat' (first | refine ⟨_, rfl, ?_⟩ | apply next_ite | split)
  all_goals first | (simp [*]; done) | ((try dsimp only); repeat' (first | (simp; done) | (simp [*]; done) | intro _ | split | (apply Eq.trans; apply foldState_kept; all_goals intros) | simp))

theorem execEnergyFenceBrake_kept (dt : Nat) (p : PortalId) (l : LeafId) (s : State) : ∃ t, execEnergyFenceBrake dt p l s = .next t ∧ t.kept = s.kept := by
  unfold execEnergyFenceBrake
  (try dsimp only)
  repeat' (first | refine ⟨_, rfl, ?_⟩ | apply next_ite | split)
  all_goals first | (simp [*]; done) | ((try dsimp only); repeat' (first | (simp; done) | (simp [*]; done) | intro _ | split | (apply Eq.trans; apply foldState_kept; all_goals intros) | simp))

theorem execEnergyBrakeRelease_kept (dt : Nat) (p : PortalId) (l : LeafId) (s : State) : ∃ t, execEnergyBrakeRelease dt p l s = .next t ∧ t.kept = s.kept := by
  unfold execEnergyBrakeRelease
  (try dsimp only)
  repeat' (first | refine ⟨_, rfl, ?_⟩ | apply next_ite | split)
  all_goals first | (simp [*]; done) | ((try dsimp only); repeat' (first | (simp; done) | (simp [*]; done) | intro _ | split | (apply Eq.trans; apply foldState_kept; all_goals intros) | simp))

@[simp ↓] theorem State.fenceUnitFault_kept (s : State) (p : PortalId) (l : LeafId) (shadow : Bool) (unit : Nat) : (State.fenceUnitFault s p l shadow unit).kept = s.kept := by
  unfold State.fenceUnitFault
  first | (simp [*]; done) | ((try dsimp only); repeat' (first | (simp; done) | (simp [*]; done) | intro _ | split | (apply Eq.trans; apply foldState_kept; all_goals intros) | simp))

theorem execFenceSelfTest_kept (dt : Nat) (p : PortalId) (l : LeafId) (pass : Bool) (s : State) : ∃ t, execFenceSelfTest dt p l pass s = .next t ∧ t.kept = s.kept := by
  unfold execFenceSelfTest
  (try dsimp only)
  repeat' (first | refine ⟨_, rfl, ?_⟩ | apply next_ite | split)
  all_goals first | (simp [*]; done) | ((try dsimp only); repeat' (first | (simp; done) | (simp [*]; done) | intro _ | split | (apply Eq.trans; apply foldState_kept; all_goals intros) | simp))

@[simp ↓] theorem State.learn_kept (s : State) (p : PortalId) (l : LeafId) (isOpen : Bool) : (State.learn s p l isOpen).kept = s.kept := by
  unfold State.learn
  first | (simp [*]; done) | ((try dsimp only); repeat' (first | (simp; done) | (simp [*]; done) | intro _ | split | (apply Eq.trans; apply foldState_kept; all_goals intros) | simp))

@[simp ↓] theorem State.traversalStart_kept (s : State) (p : PortalId) : (State.traversalStart s p).kept = s.kept := by
  unfold State.traversalStart
  first | (simp [*]; done) | ((try dsimp only); repeat' (first | (simp; done) | (simp [*]; done) | intro _ | split | (apply Eq.trans; apply foldState_kept; all_goals intros) | simp))

@[simp ↓] theorem State.motionStart_kept (s : State) (p : PortalId) : (State.motionStart s p).kept = s.kept := by
  unfold State.motionStart
  first | (simp [*]; done) | ((try dsimp only); repeat' (first | (simp; done) | (simp [*]; done) | intro _ | split | (apply Eq.trans; apply foldState_kept; all_goals intros) | simp))

@[simp ↓] theorem State.edgeClamp_kept (s : State) (p : PortalId) : (State.edgeClamp s p).kept = s.kept := by
  unfold State.edgeClamp
  first | (simp [*]; done) | ((try dsimp only); repeat' (first | (simp; done) | (simp [*]; done) | intro _ | split | (apply Eq.trans; apply foldState_kept; all_goals intros) | simp))

@[simp ↓] theorem State.traversalEnd_kept (s : State) (p : PortalId) (isOpen ended : Bool) : (State.traversalEnd s p isOpen ended).kept = s.kept := by
  unfold State.traversalEnd
  first | (simp [*]; done) | ((try dsimp only); repeat' (first | (simp; done) | (simp [*]; done) | intro _ | split | (apply Eq.trans; apply foldState_kept; all_goals intros) | simp))

theorem execMapSave_kept (dt : Nat) (p : PortalId) (l : LeafId) (s : State) : ∃ t, execMapSave dt p l s = .next t ∧ t.kept = s.kept := by
  unfold execMapSave
  (try dsimp only)
  repeat' (first | refine ⟨_, rfl, ?_⟩ | apply next_ite | split)
  all_goals first | (simp [*]; done) | ((try dsimp only); repeat' (first | (simp; done) | (simp [*]; done) | intro _ | split | (apply Eq.trans; apply foldState_kept; all_goals intros) | simp))

@[simp ↓] theorem State.mapInit_kept (s : State) (p : PortalId) (l : LeafId) (reason : Nat) : (State.mapInit s p l reason).kept = s.kept := by
  unfold State.mapInit
  first | (simp [*]; done) | ((try dsimp only); repeat' (first | (simp; done) | (simp [*]; done) | intro _ | split | (apply Eq.trans; apply foldState_kept; all_goals intros) | simp))

@[simp ↓] theorem State.fricReset_kept (s : State) (p : PortalId) (l : LeafId) : (State.fricReset s p l).kept = s.kept := by
  unfold State.fricReset
  first | (simp [*]; done) | ((try dsimp only); repeat' (first | (simp; done) | (simp [*]; done) | intro _ | split | (apply Eq.trans; apply foldState_kept; all_goals intros) | simp))

@[simp ↓] theorem State.loadMap_kept (s : State) (p : PortalId) (l : LeafId) : (State.loadMap s p l).kept = s.kept := by
  unfold State.loadMap
  first | (simp [*]; done) | ((try dsimp only); repeat' (first | (simp; done) | (simp [*]; done) | intro _ | split | (apply Eq.trans; apply foldState_kept; all_goals intros) | simp))

end Sys2Proof.Machine
end

