-- ==== Sys2Proof/Laws/KeptLoops.lean ====
section
/-! SUPPORT. The operations of Machine/Loops.lean keep the kept part. -/

namespace Sys2Proof.Machine

@[simp ↓] theorem State.applySlot_kept (s : State) (d : PdId) (n : SlotId) (u : Int) : (State.applySlot s d n u).2.kept = s.kept := by
  unfold State.applySlot
  first | (simp [*]; done) | ((try dsimp only); repeat' (first | (simp; done) | (simp [*]; done) | intro _ | split | (apply Eq.trans; apply foldState_kept; all_goals intros) | simp))

@[simp ↓] theorem State.slotUndrive_kept (s : State) (d : PdId) (n : SlotId) : (State.slotUndrive s d n).kept = s.kept := by
  unfold State.slotUndrive
  first | (simp [*]; done) | ((try dsimp only); repeat' (first | (simp; done) | (simp [*]; done) | intro _ | split | (apply Eq.trans; apply foldState_kept; all_goals intros) | simp))

@[simp ↓] theorem State.closedTick_kept (s : State) (d : PdId) (n : SlotId) (e w : Int) : (State.closedTick s d n e w).kept = s.kept := by
  unfold State.closedTick
  first | (simp [*]; done) | ((try dsimp only); repeat' (first | (simp; done) | (simp [*]; done) | intro _ | split | (apply Eq.trans; apply foldState_kept; all_goals intros) | simp))

@[simp ↓] theorem State.manualTick_kept (s : State) (d : PdId) (n : SlotId) : (State.manualTick s d n).kept = s.kept := by
  unfold State.manualTick
  first | (simp [*]; done) | ((try dsimp only); repeat' (first | (simp; done) | (simp [*]; done) | intro _ | split | (apply Eq.trans; apply foldState_kept; all_goals intros) | simp))

@[simp ↓] theorem State.holdTick_kept (s : State) (d : PdId) (n : SlotId) (e w : Int) : (State.holdTick s d n e w).kept = s.kept := by
  unfold State.holdTick
  first | (simp [*]; done) | ((try dsimp only); repeat' (first | (simp; done) | (simp [*]; done) | intro _ | split | (apply Eq.trans; apply foldState_kept; all_goals intros) | simp))

@[simp ↓] theorem State.tuneTick_kept (s : State) (d : PdId) (n : SlotId) (e : Int) : (State.tuneTick s d n e).kept = s.kept := by
  unfold State.tuneTick
  first | (simp [*]; done) | ((try dsimp only); repeat' (first | (simp; done) | (simp [*]; done) | intro _ | split | (apply Eq.trans; apply foldState_kept; all_goals intros) | simp))

@[simp ↓] theorem State.slotResidue_kept (s : State) (d : PdId) (n : SlotId) : (State.slotResidue s d n).kept = s.kept := by
  unfold State.slotResidue
  first | (simp [*]; done) | ((try dsimp only); repeat' (first | (simp; done) | (simp [*]; done) | intro _ | split | (apply Eq.trans; apply foldState_kept; all_goals intros) | simp))

@[simp ↓] theorem State.slotWork_kept (s : State) (d : PdId) (n : SlotId) : (State.slotWork s d n).kept = s.kept := by
  unfold State.slotWork
  first | (simp [*]; done) | ((try dsimp only); repeat' (first | (simp; done) | (simp [*]; done) | intro _ | split | (apply Eq.trans; apply foldState_kept; all_goals intros) | simp))

@[simp ↓] theorem State.slotTick_kept (s : State) (d : PdId) (n : SlotId) (residue : Bool) : (State.slotTick s d n residue).kept = s.kept := by
  unfold State.slotTick
  first | (simp [*]; done) | ((try dsimp only); repeat' (first | (simp; done) | (simp [*]; done) | intro _ | split | (apply Eq.trans; apply foldState_kept; all_goals intros) | simp))

theorem execSlotTick_kept (dt : Nat) (d : PdId) (n : SlotId) (residue : Bool) (s : State) : ∃ t, execSlotTick dt d n residue s = .next t ∧ t.kept = s.kept := by
  unfold execSlotTick
  (try dsimp only)
  repeat' (first | refine ⟨_, rfl, ?_⟩ | apply next_ite | split)
  all_goals first | (simp [*]; done) | ((try dsimp only); repeat' (first | (simp; done) | (simp [*]; done) | intro _ | split | (apply Eq.trans; apply foldState_kept; all_goals intros) | simp))

theorem execSlotResidueClear_kept (dt : Nat) (d : PdId) (n : SlotId) (s : State) : ∃ t, execSlotResidueClear dt d n s = .next t ∧ t.kept = s.kept := by
  unfold execSlotResidueClear
  (try dsimp only)
  repeat' (first | refine ⟨_, rfl, ?_⟩ | apply next_ite | split)
  all_goals first | (simp [*]; done) | ((try dsimp only); repeat' (first | (simp; done) | (simp [*]; done) | intro _ | split | (apply Eq.trans; apply foldState_kept; all_goals intros) | simp))

theorem execCheckerSelfTest_kept (dt : Nat) (d : PdId) (flagged : Bool) (s : State) : ∃ t, execCheckerSelfTest dt d flagged s = .next t ∧ t.kept = s.kept := by
  unfold execCheckerSelfTest
  (try dsimp only)
  repeat' (first | refine ⟨_, rfl, ?_⟩ | apply next_ite | split)
  all_goals first | (simp [*]; done) | ((try dsimp only); repeat' (first | (simp; done) | (simp [*]; done) | intro _ | split | (apply Eq.trans; apply foldState_kept; all_goals intros) | simp))

@[simp ↓] theorem State.tuneCheck_kept (s : State) (d : PdId) (n : SlotId) : (State.tuneCheck s d n).kept = s.kept := by
  unfold State.tuneCheck
  first | (simp [*]; done) | ((try dsimp only); repeat' (first | (simp; done) | (simp [*]; done) | intro _ | split | (apply Eq.trans; apply foldState_kept; all_goals intros) | simp))

theorem execTuneEnd_kept (dt : Nat) (d : PdId) (n : SlotId) (s : State) : ∃ t, execTuneEnd dt d n s = .next t ∧ t.kept = s.kept := by
  unfold execTuneEnd
  (try dsimp only)
  repeat' (first | refine ⟨_, rfl, ?_⟩ | apply next_ite | split)
  all_goals first | (simp [*]; done) | ((try dsimp only); repeat' (first | (simp; done) | (simp [*]; done) | intro _ | split | (apply Eq.trans; apply foldState_kept; all_goals intros) | simp))

@[simp ↓] theorem State.withSlot_kept (s : State) (h : Handle) (ps : List Byte) (f : PdId → SlotId → State) (hf : ∀ a0 a1, (f a0 a1).kept = s.kept) : (State.withSlot s h ps f).kept = s.kept := by
  unfold State.withSlot
  first | (simp [*]; done) | ((try dsimp only); repeat' (first | (simp; done) | (simp [*]; done) | intro _ | split | (apply Eq.trans; apply foldState_kept; all_goals intros) | simp))

@[simp ↓] theorem State.orRefuse_kept (s : State) (h : Handle) (r : Option (Nat × List Byte)) (f : State) (hf : f.kept = s.kept) : (State.orRefuse s h r f).kept = s.kept := by
  unfold State.orRefuse
  first | (simp [*]; done) | ((try dsimp only); repeat' (first | (simp; done) | (simp [*]; done) | intro _ | split | (apply Eq.trans; apply foldState_kept; all_goals intros) | (apply Eq.trans; apply State.withSlot_kept; all_goals intros) | simp))

@[simp ↓] theorem State.loopOpen_kept (s : State) (h : Handle) (ps : List Byte) : (State.loopOpen s h ps).kept = s.kept := by
  unfold State.loopOpen
  first | (simp [*]; done) | ((try dsimp only); repeat' (first | (simp; done) | (simp [*]; done) | intro _ | split | (apply Eq.trans; apply foldState_kept; all_goals intros) | (apply Eq.trans; apply State.withSlot_kept; all_goals intros) | (apply Eq.trans; apply State.orRefuse_kept; all_goals intros) | simp))

@[simp ↓] theorem State.loopClose_kept (s : State) (h : Handle) (ps : List Byte) : (State.loopClose s h ps).kept = s.kept := by
  unfold State.loopClose
  first | (simp [*]; done) | ((try dsimp only); repeat' (first | (simp; done) | (simp [*]; done) | intro _ | split | (apply Eq.trans; apply foldState_kept; all_goals intros) | (apply Eq.trans; apply State.withSlot_kept; all_goals intros) | (apply Eq.trans; apply State.orRefuse_kept; all_goals intros) | simp))

@[simp ↓] theorem State.loopManual_kept (s : State) (h : Handle) (ps : List Byte) : (State.loopManual s h ps).kept = s.kept := by
  unfold State.loopManual
  first | (simp [*]; done) | ((try dsimp only); repeat' (first | (simp; done) | (simp [*]; done) | intro _ | split | (apply Eq.trans; apply foldState_kept; all_goals intros) | (apply Eq.trans; apply State.withSlot_kept; all_goals intros) | (apply Eq.trans; apply State.orRefuse_kept; all_goals intros) | simp))

@[simp ↓] theorem State.slotDisable_kept (s : State) (h : Handle) (ps : List Byte) : (State.slotDisable s h ps).kept = s.kept := by
  unfold State.slotDisable
  first | (simp [*]; done) | ((try dsimp only); repeat' (first | (simp; done) | (simp [*]; done) | intro _ | split | (apply Eq.trans; apply foldState_kept; all_goals intros) | (apply Eq.trans; apply State.withSlot_kept; all_goals intros) | (apply Eq.trans; apply State.orRefuse_kept; all_goals intros) | simp))

@[simp ↓] theorem State.coefWrite_kept (s : State) (h : Handle) (ps : List Byte) : (State.coefWrite s h ps).kept = s.kept := by
  unfold State.coefWrite
  first | (simp [*]; done) | ((try dsimp only); repeat' (first | (simp; done) | (simp [*]; done) | intro _ | split | (apply Eq.trans; apply foldState_kept; all_goals intros) | (apply Eq.trans; apply State.withSlot_kept; all_goals intros) | (apply Eq.trans; apply State.orRefuse_kept; all_goals intros) | simp))

@[simp ↓] theorem State.slotRead_kept (s : State) (h : Handle) (ps : List Byte) : (State.slotRead s h ps).kept = s.kept := by
  unfold State.slotRead
  first | (simp [*]; done) | ((try dsimp only); repeat' (first | (simp; done) | (simp [*]; done) | intro _ | split | (apply Eq.trans; apply foldState_kept; all_goals intros) | (apply Eq.trans; apply State.withSlot_kept; all_goals intros) | (apply Eq.trans; apply State.orRefuse_kept; all_goals intros) | simp))

@[simp ↓] theorem State.tuneStart_kept (s : State) (h : Handle) (ps : List Byte) : (State.tuneStart s h ps).kept = s.kept := by
  unfold State.tuneStart
  first | (simp [*]; done) | ((try dsimp only); repeat' (first | (simp; done) | (simp [*]; done) | intro _ | split | (apply Eq.trans; apply foldState_kept; all_goals intros) | (apply Eq.trans; apply State.withSlot_kept; all_goals intros) | (apply Eq.trans; apply State.orRefuse_kept; all_goals intros) | simp))

@[simp ↓] theorem State.tuneStop_kept (s : State) (h : Handle) (ps : List Byte) : (State.tuneStop s h ps).kept = s.kept := by
  unfold State.tuneStop
  first | (simp [*]; done) | ((try dsimp only); repeat' (first | (simp; done) | (simp [*]; done) | intro _ | split | (apply Eq.trans; apply foldState_kept; all_goals intros) | (apply Eq.trans; apply State.withSlot_kept; all_goals intros) | (apply Eq.trans; apply State.orRefuse_kept; all_goals intros) | simp))

@[simp ↓] theorem State.tuneResult_kept (s : State) (h : Handle) (ps : List Byte) : (State.tuneResult s h ps).kept = s.kept := by
  unfold State.tuneResult
  first | (simp [*]; done) | ((try dsimp only); repeat' (first | (simp; done) | (simp [*]; done) | intro _ | split | (apply Eq.trans; apply foldState_kept; all_goals intros) | (apply Eq.trans; apply State.withSlot_kept; all_goals intros) | (apply Eq.trans; apply State.orRefuse_kept; all_goals intros) | simp))

end Sys2Proof.Machine
end

