-- ==== Sys2Proof/Laws/KeptChannels.lean ====
section
/-! SUPPORT. The operations of Machine/Channels.lean keep the kept part. -/

namespace Sys2Proof.Machine

@[simp ↓] theorem State.periodStart_kept (s : State) (p : PortalId) (c : ChanId) : (State.periodStart s p c).kept = s.kept := by
  unfold State.periodStart
  first | (simp [*]; done) | ((try dsimp only); repeat' (first | (simp; done) | (simp [*]; done) | intro _ | split | (apply Eq.trans; apply foldState_kept; all_goals intros) | (apply Eq.trans; apply State.withSlot_kept; all_goals intros) | (apply Eq.trans; apply State.orRefuse_kept; all_goals intros) | simp))

theorem execChannelPeriodStart_kept (dt : Nat) (p : PortalId) (c : ChanId) (vls : Int) (iAvg : Nat) (iOn : Option Nat) (s : State) : ∃ t, execChannelPeriodStart dt p c vls iAvg iOn s = .next t ∧ t.kept = s.kept := by
  unfold execChannelPeriodStart
  (try dsimp only)
  repeat' (first | refine ⟨_, rfl, ?_⟩ | apply next_ite | split)
  all_goals first | (simp [*]; done) | ((try dsimp only); repeat' (first | (simp; done) | (simp [*]; done) | intro _ | split | (apply Eq.trans; apply foldState_kept; all_goals intros) | (apply Eq.trans; apply State.withSlot_kept; all_goals intros) | (apply Eq.trans; apply State.orRefuse_kept; all_goals intros) | simp))

theorem execPullInEnd_kept (dt : Nat) (p : PortalId) (c : ChanId) (s : State) : ∃ t, execPullInEnd dt p c s = .next t ∧ t.kept = s.kept := by
  unfold execPullInEnd
  (try dsimp only)
  repeat' (first | refine ⟨_, rfl, ?_⟩ | apply next_ite | split)
  all_goals first | (simp [*]; done) | ((try dsimp only); repeat' (first | (simp; done) | (simp [*]; done) | intro _ | split | (apply Eq.trans; apply foldState_kept; all_goals intros) | (apply Eq.trans; apply State.withSlot_kept; all_goals intros) | (apply Eq.trans; apply State.orRefuse_kept; all_goals intros) | simp))

theorem execChPulseEnd_kept (dt : Nat) (p : PortalId) (c : ChanId) (s : State) : ∃ t, execChPulseEnd dt p c s = .next t ∧ t.kept = s.kept := by
  unfold execChPulseEnd
  (try dsimp only)
  repeat' (first | refine ⟨_, rfl, ?_⟩ | apply next_ite | split)
  all_goals first | (simp [*]; done) | ((try dsimp only); repeat' (first | (simp; done) | (simp [*]; done) | intro _ | split | (apply Eq.trans; apply foldState_kept; all_goals intros) | (apply Eq.trans; apply State.withSlot_kept; all_goals intros) | (apply Eq.trans; apply State.orRefuse_kept; all_goals intros) | simp))

@[simp ↓] theorem State.chanLatchFence_kept (s : State) (p : PortalId) (c : ChanId) : (State.chanLatchFence s p c).kept = s.kept := by
  unfold State.chanLatchFence
  first | (simp [*]; done) | ((try dsimp only); repeat' (first | (simp; done) | (simp [*]; done) | intro _ | split | (apply Eq.trans; apply foldState_kept; all_goals intros) | (apply Eq.trans; apply State.withSlot_kept; all_goals intros) | (apply Eq.trans; apply State.orRefuse_kept; all_goals intros) | simp))

@[simp ↓] theorem State.chanShutdown_kept (s : State) (p : PortalId) (c : ChanId) (peak : Nat) (fast : Bool) : (State.chanShutdown s p c peak fast).kept = s.kept := by
  unfold State.chanShutdown
  first | (simp [*]; done) | ((try dsimp only); repeat' (first | (simp; done) | (simp [*]; done) | intro _ | split | (apply Eq.trans; apply foldState_kept; all_goals intros) | (apply Eq.trans; apply State.withSlot_kept; all_goals intros) | (apply Eq.trans; apply State.orRefuse_kept; all_goals intros) | simp))

@[simp ↓] theorem State.chanCleared_kept (s : State) (p : PortalId) (c : ChanId) : (State.chanCleared s p c).kept = s.kept := by
  unfold State.chanCleared
  first | (simp [*]; done) | ((try dsimp only); repeat' (first | (simp; done) | (simp [*]; done) | intro _ | split | (apply Eq.trans; apply foldState_kept; all_goals intros) | (apply Eq.trans; apply State.withSlot_kept; all_goals intros) | (apply Eq.trans; apply State.orRefuse_kept; all_goals intros) | simp))

@[simp ↓] theorem State.shutdownUndone_kept (s : State) (p : PortalId) (c : ChanId) : (State.shutdownUndone s p c).kept = s.kept := by
  unfold State.shutdownUndone
  first | (simp [*]; done) | ((try dsimp only); repeat' (first | (simp; done) | (simp [*]; done) | intro _ | split | (apply Eq.trans; apply foldState_kept; all_goals intros) | (apply Eq.trans; apply State.withSlot_kept; all_goals intros) | (apply Eq.trans; apply State.orRefuse_kept; all_goals intros) | simp))

@[simp ↓] theorem State.chanClear_kept (s : State) (p : PortalId) (c : ChanId) : (State.chanClear s p c).kept = s.kept := by
  unfold State.chanClear
  first | (simp [*]; done) | ((try dsimp only); repeat' (first | (simp; done) | (simp [*]; done) | intro _ | split | (apply Eq.trans; apply foldState_kept; all_goals intros) | simp))

theorem execChannelLimitShutdown_kept (dt : Nat) (p : PortalId) (c : ChanId) (peak : Nat) (s : State) : ∃ t, execChannelLimitShutdown dt p c peak s = .next t ∧ t.kept = s.kept := by
  unfold execChannelLimitShutdown
  (try dsimp only)
  repeat' (first | refine ⟨_, rfl, ?_⟩ | apply next_ite | split)
  all_goals first | (simp [*]; done) | ((try dsimp only); repeat' (first | (simp; done) | (simp [*]; done) | intro _ | split | (apply Eq.trans; apply foldState_kept; all_goals intros) | (apply Eq.trans; apply State.withSlot_kept; all_goals intros) | (apply Eq.trans; apply State.orRefuse_kept; all_goals intros) | simp))

theorem execChannelFastOff_kept (dt : Nat) (p : PortalId) (c : ChanId) (peak : Nat) (s : State) : ∃ t, execChannelFastOff dt p c peak s = .next t ∧ t.kept = s.kept := by
  unfold execChannelFastOff
  (try dsimp only)
  repeat' (first | refine ⟨_, rfl, ?_⟩ | apply next_ite | split)
  all_goals first | (simp [*]; done) | ((try dsimp only); repeat' (first | (simp; done) | (simp [*]; done) | intro _ | split | (apply Eq.trans; apply foldState_kept; all_goals intros) | (apply Eq.trans; apply State.withSlot_kept; all_goals intros) | (apply Eq.trans; apply State.orRefuse_kept; all_goals intros) | simp))

theorem execRetryIntervalEnd_kept (dt : Nat) (p : PortalId) (c : ChanId) (s : State) : ∃ t, execRetryIntervalEnd dt p c s = .next t ∧ t.kept = s.kept := by
  unfold execRetryIntervalEnd
  (try dsimp only)
  repeat' (first | refine ⟨_, rfl, ?_⟩ | apply next_ite | split)
  all_goals first | (simp [*]; done) | ((try dsimp only); repeat' (first | (simp; done) | (simp [*]; done) | intro _ | split | (apply Eq.trans; apply foldState_kept; all_goals intros) | (apply Eq.trans; apply State.withSlot_kept; all_goals intros) | (apply Eq.trans; apply State.orRefuse_kept; all_goals intros) | simp))

theorem execRetryCountReset_kept (dt : Nat) (p : PortalId) (c : ChanId) (s : State) : ∃ t, execRetryCountReset dt p c s = .next t ∧ t.kept = s.kept := by
  unfold execRetryCountReset
  (try dsimp only)
  repeat' (first | refine ⟨_, rfl, ?_⟩ | apply next_ite | split)
  all_goals first | (simp [*]; done) | ((try dsimp only); repeat' (first | (simp; done) | (simp [*]; done) | intro _ | split | (apply Eq.trans; apply foldState_kept; all_goals intros) | (apply Eq.trans; apply State.withSlot_kept; all_goals intros) | (apply Eq.trans; apply State.orRefuse_kept; all_goals intros) | simp))

theorem execChannelTemperature_kept (dt : Nat) (p : PortalId) (c : ChanId) (temp : Int) (s : State) : ∃ t, execChannelTemperature dt p c temp s = .next t ∧ t.kept = s.kept := by
  unfold execChannelTemperature
  (try dsimp only)
  repeat' (first | refine ⟨_, rfl, ?_⟩ | apply next_ite | split)
  all_goals first | (simp [*]; done) | ((try dsimp only); repeat' (first | (simp; done) | (simp [*]; done) | intro _ | split | (apply Eq.trans; apply foldState_kept; all_goals intros) | (apply Eq.trans; apply State.withSlot_kept; all_goals intros) | (apply Eq.trans; apply State.orRefuse_kept; all_goals intros) | simp))

theorem execSupplyAnomaly_kept (dt : Nat) (p : PortalId) (k : SupplyKind) (mv : Int) (gndMv : Nat) (s : State) : ∃ t, execSupplyAnomaly dt p k mv gndMv s = .next t ∧ t.kept = s.kept := by
  unfold execSupplyAnomaly
  (try dsimp only)
  repeat' (first | refine ⟨_, rfl, ?_⟩ | apply next_ite | split)
  all_goals first | (simp [*]; done) | ((try dsimp only); repeat' (first | (simp; done) | (simp [*]; done) | intro _ | split | (apply Eq.trans; apply foldState_kept; all_goals intros) | (apply Eq.trans; apply State.withSlot_kept; all_goals intros) | (apply Eq.trans; apply State.orRefuse_kept; all_goals intros) | simp))

@[simp ↓] theorem State.chanChecked_kept (s : State) (h : Handle) (p : PortalId) (cs on : List ChanId) (clear : Bool) (act : State) (hact : act.kept = s.kept) : (State.chanChecked s h p cs on clear act).kept = s.kept := by
  unfold State.chanChecked
  first | (simp [*]; done) | ((try dsimp only); repeat' (first | (simp; done) | (simp [*]; done) | intro _ | split | (apply Eq.trans; apply foldState_kept; all_goals intros) | (apply Eq.trans; apply State.withSlot_kept; all_goals intros) | (apply Eq.trans; apply State.orRefuse_kept; all_goals intros) | simp))

@[simp ↓] theorem State.hostDemand_kept (s : State) (p : PortalId) (c : ChanId) (on : Bool) : (State.hostDemand s p c on).kept = s.kept := by
  unfold State.hostDemand
  first | (simp [*]; done) | ((try dsimp only); repeat' (first | (simp; done) | (simp [*]; done) | intro _ | split | (apply Eq.trans; apply foldState_kept; all_goals intros) | (apply Eq.trans; apply State.withSlot_kept; all_goals intros) | (apply Eq.trans; apply State.orRefuse_kept; all_goals intros) | (apply Eq.trans; apply State.chanChecked_kept; all_goals intros) | simp))

@[simp ↓] theorem State.chOn_kept (s : State) (h : Handle) (_ps : List Byte) : (State.chOn s h _ps).kept = s.kept := by
  unfold State.chOn
  first | (simp [*]; done) | ((try dsimp only); repeat' (first | (simp; done) | (simp [*]; done) | intro _ | split | (apply Eq.trans; apply foldState_kept; all_goals intros) | (apply Eq.trans; apply State.withSlot_kept; all_goals intros) | (apply Eq.trans; apply State.orRefuse_kept; all_goals intros) | (apply Eq.trans; apply State.chanChecked_kept; all_goals intros) | simp))

@[simp ↓] theorem State.chOff_kept (s : State) (h : Handle) (_ps : List Byte) : (State.chOff s h _ps).kept = s.kept := by
  unfold State.chOff
  first | (simp [*]; done) | ((try dsimp only); repeat' (first | (simp; done) | (simp [*]; done) | intro _ | split | (apply Eq.trans; apply foldState_kept; all_goals intros) | (apply Eq.trans; apply State.withSlot_kept; all_goals intros) | (apply Eq.trans; apply State.orRefuse_kept; all_goals intros) | (apply Eq.trans; apply State.chanChecked_kept; all_goals intros) | simp))

@[simp ↓] theorem State.chPulse_kept (s : State) (h : Handle) (ps : List Byte) : (State.chPulse s h ps).kept = s.kept := by
  unfold State.chPulse
  first | (simp [*]; done) | ((try dsimp only); repeat' (first | (simp; done) | (simp [*]; done) | intro _ | split | (apply Eq.trans; apply foldState_kept; all_goals intros) | (apply Eq.trans; apply State.withSlot_kept; all_goals intros) | (apply Eq.trans; apply State.orRefuse_kept; all_goals intros) | (apply Eq.trans; apply State.chanChecked_kept; all_goals intros) | simp))

@[simp ↓] theorem State.chMulti_kept (s : State) (h : Handle) (ps : List Byte) : (State.chMulti s h ps).kept = s.kept := by
  unfold State.chMulti
  first | (simp [*]; done) | ((try dsimp only); repeat' (first | (simp; done) | (simp [*]; done) | intro _ | split | (apply Eq.trans; apply foldState_kept; all_goals intros) | (apply Eq.trans; apply State.withSlot_kept; all_goals intros) | (apply Eq.trans; apply State.orRefuse_kept; all_goals intros) | (apply Eq.trans; apply State.chanChecked_kept; all_goals intros) | simp))

@[simp ↓] theorem State.chClear_kept (s : State) (h : Handle) (_ps : List Byte) : (State.chClear s h _ps).kept = s.kept := by
  unfold State.chClear
  first | (simp [*]; done) | ((try dsimp only); repeat' (first | (simp; done) | (simp [*]; done) | intro _ | split | (apply Eq.trans; apply foldState_kept; all_goals intros) | (apply Eq.trans; apply State.withSlot_kept; all_goals intros) | (apply Eq.trans; apply State.orRefuse_kept; all_goals intros) | (apply Eq.trans; apply State.chanChecked_kept; all_goals intros) | simp))

end Sys2Proof.Machine
end

