-- ==== Sys2Proof/Laws/KeptLeafDrive.lean ====
section
/-! SUPPORT. The operations of Machine/LeafDrive.lean keep the kept part. -/

namespace Sys2Proof.Machine

@[simp ↓] theorem State.leafFault_kept (s : State) (p : PortalId) (l : LeafId) (b : Nat) (trip : Bool) (cause : Nat) : (State.leafFault s p l b trip cause).kept = s.kept := by
  unfold State.leafFault
  first | (simp [*]; done) | ((try dsimp only); repeat' (first | (simp; done) | (simp [*]; done) | intro _ | split | (apply Eq.trans; apply foldState_kept; all_goals intros) | (apply Eq.trans; apply State.withSlot_kept; all_goals intros) | (apply Eq.trans; apply State.orRefuse_kept; all_goals intros) | (apply Eq.trans; apply State.chanChecked_kept; all_goals intros) | simp))

@[simp ↓] theorem State.leavesFault_kept (s : State) (p : PortalId) (b : Nat) (trip : Bool) : (State.leavesFault s p b trip).kept = s.kept := by
  unfold State.leavesFault
  first | (simp [*]; done) | ((try dsimp only); repeat' (first | (simp; done) | (simp [*]; done) | intro _ | split | (apply Eq.trans; apply foldState_kept; all_goals intros) | (apply Eq.trans; apply State.withSlot_kept; all_goals intros) | (apply Eq.trans; apply State.orRefuse_kept; all_goals intros) | (apply Eq.trans; apply State.chanChecked_kept; all_goals intros) | simp))

theorem execGdFault_kept (dt : Nat) (p : PortalId) (pin : GdPin) (s : State) : ∃ t, execGdFault dt p pin s = .next t ∧ t.kept = s.kept := by
  unfold execGdFault
  (try dsimp only)
  repeat' (first | refine ⟨_, rfl, ?_⟩ | apply next_ite | split)
  all_goals first | (simp [*]; done) | ((try dsimp only); repeat' (first | (simp; done) | (simp [*]; done) | intro _ | split | (apply Eq.trans; apply foldState_kept; all_goals intros) | (apply Eq.trans; apply State.withSlot_kept; all_goals intros) | (apply Eq.trans; apply State.orRefuse_kept; all_goals intros) | (apply Eq.trans; apply State.chanChecked_kept; all_goals intros) | simp))

@[simp ↓] theorem State.busOutput_kept (s : State) (p : PortalId) (y : Nat) : (State.busOutput s p y).kept = s.kept := by
  unfold State.busOutput
  first | (simp [*]; done) | ((try dsimp only); repeat' (first | (simp; done) | (simp [*]; done) | intro _ | split | (apply Eq.trans; apply foldState_kept; all_goals intros) | (apply Eq.trans; apply State.withSlot_kept; all_goals intros) | (apply Eq.trans; apply State.orRefuse_kept; all_goals intros) | (apply Eq.trans; apply State.chanChecked_kept; all_goals intros) | simp))

theorem execOvercurrentTrip_kept (dt : Nat) (p : PortalId) (l : LeafId) (phaseV : Bool) (y : Nat × Nat) (s : State) : ∃ t, execOvercurrentTrip dt p l phaseV y s = .next t ∧ t.kept = s.kept := by
  unfold execOvercurrentTrip
  (try dsimp only)
  repeat' (first | refine ⟨_, rfl, ?_⟩ | apply next_ite | split)
  all_goals first | (simp [*]; done) | ((try dsimp only); repeat' (first | (simp; done) | (simp [*]; done) | intro _ | split | (apply Eq.trans; apply foldState_kept; all_goals intros) | (apply Eq.trans; apply State.withSlot_kept; all_goals intros) | (apply Eq.trans; apply State.orRefuse_kept; all_goals intros) | (apply Eq.trans; apply State.chanChecked_kept; all_goals intros) | simp))

theorem execVbusOver_kept (dt : Nat) (p : PortalId) (y : Nat) (s : State) : ∃ t, execVbusOver dt p y s = .next t ∧ t.kept = s.kept := by
  unfold execVbusOver
  (try dsimp only)
  repeat' (first | refine ⟨_, rfl, ?_⟩ | apply next_ite | split)
  all_goals first | (simp [*]; done) | ((try dsimp only); repeat' (first | (simp; done) | (simp [*]; done) | intro _ | split | (apply Eq.trans; apply foldState_kept; all_goals intros) | (apply Eq.trans; apply State.withSlot_kept; all_goals intros) | (apply Eq.trans; apply State.orRefuse_kept; all_goals intros) | (apply Eq.trans; apply State.chanChecked_kept; all_goals intros) | simp))

theorem execVbusUnder_kept (dt : Nat) (p : PortalId) (y : Nat) (s : State) : ∃ t, execVbusUnder dt p y s = .next t ∧ t.kept = s.kept := by
  unfold execVbusUnder
  (try dsimp only)
  repeat' (first | refine ⟨_, rfl, ?_⟩ | apply next_ite | split)
  all_goals first | (simp [*]; done) | ((try dsimp only); repeat' (first | (simp; done) | (simp [*]; done) | intro _ | split | (apply Eq.trans; apply foldState_kept; all_goals intros) | (apply Eq.trans; apply State.withSlot_kept; all_goals intros) | (apply Eq.trans; apply State.orRefuse_kept; all_goals intros) | (apply Eq.trans; apply State.chanChecked_kept; all_goals intros) | simp))

theorem execHallEdge_kept (dt : Nat) (p : PortalId) (l : LeafId) (code : BitVec 3) (s : State) : ∃ t, execHallEdge dt p l code s = .next t ∧ t.kept = s.kept := by
  unfold execHallEdge
  (try dsimp only)
  repeat' (first | refine ⟨_, rfl, ?_⟩ | apply next_ite | split)
  all_goals first | (simp [*]; done) | ((try dsimp only); repeat' (first | (simp; done) | (simp [*]; done) | intro _ | split | (apply Eq.trans; apply foldState_kept; all_goals intros) | (apply Eq.trans; apply State.withSlot_kept; all_goals intros) | (apply Eq.trans; apply State.orRefuse_kept; all_goals intros) | (apply Eq.trans; apply State.chanChecked_kept; all_goals intros) | simp))

theorem execHallTimeout_kept (dt : Nat) (p : PortalId) (l : LeafId) (s : State) : ∃ t, execHallTimeout dt p l s = .next t ∧ t.kept = s.kept := by
  unfold execHallTimeout
  (try dsimp only)
  repeat' (first | refine ⟨_, rfl, ?_⟩ | apply next_ite | split)
  all_goals first | (simp [*]; done) | ((try dsimp only); repeat' (first | (simp; done) | (simp [*]; done) | intro _ | split | (apply Eq.trans; apply foldState_kept; all_goals intros) | (apply Eq.trans; apply State.withSlot_kept; all_goals intros) | (apply Eq.trans; apply State.orRefuse_kept; all_goals intros) | (apply Eq.trans; apply State.chanChecked_kept; all_goals intros) | simp))

@[simp ↓] theorem State.modulate_kept (s : State) (p : PortalId) (l : LeafId) (d : Drive) : (State.modulate s p l d).kept = s.kept := by
  unfold State.modulate
  first | (simp [*]; done) | ((try dsimp only); repeat' (first | (simp; done) | (simp [*]; done) | intro _ | split | (apply Eq.trans; apply foldState_kept; all_goals intros) | (apply Eq.trans; apply State.withSlot_kept; all_goals intros) | (apply Eq.trans; apply State.orRefuse_kept; all_goals intros) | (apply Eq.trans; apply State.chanChecked_kept; all_goals intros) | simp))

@[simp ↓] theorem State.leafWant_kept (s : State) (p : PortalId) (l : LeafId) (d : Drive) : (State.leafWant s p l d).kept = s.kept := by
  unfold State.leafWant
  first | (simp [*]; done) | ((try dsimp only); repeat' (first | (simp; done) | (simp [*]; done) | intro _ | split | (apply Eq.trans; apply foldState_kept; all_goals intros) | (apply Eq.trans; apply State.withSlot_kept; all_goals intros) | (apply Eq.trans; apply State.orRefuse_kept; all_goals intros) | (apply Eq.trans; apply State.chanChecked_kept; all_goals intros) | simp))

theorem execDriveStartDelayEnd_kept (dt : Nat) (p : PortalId) (l : LeafId) (s : State) : ∃ t, execDriveStartDelayEnd dt p l s = .next t ∧ t.kept = s.kept := by
  unfold execDriveStartDelayEnd
  (try dsimp only)
  repeat' (first | refine ⟨_, rfl, ?_⟩ | apply next_ite | split)
  all_goals first | (simp [*]; done) | ((try dsimp only); repeat' (first | (simp; done) | (simp [*]; done) | intro _ | split | (apply Eq.trans; apply foldState_kept; all_goals intros) | (apply Eq.trans; apply State.withSlot_kept; all_goals intros) | (apply Eq.trans; apply State.orRefuse_kept; all_goals intros) | (apply Eq.trans; apply State.chanChecked_kept; all_goals intros) | simp))

theorem execAlignTimeEnd_kept (dt : Nat) (p : PortalId) (l : LeafId) (s : State) : ∃ t, execAlignTimeEnd dt p l s = .next t ∧ t.kept = s.kept := by
  unfold execAlignTimeEnd
  (try dsimp only)
  repeat' (first | refine ⟨_, rfl, ?_⟩ | apply next_ite | split)
  all_goals first | (simp [*]; done) | ((try dsimp only); repeat' (first | (simp; done) | (simp [*]; done) | intro _ | split | (apply Eq.trans; apply foldState_kept; all_goals intros) | (apply Eq.trans; apply State.withSlot_kept; all_goals intros) | (apply Eq.trans; apply State.orRefuse_kept; all_goals intros) | (apply Eq.trans; apply State.chanChecked_kept; all_goals intros) | simp))

theorem execBrakeEnd_kept (dt : Nat) (p : PortalId) (l : LeafId) (s : State) : ∃ t, execBrakeEnd dt p l s = .next t ∧ t.kept = s.kept := by
  unfold execBrakeEnd
  (try dsimp only)
  repeat' (first | refine ⟨_, rfl, ?_⟩ | apply next_ite | split)
  all_goals first | (simp [*]; done) | ((try dsimp only); repeat' (first | (simp; done) | (simp [*]; done) | intro _ | split | (apply Eq.trans; apply foldState_kept; all_goals intros) | (apply Eq.trans; apply State.withSlot_kept; all_goals intros) | (apply Eq.trans; apply State.orRefuse_kept; all_goals intros) | (apply Eq.trans; apply State.chanChecked_kept; all_goals intros) | simp))

@[simp ↓] theorem State.pwmStage_kept (s : State) (p : PortalId) (l : LeafId) (c : Vector Nat 3) : (State.pwmStage s p l c).kept = s.kept := by
  unfold State.pwmStage
  first | (simp [*]; done) | ((try dsimp only); repeat' (first | (simp; done) | (simp [*]; done) | intro _ | split | (apply Eq.trans; apply foldState_kept; all_goals intros) | (apply Eq.trans; apply State.withSlot_kept; all_goals intros) | (apply Eq.trans; apply State.orRefuse_kept; all_goals intros) | (apply Eq.trans; apply State.chanChecked_kept; all_goals intros) | simp))

@[simp ↓] theorem State.focLoad_kept (s : State) (p : PortalId) (l : LeafId) : (State.focLoad s p l).kept = s.kept := by
  unfold State.focLoad
  first | (simp [*]; done) | ((try dsimp only); repeat' (first | (simp; done) | (simp [*]; done) | intro _ | split | (apply Eq.trans; apply foldState_kept; all_goals intros) | (apply Eq.trans; apply State.withSlot_kept; all_goals intros) | (apply Eq.trans; apply State.orRefuse_kept; all_goals intros) | (apply Eq.trans; apply State.chanChecked_kept; all_goals intros) | simp))

@[simp ↓] theorem State.datapathResidue_kept (s : State) (p : PortalId) (l : LeafId) : (State.datapathResidue s p l).kept = s.kept := by
  unfold State.datapathResidue
  first | (simp [*]; done) | ((try dsimp only); repeat' (first | (simp; done) | (simp [*]; done) | intro _ | split | (apply Eq.trans; apply foldState_kept; all_goals intros) | (apply Eq.trans; apply State.withSlot_kept; all_goals intros) | (apply Eq.trans; apply State.orRefuse_kept; all_goals intros) | (apply Eq.trans; apply State.chanChecked_kept; all_goals intros) | simp))

@[simp ↓] theorem State.directRefs_kept (s : State) (p : PortalId) (l : LeafId) : (State.directRefs s p l).kept = s.kept := by
  unfold State.directRefs
  first | (simp [*]; done) | ((try dsimp only); repeat' (first | (simp; done) | (simp [*]; done) | intro _ | split | (apply Eq.trans; apply foldState_kept; all_goals intros) | (apply Eq.trans; apply State.withSlot_kept; all_goals intros) | (apply Eq.trans; apply State.orRefuse_kept; all_goals intros) | (apply Eq.trans; apply State.chanChecked_kept; all_goals intros) | simp))

@[simp ↓] theorem State.sample_kept (s : State) (p : PortalId) (l : LeafId) (smp : CurrentSample) : (State.sample s p l smp).kept = s.kept := by
  unfold State.sample
  first | (simp [*]; done) | ((try dsimp only); repeat' (first | (simp; done) | (simp [*]; done) | intro _ | split | (apply Eq.trans; apply foldState_kept; all_goals intros) | (apply Eq.trans; apply State.withSlot_kept; all_goals intros) | (apply Eq.trans; apply State.orRefuse_kept; all_goals intros) | (apply Eq.trans; apply State.chanChecked_kept; all_goals intros) | simp))

@[simp ↓] theorem State.motionChecks_kept (s : State) (p : PortalId) (l : LeafId) : (State.motionChecks s p l).kept = s.kept := by
  unfold State.motionChecks
  first | (simp [*]; done) | ((try dsimp only); repeat' (first | (simp; done) | (simp [*]; done) | intro _ | split | (apply Eq.trans; apply foldState_kept; all_goals intros) | (apply Eq.trans; apply State.withSlot_kept; all_goals intros) | (apply Eq.trans; apply State.orRefuse_kept; all_goals intros) | (apply Eq.trans; apply State.chanChecked_kept; all_goals intros) | simp))

@[simp ↓] theorem State.tickResidues_kept (s : State) (p : PortalId) (l : LeafId) (smp : CurrentSample) : (State.tickResidues s p l smp).kept = s.kept := by
  unfold State.tickResidues
  first | (simp [*]; done) | ((try dsimp only); repeat' (first | (simp; done) | (simp [*]; done) | intro _ | split | (apply Eq.trans; apply foldState_kept; all_goals intros) | (apply Eq.trans; apply State.withSlot_kept; all_goals intros) | (apply Eq.trans; apply State.orRefuse_kept; all_goals intros) | (apply Eq.trans; apply State.chanChecked_kept; all_goals intros) | simp))

@[simp ↓] theorem State.chopRun_kept (s : State) (p : PortalId) (l : LeafId) (arm : List SincSample) : (State.chopRun s p l arm).kept = s.kept := by
  unfold State.chopRun
  first | (simp [*]; done) | ((try dsimp only); repeat' (first | (simp; done) | (simp [*]; done) | intro _ | split | (apply Eq.trans; apply foldState_kept; all_goals intros) | (apply Eq.trans; apply State.withSlot_kept; all_goals intros) | (apply Eq.trans; apply State.orRefuse_kept; all_goals intros) | (apply Eq.trans; apply State.chanChecked_kept; all_goals intros) | simp))

@[simp ↓] theorem State.driveTick_kept (s : State) (p : PortalId) (l : LeafId) (smp : CurrentSample) : (State.driveTick s p l smp).kept = s.kept := by
  unfold State.driveTick
  first | (simp [*]; done) | ((try dsimp only); repeat' (first | (simp; done) | (simp [*]; done) | intro _ | split | (apply Eq.trans; apply foldState_kept; all_goals intros) | (apply Eq.trans; apply State.withSlot_kept; all_goals intros) | (apply Eq.trans; apply State.orRefuse_kept; all_goals intros) | (apply Eq.trans; apply State.chanChecked_kept; all_goals intros) | simp))

theorem execCurrentTick_kept (dt : Nat) (p : PortalId) (l : LeafId) (smp : CurrentSample) (s : State) : ∃ t, execCurrentTick dt p l smp s = .next t ∧ t.kept = s.kept := by
  unfold execCurrentTick
  (try dsimp only)
  repeat' (first | refine ⟨_, rfl, ?_⟩ | apply next_ite | split)
  all_goals first | (simp [*]; done) | ((try dsimp only); repeat' (first | (simp; done) | (simp [*]; done) | intro _ | split | (apply Eq.trans; apply foldState_kept; all_goals intros) | (apply Eq.trans; apply State.withSlot_kept; all_goals intros) | (apply Eq.trans; apply State.orRefuse_kept; all_goals intros) | (apply Eq.trans; apply State.chanChecked_kept; all_goals intros) | simp))

theorem execDatapathResidueClear_kept (dt : Nat) (p : PortalId) (l : LeafId) (s : State) : ∃ t, execDatapathResidueClear dt p l s = .next t ∧ t.kept = s.kept := by
  unfold execDatapathResidueClear
  (try dsimp only)
  repeat' (first | refine ⟨_, rfl, ?_⟩ | apply next_ite | split)
  all_goals first | (simp [*]; done) | ((try dsimp only); repeat' (first | (simp; done) | (simp [*]; done) | intro _ | split | (apply Eq.trans; apply foldState_kept; all_goals intros) | (apply Eq.trans; apply State.withSlot_kept; all_goals intros) | (apply Eq.trans; apply State.orRefuse_kept; all_goals intros) | (apply Eq.trans; apply State.chanChecked_kept; all_goals intros) | simp))

theorem execDirectionFault_kept (dt : Nat) (p : PortalId) (l : LeafId) (s : State) : ∃ t, execDirectionFault dt p l s = .next t ∧ t.kept = s.kept := by
  unfold execDirectionFault
  (try dsimp only)
  repeat' (first | refine ⟨_, rfl, ?_⟩ | apply next_ite | split)
  all_goals first | (simp [*]; done) | ((try dsimp only); repeat' (first | (simp; done) | (simp [*]; done) | intro _ | split | (apply Eq.trans; apply foldState_kept; all_goals intros) | (apply Eq.trans; apply State.withSlot_kept; all_goals intros) | (apply Eq.trans; apply State.orRefuse_kept; all_goals intros) | (apply Eq.trans; apply State.chanChecked_kept; all_goals intros) | simp))

theorem execChopAdapt_kept (dt : Nat) (p : PortalId) (l : LeafId) (arm : List SincSample) (s : State) : ∃ t, execChopAdapt dt p l arm s = .next t ∧ t.kept = s.kept := by
  unfold execChopAdapt
  (try dsimp only)
  repeat' (first | refine ⟨_, rfl, ?_⟩ | apply next_ite | split)
  all_goals first | (simp [*]; done) | ((try dsimp only); repeat' (first | (simp; done) | (simp [*]; done) | intro _ | split | (apply Eq.trans; apply foldState_kept; all_goals intros) | (apply Eq.trans; apply State.withSlot_kept; all_goals intros) | (apply Eq.trans; apply State.orRefuse_kept; all_goals intros) | (apply Eq.trans; apply State.chanChecked_kept; all_goals intros) | simp))

@[simp ↓] theorem State.profileMove_kept (s : State) (p : PortalId) (l : LeafId) (jogCap : Option Rat) : (State.profileMove s p l jogCap).kept = s.kept := by
  unfold State.profileMove
  first | (simp [*]; done) | ((try dsimp only); repeat' (first | (simp; done) | (simp [*]; done) | intro _ | split | (apply Eq.trans; apply foldState_kept; all_goals intros) | (apply Eq.trans; apply State.withSlot_kept; all_goals intros) | (apply Eq.trans; apply State.orRefuse_kept; all_goals intros) | (apply Eq.trans; apply State.chanChecked_kept; all_goals intros) | simp))

theorem execProfileTick_kept (dt : Nat) (p : PortalId) (l : LeafId) (s : State) : ∃ t, execProfileTick dt p l s = .next t ∧ t.kept = s.kept := by
  unfold execProfileTick
  (try dsimp only)
  repeat' (first | refine ⟨_, rfl, ?_⟩ | apply next_ite | split)
  all_goals first | (simp [*]; done) | ((try dsimp only); repeat' (first | (simp; done) | (simp [*]; done) | intro _ | split | (apply Eq.trans; apply foldState_kept; all_goals intros) | (apply Eq.trans; apply State.withSlot_kept; all_goals intros) | (apply Eq.trans; apply State.orRefuse_kept; all_goals intros) | (apply Eq.trans; apply State.chanChecked_kept; all_goals intros) | simp))

@[simp ↓] theorem State.leafTarget_kept (s : State) (p : PortalId) (l : LeafId) (x : Int) : (State.leafTarget s p l x).kept = s.kept := by
  unfold State.leafTarget
  first | (simp [*]; done) | ((try dsimp only); repeat' (first | (simp; done) | (simp [*]; done) | intro _ | split | (apply Eq.trans; apply foldState_kept; all_goals intros) | (apply Eq.trans; apply State.withSlot_kept; all_goals intros) | (apply Eq.trans; apply State.orRefuse_kept; all_goals intros) | (apply Eq.trans; apply State.chanChecked_kept; all_goals intros) | simp))

@[simp ↓] theorem State.leafHold_kept (s : State) (p : PortalId) (l : LeafId) : (State.leafHold s p l).kept = s.kept := by
  unfold State.leafHold
  first | (simp [*]; done) | ((try dsimp only); repeat' (first | (simp; done) | (simp [*]; done) | intro _ | split | (apply Eq.trans; apply foldState_kept; all_goals intros) | (apply Eq.trans; apply State.withSlot_kept; all_goals intros) | (apply Eq.trans; apply State.orRefuse_kept; all_goals intros) | (apply Eq.trans; apply State.chanChecked_kept; all_goals intros) | simp))

@[simp ↓] theorem State.leafStopHold_kept (s : State) (p : PortalId) (l : LeafId) : (State.leafStopHold s p l).kept = s.kept := by
  unfold State.leafStopHold
  first | (simp [*]; done) | ((try dsimp only); repeat' (first | (simp; done) | (simp [*]; done) | intro _ | split | (apply Eq.trans; apply foldState_kept; all_goals intros) | (apply Eq.trans; apply State.withSlot_kept; all_goals intros) | (apply Eq.trans; apply State.orRefuse_kept; all_goals intros) | (apply Eq.trans; apply State.chanChecked_kept; all_goals intros) | simp))

end Sys2Proof.Machine
end

