-- ==== Sys2Proof/Laws/KeptStepDrive.lean ====
section
/-! SUPPORT. The operations of Machine/StepDrive.lean keep the kept part. -/

namespace Sys2Proof.Machine

@[simp ↓] theorem State.setStep_kept (s : State) (p : PortalId) (d : StepDrive) : (State.setStep s p d).kept = s.kept := by
  unfold State.setStep
  first | (simp [*]; done) | ((try dsimp only); repeat' (first | (simp; done) | (simp [*]; done) | intro _ | split | (apply Eq.trans; apply foldState_kept; all_goals intros) | (apply Eq.trans; apply State.withSlot_kept; all_goals intros) | (apply Eq.trans; apply State.orRefuse_kept; all_goals intros) | (apply Eq.trans; apply State.chanChecked_kept; all_goals intros) | simp))

@[simp ↓] theorem State.stepFault_kept (s : State) (p : PortalId) (b : Nat) (trip : Bool) (cause : Nat) : (State.stepFault s p b trip cause).kept = s.kept := by
  unfold State.stepFault
  first | (simp [*]; done) | ((try dsimp only); repeat' (first | (simp; done) | (simp [*]; done) | intro _ | split | (apply Eq.trans; apply foldState_kept; all_goals intros) | (apply Eq.trans; apply State.withSlot_kept; all_goals intros) | (apply Eq.trans; apply State.orRefuse_kept; all_goals intros) | (apply Eq.trans; apply State.chanChecked_kept; all_goals intros) | simp))

theorem execStepBridgeFault_kept (dt : Nat) (p : PortalId) (flt : StepFaultIn) (first second : Nat) (s : State) : ∃ t, execStepBridgeFault dt p flt first second s = .next t ∧ t.kept = s.kept := by
  unfold execStepBridgeFault
  (try dsimp only)
  repeat' (first | refine ⟨_, rfl, ?_⟩ | apply next_ite | split)
  all_goals first | (simp [*]; done) | ((try dsimp only); repeat' (first | (simp; done) | (simp [*]; done) | intro _ | split | (apply Eq.trans; apply foldState_kept; all_goals intros) | (apply Eq.trans; apply State.withSlot_kept; all_goals intros) | (apply Eq.trans; apply State.orRefuse_kept; all_goals intros) | (apply Eq.trans; apply State.chanChecked_kept; all_goals intros) | simp))

theorem execSdClock_kept (dt : Nat) (p : PortalId) (c : ClockCheck) (s : State) : ∃ t, execSdClock dt p c s = .next t ∧ t.kept = s.kept := by
  unfold execSdClock
  (try dsimp only)
  repeat' (first | refine ⟨_, rfl, ?_⟩ | apply next_ite | split)
  all_goals first | (simp [*]; done) | ((try dsimp only); repeat' (first | (simp; done) | (simp [*]; done) | intro _ | split | (apply Eq.trans; apply foldState_kept; all_goals intros) | (apply Eq.trans; apply State.withSlot_kept; all_goals intros) | (apply Eq.trans; apply State.orRefuse_kept; all_goals intros) | (apply Eq.trans; apply State.chanChecked_kept; all_goals intros) | simp))

theorem execSdStuck_kept (dt : Nat) (p : PortalId) (which : Fin 3) (s : State) : ∃ t, execSdStuck dt p which s = .next t ∧ t.kept = s.kept := by
  unfold execSdStuck
  (try dsimp only)
  repeat' (first | refine ⟨_, rfl, ?_⟩ | apply next_ite | split)
  all_goals first | (simp [*]; done) | ((try dsimp only); repeat' (first | (simp; done) | (simp [*]; done) | intro _ | split | (apply Eq.trans; apply foldState_kept; all_goals intros) | (apply Eq.trans; apply State.withSlot_kept; all_goals intros) | (apply Eq.trans; apply State.orRefuse_kept; all_goals intros) | (apply Eq.trans; apply State.chanChecked_kept; all_goals intros) | simp))

@[simp ↓] theorem State.chopCoils_kept (s : State) (p : PortalId) (fast : List FastSample) : (State.chopCoils s p fast).kept = s.kept := by
  unfold State.chopCoils
  first | (simp [*]; done) | ((try dsimp only); repeat' (first | (simp; done) | (simp [*]; done) | intro _ | split | (apply Eq.trans; apply foldState_kept; all_goals intros) | (apply Eq.trans; apply State.withSlot_kept; all_goals intros) | (apply Eq.trans; apply State.orRefuse_kept; all_goals intros) | (apply Eq.trans; apply State.chanChecked_kept; all_goals intros) | simp))

@[simp ↓] theorem State.coilMode_kept (s : State) (p : PortalId) (last : Ts) : (State.coilMode s p last).kept = s.kept := by
  unfold State.coilMode
  first | (simp [*]; done) | ((try dsimp only); repeat' (first | (simp; done) | (simp [*]; done) | intro _ | split | (apply Eq.trans; apply foldState_kept; all_goals intros) | (apply Eq.trans; apply State.withSlot_kept; all_goals intros) | (apply Eq.trans; apply State.orRefuse_kept; all_goals intros) | (apply Eq.trans; apply State.chanChecked_kept; all_goals intros) | simp))

@[simp ↓] theorem State.stepStart_kept (s : State) (p : PortalId) : (State.stepStart s p).kept = s.kept := by
  unfold State.stepStart
  first | (simp [*]; done) | ((try dsimp only); repeat' (first | (simp; done) | (simp [*]; done) | intro _ | split | (apply Eq.trans; apply foldState_kept; all_goals intros) | (apply Eq.trans; apply State.withSlot_kept; all_goals intros) | (apply Eq.trans; apply State.orRefuse_kept; all_goals intros) | (apply Eq.trans; apply State.chanChecked_kept; all_goals intros) | simp))

@[simp ↓] theorem State.stepProfile_kept (s : State) (p : PortalId) : (State.stepProfile s p).kept = s.kept := by
  unfold State.stepProfile
  first | (simp [*]; done) | ((try dsimp only); repeat' (first | (simp; done) | (simp [*]; done) | intro _ | split | (apply Eq.trans; apply foldState_kept; all_goals intros) | (apply Eq.trans; apply State.withSlot_kept; all_goals intros) | (apply Eq.trans; apply State.orRefuse_kept; all_goals intros) | (apply Eq.trans; apply State.chanChecked_kept; all_goals intros) | simp))

theorem execStepRecompute_kept (dt : Nat) (smp : StepSample) (s : State) : ∃ t, execStepRecompute dt smp s = .next t ∧ t.kept = s.kept := by
  unfold execStepRecompute
  (try dsimp only)
  repeat' (first | refine ⟨_, rfl, ?_⟩ | apply next_ite | split)
  all_goals first | (simp [*]; done) | ((try dsimp only); repeat' (first | (simp; done) | (simp [*]; done) | intro _ | split | (apply Eq.trans; apply foldState_kept; all_goals intros) | (apply Eq.trans; apply State.withSlot_kept; all_goals intros) | (apply Eq.trans; apply State.orRefuse_kept; all_goals intros) | (apply Eq.trans; apply State.chanChecked_kept; all_goals intros) | simp))

@[simp ↓] theorem State.homingStart_kept (s : State) (p : PortalId) : (State.homingStart s p).kept = s.kept := by
  unfold State.homingStart
  first | (simp [*]; done) | ((try dsimp only); repeat' (first | (simp; done) | (simp [*]; done) | intro _ | split | (apply Eq.trans; apply foldState_kept; all_goals intros) | (apply Eq.trans; apply State.withSlot_kept; all_goals intros) | (apply Eq.trans; apply State.orRefuse_kept; all_goals intros) | (apply Eq.trans; apply State.chanChecked_kept; all_goals intros) | simp))

@[simp ↓] theorem State.stepMove_kept (s : State) (p : PortalId) (x : Int) (job : Nat) : (State.stepMove s p x job).kept = s.kept := by
  unfold State.stepMove
  first | (simp [*]; done) | ((try dsimp only); repeat' (first | (simp; done) | (simp [*]; done) | intro _ | split | (apply Eq.trans; apply foldState_kept; all_goals intros) | (apply Eq.trans; apply State.withSlot_kept; all_goals intros) | (apply Eq.trans; apply State.orRefuse_kept; all_goals intros) | (apply Eq.trans; apply State.chanChecked_kept; all_goals intros) | simp))

@[simp ↓] theorem State.stepTask_kept (s : State) (p : PortalId) (deploy : Bool) : (State.stepTask s p deploy).kept = s.kept := by
  unfold State.stepTask
  first | (simp [*]; done) | ((try dsimp only); repeat' (first | (simp; done) | (simp [*]; done) | intro _ | split | (apply Eq.trans; apply foldState_kept; all_goals intros) | (apply Eq.trans; apply State.withSlot_kept; all_goals intros) | (apply Eq.trans; apply State.orRefuse_kept; all_goals intros) | (apply Eq.trans; apply State.chanChecked_kept; all_goals intros) | simp))

@[simp ↓] theorem State.adoptF2_kept (s : State) (p : PortalId) : (State.adoptF2 s p).kept = s.kept := by
  unfold State.adoptF2
  first | (simp [*]; done) | ((try dsimp only); repeat' (first | (simp; done) | (simp [*]; done) | intro _ | split | (apply Eq.trans; apply foldState_kept; all_goals intros) | (apply Eq.trans; apply State.withSlot_kept; all_goals intros) | (apply Eq.trans; apply State.orRefuse_kept; all_goals intros) | (apply Eq.trans; apply State.chanChecked_kept; all_goals intros) | simp))

@[simp ↓] theorem State.homeLevel_kept (s : State) (p : PortalId) (active : Bool) : (State.homeLevel s p active).kept = s.kept := by
  unfold State.homeLevel
  first | (simp [*]; done) | ((try dsimp only); repeat' (first | (simp; done) | (simp [*]; done) | intro _ | split | (apply Eq.trans; apply foldState_kept; all_goals intros) | (apply Eq.trans; apply State.withSlot_kept; all_goals intros) | (apply Eq.trans; apply State.orRefuse_kept; all_goals intros) | (apply Eq.trans; apply State.chanChecked_kept; all_goals intros) | simp))

theorem execHomeInputAccepted_kept (dt : Nat) (p : PortalId) (s : State) : ∃ t, execHomeInputAccepted dt p s = .next t ∧ t.kept = s.kept := by
  unfold execHomeInputAccepted
  (try dsimp only)
  repeat' (first | refine ⟨_, rfl, ?_⟩ | apply next_ite | split)
  all_goals first | (simp [*]; done) | ((try dsimp only); repeat' (first | (simp; done) | (simp [*]; done) | intro _ | split | (apply Eq.trans; apply foldState_kept; all_goals intros) | (apply Eq.trans; apply State.withSlot_kept; all_goals intros) | (apply Eq.trans; apply State.orRefuse_kept; all_goals intros) | (apply Eq.trans; apply State.chanChecked_kept; all_goals intros) | simp))

theorem execHomeInputInactive_kept (dt : Nat) (p : PortalId) (s : State) : ∃ t, execHomeInputInactive dt p s = .next t ∧ t.kept = s.kept := by
  unfold execHomeInputInactive
  (try dsimp only)
  repeat' (first | refine ⟨_, rfl, ?_⟩ | apply next_ite | split)
  all_goals first | (simp [*]; done) | ((try dsimp only); repeat' (first | (simp; done) | (simp [*]; done) | intro _ | split | (apply Eq.trans; apply foldState_kept; all_goals intros) | (apply Eq.trans; apply State.withSlot_kept; all_goals intros) | (apply Eq.trans; apply State.orRefuse_kept; all_goals intros) | (apply Eq.trans; apply State.chanChecked_kept; all_goals intros) | simp))

theorem execHomingFailure_kept (dt : Nat) (p : PortalId) (s : State) : ∃ t, execHomingFailure dt p s = .next t ∧ t.kept = s.kept := by
  unfold execHomingFailure
  (try dsimp only)
  repeat' (first | refine ⟨_, rfl, ?_⟩ | apply next_ite | split)
  all_goals first | (simp [*]; done) | ((try dsimp only); repeat' (first | (simp; done) | (simp [*]; done) | intro _ | split | (apply Eq.trans; apply foldState_kept; all_goals intros) | (apply Eq.trans; apply State.withSlot_kept; all_goals intros) | (apply Eq.trans; apply State.orRefuse_kept; all_goals intros) | (apply Eq.trans; apply State.chanChecked_kept; all_goals intros) | simp))

theorem execPosDeviation_kept (dt : Nat) (p : PortalId) (s : State) : ∃ t, execPosDeviation dt p s = .next t ∧ t.kept = s.kept := by
  unfold execPosDeviation
  (try dsimp only)
  repeat' (first | refine ⟨_, rfl, ?_⟩ | apply next_ite | split)
  all_goals first | (simp [*]; done) | ((try dsimp only); repeat' (first | (simp; done) | (simp [*]; done) | intro _ | split | (apply Eq.trans; apply foldState_kept; all_goals intros) | (apply Eq.trans; apply State.withSlot_kept; all_goals intros) | (apply Eq.trans; apply State.orRefuse_kept; all_goals intros) | (apply Eq.trans; apply State.chanChecked_kept; all_goals intros) | simp))

theorem execStepStill_kept (dt : Nat) (p : PortalId) (s : State) : ∃ t, execStepStill dt p s = .next t ∧ t.kept = s.kept := by
  unfold execStepStill
  (try dsimp only)
  repeat' (first | refine ⟨_, rfl, ?_⟩ | apply next_ite | split)
  all_goals first | (simp [*]; done) | ((try dsimp only); repeat' (first | (simp; done) | (simp [*]; done) | intro _ | split | (apply Eq.trans; apply foldState_kept; all_goals intros) | (apply Eq.trans; apply State.withSlot_kept; all_goals intros) | (apply Eq.trans; apply State.orRefuse_kept; all_goals intros) | (apply Eq.trans; apply State.chanChecked_kept; all_goals intros) | simp))

@[simp ↓] theorem State.homeAgain_kept (s : State) (p : PortalId) : (State.homeAgain s p).kept = s.kept := by
  unfold State.homeAgain
  first | (simp [*]; done) | ((try dsimp only); repeat' (first | (simp; done) | (simp [*]; done) | intro _ | split | (apply Eq.trans; apply foldState_kept; all_goals intros) | (apply Eq.trans; apply State.withSlot_kept; all_goals intros) | (apply Eq.trans; apply State.orRefuse_kept; all_goals intros) | (apply Eq.trans; apply State.chanChecked_kept; all_goals intros) | simp))

theorem execF2ConfirmWindowEnd_kept (dt : Nat) (p : PortalId) (s : State) : ∃ t, execF2ConfirmWindowEnd dt p s = .next t ∧ t.kept = s.kept := by
  unfold execF2ConfirmWindowEnd
  (try dsimp only)
  repeat' (first | refine ⟨_, rfl, ?_⟩ | apply next_ite | split)
  all_goals first | (simp [*]; done) | ((try dsimp only); repeat' (first | (simp; done) | (simp [*]; done) | intro _ | split | (apply Eq.trans; apply foldState_kept; all_goals intros) | (apply Eq.trans; apply State.withSlot_kept; all_goals intros) | (apply Eq.trans; apply State.orRefuse_kept; all_goals intros) | (apply Eq.trans; apply State.chanChecked_kept; all_goals intros) | simp))

@[simp ↓] theorem State.stepJogEnded_kept (s : State) (p : PortalId) : (State.stepJogEnded s p).kept = s.kept := by
  unfold State.stepJogEnded
  first | (simp [*]; done) | ((try dsimp only); repeat' (first | (simp; done) | (simp [*]; done) | intro _ | split | (apply Eq.trans; apply foldState_kept; all_goals intros) | (apply Eq.trans; apply State.withSlot_kept; all_goals intros) | (apply Eq.trans; apply State.orRefuse_kept; all_goals intros) | (apply Eq.trans; apply State.chanChecked_kept; all_goals intros) | simp))

theorem execQuietTrim_kept (dt : Nat) (p : PortalId) (ys : List (Nat × Nat)) (s : State) : ∃ t, execQuietTrim dt p ys s = .next t ∧ t.kept = s.kept := by
  unfold execQuietTrim
  (try dsimp only)
  repeat' (first | refine ⟨_, rfl, ?_⟩ | apply next_ite | split)
  all_goals first | (simp [*]; done) | ((try dsimp only); repeat' (first | (simp; done) | (simp [*]; done) | intro _ | split | (apply Eq.trans; apply foldState_kept; all_goals intros) | (apply Eq.trans; apply State.withSlot_kept; all_goals intros) | (apply Eq.trans; apply State.orRefuse_kept; all_goals intros) | (apply Eq.trans; apply State.chanChecked_kept; all_goals intros) | simp))

end Sys2Proof.Machine
end

