-- ==== Sys2Proof/Laws/KeptFeedback.lean ====
section
/-! SUPPORT. The operations of Machine/Feedback.lean keep the kept part. -/

namespace Sys2Proof.Machine

@[simp ↓] theorem State.fbFault_kept (s : State) (p : PortalId) (f : FbId) (b : Nat) : (State.fbFault s p f b).kept = s.kept := by
  unfold State.fbFault
  first | (simp [*]; done) | ((try dsimp only); repeat' (first | (simp; done) | (simp [*]; done) | intro _ | split | (apply Eq.trans; apply foldState_kept; all_goals intros) | (apply Eq.trans; apply State.withSlot_kept; all_goals intros) | (apply Eq.trans; apply State.orRefuse_kept; all_goals intros) | (apply Eq.trans; apply State.chanChecked_kept; all_goals intros) | simp))

@[simp ↓] theorem State.fbNeedRef_kept (s : State) (p : PortalId) (f : FbId) : (State.fbNeedRef s p f).kept = s.kept := by
  unfold State.fbNeedRef
  first | (simp [*]; done) | ((try dsimp only); repeat' (first | (simp; done) | (simp [*]; done) | intro _ | split | (apply Eq.trans; apply foldState_kept; all_goals intros) | (apply Eq.trans; apply State.withSlot_kept; all_goals intros) | (apply Eq.trans; apply State.orRefuse_kept; all_goals intros) | (apply Eq.trans; apply State.chanChecked_kept; all_goals intros) | simp))

@[simp ↓] theorem State.fbUnalign_kept (s : State) (p : PortalId) (f : FbId) : (State.fbUnalign s p f).kept = s.kept := by
  unfold State.fbUnalign
  first | (simp [*]; done) | ((try dsimp only); repeat' (first | (simp; done) | (simp [*]; done) | intro _ | split | (apply Eq.trans; apply foldState_kept; all_goals intros) | (apply Eq.trans; apply State.withSlot_kept; all_goals intros) | (apply Eq.trans; apply State.orRefuse_kept; all_goals intros) | (apply Eq.trans; apply State.chanChecked_kept; all_goals intros) | simp))

@[simp ↓] theorem State.fbLose_kept (s : State) (p : PortalId) (f : FbId) (b : Nat) : (State.fbLose s p f b).kept = s.kept := by
  unfold State.fbLose
  first | (simp [*]; done) | ((try dsimp only); repeat' (first | (simp; done) | (simp [*]; done) | intro _ | split | (apply Eq.trans; apply foldState_kept; all_goals intros) | (apply Eq.trans; apply State.withSlot_kept; all_goals intros) | (apply Eq.trans; apply State.orRefuse_kept; all_goals intros) | (apply Eq.trans; apply State.chanChecked_kept; all_goals intros) | simp))

@[simp ↓] theorem State.contactWatch_kept (s : State) (p : PortalId) : (State.contactWatch s p).kept = s.kept := by
  unfold State.contactWatch
  first | (simp [*]; done) | ((try dsimp only); repeat' (first | (simp; done) | (simp [*]; done) | intro _ | split | (apply Eq.trans; apply foldState_kept; all_goals intros) | (apply Eq.trans; apply State.withSlot_kept; all_goals intros) | (apply Eq.trans; apply State.orRefuse_kept; all_goals intros) | (apply Eq.trans; apply State.chanChecked_kept; all_goals intros) | simp))

@[simp ↓] theorem State.plausWatch_kept (s : State) (p : PortalId) : (State.plausWatch s p).kept = s.kept := by
  unfold State.plausWatch
  first | (simp [*]; done) | ((try dsimp only); repeat' (first | (simp; done) | (simp [*]; done) | intro _ | split | (apply Eq.trans; apply foldState_kept; all_goals intros) | (apply Eq.trans; apply State.withSlot_kept; all_goals intros) | (apply Eq.trans; apply State.orRefuse_kept; all_goals intros) | (apply Eq.trans; apply State.chanChecked_kept; all_goals intros) | simp))

@[simp ↓] theorem State.lockWatch_kept (s : State) (p : PortalId) : (State.lockWatch s p).kept = s.kept := by
  unfold State.lockWatch
  first | (simp [*]; done) | ((try dsimp only); repeat' (first | (simp; done) | (simp [*]; done) | intro _ | split | (apply Eq.trans; apply foldState_kept; all_goals intros) | (apply Eq.trans; apply State.withSlot_kept; all_goals intros) | (apply Eq.trans; apply State.orRefuse_kept; all_goals intros) | (apply Eq.trans; apply State.chanChecked_kept; all_goals intros) | simp))

@[simp ↓] theorem State.fbReferenced_kept (s : State) (p : PortalId) (f : FbId) (src : Nat) (moved : Int) : (State.fbReferenced s p f src moved).kept = s.kept := by
  unfold State.fbReferenced
  first | (simp [*]; done) | ((try dsimp only); repeat' (first | (simp; done) | (simp [*]; done) | intro _ | split | (apply Eq.trans; apply foldState_kept; all_goals intros) | (apply Eq.trans; apply State.withSlot_kept; all_goals intros) | (apply Eq.trans; apply State.orRefuse_kept; all_goals intros) | (apply Eq.trans; apply State.chanChecked_kept; all_goals intros) | simp))

@[simp ↓] theorem State.fbReference_kept (s : State) (p : PortalId) (f : FbId) (pos : Int) (src : Nat) : (State.fbReference s p f pos src).kept = s.kept := by
  unfold State.fbReference
  first | (simp [*]; done) | ((try dsimp only); repeat' (first | (simp; done) | (simp [*]; done) | intro _ | split | (apply Eq.trans; apply foldState_kept; all_goals intros) | (apply Eq.trans; apply State.withSlot_kept; all_goals intros) | (apply Eq.trans; apply State.orRefuse_kept; all_goals intros) | (apply Eq.trans; apply State.chanChecked_kept; all_goals intros) | simp))

@[simp ↓] theorem State.fbSettle_kept (s : State) (p : PortalId) (f : FbId) : (State.fbSettle s p f).kept = s.kept := by
  unfold State.fbSettle
  first | (simp [*]; done) | ((try dsimp only); repeat' (first | (simp; done) | (simp [*]; done) | intro _ | split | (apply Eq.trans; apply foldState_kept; all_goals intros) | (apply Eq.trans; apply State.withSlot_kept; all_goals intros) | (apply Eq.trans; apply State.orRefuse_kept; all_goals intros) | (apply Eq.trans; apply State.chanChecked_kept; all_goals intros) | simp))

@[simp ↓] theorem State.echoCount_kept (s : State) (p : PortalId) (f : FbId) (n : Int) : (State.echoCount s p f n).kept = s.kept := by
  unfold State.echoCount
  first | (simp [*]; done) | ((try dsimp only); repeat' (first | (simp; done) | (simp [*]; done) | intro _ | split | (apply Eq.trans; apply foldState_kept; all_goals intros) | (apply Eq.trans; apply State.withSlot_kept; all_goals intros) | (apply Eq.trans; apply State.orRefuse_kept; all_goals intros) | (apply Eq.trans; apply State.chanChecked_kept; all_goals intros) | simp))

@[simp ↓] theorem State.fbChange_kept (s : State) (p : PortalId) (f : FbId) (d : Int) : (State.fbChange s p f d).kept = s.kept := by
  unfold State.fbChange
  first | (simp [*]; done) | ((try dsimp only); repeat' (first | (simp; done) | (simp [*]; done) | intro _ | split | (apply Eq.trans; apply foldState_kept; all_goals intros) | (apply Eq.trans; apply State.withSlot_kept; all_goals intros) | (apply Eq.trans; apply State.orRefuse_kept; all_goals intros) | (apply Eq.trans; apply State.chanChecked_kept; all_goals intros) | simp))

@[simp ↓] theorem State.fbSample_kept (s : State) (p : PortalId) (f : FbId) (a b z : Bool) : (State.fbSample s p f a b z).kept = s.kept := by
  unfold State.fbSample
  first | (simp [*]; done) | ((try dsimp only); repeat' (first | (simp; done) | (simp [*]; done) | intro _ | split | (apply Eq.trans; apply foldState_kept; all_goals intros) | (apply Eq.trans; apply State.withSlot_kept; all_goals intros) | (apply Eq.trans; apply State.orRefuse_kept; all_goals intros) | (apply Eq.trans; apply State.chanChecked_kept; all_goals intros) | simp))

theorem execFbCountChange_kept (dt : Nat) (p : PortalId) (f : FbId) (a b z : Bool) (s : State) : ∃ t, execFbCountChange dt p f a b z s = .next t ∧ t.kept = s.kept := by
  unfold execFbCountChange
  (try dsimp only)
  repeat' (first | refine ⟨_, rfl, ?_⟩ | apply next_ite | split)
  all_goals first | (simp [*]; done) | ((try dsimp only); repeat' (first | (simp; done) | (simp [*]; done) | intro _ | split | (apply Eq.trans; apply foldState_kept; all_goals intros) | (apply Eq.trans; apply State.withSlot_kept; all_goals intros) | (apply Eq.trans; apply State.orRefuse_kept; all_goals intros) | (apply Eq.trans; apply State.chanChecked_kept; all_goals intros) | simp))

@[simp ↓] theorem State.lineCount_kept (s : State) (p : PortalId) (f : FbId) : (State.lineCount s p f).kept = s.kept := by
  unfold State.lineCount
  first | (simp [*]; done) | ((try dsimp only); repeat' (first | (simp; done) | (simp [*]; done) | intro _ | split | (apply Eq.trans; apply foldState_kept; all_goals intros) | (apply Eq.trans; apply State.withSlot_kept; all_goals intros) | (apply Eq.trans; apply State.orRefuse_kept; all_goals intros) | (apply Eq.trans; apply State.chanChecked_kept; all_goals intros) | simp))

@[simp ↓] theorem State.contactYield_kept (s : State) (p : PortalId) (f : FbId) : (State.contactYield s p f).kept = s.kept := by
  unfold State.contactYield
  first | (simp [*]; done) | ((try dsimp only); repeat' (first | (simp; done) | (simp [*]; done) | intro _ | split | (apply Eq.trans; apply foldState_kept; all_goals intros) | (apply Eq.trans; apply State.withSlot_kept; all_goals intros) | (apply Eq.trans; apply State.orRefuse_kept; all_goals intros) | (apply Eq.trans; apply State.chanChecked_kept; all_goals intros) | simp))

@[simp ↓] theorem State.indexReference_kept (s : State) (p : PortalId) (f : FbId) : (State.indexReference s p f).kept = s.kept := by
  unfold State.indexReference
  first | (simp [*]; done) | ((try dsimp only); repeat' (first | (simp; done) | (simp [*]; done) | intro _ | split | (apply Eq.trans; apply foldState_kept; all_goals intros) | (apply Eq.trans; apply State.withSlot_kept; all_goals intros) | (apply Eq.trans; apply State.orRefuse_kept; all_goals intros) | (apply Eq.trans; apply State.chanChecked_kept; all_goals intros) | simp))

@[simp ↓] theorem State.indexTaken_kept (s : State) (p : PortalId) (f : FbId) : (State.indexTaken s p f).kept = s.kept := by
  unfold State.indexTaken
  first | (simp [*]; done) | ((try dsimp only); repeat' (first | (simp; done) | (simp [*]; done) | intro _ | split | (apply Eq.trans; apply foldState_kept; all_goals intros) | (apply Eq.trans; apply State.withSlot_kept; all_goals intros) | (apply Eq.trans; apply State.orRefuse_kept; all_goals intros) | (apply Eq.trans; apply State.chanChecked_kept; all_goals intros) | simp))

theorem execIndexEdge_kept (dt : Nat) (p : PortalId) (f : FbId) (pins : AbzPins) (s : State) : ∃ t, execIndexEdge dt p f pins s = .next t ∧ t.kept = s.kept := by
  unfold execIndexEdge
  (try dsimp only)
  repeat' (first | refine ⟨_, rfl, ?_⟩ | apply next_ite | split)
  all_goals first | (simp [*]; done) | ((try dsimp only); repeat' (first | (simp; done) | (simp [*]; done) | intro _ | split | (apply Eq.trans; apply foldState_kept; all_goals intros) | (apply Eq.trans; apply State.withSlot_kept; all_goals intros) | (apply Eq.trans; apply State.orRefuse_kept; all_goals intros) | (apply Eq.trans; apply State.chanChecked_kept; all_goals intros) | simp))

@[simp ↓] theorem State.ssiBadFrame_kept (s : State) (p : PortalId) (f : FbId) (b : Nat) : (State.ssiBadFrame s p f b).kept = s.kept := by
  unfold State.ssiBadFrame
  first | (simp [*]; done) | ((try dsimp only); repeat' (first | (simp; done) | (simp [*]; done) | intro _ | split | (apply Eq.trans; apply foldState_kept; all_goals intros) | (apply Eq.trans; apply State.withSlot_kept; all_goals intros) | (apply Eq.trans; apply State.orRefuse_kept; all_goals intros) | (apply Eq.trans; apply State.chanChecked_kept; all_goals intros) | simp))

theorem execSsiFrame_kept (dt : Nat) (p : PortalId) (f : FbId) (raw : BitVec 32) (edges : Nat) (dataHigh : Bool) (s : State) : ∃ t, execSsiFrame dt p f raw edges dataHigh s = .next t ∧ t.kept = s.kept := by
  unfold execSsiFrame
  (try dsimp only)
  repeat' (first | refine ⟨_, rfl, ?_⟩ | apply next_ite | split)
  all_goals first | (simp [*]; done) | ((try dsimp only); repeat' (first | (simp; done) | (simp [*]; done) | intro _ | split | (apply Eq.trans; apply foldState_kept; all_goals intros) | (apply Eq.trans; apply State.withSlot_kept; all_goals intros) | (apply Eq.trans; apply State.orRefuse_kept; all_goals intros) | (apply Eq.trans; apply State.chanChecked_kept; all_goals intros) | simp))

theorem execObserverTick_kept (dt : Nat) (p : PortalId) (f : FbId) (s : State) : ∃ t, execObserverTick dt p f s = .next t ∧ t.kept = s.kept := by
  unfold execObserverTick
  (try dsimp only)
  repeat' (first | refine ⟨_, rfl, ?_⟩ | apply next_ite | split)
  all_goals first | (simp [*]; done) | ((try dsimp only); repeat' (first | (simp; done) | (simp [*]; done) | intro _ | split | (apply Eq.trans; apply foldState_kept; all_goals intros) | (apply Eq.trans; apply State.withSlot_kept; all_goals intros) | (apply Eq.trans; apply State.orRefuse_kept; all_goals intros) | (apply Eq.trans; apply State.chanChecked_kept; all_goals intros) | simp))

theorem execTStillExpiry_kept (dt : Nat) (p : PortalId) (f : FbId) (s : State) : ∃ t, execTStillExpiry dt p f s = .next t ∧ t.kept = s.kept := by
  unfold execTStillExpiry
  (try dsimp only)
  repeat' (first | refine ⟨_, rfl, ?_⟩ | apply next_ite | split)
  all_goals first | (simp [*]; done) | ((try dsimp only); repeat' (first | (simp; done) | (simp [*]; done) | intro _ | split | (apply Eq.trans; apply foldState_kept; all_goals intros) | (apply Eq.trans; apply State.withSlot_kept; all_goals intros) | (apply Eq.trans; apply State.orRefuse_kept; all_goals intros) | (apply Eq.trans; apply State.chanChecked_kept; all_goals intros) | simp))

theorem execClosedContactReference_kept (dt : Nat) (p : PortalId) (l : LeafId) (s : State) : ∃ t, execClosedContactReference dt p l s = .next t ∧ t.kept = s.kept := by
  unfold execClosedContactReference
  (try dsimp only)
  repeat' (first | refine ⟨_, rfl, ?_⟩ | apply next_ite | split)
  all_goals first | (simp [*]; done) | ((try dsimp only); repeat' (first | (simp; done) | (simp [*]; done) | intro _ | split | (apply Eq.trans; apply foldState_kept; all_goals intros) | (apply Eq.trans; apply State.withSlot_kept; all_goals intros) | (apply Eq.trans; apply State.orRefuse_kept; all_goals intros) | (apply Eq.trans; apply State.chanChecked_kept; all_goals intros) | simp))

theorem execFbFaultClear_kept (dt : Nat) (p : PortalId) (f : FbId) (n : Fin 6) (s : State) : ∃ t, execFbFaultClear dt p f n s = .next t ∧ t.kept = s.kept := by
  unfold execFbFaultClear
  (try dsimp only)
  repeat' (first | refine ⟨_, rfl, ?_⟩ | apply next_ite | split)
  all_goals first | (simp [*]; done) | ((try dsimp only); repeat' (first | (simp; done) | (simp [*]; done) | intro _ | split | (apply Eq.trans; apply foldState_kept; all_goals intros) | (apply Eq.trans; apply State.withSlot_kept; all_goals intros) | (apply Eq.trans; apply State.orRefuse_kept; all_goals intros) | (apply Eq.trans; apply State.chanChecked_kept; all_goals intros) | simp))

theorem execEchoOutputStep_kept (dt : Nat) (p : PortalId) (s : State) : ∃ t, execEchoOutputStep dt p s = .next t ∧ t.kept = s.kept := by
  unfold execEchoOutputStep
  (try dsimp only)
  repeat' (first | refine ⟨_, rfl, ?_⟩ | apply next_ite | split)
  all_goals first | (simp [*]; done) | ((try dsimp only); repeat' (first | (simp; done) | (simp [*]; done) | intro _ | split | (apply Eq.trans; apply foldState_kept; all_goals intros) | (apply Eq.trans; apply State.withSlot_kept; all_goals intros) | (apply Eq.trans; apply State.orRefuse_kept; all_goals intros) | (apply Eq.trans; apply State.chanChecked_kept; all_goals intros) | simp))

@[simp ↓] theorem State.fbRetype_kept (s : State) (p : PortalId) (f : FbId) : (State.fbRetype s p f).kept = s.kept := by
  unfold State.fbRetype
  first | (simp [*]; done) | ((try dsimp only); repeat' (first | (simp; done) | (simp [*]; done) | intro _ | split | (apply Eq.trans; apply foldState_kept; all_goals intros) | (apply Eq.trans; apply State.withSlot_kept; all_goals intros) | (apply Eq.trans; apply State.orRefuse_kept; all_goals intros) | (apply Eq.trans; apply State.chanChecked_kept; all_goals intros) | simp))

end Sys2Proof.Machine
end

