-- ==== Sys2Proof/Laws/KeptRecOps.lean ====
section
/-! SUPPORT. The operations of Machine/RecOps.lean keep the kept part. -/

namespace Sys2Proof.Machine

@[simp] theorem Recorder.drop_credit (r : Recorder) (sev : Nat) : (r.drop sev).credit = r.credit := rfl

@[simp ↓] theorem State.recEnqueue_kept (s : State) (e : RecEntry) : (State.recEnqueue s e).kept = s.kept := by
  unfold State.recEnqueue
  first | (simp [*]; done) | ((try dsimp only); repeat' (first | (simp; done) | (simp [*]; done) | intro _ | split | (apply Eq.trans; apply foldState_kept; all_goals intros) | (apply Eq.trans; apply State.withSlot_kept; all_goals intros) | (apply Eq.trans; apply State.orRefuse_kept; all_goals intros) | (apply Eq.trans; apply State.chanChecked_kept; all_goals intros) | simp))

@[simp ↓] theorem State.saveCounters_kept (s : State) : (State.saveCounters s).kept = s.kept := by
  unfold State.saveCounters
  first | (simp [*]; done) | ((try dsimp only); repeat' (first | (simp; done) | (simp [*]; done) | intro _ | split | (apply Eq.trans; apply foldState_kept; all_goals intros) | (apply Eq.trans; apply State.withSlot_kept; all_goals intros) | (apply Eq.trans; apply State.orRefuse_kept; all_goals intros) | (apply Eq.trans; apply State.chanChecked_kept; all_goals intros) | simp))

@[simp ↓] theorem State.cycleEnd_kept (s : State) (p : PortalId) (abandoned : Bool) : (State.cycleEnd s p abandoned).kept = s.kept := by
  unfold State.cycleEnd
  first | (simp [*]; done) | ((try dsimp only); repeat' (first | (simp; done) | (simp [*]; done) | intro _ | split | (apply Eq.trans; apply foldState_kept; all_goals intros) | (apply Eq.trans; apply State.withSlot_kept; all_goals intros) | (apply Eq.trans; apply State.orRefuse_kept; all_goals intros) | (apply Eq.trans; apply State.chanChecked_kept; all_goals intros) | simp))

@[simp ↓] theorem State.modCycle_kept (s : State) (p : PortalId) (f : Cycle → Cycle) : (State.modCycle s p f).kept = s.kept := by
  unfold State.modCycle
  first | (simp [*]; done) | ((try dsimp only); repeat' (first | (simp; done) | (simp [*]; done) | intro _ | split | (apply Eq.trans; apply foldState_kept; all_goals intros) | (apply Eq.trans; apply State.withSlot_kept; all_goals intros) | (apply Eq.trans; apply State.orRefuse_kept; all_goals intros) | (apply Eq.trans; apply State.chanChecked_kept; all_goals intros) | simp))

@[simp ↓] theorem State.cycleState_kept (s : State) (p : PortalId) (old new : PState) : (State.cycleState s p old new).kept = s.kept := by
  unfold State.cycleState
  first | (simp [*]; done) | ((try dsimp only); repeat' (first | (simp; done) | (simp [*]; done) | intro _ | split | (apply Eq.trans; apply foldState_kept; all_goals intros) | (apply Eq.trans; apply State.withSlot_kept; all_goals intros) | (apply Eq.trans; apply State.orRefuse_kept; all_goals intros) | (apply Eq.trans; apply State.chanChecked_kept; all_goals intros) | simp))

@[simp ↓] theorem State.countObst_kept (s : State) (p : PortalId) : (State.countObst s p).kept = s.kept := by
  unfold State.countObst
  first | (simp [*]; done) | ((try dsimp only); repeat' (first | (simp; done) | (simp [*]; done) | intro _ | split | (apply Eq.trans; apply foldState_kept; all_goals intros) | (apply Eq.trans; apply State.withSlot_kept; all_goals intros) | (apply Eq.trans; apply State.orRefuse_kept; all_goals intros) | (apply Eq.trans; apply State.chanChecked_kept; all_goals intros) | simp))

end Sys2Proof.Machine
end

