-- ==== Sys2Proof/Laws/KeptChecks.lean ====
section
/-! SUPPORT. The operations of Machine/Checks.lean keep the kept part. -/

namespace Sys2Proof.Machine

@[simp ↓] theorem State.runCheck_kept (s : State) (p : PortalId) : (State.runCheck s p).kept = s.kept := by
  unfold State.runCheck
  first | (simp [*]; done) | ((try dsimp only); repeat' (first | (simp; done) | (simp [*]; done) | intro _ | split | (apply Eq.trans; apply foldState_kept; all_goals intros) | (apply Eq.trans; apply State.withSlot_kept; all_goals intros) | (apply Eq.trans; apply State.orRefuse_kept; all_goals intros) | (apply Eq.trans; apply State.chanChecked_kept; all_goals intros) | simp))

@[simp ↓] theorem State.runChecks_kept (s : State) : (State.runChecks s).kept = s.kept := by
  unfold State.runChecks
  first | (simp [*]; done) | ((try dsimp only); repeat' (first | (simp; done) | (simp [*]; done) | intro _ | split | (apply Eq.trans; apply foldState_kept; all_goals intros) | (apply Eq.trans; apply State.withSlot_kept; all_goals intros) | (apply Eq.trans; apply State.orRefuse_kept; all_goals intros) | (apply Eq.trans; apply State.chanChecked_kept; all_goals intros) | simp))

end Sys2Proof.Machine
end

