-- ==== Sys2Proof/Laws/KeptSealing.lean ====
section
/-! SUPPORT. The operations of Machine/Sealing.lean keep the kept part. -/

namespace Sys2Proof.Machine

@[simp ↓] theorem State.sealEvent_kept (s : State) (reason : Nat) : (State.sealEvent s reason).kept = s.kept := by
  unfold State.sealEvent
  first | (simp [*]; done) | ((try dsimp only); repeat' (first | (simp; done) | (simp [*]; done) | intro _ | split | (apply Eq.trans; apply foldState_kept; all_goals intros) | (apply Eq.trans; apply State.withSlot_kept; all_goals intros) | (apply Eq.trans; apply State.orRefuse_kept; all_goals intros) | (apply Eq.trans; apply State.chanChecked_kept; all_goals intros) | simp))

@[simp ↓] theorem State.eachPortal_kept (s : State) (f : PortalId → State → State) (hf : ∀ a0 a1, (f a0 a1).kept = a1.kept) : (State.eachPortal s f).kept = s.kept := by
  unfold State.eachPortal
  first | (simp [*]; done) | ((try dsimp only); repeat' (first | (simp; done) | (simp [*]; done) | intro _ | split | (apply Eq.trans; apply foldState_kept; all_goals intros) | (apply Eq.trans; apply State.withSlot_kept; all_goals intros) | (apply Eq.trans; apply State.orRefuse_kept; all_goals intros) | (apply Eq.trans; apply State.chanChecked_kept; all_goals intros) | simp))

@[simp ↓] theorem State.loadFailSafe_kept (s : State) (ok : Bool) : (State.loadFailSafe s ok).kept = s.kept := by
  unfold State.loadFailSafe
  first | (simp [*]; done) | ((try dsimp only); repeat' (first | (simp; done) | (simp [*]; done) | intro _ | split | (apply Eq.trans; apply foldState_kept; all_goals intros) | (apply Eq.trans; apply State.withSlot_kept; all_goals intros) | (apply Eq.trans; apply State.orRefuse_kept; all_goals intros) | (apply Eq.trans; apply State.chanChecked_kept; all_goals intros) | (apply Eq.trans; apply State.eachPortal_kept; all_goals intros) | simp))

@[simp ↓] theorem State.afterLoad_kept (s : State) (old : View) : (State.afterLoad s old).kept = s.kept := by
  unfold State.afterLoad
  first | (simp [*]; done) | ((try dsimp only); repeat' (first | (simp; done) | (simp [*]; done) | intro _ | split | (apply Eq.trans; apply foldState_kept; all_goals intros) | (apply Eq.trans; apply State.withSlot_kept; all_goals intros) | (apply Eq.trans; apply State.orRefuse_kept; all_goals intros) | (apply Eq.trans; apply State.chanChecked_kept; all_goals intros) | (apply Eq.trans; apply State.eachPortal_kept; all_goals intros) | simp))

theorem execSealLoadComplete_kept (dt : Nat) (s : State) : ∃ t, execSealLoadComplete dt s = .next t ∧ t.kept = s.kept := by
  unfold execSealLoadComplete
  (try dsimp only)
  repeat' (first | refine ⟨_, rfl, ?_⟩ | apply next_ite | split)
  all_goals first | (simp [*]; done) | ((try dsimp only); repeat' (first | (simp; done) | (simp [*]; done) | intro _ | split | (apply Eq.trans; apply foldState_kept; all_goals intros) | (apply Eq.trans; apply State.withSlot_kept; all_goals intros) | (apply Eq.trans; apply State.orRefuse_kept; all_goals intros) | (apply Eq.trans; apply State.chanChecked_kept; all_goals intros) | (apply Eq.trans; apply State.eachPortal_kept; all_goals intros) | simp))

theorem execSealRead_kept (dt : Nat) (first second : BitVec 16) (s : State) : ∃ t, execSealRead dt first second s = .next t ∧ t.kept = s.kept := by
  unfold execSealRead
  (try dsimp only)
  repeat' (first | refine ⟨_, rfl, ?_⟩ | apply next_ite | split)
  all_goals first | (simp [*]; done) | ((try dsimp only); repeat' (first | (simp; done) | (simp [*]; done) | intro _ | split | (apply Eq.trans; apply foldState_kept; all_goals intros) | (apply Eq.trans; apply State.withSlot_kept; all_goals intros) | (apply Eq.trans; apply State.orRefuse_kept; all_goals intros) | (apply Eq.trans; apply State.chanChecked_kept; all_goals intros) | (apply Eq.trans; apply State.eachPortal_kept; all_goals intros) | simp))

theorem execSealShadowCheck_kept (dt : Nat) (regsEqual : Bool) (s : State) : ∃ t, execSealShadowCheck dt regsEqual s = .next t ∧ t.kept = s.kept := by
  unfold execSealShadowCheck
  (try dsimp only)
  repeat' (first | refine ⟨_, rfl, ?_⟩ | apply next_ite | split)
  all_goals first | (simp [*]; done) | ((try dsimp only); repeat' (first | (simp; done) | (simp [*]; done) | intro _ | split | (apply Eq.trans; apply foldState_kept; all_goals intros) | (apply Eq.trans; apply State.withSlot_kept; all_goals intros) | (apply Eq.trans; apply State.orRefuse_kept; all_goals intros) | (apply Eq.trans; apply State.chanChecked_kept; all_goals intros) | (apply Eq.trans; apply State.eachPortal_kept; all_goals intros) | simp))

theorem execSealBlockReverify_kept (dt : Nat) (readable : Bool) (s : State) : ∃ t, execSealBlockReverify dt readable s = .next t ∧ t.kept = s.kept := by
  unfold execSealBlockReverify
  (try dsimp only)
  repeat' (first | refine ⟨_, rfl, ?_⟩ | apply next_ite | split)
  all_goals first | (simp [*]; done) | ((try dsimp only); repeat' (first | (simp; done) | (simp [*]; done) | intro _ | split | (apply Eq.trans; apply foldState_kept; all_goals intros) | (apply Eq.trans; apply State.withSlot_kept; all_goals intros) | (apply Eq.trans; apply State.orRefuse_kept; all_goals intros) | (apply Eq.trans; apply State.chanChecked_kept; all_goals intros) | (apply Eq.trans; apply State.eachPortal_kept; all_goals intros) | simp))

@[simp ↓] theorem State.modeRequest_kept (s : State) (h : Handle) (ps : List Byte) : (State.modeRequest s h ps).kept = s.kept := by
  unfold State.modeRequest
  first | (simp [*]; done) | ((try dsimp only); repeat' (first | (simp; done) | (simp [*]; done) | intro _ | split | (apply Eq.trans; apply foldState_kept; all_goals intros) | (apply Eq.trans; apply State.withSlot_kept; all_goals intros) | (apply Eq.trans; apply State.orRefuse_kept; all_goals intros) | (apply Eq.trans; apply State.chanChecked_kept; all_goals intros) | (apply Eq.trans; apply State.eachPortal_kept; all_goals intros) | simp))

@[simp ↓] theorem State.sealStatus_kept (s : State) (h : Handle) (_ps : List Byte) : (State.sealStatus s h _ps).kept = s.kept := by
  unfold State.sealStatus
  first | (simp [*]; done) | ((try dsimp only); repeat' (first | (simp; done) | (simp [*]; done) | intro _ | split | (apply Eq.trans; apply foldState_kept; all_goals intros) | (apply Eq.trans; apply State.withSlot_kept; all_goals intros) | (apply Eq.trans; apply State.orRefuse_kept; all_goals intros) | (apply Eq.trans; apply State.chanChecked_kept; all_goals intros) | (apply Eq.trans; apply State.eachPortal_kept; all_goals intros) | simp))

@[simp ↓] theorem State.sealCommit_kept (s : State) (h : Handle) (ps : List Byte) : (State.sealCommit s h ps).kept = s.kept := by
  unfold State.sealCommit
  first | (simp [*]; done) | ((try dsimp only); repeat' (first | (simp; done) | (simp [*]; done) | intro _ | split | (apply Eq.trans; apply foldState_kept; all_goals intros) | (apply Eq.trans; apply State.withSlot_kept; all_goals intros) | (apply Eq.trans; apply State.orRefuse_kept; all_goals intros) | (apply Eq.trans; apply State.chanChecked_kept; all_goals intros) | (apply Eq.trans; apply State.eachPortal_kept; all_goals intros) | simp))

@[simp ↓] theorem State.sealDiscard_kept (s : State) (h : Handle) (_ps : List Byte) : (State.sealDiscard s h _ps).kept = s.kept := by
  unfold State.sealDiscard
  first | (simp [*]; done) | ((try dsimp only); repeat' (first | (simp; done) | (simp [*]; done) | intro _ | split | (apply Eq.trans; apply foldState_kept; all_goals intros) | (apply Eq.trans; apply State.withSlot_kept; all_goals intros) | (apply Eq.trans; apply State.orRefuse_kept; all_goals intros) | (apply Eq.trans; apply State.chanChecked_kept; all_goals intros) | (apply Eq.trans; apply State.eachPortal_kept; all_goals intros) | simp))

@[simp ↓] theorem State.sealImageRead_kept (s : State) (h : Handle) (ps : List Byte) : (State.sealImageRead s h ps).kept = s.kept := by
  unfold State.sealImageRead
  first | (simp [*]; done) | ((try dsimp only); repeat' (first | (simp; done) | (simp [*]; done) | intro _ | split | (apply Eq.trans; apply foldState_kept; all_goals intros) | (apply Eq.trans; apply State.withSlot_kept; all_goals intros) | (apply Eq.trans; apply State.orRefuse_kept; all_goals intros) | (apply Eq.trans; apply State.chanChecked_kept; all_goals intros) | (apply Eq.trans; apply State.eachPortal_kept; all_goals intros) | simp))

theorem execSealCommitDone_kept (dt : Nat) (s : State) : ∃ t, execSealCommitDone dt s = .next t ∧ t.kept = s.kept := by
  unfold execSealCommitDone
  (try dsimp only)
  repeat' (first | refine ⟨_, rfl, ?_⟩ | apply next_ite | split)
  all_goals first | (simp [*]; done) | ((try dsimp only); repeat' (first | (simp; done) | (simp [*]; done) | intro _ | split | (apply Eq.trans; apply foldState_kept; all_goals intros) | (apply Eq.trans; apply State.withSlot_kept; all_goals intros) | (apply Eq.trans; apply State.orRefuse_kept; all_goals intros) | (apply Eq.trans; apply State.chanChecked_kept; all_goals intros) | (apply Eq.trans; apply State.eachPortal_kept; all_goals intros) | simp))

end Sys2Proof.Machine
end

