-- ==== Sys2Proof/Laws/KeptDcl.lean ====
section
/-! SUPPORT. The operations of Machine/Dcl.lean keep the kept part. -/

namespace Sys2Proof.Machine

@[simp ↓] theorem State.inputEvent_kept (s : State) (p : PortalId) (n : Nat) (level : Bool) : (State.inputEvent s p n level).kept = s.kept := by
  unfold State.inputEvent
  first | (simp [*]; done) | ((try dsimp only); repeat' (first | (simp; done) | (simp [*]; done) | intro _ | split | (apply Eq.trans; apply foldState_kept; all_goals intros) | (apply Eq.trans; apply State.withSlot_kept; all_goals intros) | (apply Eq.trans; apply State.orRefuse_kept; all_goals intros) | (apply Eq.trans; apply State.chanChecked_kept; all_goals intros) | (apply Eq.trans; apply State.eachPortal_kept; all_goals intros) | simp))

theorem execSafetyInputChange_kept (dt : Nat) (p : PortalId) (n : Fin 12) (level : Bool) (s : State) : ∃ t, execSafetyInputChange dt p n level s = .next t ∧ t.kept = s.kept := by
  unfold execSafetyInputChange
  (try dsimp only)
  repeat' (first | refine ⟨_, rfl, ?_⟩ | apply next_ite | split)
  all_goals first | (simp [*]; done) | ((try dsimp only); repeat' (first | (simp; done) | (simp [*]; done) | intro _ | split | (apply Eq.trans; apply foldState_kept; all_goals intros) | (apply Eq.trans; apply State.withSlot_kept; all_goals intros) | (apply Eq.trans; apply State.orRefuse_kept; all_goals intros) | (apply Eq.trans; apply State.chanChecked_kept; all_goals intros) | (apply Eq.trans; apply State.eachPortal_kept; all_goals intros) | simp))

@[simp ↓] theorem State.siFaultSet_kept (s : State) (p : PortalId) (b : Nat) (extra : Nat) : (State.siFaultSet s p b extra).kept = s.kept := by
  unfold State.siFaultSet
  first | (simp [*]; done) | ((try dsimp only); repeat' (first | (simp; done) | (simp [*]; done) | intro _ | split | (apply Eq.trans; apply foldState_kept; all_goals intros) | (apply Eq.trans; apply State.withSlot_kept; all_goals intros) | (apply Eq.trans; apply State.orRefuse_kept; all_goals intros) | (apply Eq.trans; apply State.chanChecked_kept; all_goals intros) | (apply Eq.trans; apply State.eachPortal_kept; all_goals intros) | simp))

@[simp ↓] theorem State.siFaultClear_kept (s : State) (p : PortalId) (b : Nat) : (State.siFaultClear s p b).kept = s.kept := by
  unfold State.siFaultClear
  first | (simp [*]; done) | ((try dsimp only); repeat' (first | (simp; done) | (simp [*]; done) | intro _ | split | (apply Eq.trans; apply foldState_kept; all_goals intros) | (apply Eq.trans; apply State.withSlot_kept; all_goals intros) | (apply Eq.trans; apply State.orRefuse_kept; all_goals intros) | (apply Eq.trans; apply State.chanChecked_kept; all_goals intros) | (apply Eq.trans; apply State.eachPortal_kept; all_goals intros) | simp))

theorem execSiDiscrepancy_kept (dt : Nat) (p : PortalId) (pair : Fin 3) (s : State) : ∃ t, execSiDiscrepancy dt p pair s = .next t ∧ t.kept = s.kept := by
  unfold execSiDiscrepancy
  (try dsimp only)
  repeat' (first | refine ⟨_, rfl, ?_⟩ | apply next_ite | split)
  all_goals first | (simp [*]; done) | ((try dsimp only); repeat' (first | (simp; done) | (simp [*]; done) | intro _ | split | (apply Eq.trans; apply foldState_kept; all_goals intros) | (apply Eq.trans; apply State.withSlot_kept; all_goals intros) | (apply Eq.trans; apply State.orRefuse_kept; all_goals intros) | (apply Eq.trans; apply State.chanChecked_kept; all_goals intros) | (apply Eq.trans; apply State.eachPortal_kept; all_goals intros) | simp))

theorem execSiDiscrepancyClear_kept (dt : Nat) (p : PortalId) (pair : Fin 3) (s : State) : ∃ t, execSiDiscrepancyClear dt p pair s = .next t ∧ t.kept = s.kept := by
  unfold execSiDiscrepancyClear
  (try dsimp only)
  repeat' (first | refine ⟨_, rfl, ?_⟩ | apply next_ite | split)
  all_goals first | (simp [*]; done) | ((try dsimp only); repeat' (first | (simp; done) | (simp [*]; done) | intro _ | split | (apply Eq.trans; apply foldState_kept; all_goals intros) | (apply Eq.trans; apply State.withSlot_kept; all_goals intros) | (apply Eq.trans; apply State.orRefuse_kept; all_goals intros) | (apply Eq.trans; apply State.chanChecked_kept; all_goals intros) | (apply Eq.trans; apply State.eachPortal_kept; all_goals intros) | simp))

theorem execSiPlausibility_kept (dt : Nat) (p : PortalId) (chk : Fin 3) (s : State) : ∃ t, execSiPlausibility dt p chk s = .next t ∧ t.kept = s.kept := by
  unfold execSiPlausibility
  (try dsimp only)
  repeat' (first | refine ⟨_, rfl, ?_⟩ | apply next_ite | split)
  all_goals first | (simp [*]; done) | ((try dsimp only); repeat' (first | (simp; done) | (simp [*]; done) | intro _ | split | (apply Eq.trans; apply foldState_kept; all_goals intros) | (apply Eq.trans; apply State.withSlot_kept; all_goals intros) | (apply Eq.trans; apply State.orRefuse_kept; all_goals intros) | (apply Eq.trans; apply State.chanChecked_kept; all_goals intros) | (apply Eq.trans; apply State.eachPortal_kept; all_goals intros) | simp))

theorem execSiPlausibilityClear_kept (dt : Nat) (p : PortalId) (chk : Fin 3) (s : State) : ∃ t, execSiPlausibilityClear dt p chk s = .next t ∧ t.kept = s.kept := by
  unfold execSiPlausibilityClear
  (try dsimp only)
  repeat' (first | refine ⟨_, rfl, ?_⟩ | apply next_ite | split)
  all_goals first | (simp [*]; done) | ((try dsimp only); repeat' (first | (simp; done) | (simp [*]; done) | intro _ | split | (apply Eq.trans; apply foldState_kept; all_goals intros) | (apply Eq.trans; apply State.withSlot_kept; all_goals intros) | (apply Eq.trans; apply State.orRefuse_kept; all_goals intros) | (apply Eq.trans; apply State.chanChecked_kept; all_goals intros) | (apply Eq.trans; apply State.eachPortal_kept; all_goals intros) | simp))

theorem execZsInputChange_kept (dt : Nat) (isB : Bool) (level : Bool) (s : State) : ∃ t, execZsInputChange dt isB level s = .next t ∧ t.kept = s.kept := by
  unfold execZsInputChange
  (try dsimp only)
  repeat' (first | refine ⟨_, rfl, ?_⟩ | apply next_ite | split)
  all_goals first | (simp [*]; done) | ((try dsimp only); repeat' (first | (simp; done) | (simp [*]; done) | intro _ | split | (apply Eq.trans; apply foldState_kept; all_goals intros) | (apply Eq.trans; apply State.withSlot_kept; all_goals intros) | (apply Eq.trans; apply State.orRefuse_kept; all_goals intros) | (apply Eq.trans; apply State.chanChecked_kept; all_goals intros) | (apply Eq.trans; apply State.eachPortal_kept; all_goals intros) | simp))

@[simp ↓] theorem State.setZsFault_kept (s : State) (v : Bool) : (State.setZsFault s v).kept = s.kept := by
  unfold State.setZsFault
  first | (simp [*]; done) | ((try dsimp only); repeat' (first | (simp; done) | (simp [*]; done) | intro _ | split | (apply Eq.trans; apply foldState_kept; all_goals intros) | (apply Eq.trans; apply State.withSlot_kept; all_goals intros) | (apply Eq.trans; apply State.orRefuse_kept; all_goals intros) | (apply Eq.trans; apply State.chanChecked_kept; all_goals intros) | (apply Eq.trans; apply State.eachPortal_kept; all_goals intros) | simp))

theorem execZsDiscrepancy_kept (dt : Nat) (s : State) : ∃ t, execZsDiscrepancy dt s = .next t ∧ t.kept = s.kept := by
  unfold execZsDiscrepancy
  (try dsimp only)
  repeat' (first | refine ⟨_, rfl, ?_⟩ | apply next_ite | split)
  all_goals first | (simp [*]; done) | ((try dsimp only); repeat' (first | (simp; done) | (simp [*]; done) | intro _ | split | (apply Eq.trans; apply foldState_kept; all_goals intros) | (apply Eq.trans; apply State.withSlot_kept; all_goals intros) | (apply Eq.trans; apply State.orRefuse_kept; all_goals intros) | (apply Eq.trans; apply State.chanChecked_kept; all_goals intros) | (apply Eq.trans; apply State.eachPortal_kept; all_goals intros) | simp))

theorem execZsFaultClear_kept (dt : Nat) (s : State) : ∃ t, execZsFaultClear dt s = .next t ∧ t.kept = s.kept := by
  unfold execZsFaultClear
  (try dsimp only)
  repeat' (first | refine ⟨_, rfl, ?_⟩ | apply next_ite | split)
  all_goals first | (simp [*]; done) | ((try dsimp only); repeat' (first | (simp; done) | (simp [*]; done) | intro _ | split | (apply Eq.trans; apply foldState_kept; all_goals intros) | (apply Eq.trans; apply State.withSlot_kept; all_goals intros) | (apply Eq.trans; apply State.orRefuse_kept; all_goals intros) | (apply Eq.trans; apply State.chanChecked_kept; all_goals intros) | (apply Eq.trans; apply State.eachPortal_kept; all_goals intros) | simp))

theorem execGpiChange_kept (dt : Nat) (n : Fin 10) (level : Bool) (s : State) : ∃ t, execGpiChange dt n level s = .next t ∧ t.kept = s.kept := by
  unfold execGpiChange
  (try dsimp only)
  repeat' (first | refine ⟨_, rfl, ?_⟩ | apply next_ite | split)
  all_goals first | (simp [*]; done) | ((try dsimp only); repeat' (first | (simp; done) | (simp [*]; done) | intro _ | split | (apply Eq.trans; apply foldState_kept; all_goals intros) | (apply Eq.trans; apply State.withSlot_kept; all_goals intros) | (apply Eq.trans; apply State.orRefuse_kept; all_goals intros) | (apply Eq.trans; apply State.chanChecked_kept; all_goals intros) | (apply Eq.trans; apply State.eachPortal_kept; all_goals intros) | simp))

@[simp ↓] theorem State.dclEvent_kept (s : State) : (State.dclEvent s).kept = s.kept := by
  unfold State.dclEvent
  first | (simp [*]; done) | ((try dsimp only); repeat' (first | (simp; done) | (simp [*]; done) | intro _ | split | (apply Eq.trans; apply foldState_kept; all_goals intros) | (apply Eq.trans; apply State.withSlot_kept; all_goals intros) | (apply Eq.trans; apply State.orRefuse_kept; all_goals intros) | (apply Eq.trans; apply State.chanChecked_kept; all_goals intros) | (apply Eq.trans; apply State.eachPortal_kept; all_goals intros) | simp))

@[simp ↓] theorem State.dclFaultSet_kept (s : State) (b : Nat) : (State.dclFaultSet s b).kept = s.kept := by
  unfold State.dclFaultSet
  first | (simp [*]; done) | ((try dsimp only); repeat' (first | (simp; done) | (simp [*]; done) | intro _ | split | (apply Eq.trans; apply foldState_kept; all_goals intros) | (apply Eq.trans; apply State.withSlot_kept; all_goals intros) | (apply Eq.trans; apply State.orRefuse_kept; all_goals intros) | (apply Eq.trans; apply State.chanChecked_kept; all_goals intros) | (apply Eq.trans; apply State.eachPortal_kept; all_goals intros) | simp))

theorem execDclFwRenewal_kept (dt : Nat) (s : State) : ∃ t, execDclFwRenewal dt s = .next t ∧ t.kept = s.kept := by
  unfold execDclFwRenewal
  (try dsimp only)
  repeat' (first | refine ⟨_, rfl, ?_⟩ | apply next_ite | split)
  all_goals first | (simp [*]; done) | ((try dsimp only); repeat' (first | (simp; done) | (simp [*]; done) | intro _ | split | (apply Eq.trans; apply foldState_kept; all_goals intros) | (apply Eq.trans; apply State.withSlot_kept; all_goals intros) | (apply Eq.trans; apply State.orRefuse_kept; all_goals intros) | (apply Eq.trans; apply State.chanChecked_kept; all_goals intros) | (apply Eq.trans; apply State.eachPortal_kept; all_goals intros) | simp))

theorem execFwStall_kept (dt : Nat) (s : State) : ∃ t, execFwStall dt s = .next t ∧ t.kept = s.kept := by
  unfold execFwStall
  (try dsimp only)
  repeat' (first | refine ⟨_, rfl, ?_⟩ | apply next_ite | split)
  all_goals first | (simp [*]; done) | ((try dsimp only); repeat' (first | (simp; done) | (simp [*]; done) | intro _ | split | (apply Eq.trans; apply foldState_kept; all_goals intros) | (apply Eq.trans; apply State.withSlot_kept; all_goals intros) | (apply Eq.trans; apply State.orRefuse_kept; all_goals intros) | (apply Eq.trans; apply State.chanChecked_kept; all_goals intros) | (apply Eq.trans; apply State.eachPortal_kept; all_goals intros) | simp))

@[simp ↓] theorem State.inputFrame_kept (s : State) (p : PortalId) : (State.inputFrame s p).kept = s.kept := by
  unfold State.inputFrame
  first | (simp [*]; done) | ((try dsimp only); repeat' (first | (simp; done) | (simp [*]; done) | intro _ | split | (apply Eq.trans; apply foldState_kept; all_goals intros) | (apply Eq.trans; apply State.withSlot_kept; all_goals intros) | (apply Eq.trans; apply State.orRefuse_kept; all_goals intros) | (apply Eq.trans; apply State.chanChecked_kept; all_goals intros) | (apply Eq.trans; apply State.eachPortal_kept; all_goals intros) | simp))

theorem execDclInputFrame_kept (dt : Nat) (d : PdId) (s : State) : ∃ t, execDclInputFrame dt d s = .next t ∧ t.kept = s.kept := by
  unfold execDclInputFrame
  (try dsimp only)
  repeat' (first | refine ⟨_, rfl, ?_⟩ | apply next_ite | split)
  all_goals first | (simp [*]; done) | ((try dsimp only); repeat' (first | (simp; done) | (simp [*]; done) | intro _ | split | (apply Eq.trans; apply foldState_kept; all_goals intros) | (apply Eq.trans; apply State.withSlot_kept; all_goals intros) | (apply Eq.trans; apply State.orRefuse_kept; all_goals intros) | (apply Eq.trans; apply State.chanChecked_kept; all_goals intros) | (apply Eq.trans; apply State.eachPortal_kept; all_goals intros) | simp))

theorem execDclFrameMissing_kept (dt : Nat) (d : PdId) (s : State) : ∃ t, execDclFrameMissing dt d s = .next t ∧ t.kept = s.kept := by
  unfold execDclFrameMissing
  (try dsimp only)
  repeat' (first | refine ⟨_, rfl, ?_⟩ | apply next_ite | split)
  all_goals first | (simp [*]; done) | ((try dsimp only); repeat' (first | (simp; done) | (simp [*]; done) | intro _ | split | (apply Eq.trans; apply foldState_kept; all_goals intros) | (apply Eq.trans; apply State.withSlot_kept; all_goals intros) | (apply Eq.trans; apply State.orRefuse_kept; all_goals intros) | (apply Eq.trans; apply State.chanChecked_kept; all_goals intros) | (apply Eq.trans; apply State.eachPortal_kept; all_goals intros) | simp))

theorem execDclTermCompare_kept (dt : Nat) (s : State) : ∃ t, execDclTermCompare dt s = .next t ∧ t.kept = s.kept := by
  unfold execDclTermCompare
  (try dsimp only)
  repeat' (first | refine ⟨_, rfl, ?_⟩ | apply next_ite | split)
  all_goals first | (simp [*]; done) | ((try dsimp only); repeat' (first | (simp; done) | (simp [*]; done) | intro _ | split | (apply Eq.trans; apply foldState_kept; all_goals intros) | (apply Eq.trans; apply State.withSlot_kept; all_goals intros) | (apply Eq.trans; apply State.orRefuse_kept; all_goals intros) | (apply Eq.trans; apply State.chanChecked_kept; all_goals intros) | (apply Eq.trans; apply State.eachPortal_kept; all_goals intros) | simp))

theorem execDclTermDisagree_kept (dt : Nat) (p : PortalId) (s : State) : ∃ t, execDclTermDisagree dt p s = .next t ∧ t.kept = s.kept := by
  unfold execDclTermDisagree
  (try dsimp only)
  repeat' (first | refine ⟨_, rfl, ?_⟩ | apply next_ite | split)
  all_goals first | (simp [*]; done) | ((try dsimp only); repeat' (first | (simp; done) | (simp [*]; done) | intro _ | split | (apply Eq.trans; apply foldState_kept; all_goals intros) | (apply Eq.trans; apply State.withSlot_kept; all_goals intros) | (apply Eq.trans; apply State.orRefuse_kept; all_goals intros) | (apply Eq.trans; apply State.chanChecked_kept; all_goals intros) | (apply Eq.trans; apply State.eachPortal_kept; all_goals intros) | simp))

theorem execDclTermAgree_kept (dt : Nat) (p : PortalId) (s : State) : ∃ t, execDclTermAgree dt p s = .next t ∧ t.kept = s.kept := by
  unfold execDclTermAgree
  (try dsimp only)
  repeat' (first | refine ⟨_, rfl, ?_⟩ | apply next_ite | split)
  all_goals first | (simp [*]; done) | ((try dsimp only); repeat' (first | (simp; done) | (simp [*]; done) | intro _ | split | (apply Eq.trans; apply foldState_kept; all_goals intros) | (apply Eq.trans; apply State.withSlot_kept; all_goals intros) | (apply Eq.trans; apply State.orRefuse_kept; all_goals intros) | (apply Eq.trans; apply State.chanChecked_kept; all_goals intros) | (apply Eq.trans; apply State.eachPortal_kept; all_goals intros) | simp))

theorem execDclHalfPeriod_kept (dt : Nat) (s : State) : ∃ t, execDclHalfPeriod dt s = .next t ∧ t.kept = s.kept := by
  unfold execDclHalfPeriod
  (try dsimp only)
  repeat' (first | refine ⟨_, rfl, ?_⟩ | apply next_ite | split)
  all_goals first | (simp [*]; done) | ((try dsimp only); repeat' (first | (simp; done) | (simp [*]; done) | intro _ | split | (apply Eq.trans; apply foldState_kept; all_goals intros) | (apply Eq.trans; apply State.withSlot_kept; all_goals intros) | (apply Eq.trans; apply State.orRefuse_kept; all_goals intros) | (apply Eq.trans; apply State.chanChecked_kept; all_goals intros) | (apply Eq.trans; apply State.eachPortal_kept; all_goals intros) | simp))

theorem execDclBallCheck_kept (dt : Nat) (ballA ballB : Bool) (s : State) : ∃ t, execDclBallCheck dt ballA ballB s = .next t ∧ t.kept = s.kept := by
  unfold execDclBallCheck
  (try dsimp only)
  repeat' (first | refine ⟨_, rfl, ?_⟩ | apply next_ite | split)
  all_goals first | (simp [*]; done) | ((try dsimp only); repeat' (first | (simp; done) | (simp [*]; done) | intro _ | split | (apply Eq.trans; apply foldState_kept; all_goals intros) | (apply Eq.trans; apply State.withSlot_kept; all_goals intros) | (apply Eq.trans; apply State.orRefuse_kept; all_goals intros) | (apply Eq.trans; apply State.chanChecked_kept; all_goals intros) | (apply Eq.trans; apply State.eachPortal_kept; all_goals intros) | simp))

theorem execDclReadbackChange_kept (dt : Nat) (isB : Bool) (level : Bool) (s : State) : ∃ t, execDclReadbackChange dt isB level s = .next t ∧ t.kept = s.kept := by
  unfold execDclReadbackChange
  (try dsimp only)
  repeat' (first | refine ⟨_, rfl, ?_⟩ | apply next_ite | split)
  all_goals first | (simp [*]; done) | ((try dsimp only); repeat' (first | (simp; done) | (simp [*]; done) | intro _ | split | (apply Eq.trans; apply foldState_kept; all_goals intros) | (apply Eq.trans; apply State.withSlot_kept; all_goals intros) | (apply Eq.trans; apply State.orRefuse_kept; all_goals intros) | (apply Eq.trans; apply State.chanChecked_kept; all_goals intros) | (apply Eq.trans; apply State.eachPortal_kept; all_goals intros) | simp))

theorem execDclPickupDropTimeout_kept (dt : Nat) (isB : Bool) (s : State) : ∃ t, execDclPickupDropTimeout dt isB s = .next t ∧ t.kept = s.kept := by
  unfold execDclPickupDropTimeout
  (try dsimp only)
  repeat' (first | refine ⟨_, rfl, ?_⟩ | apply next_ite | split)
  all_goals first | (simp [*]; done) | ((try dsimp only); repeat' (first | (simp; done) | (simp [*]; done) | intro _ | split | (apply Eq.trans; apply foldState_kept; all_goals intros) | (apply Eq.trans; apply State.withSlot_kept; all_goals intros) | (apply Eq.trans; apply State.orRefuse_kept; all_goals intros) | (apply Eq.trans; apply State.chanChecked_kept; all_goals intros) | (apply Eq.trans; apply State.eachPortal_kept; all_goals intros) | simp))

@[simp ↓] theorem State.resetEvent_kept (s : State) (reason asserted : Nat) : (State.resetEvent s reason asserted).kept = s.kept := by
  unfold State.resetEvent
  first | (simp [*]; done) | ((try dsimp only); repeat' (first | (simp; done) | (simp [*]; done) | intro _ | split | (apply Eq.trans; apply foldState_kept; all_goals intros) | (apply Eq.trans; apply State.withSlot_kept; all_goals intros) | (apply Eq.trans; apply State.orRefuse_kept; all_goals intros) | (apply Eq.trans; apply State.chanChecked_kept; all_goals intros) | (apply Eq.trans; apply State.eachPortal_kept; all_goals intros) | simp))

@[simp ↓] theorem State.clearDclFault_kept (s : State) : (State.clearDclFault s).kept = s.kept := by
  unfold State.clearDclFault
  first | (simp [*]; done) | ((try dsimp only); repeat' (first | (simp; done) | (simp [*]; done) | intro _ | split | (apply Eq.trans; apply foldState_kept; all_goals intros) | (apply Eq.trans; apply State.withSlot_kept; all_goals intros) | (apply Eq.trans; apply State.orRefuse_kept; all_goals intros) | (apply Eq.trans; apply State.chanChecked_kept; all_goals intros) | (apply Eq.trans; apply State.eachPortal_kept; all_goals intros) | simp))

@[simp ↓] theorem State.cleanEdge_kept (s : State) (asserted : Nat) : (State.cleanEdge s asserted).kept = s.kept := by
  unfold State.cleanEdge
  first | (simp [*]; done) | ((try dsimp only); repeat' (first | (simp; done) | (simp [*]; done) | intro _ | split | (apply Eq.trans; apply foldState_kept; all_goals intros) | (apply Eq.trans; apply State.withSlot_kept; all_goals intros) | (apply Eq.trans; apply State.orRefuse_kept; all_goals intros) | (apply Eq.trans; apply State.chanChecked_kept; all_goals intros) | (apply Eq.trans; apply State.eachPortal_kept; all_goals intros) | simp))

@[simp ↓] theorem State.pressEnd_kept (s : State) (x : Press) : (State.pressEnd s x).kept = s.kept := by
  unfold State.pressEnd
  first | (simp [*]; done) | ((try dsimp only); repeat' (first | (simp; done) | (simp [*]; done) | intro _ | split | (apply Eq.trans; apply foldState_kept; all_goals intros) | (apply Eq.trans; apply State.withSlot_kept; all_goals intros) | (apply Eq.trans; apply State.orRefuse_kept; all_goals intros) | (apply Eq.trans; apply State.chanChecked_kept; all_goals intros) | (apply Eq.trans; apply State.eachPortal_kept; all_goals intros) | simp))

theorem execSafetyResetEdge_kept (dt : Nat) (a b : Bool) (s : State) : ∃ t, execSafetyResetEdge dt a b s = .next t ∧ t.kept = s.kept := by
  unfold execSafetyResetEdge
  (try dsimp only)
  repeat' (first | refine ⟨_, rfl, ?_⟩ | apply next_ite | split)
  all_goals first | (simp [*]; done) | ((try dsimp only); repeat' (first | (simp; done) | (simp [*]; done) | intro _ | split | (apply Eq.trans; apply foldState_kept; all_goals intros) | (apply Eq.trans; apply State.withSlot_kept; all_goals intros) | (apply Eq.trans; apply State.orRefuse_kept; all_goals intros) | (apply Eq.trans; apply State.chanChecked_kept; all_goals intros) | (apply Eq.trans; apply State.eachPortal_kept; all_goals intros) | simp))

theorem execSafetyResetJam_kept (dt : Nat) (s : State) : ∃ t, execSafetyResetJam dt s = .next t ∧ t.kept = s.kept := by
  unfold execSafetyResetJam
  (try dsimp only)
  repeat' (first | refine ⟨_, rfl, ?_⟩ | apply next_ite | split)
  all_goals first | (simp [*]; done) | ((try dsimp only); repeat' (first | (simp; done) | (simp [*]; done) | intro _ | split | (apply Eq.trans; apply foldState_kept; all_goals intros) | (apply Eq.trans; apply State.withSlot_kept; all_goals intros) | (apply Eq.trans; apply State.orRefuse_kept; all_goals intros) | (apply Eq.trans; apply State.chanChecked_kept; all_goals intros) | (apply Eq.trans; apply State.eachPortal_kept; all_goals intros) | simp))

end Sys2Proof.Machine
end

