-- ==== Sys2Proof/Laws/KeptLockstep.lean ====
section
/-! SUPPORT. The operations of Machine/Lockstep.lean keep the kept part. -/

namespace Sys2Proof.Machine

@[simp ↓] theorem State.dropHeld_kept (s : State) (d : Fin 3) : (State.dropHeld s d).kept = s.kept := by
  unfold State.dropHeld
  first | (simp [*]; done) | ((try dsimp only); repeat' (first | (simp; done) | (simp [*]; done) | intro _ | split | (apply Eq.trans; apply foldState_kept; all_goals intros) | (apply Eq.trans; apply State.withSlot_kept; all_goals intros) | (apply Eq.trans; apply State.orRefuse_kept; all_goals intros) | (apply Eq.trans; apply State.chanChecked_kept; all_goals intros) | (apply Eq.trans; apply State.eachPortal_kept; all_goals intros) | simp))

@[simp ↓] theorem State.dropBarrier_kept (s : State) (d : Fin 3) : (State.dropBarrier s d).kept = s.kept := by
  unfold State.dropBarrier
  first | (simp [*]; done) | ((try dsimp only); repeat' (first | (simp; done) | (simp [*]; done) | intro _ | split | (apply Eq.trans; apply foldState_kept; all_goals intros) | (apply Eq.trans; apply State.withSlot_kept; all_goals intros) | (apply Eq.trans; apply State.orRefuse_kept; all_goals intros) | (apply Eq.trans; apply State.chanChecked_kept; all_goals intros) | (apply Eq.trans; apply State.eachPortal_kept; all_goals intros) | simp))

@[simp ↓] theorem State.pairFails_kept (s : State) (d : Fin 3) (kind part : Nat) (who : Option PortalId) : (State.pairFails s d kind part who).kept = s.kept := by
  unfold State.pairFails
  first | (simp [*]; done) | ((try dsimp only); repeat' (first | (simp; done) | (simp [*]; done) | intro _ | split | (apply Eq.trans; apply foldState_kept; all_goals intros) | (apply Eq.trans; apply State.withSlot_kept; all_goals intros) | (apply Eq.trans; apply State.orRefuse_kept; all_goals intros) | (apply Eq.trans; apply State.chanChecked_kept; all_goals intros) | (apply Eq.trans; apply State.eachPortal_kept; all_goals intros) | simp))

@[simp ↓] theorem State.rejoinFails_kept (s : State) (d : Fin 3) (kind part : Nat) : (State.rejoinFails s d kind part).kept = s.kept := by
  unfold State.rejoinFails
  first | (simp [*]; done) | ((try dsimp only); repeat' (first | (simp; done) | (simp [*]; done) | intro _ | split | (apply Eq.trans; apply foldState_kept; all_goals intros) | (apply Eq.trans; apply State.withSlot_kept; all_goals intros) | (apply Eq.trans; apply State.orRefuse_kept; all_goals intros) | (apply Eq.trans; apply State.chanChecked_kept; all_goals intros) | (apply Eq.trans; apply State.eachPortal_kept; all_goals intros) | simp))

theorem execLockstepMismatch_kept (dt : Nat) (d : Fin 3) (a : Attribution) (s : State) : ∃ t, execLockstepMismatch dt d a s = .next t ∧ t.kept = s.kept := by
  unfold execLockstepMismatch
  (try dsimp only)
  repeat' (first | refine ⟨_, rfl, ?_⟩ | apply next_ite | split)
  all_goals first | (simp [*]; done) | ((try dsimp only); repeat' (first | (simp; done) | (simp [*]; done) | intro _ | split | (apply Eq.trans; apply foldState_kept; all_goals intros) | (apply Eq.trans; apply State.withSlot_kept; all_goals intros) | (apply Eq.trans; apply State.orRefuse_kept; all_goals intros) | (apply Eq.trans; apply State.chanChecked_kept; all_goals intros) | (apply Eq.trans; apply State.eachPortal_kept; all_goals intros) | simp))

@[simp ↓] theorem State.rejoined_kept (s : State) (d : Fin 3) : (State.rejoined s d).kept = s.kept := by
  unfold State.rejoined
  first | (simp [*]; done) | ((try dsimp only); repeat' (first | (simp; done) | (simp [*]; done) | intro _ | split | (apply Eq.trans; apply foldState_kept; all_goals intros) | (apply Eq.trans; apply State.withSlot_kept; all_goals intros) | (apply Eq.trans; apply State.orRefuse_kept; all_goals intros) | (apply Eq.trans; apply State.chanChecked_kept; all_goals intros) | (apply Eq.trans; apply State.eachPortal_kept; all_goals intros) | simp))

theorem execSignatureExchange_kept (dt : Nat) (d : Fin 3) (agree : Bool) (part : Fin 5) (s : State) : ∃ t, execSignatureExchange dt d agree part s = .next t ∧ t.kept = s.kept := by
  unfold execSignatureExchange
  (try dsimp only)
  repeat' (first | refine ⟨_, rfl, ?_⟩ | apply next_ite | split)
  all_goals first | (simp [*]; done) | ((try dsimp only); repeat' (first | (simp; done) | (simp [*]; done) | intro _ | split | (apply Eq.trans; apply foldState_kept; all_goals intros) | (apply Eq.trans; apply State.withSlot_kept; all_goals intros) | (apply Eq.trans; apply State.orRefuse_kept; all_goals intros) | (apply Eq.trans; apply State.chanChecked_kept; all_goals intros) | (apply Eq.trans; apply State.eachPortal_kept; all_goals intros) | simp))

theorem execComparatorSelfTest_kept (dt : Nat) (d : Fin 3) (pass : Bool) (s : State) : ∃ t, execComparatorSelfTest dt d pass s = .next t ∧ t.kept = s.kept := by
  unfold execComparatorSelfTest
  (try dsimp only)
  repeat' (first | refine ⟨_, rfl, ?_⟩ | apply next_ite | split)
  all_goals first | (simp [*]; done) | ((try dsimp only); repeat' (first | (simp; done) | (simp [*]; done) | intro _ | split | (apply Eq.trans; apply foldState_kept; all_goals intros) | (apply Eq.trans; apply State.withSlot_kept; all_goals intros) | (apply Eq.trans; apply State.orRefuse_kept; all_goals intros) | (apply Eq.trans; apply State.chanChecked_kept; all_goals intros) | (apply Eq.trans; apply State.eachPortal_kept; all_goals intros) | simp))

theorem execCoreWatchdogExpiry_kept (dt : Nat) (d : Fin 3) (part : Fin 5) (s : State) : ∃ t, execCoreWatchdogExpiry dt d part s = .next t ∧ t.kept = s.kept := by
  unfold execCoreWatchdogExpiry
  (try dsimp only)
  repeat' (first | refine ⟨_, rfl, ?_⟩ | apply next_ite | split)
  all_goals first | (simp [*]; done) | ((try dsimp only); repeat' (first | (simp; done) | (simp [*]; done) | intro _ | split | (apply Eq.trans; apply foldState_kept; all_goals intros) | (apply Eq.trans; apply State.withSlot_kept; all_goals intros) | (apply Eq.trans; apply State.orRefuse_kept; all_goals intros) | (apply Eq.trans; apply State.chanChecked_kept; all_goals intros) | (apply Eq.trans; apply State.eachPortal_kept; all_goals intros) | simp))

theorem execRecoveryComplete_kept (dt : Nat) (d : Fin 3) (s : State) : ∃ t, execRecoveryComplete dt d s = .next t ∧ t.kept = s.kept := by
  unfold execRecoveryComplete
  (try dsimp only)
  repeat' (first | refine ⟨_, rfl, ?_⟩ | apply next_ite | split)
  all_goals first | (simp [*]; done) | ((try dsimp only); repeat' (first | (simp; done) | (simp [*]; done) | intro _ | split | (apply Eq.trans; apply foldState_kept; all_goals intros) | (apply Eq.trans; apply State.withSlot_kept; all_goals intros) | (apply Eq.trans; apply State.orRefuse_kept; all_goals intros) | (apply Eq.trans; apply State.chanChecked_kept; all_goals intros) | (apply Eq.trans; apply State.eachPortal_kept; all_goals intros) | simp))

@[simp ↓] theorem State.lockstepSplit_kept (s : State) (h : Handle) (_ps : List Byte) : (State.lockstepSplit s h _ps).kept = s.kept := by
  unfold State.lockstepSplit
  first | (simp [*]; done) | ((try dsimp only); repeat' (first | (simp; done) | (simp [*]; done) | intro _ | split | (apply Eq.trans; apply foldState_kept; all_goals intros) | (apply Eq.trans; apply State.withSlot_kept; all_goals intros) | (apply Eq.trans; apply State.orRefuse_kept; all_goals intros) | (apply Eq.trans; apply State.chanChecked_kept; all_goals intros) | (apply Eq.trans; apply State.eachPortal_kept; all_goals intros) | simp))

theorem execSplitHandoverDone_kept (dt : Nat) (d : Fin 3) (agree : Bool) (s : State) : ∃ t, execSplitHandoverDone dt d agree s = .next t ∧ t.kept = s.kept := by
  unfold execSplitHandoverDone
  (try dsimp only)
  repeat' (first | refine ⟨_, rfl, ?_⟩ | apply next_ite | split)
  all_goals first | (simp [*]; done) | ((try dsimp only); repeat' (first | (simp; done) | (simp [*]; done) | intro _ | split | (apply Eq.trans; apply foldState_kept; all_goals intros) | (apply Eq.trans; apply State.withSlot_kept; all_goals intros) | (apply Eq.trans; apply State.orRefuse_kept; all_goals intros) | (apply Eq.trans; apply State.chanChecked_kept; all_goals intros) | (apply Eq.trans; apply State.eachPortal_kept; all_goals intros) | simp))

@[simp ↓] theorem State.lockstepRejoin_kept (s : State) (h : Handle) (_ps : List Byte) : (State.lockstepRejoin s h _ps).kept = s.kept := by
  unfold State.lockstepRejoin
  first | (simp [*]; done) | ((try dsimp only); repeat' (first | (simp; done) | (simp [*]; done) | intro _ | split | (apply Eq.trans; apply foldState_kept; all_goals intros) | (apply Eq.trans; apply State.withSlot_kept; all_goals intros) | (apply Eq.trans; apply State.orRefuse_kept; all_goals intros) | (apply Eq.trans; apply State.chanChecked_kept; all_goals intros) | (apply Eq.trans; apply State.eachPortal_kept; all_goals intros) | simp))

@[simp ↓] theorem State.lockstepStatus_kept (s : State) (h : Handle) (_ps : List Byte) : (State.lockstepStatus s h _ps).kept = s.kept := by
  unfold State.lockstepStatus
  first | (simp [*]; done) | ((try dsimp only); repeat' (first | (simp; done) | (simp [*]; done) | intro _ | split | (apply Eq.trans; apply foldState_kept; all_goals intros) | (apply Eq.trans; apply State.withSlot_kept; all_goals intros) | (apply Eq.trans; apply State.orRefuse_kept; all_goals intros) | (apply Eq.trans; apply State.chanChecked_kept; all_goals intros) | (apply Eq.trans; apply State.eachPortal_kept; all_goals intros) | simp))

theorem execDiagnosticFailed_kept (dt : Nat) (d : Fin 3) (s : State) : ∃ t, execDiagnosticFailed dt d s = .next t ∧ t.kept = s.kept := by
  unfold execDiagnosticFailed
  (try dsimp only)
  repeat' (first | refine ⟨_, rfl, ?_⟩ | apply next_ite | split)
  all_goals first | (simp [*]; done) | ((try dsimp only); repeat' (first | (simp; done) | (simp [*]; done) | intro _ | split | (apply Eq.trans; apply foldState_kept; all_goals intros) | (apply Eq.trans; apply State.withSlot_kept; all_goals intros) | (apply Eq.trans; apply State.orRefuse_kept; all_goals intros) | (apply Eq.trans; apply State.chanChecked_kept; all_goals intros) | (apply Eq.trans; apply State.eachPortal_kept; all_goals intros) | simp))

@[simp ↓] theorem State.eccCorrected_kept (s : State) (d : DieId) (memory : Nat) : (State.eccCorrected s d memory).kept = s.kept := by
  unfold State.eccCorrected
  first | (simp [*]; done) | ((try dsimp only); repeat' (first | (simp; done) | (simp [*]; done) | intro _ | split | (apply Eq.trans; apply foldState_kept; all_goals intros) | (apply Eq.trans; apply State.withSlot_kept; all_goals intros) | (apply Eq.trans; apply State.orRefuse_kept; all_goals intros) | (apply Eq.trans; apply State.chanChecked_kept; all_goals intros) | (apply Eq.trans; apply State.eachPortal_kept; all_goals intros) | simp))

@[simp ↓] theorem State.eccUncorrectable_kept (s : State) (d : DieId) (memory region index : Nat) : (State.eccUncorrectable s d memory region index).kept = s.kept := by
  unfold State.eccUncorrectable
  first | (simp [*]; done) | ((try dsimp only); repeat' (first | (simp; done) | (simp [*]; done) | intro _ | split | (apply Eq.trans; apply foldState_kept; all_goals intros) | (apply Eq.trans; apply State.withSlot_kept; all_goals intros) | (apply Eq.trans; apply State.orRefuse_kept; all_goals intros) | (apply Eq.trans; apply State.chanChecked_kept; all_goals intros) | (apply Eq.trans; apply State.eachPortal_kept; all_goals intros) | simp))

theorem execEccError_kept (dt : Nat) (d : DieId) (memory : Fin 3) (region : Fin 10) (uncorrectable : Bool) (index : Nat) (s : State) : ∃ t, execEccError dt d memory region uncorrectable index s = .next t ∧ t.kept = s.kept := by
  unfold execEccError
  (try dsimp only)
  repeat' (first | refine ⟨_, rfl, ?_⟩ | apply next_ite | split)
  all_goals first | (simp [*]; done) | ((try dsimp only); repeat' (first | (simp; done) | (simp [*]; done) | intro _ | split | (apply Eq.trans; apply foldState_kept; all_goals intros) | (apply Eq.trans; apply State.withSlot_kept; all_goals intros) | (apply Eq.trans; apply State.orRefuse_kept; all_goals intros) | (apply Eq.trans; apply State.chanChecked_kept; all_goals intros) | (apply Eq.trans; apply State.eachPortal_kept; all_goals intros) | simp))

theorem execDebugInstruction_kept (dt : Nat) (i : DebugInstr) (s : State) : ∃ t, execDebugInstruction dt i s = .next t ∧ t.kept = s.kept := by
  unfold execDebugInstruction
  (try dsimp only)
  repeat' (first | refine ⟨_, rfl, ?_⟩ | apply next_ite | split)
  all_goals first | (simp [*]; done) | ((try dsimp only); repeat' (first | (simp; done) | (simp [*]; done) | intro _ | split | (apply Eq.trans; apply foldState_kept; all_goals intros) | (apply Eq.trans; apply State.withSlot_kept; all_goals intros) | (apply Eq.trans; apply State.orRefuse_kept; all_goals intros) | (apply Eq.trans; apply State.chanChecked_kept; all_goals intros) | (apply Eq.trans; apply State.eachPortal_kept; all_goals intros) | simp))

end Sys2Proof.Machine
end

