-- ==== Sys2Proof/Laws/KeptSnapOps.lean ====
section
/-! SUPPORT. The operations of Machine/SnapOps.lean keep the kept part. -/

namespace Sys2Proof.Machine

@[simp ↓] theorem State.snapSpoils_kept (s : State) (p : PortalId) (b : SnapPortal) (fenced gap : Bool) : (State.snapSpoils s p b fenced gap).kept = s.kept := by
  unfold State.snapSpoils
  first | (simp [*]; done) | ((try dsimp only); repeat' (first | (simp; done) | (simp [*]; done) | intro _ | split | (apply Eq.trans; apply foldState_kept; all_goals intros) | (apply Eq.trans; apply State.withSlot_kept; all_goals intros) | (apply Eq.trans; apply State.orRefuse_kept; all_goals intros) | (apply Eq.trans; apply State.chanChecked_kept; all_goals intros) | (apply Eq.trans; apply State.eachPortal_kept; all_goals intros) | simp))

@[simp ↓] theorem State.adoptPortal_kept (s : State) (p : PortalId) (b : SnapPortal) (fenced gap : Bool) : (State.adoptPortal s p b fenced gap).kept = s.kept := by
  unfold State.adoptPortal
  first | (simp [*]; done) | ((try dsimp only); repeat' (first | (simp; done) | (simp [*]; done) | intro _ | split | (apply Eq.trans; apply foldState_kept; all_goals intros) | (apply Eq.trans; apply State.withSlot_kept; all_goals intros) | (apply Eq.trans; apply State.orRefuse_kept; all_goals intros) | (apply Eq.trans; apply State.chanChecked_kept; all_goals intros) | (apply Eq.trans; apply State.eachPortal_kept; all_goals intros) | simp))

@[simp ↓] theorem State.adopt_kept (s : State) (z : Snapshot) : (State.adopt s z).kept = s.kept := by
  unfold State.adopt
  first | (simp [*]; done) | ((try dsimp only); repeat' (first | (simp; done) | (simp [*]; done) | intro _ | split | (apply Eq.trans; apply foldState_kept; all_goals intros) | (apply Eq.trans; apply State.withSlot_kept; all_goals intros) | (apply Eq.trans; apply State.orRefuse_kept; all_goals intros) | (apply Eq.trans; apply State.chanChecked_kept; all_goals intros) | (apply Eq.trans; apply State.eachPortal_kept; all_goals intros) | simp))

@[simp ↓] theorem State.loadGeneral_kept (s : State) (z : Snapshot) : (State.loadGeneral s z).kept = s.kept := by
  unfold State.loadGeneral
  first | (simp [*]; done) | ((try dsimp only); repeat' (first | (simp; done) | (simp [*]; done) | intro _ | split | (apply Eq.trans; apply foldState_kept; all_goals intros) | (apply Eq.trans; apply State.withSlot_kept; all_goals intros) | (apply Eq.trans; apply State.orRefuse_kept; all_goals intros) | (apply Eq.trans; apply State.chanChecked_kept; all_goals intros) | (apply Eq.trans; apply State.eachPortal_kept; all_goals intros) | simp))

@[simp ↓] theorem State.restoreLeaf_kept (s : State) (p : PortalId) (l : LeafId) (b : SnapLeaf) : (State.restoreLeaf s p l b).kept = s.kept := by
  unfold State.restoreLeaf
  first | (simp [*]; done) | ((try dsimp only); repeat' (first | (simp; done) | (simp [*]; done) | intro _ | split | (apply Eq.trans; apply foldState_kept; all_goals intros) | (apply Eq.trans; apply State.withSlot_kept; all_goals intros) | (apply Eq.trans; apply State.orRefuse_kept; all_goals intros) | (apply Eq.trans; apply State.chanChecked_kept; all_goals intros) | (apply Eq.trans; apply State.eachPortal_kept; all_goals intros) | simp))

@[simp ↓] theorem State.restoreStep_kept (s : State) (p : PortalId) (b : SnapStep) : (State.restoreStep s p b).kept = s.kept := by
  unfold State.restoreStep
  first | (simp [*]; done) | ((try dsimp only); repeat' (first | (simp; done) | (simp [*]; done) | intro _ | split | (apply Eq.trans; apply foldState_kept; all_goals intros) | (apply Eq.trans; apply State.withSlot_kept; all_goals intros) | (apply Eq.trans; apply State.orRefuse_kept; all_goals intros) | (apply Eq.trans; apply State.chanChecked_kept; all_goals intros) | (apply Eq.trans; apply State.eachPortal_kept; all_goals intros) | simp))

@[simp ↓] theorem State.restorePortal_kept (s : State) (p : PortalId) (b : SnapPortal) (age : Nat) : (State.restorePortal s p b age).kept = s.kept := by
  unfold State.restorePortal
  first | (simp [*]; done) | ((try dsimp only); repeat' (first | (simp; done) | (simp [*]; done) | intro _ | split | (apply Eq.trans; apply foldState_kept; all_goals intros) | (apply Eq.trans; apply State.withSlot_kept; all_goals intros) | (apply Eq.trans; apply State.orRefuse_kept; all_goals intros) | (apply Eq.trans; apply State.chanChecked_kept; all_goals intros) | (apply Eq.trans; apply State.eachPortal_kept; all_goals intros) | simp))

@[simp ↓] theorem State.takeOver_kept (s : State) (p : PortalId) : (State.takeOver s p).1.kept = s.kept := by
  unfold State.takeOver
  first | (simp [*]; done) | ((try dsimp only); repeat' (first | (simp; done) | (simp [*]; done) | intro _ | split | (apply Eq.trans; apply foldState_kept; all_goals intros) | (apply Eq.trans; apply State.withSlot_kept; all_goals intros) | (apply Eq.trans; apply State.orRefuse_kept; all_goals intros) | (apply Eq.trans; apply State.chanChecked_kept; all_goals intros) | (apply Eq.trans; apply State.eachPortal_kept; all_goals intros) | simp))

end Sys2Proof.Machine
end

