-- ==== Sys2Proof/Laws/KeptPairing.lean ====
section
/-! SUPPORT. The operations of Machine/Pairing.lean keep the kept part. -/

namespace Sys2Proof.Machine

theorem execClaimFrameStart_kept (dt : Nat) (smp : ClaimSample) (s : State) : ∃ t, execClaimFrameStart dt smp s = .next t ∧ t.kept = s.kept := by
  unfold execClaimFrameStart
  (try dsimp only)
  repeat' (first | refine ⟨_, rfl, ?_⟩ | apply next_ite | split)
  all_goals first | (simp [*]; done) | ((try dsimp only); repeat' (first | (simp; done) | (simp [*]; done) | intro _ | split | (apply Eq.trans; apply foldState_kept; all_goals intros) | (apply Eq.trans; apply State.withSlot_kept; all_goals intros) | (apply Eq.trans; apply State.orRefuse_kept; all_goals intros) | (apply Eq.trans; apply State.chanChecked_kept; all_goals intros) | (apply Eq.trans; apply State.eachPortal_kept; all_goals intros) | simp))

@[simp ↓] theorem State.cutPortal_kept (s : State) (p : PortalId) : (State.cutPortal s p).kept = s.kept := by
  unfold State.cutPortal
  first | (simp [*]; done) | ((try dsimp only); repeat' (first | (simp; done) | (simp [*]; done) | intro _ | split | (apply Eq.trans; apply foldState_kept; all_goals intros) | (apply Eq.trans; apply State.withSlot_kept; all_goals intros) | (apply Eq.trans; apply State.orRefuse_kept; all_goals intros) | (apply Eq.trans; apply State.chanChecked_kept; all_goals intros) | (apply Eq.trans; apply State.eachPortal_kept; all_goals intros) | simp))

@[simp ↓] theorem State.dclCut_kept (s : State) : (State.dclCut s).kept = s.kept := by
  unfold State.dclCut
  first | (simp [*]; done) | ((try dsimp only); repeat' (first | (simp; done) | (simp [*]; done) | intro _ | split | (apply Eq.trans; apply foldState_kept; all_goals intros) | (apply Eq.trans; apply State.withSlot_kept; all_goals intros) | (apply Eq.trans; apply State.orRefuse_kept; all_goals intros) | (apply Eq.trans; apply State.chanChecked_kept; all_goals intros) | (apply Eq.trans; apply State.eachPortal_kept; all_goals intros) | simp))

@[simp ↓] theorem State.dropClaim_kept (s : State) (reason : Nat) : (State.dropClaim s reason).kept = s.kept := by
  unfold State.dropClaim
  first | (simp [*]; done) | ((try dsimp only); repeat' (first | (simp; done) | (simp [*]; done) | intro _ | split | (apply Eq.trans; apply foldState_kept; all_goals intros) | (apply Eq.trans; apply State.withSlot_kept; all_goals intros) | (apply Eq.trans; apply State.orRefuse_kept; all_goals intros) | (apply Eq.trans; apply State.chanChecked_kept; all_goals intros) | (apply Eq.trans; apply State.eachPortal_kept; all_goals intros) | simp))

@[simp ↓] theorem State.takeClaim_kept (s : State) (reason : Nat) : (State.takeClaim s reason).kept = s.kept := by
  unfold State.takeClaim
  rw [State.claimAct_kept, State.allChansSync_kept]
  refine (foldState_kept _ _ _ ?_).trans ?_
  · intro p t
    split <;> simp
  · simp

@[simp ↓] theorem State.auxRead_kept (s : State) (levels : BitVec 32) : (State.auxRead s levels).kept = s.kept := by
  unfold State.auxRead
  first | (simp [*]; done) | ((try dsimp only); repeat' (first | (simp; done) | (simp [*]; done) | intro _ | split | (apply Eq.trans; apply foldState_kept; all_goals intros) | (apply Eq.trans; apply State.withSlot_kept; all_goals intros) | (apply Eq.trans; apply State.orRefuse_kept; all_goals intros) | (apply Eq.trans; apply State.chanChecked_kept; all_goals intros) | (apply Eq.trans; apply State.eachPortal_kept; all_goals intros) | simp))

theorem execClaimFrameEnd_kept (dt : Nat) (st : ClaimStatus) (s : State) : ∃ t, execClaimFrameEnd dt st s = .next t ∧ t.kept = s.kept := by
  unfold execClaimFrameEnd
  (try dsimp only)
  repeat' (first | refine ⟨_, rfl, ?_⟩ | apply next_ite | split)
  all_goals first | (simp [*]; done) | ((try dsimp only); repeat' (first | (simp; done) | (simp [*]; done) | intro _ | split | (apply Eq.trans; apply foldState_kept; all_goals intros) | (apply Eq.trans; apply State.withSlot_kept; all_goals intros) | (apply Eq.trans; apply State.orRefuse_kept; all_goals intros) | (apply Eq.trans; apply State.chanChecked_kept; all_goals intros) | (apply Eq.trans; apply State.eachPortal_kept; all_goals intros) | simp))

@[simp ↓] theorem State.swetricEvent_kept (s : State) (reason : Nat) : (State.swetricEvent s reason).kept = s.kept := by
  unfold State.swetricEvent
  first | (simp [*]; done) | ((try dsimp only); repeat' (first | (simp; done) | (simp [*]; done) | intro _ | split | (apply Eq.trans; apply foldState_kept; all_goals intros) | (apply Eq.trans; apply State.withSlot_kept; all_goals intros) | (apply Eq.trans; apply State.orRefuse_kept; all_goals intros) | (apply Eq.trans; apply State.chanChecked_kept; all_goals intros) | (apply Eq.trans; apply State.eachPortal_kept; all_goals intros) | simp))

theorem execSwetricLinkChange_kept (dt : Nat) (up : Bool) (s : State) : ∃ t, execSwetricLinkChange dt up s = .next t ∧ t.kept = s.kept := by
  unfold execSwetricLinkChange
  (try dsimp only)
  repeat' (first | refine ⟨_, rfl, ?_⟩ | apply next_ite | split)
  all_goals first | (simp [*]; done) | ((try dsimp only); repeat' (first | (simp; done) | (simp [*]; done) | intro _ | split | (apply Eq.trans; apply foldState_kept; all_goals intros) | (apply Eq.trans; apply State.withSlot_kept; all_goals intros) | (apply Eq.trans; apply State.orRefuse_kept; all_goals intros) | (apply Eq.trans; apply State.chanChecked_kept; all_goals intros) | (apply Eq.trans; apply State.eachPortal_kept; all_goals intros) | simp))

theorem execCapSend_kept (dt : Nat) (s : State) : ∃ t, execCapSend dt s = .next t ∧ t.kept = s.kept := by
  unfold execCapSend
  (try dsimp only)
  repeat' (first | refine ⟨_, rfl, ?_⟩ | apply next_ite | split)
  all_goals first | (simp [*]; done) | ((try dsimp only); repeat' (first | (simp; done) | (simp [*]; done) | intro _ | split | (apply Eq.trans; apply foldState_kept; all_goals intros) | (apply Eq.trans; apply State.withSlot_kept; all_goals intros) | (apply Eq.trans; apply State.orRefuse_kept; all_goals intros) | (apply Eq.trans; apply State.chanChecked_kept; all_goals intros) | (apply Eq.trans; apply State.eachPortal_kept; all_goals intros) | simp))

theorem execCapReceived_kept (dt : Nat) (cap : CapFrame) (s : State) : ∃ t, execCapReceived dt cap s = .next t ∧ t.kept = s.kept := by
  unfold execCapReceived
  (try dsimp only)
  repeat' (first | refine ⟨_, rfl, ?_⟩ | apply next_ite | split)
  all_goals first | (simp [*]; done) | ((try dsimp only); repeat' (first | (simp; done) | (simp [*]; done) | intro _ | split | (apply Eq.trans; apply foldState_kept; all_goals intros) | (apply Eq.trans; apply State.withSlot_kept; all_goals intros) | (apply Eq.trans; apply State.orRefuse_kept; all_goals intros) | (apply Eq.trans; apply State.chanChecked_kept; all_goals intros) | (apply Eq.trans; apply State.eachPortal_kept; all_goals intros) | simp))

theorem execHeartbeatSend_kept (dt : Nat) (s : State) : ∃ t, execHeartbeatSend dt s = .next t ∧ t.kept = s.kept := by
  unfold execHeartbeatSend
  (try dsimp only)
  repeat' (first | refine ⟨_, rfl, ?_⟩ | apply next_ite | split)
  all_goals first | (simp [*]; done) | ((try dsimp only); repeat' (first | (simp; done) | (simp [*]; done) | intro _ | split | (apply Eq.trans; apply foldState_kept; all_goals intros) | (apply Eq.trans; apply State.withSlot_kept; all_goals intros) | (apply Eq.trans; apply State.orRefuse_kept; all_goals intros) | (apply Eq.trans; apply State.chanChecked_kept; all_goals intros) | (apply Eq.trans; apply State.eachPortal_kept; all_goals intros) | simp))

@[simp ↓] theorem State.heard_kept (s : State) : (State.heard s).kept = s.kept := by
  unfold State.heard
  first | (simp [*]; done) | ((try dsimp only); repeat' (first | (simp; done) | (simp [*]; done) | intro _ | split | (apply Eq.trans; apply foldState_kept; all_goals intros) | (apply Eq.trans; apply State.withSlot_kept; all_goals intros) | (apply Eq.trans; apply State.orRefuse_kept; all_goals intros) | (apply Eq.trans; apply State.chanChecked_kept; all_goals intros) | (apply Eq.trans; apply State.eachPortal_kept; all_goals intros) | simp))

theorem execHeartbeatReceived_kept (dt : Nat) (hb : HeartbeatFrame) (s : State) : ∃ t, execHeartbeatReceived dt hb s = .next t ∧ t.kept = s.kept := by
  unfold execHeartbeatReceived
  (try dsimp only)
  repeat' (first | refine ⟨_, rfl, ?_⟩ | apply next_ite | split)
  all_goals first | (simp [*]; done) | ((try dsimp only); repeat' (first | (simp; done) | (simp [*]; done) | intro _ | split | (apply Eq.trans; apply foldState_kept; all_goals intros) | (apply Eq.trans; apply State.withSlot_kept; all_goals intros) | (apply Eq.trans; apply State.orRefuse_kept; all_goals intros) | (apply Eq.trans; apply State.chanChecked_kept; all_goals intros) | (apply Eq.trans; apply State.eachPortal_kept; all_goals intros) | simp))

theorem execPartnerLost_kept (dt : Nat) (s : State) : ∃ t, execPartnerLost dt s = .next t ∧ t.kept = s.kept := by
  unfold execPartnerLost
  (try dsimp only)
  repeat' (first | refine ⟨_, rfl, ?_⟩ | apply next_ite | split)
  all_goals first | (simp [*]; done) | ((try dsimp only); repeat' (first | (simp; done) | (simp [*]; done) | intro _ | split | (apply Eq.trans; apply foldState_kept; all_goals intros) | (apply Eq.trans; apply State.withSlot_kept; all_goals intros) | (apply Eq.trans; apply State.orRefuse_kept; all_goals intros) | (apply Eq.trans; apply State.chanChecked_kept; all_goals intros) | (apply Eq.trans; apply State.eachPortal_kept; all_goals intros) | simp))

theorem execSnapshotTake_kept (dt : Nat) (ready : Bool) (s : State) : ∃ t, execSnapshotTake dt ready s = .next t ∧ t.kept = s.kept := by
  unfold execSnapshotTake
  (try dsimp only)
  repeat' (first | refine ⟨_, rfl, ?_⟩ | apply next_ite | split)
  all_goals first | (simp [*]; done) | ((try dsimp only); repeat' (first | (simp; done) | (simp [*]; done) | intro _ | split | (apply Eq.trans; apply foldState_kept; all_goals intros) | (apply Eq.trans; apply State.withSlot_kept; all_goals intros) | (apply Eq.trans; apply State.orRefuse_kept; all_goals intros) | (apply Eq.trans; apply State.chanChecked_kept; all_goals intros) | (apply Eq.trans; apply State.eachPortal_kept; all_goals intros) | simp))

theorem execSnapshotReceived_kept (dt : Nat) (snap : Snapshot) (s : State) : ∃ t, execSnapshotReceived dt snap s = .next t ∧ t.kept = s.kept := by
  unfold execSnapshotReceived
  (try dsimp only)
  repeat' (first | refine ⟨_, rfl, ?_⟩ | apply next_ite | split)
  all_goals first | (simp [*]; done) | ((try dsimp only); repeat' (first | (simp; done) | (simp [*]; done) | intro _ | split | (apply Eq.trans; apply foldState_kept; all_goals intros) | (apply Eq.trans; apply State.withSlot_kept; all_goals intros) | (apply Eq.trans; apply State.orRefuse_kept; all_goals intros) | (apply Eq.trans; apply State.chanChecked_kept; all_goals intros) | (apply Eq.trans; apply State.eachPortal_kept; all_goals intros) | simp))

@[simp ↓] theorem State.claimYield_kept (s : State) (h : Handle) (_ps : List Byte) : (State.claimYield s h _ps).kept = s.kept := by
  unfold State.claimYield
  first | (simp [*]; done) | ((try dsimp only); repeat' (first | (simp; done) | (simp [*]; done) | intro _ | split | (apply Eq.trans; apply foldState_kept; all_goals intros) | (apply Eq.trans; apply State.withSlot_kept; all_goals intros) | (apply Eq.trans; apply State.orRefuse_kept; all_goals intros) | (apply Eq.trans; apply State.chanChecked_kept; all_goals intros) | (apply Eq.trans; apply State.eachPortal_kept; all_goals intros) | simp))

theorem execYieldTimeout_kept (dt : Nat) (s : State) : ∃ t, execYieldTimeout dt s = .next t ∧ t.kept = s.kept := by
  unfold execYieldTimeout
  (try dsimp only)
  repeat' (first | refine ⟨_, rfl, ?_⟩ | apply next_ite | split)
  all_goals first | (simp [*]; done) | ((try dsimp only); repeat' (first | (simp; done) | (simp [*]; done) | intro _ | split | (apply Eq.trans; apply foldState_kept; all_goals intros) | (apply Eq.trans; apply State.withSlot_kept; all_goals intros) | (apply Eq.trans; apply State.orRefuse_kept; all_goals intros) | (apply Eq.trans; apply State.chanChecked_kept; all_goals intros) | (apply Eq.trans; apply State.eachPortal_kept; all_goals intros) | simp))

@[simp ↓] theorem State.commitNow_kept (s : State) (c : Commit) : (State.commitNow s c).kept = s.kept := by
  unfold State.commitNow
  first | (simp [*]; done) | ((try dsimp only); repeat' (first | (simp; done) | (simp [*]; done) | intro _ | split | (apply Eq.trans; apply foldState_kept; all_goals intros) | (apply Eq.trans; apply State.withSlot_kept; all_goals intros) | (apply Eq.trans; apply State.orRefuse_kept; all_goals intros) | (apply Eq.trans; apply State.chanChecked_kept; all_goals intros) | (apply Eq.trans; apply State.eachPortal_kept; all_goals intros) | simp))

theorem execEpochCommitTime_kept (dt : Nat) (s : State) : ∃ t, execEpochCommitTime dt s = .next t ∧ t.kept = s.kept := by
  unfold execEpochCommitTime
  (try dsimp only)
  repeat' (first | refine ⟨_, rfl, ?_⟩ | apply next_ite | split)
  all_goals first | (simp [*]; done) | ((try dsimp only); repeat' (first | (simp; done) | (simp [*]; done) | intro _ | split | (apply Eq.trans; apply foldState_kept; all_goals intros) | (apply Eq.trans; apply State.withSlot_kept; all_goals intros) | (apply Eq.trans; apply State.orRefuse_kept; all_goals intros) | (apply Eq.trans; apply State.chanChecked_kept; all_goals intros) | (apply Eq.trans; apply State.eachPortal_kept; all_goals intros) | simp))

@[simp ↓] theorem State.standbyStep_kept (s : State) (p : PortalId) : (State.standbyStep s p).kept = s.kept := by
  unfold State.standbyStep
  first | (simp [*]; done) | ((try dsimp only); repeat' (first | (simp; done) | (simp [*]; done) | intro _ | split | (apply Eq.trans; apply foldState_kept; all_goals intros) | (apply Eq.trans; apply State.withSlot_kept; all_goals intros) | (apply Eq.trans; apply State.orRefuse_kept; all_goals intros) | (apply Eq.trans; apply State.chanChecked_kept; all_goals intros) | (apply Eq.trans; apply State.eachPortal_kept; all_goals intros) | simp))

theorem execSequencerEvaluation_kept (dt : Nat) (p : PortalId) (s : State) : ∃ t, execSequencerEvaluation dt p s = .next t ∧ t.kept = s.kept := by
  unfold execSequencerEvaluation
  (try dsimp only)
  repeat' (first | refine ⟨_, rfl, ?_⟩ | apply next_ite | split)
  all_goals first | (simp [*]; done) | ((try dsimp only); repeat' (first | (simp; done) | (simp [*]; done) | intro _ | split | (apply Eq.trans; apply foldState_kept; all_goals intros) | (apply Eq.trans; apply State.withSlot_kept; all_goals intros) | (apply Eq.trans; apply State.orRefuse_kept; all_goals intros) | (apply Eq.trans; apply State.chanChecked_kept; all_goals intros) | (apply Eq.trans; apply State.eachPortal_kept; all_goals intros) | simp))

end Sys2Proof.Machine
end

