-- ==== Sys2Proof/Laws/KeptMemory.lean ====
section
/-! SUPPORT. The operations of Machine/Memory.lean keep the kept part. -/

namespace Sys2Proof.Machine



end Sys2Proof.Machine
end

