-- ==== Sys2Proof/Laws/KeptRecorder.lean ====
section
/-! SUPPORT. The operations of Machine/Recorder.lean keep the kept part. -/

namespace Sys2Proof.Machine

@[simp ↓] theorem State.recEvent_kept (s : State) (e : Event) : (State.recEvent s e).kept = s.kept := by
  unfold State.recEvent
  first | (simp [*]; done) | ((try dsimp only); repeat' (first | (simp; done) | (simp [*]; done) | intro _ | split | (apply Eq.trans; apply foldState_kept; all_goals intros) | (apply Eq.trans; apply State.withSlot_kept; all_goals intros) | (apply Eq.trans; apply State.orRefuse_kept; all_goals intros) | (apply Eq.trans; apply State.chanChecked_kept; all_goals intros) | (apply Eq.trans; apply State.eachPortal_kept; all_goals intros) | (apply Eq.trans; apply State.withCan_kept; all_goals intros) | simp))

@[simp ↓] theorem State.putRecord_kept (s : State) (x : Record) : (State.putRecord s x).kept = s.kept := by
  unfold State.putRecord
  first | (simp [*]; done) | ((try dsimp only); repeat' (first | (simp; done) | (simp [*]; done) | intro _ | split | (apply Eq.trans; apply foldState_kept; all_goals intros) | (apply Eq.trans; apply State.withSlot_kept; all_goals intros) | (apply Eq.trans; apply State.orRefuse_kept; all_goals intros) | (apply Eq.trans; apply State.chanChecked_kept; all_goals intros) | (apply Eq.trans; apply State.eachPortal_kept; all_goals intros) | (apply Eq.trans; apply State.withCan_kept; all_goals intros) | simp))

@[simp ↓] theorem State.writeRecord_kept (s : State) (e : RecEntry) : (State.writeRecord s e).kept = s.kept := by
  unfold State.writeRecord
  first | (simp [*]; done) | ((try dsimp only); repeat' (first | (simp; done) | (simp [*]; done) | intro _ | split | (apply Eq.trans; apply foldState_kept; all_goals intros) | (apply Eq.trans; apply State.withSlot_kept; all_goals intros) | (apply Eq.trans; apply State.orRefuse_kept; all_goals intros) | (apply Eq.trans; apply State.chanChecked_kept; all_goals intros) | (apply Eq.trans; apply State.eachPortal_kept; all_goals intros) | (apply Eq.trans; apply State.withCan_kept; all_goals intros) | simp))

theorem execLossSummary_kept (dt : Nat) (s : State) : ∃ t, execLossSummary dt s = .next t ∧ t.kept = s.kept := by
  unfold execLossSummary
  (try dsimp only)
  repeat' (first | refine ⟨_, rfl, ?_⟩ | apply next_ite | split)
  all_goals first | (simp [*]; done) | ((try dsimp only); repeat' (first | (simp; done) | (simp [*]; done) | intro _ | split | (apply Eq.trans; apply foldState_kept; all_goals intros) | (apply Eq.trans; apply State.withSlot_kept; all_goals intros) | (apply Eq.trans; apply State.orRefuse_kept; all_goals intros) | (apply Eq.trans; apply State.chanChecked_kept; all_goals intros) | (apply Eq.trans; apply State.eachPortal_kept; all_goals intros) | (apply Eq.trans; apply State.withCan_kept; all_goals intros) | simp))

theorem execCounterSave_kept (dt : Nat) (s : State) : ∃ t, execCounterSave dt s = .next t ∧ t.kept = s.kept := by
  unfold execCounterSave
  (try dsimp only)
  repeat' (first | refine ⟨_, rfl, ?_⟩ | apply next_ite | split)
  all_goals first | (simp [*]; done) | ((try dsimp only); repeat' (first | (simp; done) | (simp [*]; done) | intro _ | split | (apply Eq.trans; apply foldState_kept; all_goals intros) | (apply Eq.trans; apply State.withSlot_kept; all_goals intros) | (apply Eq.trans; apply State.orRefuse_kept; all_goals intros) | (apply Eq.trans; apply State.chanChecked_kept; all_goals intros) | (apply Eq.trans; apply State.eachPortal_kept; all_goals intros) | (apply Eq.trans; apply State.withCan_kept; all_goals intros) | simp))

theorem execOpSecond_kept (dt : Nat) (s : State) : ∃ t, execOpSecond dt s = .next t ∧ t.kept = s.kept := by
  unfold execOpSecond
  (try dsimp only)
  repeat' (first | refine ⟨_, rfl, ?_⟩ | apply next_ite | split)
  all_goals first | (simp [*]; done) | ((try dsimp only); repeat' (first | (simp; done) | (simp [*]; done) | intro _ | split | (apply Eq.trans; apply foldState_kept; all_goals intros) | (apply Eq.trans; apply State.withSlot_kept; all_goals intros) | (apply Eq.trans; apply State.orRefuse_kept; all_goals intros) | (apply Eq.trans; apply State.chanChecked_kept; all_goals intros) | (apply Eq.trans; apply State.eachPortal_kept; all_goals intros) | (apply Eq.trans; apply State.withCan_kept; all_goals intros) | simp))

@[simp ↓] theorem State.restoreCounters_kept (s : State) (b : CounterBlock) : (State.restoreCounters s b).kept = s.kept := by
  unfold State.restoreCounters
  first | (simp [*]; done) | ((try dsimp only); repeat' (first | (simp; done) | (simp [*]; done) | intro _ | split | (apply Eq.trans; apply foldState_kept; all_goals intros) | (apply Eq.trans; apply State.withSlot_kept; all_goals intros) | (apply Eq.trans; apply State.orRefuse_kept; all_goals intros) | (apply Eq.trans; apply State.chanChecked_kept; all_goals intros) | (apply Eq.trans; apply State.eachPortal_kept; all_goals intros) | (apply Eq.trans; apply State.withCan_kept; all_goals intros) | simp))

theorem execRecorderScanDone_kept (dt : Nat) (torn badBlocks : List Nat) (s : State) : ∃ t, execRecorderScanDone dt torn badBlocks s = .next t ∧ t.kept = s.kept := by
  unfold execRecorderScanDone
  (try dsimp only)
  repeat' (first | refine ⟨_, rfl, ?_⟩ | apply next_ite | split)
  all_goals first | (simp [*]; done) | ((try dsimp only); repeat' (first | (simp; done) | (simp [*]; done) | intro _ | split | (apply Eq.trans; apply foldState_kept; all_goals intros) | (apply Eq.trans; apply State.withSlot_kept; all_goals intros) | (apply Eq.trans; apply State.orRefuse_kept; all_goals intros) | (apply Eq.trans; apply State.chanChecked_kept; all_goals intros) | (apply Eq.trans; apply State.eachPortal_kept; all_goals intros) | (apply Eq.trans; apply State.withCan_kept; all_goals intros) | simp))

@[simp ↓] theorem State.inert_kept (s : State) : (State.inert s).kept = s.kept := by
  unfold State.inert
  first | (simp [*]; done) | ((try dsimp only); repeat' (first | (simp; done) | (simp [*]; done) | intro _ | split | (apply Eq.trans; apply foldState_kept; all_goals intros) | (apply Eq.trans; apply State.withSlot_kept; all_goals intros) | (apply Eq.trans; apply State.orRefuse_kept; all_goals intros) | (apply Eq.trans; apply State.chanChecked_kept; all_goals intros) | (apply Eq.trans; apply State.eachPortal_kept; all_goals intros) | (apply Eq.trans; apply State.withCan_kept; all_goals intros) | simp))

theorem execPowerFailFlush_kept (dt : Nat) (s : State) : ∃ t, execPowerFailFlush dt s = .next t ∧ t.kept = s.kept := by
  unfold execPowerFailFlush
  (try dsimp only)
  repeat' (first | refine ⟨_, rfl, ?_⟩ | apply next_ite | split)
  all_goals first | (simp [*]; done) | ((try dsimp only); repeat' (first | (simp; done) | (simp [*]; done) | intro _ | split | (apply Eq.trans; apply foldState_kept; all_goals intros) | (apply Eq.trans; apply State.withSlot_kept; all_goals intros) | (apply Eq.trans; apply State.orRefuse_kept; all_goals intros) | (apply Eq.trans; apply State.chanChecked_kept; all_goals intros) | (apply Eq.trans; apply State.eachPortal_kept; all_goals intros) | (apply Eq.trans; apply State.withCan_kept; all_goals intros) | simp))

@[simp ↓] theorem State.recServes_kept (s : State) (h : Handle) (f : State) (hf : f.kept = s.kept) : (State.recServes s h f).kept = s.kept := by
  unfold State.recServes
  first | (simp [*]; done) | ((try dsimp only); repeat' (first | (simp; done) | (simp [*]; done) | intro _ | split | (apply Eq.trans; apply foldState_kept; all_goals intros) | (apply Eq.trans; apply State.withSlot_kept; all_goals intros) | (apply Eq.trans; apply State.orRefuse_kept; all_goals intros) | (apply Eq.trans; apply State.chanChecked_kept; all_goals intros) | (apply Eq.trans; apply State.eachPortal_kept; all_goals intros) | (apply Eq.trans; apply State.withCan_kept; all_goals intros) | simp))

@[simp ↓] theorem State.recInfo_kept (s : State) (h : Handle) (_ps : List Byte) : (State.recInfo s h _ps).kept = s.kept := by
  unfold State.recInfo
  first | (simp [*]; done) | ((try dsimp only); repeat' (first | (simp; done) | (simp [*]; done) | intro _ | split | (apply Eq.trans; apply foldState_kept; all_goals intros) | (apply Eq.trans; apply State.withSlot_kept; all_goals intros) | (apply Eq.trans; apply State.orRefuse_kept; all_goals intros) | (apply Eq.trans; apply State.chanChecked_kept; all_goals intros) | (apply Eq.trans; apply State.eachPortal_kept; all_goals intros) | (apply Eq.trans; apply State.withCan_kept; all_goals intros) | (apply Eq.trans; apply State.recServes_kept; all_goals intros) | simp))

@[simp ↓] theorem State.recRead_kept (s : State) (h : Handle) (ps : List Byte) : (State.recRead s h ps).kept = s.kept := by
  unfold State.recRead
  first | (simp [*]; done) | ((try dsimp only); repeat' (first | (simp; done) | (simp [*]; done) | intro _ | split | (apply Eq.trans; apply foldState_kept; all_goals intros) | (apply Eq.trans; apply State.withSlot_kept; all_goals intros) | (apply Eq.trans; apply State.orRefuse_kept; all_goals intros) | (apply Eq.trans; apply State.chanChecked_kept; all_goals intros) | (apply Eq.trans; apply State.eachPortal_kept; all_goals intros) | (apply Eq.trans; apply State.withCan_kept; all_goals intros) | (apply Eq.trans; apply State.recServes_kept; all_goals intros) | simp))

@[simp ↓] theorem State.recClear_kept (s : State) (h : Handle) (ps : List Byte) : (State.recClear s h ps).kept = s.kept := by
  unfold State.recClear
  first | (simp [*]; done) | ((try dsimp only); repeat' (first | (simp; done) | (simp [*]; done) | intro _ | split | (apply Eq.trans; apply foldState_kept; all_goals intros) | (apply Eq.trans; apply State.withSlot_kept; all_goals intros) | (apply Eq.trans; apply State.orRefuse_kept; all_goals intros) | (apply Eq.trans; apply State.chanChecked_kept; all_goals intros) | (apply Eq.trans; apply State.eachPortal_kept; all_goals intros) | (apply Eq.trans; apply State.withCan_kept; all_goals intros) | (apply Eq.trans; apply State.recServes_kept; all_goals intros) | simp))

end Sys2Proof.Machine
end

