-- ==== Sys2Proof/Laws/KeptPower.lean ====
section
/-! SUPPORT. The operations of Machine/Power.lean keep the kept part. -/

namespace Sys2Proof.Machine

@[simp] theorem Power.setRecord_banks (x : Power) (f : BootRecord → BootRecord) : (x.setRecord f).banks = x.banks := by
  unfold Power.setRecord
  split <;> rfl

theorem Power.choose_banks (x y : Power) (k : Fin 2) (ev : List (Nat × Fin 2)) (h : x.choose = some (k, y, ev)) : y.banks = x.banks := by
  unfold Power.choose at h
  split at h
  · cases h
  · dsimp only at h
    repeat' split at h
    all_goals first
      | (simp only [Option.some.injEq, Prod.mk.injEq] at h; obtain ⟨-, rfl, -⟩ := h; simp)
      | cases h

@[simp ↓] theorem State.fwEvent_kept (s : State) (reason : Nat) (k : Fin 2) : (State.fwEvent s reason k).kept = s.kept := by
  unfold State.fwEvent
  first | (simp [*]; done) | ((try dsimp only); repeat' (first | (simp; done) | (simp [*]; done) | intro _ | split | (apply Eq.trans; apply foldState_kept; all_goals intros) | (apply Eq.trans; apply State.withSlot_kept; all_goals intros) | (apply Eq.trans; apply State.orRefuse_kept; all_goals intros) | (apply Eq.trans; apply State.chanChecked_kept; all_goals intros) | (apply Eq.trans; apply State.eachPortal_kept; all_goals intros) | (apply Eq.trans; apply State.withCan_kept; all_goals intros) | (apply Eq.trans; apply State.recServes_kept; all_goals intros) | simp))

@[simp ↓] theorem State.initRun_kept (s : State) (i : InitInputs) (retries step : Nat) : (State.initRun s i retries step).kept = s.kept := by
  unfold State.initRun
  dsimp only
  split
  · simp
  · split
    · simp
    · split
      · simp
      · rename_i k x evs h
        have hb := Power.choose_banks _ _ _ _ h
        refine (foldState_kept _ _ _ (by intros; simp)).trans ?_
        rw [State.kept_ite, State.raise_kept, ite_self]
        refine (foldState_kept _ _ _ (by intros; simp)).trans ?_
        simp [hb]

theorem execInitComplete_kept (dt : Nat) (i : InitInputs) (s : State) : ∃ t, execInitComplete dt i s = .next t ∧ t.kept = s.kept := by
  unfold execInitComplete
  (try dsimp only)
  repeat' (first | refine ⟨_, rfl, ?_⟩ | apply next_ite | split)
  all_goals first | (simp [*]; done) | ((try dsimp only); repeat' (first | (simp; done) | (simp [*]; done) | intro _ | split | (apply Eq.trans; apply foldState_kept; all_goals intros) | (apply Eq.trans; apply State.withSlot_kept; all_goals intros) | (apply Eq.trans; apply State.orRefuse_kept; all_goals intros) | (apply Eq.trans; apply State.chanChecked_kept; all_goals intros) | (apply Eq.trans; apply State.eachPortal_kept; all_goals intros) | (apply Eq.trans; apply State.withCan_kept; all_goals intros) | (apply Eq.trans; apply State.recServes_kept; all_goals intros) | simp))

theorem execInitRetry_kept (dt : Nat) (i : InitInputs) (s : State) : ∃ t, execInitRetry dt i s = .next t ∧ t.kept = s.kept := by
  unfold execInitRetry
  (try dsimp only)
  repeat' (first | refine ⟨_, rfl, ?_⟩ | apply next_ite | split)
  all_goals first | (simp [*]; done) | ((try dsimp only); repeat' (first | (simp; done) | (simp [*]; done) | intro _ | split | (apply Eq.trans; apply foldState_kept; all_goals intros) | (apply Eq.trans; apply State.withSlot_kept; all_goals intros) | (apply Eq.trans; apply State.orRefuse_kept; all_goals intros) | (apply Eq.trans; apply State.chanChecked_kept; all_goals intros) | (apply Eq.trans; apply State.eachPortal_kept; all_goals intros) | (apply Eq.trans; apply State.withCan_kept; all_goals intros) | (apply Eq.trans; apply State.recServes_kept; all_goals intros) | simp))

theorem execTestComplete_kept (dt : Nat) (fails : BitVec 16) (s : State) : ∃ t, execTestComplete dt fails s = .next t ∧ t.kept = s.kept := by
  unfold execTestComplete
  (try dsimp only)
  repeat' (first | refine ⟨_, rfl, ?_⟩ | apply next_ite | split)
  all_goals first | (simp [*]; done) | ((try dsimp only); repeat' (first | (simp; done) | (simp [*]; done) | intro _ | split | (apply Eq.trans; apply foldState_kept; all_goals intros) | (apply Eq.trans; apply State.withSlot_kept; all_goals intros) | (apply Eq.trans; apply State.orRefuse_kept; all_goals intros) | (apply Eq.trans; apply State.chanChecked_kept; all_goals intros) | (apply Eq.trans; apply State.eachPortal_kept; all_goals intros) | (apply Eq.trans; apply State.withCan_kept; all_goals intros) | (apply Eq.trans; apply State.recServes_kept; all_goals intros) | simp))

theorem execPfail_kept (dt : Nat) (s : State) : ∃ t, execPfail dt s = .next t ∧ t.kept = s.kept := by
  unfold execPfail
  (try dsimp only)
  repeat' (first | refine ⟨_, rfl, ?_⟩ | apply next_ite | split)
  all_goals first | (simp [*]; done) | ((try dsimp only); repeat' (first | (simp; done) | (simp [*]; done) | intro _ | split | (apply Eq.trans; apply foldState_kept; all_goals intros) | (apply Eq.trans; apply State.withSlot_kept; all_goals intros) | (apply Eq.trans; apply State.orRefuse_kept; all_goals intros) | (apply Eq.trans; apply State.chanChecked_kept; all_goals intros) | (apply Eq.trans; apply State.eachPortal_kept; all_goals intros) | (apply Eq.trans; apply State.withCan_kept; all_goals intros) | (apply Eq.trans; apply State.recServes_kept; all_goals intros) | simp))

@[simp ↓] theorem State.fwServes_kept (s : State) (h : Handle) (ok : Bool) (f : State) (hf : f.kept = s.kept) : (State.fwServes s h ok f).kept = s.kept := by
  unfold State.fwServes
  first | (simp [*]; done) | ((try dsimp only); repeat' (first | (simp; done) | (simp [*]; done) | intro _ | split | (apply Eq.trans; apply foldState_kept; all_goals intros) | (apply Eq.trans; apply State.withSlot_kept; all_goals intros) | (apply Eq.trans; apply State.orRefuse_kept; all_goals intros) | (apply Eq.trans; apply State.chanChecked_kept; all_goals intros) | (apply Eq.trans; apply State.eachPortal_kept; all_goals intros) | (apply Eq.trans; apply State.withCan_kept; all_goals intros) | (apply Eq.trans; apply State.recServes_kept; all_goals intros) | simp))

@[simp ↓] theorem State.fwStatus_kept (s : State) (h : Handle) (_ps : List Byte) : (State.fwStatus s h _ps).kept = s.kept := by
  unfold State.fwStatus
  first | (simp [*]; done) | ((try dsimp only); repeat' (first | (simp; done) | (simp [*]; done) | intro _ | split | (apply Eq.trans; apply foldState_kept; all_goals intros) | (apply Eq.trans; apply State.withSlot_kept; all_goals intros) | (apply Eq.trans; apply State.orRefuse_kept; all_goals intros) | (apply Eq.trans; apply State.chanChecked_kept; all_goals intros) | (apply Eq.trans; apply State.eachPortal_kept; all_goals intros) | (apply Eq.trans; apply State.withCan_kept; all_goals intros) | (apply Eq.trans; apply State.recServes_kept; all_goals intros) | (apply Eq.trans; apply State.fwServes_kept; all_goals intros) | simp))

@[simp ↓] theorem State.fwVerify_kept (s : State) (h : Handle) (_ps : List Byte) : (State.fwVerify s h _ps).kept = s.kept := by
  unfold State.fwVerify
  first | (simp [*]; done) | ((try dsimp only); repeat' (first | (simp; done) | (simp [*]; done) | intro _ | split | (apply Eq.trans; apply foldState_kept; all_goals intros) | (apply Eq.trans; apply State.withSlot_kept; all_goals intros) | (apply Eq.trans; apply State.orRefuse_kept; all_goals intros) | (apply Eq.trans; apply State.chanChecked_kept; all_goals intros) | (apply Eq.trans; apply State.eachPortal_kept; all_goals intros) | (apply Eq.trans; apply State.withCan_kept; all_goals intros) | (apply Eq.trans; apply State.recServes_kept; all_goals intros) | (apply Eq.trans; apply State.fwServes_kept; all_goals intros) | simp))

theorem execFwVerifyDone_kept (dt : Nat) (s : State) : ∃ t, execFwVerifyDone dt s = .next t ∧ t.kept = s.kept := by
  unfold execFwVerifyDone
  (try dsimp only)
  repeat' (first | refine ⟨_, rfl, ?_⟩ | apply next_ite | split)
  all_goals first | (simp [*]; done) | ((try dsimp only); repeat' (first | (simp; done) | (simp [*]; done) | intro _ | split | (apply Eq.trans; apply foldState_kept; all_goals intros) | (apply Eq.trans; apply State.withSlot_kept; all_goals intros) | (apply Eq.trans; apply State.orRefuse_kept; all_goals intros) | (apply Eq.trans; apply State.chanChecked_kept; all_goals intros) | (apply Eq.trans; apply State.eachPortal_kept; all_goals intros) | (apply Eq.trans; apply State.withCan_kept; all_goals intros) | (apply Eq.trans; apply State.recServes_kept; all_goals intros) | (apply Eq.trans; apply State.fwServes_kept; all_goals intros) | simp))

@[simp ↓] theorem State.fwActivate_kept (s : State) (h : Handle) (_ps : List Byte) : (State.fwActivate s h _ps).kept = s.kept := by
  unfold State.fwActivate
  first | (simp [*]; done) | ((try dsimp only); repeat' (first | (simp; done) | (simp [*]; done) | intro _ | split | (apply Eq.trans; apply foldState_kept; all_goals intros) | (apply Eq.trans; apply State.withSlot_kept; all_goals intros) | (apply Eq.trans; apply State.orRefuse_kept; all_goals intros) | (apply Eq.trans; apply State.chanChecked_kept; all_goals intros) | (apply Eq.trans; apply State.eachPortal_kept; all_goals intros) | (apply Eq.trans; apply State.withCan_kept; all_goals intros) | (apply Eq.trans; apply State.recServes_kept; all_goals intros) | (apply Eq.trans; apply State.fwServes_kept; all_goals intros) | simp))

@[simp ↓] theorem State.fwConfirm_kept (s : State) (h : Handle) (_ps : List Byte) : (State.fwConfirm s h _ps).kept = s.kept := by
  unfold State.fwConfirm
  first | (simp [*]; done) | ((try dsimp only); repeat' (first | (simp; done) | (simp [*]; done) | intro _ | split | (apply Eq.trans; apply foldState_kept; all_goals intros) | (apply Eq.trans; apply State.withSlot_kept; all_goals intros) | (apply Eq.trans; apply State.orRefuse_kept; all_goals intros) | (apply Eq.trans; apply State.chanChecked_kept; all_goals intros) | (apply Eq.trans; apply State.eachPortal_kept; all_goals intros) | (apply Eq.trans; apply State.withCan_kept; all_goals intros) | (apply Eq.trans; apply State.recServes_kept; all_goals intros) | (apply Eq.trans; apply State.fwServes_kept; all_goals intros) | simp))

@[simp ↓] theorem State.fwRevert_kept (s : State) (h : Handle) (_ps : List Byte) : (State.fwRevert s h _ps).kept = s.kept := by
  unfold State.fwRevert
  first | (simp [*]; done) | ((try dsimp only); repeat' (first | (simp; done) | (simp [*]; done) | intro _ | split | (apply Eq.trans; apply foldState_kept; all_goals intros) | (apply Eq.trans; apply State.withSlot_kept; all_goals intros) | (apply Eq.trans; apply State.orRefuse_kept; all_goals intros) | (apply Eq.trans; apply State.chanChecked_kept; all_goals intros) | (apply Eq.trans; apply State.eachPortal_kept; all_goals intros) | (apply Eq.trans; apply State.withCan_kept; all_goals intros) | (apply Eq.trans; apply State.recServes_kept; all_goals intros) | (apply Eq.trans; apply State.fwServes_kept; all_goals intros) | simp))

theorem execDieTemperature_kept (dt : Nat) (d : DieId) (temp : Int) (s : State) : ∃ t, execDieTemperature dt d temp s = .next t ∧ t.kept = s.kept := by
  unfold execDieTemperature
  (try dsimp only)
  repeat' (first | refine ⟨_, rfl, ?_⟩ | apply next_ite | split)
  all_goals first | (simp [*]; done) | ((try dsimp only); repeat' (first | (simp; done) | (simp [*]; done) | intro _ | split | (apply Eq.trans; apply foldState_kept; all_goals intros) | (apply Eq.trans; apply State.withSlot_kept; all_goals intros) | (apply Eq.trans; apply State.orRefuse_kept; all_goals intros) | (apply Eq.trans; apply State.chanChecked_kept; all_goals intros) | (apply Eq.trans; apply State.eachPortal_kept; all_goals intros) | (apply Eq.trans; apply State.withCan_kept; all_goals intros) | (apply Eq.trans; apply State.recServes_kept; all_goals intros) | (apply Eq.trans; apply State.fwServes_kept; all_goals intros) | simp))

end Sys2Proof.Machine
end

