-- ==== Sys2Proof/Laws/KeptParamCmds.lean ====
section
/-! SUPPORT. The operations of Machine/ParamCmds.lean keep the kept part. -/

namespace Sys2Proof.Machine

@[simp ↓] theorem State.put_kept (s : State) (q : ParamPut) : (State.put s q).kept = s.kept := by
  unfold State.put
  first | (simp [*]; done) | ((try dsimp only); repeat' (first | (simp; done) | (simp [*]; done) | intro _ | split | (apply Eq.trans; apply foldState_kept; all_goals intros) | (apply Eq.trans; apply State.withSlot_kept; all_goals intros) | (apply Eq.trans; apply State.orRefuse_kept; all_goals intros) | (apply Eq.trans; apply State.chanChecked_kept; all_goals intros) | (apply Eq.trans; apply State.eachPortal_kept; all_goals intros) | (apply Eq.trans; apply State.withCan_kept; all_goals intros) | (apply Eq.trans; apply State.recServes_kept; all_goals intros) | (apply Eq.trans; apply State.fwServes_kept; all_goals intros) | simp))

@[simp ↓] theorem State.letGo_kept (s : State) (q : ParamPut) : (State.letGo s q).kept = s.kept := by
  unfold State.letGo
  first | (simp [*]; done) | ((try dsimp only); repeat' (first | (simp; done) | (simp [*]; done) | intro _ | split | (apply Eq.trans; apply foldState_kept; all_goals intros) | (apply Eq.trans; apply State.withSlot_kept; all_goals intros) | (apply Eq.trans; apply State.orRefuse_kept; all_goals intros) | (apply Eq.trans; apply State.chanChecked_kept; all_goals intros) | (apply Eq.trans; apply State.eachPortal_kept; all_goals intros) | (apply Eq.trans; apply State.withCan_kept; all_goals intros) | (apply Eq.trans; apply State.recServes_kept; all_goals intros) | (apply Eq.trans; apply State.fwServes_kept; all_goals intros) | simp))

@[simp ↓] theorem State.clearPending_kept (s : State) (hi : Bool) (v : Nat) : (State.clearPending s hi v).kept = s.kept := by
  unfold State.clearPending
  first | (simp [*]; done) | ((try dsimp only); repeat' (first | (simp; done) | (simp [*]; done) | intro _ | split | (apply Eq.trans; apply foldState_kept; all_goals intros) | (apply Eq.trans; apply State.withSlot_kept; all_goals intros) | (apply Eq.trans; apply State.orRefuse_kept; all_goals intros) | (apply Eq.trans; apply State.chanChecked_kept; all_goals intros) | (apply Eq.trans; apply State.eachPortal_kept; all_goals intros) | (apply Eq.trans; apply State.withCan_kept; all_goals intros) | (apply Eq.trans; apply State.recServes_kept; all_goals intros) | (apply Eq.trans; apply State.fwServes_kept; all_goals intros) | simp))

@[simp ↓] theorem State.clearSat_kept (s : State) (d : PdId) (n : SlotId) (v : Nat) : (State.clearSat s d n v).kept = s.kept := by
  unfold State.clearSat
  first | (simp [*]; done) | ((try dsimp only); repeat' (first | (simp; done) | (simp [*]; done) | intro _ | split | (apply Eq.trans; apply foldState_kept; all_goals intros) | (apply Eq.trans; apply State.withSlot_kept; all_goals intros) | (apply Eq.trans; apply State.orRefuse_kept; all_goals intros) | (apply Eq.trans; apply State.chanChecked_kept; all_goals intros) | (apply Eq.trans; apply State.eachPortal_kept; all_goals intros) | (apply Eq.trans; apply State.withCan_kept; all_goals intros) | (apply Eq.trans; apply State.recServes_kept; all_goals intros) | (apply Eq.trans; apply State.fwServes_kept; all_goals intros) | simp))

@[simp ↓] theorem State.clearObst_kept (s : State) (p : PortalId) (l : LeafId) (v : Nat) : (State.clearObst s p l v).kept = s.kept := by
  unfold State.clearObst
  first | (simp [*]; done) | ((try dsimp only); repeat' (first | (simp; done) | (simp [*]; done) | intro _ | split | (apply Eq.trans; apply foldState_kept; all_goals intros) | (apply Eq.trans; apply State.withSlot_kept; all_goals intros) | (apply Eq.trans; apply State.orRefuse_kept; all_goals intros) | (apply Eq.trans; apply State.chanChecked_kept; all_goals intros) | (apply Eq.trans; apply State.eachPortal_kept; all_goals intros) | (apply Eq.trans; apply State.withCan_kept; all_goals intros) | (apply Eq.trans; apply State.recServes_kept; all_goals intros) | (apply Eq.trans; apply State.fwServes_kept; all_goals intros) | simp))

@[simp ↓] theorem State.clearShutdown_kept (s : State) (p : PortalId) (c : ChanId) (v : Nat) : (State.clearShutdown s p c v).kept = s.kept := by
  unfold State.clearShutdown
  first | (simp [*]; done) | ((try dsimp only); repeat' (first | (simp; done) | (simp [*]; done) | intro _ | split | (apply Eq.trans; apply foldState_kept; all_goals intros) | (apply Eq.trans; apply State.withSlot_kept; all_goals intros) | (apply Eq.trans; apply State.orRefuse_kept; all_goals intros) | (apply Eq.trans; apply State.chanChecked_kept; all_goals intros) | (apply Eq.trans; apply State.eachPortal_kept; all_goals intros) | (apply Eq.trans; apply State.withCan_kept; all_goals intros) | (apply Eq.trans; apply State.recServes_kept; all_goals intros) | (apply Eq.trans; apply State.fwServes_kept; all_goals intros) | simp))

@[simp ↓] theorem State.clearCanFlags_kept (s : State) (n : CanId) (v : Nat) : (State.clearCanFlags s n v).kept = s.kept := by
  unfold State.clearCanFlags
  first | (simp [*]; done) | ((try dsimp only); repeat' (first | (simp; done) | (simp [*]; done) | intro _ | split | (apply Eq.trans; apply foldState_kept; all_goals intros) | (apply Eq.trans; apply State.withSlot_kept; all_goals intros) | (apply Eq.trans; apply State.orRefuse_kept; all_goals intros) | (apply Eq.trans; apply State.chanChecked_kept; all_goals intros) | (apply Eq.trans; apply State.eachPortal_kept; all_goals intros) | (apply Eq.trans; apply State.withCan_kept; all_goals intros) | (apply Eq.trans; apply State.recServes_kept; all_goals intros) | (apply Eq.trans; apply State.fwServes_kept; all_goals intros) | simp))

@[simp ↓] theorem State.fbArmed_kept (s : State) (p : PortalId) (f : FbId) : (State.fbArmed s p f).kept = s.kept := by
  unfold State.fbArmed
  first | (simp [*]; done) | ((try dsimp only); repeat' (first | (simp; done) | (simp [*]; done) | intro _ | split | (apply Eq.trans; apply foldState_kept; all_goals intros) | (apply Eq.trans; apply State.withSlot_kept; all_goals intros) | (apply Eq.trans; apply State.orRefuse_kept; all_goals intros) | (apply Eq.trans; apply State.chanChecked_kept; all_goals intros) | (apply Eq.trans; apply State.eachPortal_kept; all_goals intros) | (apply Eq.trans; apply State.withCan_kept; all_goals intros) | (apply Eq.trans; apply State.recServes_kept; all_goals intros) | (apply Eq.trans; apply State.fwServes_kept; all_goals intros) | simp))

@[simp ↓] theorem State.fbCleared_kept (s : State) (p : PortalId) (f : FbId) : (State.fbCleared s p f).kept = s.kept := by
  unfold State.fbCleared
  first | (simp [*]; done) | ((try dsimp only); repeat' (first | (simp; done) | (simp [*]; done) | intro _ | split | (apply Eq.trans; apply foldState_kept; all_goals intros) | (apply Eq.trans; apply State.withSlot_kept; all_goals intros) | (apply Eq.trans; apply State.orRefuse_kept; all_goals intros) | (apply Eq.trans; apply State.chanChecked_kept; all_goals intros) | (apply Eq.trans; apply State.eachPortal_kept; all_goals intros) | (apply Eq.trans; apply State.withCan_kept; all_goals intros) | (apply Eq.trans; apply State.recServes_kept; all_goals intros) | (apply Eq.trans; apply State.fwServes_kept; all_goals intros) | simp))

@[simp ↓] theorem State.acted_kept (s : State) (q : ParamPut) : (State.acted s q).kept = s.kept := by
  unfold State.acted
  first | (simp [*]; done) | ((try dsimp only); repeat' (first | (simp; done) | (simp [*]; done) | intro _ | split | (apply Eq.trans; apply foldState_kept; all_goals intros) | (apply Eq.trans; apply State.withSlot_kept; all_goals intros) | (apply Eq.trans; apply State.orRefuse_kept; all_goals intros) | (apply Eq.trans; apply State.chanChecked_kept; all_goals intros) | (apply Eq.trans; apply State.eachPortal_kept; all_goals intros) | (apply Eq.trans; apply State.withCan_kept; all_goals intros) | (apply Eq.trans; apply State.recServes_kept; all_goals intros) | (apply Eq.trans; apply State.fwServes_kept; all_goals intros) | simp))

@[simp ↓] theorem State.writeAll_kept (s : State) (l : List ParamPut) : (State.writeAll s l).kept = s.kept := by
  unfold State.writeAll
  first | (simp [*]; done) | ((try dsimp only); repeat' (first | (simp; done) | (simp [*]; done) | intro _ | split | (apply Eq.trans; apply foldState_kept; all_goals intros) | (apply Eq.trans; apply State.withSlot_kept; all_goals intros) | (apply Eq.trans; apply State.orRefuse_kept; all_goals intros) | (apply Eq.trans; apply State.chanChecked_kept; all_goals intros) | (apply Eq.trans; apply State.eachPortal_kept; all_goals intros) | (apply Eq.trans; apply State.withCan_kept; all_goals intros) | (apply Eq.trans; apply State.recServes_kept; all_goals intros) | (apply Eq.trans; apply State.fwServes_kept; all_goals intros) | simp))

@[simp ↓] theorem State.writeRecs_kept (s : State) (members : Option (List PortalId)) (h : Handle) (rs : List ParamRec) (done : List Byte) :
    (State.writeRecs s members h rs done).kept = s.kept := by
  unfold State.writeRecs
  first | (simp [*]; done) | ((try dsimp only); repeat' (first | (simp; done) | (simp [*]; done) | intro _ | split | (apply Eq.trans; apply foldState_kept; all_goals intros) | (apply Eq.trans; apply State.withSlot_kept; all_goals intros) | (apply Eq.trans; apply State.orRefuse_kept; all_goals intros) | (apply Eq.trans; apply State.chanChecked_kept; all_goals intros) | (apply Eq.trans; apply State.eachPortal_kept; all_goals intros) | (apply Eq.trans; apply State.withCan_kept; all_goals intros) | (apply Eq.trans; apply State.recServes_kept; all_goals intros) | (apply Eq.trans; apply State.fwServes_kept; all_goals intros) | simp))

@[simp ↓] theorem State.paramRead_kept (s : State) (h : Handle) (ps : List Byte) : (State.paramRead s h ps).kept = s.kept := by
  unfold State.paramRead
  first | (simp [*]; done) | ((try dsimp only); repeat' (first | (simp; done) | (simp [*]; done) | intro _ | split | (apply Eq.trans; apply foldState_kept; all_goals intros) | (apply Eq.trans; apply State.withSlot_kept; all_goals intros) | (apply Eq.trans; apply State.orRefuse_kept; all_goals intros) | (apply Eq.trans; apply State.chanChecked_kept; all_goals intros) | (apply Eq.trans; apply State.eachPortal_kept; all_goals intros) | (apply Eq.trans; apply State.withCan_kept; all_goals intros) | (apply Eq.trans; apply State.recServes_kept; all_goals intros) | (apply Eq.trans; apply State.fwServes_kept; all_goals intros) | simp))

@[simp ↓] theorem State.paramWriteTo_kept (s : State) (members : Option (List PortalId)) (h : Handle) (ps : List Byte) : (State.paramWriteTo s members h ps).kept = s.kept := by
  unfold State.paramWriteTo
  first | (simp [*]; done) | ((try dsimp only); repeat' (first | (simp; done) | (simp [*]; done) | intro _ | split | (apply Eq.trans; apply foldState_kept; all_goals intros) | (apply Eq.trans; apply State.withSlot_kept; all_goals intros) | (apply Eq.trans; apply State.orRefuse_kept; all_goals intros) | (apply Eq.trans; apply State.chanChecked_kept; all_goals intros) | (apply Eq.trans; apply State.eachPortal_kept; all_goals intros) | (apply Eq.trans; apply State.withCan_kept; all_goals intros) | (apply Eq.trans; apply State.recServes_kept; all_goals intros) | (apply Eq.trans; apply State.fwServes_kept; all_goals intros) | simp))

@[simp ↓] theorem State.paramWrite_kept (s : State) (h : Handle) (ps : List Byte) : (State.paramWrite s h ps).kept = s.kept := by
  unfold State.paramWrite
  first | (simp [*]; done) | ((try dsimp only); repeat' (first | (simp; done) | (simp [*]; done) | intro _ | split | (apply Eq.trans; apply foldState_kept; all_goals intros) | (apply Eq.trans; apply State.withSlot_kept; all_goals intros) | (apply Eq.trans; apply State.orRefuse_kept; all_goals intros) | (apply Eq.trans; apply State.chanChecked_kept; all_goals intros) | (apply Eq.trans; apply State.eachPortal_kept; all_goals intros) | (apply Eq.trans; apply State.withCan_kept; all_goals intros) | (apply Eq.trans; apply State.recServes_kept; all_goals intros) | (apply Eq.trans; apply State.fwServes_kept; all_goals intros) | simp))

@[simp ↓] theorem State.paramReadRange_kept (s : State) (h : Handle) (ps : List Byte) : (State.paramReadRange s h ps).kept = s.kept := by
  unfold State.paramReadRange
  first | (simp [*]; done) | ((try dsimp only); repeat' (first | (simp; done) | (simp [*]; done) | intro _ | split | (apply Eq.trans; apply foldState_kept; all_goals intros) | (apply Eq.trans; apply State.withSlot_kept; all_goals intros) | (apply Eq.trans; apply State.orRefuse_kept; all_goals intros) | (apply Eq.trans; apply State.chanChecked_kept; all_goals intros) | (apply Eq.trans; apply State.eachPortal_kept; all_goals intros) | (apply Eq.trans; apply State.withCan_kept; all_goals intros) | (apply Eq.trans; apply State.recServes_kept; all_goals intros) | (apply Eq.trans; apply State.fwServes_kept; all_goals intros) | simp))

@[simp ↓] theorem State.paramWriteSetTo_kept (s : State) (members : Option (List PortalId)) (h : Handle) (ps : List Byte) : (State.paramWriteSetTo s members h ps).kept = s.kept := by
  unfold State.paramWriteSetTo
  first | (simp [*]; done) | ((try dsimp only); repeat' (first | (simp; done) | (simp [*]; done) | intro _ | split | (apply Eq.trans; apply foldState_kept; all_goals intros) | (apply Eq.trans; apply State.withSlot_kept; all_goals intros) | (apply Eq.trans; apply State.orRefuse_kept; all_goals intros) | (apply Eq.trans; apply State.chanChecked_kept; all_goals intros) | (apply Eq.trans; apply State.eachPortal_kept; all_goals intros) | (apply Eq.trans; apply State.withCan_kept; all_goals intros) | (apply Eq.trans; apply State.recServes_kept; all_goals intros) | (apply Eq.trans; apply State.fwServes_kept; all_goals intros) | simp))

@[simp ↓] theorem State.paramWriteSet_kept (s : State) (h : Handle) (ps : List Byte) : (State.paramWriteSet s h ps).kept = s.kept := by
  unfold State.paramWriteSet
  first | (simp [*]; done) | ((try dsimp only); repeat' (first | (simp; done) | (simp [*]; done) | intro _ | split | (apply Eq.trans; apply foldState_kept; all_goals intros) | (apply Eq.trans; apply State.withSlot_kept; all_goals intros) | (apply Eq.trans; apply State.orRefuse_kept; all_goals intros) | (apply Eq.trans; apply State.chanChecked_kept; all_goals intros) | (apply Eq.trans; apply State.eachPortal_kept; all_goals intros) | (apply Eq.trans; apply State.withCan_kept; all_goals intros) | (apply Eq.trans; apply State.recServes_kept; all_goals intros) | (apply Eq.trans; apply State.fwServes_kept; all_goals intros) | simp))

end Sys2Proof.Machine
end

