-- ==== Sys2Proof/Laws/KeptSession.lean ====
section
/-! SUPPORT. The operations of Machine/Session.lean keep the kept part. -/

namespace Sys2Proof.Machine

@[simp ↓] theorem State.resetPort_kept (s : State) (n : PortId) : (State.resetPort s n).kept = s.kept := by
  unfold State.resetPort
  first | (simp [*]; done) | ((try dsimp only); repeat' (first | (simp; done) | (simp [*]; done) | intro _ | split | (apply Eq.trans; apply foldState_kept; all_goals intros) | (apply Eq.trans; apply State.withSlot_kept; all_goals intros) | (apply Eq.trans; apply State.orRefuse_kept; all_goals intros) | (apply Eq.trans; apply State.chanChecked_kept; all_goals intros) | (apply Eq.trans; apply State.eachPortal_kept; all_goals intros) | (apply Eq.trans; apply State.withCan_kept; all_goals intros) | (apply Eq.trans; apply State.recServes_kept; all_goals intros) | (apply Eq.trans; apply State.fwServes_kept; all_goals intros) | simp))

@[simp ↓] theorem State.takeTag_kept (s : State) (n : PortId) (tag : BitVec 7) : (State.takeTag s n tag).kept = s.kept := by
  unfold State.takeTag
  first | (simp [*]; done) | ((try dsimp only); repeat' (first | (simp; done) | (simp [*]; done) | intro _ | split | (apply Eq.trans; apply foldState_kept; all_goals intros) | (apply Eq.trans; apply State.withSlot_kept; all_goals intros) | (apply Eq.trans; apply State.orRefuse_kept; all_goals intros) | (apply Eq.trans; apply State.chanChecked_kept; all_goals intros) | (apply Eq.trans; apply State.eachPortal_kept; all_goals intros) | (apply Eq.trans; apply State.withCan_kept; all_goals intros) | (apply Eq.trans; apply State.recServes_kept; all_goals intros) | (apply Eq.trans; apply State.fwServes_kept; all_goals intros) | simp))

@[simp ↓] theorem State.freeTag_kept (s : State) (n : PortId) (tag : BitVec 7) : (State.freeTag s n tag).kept = s.kept := by
  unfold State.freeTag
  first | (simp [*]; done) | ((try dsimp only); repeat' (first | (simp; done) | (simp [*]; done) | intro _ | split | (apply Eq.trans; apply foldState_kept; all_goals intros) | (apply Eq.trans; apply State.withSlot_kept; all_goals intros) | (apply Eq.trans; apply State.orRefuse_kept; all_goals intros) | (apply Eq.trans; apply State.chanChecked_kept; all_goals intros) | (apply Eq.trans; apply State.eachPortal_kept; all_goals intros) | (apply Eq.trans; apply State.withCan_kept; all_goals intros) | (apply Eq.trans; apply State.recServes_kept; all_goals intros) | (apply Eq.trans; apply State.fwServes_kept; all_goals intros) | simp))

@[simp ↓] theorem State.hello_kept (s : State) (h : Handle) (ps : List Byte) : (State.hello s h ps).kept = s.kept := by
  unfold State.hello
  first | (simp [*]; done) | ((try dsimp only); repeat' (first | (simp; done) | (simp [*]; done) | intro _ | split | (apply Eq.trans; apply foldState_kept; all_goals intros) | (apply Eq.trans; apply State.withSlot_kept; all_goals intros) | (apply Eq.trans; apply State.orRefuse_kept; all_goals intros) | (apply Eq.trans; apply State.chanChecked_kept; all_goals intros) | (apply Eq.trans; apply State.eachPortal_kept; all_goals intros) | (apply Eq.trans; apply State.withCan_kept; all_goals intros) | (apply Eq.trans; apply State.recServes_kept; all_goals intros) | (apply Eq.trans; apply State.fwServes_kept; all_goals intros) | simp))

@[simp ↓] theorem State.deviceInfo_kept (s : State) (h : Handle) (_ps : List Byte) : (State.deviceInfo s h _ps).kept = s.kept := by
  unfold State.deviceInfo
  first | (simp [*]; done) | ((try dsimp only); repeat' (first | (simp; done) | (simp [*]; done) | intro _ | split | (apply Eq.trans; apply foldState_kept; all_goals intros) | (apply Eq.trans; apply State.withSlot_kept; all_goals intros) | (apply Eq.trans; apply State.orRefuse_kept; all_goals intros) | (apply Eq.trans; apply State.chanChecked_kept; all_goals intros) | (apply Eq.trans; apply State.eachPortal_kept; all_goals intros) | (apply Eq.trans; apply State.withCan_kept; all_goals intros) | (apply Eq.trans; apply State.recServes_kept; all_goals intros) | (apply Eq.trans; apply State.fwServes_kept; all_goals intros) | simp))

@[simp ↓] theorem State.queueStatus_kept (s : State) (h : Handle) (_ps : List Byte) : (State.queueStatus s h _ps).kept = s.kept := by
  unfold State.queueStatus
  first | (simp [*]; done) | ((try dsimp only); repeat' (first | (simp; done) | (simp [*]; done) | intro _ | split | (apply Eq.trans; apply foldState_kept; all_goals intros) | (apply Eq.trans; apply State.withSlot_kept; all_goals intros) | (apply Eq.trans; apply State.orRefuse_kept; all_goals intros) | (apply Eq.trans; apply State.chanChecked_kept; all_goals intros) | (apply Eq.trans; apply State.eachPortal_kept; all_goals intros) | (apply Eq.trans; apply State.withCan_kept; all_goals intros) | (apply Eq.trans; apply State.recServes_kept; all_goals intros) | (apply Eq.trans; apply State.fwServes_kept; all_goals intros) | simp))

@[simp ↓] theorem State.echo_kept (s : State) (h : Handle) (ps : List Byte) : (State.echo s h ps).kept = s.kept := by
  unfold State.echo
  first | (simp [*]; done) | ((try dsimp only); repeat' (first | (simp; done) | (simp [*]; done) | intro _ | split | (apply Eq.trans; apply foldState_kept; all_goals intros) | (apply Eq.trans; apply State.withSlot_kept; all_goals intros) | (apply Eq.trans; apply State.orRefuse_kept; all_goals intros) | (apply Eq.trans; apply State.chanChecked_kept; all_goals intros) | (apply Eq.trans; apply State.eachPortal_kept; all_goals intros) | (apply Eq.trans; apply State.withCan_kept; all_goals intros) | (apply Eq.trans; apply State.recServes_kept; all_goals intros) | (apply Eq.trans; apply State.fwServes_kept; all_goals intros) | simp))

@[simp ↓] theorem State.wdgEvent_kept (s : State) (reason : Nat) : (State.wdgEvent s reason).kept = s.kept := by
  unfold State.wdgEvent
  first | (simp [*]; done) | ((try dsimp only); repeat' (first | (simp; done) | (simp [*]; done) | intro _ | split | (apply Eq.trans; apply foldState_kept; all_goals intros) | (apply Eq.trans; apply State.withSlot_kept; all_goals intros) | (apply Eq.trans; apply State.orRefuse_kept; all_goals intros) | (apply Eq.trans; apply State.chanChecked_kept; all_goals intros) | (apply Eq.trans; apply State.eachPortal_kept; all_goals intros) | (apply Eq.trans; apply State.withCan_kept; all_goals intros) | (apply Eq.trans; apply State.recServes_kept; all_goals intros) | (apply Eq.trans; apply State.fwServes_kept; all_goals intros) | simp))

@[simp ↓] theorem State.wdgExpire_kept (s : State) (reason : Nat) : (State.wdgExpire s reason).kept = s.kept := by
  unfold State.wdgExpire
  first | (simp [*]; done) | ((try dsimp only); repeat' (first | (simp; done) | (simp [*]; done) | intro _ | split | (apply Eq.trans; apply foldState_kept; all_goals intros) | (apply Eq.trans; apply State.withSlot_kept; all_goals intros) | (apply Eq.trans; apply State.orRefuse_kept; all_goals intros) | (apply Eq.trans; apply State.chanChecked_kept; all_goals intros) | (apply Eq.trans; apply State.eachPortal_kept; all_goals intros) | (apply Eq.trans; apply State.withCan_kept; all_goals intros) | (apply Eq.trans; apply State.recServes_kept; all_goals intros) | (apply Eq.trans; apply State.fwServes_kept; all_goals intros) | simp))

@[simp ↓] theorem State.wdgStart_kept (s : State) (h : Handle) (ps : List Byte) : (State.wdgStart s h ps).kept = s.kept := by
  unfold State.wdgStart
  first | (simp [*]; done) | ((try dsimp only); repeat' (first | (simp; done) | (simp [*]; done) | intro _ | split | (apply Eq.trans; apply foldState_kept; all_goals intros) | (apply Eq.trans; apply State.withSlot_kept; all_goals intros) | (apply Eq.trans; apply State.orRefuse_kept; all_goals intros) | (apply Eq.trans; apply State.chanChecked_kept; all_goals intros) | (apply Eq.trans; apply State.eachPortal_kept; all_goals intros) | (apply Eq.trans; apply State.withCan_kept; all_goals intros) | (apply Eq.trans; apply State.recServes_kept; all_goals intros) | (apply Eq.trans; apply State.fwServes_kept; all_goals intros) | simp))

@[simp ↓] theorem State.wdgKick_kept (s : State) (h : Handle) (ps : List Byte) : (State.wdgKick s h ps).kept = s.kept := by
  unfold State.wdgKick
  first | (simp [*]; done) | ((try dsimp only); repeat' (first | (simp; done) | (simp [*]; done) | intro _ | split | (apply Eq.trans; apply foldState_kept; all_goals intros) | (apply Eq.trans; apply State.withSlot_kept; all_goals intros) | (apply Eq.trans; apply State.orRefuse_kept; all_goals intros) | (apply Eq.trans; apply State.chanChecked_kept; all_goals intros) | (apply Eq.trans; apply State.eachPortal_kept; all_goals intros) | (apply Eq.trans; apply State.withCan_kept; all_goals intros) | (apply Eq.trans; apply State.recServes_kept; all_goals intros) | (apply Eq.trans; apply State.fwServes_kept; all_goals intros) | simp))

@[simp ↓] theorem State.wdgStop_kept (s : State) (h : Handle) (ps : List Byte) : (State.wdgStop s h ps).kept = s.kept := by
  unfold State.wdgStop
  first | (simp [*]; done) | ((try dsimp only); repeat' (first | (simp; done) | (simp [*]; done) | intro _ | split | (apply Eq.trans; apply foldState_kept; all_goals intros) | (apply Eq.trans; apply State.withSlot_kept; all_goals intros) | (apply Eq.trans; apply State.orRefuse_kept; all_goals intros) | (apply Eq.trans; apply State.chanChecked_kept; all_goals intros) | (apply Eq.trans; apply State.eachPortal_kept; all_goals intros) | (apply Eq.trans; apply State.withCan_kept; all_goals intros) | (apply Eq.trans; apply State.recServes_kept; all_goals intros) | (apply Eq.trans; apply State.fwServes_kept; all_goals intros) | simp))

theorem execWatchdogExpiry_kept (dt : Nat) (s : State) : ∃ t, execWatchdogExpiry dt s = .next t ∧ t.kept = s.kept := by
  unfold execWatchdogExpiry
  (try dsimp only)
  repeat' (first | refine ⟨_, rfl, ?_⟩ | apply next_ite | split)
  all_goals first | (simp [*]; done) | ((try dsimp only); repeat' (first | (simp; done) | (simp [*]; done) | intro _ | split | (apply Eq.trans; apply foldState_kept; all_goals intros) | (apply Eq.trans; apply State.withSlot_kept; all_goals intros) | (apply Eq.trans; apply State.orRefuse_kept; all_goals intros) | (apply Eq.trans; apply State.chanChecked_kept; all_goals intros) | (apply Eq.trans; apply State.eachPortal_kept; all_goals intros) | (apply Eq.trans; apply State.withCan_kept; all_goals intros) | (apply Eq.trans; apply State.recServes_kept; all_goals intros) | (apply Eq.trans; apply State.fwServes_kept; all_goals intros) | simp))

@[simp ↓] theorem State.command_kept (s : State) (op : Nat) (c : CmdHeader) (ps : List Byte) (f : State → Handle → List Byte → State) (hf : ∀ a0 a1 a2, (f a0 a1 a2).kept = a0.kept) : (State.command s op c ps f).kept = s.kept := by
  unfold State.command
  first | (simp [*]; done) | ((try dsimp only); repeat' (first | (simp; done) | (simp [*]; done) | intro _ | split | (apply Eq.trans; apply foldState_kept; all_goals intros) | (apply Eq.trans; apply State.withSlot_kept; all_goals intros) | (apply Eq.trans; apply State.orRefuse_kept; all_goals intros) | (apply Eq.trans; apply State.chanChecked_kept; all_goals intros) | (apply Eq.trans; apply State.eachPortal_kept; all_goals intros) | (apply Eq.trans; apply State.withCan_kept; all_goals intros) | (apply Eq.trans; apply State.recServes_kept; all_goals intros) | (apply Eq.trans; apply State.fwServes_kept; all_goals intros) | simp))

end Sys2Proof.Machine
end

