-- ==== Sys2Proof/Laws/Memory.lean ====
section
/-! SUPPORT. The firmware banks as addressed memory: what a write stores, what it leaves, and that it keeps the canonical form. -/

namespace Sys2Proof.Machine

/-- No cell of a canonical list lies below its head. -/
theorem Memory.wf_head_lt {rest : Nat → Byte} : ∀ {c : Host.Cell} {l : List Host.Cell}, Memory.wf rest (c :: l) = true → ∀ d ∈ l, c.1 < d.1
  | _, [], _, _, h => by cases h
  | c, d :: l, hw, e, he => by
    simp only [Memory.wf, Bool.and_eq_true, decide_eq_true_eq] at hw
    rcases List.mem_cons.mp he with rfl | h
    · exact hw.1.2
    · exact hw.1.2.trans (Memory.wf_head_lt hw.2 e h)

theorem Memory.wf_tail {rest : Nat → Byte} {c : Host.Cell} {l : List Host.Cell} (h : Memory.wf rest (c :: l) = true) : Memory.wf rest l = true := by
  cases l with
  | nil => rfl
  | cons d l => simp only [Memory.wf, Bool.and_eq_true] at h; exact h.2

theorem Memory.wf_cons {rest : Nat → Byte} {c : Host.Cell} {l : List Host.Cell} :
    Memory.wf rest (c :: l) = true ↔ c.2 ≠ rest c.1 ∧ (∀ d ∈ l, c.1 < d.1) ∧ Memory.wf rest l = true := by
  constructor
  · intro h
    refine ⟨?_, Memory.wf_head_lt h, Memory.wf_tail h⟩
    cases l <;> simp_all [Memory.wf]
  · rintro ⟨h1, h2, h3⟩
    cases l with
    | nil => simpa [Memory.wf] using h1
    | cons d l => simp_all [Memory.wf]

/-- A write lists no address but those listed before and its own. -/
theorem Memory.mem_write {rest : Nat → Byte} (l : List Host.Cell) (a : Nat) (v : Byte) : ∀ d ∈ Memory.write rest l a v, d.1 = a ∨ d ∈ l := by
  induction l with
  | nil => intro d; simp only [Memory.write]; split <;> simp +contextual
  | cons c l ih =>
    intro d hd
    simp only [Memory.write] at hd
    split at hd
    · split at hd
      · exact .inr hd
      · exact (List.mem_cons.mp hd).imp (fun e => by rw [e]) id
    · split at hd
      · split at hd
        · exact .inr (List.mem_cons_of_mem _ hd)
        · exact (List.mem_cons.mp hd).imp (fun e => by rw [e]) (List.mem_cons_of_mem _)
      · rcases List.mem_cons.mp hd with rfl | h
        · exact .inr (List.mem_cons_self ..)
        · exact (ih d h).imp_right (List.mem_cons_of_mem _)

/-- A write keeps the canonical form. -/
theorem Memory.write_wf {rest : Nat → Byte} {l : List Host.Cell} (a : Nat) (v : Byte) (h : Memory.wf rest l = true) :
    Memory.wf rest (Memory.write rest l a v) = true := by
  induction l with
  | nil => simp only [Memory.write]; split <;> simp_all [Memory.wf]
  | cons c l ih =>
    obtain ⟨h1, h2, h3⟩ := Memory.wf_cons.mp h
    simp only [Memory.write]
    split
    · split
      · exact h
      · refine Memory.wf_cons.mpr ⟨by assumption, ?_, h⟩
        intro d hd
        rcases List.mem_cons.mp hd with rfl | hd
        · assumption
        · exact lt_trans (by assumption) (h2 d hd)
    · split
      · split
        · exact h3
        · refine Memory.wf_cons.mpr ⟨by assumption, ?_, h3⟩
          intro d hd
          have := h2 d hd
          simp only; omega
      · refine Memory.wf_cons.mpr ⟨h1, ?_, ih h3⟩
        intro d hd
        rcases Memory.mem_write l a v d hd with e | hd
        · omega
        · exact h2 d hd

/-- Writing several bytes keeps the canonical form. -/
theorem Memory.writeAll_wf {rest : Nat → Byte} (vs : List Byte) : ∀ {l : List Host.Cell} (a : Nat), Memory.wf rest l = true →
    Memory.wf rest (Memory.writeAll rest l a vs) = true := by
  induction vs with
  | nil => intro _ _ h; exact h
  | cons v vs ih => intro l a h; exact ih (a + 1) (Memory.write_wf a v h)

/-- Reading below every listed address gives the unlisted content. -/
theorem Memory.read_of_lt {rest : Nat → Byte} (l : List Host.Cell) (a : Nat) (h : ∀ d ∈ l, a < d.1) : Memory.read rest l a = rest a := by
  induction l with
  | nil => rfl
  | cons c l ih =>
    have hc := h c (List.mem_cons_self ..)
    have hne : c.1 ≠ a := by omega
    simp only [Memory.read, if_neg hne]
    exact ih fun d hd => h d (List.mem_cons_of_mem _ hd)

/-- What was written is read; every other address reads as before. -/
theorem Memory.read_write {rest : Nat → Byte} {l : List Host.Cell} (a b : Nat) (v : Byte) (h : Memory.wf rest l = true) :
    Memory.read rest (Memory.write rest l a v) b = if b = a then v else Memory.read rest l b := by
  induction l with
  | nil =>
    simp only [Memory.write]
    by_cases hb : b = a
    · subst hb; split <;> simp [Memory.read, *]
    · have : ¬a = b := fun x => hb x.symm
      split <;> simp [Memory.read, hb, this]
  | cons c l ih =>
    obtain ⟨h1, h2, h3⟩ := Memory.wf_cons.mp h
    have ih := ih h3
    have hlt : ∀ x, x < c.1 ∨ x = c.1 → Memory.read rest l x = rest x := by
      intro x hx
      refine Memory.read_of_lt l x ?_
      intro d hd
      have := h2 d hd
      omega
    simp only [Memory.write]
    split
    · rename_i hac
      have e := hlt a (Or.inl hac)
      have hca : c.1 ≠ a := by omega
      split
      · by_cases hb : b = a
        · subst hb; simp [Memory.read, *]
        · simp [hb]
      · by_cases hb : b = a
        · subst hb; simp [Memory.read]
        · have : ¬a = b := fun x => hb x.symm
          simp [Memory.read, hb, this]
    · split
      · rename_i hac
        have e := hlt a (Or.inr hac)
        split
        · by_cases hb : b = a
          · subst hb; simp [*]
          · have : ¬c.1 = b := fun x => hb (by omega)
            simp [Memory.read, hb, this]
        · by_cases hb : b = a
          · subst hb; simp [Memory.read]
          · have h4 : ¬a = b := fun x => hb x.symm
            have h5 : ¬c.1 = b := fun x => hb (by omega)
            simp [Memory.read, hb, h4, h5]
      · simp only [Memory.read]
        by_cases hb : c.1 = b
        · have : ¬b = a := by omega
          simp [hb, this]
        · simp [hb, ih]

/-- A bank that is written stays in the canonical form. -/
theorem Bank.write_wf (b : Bank) (a : Nat) (l : List Byte) (h : b.wf = true) : (b.write a l).wf = true := Memory.writeAll_wf l a h

end Sys2Proof.Machine
end

