-- ==== Sys2Proof/Laws/Bounds.lean ====
section
/-! SUPPORT. The operations that write the bounded stores stay within their bounds and leave the queue of commands alone. -/

namespace Sys2Proof.Machine

theorem State.Bounded_congr {s t : State} (h : t.kept = s.kept) (b : s.Bounded) : t.Bounded := by
  obtain ⟨s1, s2, s3, s4, s5⟩ := b
  simp only [State.kept, Kept.mk.injEq, Prod.mk.injEq] at h
  obtain ⟨-, ⟨a1, a2⟩, ⟨b1, b2⟩, c, d, e0, e1, f⟩ := h
  refine ⟨?_, c ▸ s2, d ▸ s3, ?_, f ▸ s5⟩
  · have w0 := s1 0
    have w1 := s1 1
    intro k
    have hw : ∀ x y : Bank, y.delivered = x.delivered → y.cells = x.cells → x.wf = true → y.wf = true := by
      intro x y h1 h2 h3
      unfold Bank.wf Bank.rest at *
      rw [h1, h2]; exact h3
    match k with
    | 0 => exact hw _ _ a1 a2 w0
    | 1 => exact hw _ _ b1 b2 w1
  · have w0 := s4 0
    have w1 := s4 1
    intro k
    match k with
    | 0 => exact (congrArg List.length e0).trans_le w0
    | 1 => exact (congrArg List.length e1).trans_le w1

/-- `t` follows `s` with the same queue, within the bounds when `s` is. -/
def Sound (s t : State) : Prop := t.pending = s.pending ∧ (s.Bounded → t.Bounded)

theorem Sound.of_kept {s t : State} (h : t.kept = s.kept) : Sound s t := ⟨congrArg Kept.pending h, State.Bounded_congr h⟩

theorem Sound.refl (s : State) : Sound s s := ⟨rfl, id⟩

theorem Sound.trans {s t u : State} (a : Sound s t) (b : Sound t u) : Sound s u := ⟨b.1.trans a.1, b.2 ∘ a.2⟩

/-- An operation that keeps the kept part, after one that is sound. -/
theorem Sound.then_kept {s t u : State} (a : Sound s t) (h : u.kept = t.kept) : Sound s u := a.trans (Sound.of_kept h)

theorem Sound.ite {s t u : State} {c : Prop} [Decidable c] (a : Sound s t) (b : Sound s u) : Sound s (if c then t else u) := by
  split <;> assumption

theorem foldState_sound {α : Type} (l : List α) (f : α → State → State) (s : State) (h : ∀ a t, Sound t (f a t)) : Sound s (foldState l f s) := by
  unfold foldState
  induction l generalizing s with
  | nil => exact Sound.refl s
  | cons a l ih => exact (h a s).trans (ih _)

/-- A change of one port's receive queue that leaves at most 16 commands in it. -/
theorem modPort_sound (s : State) (n : PortId) (f : Port → Port) (h : s.Bounded → (f (s.port n)).rxq.length ≤ 16) : Sound s (s.modPort n f) := by
  refine ⟨rfl, fun b => ?_⟩
  refine ⟨b.1, b.2.1, b.2.2.1, fun m => ?_, b.2.2.2.2⟩
  have hb := b.2.2.2.1 m
  by_cases e : n = m
  · subst e
    simpa [State.modPort, State.port] using h b
  · have : n.val ≠ m.val := fun x => e (Fin.ext x)
    simpa [State.modPort, State.port, this] using hb

/-! ## The event buffer -/

theorem State.release_sound (s : State) (e : Event) : Sound s (s.release e) := by
  unfold State.release
  extract_lets s1 later s2
  have h1 : Sound s s1 := by
    simp only [s1]
    split
    · refine ⟨rfl, fun b => ⟨b.1, ?_, b.2.2⟩⟩
      simp; omega
    · refine ⟨rfl, fun b => ⟨b.1, b.2.1, ?_, b.2.2.2⟩⟩
      simp only [satInc]
      split <;> omega
  refine (h1.then_kept (u := s2) ?_).then_kept (by simp)
  simp [s2]

theorem State.eventRead_sound (s : State) (h : Handle) (ps : List Byte) : Sound s (s.eventRead h ps) := by
  unfold State.eventRead
  dsimp only
  split
  · exact Sound.of_kept (by simp)
  · split
    · exact Sound.of_kept (by simp)
    · refine Sound.then_kept (t := { s with buffer := s.buffer.drop (ps.getD 0 0).toNat, lostEvents := 0 }) ?_ (by simp)
      exact ⟨rfl, fun b => ⟨b.1, by have := b.2.1; simp; omega, by simp, b.2.2.2⟩⟩

/-! ## The firmware banks -/

theorem State.fwPut_sound (s : State) (a : Nat) (l : List Byte) : Sound s (s.fwPut a l) := by
  refine ⟨rfl, fun b => ⟨fun k => ?_, b.2⟩⟩
  have hk := b.1 k
  have ho := b.1 s.power.other
  by_cases e : s.power.other = k
  · rw [e] at ho
    simpa [State.fwPut, e] using Bank.write_wf _ a l ho
  · have : s.power.other.val ≠ k.val := fun x => e (Fin.ext x)
    simpa [State.fwPut, this] using hk

theorem State.fwServes_sound (s : State) (h : Handle) (ok : Bool) (f : State) (hf : Sound s f) : Sound s (s.fwServes h ok f) := by
  unfold State.fwServes
  repeat' split
  all_goals first
    | exact hf
    | exact Sound.of_kept (by simp)

theorem State.fwBegin_sound (s : State) (h : Handle) (ps : List Byte) : Sound s (s.fwBegin h ps) :=
  s.fwServes_sound h _ _ ((s.fwPut_sound 0 _).then_kept (State.reply_kept ..))

theorem State.fwWrite_sound (s : State) (h : Handle) (ps : List Byte) : Sound s (s.fwWrite h ps) := by
  unfold State.fwWrite
  refine s.fwServes_sound h _ _ ?_
  split
  · exact Sound.of_kept (by simp)
  · exact (s.fwPut_sound _ _).then_kept (State.reply_kept ..)

theorem State.powerCycle_sound (s : State) : Sound s s.powerCycle := by
  have hb : s.powerCycle.buffer = [] := rfl
  have hl : s.powerCycle.lostEvents = 0 := rfl
  have hp : s.powerCycle.ports = Vector.replicate 2 Port.reset := rfl
  have hc : s.powerCycle.recorder.credit = 128 := rfl
  refine ⟨rfl, fun b => ⟨b.1, by rw [hb]; simp, by rw [hl]; simp, fun n => ?_, by rw [hc]⟩⟩
  simp [State.port, hp, Port.reset]

/-! ## Commands -/

theorem State.command_sound (s : State) (op : Nat) (c : CmdHeader) (ps : List Byte) (f : State → Handle → List Byte → State)
    (hf : ∀ t h ps, Sound t (f t h ps)) : Sound s (s.command op c ps f) := by
  unfold State.command
  extract_lets x u h busy late t
  have ht : Sound s t := Sound.of_kept (State.takeTag_kept ..)
  refine Sound.ite (Sound.of_kept (by simp)) ?_
  iterate 5 refine Sound.ite (ht.then_kept (by simp)) ?_
  split
  · exact ht.then_kept (by simp)
  · refine Sound.ite (ht.then_kept (by simp)) ?_
    split
    · exact ht.then_kept (by simp)
    · exact ht.trans (hf _ _ _)

theorem opcodes_sound : ∀ y ∈ opcodes, ∀ t h ps, Sound t (y.2 t h ps) := by
  simp only [opcodes, List.cons_append, List.nil_append, List.forall_mem_cons]
  repeat' apply And.intro
  all_goals first
    | exact State.eventRead_sound
    | exact State.fwBegin_sound
    | exact State.fwWrite_sound
    | (intro y hy; cases hy; done)
    | (intro t h ps; refine Sound.of_kept ?_; simp; done)

theorem opFun_sound (op : Nat) (t : State) (h : Handle) (ps : List Byte) : Sound t (opFun op t h ps) := by
  unfold opFun
  cases e : opcodes.find? fun x => x.1 = op with
  | none => exact Sound.of_kept (by simp)
  | some y => exact opcodes_sound y (List.mem_of_find?_eq_some e) t h ps

theorem State.interpret_sound (s : State) (n : PortId) (k : Packet) : Sound s (s.interpret n k) := s.command_sound _ _ _ _ (opFun_sound _)

theorem State.turn_sound (s : State) (n : PortId) : Sound s (s.turn n) := by
  unfold State.turn
  split
  · exact Sound.refl s
  · rename_i k l h
    split
    · refine (modPort_sound s n _ fun b => ?_).trans (State.interpret_sound _ n k)
      have := b.2.2.2.1 n
      rw [h] at this
      simp at this ⊢
      omega
    · exact Sound.refl s

theorem State.receive_sound (s : State) (n : PortId) (k : Packet) : Sound s (s.receive n k) := by
  unfold State.receive
  dsimp only
  split
  · exact Sound.refl s
  · split
    · exact s.interpret_sound n k
    · split
      · rename_i hl
        have hq : Sound s (s.modPort n fun y => { y with rxq := y.rxq ++ [k] }) := modPort_sound s n _ fun _ => by
          simp; omega
        split
        · exact hq.then_kept (by simp)
        · exact hq
      · exact Sound.of_kept (by simp)

theorem State.packet_sound (s : State) (op : Nat) (h : CmdHeader) (ps : List Byte) (f : State → Handle → List Byte → State)
    (hf : ∀ t h ps, Sound t (f t h ps)) : Sound s (s.packet op h ps f) := Sound.ite (s.command_sound op h ps f hf) (s.receive_sound ..)

end Sys2Proof.Machine
end

