-- ==== Sys2Proof/Laws/Commands.lean ====
section
/-! SUPPORT. How a command packet reaches its opcode, and what a reply changes. -/

namespace Sys2Proof.Machine

@[simp] theorem State.advance_port (s : State) (dt : Nat) (n : PortId) : (s.advance dt).port n = s.port n := rfl
@[simp] theorem State.advance_power (s : State) (dt : Nat) : (s.advance dt).power = s.power := rfl
@[simp] theorem State.advance_mode (s : State) (dt : Nat) : (s.advance dt).mode = s.mode := rfl
@[simp] theorem State.advance_pairs (s : State) (dt : Nat) : (s.advance dt).pairs = s.pairs := rfl
@[simp] theorem State.advance_params (s : State) (dt : Nat) : (s.advance dt).params = s.params := rfl
@[simp] theorem State.advance_handle (s : State) (dt op : Nat) (c : CmdHeader) : (s.advance dt).handle op c = s.handle op c := rfl
@[simp] theorem State.advance_interprets (s : State) (dt : Nat) : (s.advance dt).interprets = s.interprets := rfl

theorem State.advance_takes {s : State} {op : Nat} {c : CmdHeader} {ps : List Byte} (dt : Nat) (h : s.Takes op c ps) : (s.advance dt).Takes op c ps := h

/-- A command that the checks let pass does what its opcode does, with its tag in use. -/
theorem State.packet_takes {s : State} {op : Nat} {c : CmdHeader} {ps : List Byte} (f : State → Handle → List Byte → State)
    (h : s.Takes op c ps) : s.packet op c ps f = f (s.takeTag c.port c.tag) (s.handle op c) ps := by
  obtain ⟨h1, h2, h3, h4, h5, h6, h7, h8, h9, h10⟩ := h
  have hl : opLengths.any (fun y => decide (y.1 = op)) = true := by
    unfold lengthOk at h6
    simp only [Bool.and_eq_true] at h6
    have := h6.1.1
    split at this
    · rename_i x a b hf
      exact List.any_eq_true.mpr ⟨_, List.mem_of_find?_eq_some hf, by simpa using List.find?_some hf⟩
    · cases this
  have h9' : (s.takeTag c.port c.tag).power.pfail = false := h9
  have h10' : (s.takeTag c.port c.tag).holdsBack op c.unit.toNat = none := h10
  have h3' : c.version.toNat = 1 := by rw [h3]; rfl
  unfold State.packet State.command
  simp only [h1, h2, h4, h5, h6, h7, h8, h9', h10', hl, h3', State.handle, if_true]
  simp

/-- The same for the meaning of a command, which `dt` counts precede. -/
theorem State.exec_takes {s : State} {op : Nat} {c : CmdHeader} {ps : List Byte} (dt : Nat) (f : State → Handle → List Byte → State)
    (h : s.Takes op c ps) : (s.advance dt).packet op c ps f = f (s.accepted dt c) (s.handle op c) ps :=
  State.packet_takes f (State.advance_takes dt h)

end Sys2Proof.Machine
end

