-- ==== Sys2Proof/Laws/KeptPorts.lean ====
section
/-! SUPPORT. The operations of Machine/Ports.lean keep the kept part. -/

namespace Sys2Proof.Machine

@[simp ↓] theorem State.shiftOut_kept (s : State) (n : Nat) (l : List Byte) : (State.shiftOut s n l).kept = s.kept := by
  unfold State.shiftOut
  first | (simp [*]; done) | ((try dsimp only); repeat' (first | (simp; done) | (simp [*]; done) | intro _ | split | (apply Eq.trans; apply foldState_kept; all_goals intros) | (apply Eq.trans; apply State.withSlot_kept; all_goals intros) | (apply Eq.trans; apply State.orRefuse_kept; all_goals intros) | (apply Eq.trans; apply State.chanChecked_kept; all_goals intros) | (apply Eq.trans; apply State.eachPortal_kept; all_goals intros) | (apply Eq.trans; apply State.withCan_kept; all_goals intros) | (apply Eq.trans; apply State.recServes_kept; all_goals intros) | (apply Eq.trans; apply State.fwServes_kept; all_goals intros) | (apply Eq.trans; apply State.command_kept; all_goals intros) | simp))

@[simp ↓] theorem State.deliver_kept (s : State) (n : PortId) : (State.deliver s n).kept = s.kept := by
  unfold State.deliver
  first | (simp [*]; done) | ((try dsimp only); repeat' (first | (simp; done) | (simp [*]; done) | intro _ | split | (apply Eq.trans; apply foldState_kept; all_goals intros) | (apply Eq.trans; apply State.withSlot_kept; all_goals intros) | (apply Eq.trans; apply State.orRefuse_kept; all_goals intros) | (apply Eq.trans; apply State.chanChecked_kept; all_goals intros) | (apply Eq.trans; apply State.eachPortal_kept; all_goals intros) | (apply Eq.trans; apply State.withCan_kept; all_goals intros) | (apply Eq.trans; apply State.recServes_kept; all_goals intros) | (apply Eq.trans; apply State.fwServes_kept; all_goals intros) | (apply Eq.trans; apply State.command_kept; all_goals intros) | simp))

theorem execSpiRead_kept (dt : Nat) (clocked : Nat) (s : State) : ∃ t, execSpiRead dt clocked s = .next t ∧ t.kept = s.kept := by
  unfold execSpiRead
  (try dsimp only)
  repeat' (first | refine ⟨_, rfl, ?_⟩ | apply next_ite | split)
  all_goals first | (simp [*]; done) | ((try dsimp only); repeat' (first | (simp; done) | (simp [*]; done) | intro _ | split | (apply Eq.trans; apply foldState_kept; all_goals intros) | (apply Eq.trans; apply State.withSlot_kept; all_goals intros) | (apply Eq.trans; apply State.orRefuse_kept; all_goals intros) | (apply Eq.trans; apply State.chanChecked_kept; all_goals intros) | (apply Eq.trans; apply State.eachPortal_kept; all_goals intros) | (apply Eq.trans; apply State.withCan_kept; all_goals intros) | (apply Eq.trans; apply State.recServes_kept; all_goals intros) | (apply Eq.trans; apply State.fwServes_kept; all_goals intros) | (apply Eq.trans; apply State.command_kept; all_goals intros) | simp))

theorem execSpiPoll_kept (dt : Nat) (clocked : Nat) (s : State) : ∃ t, execSpiPoll dt clocked s = .next t ∧ t.kept = s.kept := by
  unfold execSpiPoll
  (try dsimp only)
  repeat' (first | refine ⟨_, rfl, ?_⟩ | apply next_ite | split)
  all_goals first | (simp [*]; done) | ((try dsimp only); repeat' (first | (simp; done) | (simp [*]; done) | intro _ | split | (apply Eq.trans; apply foldState_kept; all_goals intros) | (apply Eq.trans; apply State.withSlot_kept; all_goals intros) | (apply Eq.trans; apply State.orRefuse_kept; all_goals intros) | (apply Eq.trans; apply State.chanChecked_kept; all_goals intros) | (apply Eq.trans; apply State.eachPortal_kept; all_goals intros) | (apply Eq.trans; apply State.withCan_kept; all_goals intros) | (apply Eq.trans; apply State.recServes_kept; all_goals intros) | (apply Eq.trans; apply State.fwServes_kept; all_goals intros) | (apply Eq.trans; apply State.command_kept; all_goals intros) | simp))

@[simp ↓] theorem State.plainFrame_kept (s : State) (n : CanId) (f : CanFrame) (sof : Nat) : (State.plainFrame s n f sof).kept = s.kept := by
  unfold State.plainFrame
  first | (simp [*]; done) | ((try dsimp only); repeat' (first | (simp; done) | (simp [*]; done) | intro _ | split | (apply Eq.trans; apply foldState_kept; all_goals intros) | (apply Eq.trans; apply State.withSlot_kept; all_goals intros) | (apply Eq.trans; apply State.orRefuse_kept; all_goals intros) | (apply Eq.trans; apply State.chanChecked_kept; all_goals intros) | (apply Eq.trans; apply State.eachPortal_kept; all_goals intros) | (apply Eq.trans; apply State.withCan_kept; all_goals intros) | (apply Eq.trans; apply State.recServes_kept; all_goals intros) | (apply Eq.trans; apply State.fwServes_kept; all_goals intros) | (apply Eq.trans; apply State.command_kept; all_goals intros) | simp))

theorem execSegmentGapTimeout_kept (dt : Nat) (s : State) : ∃ t, execSegmentGapTimeout dt s = .next t ∧ t.kept = s.kept := by
  unfold execSegmentGapTimeout
  (try dsimp only)
  repeat' (first | refine ⟨_, rfl, ?_⟩ | apply next_ite | split)
  all_goals first | (simp [*]; done) | ((try dsimp only); repeat' (first | (simp; done) | (simp [*]; done) | intro _ | split | (apply Eq.trans; apply foldState_kept; all_goals intros) | (apply Eq.trans; apply State.withSlot_kept; all_goals intros) | (apply Eq.trans; apply State.orRefuse_kept; all_goals intros) | (apply Eq.trans; apply State.chanChecked_kept; all_goals intros) | (apply Eq.trans; apply State.eachPortal_kept; all_goals intros) | (apply Eq.trans; apply State.withCan_kept; all_goals intros) | (apply Eq.trans; apply State.recServes_kept; all_goals intros) | (apply Eq.trans; apply State.fwServes_kept; all_goals intros) | (apply Eq.trans; apply State.command_kept; all_goals intros) | simp))

@[simp ↓] theorem State.segSent_kept (s : State) : (State.segSent s).kept = s.kept := by
  unfold State.segSent
  first | (simp [*]; done) | ((try dsimp only); repeat' (first | (simp; done) | (simp [*]; done) | intro _ | split | (apply Eq.trans; apply foldState_kept; all_goals intros) | (apply Eq.trans; apply State.withSlot_kept; all_goals intros) | (apply Eq.trans; apply State.orRefuse_kept; all_goals intros) | (apply Eq.trans; apply State.chanChecked_kept; all_goals intros) | (apply Eq.trans; apply State.eachPortal_kept; all_goals intros) | (apply Eq.trans; apply State.withCan_kept; all_goals intros) | (apply Eq.trans; apply State.recServes_kept; all_goals intros) | (apply Eq.trans; apply State.fwServes_kept; all_goals intros) | (apply Eq.trans; apply State.command_kept; all_goals intros) | simp))

theorem execMirquaSegmentSent_kept (dt : Nat) (s : State) : ∃ t, execMirquaSegmentSent dt s = .next t ∧ t.kept = s.kept := by
  unfold execMirquaSegmentSent
  (try dsimp only)
  repeat' (first | refine ⟨_, rfl, ?_⟩ | apply next_ite | split)
  all_goals first | (simp [*]; done) | ((try dsimp only); repeat' (first | (simp; done) | (simp [*]; done) | intro _ | split | (apply Eq.trans; apply foldState_kept; all_goals intros) | (apply Eq.trans; apply State.withSlot_kept; all_goals intros) | (apply Eq.trans; apply State.orRefuse_kept; all_goals intros) | (apply Eq.trans; apply State.chanChecked_kept; all_goals intros) | (apply Eq.trans; apply State.eachPortal_kept; all_goals intros) | (apply Eq.trans; apply State.withCan_kept; all_goals intros) | (apply Eq.trans; apply State.recServes_kept; all_goals intros) | (apply Eq.trans; apply State.fwServes_kept; all_goals intros) | (apply Eq.trans; apply State.command_kept; all_goals intros) | simp))

end Sys2Proof.Machine
end

