-- ==== Sys2Proof/Laws/PerInstr.lean ====
section
/-! SUPPORT. Per-command laws: a command given later is the same command. -/

namespace Sys2Proof.Laws.Retimed

/-- Giving a command after another number of counts changes that number only, and a sender can give it then as now. -/
def Statement (i : Instr) : Prop := ∀ n, (i.after n).elapsed = n ∧ (i.after n).wf = i.wf ∧ i.after i.elapsed = i

theorem hello (dt : Nat) (h : CmdHeader) (ps : List Byte) : Statement (.hello dt h ps) := fun _ => ⟨rfl, rfl, rfl⟩
theorem deviceInfo (dt : Nat) (h : CmdHeader) (ps : List Byte) : Statement (.deviceInfo dt h ps) := fun _ => ⟨rfl, rfl, rfl⟩
theorem wdgStart (dt : Nat) (h : CmdHeader) (ps : List Byte) : Statement (.wdgStart dt h ps) := fun _ => ⟨rfl, rfl, rfl⟩
theorem wdgKick (dt : Nat) (h : CmdHeader) (ps : List Byte) : Statement (.wdgKick dt h ps) := fun _ => ⟨rfl, rfl, rfl⟩
theorem wdgStop (dt : Nat) (h : CmdHeader) (ps : List Byte) : Statement (.wdgStop dt h ps) := fun _ => ⟨rfl, rfl, rfl⟩
theorem eventRead (dt : Nat) (h : CmdHeader) (ps : List Byte) : Statement (.eventRead dt h ps) := fun _ => ⟨rfl, rfl, rfl⟩
theorem queueStatus (dt : Nat) (h : CmdHeader) (ps : List Byte) : Statement (.queueStatus dt h ps) := fun _ => ⟨rfl, rfl, rfl⟩
theorem echo (dt : Nat) (h : CmdHeader) (ps : List Byte) : Statement (.echo dt h ps) := fun _ => ⟨rfl, rfl, rfl⟩
theorem paramRead (dt : Nat) (h : CmdHeader) (ps : List Byte) : Statement (.paramRead dt h ps) := fun _ => ⟨rfl, rfl, rfl⟩
theorem paramWrite (dt : Nat) (h : CmdHeader) (ps : List Byte) : Statement (.paramWrite dt h ps) := fun _ => ⟨rfl, rfl, rfl⟩
theorem paramReadRange (dt : Nat) (h : CmdHeader) (ps : List Byte) : Statement (.paramReadRange dt h ps) := fun _ => ⟨rfl, rfl, rfl⟩
theorem paramWriteSet (dt : Nat) (h : CmdHeader) (ps : List Byte) : Statement (.paramWriteSet dt h ps) := fun _ => ⟨rfl, rfl, rfl⟩
theorem modeRequest (dt : Nat) (h : CmdHeader) (ps : List Byte) : Statement (.modeRequest dt h ps) := fun _ => ⟨rfl, rfl, rfl⟩
theorem lockstepSplit (dt : Nat) (h : CmdHeader) (ps : List Byte) : Statement (.lockstepSplit dt h ps) := fun _ => ⟨rfl, rfl, rfl⟩
theorem lockstepRejoin (dt : Nat) (h : CmdHeader) (ps : List Byte) : Statement (.lockstepRejoin dt h ps) := fun _ => ⟨rfl, rfl, rfl⟩
theorem lockstepStatus (dt : Nat) (h : CmdHeader) (ps : List Byte) : Statement (.lockstepStatus dt h ps) := fun _ => ⟨rfl, rfl, rfl⟩
theorem claimYield (dt : Nat) (h : CmdHeader) (ps : List Byte) : Statement (.claimYield dt h ps) := fun _ => ⟨rfl, rfl, rfl⟩
theorem canStop (dt : Nat) (h : CmdHeader) (ctrl : Byte) : Statement (.canStop dt h ctrl) := fun _ => ⟨rfl, rfl, rfl⟩
theorem canStartNormal (dt : Nat) (h : CmdHeader) (ctrl : Byte) : Statement (.canStartNormal dt h ctrl) := fun _ => ⟨rfl, rfl, rfl⟩
theorem canStartListen (dt : Nat) (h : CmdHeader) (ctrl : Byte) : Statement (.canStartListen dt h ctrl) := fun _ => ⟨rfl, rfl, rfl⟩
theorem detectRate (dt : Nat) (h : CmdHeader) (ctrl : Byte) : Statement (.detectRate dt h ctrl) := fun _ => ⟨rfl, rfl, rfl⟩
theorem canSleep (dt : Nat) (h : CmdHeader) (ctrl : Byte) : Statement (.canSleep dt h ctrl) := fun _ => ⟨rfl, rfl, rfl⟩
theorem canWake (dt : Nat) (h : CmdHeader) (ctrl : Byte) : Statement (.canWake dt h ctrl) := fun _ => ⟨rfl, rfl, rfl⟩
theorem canRecover (dt : Nat) (h : CmdHeader) (ctrl : Byte) : Statement (.canRecover dt h ctrl) := fun _ => ⟨rfl, rfl, rfl⟩
theorem canTx (dt : Nat) (h : CmdHeader) (ps : List Byte) : Statement (.canTx dt h ps) := fun _ => ⟨rfl, rfl, rfl⟩
theorem canCancel (dt : Nat) (h : CmdHeader) (ps : List Byte) : Statement (.canCancel dt h ps) := fun _ => ⟨rfl, rfl, rfl⟩
theorem canRx (dt : Nat) (h : CmdHeader) (ps : List Byte) : Statement (.canRx dt h ps) := fun _ => ⟨rfl, rfl, rfl⟩
theorem portalOpen (dt : Nat) (h : CmdHeader) (ps : List Byte) : Statement (.portalOpen dt h ps) := fun _ => ⟨rfl, rfl, rfl⟩
theorem portalClose (dt : Nat) (h : CmdHeader) (ps : List Byte) : Statement (.portalClose dt h ps) := fun _ => ⟨rfl, rfl, rfl⟩
theorem portalStatus (dt : Nat) (h : CmdHeader) (ps : List Byte) : Statement (.portalStatus dt h ps) := fun _ => ⟨rfl, rfl, rfl⟩
theorem fenceClear (dt : Nat) (h : CmdHeader) (ps : List Byte) : Statement (.fenceClear dt h ps) := fun _ => ⟨rfl, rfl, rfl⟩
theorem emergencyReset (dt : Nat) (h : CmdHeader) (ps : List Byte) : Statement (.emergencyReset dt h ps) := fun _ => ⟨rfl, rfl, rfl⟩
theorem jog (dt : Nat) (h : CmdHeader) (ps : List Byte) : Statement (.jog dt h ps) := fun _ => ⟨rfl, rfl, rfl⟩
theorem jogStop (dt : Nat) (h : CmdHeader) (ps : List Byte) : Statement (.jogStop dt h ps) := fun _ => ⟨rfl, rfl, rfl⟩
theorem portalFence (dt : Nat) (h : CmdHeader) (ps : List Byte) : Statement (.portalFence dt h ps) := fun _ => ⟨rfl, rfl, rfl⟩
theorem chOn (dt : Nat) (h : CmdHeader) (ps : List Byte) : Statement (.chOn dt h ps) := fun _ => ⟨rfl, rfl, rfl⟩
theorem chOff (dt : Nat) (h : CmdHeader) (ps : List Byte) : Statement (.chOff dt h ps) := fun _ => ⟨rfl, rfl, rfl⟩
theorem chPulse (dt : Nat) (h : CmdHeader) (ps : List Byte) : Statement (.chPulse dt h ps) := fun _ => ⟨rfl, rfl, rfl⟩
theorem chMulti (dt : Nat) (h : CmdHeader) (ps : List Byte) : Statement (.chMulti dt h ps) := fun _ => ⟨rfl, rfl, rfl⟩
theorem chClear (dt : Nat) (h : CmdHeader) (ps : List Byte) : Statement (.chClear dt h ps) := fun _ => ⟨rfl, rfl, rfl⟩
theorem recInfo (dt : Nat) (h : CmdHeader) (ps : List Byte) : Statement (.recInfo dt h ps) := fun _ => ⟨rfl, rfl, rfl⟩
theorem recRead (dt : Nat) (h : CmdHeader) (ps : List Byte) : Statement (.recRead dt h ps) := fun _ => ⟨rfl, rfl, rfl⟩
theorem recClear (dt : Nat) (h : CmdHeader) (ps : List Byte) : Statement (.recClear dt h ps) := fun _ => ⟨rfl, rfl, rfl⟩
theorem loopOpen (dt : Nat) (h : CmdHeader) (ps : List Byte) : Statement (.loopOpen dt h ps) := fun _ => ⟨rfl, rfl, rfl⟩
theorem loopClose (dt : Nat) (h : CmdHeader) (ps : List Byte) : Statement (.loopClose dt h ps) := fun _ => ⟨rfl, rfl, rfl⟩
theorem loopManual (dt : Nat) (h : CmdHeader) (ps : List Byte) : Statement (.loopManual dt h ps) := fun _ => ⟨rfl, rfl, rfl⟩
theorem coefWrite (dt : Nat) (h : CmdHeader) (ps : List Byte) : Statement (.coefWrite dt h ps) := fun _ => ⟨rfl, rfl, rfl⟩
theorem slotRead (dt : Nat) (h : CmdHeader) (ps : List Byte) : Statement (.slotRead dt h ps) := fun _ => ⟨rfl, rfl, rfl⟩
theorem tuneStart (dt : Nat) (h : CmdHeader) (ps : List Byte) : Statement (.tuneStart dt h ps) := fun _ => ⟨rfl, rfl, rfl⟩
theorem tuneStop (dt : Nat) (h : CmdHeader) (ps : List Byte) : Statement (.tuneStop dt h ps) := fun _ => ⟨rfl, rfl, rfl⟩
theorem tuneResult (dt : Nat) (h : CmdHeader) (ps : List Byte) : Statement (.tuneResult dt h ps) := fun _ => ⟨rfl, rfl, rfl⟩
theorem slotDisable (dt : Nat) (h : CmdHeader) (ps : List Byte) : Statement (.slotDisable dt h ps) := fun _ => ⟨rfl, rfl, rfl⟩
theorem fwStatus (dt : Nat) (h : CmdHeader) (ps : List Byte) : Statement (.fwStatus dt h ps) := fun _ => ⟨rfl, rfl, rfl⟩
theorem fwBegin (dt : Nat) (h : CmdHeader) (ps : List Byte) : Statement (.fwBegin dt h ps) := fun _ => ⟨rfl, rfl, rfl⟩
theorem fwWrite (dt : Nat) (h : CmdHeader) (ps : List Byte) : Statement (.fwWrite dt h ps) := fun _ => ⟨rfl, rfl, rfl⟩
theorem fwVerify (dt : Nat) (h : CmdHeader) (ps : List Byte) : Statement (.fwVerify dt h ps) := fun _ => ⟨rfl, rfl, rfl⟩
theorem fwActivate (dt : Nat) (h : CmdHeader) (ps : List Byte) : Statement (.fwActivate dt h ps) := fun _ => ⟨rfl, rfl, rfl⟩
theorem fwConfirm (dt : Nat) (h : CmdHeader) (ps : List Byte) : Statement (.fwConfirm dt h ps) := fun _ => ⟨rfl, rfl, rfl⟩
theorem fwRevert (dt : Nat) (h : CmdHeader) (ps : List Byte) : Statement (.fwRevert dt h ps) := fun _ => ⟨rfl, rfl, rfl⟩
theorem sealStatus (dt : Nat) (h : CmdHeader) (ps : List Byte) : Statement (.sealStatus dt h ps) := fun _ => ⟨rfl, rfl, rfl⟩
theorem sealCommit (dt : Nat) (h : CmdHeader) (ps : List Byte) : Statement (.sealCommit dt h ps) := fun _ => ⟨rfl, rfl, rfl⟩
theorem sealDiscard (dt : Nat) (h : CmdHeader) (ps : List Byte) : Statement (.sealDiscard dt h ps) := fun _ => ⟨rfl, rfl, rfl⟩
theorem sealImageRead (dt : Nat) (h : CmdHeader) (ps : List Byte) : Statement (.sealImageRead dt h ps) := fun _ => ⟨rfl, rfl, rfl⟩
theorem evtPendingClear (dt : Nat) (h : CmdHeader) (hi : Bool) (value : BitVec 32) : Statement (.evtPendingClear dt h hi value) := fun _ => ⟨rfl, rfl, rfl⟩
theorem satSeenClear (dt : Nat) (h : CmdHeader) (slot : SlotId) (value : BitVec 16) : Statement (.satSeenClear dt h slot value) := fun _ => ⟨rfl, rfl, rfl⟩
theorem obstStatusClear (dt : Nat) (h : CmdHeader) (value : BitVec 16) : Statement (.obstStatusClear dt h value) := fun _ => ⟨rfl, rfl, rfl⟩
theorem shutdownSeenClear (dt : Nat) (h : CmdHeader) (value : BitVec 16) : Statement (.shutdownSeenClear dt h value) := fun _ => ⟨rfl, rfl, rfl⟩
theorem canFlagsClear (dt : Nat) (h : CmdHeader) (n : CanId) (value : Byte) : Statement (.canFlagsClear dt h n value) := fun _ => ⟨rfl, rfl, rfl⟩
theorem fricReset (dt : Nat) (h : CmdHeader) (value : Byte) : Statement (.fricReset dt h value) := fun _ => ⟨rfl, rfl, rfl⟩
theorem fbArm (dt : Nat) (h : CmdHeader) (value : Byte) : Statement (.fbArm dt h value) := fun _ => ⟨rfl, rfl, rfl⟩
theorem fbCountClear (dt : Nat) (h : CmdHeader) (value : Byte) : Statement (.fbCountClear dt h value) := fun _ => ⟨rfl, rfl, rfl⟩
theorem fbTypeWrite (dt : Nat) (h : CmdHeader) (value : Byte) : Statement (.fbTypeWrite dt h value) := fun _ => ⟨rfl, rfl, rfl⟩
theorem spiWrite (dt : Nat) (bytes : List Byte) (cut : Bool) : Statement (.spiWrite dt bytes cut) := fun _ => ⟨rfl, rfl, rfl⟩
theorem spiRead (dt : Nat) (clocked : Nat) : Statement (.spiRead dt clocked) := fun _ => ⟨rfl, rfl, rfl⟩
theorem spiPoll (dt : Nat) (clocked : Nat) : Statement (.spiPoll dt clocked) := fun _ => ⟨rfl, rfl, rfl⟩
theorem mirquaSegmentReceived (dt : Nat) (f : CanFrame) : Statement (.mirquaSegmentReceived dt f) := fun _ => ⟨rfl, rfl, rfl⟩
theorem segmentGapTimeout (dt : Nat) : Statement (.segmentGapTimeout dt) := fun _ => ⟨rfl, rfl, rfl⟩
theorem mirquaSegmentSent (dt : Nat) : Statement (.mirquaSegmentSent dt) := fun _ => ⟨rfl, rfl, rfl⟩
theorem interpreterTurn (dt : Nat) : Statement (.interpreterTurn dt) := fun _ => ⟨rfl, rfl, rfl⟩
theorem porNRelease (dt : Nat) (sresetA sresetB : Bool) : Statement (.porNRelease dt sresetA sresetB) := fun _ => ⟨rfl, rfl, rfl⟩
theorem logicSupplyLost (dt : Nat) : Statement (.logicSupplyLost dt) := fun _ => ⟨rfl, rfl, rfl⟩
theorem initRetry (dt : Nat) (i : InitInputs) : Statement (.initRetry dt i) := fun _ => ⟨rfl, rfl, rfl⟩
theorem initComplete (dt : Nat) (i : InitInputs) : Statement (.initComplete dt i) := fun _ => ⟨rfl, rfl, rfl⟩
theorem testComplete (dt : Nat) (fails : BitVec 16) : Statement (.testComplete dt fails) := fun _ => ⟨rfl, rfl, rfl⟩
theorem recorderScanDone (dt : Nat) (torn : List Nat) (badBlocks : List Nat) : Statement (.recorderScanDone dt torn badBlocks) := fun _ => ⟨rfl, rfl, rfl⟩
theorem sealLoadComplete (dt : Nat) : Statement (.sealLoadComplete dt) := fun _ => ⟨rfl, rfl, rfl⟩
theorem sealRead (dt : Nat) (first second : BitVec 16) : Statement (.sealRead dt first second) := fun _ => ⟨rfl, rfl, rfl⟩
theorem sealShadowCheck (dt : Nat) (regsEqual : Bool) : Statement (.sealShadowCheck dt regsEqual) := fun _ => ⟨rfl, rfl, rfl⟩
theorem sealBlockReverify (dt : Nat) (readable : Bool) : Statement (.sealBlockReverify dt readable) := fun _ => ⟨rfl, rfl, rfl⟩
theorem sealCommitDone (dt : Nat) : Statement (.sealCommitDone dt) := fun _ => ⟨rfl, rfl, rfl⟩
theorem prepareReceived (dt : Nat) (d : DieId) (canEnter : Bool) : Statement (.prepareReceived dt d canEnter) := fun _ => ⟨rfl, rfl, rfl⟩
theorem ackDeadline (dt : Nat) : Statement (.ackDeadline dt) := fun _ => ⟨rfl, rfl, rfl⟩
theorem commitReceived (dt : Nat) (d : DieId) : Statement (.commitReceived dt d) := fun _ => ⟨rfl, rfl, rfl⟩
theorem abortReceived (dt : Nat) (d : DieId) : Statement (.abortReceived dt d) := fun _ => ⟨rfl, rfl, rfl⟩
theorem safeReceived (dt : Nat) (d : DieId) : Statement (.safeReceived dt d) := fun _ => ⟨rfl, rfl, rfl⟩
theorem epochCommitTime (dt : Nat) : Statement (.epochCommitTime dt) := fun _ => ⟨rfl, rfl, rfl⟩
theorem commitRepeat (dt : Nat) : Statement (.commitRepeat dt) := fun _ => ⟨rfl, rfl, rfl⟩
theorem heartbeat (dt : Nat) (reached : BitVec 8) : Statement (.heartbeat dt reached) := fun _ => ⟨rfl, rfl, rfl⟩
theorem heartbeatLoss (dt : Nat) (d : DieId) : Statement (.heartbeatLoss dt d) := fun _ => ⟨rfl, rfl, rfl⟩
theorem tsCorrection (dt : Nat) (d : DieId) (offset : Option Int) : Statement (.tsCorrection dt d offset) := fun _ => ⟨rfl, rfl, rfl⟩
theorem eventArrival (dt : Nat) (d : DieId) : Statement (.eventArrival dt d) := fun _ => ⟨rfl, rfl, rfl⟩
theorem eventRelease (dt : Nat) : Statement (.eventRelease dt) := fun _ => ⟨rfl, rfl, rfl⟩
theorem sequencerEvaluation (dt : Nat) (p : PortalId) : Statement (.sequencerEvaluation dt p) := fun _ => ⟨rfl, rfl, rfl⟩
theorem transitionTimeout (dt : Nat) (p : PortalId) : Statement (.transitionTimeout dt p) := fun _ => ⟨rfl, rfl, rfl⟩
theorem closeWarningEnd (dt : Nat) (p : PortalId) : Statement (.closeWarningEnd dt p) := fun _ => ⟨rfl, rfl, rfl⟩
theorem recloseDwellEnd (dt : Nat) (p : PortalId) : Statement (.recloseDwellEnd dt p) := fun _ => ⟨rfl, rfl, rfl⟩
theorem obstOpenPauseEnd (dt : Nat) (p : PortalId) : Statement (.obstOpenPauseEnd dt p) := fun _ => ⟨rfl, rfl, rfl⟩
theorem lockSettleElapsed (dt : Nat) (p : PortalId) : Statement (.lockSettleElapsed dt p) := fun _ => ⟨rfl, rfl, rfl⟩
theorem jogRenewalTimeout (dt : Nat) (p : PortalId) (lock : Bool) : Statement (.jogRenewalTimeout dt p lock) := fun _ => ⟨rfl, rfl, rfl⟩
theorem localOpenRequest (dt : Nat) (p : PortalId) : Statement (.localOpenRequest dt p) := fun _ => ⟨rfl, rfl, rfl⟩
theorem safetyInputChange (dt : Nat) (p : PortalId) (n : Fin 12) (level : Bool) : Statement (.safetyInputChange dt p n level) := fun _ => ⟨rfl, rfl, rfl⟩
theorem siDiscrepancy (dt : Nat) (p : PortalId) (pair : Fin 3) : Statement (.siDiscrepancy dt p pair) := fun _ => ⟨rfl, rfl, rfl⟩
theorem siDiscrepancyClear (dt : Nat) (p : PortalId) (pair : Fin 3) : Statement (.siDiscrepancyClear dt p pair) := fun _ => ⟨rfl, rfl, rfl⟩
theorem siPlausibility (dt : Nat) (p : PortalId) (chk : Fin 3) : Statement (.siPlausibility dt p chk) := fun _ => ⟨rfl, rfl, rfl⟩
theorem siPlausibilityClear (dt : Nat) (p : PortalId) (chk : Fin 3) : Statement (.siPlausibilityClear dt p chk) := fun _ => ⟨rfl, rfl, rfl⟩
theorem zsInputChange (dt : Nat) (isB : Bool) (level : Bool) : Statement (.zsInputChange dt isB level) := fun _ => ⟨rfl, rfl, rfl⟩
theorem zsDiscrepancy (dt : Nat) : Statement (.zsDiscrepancy dt) := fun _ => ⟨rfl, rfl, rfl⟩
theorem zsFaultClear (dt : Nat) : Statement (.zsFaultClear dt) := fun _ => ⟨rfl, rfl, rfl⟩
theorem gpiChange (dt : Nat) (n : Fin 10) (level : Bool) : Statement (.gpiChange dt n level) := fun _ => ⟨rfl, rfl, rfl⟩
theorem dclFwRenewal (dt : Nat) : Statement (.dclFwRenewal dt) := fun _ => ⟨rfl, rfl, rfl⟩
theorem fwStall (dt : Nat) : Statement (.fwStall dt) := fun _ => ⟨rfl, rfl, rfl⟩
theorem dclInputFrame (dt : Nat) (d : PdId) : Statement (.dclInputFrame dt d) := fun _ => ⟨rfl, rfl, rfl⟩
theorem dclFrameMissing (dt : Nat) (d : PdId) : Statement (.dclFrameMissing dt d) := fun _ => ⟨rfl, rfl, rfl⟩
theorem dclTermCompare (dt : Nat) : Statement (.dclTermCompare dt) := fun _ => ⟨rfl, rfl, rfl⟩
theorem dclTermDisagree (dt : Nat) (p : PortalId) : Statement (.dclTermDisagree dt p) := fun _ => ⟨rfl, rfl, rfl⟩
theorem dclTermAgree (dt : Nat) (p : PortalId) : Statement (.dclTermAgree dt p) := fun _ => ⟨rfl, rfl, rfl⟩
theorem dclHalfPeriod (dt : Nat) : Statement (.dclHalfPeriod dt) := fun _ => ⟨rfl, rfl, rfl⟩
theorem dclBallCheck (dt : Nat) (ballA ballB : Bool) : Statement (.dclBallCheck dt ballA ballB) := fun _ => ⟨rfl, rfl, rfl⟩
theorem dclReadbackChange (dt : Nat) (isB : Bool) (level : Bool) : Statement (.dclReadbackChange dt isB level) := fun _ => ⟨rfl, rfl, rfl⟩
theorem dclPickupDropTimeout (dt : Nat) (isB : Bool) : Statement (.dclPickupDropTimeout dt isB) := fun _ => ⟨rfl, rfl, rfl⟩
theorem safetyResetEdge (dt : Nat) (a b : Bool) : Statement (.safetyResetEdge dt a b) := fun _ => ⟨rfl, rfl, rfl⟩
theorem safetyResetJam (dt : Nat) : Statement (.safetyResetJam dt) := fun _ => ⟨rfl, rfl, rfl⟩
theorem gdFault (dt : Nat) (p : PortalId) (pin : GdPin) : Statement (.gdFault dt p pin) := fun _ => ⟨rfl, rfl, rfl⟩
theorem overcurrentTrip (dt : Nat) (p : PortalId) (l : LeafId) (phaseV : Bool) (y : Nat × Nat) : Statement (.overcurrentTrip dt p l phaseV y) := fun _ => ⟨rfl, rfl, rfl⟩
theorem vbusOver (dt : Nat) (p : PortalId) (y : Nat) : Statement (.vbusOver dt p y) := fun _ => ⟨rfl, rfl, rfl⟩
theorem vbusUnder (dt : Nat) (p : PortalId) (y : Nat) : Statement (.vbusUnder dt p y) := fun _ => ⟨rfl, rfl, rfl⟩
theorem sdClock (dt : Nat) (p : PortalId) (c : ClockCheck) : Statement (.sdClock dt p c) := fun _ => ⟨rfl, rfl, rfl⟩
theorem sdStuck (dt : Nat) (p : PortalId) (which : Fin 3) : Statement (.sdStuck dt p which) := fun _ => ⟨rfl, rfl, rfl⟩
theorem hallEdge (dt : Nat) (p : PortalId) (l : LeafId) (code : BitVec 3) : Statement (.hallEdge dt p l code) := fun _ => ⟨rfl, rfl, rfl⟩
theorem hallTimeout (dt : Nat) (p : PortalId) (l : LeafId) : Statement (.hallTimeout dt p l) := fun _ => ⟨rfl, rfl, rfl⟩
theorem driveStartDelayEnd (dt : Nat) (p : PortalId) (l : LeafId) : Statement (.driveStartDelayEnd dt p l) := fun _ => ⟨rfl, rfl, rfl⟩
theorem alignTimeEnd (dt : Nat) (p : PortalId) (l : LeafId) : Statement (.alignTimeEnd dt p l) := fun _ => ⟨rfl, rfl, rfl⟩
theorem brakeEnd (dt : Nat) (p : PortalId) (l : LeafId) : Statement (.brakeEnd dt p l) := fun _ => ⟨rfl, rfl, rfl⟩
theorem currentTick (dt : Nat) (p : PortalId) (l : LeafId) (smp : CurrentSample) : Statement (.currentTick dt p l smp) := fun _ => ⟨rfl, rfl, rfl⟩
theorem datapathResidueClear (dt : Nat) (p : PortalId) (l : LeafId) : Statement (.datapathResidueClear dt p l) := fun _ => ⟨rfl, rfl, rfl⟩
theorem directionFault (dt : Nat) (p : PortalId) (l : LeafId) : Statement (.directionFault dt p l) := fun _ => ⟨rfl, rfl, rfl⟩
theorem chopAdapt (dt : Nat) (p : PortalId) (l : LeafId) (arm : List SincSample) : Statement (.chopAdapt dt p l arm) := fun _ => ⟨rfl, rfl, rfl⟩
theorem profileTick (dt : Nat) (p : PortalId) (l : LeafId) : Statement (.profileTick dt p l) := fun _ => ⟨rfl, rfl, rfl⟩
theorem slotTick (dt : Nat) (d : PdId) (n : SlotId) (residue : Bool) : Statement (.slotTick dt d n residue) := fun _ => ⟨rfl, rfl, rfl⟩
theorem slotResidueClear (dt : Nat) (d : PdId) (n : SlotId) : Statement (.slotResidueClear dt d n) := fun _ => ⟨rfl, rfl, rfl⟩
theorem checkerSelfTest (dt : Nat) (d : PdId) (flagged : Bool) : Statement (.checkerSelfTest dt d flagged) := fun _ => ⟨rfl, rfl, rfl⟩
theorem tuneEnd (dt : Nat) (d : PdId) (n : SlotId) : Statement (.tuneEnd dt d n) := fun _ => ⟨rfl, rfl, rfl⟩
theorem obstacleDeclared (dt : Nat) (p : PortalId) (l : LeafId) : Statement (.obstacleDeclared dt p l) := fun _ => ⟨rfl, rfl, rfl⟩
theorem energyFenceBrake (dt : Nat) (p : PortalId) (l : LeafId) : Statement (.energyFenceBrake dt p l) := fun _ => ⟨rfl, rfl, rfl⟩
theorem energyBrakeRelease (dt : Nat) (p : PortalId) (l : LeafId) : Statement (.energyBrakeRelease dt p l) := fun _ => ⟨rfl, rfl, rfl⟩
theorem fenceSelfTest (dt : Nat) (p : PortalId) (l : LeafId) (pass : Bool) : Statement (.fenceSelfTest dt p l pass) := fun _ => ⟨rfl, rfl, rfl⟩
theorem mapSave (dt : Nat) (p : PortalId) (l : LeafId) : Statement (.mapSave dt p l) := fun _ => ⟨rfl, rfl, rfl⟩
theorem stepRecompute (dt : Nat) (smp : StepSample) : Statement (.stepRecompute dt smp) := fun _ => ⟨rfl, rfl, rfl⟩
theorem stepBridgeFault (dt : Nat) (p : PortalId) (flt : StepFaultIn) (first second : Nat) : Statement (.stepBridgeFault dt p flt first second) := fun _ => ⟨rfl, rfl, rfl⟩
theorem stepStill (dt : Nat) (p : PortalId) : Statement (.stepStill dt p) := fun _ => ⟨rfl, rfl, rfl⟩
theorem homeInputAccepted (dt : Nat) (p : PortalId) : Statement (.homeInputAccepted dt p) := fun _ => ⟨rfl, rfl, rfl⟩
theorem homingFailure (dt : Nat) (p : PortalId) : Statement (.homingFailure dt p) := fun _ => ⟨rfl, rfl, rfl⟩
theorem posDeviation (dt : Nat) (p : PortalId) : Statement (.posDeviation dt p) := fun _ => ⟨rfl, rfl, rfl⟩
theorem f2ConfirmWindowEnd (dt : Nat) (p : PortalId) : Statement (.f2ConfirmWindowEnd dt p) := fun _ => ⟨rfl, rfl, rfl⟩
theorem quietTrim (dt : Nat) (p : PortalId) (ys : List (Nat × Nat)) : Statement (.quietTrim dt p ys) := fun _ => ⟨rfl, rfl, rfl⟩
theorem fbCountChange (dt : Nat) (p : PortalId) (f : FbId) (a b z : Bool) : Statement (.fbCountChange dt p f a b z) := fun _ => ⟨rfl, rfl, rfl⟩
theorem indexEdge (dt : Nat) (p : PortalId) (f : FbId) (pins : AbzPins) : Statement (.indexEdge dt p f pins) := fun _ => ⟨rfl, rfl, rfl⟩
theorem ssiFrame (dt : Nat) (p : PortalId) (f : FbId) (raw : BitVec 32) (edges : Nat) (dataHigh : Bool) : Statement (.ssiFrame dt p f raw edges dataHigh) := fun _ => ⟨rfl, rfl, rfl⟩
theorem observerTick (dt : Nat) (p : PortalId) (f : FbId) : Statement (.observerTick dt p f) := fun _ => ⟨rfl, rfl, rfl⟩
theorem tStillExpiry (dt : Nat) (p : PortalId) (f : FbId) : Statement (.tStillExpiry dt p f) := fun _ => ⟨rfl, rfl, rfl⟩
theorem closedContactReference (dt : Nat) (p : PortalId) (l : LeafId) : Statement (.closedContactReference dt p l) := fun _ => ⟨rfl, rfl, rfl⟩
theorem fbFaultClear (dt : Nat) (p : PortalId) (f : FbId) (n : Fin 6) : Statement (.fbFaultClear dt p f n) := fun _ => ⟨rfl, rfl, rfl⟩
theorem echoOutputStep (dt : Nat) (p : PortalId) : Statement (.echoOutputStep dt p) := fun _ => ⟨rfl, rfl, rfl⟩
theorem channelPeriodStart (dt : Nat) (p : PortalId) (c : ChanId) (vls : Int) (iAvg : Nat) (iOn : Option Nat) : Statement (.channelPeriodStart dt p c vls iAvg iOn) := fun _ => ⟨rfl, rfl, rfl⟩
theorem pullInEnd (dt : Nat) (p : PortalId) (c : ChanId) : Statement (.pullInEnd dt p c) := fun _ => ⟨rfl, rfl, rfl⟩
theorem chPulseEnd (dt : Nat) (p : PortalId) (c : ChanId) : Statement (.chPulseEnd dt p c) := fun _ => ⟨rfl, rfl, rfl⟩
theorem channelLimitShutdown (dt : Nat) (p : PortalId) (c : ChanId) (peak : Nat) : Statement (.channelLimitShutdown dt p c peak) := fun _ => ⟨rfl, rfl, rfl⟩
theorem channelFastOff (dt : Nat) (p : PortalId) (c : ChanId) (peak : Nat) : Statement (.channelFastOff dt p c peak) := fun _ => ⟨rfl, rfl, rfl⟩
theorem retryIntervalEnd (dt : Nat) (p : PortalId) (c : ChanId) : Statement (.retryIntervalEnd dt p c) := fun _ => ⟨rfl, rfl, rfl⟩
theorem retryCountReset (dt : Nat) (p : PortalId) (c : ChanId) : Statement (.retryCountReset dt p c) := fun _ => ⟨rfl, rfl, rfl⟩
theorem channelTemperature (dt : Nat) (p : PortalId) (c : ChanId) (temp : Int) : Statement (.channelTemperature dt p c temp) := fun _ => ⟨rfl, rfl, rfl⟩
theorem supplyAnomaly (dt : Nat) (p : PortalId) (k : SupplyKind) (mv : Int) (gndMv : Nat) : Statement (.supplyAnomaly dt p k mv gndMv) := fun _ => ⟨rfl, rfl, rfl⟩
theorem lockstepMismatch (dt : Nat) (d : Fin 3) (a : Attribution) : Statement (.lockstepMismatch dt d a) := fun _ => ⟨rfl, rfl, rfl⟩
theorem signatureExchange (dt : Nat) (d : Fin 3) (agree : Bool) (part : Fin 5) : Statement (.signatureExchange dt d agree part) := fun _ => ⟨rfl, rfl, rfl⟩
theorem comparatorSelfTest (dt : Nat) (d : Fin 3) (pass : Bool) : Statement (.comparatorSelfTest dt d pass) := fun _ => ⟨rfl, rfl, rfl⟩
theorem coreWatchdogExpiry (dt : Nat) (d : Fin 3) (part : Fin 5) : Statement (.coreWatchdogExpiry dt d part) := fun _ => ⟨rfl, rfl, rfl⟩
theorem restartComplete (dt : Nat) (d : Fin 3) (imageOk : Bool) : Statement (.restartComplete dt d imageOk) := fun _ => ⟨rfl, rfl, rfl⟩
theorem recoveryComplete (dt : Nat) (d : Fin 3) : Statement (.recoveryComplete dt d) := fun _ => ⟨rfl, rfl, rfl⟩
theorem splitHandoverDone (dt : Nat) (d : Fin 3) (agree : Bool) : Statement (.splitHandoverDone dt d agree) := fun _ => ⟨rfl, rfl, rfl⟩
theorem diagnosticFailed (dt : Nat) (d : Fin 3) : Statement (.diagnosticFailed dt d) := fun _ => ⟨rfl, rfl, rfl⟩
theorem eccError (dt : Nat) (d : DieId) (memory : Fin 3) (region : Fin 10) (uncorrectable : Bool) (index : Nat) : Statement (.eccError dt d memory region uncorrectable index) := fun _ => ⟨rfl, rfl, rfl⟩
theorem claimFrameStart (dt : Nat) (smp : ClaimSample) : Statement (.claimFrameStart dt smp) := fun _ => ⟨rfl, rfl, rfl⟩
theorem claimFrameEnd (dt : Nat) (st : ClaimStatus) : Statement (.claimFrameEnd dt st) := fun _ => ⟨rfl, rfl, rfl⟩
theorem swetricLinkChange (dt : Nat) (up : Bool) : Statement (.swetricLinkChange dt up) := fun _ => ⟨rfl, rfl, rfl⟩
theorem capSend (dt : Nat) : Statement (.capSend dt) := fun _ => ⟨rfl, rfl, rfl⟩
theorem capReceived (dt : Nat) (cap : CapFrame) : Statement (.capReceived dt cap) := fun _ => ⟨rfl, rfl, rfl⟩
theorem heartbeatSend (dt : Nat) : Statement (.heartbeatSend dt) := fun _ => ⟨rfl, rfl, rfl⟩
theorem heartbeatReceived (dt : Nat) (hb : HeartbeatFrame) : Statement (.heartbeatReceived dt hb) := fun _ => ⟨rfl, rfl, rfl⟩
theorem partnerLost (dt : Nat) : Statement (.partnerLost dt) := fun _ => ⟨rfl, rfl, rfl⟩
theorem snapshotTake (dt : Nat) (ready : Bool) : Statement (.snapshotTake dt ready) := fun _ => ⟨rfl, rfl, rfl⟩
theorem snapshotReceived (dt : Nat) (snap : Snapshot) : Statement (.snapshotReceived dt snap) := fun _ => ⟨rfl, rfl, rfl⟩
theorem yieldTimeout (dt : Nat) : Statement (.yieldTimeout dt) := fun _ => ⟨rfl, rfl, rfl⟩
theorem canFrameReceived (dt : Nat) (n : CanId) (f : CanFrame) (sof : Nat) : Statement (.canFrameReceived dt n f sof) := fun _ => ⟨rfl, rfl, rfl⟩
theorem canTxOutcome (dt : Nat) (n : CanId) (m : Fin 16) (e : TxEnd) (loopDelay : Nat) : Statement (.canTxOutcome dt n m e loopDelay) := fun _ => ⟨rfl, rfl, rfl⟩
theorem canDeadlineStale (dt : Nat) (n : CanId) (m : Fin 16) : Statement (.canDeadlineStale dt n m) := fun _ => ⟨rfl, rfl, rfl⟩
theorem canError (dt : Nat) (n : CanId) (k : CanErrKind) (transmitting severe : Bool) : Statement (.canError dt n k transmitting severe) := fun _ => ⟨rfl, rfl, rfl⟩
theorem busOffRecovered (dt : Nat) (n : CanId) : Statement (.busOffRecovered dt n) := fun _ => ⟨rfl, rfl, rfl⟩
theorem detectWindowEnd (dt : Nat) (n : CanId) : Statement (.detectWindowEnd dt n) := fun _ => ⟨rfl, rfl, rfl⟩
theorem detectTimeout (dt : Nat) (n : CanId) : Statement (.detectTimeout dt n) := fun _ => ⟨rfl, rfl, rfl⟩
theorem wakeEdge (dt : Nat) (n : CanId) (dominant : Nat) : Statement (.wakeEdge dt n dominant) := fun _ => ⟨rfl, rfl, rfl⟩
theorem protocolException (dt : Nat) (n : CanId) : Statement (.protocolException dt n) := fun _ => ⟨rfl, rfl, rfl⟩
theorem dclTelegramSend (dt : Nat) : Statement (.dclTelegramSend dt) := fun _ => ⟨rfl, rfl, rfl⟩
theorem doorStateSend (dt : Nat) : Statement (.doorStateSend dt) := fun _ => ⟨rfl, rfl, rfl⟩
theorem telegramCopyReceived (dt : Nat) (release : Bool) (netB : Bool) (f : CanFrame) (sof : Nat) : Statement (.telegramCopyReceived dt release netB f sof) := fun _ => ⟨rfl, rfl, rfl⟩
theorem pairingWindowClose (dt : Nat) (release : Bool) : Statement (.pairingWindowClose dt release) := fun _ => ⟨rfl, rfl, rfl⟩
theorem streamTimeout (dt : Nat) (release : Bool) : Statement (.streamTimeout dt release) := fun _ => ⟨rfl, rfl, rfl⟩
theorem recordWrite (dt : Nat) : Statement (.recordWrite dt) := fun _ => ⟨rfl, rfl, rfl⟩
theorem writeCreditRegain (dt : Nat) : Statement (.writeCreditRegain dt) := fun _ => ⟨rfl, rfl, rfl⟩
theorem lossSummary (dt : Nat) : Statement (.lossSummary dt) := fun _ => ⟨rfl, rfl, rfl⟩
theorem counterSave (dt : Nat) : Statement (.counterSave dt) := fun _ => ⟨rfl, rfl, rfl⟩
theorem opSecond (dt : Nat) : Statement (.opSecond dt) := fun _ => ⟨rfl, rfl, rfl⟩
theorem pfail (dt : Nat) : Statement (.pfail dt) := fun _ => ⟨rfl, rfl, rfl⟩
theorem powerFailFlush (dt : Nat) : Statement (.powerFailFlush dt) := fun _ => ⟨rfl, rfl, rfl⟩
theorem refclkFault (dt : Nat) : Statement (.refclkFault dt) := fun _ => ⟨rfl, rfl, rfl⟩
theorem pllUnlock (dt : Nat) (d : DieId) : Statement (.pllUnlock dt d) := fun _ => ⟨rfl, rfl, rfl⟩
theorem dieTemperature (dt : Nat) (d : DieId) (temp : Int) : Statement (.dieTemperature dt d temp) := fun _ => ⟨rfl, rfl, rfl⟩
theorem watchdogExpiry (dt : Nat) : Statement (.watchdogExpiry dt) := fun _ => ⟨rfl, rfl, rfl⟩
theorem dealimLinkFault (dt : Nat) (link : Fin 11) (kind : Fin 3) (farEnd : Bool) : Statement (.dealimLinkFault dt link kind farEnd) := fun _ => ⟨rfl, rfl, rfl⟩
theorem pllRelock (dt : Nat) (d : DieId) : Statement (.pllRelock dt d) := fun _ => ⟨rfl, rfl, rfl⟩
theorem fwVerifyDone (dt : Nat) : Statement (.fwVerifyDone dt) := fun _ => ⟨rfl, rfl, rfl⟩
theorem debugInstruction (dt : Nat) (i : DebugInstr) : Statement (.debugInstruction dt i) := fun _ => ⟨rfl, rfl, rfl⟩
theorem busIntegration (dt : Nat) (n : CanId) : Statement (.busIntegration dt n) := fun _ => ⟨rfl, rfl, rfl⟩
theorem homeInputInactive (dt : Nat) (p : PortalId) : Statement (.homeInputInactive dt p) := fun _ => ⟨rfl, rfl, rfl⟩

end Sys2Proof.Laws.Retimed
end

