-- ==== Sys2Proof/Laws/State.lean ====
section
/-! SUPPORT. What the named updates of the state change and what they leave: one lemma per field per update. -/

namespace Sys2Proof.Machine

/-! ### setPortal -/

@[simp] theorem State.setPortal_pending (s : State) (p : PortalId) (x : Portal) : (s.setPortal p x).pending = s.pending := rfl
@[simp] theorem State.setPortal_ts (s : State) (p : PortalId) (x : Portal) : (s.setPortal p x).ts = s.ts := rfl
@[simp] theorem State.setPortal_mode (s : State) (p : PortalId) (x : Portal) : (s.setPortal p x).mode = s.mode := rfl
@[simp] theorem State.setPortal_modeCause (s : State) (p : PortalId) (x : Portal) : (s.setPortal p x).modeCause = s.modeCause := rfl
@[simp] theorem State.setPortal_epoch (s : State) (p : PortalId) (x : Portal) : (s.setPortal p x).epoch = s.epoch := rfl
@[simp] theorem State.setPortal_commit (s : State) (p : PortalId) (x : Portal) : (s.setPortal p x).commit = s.commit := rfl
@[simp] theorem State.setPortal_retry (s : State) (p : PortalId) (x : Portal) : (s.setPortal p x).retry = s.retry := rfl
@[simp] theorem State.setPortal_dies (s : State) (p : PortalId) (x : Portal) : (s.setPortal p x).dies = s.dies := rfl
@[simp] theorem State.setPortal_waiting (s : State) (p : PortalId) (x : Portal) : (s.setPortal p x).waiting = s.waiting := rfl
@[simp] theorem State.setPortal_buffer (s : State) (p : PortalId) (x : Portal) : (s.setPortal p x).buffer = s.buffer := rfl
@[simp] theorem State.setPortal_lostEvents (s : State) (p : PortalId) (x : Portal) : (s.setPortal p x).lostEvents = s.lostEvents := rfl
@[simp] theorem State.setPortal_lastRel (s : State) (p : PortalId) (x : Portal) : (s.setPortal p x).lastRel = s.lastRel := rfl
@[simp] theorem State.setPortal_evtPending (s : State) (p : PortalId) (x : Portal) : (s.setPortal p x).evtPending = s.evtPending := rfl
@[simp] theorem State.setPortal_setNow (s : State) (p : PortalId) (x : Portal) : (s.setPortal p x).setNow = s.setNow := rfl
@[simp] theorem State.setPortal_params (s : State) (p : PortalId) (x : Portal) : (s.setPortal p x).params = s.params := rfl
@[simp] theorem State.setPortal_ports (s : State) (p : PortalId) (x : Portal) : (s.setPortal p x).ports = s.ports := rfl
@[simp] theorem State.setPortal_wdg (s : State) (p : PortalId) (x : Portal) : (s.setPortal p x).wdg = s.wdg := rfl
@[simp] theorem State.setPortal_groups (s : State) (p : PortalId) (x : Portal) : (s.setPortal p x).groups = s.groups := rfl
@[simp] theorem State.setPortal_nextGroup (s : State) (p : PortalId) (x : Portal) : (s.setPortal p x).nextGroup = s.nextGroup := rfl
@[simp] theorem State.setPortal_engines (s : State) (p : PortalId) (x : Portal) : (s.setPortal p x).engines = s.engines := rfl
@[simp] theorem State.setPortal_safety (s : State) (p : PortalId) (x : Portal) : (s.setPortal p x).safety = s.safety := rfl
@[simp] theorem State.setPortal_sealer (s : State) (p : PortalId) (x : Portal) : (s.setPortal p x).sealer = s.sealer := rfl
@[simp] theorem State.setPortal_pairs (s : State) (p : PortalId) (x : Portal) : (s.setPortal p x).pairs = s.pairs := rfl
@[simp] theorem State.setPortal_claim (s : State) (p : PortalId) (x : Portal) : (s.setPortal p x).claim = s.claim := rfl
@[simp] theorem State.setPortal_partner (s : State) (p : PortalId) (x : Portal) : (s.setPortal p x).partner = s.partner := rfl
@[simp] theorem State.setPortal_cans (s : State) (p : PortalId) (x : Portal) : (s.setPortal p x).cans = s.cans := rfl
@[simp] theorem State.setPortal_tele (s : State) (p : PortalId) (x : Portal) : (s.setPortal p x).tele = s.tele := rfl
@[simp] theorem State.setPortal_recorder (s : State) (p : PortalId) (x : Portal) : (s.setPortal p x).recorder = s.recorder := rfl
@[simp] theorem State.setPortal_power (s : State) (p : PortalId) (x : Portal) : (s.setPortal p x).power = s.power := rfl
@[simp] theorem State.setPortal_linksDown (s : State) (p : PortalId) (x : Portal) : (s.setPortal p x).linksDown = s.linksDown := rfl
@[simp] theorem State.setPortal_free (s : State) (p : PortalId) (x : Portal) : (s.setPortal p x).free = s.free := rfl

/-! ### modPortal -/

@[simp] theorem State.modPortal_pending (s : State) (p : PortalId) (f : Portal → Portal) : (s.modPortal p f).pending = s.pending := rfl
@[simp] theorem State.modPortal_ts (s : State) (p : PortalId) (f : Portal → Portal) : (s.modPortal p f).ts = s.ts := rfl
@[simp] theorem State.modPortal_mode (s : State) (p : PortalId) (f : Portal → Portal) : (s.modPortal p f).mode = s.mode := rfl
@[simp] theorem State.modPortal_modeCause (s : State) (p : PortalId) (f : Portal → Portal) : (s.modPortal p f).modeCause = s.modeCause := rfl
@[simp] theorem State.modPortal_epoch (s : State) (p : PortalId) (f : Portal → Portal) : (s.modPortal p f).epoch = s.epoch := rfl
@[simp] theorem State.modPortal_commit (s : State) (p : PortalId) (f : Portal → Portal) : (s.modPortal p f).commit = s.commit := rfl
@[simp] theorem State.modPortal_retry (s : State) (p : PortalId) (f : Portal → Portal) : (s.modPortal p f).retry = s.retry := rfl
@[simp] theorem State.modPortal_dies (s : State) (p : PortalId) (f : Portal → Portal) : (s.modPortal p f).dies = s.dies := rfl
@[simp] theorem State.modPortal_waiting (s : State) (p : PortalId) (f : Portal → Portal) : (s.modPortal p f).waiting = s.waiting := rfl
@[simp] theorem State.modPortal_buffer (s : State) (p : PortalId) (f : Portal → Portal) : (s.modPortal p f).buffer = s.buffer := rfl
@[simp] theorem State.modPortal_lostEvents (s : State) (p : PortalId) (f : Portal → Portal) : (s.modPortal p f).lostEvents = s.lostEvents := rfl
@[simp] theorem State.modPortal_lastRel (s : State) (p : PortalId) (f : Portal → Portal) : (s.modPortal p f).lastRel = s.lastRel := rfl
@[simp] theorem State.modPortal_evtPending (s : State) (p : PortalId) (f : Portal → Portal) : (s.modPortal p f).evtPending = s.evtPending := rfl
@[simp] theorem State.modPortal_setNow (s : State) (p : PortalId) (f : Portal → Portal) : (s.modPortal p f).setNow = s.setNow := rfl
@[simp] theorem State.modPortal_params (s : State) (p : PortalId) (f : Portal → Portal) : (s.modPortal p f).params = s.params := rfl
@[simp] theorem State.modPortal_ports (s : State) (p : PortalId) (f : Portal → Portal) : (s.modPortal p f).ports = s.ports := rfl
@[simp] theorem State.modPortal_wdg (s : State) (p : PortalId) (f : Portal → Portal) : (s.modPortal p f).wdg = s.wdg := rfl
@[simp] theorem State.modPortal_groups (s : State) (p : PortalId) (f : Portal → Portal) : (s.modPortal p f).groups = s.groups := rfl
@[simp] theorem State.modPortal_nextGroup (s : State) (p : PortalId) (f : Portal → Portal) : (s.modPortal p f).nextGroup = s.nextGroup := rfl
@[simp] theorem State.modPortal_engines (s : State) (p : PortalId) (f : Portal → Portal) : (s.modPortal p f).engines = s.engines := rfl
@[simp] theorem State.modPortal_safety (s : State) (p : PortalId) (f : Portal → Portal) : (s.modPortal p f).safety = s.safety := rfl
@[simp] theorem State.modPortal_sealer (s : State) (p : PortalId) (f : Portal → Portal) : (s.modPortal p f).sealer = s.sealer := rfl
@[simp] theorem State.modPortal_pairs (s : State) (p : PortalId) (f : Portal → Portal) : (s.modPortal p f).pairs = s.pairs := rfl
@[simp] theorem State.modPortal_claim (s : State) (p : PortalId) (f : Portal → Portal) : (s.modPortal p f).claim = s.claim := rfl
@[simp] theorem State.modPortal_partner (s : State) (p : PortalId) (f : Portal → Portal) : (s.modPortal p f).partner = s.partner := rfl
@[simp] theorem State.modPortal_cans (s : State) (p : PortalId) (f : Portal → Portal) : (s.modPortal p f).cans = s.cans := rfl
@[simp] theorem State.modPortal_tele (s : State) (p : PortalId) (f : Portal → Portal) : (s.modPortal p f).tele = s.tele := rfl
@[simp] theorem State.modPortal_recorder (s : State) (p : PortalId) (f : Portal → Portal) : (s.modPortal p f).recorder = s.recorder := rfl
@[simp] theorem State.modPortal_power (s : State) (p : PortalId) (f : Portal → Portal) : (s.modPortal p f).power = s.power := rfl
@[simp] theorem State.modPortal_linksDown (s : State) (p : PortalId) (f : Portal → Portal) : (s.modPortal p f).linksDown = s.linksDown := rfl
@[simp] theorem State.modPortal_free (s : State) (p : PortalId) (f : Portal → Portal) : (s.modPortal p f).free = s.free := rfl

/-! ### modLeaf -/

@[simp] theorem State.modLeaf_pending (s : State) (p : PortalId) (l : LeafId) (f : Leaf → Leaf) : (s.modLeaf p l f).pending = s.pending := rfl
@[simp] theorem State.modLeaf_ts (s : State) (p : PortalId) (l : LeafId) (f : Leaf → Leaf) : (s.modLeaf p l f).ts = s.ts := rfl
@[simp] theorem State.modLeaf_mode (s : State) (p : PortalId) (l : LeafId) (f : Leaf → Leaf) : (s.modLeaf p l f).mode = s.mode := rfl
@[simp] theorem State.modLeaf_modeCause (s : State) (p : PortalId) (l : LeafId) (f : Leaf → Leaf) : (s.modLeaf p l f).modeCause = s.modeCause := rfl
@[simp] theorem State.modLeaf_epoch (s : State) (p : PortalId) (l : LeafId) (f : Leaf → Leaf) : (s.modLeaf p l f).epoch = s.epoch := rfl
@[simp] theorem State.modLeaf_commit (s : State) (p : PortalId) (l : LeafId) (f : Leaf → Leaf) : (s.modLeaf p l f).commit = s.commit := rfl
@[simp] theorem State.modLeaf_retry (s : State) (p : PortalId) (l : LeafId) (f : Leaf → Leaf) : (s.modLeaf p l f).retry = s.retry := rfl
@[simp] theorem State.modLeaf_dies (s : State) (p : PortalId) (l : LeafId) (f : Leaf → Leaf) : (s.modLeaf p l f).dies = s.dies := rfl
@[simp] theorem State.modLeaf_waiting (s : State) (p : PortalId) (l : LeafId) (f : Leaf → Leaf) : (s.modLeaf p l f).waiting = s.waiting := rfl
@[simp] theorem State.modLeaf_buffer (s : State) (p : PortalId) (l : LeafId) (f : Leaf → Leaf) : (s.modLeaf p l f).buffer = s.buffer := rfl
@[simp] theorem State.modLeaf_lostEvents (s : State) (p : PortalId) (l : LeafId) (f : Leaf → Leaf) : (s.modLeaf p l f).lostEvents = s.lostEvents := rfl
@[simp] theorem State.modLeaf_lastRel (s : State) (p : PortalId) (l : LeafId) (f : Leaf → Leaf) : (s.modLeaf p l f).lastRel = s.lastRel := rfl
@[simp] theorem State.modLeaf_evtPending (s : State) (p : PortalId) (l : LeafId) (f : Leaf → Leaf) : (s.modLeaf p l f).evtPending = s.evtPending := rfl
@[simp] theorem State.modLeaf_setNow (s : State) (p : PortalId) (l : LeafId) (f : Leaf → Leaf) : (s.modLeaf p l f).setNow = s.setNow := rfl
@[simp] theorem State.modLeaf_params (s : State) (p : PortalId) (l : LeafId) (f : Leaf → Leaf) : (s.modLeaf p l f).params = s.params := rfl
@[simp] theorem State.modLeaf_ports (s : State) (p : PortalId) (l : LeafId) (f : Leaf → Leaf) : (s.modLeaf p l f).ports = s.ports := rfl
@[simp] theorem State.modLeaf_wdg (s : State) (p : PortalId) (l : LeafId) (f : Leaf → Leaf) : (s.modLeaf p l f).wdg = s.wdg := rfl
@[simp] theorem State.modLeaf_groups (s : State) (p : PortalId) (l : LeafId) (f : Leaf → Leaf) : (s.modLeaf p l f).groups = s.groups := rfl
@[simp] theorem State.modLeaf_nextGroup (s : State) (p : PortalId) (l : LeafId) (f : Leaf → Leaf) : (s.modLeaf p l f).nextGroup = s.nextGroup := rfl
@[simp] theorem State.modLeaf_engines (s : State) (p : PortalId) (l : LeafId) (f : Leaf → Leaf) : (s.modLeaf p l f).engines = s.engines := rfl
@[simp] theorem State.modLeaf_safety (s : State) (p : PortalId) (l : LeafId) (f : Leaf → Leaf) : (s.modLeaf p l f).safety = s.safety := rfl
@[simp] theorem State.modLeaf_sealer (s : State) (p : PortalId) (l : LeafId) (f : Leaf → Leaf) : (s.modLeaf p l f).sealer = s.sealer := rfl
@[simp] theorem State.modLeaf_pairs (s : State) (p : PortalId) (l : LeafId) (f : Leaf → Leaf) : (s.modLeaf p l f).pairs = s.pairs := rfl
@[simp] theorem State.modLeaf_claim (s : State) (p : PortalId) (l : LeafId) (f : Leaf → Leaf) : (s.modLeaf p l f).claim = s.claim := rfl
@[simp] theorem State.modLeaf_partner (s : State) (p : PortalId) (l : LeafId) (f : Leaf → Leaf) : (s.modLeaf p l f).partner = s.partner := rfl
@[simp] theorem State.modLeaf_cans (s : State) (p : PortalId) (l : LeafId) (f : Leaf → Leaf) : (s.modLeaf p l f).cans = s.cans := rfl
@[simp] theorem State.modLeaf_tele (s : State) (p : PortalId) (l : LeafId) (f : Leaf → Leaf) : (s.modLeaf p l f).tele = s.tele := rfl
@[simp] theorem State.modLeaf_recorder (s : State) (p : PortalId) (l : LeafId) (f : Leaf → Leaf) : (s.modLeaf p l f).recorder = s.recorder := rfl
@[simp] theorem State.modLeaf_power (s : State) (p : PortalId) (l : LeafId) (f : Leaf → Leaf) : (s.modLeaf p l f).power = s.power := rfl
@[simp] theorem State.modLeaf_linksDown (s : State) (p : PortalId) (l : LeafId) (f : Leaf → Leaf) : (s.modLeaf p l f).linksDown = s.linksDown := rfl
@[simp] theorem State.modLeaf_free (s : State) (p : PortalId) (l : LeafId) (f : Leaf → Leaf) : (s.modLeaf p l f).free = s.free := rfl

/-! ### modDet -/

@[simp] theorem State.modDet_pending (s : State) (p : PortalId) (l : LeafId) (f : Detector → Detector) : (s.modDet p l f).pending = s.pending := rfl
@[simp] theorem State.modDet_ts (s : State) (p : PortalId) (l : LeafId) (f : Detector → Detector) : (s.modDet p l f).ts = s.ts := rfl
@[simp] theorem State.modDet_mode (s : State) (p : PortalId) (l : LeafId) (f : Detector → Detector) : (s.modDet p l f).mode = s.mode := rfl
@[simp] theorem State.modDet_modeCause (s : State) (p : PortalId) (l : LeafId) (f : Detector → Detector) : (s.modDet p l f).modeCause = s.modeCause := rfl
@[simp] theorem State.modDet_epoch (s : State) (p : PortalId) (l : LeafId) (f : Detector → Detector) : (s.modDet p l f).epoch = s.epoch := rfl
@[simp] theorem State.modDet_commit (s : State) (p : PortalId) (l : LeafId) (f : Detector → Detector) : (s.modDet p l f).commit = s.commit := rfl
@[simp] theorem State.modDet_retry (s : State) (p : PortalId) (l : LeafId) (f : Detector → Detector) : (s.modDet p l f).retry = s.retry := rfl
@[simp] theorem State.modDet_dies (s : State) (p : PortalId) (l : LeafId) (f : Detector → Detector) : (s.modDet p l f).dies = s.dies := rfl
@[simp] theorem State.modDet_waiting (s : State) (p : PortalId) (l : LeafId) (f : Detector → Detector) : (s.modDet p l f).waiting = s.waiting := rfl
@[simp] theorem State.modDet_buffer (s : State) (p : PortalId) (l : LeafId) (f : Detector → Detector) : (s.modDet p l f).buffer = s.buffer := rfl
@[simp] theorem State.modDet_lostEvents (s : State) (p : PortalId) (l : LeafId) (f : Detector → Detector) : (s.modDet p l f).lostEvents = s.lostEvents := rfl
@[simp] theorem State.modDet_lastRel (s : State) (p : PortalId) (l : LeafId) (f : Detector → Detector) : (s.modDet p l f).lastRel = s.lastRel := rfl
@[simp] theorem State.modDet_evtPending (s : State) (p : PortalId) (l : LeafId) (f : Detector → Detector) : (s.modDet p l f).evtPending = s.evtPending := rfl
@[simp] theorem State.modDet_setNow (s : State) (p : PortalId) (l : LeafId) (f : Detector → Detector) : (s.modDet p l f).setNow = s.setNow := rfl
@[simp] theorem State.modDet_params (s : State) (p : PortalId) (l : LeafId) (f : Detector → Detector) : (s.modDet p l f).params = s.params := rfl
@[simp] theorem State.modDet_ports (s : State) (p : PortalId) (l : LeafId) (f : Detector → Detector) : (s.modDet p l f).ports = s.ports := rfl
@[simp] theorem State.modDet_wdg (s : State) (p : PortalId) (l : LeafId) (f : Detector → Detector) : (s.modDet p l f).wdg = s.wdg := rfl
@[simp] theorem State.modDet_groups (s : State) (p : PortalId) (l : LeafId) (f : Detector → Detector) : (s.modDet p l f).groups = s.groups := rfl
@[simp] theorem State.modDet_nextGroup (s : State) (p : PortalId) (l : LeafId) (f : Detector → Detector) : (s.modDet p l f).nextGroup = s.nextGroup := rfl
@[simp] theorem State.modDet_engines (s : State) (p : PortalId) (l : LeafId) (f : Detector → Detector) : (s.modDet p l f).engines = s.engines := rfl
@[simp] theorem State.modDet_safety (s : State) (p : PortalId) (l : LeafId) (f : Detector → Detector) : (s.modDet p l f).safety = s.safety := rfl
@[simp] theorem State.modDet_sealer (s : State) (p : PortalId) (l : LeafId) (f : Detector → Detector) : (s.modDet p l f).sealer = s.sealer := rfl
@[simp] theorem State.modDet_pairs (s : State) (p : PortalId) (l : LeafId) (f : Detector → Detector) : (s.modDet p l f).pairs = s.pairs := rfl
@[simp] theorem State.modDet_claim (s : State) (p : PortalId) (l : LeafId) (f : Detector → Detector) : (s.modDet p l f).claim = s.claim := rfl
@[simp] theorem State.modDet_partner (s : State) (p : PortalId) (l : LeafId) (f : Detector → Detector) : (s.modDet p l f).partner = s.partner := rfl
@[simp] theorem State.modDet_cans (s : State) (p : PortalId) (l : LeafId) (f : Detector → Detector) : (s.modDet p l f).cans = s.cans := rfl
@[simp] theorem State.modDet_tele (s : State) (p : PortalId) (l : LeafId) (f : Detector → Detector) : (s.modDet p l f).tele = s.tele := rfl
@[simp] theorem State.modDet_recorder (s : State) (p : PortalId) (l : LeafId) (f : Detector → Detector) : (s.modDet p l f).recorder = s.recorder := rfl
@[simp] theorem State.modDet_power (s : State) (p : PortalId) (l : LeafId) (f : Detector → Detector) : (s.modDet p l f).power = s.power := rfl
@[simp] theorem State.modDet_linksDown (s : State) (p : PortalId) (l : LeafId) (f : Detector → Detector) : (s.modDet p l f).linksDown = s.linksDown := rfl
@[simp] theorem State.modDet_free (s : State) (p : PortalId) (l : LeafId) (f : Detector → Detector) : (s.modDet p l f).free = s.free := rfl

/-! ### modStep -/

@[simp] theorem State.modStep_pending (s : State) (p : PortalId) (f : Step → Step) : (s.modStep p f).pending = s.pending := rfl
@[simp] theorem State.modStep_ts (s : State) (p : PortalId) (f : Step → Step) : (s.modStep p f).ts = s.ts := rfl
@[simp] theorem State.modStep_mode (s : State) (p : PortalId) (f : Step → Step) : (s.modStep p f).mode = s.mode := rfl
@[simp] theorem State.modStep_modeCause (s : State) (p : PortalId) (f : Step → Step) : (s.modStep p f).modeCause = s.modeCause := rfl
@[simp] theorem State.modStep_epoch (s : State) (p : PortalId) (f : Step → Step) : (s.modStep p f).epoch = s.epoch := rfl
@[simp] theorem State.modStep_commit (s : State) (p : PortalId) (f : Step → Step) : (s.modStep p f).commit = s.commit := rfl
@[simp] theorem State.modStep_retry (s : State) (p : PortalId) (f : Step → Step) : (s.modStep p f).retry = s.retry := rfl
@[simp] theorem State.modStep_dies (s : State) (p : PortalId) (f : Step → Step) : (s.modStep p f).dies = s.dies := rfl
@[simp] theorem State.modStep_waiting (s : State) (p : PortalId) (f : Step → Step) : (s.modStep p f).waiting = s.waiting := rfl
@[simp] theorem State.modStep_buffer (s : State) (p : PortalId) (f : Step → Step) : (s.modStep p f).buffer = s.buffer := rfl
@[simp] theorem State.modStep_lostEvents (s : State) (p : PortalId) (f : Step → Step) : (s.modStep p f).lostEvents = s.lostEvents := rfl
@[simp] theorem State.modStep_lastRel (s : State) (p : PortalId) (f : Step → Step) : (s.modStep p f).lastRel = s.lastRel := rfl
@[simp] theorem State.modStep_evtPending (s : State) (p : PortalId) (f : Step → Step) : (s.modStep p f).evtPending = s.evtPending := rfl
@[simp] theorem State.modStep_setNow (s : State) (p : PortalId) (f : Step → Step) : (s.modStep p f).setNow = s.setNow := rfl
@[simp] theorem State.modStep_params (s : State) (p : PortalId) (f : Step → Step) : (s.modStep p f).params = s.params := rfl
@[simp] theorem State.modStep_ports (s : State) (p : PortalId) (f : Step → Step) : (s.modStep p f).ports = s.ports := rfl
@[simp] theorem State.modStep_wdg (s : State) (p : PortalId) (f : Step → Step) : (s.modStep p f).wdg = s.wdg := rfl
@[simp] theorem State.modStep_groups (s : State) (p : PortalId) (f : Step → Step) : (s.modStep p f).groups = s.groups := rfl
@[simp] theorem State.modStep_nextGroup (s : State) (p : PortalId) (f : Step → Step) : (s.modStep p f).nextGroup = s.nextGroup := rfl
@[simp] theorem State.modStep_engines (s : State) (p : PortalId) (f : Step → Step) : (s.modStep p f).engines = s.engines := rfl
@[simp] theorem State.modStep_safety (s : State) (p : PortalId) (f : Step → Step) : (s.modStep p f).safety = s.safety := rfl
@[simp] theorem State.modStep_sealer (s : State) (p : PortalId) (f : Step → Step) : (s.modStep p f).sealer = s.sealer := rfl
@[simp] theorem State.modStep_pairs (s : State) (p : PortalId) (f : Step → Step) : (s.modStep p f).pairs = s.pairs := rfl
@[simp] theorem State.modStep_claim (s : State) (p : PortalId) (f : Step → Step) : (s.modStep p f).claim = s.claim := rfl
@[simp] theorem State.modStep_partner (s : State) (p : PortalId) (f : Step → Step) : (s.modStep p f).partner = s.partner := rfl
@[simp] theorem State.modStep_cans (s : State) (p : PortalId) (f : Step → Step) : (s.modStep p f).cans = s.cans := rfl
@[simp] theorem State.modStep_tele (s : State) (p : PortalId) (f : Step → Step) : (s.modStep p f).tele = s.tele := rfl
@[simp] theorem State.modStep_recorder (s : State) (p : PortalId) (f : Step → Step) : (s.modStep p f).recorder = s.recorder := rfl
@[simp] theorem State.modStep_power (s : State) (p : PortalId) (f : Step → Step) : (s.modStep p f).power = s.power := rfl
@[simp] theorem State.modStep_linksDown (s : State) (p : PortalId) (f : Step → Step) : (s.modStep p f).linksDown = s.linksDown := rfl
@[simp] theorem State.modStep_free (s : State) (p : PortalId) (f : Step → Step) : (s.modStep p f).free = s.free := rfl

/-! ### modFb -/

@[simp] theorem State.modFb_pending (s : State) (p : PortalId) (i : FbId) (f : Feedback → Feedback) : (s.modFb p i f).pending = s.pending := rfl
@[simp] theorem State.modFb_ts (s : State) (p : PortalId) (i : FbId) (f : Feedback → Feedback) : (s.modFb p i f).ts = s.ts := rfl
@[simp] theorem State.modFb_mode (s : State) (p : PortalId) (i : FbId) (f : Feedback → Feedback) : (s.modFb p i f).mode = s.mode := rfl
@[simp] theorem State.modFb_modeCause (s : State) (p : PortalId) (i : FbId) (f : Feedback → Feedback) : (s.modFb p i f).modeCause = s.modeCause := rfl
@[simp] theorem State.modFb_epoch (s : State) (p : PortalId) (i : FbId) (f : Feedback → Feedback) : (s.modFb p i f).epoch = s.epoch := rfl
@[simp] theorem State.modFb_commit (s : State) (p : PortalId) (i : FbId) (f : Feedback → Feedback) : (s.modFb p i f).commit = s.commit := rfl
@[simp] theorem State.modFb_retry (s : State) (p : PortalId) (i : FbId) (f : Feedback → Feedback) : (s.modFb p i f).retry = s.retry := rfl
@[simp] theorem State.modFb_dies (s : State) (p : PortalId) (i : FbId) (f : Feedback → Feedback) : (s.modFb p i f).dies = s.dies := rfl
@[simp] theorem State.modFb_waiting (s : State) (p : PortalId) (i : FbId) (f : Feedback → Feedback) : (s.modFb p i f).waiting = s.waiting := rfl
@[simp] theorem State.modFb_buffer (s : State) (p : PortalId) (i : FbId) (f : Feedback → Feedback) : (s.modFb p i f).buffer = s.buffer := rfl
@[simp] theorem State.modFb_lostEvents (s : State) (p : PortalId) (i : FbId) (f : Feedback → Feedback) : (s.modFb p i f).lostEvents = s.lostEvents := rfl
@[simp] theorem State.modFb_lastRel (s : State) (p : PortalId) (i : FbId) (f : Feedback → Feedback) : (s.modFb p i f).lastRel = s.lastRel := rfl
@[simp] theorem State.modFb_evtPending (s : State) (p : PortalId) (i : FbId) (f : Feedback → Feedback) : (s.modFb p i f).evtPending = s.evtPending := rfl
@[simp] theorem State.modFb_setNow (s : State) (p : PortalId) (i : FbId) (f : Feedback → Feedback) : (s.modFb p i f).setNow = s.setNow := rfl
@[simp] theorem State.modFb_params (s : State) (p : PortalId) (i : FbId) (f : Feedback → Feedback) : (s.modFb p i f).params = s.params := rfl
@[simp] theorem State.modFb_ports (s : State) (p : PortalId) (i : FbId) (f : Feedback → Feedback) : (s.modFb p i f).ports = s.ports := rfl
@[simp] theorem State.modFb_wdg (s : State) (p : PortalId) (i : FbId) (f : Feedback → Feedback) : (s.modFb p i f).wdg = s.wdg := rfl
@[simp] theorem State.modFb_groups (s : State) (p : PortalId) (i : FbId) (f : Feedback → Feedback) : (s.modFb p i f).groups = s.groups := rfl
@[simp] theorem State.modFb_nextGroup (s : State) (p : PortalId) (i : FbId) (f : Feedback → Feedback) : (s.modFb p i f).nextGroup = s.nextGroup := rfl
@[simp] theorem State.modFb_engines (s : State) (p : PortalId) (i : FbId) (f : Feedback → Feedback) : (s.modFb p i f).engines = s.engines := rfl
@[simp] theorem State.modFb_safety (s : State) (p : PortalId) (i : FbId) (f : Feedback → Feedback) : (s.modFb p i f).safety = s.safety := rfl
@[simp] theorem State.modFb_sealer (s : State) (p : PortalId) (i : FbId) (f : Feedback → Feedback) : (s.modFb p i f).sealer = s.sealer := rfl
@[simp] theorem State.modFb_pairs (s : State) (p : PortalId) (i : FbId) (f : Feedback → Feedback) : (s.modFb p i f).pairs = s.pairs := rfl
@[simp] theorem State.modFb_claim (s : State) (p : PortalId) (i : FbId) (f : Feedback → Feedback) : (s.modFb p i f).claim = s.claim := rfl
@[simp] theorem State.modFb_partner (s : State) (p : PortalId) (i : FbId) (f : Feedback → Feedback) : (s.modFb p i f).partner = s.partner := rfl
@[simp] theorem State.modFb_cans (s : State) (p : PortalId) (i : FbId) (f : Feedback → Feedback) : (s.modFb p i f).cans = s.cans := rfl
@[simp] theorem State.modFb_tele (s : State) (p : PortalId) (i : FbId) (f : Feedback → Feedback) : (s.modFb p i f).tele = s.tele := rfl
@[simp] theorem State.modFb_recorder (s : State) (p : PortalId) (i : FbId) (f : Feedback → Feedback) : (s.modFb p i f).recorder = s.recorder := rfl
@[simp] theorem State.modFb_power (s : State) (p : PortalId) (i : FbId) (f : Feedback → Feedback) : (s.modFb p i f).power = s.power := rfl
@[simp] theorem State.modFb_linksDown (s : State) (p : PortalId) (i : FbId) (f : Feedback → Feedback) : (s.modFb p i f).linksDown = s.linksDown := rfl
@[simp] theorem State.modFb_free (s : State) (p : PortalId) (i : FbId) (f : Feedback → Feedback) : (s.modFb p i f).free = s.free := rfl

/-! ### modChan -/

@[simp] theorem State.modChan_pending (s : State) (p : PortalId) (c : ChanId) (f : Channel → Channel) : (s.modChan p c f).pending = s.pending := rfl
@[simp] theorem State.modChan_ts (s : State) (p : PortalId) (c : ChanId) (f : Channel → Channel) : (s.modChan p c f).ts = s.ts := rfl
@[simp] theorem State.modChan_mode (s : State) (p : PortalId) (c : ChanId) (f : Channel → Channel) : (s.modChan p c f).mode = s.mode := rfl
@[simp] theorem State.modChan_modeCause (s : State) (p : PortalId) (c : ChanId) (f : Channel → Channel) : (s.modChan p c f).modeCause = s.modeCause := rfl
@[simp] theorem State.modChan_epoch (s : State) (p : PortalId) (c : ChanId) (f : Channel → Channel) : (s.modChan p c f).epoch = s.epoch := rfl
@[simp] theorem State.modChan_commit (s : State) (p : PortalId) (c : ChanId) (f : Channel → Channel) : (s.modChan p c f).commit = s.commit := rfl
@[simp] theorem State.modChan_retry (s : State) (p : PortalId) (c : ChanId) (f : Channel → Channel) : (s.modChan p c f).retry = s.retry := rfl
@[simp] theorem State.modChan_dies (s : State) (p : PortalId) (c : ChanId) (f : Channel → Channel) : (s.modChan p c f).dies = s.dies := rfl
@[simp] theorem State.modChan_waiting (s : State) (p : PortalId) (c : ChanId) (f : Channel → Channel) : (s.modChan p c f).waiting = s.waiting := rfl
@[simp] theorem State.modChan_buffer (s : State) (p : PortalId) (c : ChanId) (f : Channel → Channel) : (s.modChan p c f).buffer = s.buffer := rfl
@[simp] theorem State.modChan_lostEvents (s : State) (p : PortalId) (c : ChanId) (f : Channel → Channel) : (s.modChan p c f).lostEvents = s.lostEvents := rfl
@[simp] theorem State.modChan_lastRel (s : State) (p : PortalId) (c : ChanId) (f : Channel → Channel) : (s.modChan p c f).lastRel = s.lastRel := rfl
@[simp] theorem State.modChan_evtPending (s : State) (p : PortalId) (c : ChanId) (f : Channel → Channel) : (s.modChan p c f).evtPending = s.evtPending := rfl
@[simp] theorem State.modChan_setNow (s : State) (p : PortalId) (c : ChanId) (f : Channel → Channel) : (s.modChan p c f).setNow = s.setNow := rfl
@[simp] theorem State.modChan_params (s : State) (p : PortalId) (c : ChanId) (f : Channel → Channel) : (s.modChan p c f).params = s.params := rfl
@[simp] theorem State.modChan_ports (s : State) (p : PortalId) (c : ChanId) (f : Channel → Channel) : (s.modChan p c f).ports = s.ports := rfl
@[simp] theorem State.modChan_wdg (s : State) (p : PortalId) (c : ChanId) (f : Channel → Channel) : (s.modChan p c f).wdg = s.wdg := rfl
@[simp] theorem State.modChan_groups (s : State) (p : PortalId) (c : ChanId) (f : Channel → Channel) : (s.modChan p c f).groups = s.groups := rfl
@[simp] theorem State.modChan_nextGroup (s : State) (p : PortalId) (c : ChanId) (f : Channel → Channel) : (s.modChan p c f).nextGroup = s.nextGroup := rfl
@[simp] theorem State.modChan_engines (s : State) (p : PortalId) (c : ChanId) (f : Channel → Channel) : (s.modChan p c f).engines = s.engines := rfl
@[simp] theorem State.modChan_safety (s : State) (p : PortalId) (c : ChanId) (f : Channel → Channel) : (s.modChan p c f).safety = s.safety := rfl
@[simp] theorem State.modChan_sealer (s : State) (p : PortalId) (c : ChanId) (f : Channel → Channel) : (s.modChan p c f).sealer = s.sealer := rfl
@[simp] theorem State.modChan_pairs (s : State) (p : PortalId) (c : ChanId) (f : Channel → Channel) : (s.modChan p c f).pairs = s.pairs := rfl
@[simp] theorem State.modChan_claim (s : State) (p : PortalId) (c : ChanId) (f : Channel → Channel) : (s.modChan p c f).claim = s.claim := rfl
@[simp] theorem State.modChan_partner (s : State) (p : PortalId) (c : ChanId) (f : Channel → Channel) : (s.modChan p c f).partner = s.partner := rfl
@[simp] theorem State.modChan_cans (s : State) (p : PortalId) (c : ChanId) (f : Channel → Channel) : (s.modChan p c f).cans = s.cans := rfl
@[simp] theorem State.modChan_tele (s : State) (p : PortalId) (c : ChanId) (f : Channel → Channel) : (s.modChan p c f).tele = s.tele := rfl
@[simp] theorem State.modChan_recorder (s : State) (p : PortalId) (c : ChanId) (f : Channel → Channel) : (s.modChan p c f).recorder = s.recorder := rfl
@[simp] theorem State.modChan_power (s : State) (p : PortalId) (c : ChanId) (f : Channel → Channel) : (s.modChan p c f).power = s.power := rfl
@[simp] theorem State.modChan_linksDown (s : State) (p : PortalId) (c : ChanId) (f : Channel → Channel) : (s.modChan p c f).linksDown = s.linksDown := rfl
@[simp] theorem State.modChan_free (s : State) (p : PortalId) (c : ChanId) (f : Channel → Channel) : (s.modChan p c f).free = s.free := rfl

/-! ### modDie -/

@[simp] theorem State.modDie_pending (s : State) (d : DieId) (f : Die → Die) : (s.modDie d f).pending = s.pending := rfl
@[simp] theorem State.modDie_ts (s : State) (d : DieId) (f : Die → Die) : (s.modDie d f).ts = s.ts := rfl
@[simp] theorem State.modDie_mode (s : State) (d : DieId) (f : Die → Die) : (s.modDie d f).mode = s.mode := rfl
@[simp] theorem State.modDie_modeCause (s : State) (d : DieId) (f : Die → Die) : (s.modDie d f).modeCause = s.modeCause := rfl
@[simp] theorem State.modDie_epoch (s : State) (d : DieId) (f : Die → Die) : (s.modDie d f).epoch = s.epoch := rfl
@[simp] theorem State.modDie_commit (s : State) (d : DieId) (f : Die → Die) : (s.modDie d f).commit = s.commit := rfl
@[simp] theorem State.modDie_retry (s : State) (d : DieId) (f : Die → Die) : (s.modDie d f).retry = s.retry := rfl
@[simp] theorem State.modDie_waiting (s : State) (d : DieId) (f : Die → Die) : (s.modDie d f).waiting = s.waiting := rfl
@[simp] theorem State.modDie_buffer (s : State) (d : DieId) (f : Die → Die) : (s.modDie d f).buffer = s.buffer := rfl
@[simp] theorem State.modDie_lostEvents (s : State) (d : DieId) (f : Die → Die) : (s.modDie d f).lostEvents = s.lostEvents := rfl
@[simp] theorem State.modDie_lastRel (s : State) (d : DieId) (f : Die → Die) : (s.modDie d f).lastRel = s.lastRel := rfl
@[simp] theorem State.modDie_evtPending (s : State) (d : DieId) (f : Die → Die) : (s.modDie d f).evtPending = s.evtPending := rfl
@[simp] theorem State.modDie_setNow (s : State) (d : DieId) (f : Die → Die) : (s.modDie d f).setNow = s.setNow := rfl
@[simp] theorem State.modDie_params (s : State) (d : DieId) (f : Die → Die) : (s.modDie d f).params = s.params := rfl
@[simp] theorem State.modDie_ports (s : State) (d : DieId) (f : Die → Die) : (s.modDie d f).ports = s.ports := rfl
@[simp] theorem State.modDie_wdg (s : State) (d : DieId) (f : Die → Die) : (s.modDie d f).wdg = s.wdg := rfl
@[simp] theorem State.modDie_groups (s : State) (d : DieId) (f : Die → Die) : (s.modDie d f).groups = s.groups := rfl
@[simp] theorem State.modDie_nextGroup (s : State) (d : DieId) (f : Die → Die) : (s.modDie d f).nextGroup = s.nextGroup := rfl
@[simp] theorem State.modDie_portals (s : State) (d : DieId) (f : Die → Die) : (s.modDie d f).portals = s.portals := rfl
@[simp] theorem State.modDie_engines (s : State) (d : DieId) (f : Die → Die) : (s.modDie d f).engines = s.engines := rfl
@[simp] theorem State.modDie_safety (s : State) (d : DieId) (f : Die → Die) : (s.modDie d f).safety = s.safety := rfl
@[simp] theorem State.modDie_sealer (s : State) (d : DieId) (f : Die → Die) : (s.modDie d f).sealer = s.sealer := rfl
@[simp] theorem State.modDie_pairs (s : State) (d : DieId) (f : Die → Die) : (s.modDie d f).pairs = s.pairs := rfl
@[simp] theorem State.modDie_claim (s : State) (d : DieId) (f : Die → Die) : (s.modDie d f).claim = s.claim := rfl
@[simp] theorem State.modDie_partner (s : State) (d : DieId) (f : Die → Die) : (s.modDie d f).partner = s.partner := rfl
@[simp] theorem State.modDie_cans (s : State) (d : DieId) (f : Die → Die) : (s.modDie d f).cans = s.cans := rfl
@[simp] theorem State.modDie_tele (s : State) (d : DieId) (f : Die → Die) : (s.modDie d f).tele = s.tele := rfl
@[simp] theorem State.modDie_recorder (s : State) (d : DieId) (f : Die → Die) : (s.modDie d f).recorder = s.recorder := rfl
@[simp] theorem State.modDie_power (s : State) (d : DieId) (f : Die → Die) : (s.modDie d f).power = s.power := rfl
@[simp] theorem State.modDie_linksDown (s : State) (d : DieId) (f : Die → Die) : (s.modDie d f).linksDown = s.linksDown := rfl
@[simp] theorem State.modDie_free (s : State) (d : DieId) (f : Die → Die) : (s.modDie d f).free = s.free := rfl

/-! ### modSlot -/

@[simp] theorem State.modSlot_pending (s : State) (d : PdId) (n : SlotId) (f : Slot → Slot) : (s.modSlot d n f).pending = s.pending := rfl
@[simp] theorem State.modSlot_ts (s : State) (d : PdId) (n : SlotId) (f : Slot → Slot) : (s.modSlot d n f).ts = s.ts := rfl
@[simp] theorem State.modSlot_mode (s : State) (d : PdId) (n : SlotId) (f : Slot → Slot) : (s.modSlot d n f).mode = s.mode := rfl
@[simp] theorem State.modSlot_modeCause (s : State) (d : PdId) (n : SlotId) (f : Slot → Slot) : (s.modSlot d n f).modeCause = s.modeCause := rfl
@[simp] theorem State.modSlot_epoch (s : State) (d : PdId) (n : SlotId) (f : Slot → Slot) : (s.modSlot d n f).epoch = s.epoch := rfl
@[simp] theorem State.modSlot_commit (s : State) (d : PdId) (n : SlotId) (f : Slot → Slot) : (s.modSlot d n f).commit = s.commit := rfl
@[simp] theorem State.modSlot_retry (s : State) (d : PdId) (n : SlotId) (f : Slot → Slot) : (s.modSlot d n f).retry = s.retry := rfl
@[simp] theorem State.modSlot_dies (s : State) (d : PdId) (n : SlotId) (f : Slot → Slot) : (s.modSlot d n f).dies = s.dies := rfl
@[simp] theorem State.modSlot_waiting (s : State) (d : PdId) (n : SlotId) (f : Slot → Slot) : (s.modSlot d n f).waiting = s.waiting := rfl
@[simp] theorem State.modSlot_buffer (s : State) (d : PdId) (n : SlotId) (f : Slot → Slot) : (s.modSlot d n f).buffer = s.buffer := rfl
@[simp] theorem State.modSlot_lostEvents (s : State) (d : PdId) (n : SlotId) (f : Slot → Slot) : (s.modSlot d n f).lostEvents = s.lostEvents := rfl
@[simp] theorem State.modSlot_lastRel (s : State) (d : PdId) (n : SlotId) (f : Slot → Slot) : (s.modSlot d n f).lastRel = s.lastRel := rfl
@[simp] theorem State.modSlot_evtPending (s : State) (d : PdId) (n : SlotId) (f : Slot → Slot) : (s.modSlot d n f).evtPending = s.evtPending := rfl
@[simp] theorem State.modSlot_setNow (s : State) (d : PdId) (n : SlotId) (f : Slot → Slot) : (s.modSlot d n f).setNow = s.setNow := rfl
@[simp] theorem State.modSlot_params (s : State) (d : PdId) (n : SlotId) (f : Slot → Slot) : (s.modSlot d n f).params = s.params := rfl
@[simp] theorem State.modSlot_ports (s : State) (d : PdId) (n : SlotId) (f : Slot → Slot) : (s.modSlot d n f).ports = s.ports := rfl
@[simp] theorem State.modSlot_wdg (s : State) (d : PdId) (n : SlotId) (f : Slot → Slot) : (s.modSlot d n f).wdg = s.wdg := rfl
@[simp] theorem State.modSlot_groups (s : State) (d : PdId) (n : SlotId) (f : Slot → Slot) : (s.modSlot d n f).groups = s.groups := rfl
@[simp] theorem State.modSlot_nextGroup (s : State) (d : PdId) (n : SlotId) (f : Slot → Slot) : (s.modSlot d n f).nextGroup = s.nextGroup := rfl
@[simp] theorem State.modSlot_portals (s : State) (d : PdId) (n : SlotId) (f : Slot → Slot) : (s.modSlot d n f).portals = s.portals := rfl
@[simp] theorem State.modSlot_safety (s : State) (d : PdId) (n : SlotId) (f : Slot → Slot) : (s.modSlot d n f).safety = s.safety := rfl
@[simp] theorem State.modSlot_sealer (s : State) (d : PdId) (n : SlotId) (f : Slot → Slot) : (s.modSlot d n f).sealer = s.sealer := rfl
@[simp] theorem State.modSlot_pairs (s : State) (d : PdId) (n : SlotId) (f : Slot → Slot) : (s.modSlot d n f).pairs = s.pairs := rfl
@[simp] theorem State.modSlot_claim (s : State) (d : PdId) (n : SlotId) (f : Slot → Slot) : (s.modSlot d n f).claim = s.claim := rfl
@[simp] theorem State.modSlot_partner (s : State) (d : PdId) (n : SlotId) (f : Slot → Slot) : (s.modSlot d n f).partner = s.partner := rfl
@[simp] theorem State.modSlot_cans (s : State) (d : PdId) (n : SlotId) (f : Slot → Slot) : (s.modSlot d n f).cans = s.cans := rfl
@[simp] theorem State.modSlot_tele (s : State) (d : PdId) (n : SlotId) (f : Slot → Slot) : (s.modSlot d n f).tele = s.tele := rfl
@[simp] theorem State.modSlot_recorder (s : State) (d : PdId) (n : SlotId) (f : Slot → Slot) : (s.modSlot d n f).recorder = s.recorder := rfl
@[simp] theorem State.modSlot_power (s : State) (d : PdId) (n : SlotId) (f : Slot → Slot) : (s.modSlot d n f).power = s.power := rfl
@[simp] theorem State.modSlot_linksDown (s : State) (d : PdId) (n : SlotId) (f : Slot → Slot) : (s.modSlot d n f).linksDown = s.linksDown := rfl
@[simp] theorem State.modSlot_free (s : State) (d : PdId) (n : SlotId) (f : Slot → Slot) : (s.modSlot d n f).free = s.free := rfl

/-! ### modPort -/

@[simp] theorem State.modPort_pending (s : State) (n : PortId) (f : Port → Port) : (s.modPort n f).pending = s.pending := rfl
@[simp] theorem State.modPort_ts (s : State) (n : PortId) (f : Port → Port) : (s.modPort n f).ts = s.ts := rfl
@[simp] theorem State.modPort_mode (s : State) (n : PortId) (f : Port → Port) : (s.modPort n f).mode = s.mode := rfl
@[simp] theorem State.modPort_modeCause (s : State) (n : PortId) (f : Port → Port) : (s.modPort n f).modeCause = s.modeCause := rfl
@[simp] theorem State.modPort_epoch (s : State) (n : PortId) (f : Port → Port) : (s.modPort n f).epoch = s.epoch := rfl
@[simp] theorem State.modPort_commit (s : State) (n : PortId) (f : Port → Port) : (s.modPort n f).commit = s.commit := rfl
@[simp] theorem State.modPort_retry (s : State) (n : PortId) (f : Port → Port) : (s.modPort n f).retry = s.retry := rfl
@[simp] theorem State.modPort_dies (s : State) (n : PortId) (f : Port → Port) : (s.modPort n f).dies = s.dies := rfl
@[simp] theorem State.modPort_waiting (s : State) (n : PortId) (f : Port → Port) : (s.modPort n f).waiting = s.waiting := rfl
@[simp] theorem State.modPort_buffer (s : State) (n : PortId) (f : Port → Port) : (s.modPort n f).buffer = s.buffer := rfl
@[simp] theorem State.modPort_lostEvents (s : State) (n : PortId) (f : Port → Port) : (s.modPort n f).lostEvents = s.lostEvents := rfl
@[simp] theorem State.modPort_lastRel (s : State) (n : PortId) (f : Port → Port) : (s.modPort n f).lastRel = s.lastRel := rfl
@[simp] theorem State.modPort_evtPending (s : State) (n : PortId) (f : Port → Port) : (s.modPort n f).evtPending = s.evtPending := rfl
@[simp] theorem State.modPort_setNow (s : State) (n : PortId) (f : Port → Port) : (s.modPort n f).setNow = s.setNow := rfl
@[simp] theorem State.modPort_params (s : State) (n : PortId) (f : Port → Port) : (s.modPort n f).params = s.params := rfl
@[simp] theorem State.modPort_wdg (s : State) (n : PortId) (f : Port → Port) : (s.modPort n f).wdg = s.wdg := rfl
@[simp] theorem State.modPort_groups (s : State) (n : PortId) (f : Port → Port) : (s.modPort n f).groups = s.groups := rfl
@[simp] theorem State.modPort_nextGroup (s : State) (n : PortId) (f : Port → Port) : (s.modPort n f).nextGroup = s.nextGroup := rfl
@[simp] theorem State.modPort_portals (s : State) (n : PortId) (f : Port → Port) : (s.modPort n f).portals = s.portals := rfl
@[simp] theorem State.modPort_engines (s : State) (n : PortId) (f : Port → Port) : (s.modPort n f).engines = s.engines := rfl
@[simp] theorem State.modPort_safety (s : State) (n : PortId) (f : Port → Port) : (s.modPort n f).safety = s.safety := rfl
@[simp] theorem State.modPort_sealer (s : State) (n : PortId) (f : Port → Port) : (s.modPort n f).sealer = s.sealer := rfl
@[simp] theorem State.modPort_pairs (s : State) (n : PortId) (f : Port → Port) : (s.modPort n f).pairs = s.pairs := rfl
@[simp] theorem State.modPort_claim (s : State) (n : PortId) (f : Port → Port) : (s.modPort n f).claim = s.claim := rfl
@[simp] theorem State.modPort_partner (s : State) (n : PortId) (f : Port → Port) : (s.modPort n f).partner = s.partner := rfl
@[simp] theorem State.modPort_cans (s : State) (n : PortId) (f : Port → Port) : (s.modPort n f).cans = s.cans := rfl
@[simp] theorem State.modPort_tele (s : State) (n : PortId) (f : Port → Port) : (s.modPort n f).tele = s.tele := rfl
@[simp] theorem State.modPort_recorder (s : State) (n : PortId) (f : Port → Port) : (s.modPort n f).recorder = s.recorder := rfl
@[simp] theorem State.modPort_power (s : State) (n : PortId) (f : Port → Port) : (s.modPort n f).power = s.power := rfl
@[simp] theorem State.modPort_linksDown (s : State) (n : PortId) (f : Port → Port) : (s.modPort n f).linksDown = s.linksDown := rfl
@[simp] theorem State.modPort_free (s : State) (n : PortId) (f : Port → Port) : (s.modPort n f).free = s.free := rfl

/-! ### modCan -/

@[simp] theorem State.modCan_pending (s : State) (n : CanId) (f : Can → Can) : (s.modCan n f).pending = s.pending := rfl
@[simp] theorem State.modCan_ts (s : State) (n : CanId) (f : Can → Can) : (s.modCan n f).ts = s.ts := rfl
@[simp] theorem State.modCan_mode (s : State) (n : CanId) (f : Can → Can) : (s.modCan n f).mode = s.mode := rfl
@[simp] theorem State.modCan_modeCause (s : State) (n : CanId) (f : Can → Can) : (s.modCan n f).modeCause = s.modeCause := rfl
@[simp] theorem State.modCan_epoch (s : State) (n : CanId) (f : Can → Can) : (s.modCan n f).epoch = s.epoch := rfl
@[simp] theorem State.modCan_commit (s : State) (n : CanId) (f : Can → Can) : (s.modCan n f).commit = s.commit := rfl
@[simp] theorem State.modCan_retry (s : State) (n : CanId) (f : Can → Can) : (s.modCan n f).retry = s.retry := rfl
@[simp] theorem State.modCan_dies (s : State) (n : CanId) (f : Can → Can) : (s.modCan n f).dies = s.dies := rfl
@[simp] theorem State.modCan_waiting (s : State) (n : CanId) (f : Can → Can) : (s.modCan n f).waiting = s.waiting := rfl
@[simp] theorem State.modCan_buffer (s : State) (n : CanId) (f : Can → Can) : (s.modCan n f).buffer = s.buffer := rfl
@[simp] theorem State.modCan_lostEvents (s : State) (n : CanId) (f : Can → Can) : (s.modCan n f).lostEvents = s.lostEvents := rfl
@[simp] theorem State.modCan_lastRel (s : State) (n : CanId) (f : Can → Can) : (s.modCan n f).lastRel = s.lastRel := rfl
@[simp] theorem State.modCan_evtPending (s : State) (n : CanId) (f : Can → Can) : (s.modCan n f).evtPending = s.evtPending := rfl
@[simp] theorem State.modCan_setNow (s : State) (n : CanId) (f : Can → Can) : (s.modCan n f).setNow = s.setNow := rfl
@[simp] theorem State.modCan_params (s : State) (n : CanId) (f : Can → Can) : (s.modCan n f).params = s.params := rfl
@[simp] theorem State.modCan_ports (s : State) (n : CanId) (f : Can → Can) : (s.modCan n f).ports = s.ports := rfl
@[simp] theorem State.modCan_wdg (s : State) (n : CanId) (f : Can → Can) : (s.modCan n f).wdg = s.wdg := rfl
@[simp] theorem State.modCan_groups (s : State) (n : CanId) (f : Can → Can) : (s.modCan n f).groups = s.groups := rfl
@[simp] theorem State.modCan_nextGroup (s : State) (n : CanId) (f : Can → Can) : (s.modCan n f).nextGroup = s.nextGroup := rfl
@[simp] theorem State.modCan_portals (s : State) (n : CanId) (f : Can → Can) : (s.modCan n f).portals = s.portals := rfl
@[simp] theorem State.modCan_engines (s : State) (n : CanId) (f : Can → Can) : (s.modCan n f).engines = s.engines := rfl
@[simp] theorem State.modCan_safety (s : State) (n : CanId) (f : Can → Can) : (s.modCan n f).safety = s.safety := rfl
@[simp] theorem State.modCan_sealer (s : State) (n : CanId) (f : Can → Can) : (s.modCan n f).sealer = s.sealer := rfl
@[simp] theorem State.modCan_pairs (s : State) (n : CanId) (f : Can → Can) : (s.modCan n f).pairs = s.pairs := rfl
@[simp] theorem State.modCan_claim (s : State) (n : CanId) (f : Can → Can) : (s.modCan n f).claim = s.claim := rfl
@[simp] theorem State.modCan_partner (s : State) (n : CanId) (f : Can → Can) : (s.modCan n f).partner = s.partner := rfl
@[simp] theorem State.modCan_tele (s : State) (n : CanId) (f : Can → Can) : (s.modCan n f).tele = s.tele := rfl
@[simp] theorem State.modCan_recorder (s : State) (n : CanId) (f : Can → Can) : (s.modCan n f).recorder = s.recorder := rfl
@[simp] theorem State.modCan_power (s : State) (n : CanId) (f : Can → Can) : (s.modCan n f).power = s.power := rfl
@[simp] theorem State.modCan_linksDown (s : State) (n : CanId) (f : Can → Can) : (s.modCan n f).linksDown = s.linksDown := rfl
@[simp] theorem State.modCan_free (s : State) (n : CanId) (f : Can → Can) : (s.modCan n f).free = s.free := rfl

/-! ### modPair -/

@[simp] theorem State.modPair_pending (s : State) (d : Fin 3) (f : Pair → Pair) : (s.modPair d f).pending = s.pending := rfl
@[simp] theorem State.modPair_ts (s : State) (d : Fin 3) (f : Pair → Pair) : (s.modPair d f).ts = s.ts := rfl
@[simp] theorem State.modPair_mode (s : State) (d : Fin 3) (f : Pair → Pair) : (s.modPair d f).mode = s.mode := rfl
@[simp] theorem State.modPair_modeCause (s : State) (d : Fin 3) (f : Pair → Pair) : (s.modPair d f).modeCause = s.modeCause := rfl
@[simp] theorem State.modPair_epoch (s : State) (d : Fin 3) (f : Pair → Pair) : (s.modPair d f).epoch = s.epoch := rfl
@[simp] theorem State.modPair_commit (s : State) (d : Fin 3) (f : Pair → Pair) : (s.modPair d f).commit = s.commit := rfl
@[simp] theorem State.modPair_retry (s : State) (d : Fin 3) (f : Pair → Pair) : (s.modPair d f).retry = s.retry := rfl
@[simp] theorem State.modPair_dies (s : State) (d : Fin 3) (f : Pair → Pair) : (s.modPair d f).dies = s.dies := rfl
@[simp] theorem State.modPair_waiting (s : State) (d : Fin 3) (f : Pair → Pair) : (s.modPair d f).waiting = s.waiting := rfl
@[simp] theorem State.modPair_buffer (s : State) (d : Fin 3) (f : Pair → Pair) : (s.modPair d f).buffer = s.buffer := rfl
@[simp] theorem State.modPair_lostEvents (s : State) (d : Fin 3) (f : Pair → Pair) : (s.modPair d f).lostEvents = s.lostEvents := rfl
@[simp] theorem State.modPair_lastRel (s : State) (d : Fin 3) (f : Pair → Pair) : (s.modPair d f).lastRel = s.lastRel := rfl
@[simp] theorem State.modPair_evtPending (s : State) (d : Fin 3) (f : Pair → Pair) : (s.modPair d f).evtPending = s.evtPending := rfl
@[simp] theorem State.modPair_setNow (s : State) (d : Fin 3) (f : Pair → Pair) : (s.modPair d f).setNow = s.setNow := rfl
@[simp] theorem State.modPair_params (s : State) (d : Fin 3) (f : Pair → Pair) : (s.modPair d f).params = s.params := rfl
@[simp] theorem State.modPair_ports (s : State) (d : Fin 3) (f : Pair → Pair) : (s.modPair d f).ports = s.ports := rfl
@[simp] theorem State.modPair_wdg (s : State) (d : Fin 3) (f : Pair → Pair) : (s.modPair d f).wdg = s.wdg := rfl
@[simp] theorem State.modPair_groups (s : State) (d : Fin 3) (f : Pair → Pair) : (s.modPair d f).groups = s.groups := rfl
@[simp] theorem State.modPair_nextGroup (s : State) (d : Fin 3) (f : Pair → Pair) : (s.modPair d f).nextGroup = s.nextGroup := rfl
@[simp] theorem State.modPair_portals (s : State) (d : Fin 3) (f : Pair → Pair) : (s.modPair d f).portals = s.portals := rfl
@[simp] theorem State.modPair_engines (s : State) (d : Fin 3) (f : Pair → Pair) : (s.modPair d f).engines = s.engines := rfl
@[simp] theorem State.modPair_safety (s : State) (d : Fin 3) (f : Pair → Pair) : (s.modPair d f).safety = s.safety := rfl
@[simp] theorem State.modPair_sealer (s : State) (d : Fin 3) (f : Pair → Pair) : (s.modPair d f).sealer = s.sealer := rfl
@[simp] theorem State.modPair_claim (s : State) (d : Fin 3) (f : Pair → Pair) : (s.modPair d f).claim = s.claim := rfl
@[simp] theorem State.modPair_partner (s : State) (d : Fin 3) (f : Pair → Pair) : (s.modPair d f).partner = s.partner := rfl
@[simp] theorem State.modPair_cans (s : State) (d : Fin 3) (f : Pair → Pair) : (s.modPair d f).cans = s.cans := rfl
@[simp] theorem State.modPair_tele (s : State) (d : Fin 3) (f : Pair → Pair) : (s.modPair d f).tele = s.tele := rfl
@[simp] theorem State.modPair_recorder (s : State) (d : Fin 3) (f : Pair → Pair) : (s.modPair d f).recorder = s.recorder := rfl
@[simp] theorem State.modPair_power (s : State) (d : Fin 3) (f : Pair → Pair) : (s.modPair d f).power = s.power := rfl
@[simp] theorem State.modPair_linksDown (s : State) (d : Fin 3) (f : Pair → Pair) : (s.modPair d f).linksDown = s.linksDown := rfl
@[simp] theorem State.modPair_free (s : State) (d : Fin 3) (f : Pair → Pair) : (s.modPair d f).free = s.free := rfl

/-! ### markSet -/

@[simp] theorem State.markSet_pending (s : State) (pid unit b : Nat) : (s.markSet pid unit b).pending = s.pending := rfl
@[simp] theorem State.markSet_ts (s : State) (pid unit b : Nat) : (s.markSet pid unit b).ts = s.ts := rfl
@[simp] theorem State.markSet_mode (s : State) (pid unit b : Nat) : (s.markSet pid unit b).mode = s.mode := rfl
@[simp] theorem State.markSet_modeCause (s : State) (pid unit b : Nat) : (s.markSet pid unit b).modeCause = s.modeCause := rfl
@[simp] theorem State.markSet_epoch (s : State) (pid unit b : Nat) : (s.markSet pid unit b).epoch = s.epoch := rfl
@[simp] theorem State.markSet_commit (s : State) (pid unit b : Nat) : (s.markSet pid unit b).commit = s.commit := rfl
@[simp] theorem State.markSet_retry (s : State) (pid unit b : Nat) : (s.markSet pid unit b).retry = s.retry := rfl
@[simp] theorem State.markSet_dies (s : State) (pid unit b : Nat) : (s.markSet pid unit b).dies = s.dies := rfl
@[simp] theorem State.markSet_waiting (s : State) (pid unit b : Nat) : (s.markSet pid unit b).waiting = s.waiting := rfl
@[simp] theorem State.markSet_buffer (s : State) (pid unit b : Nat) : (s.markSet pid unit b).buffer = s.buffer := rfl
@[simp] theorem State.markSet_lostEvents (s : State) (pid unit b : Nat) : (s.markSet pid unit b).lostEvents = s.lostEvents := rfl
@[simp] theorem State.markSet_lastRel (s : State) (pid unit b : Nat) : (s.markSet pid unit b).lastRel = s.lastRel := rfl
@[simp] theorem State.markSet_evtPending (s : State) (pid unit b : Nat) : (s.markSet pid unit b).evtPending = s.evtPending := rfl
@[simp] theorem State.markSet_params (s : State) (pid unit b : Nat) : (s.markSet pid unit b).params = s.params := rfl
@[simp] theorem State.markSet_ports (s : State) (pid unit b : Nat) : (s.markSet pid unit b).ports = s.ports := rfl
@[simp] theorem State.markSet_wdg (s : State) (pid unit b : Nat) : (s.markSet pid unit b).wdg = s.wdg := rfl
@[simp] theorem State.markSet_groups (s : State) (pid unit b : Nat) : (s.markSet pid unit b).groups = s.groups := rfl
@[simp] theorem State.markSet_nextGroup (s : State) (pid unit b : Nat) : (s.markSet pid unit b).nextGroup = s.nextGroup := rfl
@[simp] theorem State.markSet_portals (s : State) (pid unit b : Nat) : (s.markSet pid unit b).portals = s.portals := rfl
@[simp] theorem State.markSet_engines (s : State) (pid unit b : Nat) : (s.markSet pid unit b).engines = s.engines := rfl
@[simp] theorem State.markSet_safety (s : State) (pid unit b : Nat) : (s.markSet pid unit b).safety = s.safety := rfl
@[simp] theorem State.markSet_sealer (s : State) (pid unit b : Nat) : (s.markSet pid unit b).sealer = s.sealer := rfl
@[simp] theorem State.markSet_pairs (s : State) (pid unit b : Nat) : (s.markSet pid unit b).pairs = s.pairs := rfl
@[simp] theorem State.markSet_claim (s : State) (pid unit b : Nat) : (s.markSet pid unit b).claim = s.claim := rfl
@[simp] theorem State.markSet_partner (s : State) (pid unit b : Nat) : (s.markSet pid unit b).partner = s.partner := rfl
@[simp] theorem State.markSet_cans (s : State) (pid unit b : Nat) : (s.markSet pid unit b).cans = s.cans := rfl
@[simp] theorem State.markSet_tele (s : State) (pid unit b : Nat) : (s.markSet pid unit b).tele = s.tele := rfl
@[simp] theorem State.markSet_recorder (s : State) (pid unit b : Nat) : (s.markSet pid unit b).recorder = s.recorder := rfl
@[simp] theorem State.markSet_power (s : State) (pid unit b : Nat) : (s.markSet pid unit b).power = s.power := rfl
@[simp] theorem State.markSet_linksDown (s : State) (pid unit b : Nat) : (s.markSet pid unit b).linksDown = s.linksDown := rfl
@[simp] theorem State.markSet_free (s : State) (pid unit b : Nat) : (s.markSet pid unit b).free = s.free := rfl

/-! ### advance -/

@[simp] theorem State.advance_pending (s : State) (dt : Nat) : (s.advance dt).pending = s.pending := rfl
@[simp] theorem State.advance_modeCause (s : State) (dt : Nat) : (s.advance dt).modeCause = s.modeCause := rfl
@[simp] theorem State.advance_epoch (s : State) (dt : Nat) : (s.advance dt).epoch = s.epoch := rfl
@[simp] theorem State.advance_commit (s : State) (dt : Nat) : (s.advance dt).commit = s.commit := rfl
@[simp] theorem State.advance_retry (s : State) (dt : Nat) : (s.advance dt).retry = s.retry := rfl
@[simp] theorem State.advance_dies (s : State) (dt : Nat) : (s.advance dt).dies = s.dies.map (·.tick dt) := rfl
@[simp] theorem State.advance_waiting (s : State) (dt : Nat) : (s.advance dt).waiting = s.waiting := rfl
@[simp] theorem State.advance_buffer (s : State) (dt : Nat) : (s.advance dt).buffer = s.buffer := rfl
@[simp] theorem State.advance_lostEvents (s : State) (dt : Nat) : (s.advance dt).lostEvents = s.lostEvents := rfl
@[simp] theorem State.advance_lastRel (s : State) (dt : Nat) : (s.advance dt).lastRel = s.lastRel := rfl
@[simp] theorem State.advance_evtPending (s : State) (dt : Nat) : (s.advance dt).evtPending = s.evtPending := rfl
@[simp] theorem State.advance_ports (s : State) (dt : Nat) : (s.advance dt).ports = s.ports := rfl
@[simp] theorem State.advance_wdg (s : State) (dt : Nat) : (s.advance dt).wdg = s.wdg := rfl
@[simp] theorem State.advance_groups (s : State) (dt : Nat) : (s.advance dt).groups = s.groups := rfl
@[simp] theorem State.advance_nextGroup (s : State) (dt : Nat) : (s.advance dt).nextGroup = s.nextGroup := rfl
@[simp] theorem State.advance_portals (s : State) (dt : Nat) : (s.advance dt).portals = s.portals := rfl
@[simp] theorem State.advance_engines (s : State) (dt : Nat) : (s.advance dt).engines = s.engines := rfl
@[simp] theorem State.advance_safety (s : State) (dt : Nat) : (s.advance dt).safety = s.safety := rfl
@[simp] theorem State.advance_sealer (s : State) (dt : Nat) : (s.advance dt).sealer = s.sealer := rfl
@[simp] theorem State.advance_claim (s : State) (dt : Nat) : (s.advance dt).claim = s.claim := rfl
@[simp] theorem State.advance_partner (s : State) (dt : Nat) : (s.advance dt).partner = s.partner := rfl
@[simp] theorem State.advance_cans (s : State) (dt : Nat) : (s.advance dt).cans = s.cans := rfl
@[simp] theorem State.advance_tele (s : State) (dt : Nat) : (s.advance dt).tele = s.tele := rfl
@[simp] theorem State.advance_recorder (s : State) (dt : Nat) : (s.advance dt).recorder = s.recorder := rfl
@[simp] theorem State.advance_linksDown (s : State) (dt : Nat) : (s.advance dt).linksDown = s.linksDown := rfl
@[simp] theorem State.advance_free (s : State) (dt : Nat) : (s.advance dt).free = s.free := rfl

/-! ### Advancing -/

@[simp] theorem State.advance_ts (s : State) (dt : Nat) : (s.advance dt).ts = s.ts + BitVec.ofNat 56 dt := rfl
@[simp] theorem State.advance_setNow (s : State) (dt : Nat) : (s.advance dt).setNow = if dt = 0 then s.setNow else [] := rfl

/-! ### Reading back a part -/

@[simp] theorem State.die_modDie (s : State) (n m : DieId) (f : Die → Die) : (s.modDie n f).die m = if n = m then f (s.die n) else s.die m := by
  simp only [State.modDie, State.die, Fin.getElem_fin, Vector.getElem_set, Fin.ext_iff]

@[simp] theorem State.port_modPort (s : State) (n m : PortId) (f : Port → Port) : (s.modPort n f).port m = if n = m then f (s.port n) else s.port m := by
  simp only [State.modPort, State.port, Fin.getElem_fin, Vector.getElem_set, Fin.ext_iff]

@[simp] theorem State.can_modCan (s : State) (n m : CanId) (f : Can → Can) : (s.modCan n f).can m = if n = m then f (s.can n) else s.can m := by
  simp only [State.modCan, State.can, Fin.getElem_fin, Vector.getElem_set, Fin.ext_iff]

@[simp] theorem State.pair_modPair (s : State) (n m : Fin 3) (f : Pair → Pair) : (s.modPair n f).pair m = if n = m then f (s.pair n) else s.pair m := by
  simp only [State.modPair, State.pair, Fin.getElem_fin, Vector.getElem_set, Fin.ext_iff]

@[simp] theorem State.portal_setPortal (s : State) (p q : PortalId) (x : Portal) : (s.setPortal p x).portal q = if p = q then x else s.portal q := by
  simp only [State.setPortal, State.portal, Fin.getElem_fin, Vector.getElem_set, Fin.ext_iff]

@[simp] theorem State.portal_modPortal (s : State) (p q : PortalId) (f : Portal → Portal) :
    (s.modPortal p f).portal q = if p = q then f (s.portal p) else s.portal q := State.portal_setPortal s p q _

@[simp] theorem State.stepOf_modStep (s : State) (p q : PortalId) (f : Step → Step) : (s.modStep p f).stepOf q = if p = q then f (s.stepOf p) else s.stepOf q := by
  simp only [State.modStep, State.stepOf, State.portal_modPortal]
  split <;> rfl

@[simp] theorem State.leaf_modLeaf (s : State) (p q : PortalId) (l m : LeafId) (f : Leaf → Leaf) :
    (s.modLeaf p l f).leaf q m = if p = q ∧ l = m then f (s.leaf p l) else s.leaf q m := by
  simp only [State.modLeaf, State.leaf, State.portal_modPortal]
  by_cases h : p = q
  · subst h
    simp only [if_true, true_and, Fin.getElem_fin, Vector.getElem_set, Fin.ext_iff]
  · simp [h]

@[simp] theorem State.fb_modFb (s : State) (p q : PortalId) (l m : FbId) (f : Feedback → Feedback) :
    (s.modFb p l f).fb q m = if p = q ∧ l = m then f (s.fb p l) else s.fb q m := by
  simp only [State.modFb, State.fb, State.portal_modPortal]
  by_cases h : p = q
  · subst h
    simp only [if_true, true_and, Fin.getElem_fin, Vector.getElem_set, Fin.ext_iff]
  · simp [h]

@[simp] theorem State.chan_modChan (s : State) (p q : PortalId) (l m : ChanId) (f : Channel → Channel) :
    (s.modChan p l f).chan q m = if p = q ∧ l = m then f (s.chan p l) else s.chan q m := by
  simp only [State.modChan, State.chan, State.portal_modPortal]
  by_cases h : p = q
  · subst h
    simp only [if_true, true_and, Fin.getElem_fin, Vector.getElem_set, Fin.ext_iff]
  · simp [h]

@[simp] theorem State.slot_modSlot (s : State) (d e : PdId) (n m : SlotId) (f : Slot → Slot) :
    (s.modSlot d n f).slot e m = if d = e ∧ n = m then f (s.slot d n) else s.slot e m := by
  simp only [State.modSlot, State.slot, Fin.getElem_fin, Vector.getElem_set, Fin.ext_iff]
  by_cases h : d.val = e.val
  · have : d = e := Fin.ext h
    subst this
    simp only [if_true, true_and, Vector.getElem_set]
  · simp [h]

end Sys2Proof.Machine
end

