-- ==== Sys2Proof/Laws/Replies.lean ====
section
/-! SUPPORT. What raising an event, a reply and the end of a portal command leave alone: one lemma per field. -/

namespace Sys2Proof.Machine

theorem ite_field {α : Type} {c : Prop} [Decidable c] {a b : State} {g : State → α} {x : α} (ha : g a = x) (hb : g b = x) : g (if c then a else b) = x := by
  split
  · exact ha
  · exact hb

theorem foldState_field {α β : Type} {l : List α} {f : α → State → State} {s : State} {g : State → β} (h : ∀ a t, g (f a t) = g t) : g (foldState l f s) = g s := by
  unfold foldState
  induction l generalizing s with
  | nil => rfl
  | cons a l ih => rw [List.foldl_cons, ih, h]

/-! ### raiseAt -/

@[simp] theorem State.raiseAt_pending (s : State) (d : DieId) (src code unit param : Nat) : (s.raiseAt d src code unit param).pending = s.pending := ite_field (g := State.pending) rfl rfl
@[simp] theorem State.raiseAt_ts (s : State) (d : DieId) (src code unit param : Nat) : (s.raiseAt d src code unit param).ts = s.ts := ite_field (g := State.ts) rfl rfl
@[simp] theorem State.raiseAt_mode (s : State) (d : DieId) (src code unit param : Nat) : (s.raiseAt d src code unit param).mode = s.mode := ite_field (g := State.mode) rfl rfl
@[simp] theorem State.raiseAt_modeCause (s : State) (d : DieId) (src code unit param : Nat) : (s.raiseAt d src code unit param).modeCause = s.modeCause := ite_field (g := State.modeCause) rfl rfl
@[simp] theorem State.raiseAt_epoch (s : State) (d : DieId) (src code unit param : Nat) : (s.raiseAt d src code unit param).epoch = s.epoch := ite_field (g := State.epoch) rfl rfl
@[simp] theorem State.raiseAt_commit (s : State) (d : DieId) (src code unit param : Nat) : (s.raiseAt d src code unit param).commit = s.commit := ite_field (g := State.commit) rfl rfl
@[simp] theorem State.raiseAt_retry (s : State) (d : DieId) (src code unit param : Nat) : (s.raiseAt d src code unit param).retry = s.retry := ite_field (g := State.retry) rfl rfl
@[simp] theorem State.raiseAt_buffer (s : State) (d : DieId) (src code unit param : Nat) : (s.raiseAt d src code unit param).buffer = s.buffer := ite_field (g := State.buffer) rfl rfl
@[simp] theorem State.raiseAt_lostEvents (s : State) (d : DieId) (src code unit param : Nat) : (s.raiseAt d src code unit param).lostEvents = s.lostEvents := ite_field (g := State.lostEvents) rfl rfl
@[simp] theorem State.raiseAt_lastRel (s : State) (d : DieId) (src code unit param : Nat) : (s.raiseAt d src code unit param).lastRel = s.lastRel := ite_field (g := State.lastRel) rfl rfl
@[simp] theorem State.raiseAt_evtPending (s : State) (d : DieId) (src code unit param : Nat) : (s.raiseAt d src code unit param).evtPending = s.evtPending := ite_field (g := State.evtPending) rfl rfl
@[simp] theorem State.raiseAt_setNow (s : State) (d : DieId) (src code unit param : Nat) : (s.raiseAt d src code unit param).setNow = s.setNow := ite_field (g := State.setNow) rfl rfl
@[simp] theorem State.raiseAt_params (s : State) (d : DieId) (src code unit param : Nat) : (s.raiseAt d src code unit param).params = s.params := ite_field (g := State.params) rfl rfl
@[simp] theorem State.raiseAt_ports (s : State) (d : DieId) (src code unit param : Nat) : (s.raiseAt d src code unit param).ports = s.ports := ite_field (g := State.ports) rfl rfl
@[simp] theorem State.raiseAt_wdg (s : State) (d : DieId) (src code unit param : Nat) : (s.raiseAt d src code unit param).wdg = s.wdg := ite_field (g := State.wdg) rfl rfl
@[simp] theorem State.raiseAt_groups (s : State) (d : DieId) (src code unit param : Nat) : (s.raiseAt d src code unit param).groups = s.groups := ite_field (g := State.groups) rfl rfl
@[simp] theorem State.raiseAt_nextGroup (s : State) (d : DieId) (src code unit param : Nat) : (s.raiseAt d src code unit param).nextGroup = s.nextGroup := ite_field (g := State.nextGroup) rfl rfl
@[simp] theorem State.raiseAt_portals (s : State) (d : DieId) (src code unit param : Nat) : (s.raiseAt d src code unit param).portals = s.portals := ite_field (g := State.portals) rfl rfl
@[simp] theorem State.raiseAt_engines (s : State) (d : DieId) (src code unit param : Nat) : (s.raiseAt d src code unit param).engines = s.engines := ite_field (g := State.engines) rfl rfl
@[simp] theorem State.raiseAt_safety (s : State) (d : DieId) (src code unit param : Nat) : (s.raiseAt d src code unit param).safety = s.safety := ite_field (g := State.safety) rfl rfl
@[simp] theorem State.raiseAt_sealer (s : State) (d : DieId) (src code unit param : Nat) : (s.raiseAt d src code unit param).sealer = s.sealer := ite_field (g := State.sealer) rfl rfl
@[simp] theorem State.raiseAt_pairs (s : State) (d : DieId) (src code unit param : Nat) : (s.raiseAt d src code unit param).pairs = s.pairs := ite_field (g := State.pairs) rfl rfl
@[simp] theorem State.raiseAt_claim (s : State) (d : DieId) (src code unit param : Nat) : (s.raiseAt d src code unit param).claim = s.claim := ite_field (g := State.claim) rfl rfl
@[simp] theorem State.raiseAt_partner (s : State) (d : DieId) (src code unit param : Nat) : (s.raiseAt d src code unit param).partner = s.partner := ite_field (g := State.partner) rfl rfl
@[simp] theorem State.raiseAt_cans (s : State) (d : DieId) (src code unit param : Nat) : (s.raiseAt d src code unit param).cans = s.cans := ite_field (g := State.cans) rfl rfl
@[simp] theorem State.raiseAt_tele (s : State) (d : DieId) (src code unit param : Nat) : (s.raiseAt d src code unit param).tele = s.tele := ite_field (g := State.tele) rfl rfl
@[simp] theorem State.raiseAt_recorder (s : State) (d : DieId) (src code unit param : Nat) : (s.raiseAt d src code unit param).recorder = s.recorder := ite_field (g := State.recorder) rfl rfl
@[simp] theorem State.raiseAt_power (s : State) (d : DieId) (src code unit param : Nat) : (s.raiseAt d src code unit param).power = s.power := ite_field (g := State.power) rfl rfl
@[simp] theorem State.raiseAt_linksDown (s : State) (d : DieId) (src code unit param : Nat) : (s.raiseAt d src code unit param).linksDown = s.linksDown := ite_field (g := State.linksDown) rfl rfl
@[simp] theorem State.raiseAt_free (s : State) (d : DieId) (src code unit param : Nat) : (s.raiseAt d src code unit param).free = s.free := ite_field (g := State.free) rfl rfl

/-! ### raise -/

@[simp] theorem State.raise_pending (s : State) (src code unit param : Nat) : (s.raise src code unit param).pending = s.pending := rfl
@[simp] theorem State.raise_ts (s : State) (src code unit param : Nat) : (s.raise src code unit param).ts = s.ts := rfl
@[simp] theorem State.raise_mode (s : State) (src code unit param : Nat) : (s.raise src code unit param).mode = s.mode := rfl
@[simp] theorem State.raise_modeCause (s : State) (src code unit param : Nat) : (s.raise src code unit param).modeCause = s.modeCause := rfl
@[simp] theorem State.raise_epoch (s : State) (src code unit param : Nat) : (s.raise src code unit param).epoch = s.epoch := rfl
@[simp] theorem State.raise_commit (s : State) (src code unit param : Nat) : (s.raise src code unit param).commit = s.commit := rfl
@[simp] theorem State.raise_retry (s : State) (src code unit param : Nat) : (s.raise src code unit param).retry = s.retry := rfl
@[simp] theorem State.raise_dies (s : State) (src code unit param : Nat) : (s.raise src code unit param).dies = s.dies := rfl
@[simp] theorem State.raise_buffer (s : State) (src code unit param : Nat) : (s.raise src code unit param).buffer = s.buffer := rfl
@[simp] theorem State.raise_lostEvents (s : State) (src code unit param : Nat) : (s.raise src code unit param).lostEvents = s.lostEvents := rfl
@[simp] theorem State.raise_lastRel (s : State) (src code unit param : Nat) : (s.raise src code unit param).lastRel = s.lastRel := rfl
@[simp] theorem State.raise_evtPending (s : State) (src code unit param : Nat) : (s.raise src code unit param).evtPending = s.evtPending := rfl
@[simp] theorem State.raise_setNow (s : State) (src code unit param : Nat) : (s.raise src code unit param).setNow = s.setNow := rfl
@[simp] theorem State.raise_params (s : State) (src code unit param : Nat) : (s.raise src code unit param).params = s.params := rfl
@[simp] theorem State.raise_ports (s : State) (src code unit param : Nat) : (s.raise src code unit param).ports = s.ports := rfl
@[simp] theorem State.raise_wdg (s : State) (src code unit param : Nat) : (s.raise src code unit param).wdg = s.wdg := rfl
@[simp] theorem State.raise_groups (s : State) (src code unit param : Nat) : (s.raise src code unit param).groups = s.groups := rfl
@[simp] theorem State.raise_nextGroup (s : State) (src code unit param : Nat) : (s.raise src code unit param).nextGroup = s.nextGroup := rfl
@[simp] theorem State.raise_portals (s : State) (src code unit param : Nat) : (s.raise src code unit param).portals = s.portals := rfl
@[simp] theorem State.raise_engines (s : State) (src code unit param : Nat) : (s.raise src code unit param).engines = s.engines := rfl
@[simp] theorem State.raise_safety (s : State) (src code unit param : Nat) : (s.raise src code unit param).safety = s.safety := rfl
@[simp] theorem State.raise_sealer (s : State) (src code unit param : Nat) : (s.raise src code unit param).sealer = s.sealer := rfl
@[simp] theorem State.raise_pairs (s : State) (src code unit param : Nat) : (s.raise src code unit param).pairs = s.pairs := rfl
@[simp] theorem State.raise_claim (s : State) (src code unit param : Nat) : (s.raise src code unit param).claim = s.claim := rfl
@[simp] theorem State.raise_partner (s : State) (src code unit param : Nat) : (s.raise src code unit param).partner = s.partner := rfl
@[simp] theorem State.raise_cans (s : State) (src code unit param : Nat) : (s.raise src code unit param).cans = s.cans := rfl
@[simp] theorem State.raise_tele (s : State) (src code unit param : Nat) : (s.raise src code unit param).tele = s.tele := rfl
@[simp] theorem State.raise_recorder (s : State) (src code unit param : Nat) : (s.raise src code unit param).recorder = s.recorder := rfl
@[simp] theorem State.raise_power (s : State) (src code unit param : Nat) : (s.raise src code unit param).power = s.power := rfl
@[simp] theorem State.raise_linksDown (s : State) (src code unit param : Nat) : (s.raise src code unit param).linksDown = s.linksDown := rfl
@[simp] theorem State.raise_free (s : State) (src code unit param : Nat) : (s.raise src code unit param).free = s.free := rfl

/-! ### raisePortal -/

@[simp] theorem State.raisePortal_pending (s : State) (p : PortalId) (code unit param : Nat) : (s.raisePortal p code unit param).pending = s.pending := State.raiseAt_pending _ _ _ _ _ _
@[simp] theorem State.raisePortal_ts (s : State) (p : PortalId) (code unit param : Nat) : (s.raisePortal p code unit param).ts = s.ts := State.raiseAt_ts _ _ _ _ _ _
@[simp] theorem State.raisePortal_mode (s : State) (p : PortalId) (code unit param : Nat) : (s.raisePortal p code unit param).mode = s.mode := State.raiseAt_mode _ _ _ _ _ _
@[simp] theorem State.raisePortal_modeCause (s : State) (p : PortalId) (code unit param : Nat) : (s.raisePortal p code unit param).modeCause = s.modeCause := State.raiseAt_modeCause _ _ _ _ _ _
@[simp] theorem State.raisePortal_epoch (s : State) (p : PortalId) (code unit param : Nat) : (s.raisePortal p code unit param).epoch = s.epoch := State.raiseAt_epoch _ _ _ _ _ _
@[simp] theorem State.raisePortal_commit (s : State) (p : PortalId) (code unit param : Nat) : (s.raisePortal p code unit param).commit = s.commit := State.raiseAt_commit _ _ _ _ _ _
@[simp] theorem State.raisePortal_retry (s : State) (p : PortalId) (code unit param : Nat) : (s.raisePortal p code unit param).retry = s.retry := State.raiseAt_retry _ _ _ _ _ _
@[simp] theorem State.raisePortal_buffer (s : State) (p : PortalId) (code unit param : Nat) : (s.raisePortal p code unit param).buffer = s.buffer := State.raiseAt_buffer _ _ _ _ _ _
@[simp] theorem State.raisePortal_lostEvents (s : State) (p : PortalId) (code unit param : Nat) : (s.raisePortal p code unit param).lostEvents = s.lostEvents := State.raiseAt_lostEvents _ _ _ _ _ _
@[simp] theorem State.raisePortal_lastRel (s : State) (p : PortalId) (code unit param : Nat) : (s.raisePortal p code unit param).lastRel = s.lastRel := State.raiseAt_lastRel _ _ _ _ _ _
@[simp] theorem State.raisePortal_evtPending (s : State) (p : PortalId) (code unit param : Nat) : (s.raisePortal p code unit param).evtPending = s.evtPending := State.raiseAt_evtPending _ _ _ _ _ _
@[simp] theorem State.raisePortal_setNow (s : State) (p : PortalId) (code unit param : Nat) : (s.raisePortal p code unit param).setNow = s.setNow := State.raiseAt_setNow _ _ _ _ _ _
@[simp] theorem State.raisePortal_params (s : State) (p : PortalId) (code unit param : Nat) : (s.raisePortal p code unit param).params = s.params := State.raiseAt_params _ _ _ _ _ _
@[simp] theorem State.raisePortal_ports (s : State) (p : PortalId) (code unit param : Nat) : (s.raisePortal p code unit param).ports = s.ports := State.raiseAt_ports _ _ _ _ _ _
@[simp] theorem State.raisePortal_wdg (s : State) (p : PortalId) (code unit param : Nat) : (s.raisePortal p code unit param).wdg = s.wdg := State.raiseAt_wdg _ _ _ _ _ _
@[simp] theorem State.raisePortal_groups (s : State) (p : PortalId) (code unit param : Nat) : (s.raisePortal p code unit param).groups = s.groups := State.raiseAt_groups _ _ _ _ _ _
@[simp] theorem State.raisePortal_nextGroup (s : State) (p : PortalId) (code unit param : Nat) : (s.raisePortal p code unit param).nextGroup = s.nextGroup := State.raiseAt_nextGroup _ _ _ _ _ _
@[simp] theorem State.raisePortal_portals (s : State) (p : PortalId) (code unit param : Nat) : (s.raisePortal p code unit param).portals = s.portals := State.raiseAt_portals _ _ _ _ _ _
@[simp] theorem State.raisePortal_engines (s : State) (p : PortalId) (code unit param : Nat) : (s.raisePortal p code unit param).engines = s.engines := State.raiseAt_engines _ _ _ _ _ _
@[simp] theorem State.raisePortal_safety (s : State) (p : PortalId) (code unit param : Nat) : (s.raisePortal p code unit param).safety = s.safety := State.raiseAt_safety _ _ _ _ _ _
@[simp] theorem State.raisePortal_sealer (s : State) (p : PortalId) (code unit param : Nat) : (s.raisePortal p code unit param).sealer = s.sealer := State.raiseAt_sealer _ _ _ _ _ _
@[simp] theorem State.raisePortal_pairs (s : State) (p : PortalId) (code unit param : Nat) : (s.raisePortal p code unit param).pairs = s.pairs := State.raiseAt_pairs _ _ _ _ _ _
@[simp] theorem State.raisePortal_claim (s : State) (p : PortalId) (code unit param : Nat) : (s.raisePortal p code unit param).claim = s.claim := State.raiseAt_claim _ _ _ _ _ _
@[simp] theorem State.raisePortal_partner (s : State) (p : PortalId) (code unit param : Nat) : (s.raisePortal p code unit param).partner = s.partner := State.raiseAt_partner _ _ _ _ _ _
@[simp] theorem State.raisePortal_cans (s : State) (p : PortalId) (code unit param : Nat) : (s.raisePortal p code unit param).cans = s.cans := State.raiseAt_cans _ _ _ _ _ _
@[simp] theorem State.raisePortal_tele (s : State) (p : PortalId) (code unit param : Nat) : (s.raisePortal p code unit param).tele = s.tele := State.raiseAt_tele _ _ _ _ _ _
@[simp] theorem State.raisePortal_recorder (s : State) (p : PortalId) (code unit param : Nat) : (s.raisePortal p code unit param).recorder = s.recorder := State.raiseAt_recorder _ _ _ _ _ _
@[simp] theorem State.raisePortal_power (s : State) (p : PortalId) (code unit param : Nat) : (s.raisePortal p code unit param).power = s.power := State.raiseAt_power _ _ _ _ _ _
@[simp] theorem State.raisePortal_linksDown (s : State) (p : PortalId) (code unit param : Nat) : (s.raisePortal p code unit param).linksDown = s.linksDown := State.raiseAt_linksDown _ _ _ _ _ _
@[simp] theorem State.raisePortal_free (s : State) (p : PortalId) (code unit param : Nat) : (s.raisePortal p code unit param).free = s.free := State.raiseAt_free _ _ _ _ _ _

/-! ### segPut -/

@[simp] theorem State.segPut_pending (s : State) (k : Nat) : (s.segPut k).pending = s.pending := by unfold State.segPut; split <;> rfl
@[simp] theorem State.segPut_ts (s : State) (k : Nat) : (s.segPut k).ts = s.ts := by unfold State.segPut; split <;> rfl
@[simp] theorem State.segPut_mode (s : State) (k : Nat) : (s.segPut k).mode = s.mode := by unfold State.segPut; split <;> rfl
@[simp] theorem State.segPut_modeCause (s : State) (k : Nat) : (s.segPut k).modeCause = s.modeCause := by unfold State.segPut; split <;> rfl
@[simp] theorem State.segPut_epoch (s : State) (k : Nat) : (s.segPut k).epoch = s.epoch := by unfold State.segPut; split <;> rfl
@[simp] theorem State.segPut_commit (s : State) (k : Nat) : (s.segPut k).commit = s.commit := by unfold State.segPut; split <;> rfl
@[simp] theorem State.segPut_retry (s : State) (k : Nat) : (s.segPut k).retry = s.retry := by unfold State.segPut; split <;> rfl
@[simp] theorem State.segPut_dies (s : State) (k : Nat) : (s.segPut k).dies = s.dies := by unfold State.segPut; split <;> rfl
@[simp] theorem State.segPut_waiting (s : State) (k : Nat) : (s.segPut k).waiting = s.waiting := by unfold State.segPut; split <;> rfl
@[simp] theorem State.segPut_buffer (s : State) (k : Nat) : (s.segPut k).buffer = s.buffer := by unfold State.segPut; split <;> rfl
@[simp] theorem State.segPut_lostEvents (s : State) (k : Nat) : (s.segPut k).lostEvents = s.lostEvents := by unfold State.segPut; split <;> rfl
@[simp] theorem State.segPut_lastRel (s : State) (k : Nat) : (s.segPut k).lastRel = s.lastRel := by unfold State.segPut; split <;> rfl
@[simp] theorem State.segPut_evtPending (s : State) (k : Nat) : (s.segPut k).evtPending = s.evtPending := by unfold State.segPut; split <;> rfl
@[simp] theorem State.segPut_setNow (s : State) (k : Nat) : (s.segPut k).setNow = s.setNow := by unfold State.segPut; split <;> rfl
@[simp] theorem State.segPut_params (s : State) (k : Nat) : (s.segPut k).params = s.params := by unfold State.segPut; split <;> rfl
@[simp] theorem State.segPut_wdg (s : State) (k : Nat) : (s.segPut k).wdg = s.wdg := by unfold State.segPut; split <;> rfl
@[simp] theorem State.segPut_groups (s : State) (k : Nat) : (s.segPut k).groups = s.groups := by unfold State.segPut; split <;> rfl
@[simp] theorem State.segPut_nextGroup (s : State) (k : Nat) : (s.segPut k).nextGroup = s.nextGroup := by unfold State.segPut; split <;> rfl
@[simp] theorem State.segPut_portals (s : State) (k : Nat) : (s.segPut k).portals = s.portals := by unfold State.segPut; split <;> rfl
@[simp] theorem State.segPut_engines (s : State) (k : Nat) : (s.segPut k).engines = s.engines := by unfold State.segPut; split <;> rfl
@[simp] theorem State.segPut_safety (s : State) (k : Nat) : (s.segPut k).safety = s.safety := by unfold State.segPut; split <;> rfl
@[simp] theorem State.segPut_sealer (s : State) (k : Nat) : (s.segPut k).sealer = s.sealer := by unfold State.segPut; split <;> rfl
@[simp] theorem State.segPut_pairs (s : State) (k : Nat) : (s.segPut k).pairs = s.pairs := by unfold State.segPut; split <;> rfl
@[simp] theorem State.segPut_claim (s : State) (k : Nat) : (s.segPut k).claim = s.claim := by unfold State.segPut; split <;> rfl
@[simp] theorem State.segPut_partner (s : State) (k : Nat) : (s.segPut k).partner = s.partner := by unfold State.segPut; split <;> rfl
@[simp] theorem State.segPut_tele (s : State) (k : Nat) : (s.segPut k).tele = s.tele := by unfold State.segPut; split <;> rfl
@[simp] theorem State.segPut_recorder (s : State) (k : Nat) : (s.segPut k).recorder = s.recorder := by unfold State.segPut; split <;> rfl
@[simp] theorem State.segPut_power (s : State) (k : Nat) : (s.segPut k).power = s.power := by unfold State.segPut; split <;> rfl
@[simp] theorem State.segPut_linksDown (s : State) (k : Nat) : (s.segPut k).linksDown = s.linksDown := by unfold State.segPut; split <;> rfl
@[simp] theorem State.segPut_free (s : State) (k : Nat) : (s.segPut k).free = s.free := by unfold State.segPut; split <;> rfl

/-! ### segLoad -/

@[simp] theorem State.segLoad_pending (s : State) : (s.segLoad).pending = s.pending := ite_field (g := State.pending) (State.segPut_pending _ _) rfl
@[simp] theorem State.segLoad_ts (s : State) : (s.segLoad).ts = s.ts := ite_field (g := State.ts) (State.segPut_ts _ _) rfl
@[simp] theorem State.segLoad_mode (s : State) : (s.segLoad).mode = s.mode := ite_field (g := State.mode) (State.segPut_mode _ _) rfl
@[simp] theorem State.segLoad_modeCause (s : State) : (s.segLoad).modeCause = s.modeCause := ite_field (g := State.modeCause) (State.segPut_modeCause _ _) rfl
@[simp] theorem State.segLoad_epoch (s : State) : (s.segLoad).epoch = s.epoch := ite_field (g := State.epoch) (State.segPut_epoch _ _) rfl
@[simp] theorem State.segLoad_commit (s : State) : (s.segLoad).commit = s.commit := ite_field (g := State.commit) (State.segPut_commit _ _) rfl
@[simp] theorem State.segLoad_retry (s : State) : (s.segLoad).retry = s.retry := ite_field (g := State.retry) (State.segPut_retry _ _) rfl
@[simp] theorem State.segLoad_dies (s : State) : (s.segLoad).dies = s.dies := ite_field (g := State.dies) (State.segPut_dies _ _) rfl
@[simp] theorem State.segLoad_waiting (s : State) : (s.segLoad).waiting = s.waiting := ite_field (g := State.waiting) (State.segPut_waiting _ _) rfl
@[simp] theorem State.segLoad_buffer (s : State) : (s.segLoad).buffer = s.buffer := ite_field (g := State.buffer) (State.segPut_buffer _ _) rfl
@[simp] theorem State.segLoad_lostEvents (s : State) : (s.segLoad).lostEvents = s.lostEvents := ite_field (g := State.lostEvents) (State.segPut_lostEvents _ _) rfl
@[simp] theorem State.segLoad_lastRel (s : State) : (s.segLoad).lastRel = s.lastRel := ite_field (g := State.lastRel) (State.segPut_lastRel _ _) rfl
@[simp] theorem State.segLoad_evtPending (s : State) : (s.segLoad).evtPending = s.evtPending := ite_field (g := State.evtPending) (State.segPut_evtPending _ _) rfl
@[simp] theorem State.segLoad_setNow (s : State) : (s.segLoad).setNow = s.setNow := ite_field (g := State.setNow) (State.segPut_setNow _ _) rfl
@[simp] theorem State.segLoad_params (s : State) : (s.segLoad).params = s.params := ite_field (g := State.params) (State.segPut_params _ _) rfl
@[simp] theorem State.segLoad_wdg (s : State) : (s.segLoad).wdg = s.wdg := ite_field (g := State.wdg) (State.segPut_wdg _ _) rfl
@[simp] theorem State.segLoad_groups (s : State) : (s.segLoad).groups = s.groups := ite_field (g := State.groups) (State.segPut_groups _ _) rfl
@[simp] theorem State.segLoad_nextGroup (s : State) : (s.segLoad).nextGroup = s.nextGroup := ite_field (g := State.nextGroup) (State.segPut_nextGroup _ _) rfl
@[simp] theorem State.segLoad_portals (s : State) : (s.segLoad).portals = s.portals := ite_field (g := State.portals) (State.segPut_portals _ _) rfl
@[simp] theorem State.segLoad_engines (s : State) : (s.segLoad).engines = s.engines := ite_field (g := State.engines) (State.segPut_engines _ _) rfl
@[simp] theorem State.segLoad_safety (s : State) : (s.segLoad).safety = s.safety := ite_field (g := State.safety) (State.segPut_safety _ _) rfl
@[simp] theorem State.segLoad_sealer (s : State) : (s.segLoad).sealer = s.sealer := ite_field (g := State.sealer) (State.segPut_sealer _ _) rfl
@[simp] theorem State.segLoad_pairs (s : State) : (s.segLoad).pairs = s.pairs := ite_field (g := State.pairs) (State.segPut_pairs _ _) rfl
@[simp] theorem State.segLoad_claim (s : State) : (s.segLoad).claim = s.claim := ite_field (g := State.claim) (State.segPut_claim _ _) rfl
@[simp] theorem State.segLoad_partner (s : State) : (s.segLoad).partner = s.partner := ite_field (g := State.partner) (State.segPut_partner _ _) rfl
@[simp] theorem State.segLoad_tele (s : State) : (s.segLoad).tele = s.tele := ite_field (g := State.tele) (State.segPut_tele _ _) rfl
@[simp] theorem State.segLoad_recorder (s : State) : (s.segLoad).recorder = s.recorder := ite_field (g := State.recorder) (State.segPut_recorder _ _) rfl
@[simp] theorem State.segLoad_power (s : State) : (s.segLoad).power = s.power := ite_field (g := State.power) (State.segPut_power _ _) rfl
@[simp] theorem State.segLoad_linksDown (s : State) : (s.segLoad).linksDown = s.linksDown := ite_field (g := State.linksDown) (State.segPut_linksDown _ _) rfl
@[simp] theorem State.segLoad_free (s : State) : (s.segLoad).free = s.free := ite_field (g := State.free) (State.segPut_free _ _) rfl

/-! ### putReply -/

@[simp] theorem State.putReply_pending (s : State) (n : PortId) (r : Reply) : (s.putReply n r).pending = s.pending := ite_field (g := State.pending) (State.raise_pending _ _ _ _ _) (ite_field (g := State.pending) (State.segLoad_pending _) rfl)
@[simp] theorem State.putReply_ts (s : State) (n : PortId) (r : Reply) : (s.putReply n r).ts = s.ts := ite_field (g := State.ts) (State.raise_ts _ _ _ _ _) (ite_field (g := State.ts) (State.segLoad_ts _) rfl)
@[simp] theorem State.putReply_mode (s : State) (n : PortId) (r : Reply) : (s.putReply n r).mode = s.mode := ite_field (g := State.mode) (State.raise_mode _ _ _ _ _) (ite_field (g := State.mode) (State.segLoad_mode _) rfl)
@[simp] theorem State.putReply_modeCause (s : State) (n : PortId) (r : Reply) : (s.putReply n r).modeCause = s.modeCause := ite_field (g := State.modeCause) (State.raise_modeCause _ _ _ _ _) (ite_field (g := State.modeCause) (State.segLoad_modeCause _) rfl)
@[simp] theorem State.putReply_epoch (s : State) (n : PortId) (r : Reply) : (s.putReply n r).epoch = s.epoch := ite_field (g := State.epoch) (State.raise_epoch _ _ _ _ _) (ite_field (g := State.epoch) (State.segLoad_epoch _) rfl)
@[simp] theorem State.putReply_commit (s : State) (n : PortId) (r : Reply) : (s.putReply n r).commit = s.commit := ite_field (g := State.commit) (State.raise_commit _ _ _ _ _) (ite_field (g := State.commit) (State.segLoad_commit _) rfl)
@[simp] theorem State.putReply_retry (s : State) (n : PortId) (r : Reply) : (s.putReply n r).retry = s.retry := ite_field (g := State.retry) (State.raise_retry _ _ _ _ _) (ite_field (g := State.retry) (State.segLoad_retry _) rfl)
@[simp] theorem State.putReply_dies (s : State) (n : PortId) (r : Reply) : (s.putReply n r).dies = s.dies := ite_field (g := State.dies) (State.raise_dies _ _ _ _ _) (ite_field (g := State.dies) (State.segLoad_dies _) rfl)
@[simp] theorem State.putReply_buffer (s : State) (n : PortId) (r : Reply) : (s.putReply n r).buffer = s.buffer := ite_field (g := State.buffer) (State.raise_buffer _ _ _ _ _) (ite_field (g := State.buffer) (State.segLoad_buffer _) rfl)
@[simp] theorem State.putReply_lostEvents (s : State) (n : PortId) (r : Reply) : (s.putReply n r).lostEvents = s.lostEvents := ite_field (g := State.lostEvents) (State.raise_lostEvents _ _ _ _ _) (ite_field (g := State.lostEvents) (State.segLoad_lostEvents _) rfl)
@[simp] theorem State.putReply_lastRel (s : State) (n : PortId) (r : Reply) : (s.putReply n r).lastRel = s.lastRel := ite_field (g := State.lastRel) (State.raise_lastRel _ _ _ _ _) (ite_field (g := State.lastRel) (State.segLoad_lastRel _) rfl)
@[simp] theorem State.putReply_evtPending (s : State) (n : PortId) (r : Reply) : (s.putReply n r).evtPending = s.evtPending := ite_field (g := State.evtPending) (State.raise_evtPending _ _ _ _ _) (ite_field (g := State.evtPending) (State.segLoad_evtPending _) rfl)
@[simp] theorem State.putReply_setNow (s : State) (n : PortId) (r : Reply) : (s.putReply n r).setNow = s.setNow := ite_field (g := State.setNow) (State.raise_setNow _ _ _ _ _) (ite_field (g := State.setNow) (State.segLoad_setNow _) rfl)
@[simp] theorem State.putReply_params (s : State) (n : PortId) (r : Reply) : (s.putReply n r).params = s.params := ite_field (g := State.params) (State.raise_params _ _ _ _ _) (ite_field (g := State.params) (State.segLoad_params _) rfl)
@[simp] theorem State.putReply_wdg (s : State) (n : PortId) (r : Reply) : (s.putReply n r).wdg = s.wdg := ite_field (g := State.wdg) (State.raise_wdg _ _ _ _ _) (ite_field (g := State.wdg) (State.segLoad_wdg _) rfl)
@[simp] theorem State.putReply_groups (s : State) (n : PortId) (r : Reply) : (s.putReply n r).groups = s.groups := ite_field (g := State.groups) (State.raise_groups _ _ _ _ _) (ite_field (g := State.groups) (State.segLoad_groups _) rfl)
@[simp] theorem State.putReply_nextGroup (s : State) (n : PortId) (r : Reply) : (s.putReply n r).nextGroup = s.nextGroup := ite_field (g := State.nextGroup) (State.raise_nextGroup _ _ _ _ _) (ite_field (g := State.nextGroup) (State.segLoad_nextGroup _) rfl)
@[simp] theorem State.putReply_portals (s : State) (n : PortId) (r : Reply) : (s.putReply n r).portals = s.portals := ite_field (g := State.portals) (State.raise_portals _ _ _ _ _) (ite_field (g := State.portals) (State.segLoad_portals _) rfl)
@[simp] theorem State.putReply_engines (s : State) (n : PortId) (r : Reply) : (s.putReply n r).engines = s.engines := ite_field (g := State.engines) (State.raise_engines _ _ _ _ _) (ite_field (g := State.engines) (State.segLoad_engines _) rfl)
@[simp] theorem State.putReply_safety (s : State) (n : PortId) (r : Reply) : (s.putReply n r).safety = s.safety := ite_field (g := State.safety) (State.raise_safety _ _ _ _ _) (ite_field (g := State.safety) (State.segLoad_safety _) rfl)
@[simp] theorem State.putReply_sealer (s : State) (n : PortId) (r : Reply) : (s.putReply n r).sealer = s.sealer := ite_field (g := State.sealer) (State.raise_sealer _ _ _ _ _) (ite_field (g := State.sealer) (State.segLoad_sealer _) rfl)
@[simp] theorem State.putReply_pairs (s : State) (n : PortId) (r : Reply) : (s.putReply n r).pairs = s.pairs := ite_field (g := State.pairs) (State.raise_pairs _ _ _ _ _) (ite_field (g := State.pairs) (State.segLoad_pairs _) rfl)
@[simp] theorem State.putReply_claim (s : State) (n : PortId) (r : Reply) : (s.putReply n r).claim = s.claim := ite_field (g := State.claim) (State.raise_claim _ _ _ _ _) (ite_field (g := State.claim) (State.segLoad_claim _) rfl)
@[simp] theorem State.putReply_partner (s : State) (n : PortId) (r : Reply) : (s.putReply n r).partner = s.partner := ite_field (g := State.partner) (State.raise_partner _ _ _ _ _) (ite_field (g := State.partner) (State.segLoad_partner _) rfl)
@[simp] theorem State.putReply_tele (s : State) (n : PortId) (r : Reply) : (s.putReply n r).tele = s.tele := ite_field (g := State.tele) (State.raise_tele _ _ _ _ _) (ite_field (g := State.tele) (State.segLoad_tele _) rfl)
@[simp] theorem State.putReply_recorder (s : State) (n : PortId) (r : Reply) : (s.putReply n r).recorder = s.recorder := ite_field (g := State.recorder) (State.raise_recorder _ _ _ _ _) (ite_field (g := State.recorder) (State.segLoad_recorder _) rfl)
@[simp] theorem State.putReply_power (s : State) (n : PortId) (r : Reply) : (s.putReply n r).power = s.power := ite_field (g := State.power) (State.raise_power _ _ _ _ _) (ite_field (g := State.power) (State.segLoad_power _) rfl)
@[simp] theorem State.putReply_linksDown (s : State) (n : PortId) (r : Reply) : (s.putReply n r).linksDown = s.linksDown := ite_field (g := State.linksDown) (State.raise_linksDown _ _ _ _ _) (ite_field (g := State.linksDown) (State.segLoad_linksDown _) rfl)
@[simp] theorem State.putReply_free (s : State) (n : PortId) (r : Reply) : (s.putReply n r).free = s.free := ite_field (g := State.free) (State.raise_free _ _ _ _ _) (ite_field (g := State.free) (State.segLoad_free _) rfl)

/-! ### replyApart -/

@[simp] theorem State.replyApart_pending (s : State) (h : Handle) (status : Nat) (full : Bool) (ps : List Byte) : (s.replyApart h status full ps).pending = s.pending := State.putReply_pending _ _ _
@[simp] theorem State.replyApart_ts (s : State) (h : Handle) (status : Nat) (full : Bool) (ps : List Byte) : (s.replyApart h status full ps).ts = s.ts := State.putReply_ts _ _ _
@[simp] theorem State.replyApart_mode (s : State) (h : Handle) (status : Nat) (full : Bool) (ps : List Byte) : (s.replyApart h status full ps).mode = s.mode := State.putReply_mode _ _ _
@[simp] theorem State.replyApart_modeCause (s : State) (h : Handle) (status : Nat) (full : Bool) (ps : List Byte) : (s.replyApart h status full ps).modeCause = s.modeCause := State.putReply_modeCause _ _ _
@[simp] theorem State.replyApart_epoch (s : State) (h : Handle) (status : Nat) (full : Bool) (ps : List Byte) : (s.replyApart h status full ps).epoch = s.epoch := State.putReply_epoch _ _ _
@[simp] theorem State.replyApart_commit (s : State) (h : Handle) (status : Nat) (full : Bool) (ps : List Byte) : (s.replyApart h status full ps).commit = s.commit := State.putReply_commit _ _ _
@[simp] theorem State.replyApart_retry (s : State) (h : Handle) (status : Nat) (full : Bool) (ps : List Byte) : (s.replyApart h status full ps).retry = s.retry := State.putReply_retry _ _ _
@[simp] theorem State.replyApart_dies (s : State) (h : Handle) (status : Nat) (full : Bool) (ps : List Byte) : (s.replyApart h status full ps).dies = s.dies := State.putReply_dies _ _ _
@[simp] theorem State.replyApart_buffer (s : State) (h : Handle) (status : Nat) (full : Bool) (ps : List Byte) : (s.replyApart h status full ps).buffer = s.buffer := State.putReply_buffer _ _ _
@[simp] theorem State.replyApart_lostEvents (s : State) (h : Handle) (status : Nat) (full : Bool) (ps : List Byte) : (s.replyApart h status full ps).lostEvents = s.lostEvents := State.putReply_lostEvents _ _ _
@[simp] theorem State.replyApart_lastRel (s : State) (h : Handle) (status : Nat) (full : Bool) (ps : List Byte) : (s.replyApart h status full ps).lastRel = s.lastRel := State.putReply_lastRel _ _ _
@[simp] theorem State.replyApart_evtPending (s : State) (h : Handle) (status : Nat) (full : Bool) (ps : List Byte) : (s.replyApart h status full ps).evtPending = s.evtPending := State.putReply_evtPending _ _ _
@[simp] theorem State.replyApart_setNow (s : State) (h : Handle) (status : Nat) (full : Bool) (ps : List Byte) : (s.replyApart h status full ps).setNow = s.setNow := State.putReply_setNow _ _ _
@[simp] theorem State.replyApart_params (s : State) (h : Handle) (status : Nat) (full : Bool) (ps : List Byte) : (s.replyApart h status full ps).params = s.params := State.putReply_params _ _ _
@[simp] theorem State.replyApart_wdg (s : State) (h : Handle) (status : Nat) (full : Bool) (ps : List Byte) : (s.replyApart h status full ps).wdg = s.wdg := State.putReply_wdg _ _ _
@[simp] theorem State.replyApart_groups (s : State) (h : Handle) (status : Nat) (full : Bool) (ps : List Byte) : (s.replyApart h status full ps).groups = s.groups := State.putReply_groups _ _ _
@[simp] theorem State.replyApart_nextGroup (s : State) (h : Handle) (status : Nat) (full : Bool) (ps : List Byte) : (s.replyApart h status full ps).nextGroup = s.nextGroup := State.putReply_nextGroup _ _ _
@[simp] theorem State.replyApart_portals (s : State) (h : Handle) (status : Nat) (full : Bool) (ps : List Byte) : (s.replyApart h status full ps).portals = s.portals := State.putReply_portals _ _ _
@[simp] theorem State.replyApart_engines (s : State) (h : Handle) (status : Nat) (full : Bool) (ps : List Byte) : (s.replyApart h status full ps).engines = s.engines := State.putReply_engines _ _ _
@[simp] theorem State.replyApart_safety (s : State) (h : Handle) (status : Nat) (full : Bool) (ps : List Byte) : (s.replyApart h status full ps).safety = s.safety := State.putReply_safety _ _ _
@[simp] theorem State.replyApart_sealer (s : State) (h : Handle) (status : Nat) (full : Bool) (ps : List Byte) : (s.replyApart h status full ps).sealer = s.sealer := State.putReply_sealer _ _ _
@[simp] theorem State.replyApart_pairs (s : State) (h : Handle) (status : Nat) (full : Bool) (ps : List Byte) : (s.replyApart h status full ps).pairs = s.pairs := State.putReply_pairs _ _ _
@[simp] theorem State.replyApart_claim (s : State) (h : Handle) (status : Nat) (full : Bool) (ps : List Byte) : (s.replyApart h status full ps).claim = s.claim := State.putReply_claim _ _ _
@[simp] theorem State.replyApart_partner (s : State) (h : Handle) (status : Nat) (full : Bool) (ps : List Byte) : (s.replyApart h status full ps).partner = s.partner := State.putReply_partner _ _ _
@[simp] theorem State.replyApart_tele (s : State) (h : Handle) (status : Nat) (full : Bool) (ps : List Byte) : (s.replyApart h status full ps).tele = s.tele := State.putReply_tele _ _ _
@[simp] theorem State.replyApart_recorder (s : State) (h : Handle) (status : Nat) (full : Bool) (ps : List Byte) : (s.replyApart h status full ps).recorder = s.recorder := State.putReply_recorder _ _ _
@[simp] theorem State.replyApart_power (s : State) (h : Handle) (status : Nat) (full : Bool) (ps : List Byte) : (s.replyApart h status full ps).power = s.power := State.putReply_power _ _ _
@[simp] theorem State.replyApart_linksDown (s : State) (h : Handle) (status : Nat) (full : Bool) (ps : List Byte) : (s.replyApart h status full ps).linksDown = s.linksDown := State.putReply_linksDown _ _ _
@[simp] theorem State.replyApart_free (s : State) (h : Handle) (status : Nat) (full : Bool) (ps : List Byte) : (s.replyApart h status full ps).free = s.free := State.putReply_free _ _ _

/-! ### reply -/

@[simp] theorem State.reply_pending (s : State) (h : Handle) (status : Nat) (ps : List Byte) : (s.reply h status ps).pending = s.pending := ite_field (g := State.pending) rfl (State.putReply_pending _ _ _)
@[simp] theorem State.reply_ts (s : State) (h : Handle) (status : Nat) (ps : List Byte) : (s.reply h status ps).ts = s.ts := ite_field (g := State.ts) rfl (State.putReply_ts _ _ _)
@[simp] theorem State.reply_mode (s : State) (h : Handle) (status : Nat) (ps : List Byte) : (s.reply h status ps).mode = s.mode := ite_field (g := State.mode) rfl (State.putReply_mode _ _ _)
@[simp] theorem State.reply_modeCause (s : State) (h : Handle) (status : Nat) (ps : List Byte) : (s.reply h status ps).modeCause = s.modeCause := ite_field (g := State.modeCause) rfl (State.putReply_modeCause _ _ _)
@[simp] theorem State.reply_epoch (s : State) (h : Handle) (status : Nat) (ps : List Byte) : (s.reply h status ps).epoch = s.epoch := ite_field (g := State.epoch) rfl (State.putReply_epoch _ _ _)
@[simp] theorem State.reply_commit (s : State) (h : Handle) (status : Nat) (ps : List Byte) : (s.reply h status ps).commit = s.commit := ite_field (g := State.commit) rfl (State.putReply_commit _ _ _)
@[simp] theorem State.reply_retry (s : State) (h : Handle) (status : Nat) (ps : List Byte) : (s.reply h status ps).retry = s.retry := ite_field (g := State.retry) rfl (State.putReply_retry _ _ _)
@[simp] theorem State.reply_dies (s : State) (h : Handle) (status : Nat) (ps : List Byte) : (s.reply h status ps).dies = s.dies := ite_field (g := State.dies) rfl (State.putReply_dies _ _ _)
@[simp] theorem State.reply_buffer (s : State) (h : Handle) (status : Nat) (ps : List Byte) : (s.reply h status ps).buffer = s.buffer := ite_field (g := State.buffer) rfl (State.putReply_buffer _ _ _)
@[simp] theorem State.reply_lostEvents (s : State) (h : Handle) (status : Nat) (ps : List Byte) : (s.reply h status ps).lostEvents = s.lostEvents := ite_field (g := State.lostEvents) rfl (State.putReply_lostEvents _ _ _)
@[simp] theorem State.reply_lastRel (s : State) (h : Handle) (status : Nat) (ps : List Byte) : (s.reply h status ps).lastRel = s.lastRel := ite_field (g := State.lastRel) rfl (State.putReply_lastRel _ _ _)
@[simp] theorem State.reply_evtPending (s : State) (h : Handle) (status : Nat) (ps : List Byte) : (s.reply h status ps).evtPending = s.evtPending := ite_field (g := State.evtPending) rfl (State.putReply_evtPending _ _ _)
@[simp] theorem State.reply_setNow (s : State) (h : Handle) (status : Nat) (ps : List Byte) : (s.reply h status ps).setNow = s.setNow := ite_field (g := State.setNow) rfl (State.putReply_setNow _ _ _)
@[simp] theorem State.reply_params (s : State) (h : Handle) (status : Nat) (ps : List Byte) : (s.reply h status ps).params = s.params := ite_field (g := State.params) rfl (State.putReply_params _ _ _)
@[simp] theorem State.reply_wdg (s : State) (h : Handle) (status : Nat) (ps : List Byte) : (s.reply h status ps).wdg = s.wdg := ite_field (g := State.wdg) rfl (State.putReply_wdg _ _ _)
@[simp] theorem State.reply_groups (s : State) (h : Handle) (status : Nat) (ps : List Byte) : (s.reply h status ps).groups = s.groups := ite_field (g := State.groups) rfl (State.putReply_groups _ _ _)
@[simp] theorem State.reply_nextGroup (s : State) (h : Handle) (status : Nat) (ps : List Byte) : (s.reply h status ps).nextGroup = s.nextGroup := ite_field (g := State.nextGroup) rfl (State.putReply_nextGroup _ _ _)
@[simp] theorem State.reply_portals (s : State) (h : Handle) (status : Nat) (ps : List Byte) : (s.reply h status ps).portals = s.portals := ite_field (g := State.portals) rfl (State.putReply_portals _ _ _)
@[simp] theorem State.reply_engines (s : State) (h : Handle) (status : Nat) (ps : List Byte) : (s.reply h status ps).engines = s.engines := ite_field (g := State.engines) rfl (State.putReply_engines _ _ _)
@[simp] theorem State.reply_safety (s : State) (h : Handle) (status : Nat) (ps : List Byte) : (s.reply h status ps).safety = s.safety := ite_field (g := State.safety) rfl (State.putReply_safety _ _ _)
@[simp] theorem State.reply_sealer (s : State) (h : Handle) (status : Nat) (ps : List Byte) : (s.reply h status ps).sealer = s.sealer := ite_field (g := State.sealer) rfl (State.putReply_sealer _ _ _)
@[simp] theorem State.reply_pairs (s : State) (h : Handle) (status : Nat) (ps : List Byte) : (s.reply h status ps).pairs = s.pairs := ite_field (g := State.pairs) rfl (State.putReply_pairs _ _ _)
@[simp] theorem State.reply_claim (s : State) (h : Handle) (status : Nat) (ps : List Byte) : (s.reply h status ps).claim = s.claim := ite_field (g := State.claim) rfl (State.putReply_claim _ _ _)
@[simp] theorem State.reply_partner (s : State) (h : Handle) (status : Nat) (ps : List Byte) : (s.reply h status ps).partner = s.partner := ite_field (g := State.partner) rfl (State.putReply_partner _ _ _)
@[simp] theorem State.reply_tele (s : State) (h : Handle) (status : Nat) (ps : List Byte) : (s.reply h status ps).tele = s.tele := ite_field (g := State.tele) rfl (State.putReply_tele _ _ _)
@[simp] theorem State.reply_recorder (s : State) (h : Handle) (status : Nat) (ps : List Byte) : (s.reply h status ps).recorder = s.recorder := ite_field (g := State.recorder) rfl (State.putReply_recorder _ _ _)
@[simp] theorem State.reply_power (s : State) (h : Handle) (status : Nat) (ps : List Byte) : (s.reply h status ps).power = s.power := ite_field (g := State.power) rfl (State.putReply_power _ _ _)
@[simp] theorem State.reply_linksDown (s : State) (h : Handle) (status : Nat) (ps : List Byte) : (s.reply h status ps).linksDown = s.linksDown := ite_field (g := State.linksDown) rfl (State.putReply_linksDown _ _ _)
@[simp] theorem State.reply_free (s : State) (h : Handle) (status : Nat) (ps : List Byte) : (s.reply h status ps).free = s.free := ite_field (g := State.free) rfl (State.putReply_free _ _ _)

/-! ### refuse -/

@[simp] theorem State.refuse_pending (s : State) (h : Handle) (status : Nat) : (s.refuse h status).pending = s.pending := State.reply_pending _ _ _ _
@[simp] theorem State.refuse_ts (s : State) (h : Handle) (status : Nat) : (s.refuse h status).ts = s.ts := State.reply_ts _ _ _ _
@[simp] theorem State.refuse_mode (s : State) (h : Handle) (status : Nat) : (s.refuse h status).mode = s.mode := State.reply_mode _ _ _ _
@[simp] theorem State.refuse_modeCause (s : State) (h : Handle) (status : Nat) : (s.refuse h status).modeCause = s.modeCause := State.reply_modeCause _ _ _ _
@[simp] theorem State.refuse_epoch (s : State) (h : Handle) (status : Nat) : (s.refuse h status).epoch = s.epoch := State.reply_epoch _ _ _ _
@[simp] theorem State.refuse_commit (s : State) (h : Handle) (status : Nat) : (s.refuse h status).commit = s.commit := State.reply_commit _ _ _ _
@[simp] theorem State.refuse_retry (s : State) (h : Handle) (status : Nat) : (s.refuse h status).retry = s.retry := State.reply_retry _ _ _ _
@[simp] theorem State.refuse_dies (s : State) (h : Handle) (status : Nat) : (s.refuse h status).dies = s.dies := State.reply_dies _ _ _ _
@[simp] theorem State.refuse_buffer (s : State) (h : Handle) (status : Nat) : (s.refuse h status).buffer = s.buffer := State.reply_buffer _ _ _ _
@[simp] theorem State.refuse_lostEvents (s : State) (h : Handle) (status : Nat) : (s.refuse h status).lostEvents = s.lostEvents := State.reply_lostEvents _ _ _ _
@[simp] theorem State.refuse_lastRel (s : State) (h : Handle) (status : Nat) : (s.refuse h status).lastRel = s.lastRel := State.reply_lastRel _ _ _ _
@[simp] theorem State.refuse_evtPending (s : State) (h : Handle) (status : Nat) : (s.refuse h status).evtPending = s.evtPending := State.reply_evtPending _ _ _ _
@[simp] theorem State.refuse_setNow (s : State) (h : Handle) (status : Nat) : (s.refuse h status).setNow = s.setNow := State.reply_setNow _ _ _ _
@[simp] theorem State.refuse_params (s : State) (h : Handle) (status : Nat) : (s.refuse h status).params = s.params := State.reply_params _ _ _ _
@[simp] theorem State.refuse_wdg (s : State) (h : Handle) (status : Nat) : (s.refuse h status).wdg = s.wdg := State.reply_wdg _ _ _ _
@[simp] theorem State.refuse_groups (s : State) (h : Handle) (status : Nat) : (s.refuse h status).groups = s.groups := State.reply_groups _ _ _ _
@[simp] theorem State.refuse_nextGroup (s : State) (h : Handle) (status : Nat) : (s.refuse h status).nextGroup = s.nextGroup := State.reply_nextGroup _ _ _ _
@[simp] theorem State.refuse_portals (s : State) (h : Handle) (status : Nat) : (s.refuse h status).portals = s.portals := State.reply_portals _ _ _ _
@[simp] theorem State.refuse_engines (s : State) (h : Handle) (status : Nat) : (s.refuse h status).engines = s.engines := State.reply_engines _ _ _ _
@[simp] theorem State.refuse_safety (s : State) (h : Handle) (status : Nat) : (s.refuse h status).safety = s.safety := State.reply_safety _ _ _ _
@[simp] theorem State.refuse_sealer (s : State) (h : Handle) (status : Nat) : (s.refuse h status).sealer = s.sealer := State.reply_sealer _ _ _ _
@[simp] theorem State.refuse_pairs (s : State) (h : Handle) (status : Nat) : (s.refuse h status).pairs = s.pairs := State.reply_pairs _ _ _ _
@[simp] theorem State.refuse_claim (s : State) (h : Handle) (status : Nat) : (s.refuse h status).claim = s.claim := State.reply_claim _ _ _ _
@[simp] theorem State.refuse_partner (s : State) (h : Handle) (status : Nat) : (s.refuse h status).partner = s.partner := State.reply_partner _ _ _ _
@[simp] theorem State.refuse_tele (s : State) (h : Handle) (status : Nat) : (s.refuse h status).tele = s.tele := State.reply_tele _ _ _ _
@[simp] theorem State.refuse_recorder (s : State) (h : Handle) (status : Nat) : (s.refuse h status).recorder = s.recorder := State.reply_recorder _ _ _ _
@[simp] theorem State.refuse_power (s : State) (h : Handle) (status : Nat) : (s.refuse h status).power = s.power := State.reply_power _ _ _ _
@[simp] theorem State.refuse_linksDown (s : State) (h : Handle) (status : Nat) : (s.refuse h status).linksDown = s.linksDown := State.reply_linksDown _ _ _ _
@[simp] theorem State.refuse_free (s : State) (h : Handle) (status : Nat) : (s.refuse h status).free = s.free := State.reply_free _ _ _ _

/-! ### groupReply -/

@[simp] theorem State.groupReply_pending (s : State) (g : GroupOp) : (s.groupReply g).pending = s.pending := by unfold State.groupReply; dsimp only; split <;> first | rfl | exact State.reply_pending _ _ _ _
@[simp] theorem State.groupReply_ts (s : State) (g : GroupOp) : (s.groupReply g).ts = s.ts := by unfold State.groupReply; dsimp only; split <;> first | rfl | exact State.reply_ts _ _ _ _
@[simp] theorem State.groupReply_mode (s : State) (g : GroupOp) : (s.groupReply g).mode = s.mode := by unfold State.groupReply; dsimp only; split <;> first | rfl | exact State.reply_mode _ _ _ _
@[simp] theorem State.groupReply_modeCause (s : State) (g : GroupOp) : (s.groupReply g).modeCause = s.modeCause := by unfold State.groupReply; dsimp only; split <;> first | rfl | exact State.reply_modeCause _ _ _ _
@[simp] theorem State.groupReply_epoch (s : State) (g : GroupOp) : (s.groupReply g).epoch = s.epoch := by unfold State.groupReply; dsimp only; split <;> first | rfl | exact State.reply_epoch _ _ _ _
@[simp] theorem State.groupReply_commit (s : State) (g : GroupOp) : (s.groupReply g).commit = s.commit := by unfold State.groupReply; dsimp only; split <;> first | rfl | exact State.reply_commit _ _ _ _
@[simp] theorem State.groupReply_retry (s : State) (g : GroupOp) : (s.groupReply g).retry = s.retry := by unfold State.groupReply; dsimp only; split <;> first | rfl | exact State.reply_retry _ _ _ _
@[simp] theorem State.groupReply_dies (s : State) (g : GroupOp) : (s.groupReply g).dies = s.dies := by unfold State.groupReply; dsimp only; split <;> first | rfl | exact State.reply_dies _ _ _ _
@[simp] theorem State.groupReply_buffer (s : State) (g : GroupOp) : (s.groupReply g).buffer = s.buffer := by unfold State.groupReply; dsimp only; split <;> first | rfl | exact State.reply_buffer _ _ _ _
@[simp] theorem State.groupReply_lostEvents (s : State) (g : GroupOp) : (s.groupReply g).lostEvents = s.lostEvents := by unfold State.groupReply; dsimp only; split <;> first | rfl | exact State.reply_lostEvents _ _ _ _
@[simp] theorem State.groupReply_lastRel (s : State) (g : GroupOp) : (s.groupReply g).lastRel = s.lastRel := by unfold State.groupReply; dsimp only; split <;> first | rfl | exact State.reply_lastRel _ _ _ _
@[simp] theorem State.groupReply_evtPending (s : State) (g : GroupOp) : (s.groupReply g).evtPending = s.evtPending := by unfold State.groupReply; dsimp only; split <;> first | rfl | exact State.reply_evtPending _ _ _ _
@[simp] theorem State.groupReply_setNow (s : State) (g : GroupOp) : (s.groupReply g).setNow = s.setNow := by unfold State.groupReply; dsimp only; split <;> first | rfl | exact State.reply_setNow _ _ _ _
@[simp] theorem State.groupReply_params (s : State) (g : GroupOp) : (s.groupReply g).params = s.params := by unfold State.groupReply; dsimp only; split <;> first | rfl | exact State.reply_params _ _ _ _
@[simp] theorem State.groupReply_wdg (s : State) (g : GroupOp) : (s.groupReply g).wdg = s.wdg := by unfold State.groupReply; dsimp only; split <;> first | rfl | exact State.reply_wdg _ _ _ _
@[simp] theorem State.groupReply_groups (s : State) (g : GroupOp) : (s.groupReply g).groups = s.groups := by unfold State.groupReply; dsimp only; split <;> first | rfl | exact State.reply_groups _ _ _ _
@[simp] theorem State.groupReply_nextGroup (s : State) (g : GroupOp) : (s.groupReply g).nextGroup = s.nextGroup := by unfold State.groupReply; dsimp only; split <;> first | rfl | exact State.reply_nextGroup _ _ _ _
@[simp] theorem State.groupReply_portals (s : State) (g : GroupOp) : (s.groupReply g).portals = s.portals := by unfold State.groupReply; dsimp only; split <;> first | rfl | exact State.reply_portals _ _ _ _
@[simp] theorem State.groupReply_engines (s : State) (g : GroupOp) : (s.groupReply g).engines = s.engines := by unfold State.groupReply; dsimp only; split <;> first | rfl | exact State.reply_engines _ _ _ _
@[simp] theorem State.groupReply_safety (s : State) (g : GroupOp) : (s.groupReply g).safety = s.safety := by unfold State.groupReply; dsimp only; split <;> first | rfl | exact State.reply_safety _ _ _ _
@[simp] theorem State.groupReply_sealer (s : State) (g : GroupOp) : (s.groupReply g).sealer = s.sealer := by unfold State.groupReply; dsimp only; split <;> first | rfl | exact State.reply_sealer _ _ _ _
@[simp] theorem State.groupReply_pairs (s : State) (g : GroupOp) : (s.groupReply g).pairs = s.pairs := by unfold State.groupReply; dsimp only; split <;> first | rfl | exact State.reply_pairs _ _ _ _
@[simp] theorem State.groupReply_claim (s : State) (g : GroupOp) : (s.groupReply g).claim = s.claim := by unfold State.groupReply; dsimp only; split <;> first | rfl | exact State.reply_claim _ _ _ _
@[simp] theorem State.groupReply_partner (s : State) (g : GroupOp) : (s.groupReply g).partner = s.partner := by unfold State.groupReply; dsimp only; split <;> first | rfl | exact State.reply_partner _ _ _ _
@[simp] theorem State.groupReply_tele (s : State) (g : GroupOp) : (s.groupReply g).tele = s.tele := by unfold State.groupReply; dsimp only; split <;> first | rfl | exact State.reply_tele _ _ _ _
@[simp] theorem State.groupReply_recorder (s : State) (g : GroupOp) : (s.groupReply g).recorder = s.recorder := by unfold State.groupReply; dsimp only; split <;> first | rfl | exact State.reply_recorder _ _ _ _
@[simp] theorem State.groupReply_power (s : State) (g : GroupOp) : (s.groupReply g).power = s.power := by unfold State.groupReply; dsimp only; split <;> first | rfl | exact State.reply_power _ _ _ _
@[simp] theorem State.groupReply_linksDown (s : State) (g : GroupOp) : (s.groupReply g).linksDown = s.linksDown := by unfold State.groupReply; dsimp only; split <;> first | rfl | exact State.reply_linksDown _ _ _ _
@[simp] theorem State.groupReply_free (s : State) (g : GroupOp) : (s.groupReply g).free = s.free := by unfold State.groupReply; dsimp only; split <;> first | rfl | exact State.reply_free _ _ _ _

/-! ### memberEnd -/

@[simp] theorem State.memberEnd_pending (s : State) (id : Nat) (p : PortalId) (status : Nat) (ps : List Byte) : (s.memberEnd id p status ps).pending = s.pending := foldState_field (g := State.pending) fun _ _ => State.groupReply_pending _ _
@[simp] theorem State.memberEnd_ts (s : State) (id : Nat) (p : PortalId) (status : Nat) (ps : List Byte) : (s.memberEnd id p status ps).ts = s.ts := foldState_field (g := State.ts) fun _ _ => State.groupReply_ts _ _
@[simp] theorem State.memberEnd_mode (s : State) (id : Nat) (p : PortalId) (status : Nat) (ps : List Byte) : (s.memberEnd id p status ps).mode = s.mode := foldState_field (g := State.mode) fun _ _ => State.groupReply_mode _ _
@[simp] theorem State.memberEnd_modeCause (s : State) (id : Nat) (p : PortalId) (status : Nat) (ps : List Byte) : (s.memberEnd id p status ps).modeCause = s.modeCause := foldState_field (g := State.modeCause) fun _ _ => State.groupReply_modeCause _ _
@[simp] theorem State.memberEnd_epoch (s : State) (id : Nat) (p : PortalId) (status : Nat) (ps : List Byte) : (s.memberEnd id p status ps).epoch = s.epoch := foldState_field (g := State.epoch) fun _ _ => State.groupReply_epoch _ _
@[simp] theorem State.memberEnd_commit (s : State) (id : Nat) (p : PortalId) (status : Nat) (ps : List Byte) : (s.memberEnd id p status ps).commit = s.commit := foldState_field (g := State.commit) fun _ _ => State.groupReply_commit _ _
@[simp] theorem State.memberEnd_retry (s : State) (id : Nat) (p : PortalId) (status : Nat) (ps : List Byte) : (s.memberEnd id p status ps).retry = s.retry := foldState_field (g := State.retry) fun _ _ => State.groupReply_retry _ _
@[simp] theorem State.memberEnd_dies (s : State) (id : Nat) (p : PortalId) (status : Nat) (ps : List Byte) : (s.memberEnd id p status ps).dies = s.dies := foldState_field (g := State.dies) fun _ _ => State.groupReply_dies _ _
@[simp] theorem State.memberEnd_buffer (s : State) (id : Nat) (p : PortalId) (status : Nat) (ps : List Byte) : (s.memberEnd id p status ps).buffer = s.buffer := foldState_field (g := State.buffer) fun _ _ => State.groupReply_buffer _ _
@[simp] theorem State.memberEnd_lostEvents (s : State) (id : Nat) (p : PortalId) (status : Nat) (ps : List Byte) : (s.memberEnd id p status ps).lostEvents = s.lostEvents := foldState_field (g := State.lostEvents) fun _ _ => State.groupReply_lostEvents _ _
@[simp] theorem State.memberEnd_lastRel (s : State) (id : Nat) (p : PortalId) (status : Nat) (ps : List Byte) : (s.memberEnd id p status ps).lastRel = s.lastRel := foldState_field (g := State.lastRel) fun _ _ => State.groupReply_lastRel _ _
@[simp] theorem State.memberEnd_evtPending (s : State) (id : Nat) (p : PortalId) (status : Nat) (ps : List Byte) : (s.memberEnd id p status ps).evtPending = s.evtPending := foldState_field (g := State.evtPending) fun _ _ => State.groupReply_evtPending _ _
@[simp] theorem State.memberEnd_setNow (s : State) (id : Nat) (p : PortalId) (status : Nat) (ps : List Byte) : (s.memberEnd id p status ps).setNow = s.setNow := foldState_field (g := State.setNow) fun _ _ => State.groupReply_setNow _ _
@[simp] theorem State.memberEnd_params (s : State) (id : Nat) (p : PortalId) (status : Nat) (ps : List Byte) : (s.memberEnd id p status ps).params = s.params := foldState_field (g := State.params) fun _ _ => State.groupReply_params _ _
@[simp] theorem State.memberEnd_wdg (s : State) (id : Nat) (p : PortalId) (status : Nat) (ps : List Byte) : (s.memberEnd id p status ps).wdg = s.wdg := foldState_field (g := State.wdg) fun _ _ => State.groupReply_wdg _ _
@[simp] theorem State.memberEnd_nextGroup (s : State) (id : Nat) (p : PortalId) (status : Nat) (ps : List Byte) : (s.memberEnd id p status ps).nextGroup = s.nextGroup := foldState_field (g := State.nextGroup) fun _ _ => State.groupReply_nextGroup _ _
@[simp] theorem State.memberEnd_portals (s : State) (id : Nat) (p : PortalId) (status : Nat) (ps : List Byte) : (s.memberEnd id p status ps).portals = s.portals := foldState_field (g := State.portals) fun _ _ => State.groupReply_portals _ _
@[simp] theorem State.memberEnd_engines (s : State) (id : Nat) (p : PortalId) (status : Nat) (ps : List Byte) : (s.memberEnd id p status ps).engines = s.engines := foldState_field (g := State.engines) fun _ _ => State.groupReply_engines _ _
@[simp] theorem State.memberEnd_safety (s : State) (id : Nat) (p : PortalId) (status : Nat) (ps : List Byte) : (s.memberEnd id p status ps).safety = s.safety := foldState_field (g := State.safety) fun _ _ => State.groupReply_safety _ _
@[simp] theorem State.memberEnd_sealer (s : State) (id : Nat) (p : PortalId) (status : Nat) (ps : List Byte) : (s.memberEnd id p status ps).sealer = s.sealer := foldState_field (g := State.sealer) fun _ _ => State.groupReply_sealer _ _
@[simp] theorem State.memberEnd_pairs (s : State) (id : Nat) (p : PortalId) (status : Nat) (ps : List Byte) : (s.memberEnd id p status ps).pairs = s.pairs := foldState_field (g := State.pairs) fun _ _ => State.groupReply_pairs _ _
@[simp] theorem State.memberEnd_claim (s : State) (id : Nat) (p : PortalId) (status : Nat) (ps : List Byte) : (s.memberEnd id p status ps).claim = s.claim := foldState_field (g := State.claim) fun _ _ => State.groupReply_claim _ _
@[simp] theorem State.memberEnd_partner (s : State) (id : Nat) (p : PortalId) (status : Nat) (ps : List Byte) : (s.memberEnd id p status ps).partner = s.partner := foldState_field (g := State.partner) fun _ _ => State.groupReply_partner _ _
@[simp] theorem State.memberEnd_tele (s : State) (id : Nat) (p : PortalId) (status : Nat) (ps : List Byte) : (s.memberEnd id p status ps).tele = s.tele := foldState_field (g := State.tele) fun _ _ => State.groupReply_tele _ _
@[simp] theorem State.memberEnd_recorder (s : State) (id : Nat) (p : PortalId) (status : Nat) (ps : List Byte) : (s.memberEnd id p status ps).recorder = s.recorder := foldState_field (g := State.recorder) fun _ _ => State.groupReply_recorder _ _
@[simp] theorem State.memberEnd_power (s : State) (id : Nat) (p : PortalId) (status : Nat) (ps : List Byte) : (s.memberEnd id p status ps).power = s.power := foldState_field (g := State.power) fun _ _ => State.groupReply_power _ _
@[simp] theorem State.memberEnd_linksDown (s : State) (id : Nat) (p : PortalId) (status : Nat) (ps : List Byte) : (s.memberEnd id p status ps).linksDown = s.linksDown := foldState_field (g := State.linksDown) fun _ _ => State.groupReply_linksDown _ _
@[simp] theorem State.memberEnd_free (s : State) (id : Nat) (p : PortalId) (status : Nat) (ps : List Byte) : (s.memberEnd id p status ps).free = s.free := foldState_field (g := State.free) fun _ _ => State.groupReply_free _ _

/-! ### finish -/

@[simp] theorem State.finish_pending (s : State) (p : PortalId) (r : CmdRef) (status : Nat) (ps : List Byte) : (s.finish p r status ps).pending = s.pending := by unfold State.finish; split <;> first | rfl | exact State.reply_pending _ _ _ _ | exact State.memberEnd_pending _ _ _ _ _
@[simp] theorem State.finish_ts (s : State) (p : PortalId) (r : CmdRef) (status : Nat) (ps : List Byte) : (s.finish p r status ps).ts = s.ts := by unfold State.finish; split <;> first | rfl | exact State.reply_ts _ _ _ _ | exact State.memberEnd_ts _ _ _ _ _
@[simp] theorem State.finish_mode (s : State) (p : PortalId) (r : CmdRef) (status : Nat) (ps : List Byte) : (s.finish p r status ps).mode = s.mode := by unfold State.finish; split <;> first | rfl | exact State.reply_mode _ _ _ _ | exact State.memberEnd_mode _ _ _ _ _
@[simp] theorem State.finish_modeCause (s : State) (p : PortalId) (r : CmdRef) (status : Nat) (ps : List Byte) : (s.finish p r status ps).modeCause = s.modeCause := by unfold State.finish; split <;> first | rfl | exact State.reply_modeCause _ _ _ _ | exact State.memberEnd_modeCause _ _ _ _ _
@[simp] theorem State.finish_epoch (s : State) (p : PortalId) (r : CmdRef) (status : Nat) (ps : List Byte) : (s.finish p r status ps).epoch = s.epoch := by unfold State.finish; split <;> first | rfl | exact State.reply_epoch _ _ _ _ | exact State.memberEnd_epoch _ _ _ _ _
@[simp] theorem State.finish_commit (s : State) (p : PortalId) (r : CmdRef) (status : Nat) (ps : List Byte) : (s.finish p r status ps).commit = s.commit := by unfold State.finish; split <;> first | rfl | exact State.reply_commit _ _ _ _ | exact State.memberEnd_commit _ _ _ _ _
@[simp] theorem State.finish_retry (s : State) (p : PortalId) (r : CmdRef) (status : Nat) (ps : List Byte) : (s.finish p r status ps).retry = s.retry := by unfold State.finish; split <;> first | rfl | exact State.reply_retry _ _ _ _ | exact State.memberEnd_retry _ _ _ _ _
@[simp] theorem State.finish_dies (s : State) (p : PortalId) (r : CmdRef) (status : Nat) (ps : List Byte) : (s.finish p r status ps).dies = s.dies := by unfold State.finish; split <;> first | rfl | exact State.reply_dies _ _ _ _ | exact State.memberEnd_dies _ _ _ _ _
@[simp] theorem State.finish_buffer (s : State) (p : PortalId) (r : CmdRef) (status : Nat) (ps : List Byte) : (s.finish p r status ps).buffer = s.buffer := by unfold State.finish; split <;> first | rfl | exact State.reply_buffer _ _ _ _ | exact State.memberEnd_buffer _ _ _ _ _
@[simp] theorem State.finish_lostEvents (s : State) (p : PortalId) (r : CmdRef) (status : Nat) (ps : List Byte) : (s.finish p r status ps).lostEvents = s.lostEvents := by unfold State.finish; split <;> first | rfl | exact State.reply_lostEvents _ _ _ _ | exact State.memberEnd_lostEvents _ _ _ _ _
@[simp] theorem State.finish_lastRel (s : State) (p : PortalId) (r : CmdRef) (status : Nat) (ps : List Byte) : (s.finish p r status ps).lastRel = s.lastRel := by unfold State.finish; split <;> first | rfl | exact State.reply_lastRel _ _ _ _ | exact State.memberEnd_lastRel _ _ _ _ _
@[simp] theorem State.finish_evtPending (s : State) (p : PortalId) (r : CmdRef) (status : Nat) (ps : List Byte) : (s.finish p r status ps).evtPending = s.evtPending := by unfold State.finish; split <;> first | rfl | exact State.reply_evtPending _ _ _ _ | exact State.memberEnd_evtPending _ _ _ _ _
@[simp] theorem State.finish_setNow (s : State) (p : PortalId) (r : CmdRef) (status : Nat) (ps : List Byte) : (s.finish p r status ps).setNow = s.setNow := by unfold State.finish; split <;> first | rfl | exact State.reply_setNow _ _ _ _ | exact State.memberEnd_setNow _ _ _ _ _
@[simp] theorem State.finish_params (s : State) (p : PortalId) (r : CmdRef) (status : Nat) (ps : List Byte) : (s.finish p r status ps).params = s.params := by unfold State.finish; split <;> first | rfl | exact State.reply_params _ _ _ _ | exact State.memberEnd_params _ _ _ _ _
@[simp] theorem State.finish_wdg (s : State) (p : PortalId) (r : CmdRef) (status : Nat) (ps : List Byte) : (s.finish p r status ps).wdg = s.wdg := by unfold State.finish; split <;> first | rfl | exact State.reply_wdg _ _ _ _ | exact State.memberEnd_wdg _ _ _ _ _
@[simp] theorem State.finish_nextGroup (s : State) (p : PortalId) (r : CmdRef) (status : Nat) (ps : List Byte) : (s.finish p r status ps).nextGroup = s.nextGroup := by unfold State.finish; split <;> first | rfl | exact State.reply_nextGroup _ _ _ _ | exact State.memberEnd_nextGroup _ _ _ _ _
@[simp] theorem State.finish_portals (s : State) (p : PortalId) (r : CmdRef) (status : Nat) (ps : List Byte) : (s.finish p r status ps).portals = s.portals := by unfold State.finish; split <;> first | rfl | exact State.reply_portals _ _ _ _ | exact State.memberEnd_portals _ _ _ _ _
@[simp] theorem State.finish_engines (s : State) (p : PortalId) (r : CmdRef) (status : Nat) (ps : List Byte) : (s.finish p r status ps).engines = s.engines := by unfold State.finish; split <;> first | rfl | exact State.reply_engines _ _ _ _ | exact State.memberEnd_engines _ _ _ _ _
@[simp] theorem State.finish_safety (s : State) (p : PortalId) (r : CmdRef) (status : Nat) (ps : List Byte) : (s.finish p r status ps).safety = s.safety := by unfold State.finish; split <;> first | rfl | exact State.reply_safety _ _ _ _ | exact State.memberEnd_safety _ _ _ _ _
@[simp] theorem State.finish_sealer (s : State) (p : PortalId) (r : CmdRef) (status : Nat) (ps : List Byte) : (s.finish p r status ps).sealer = s.sealer := by unfold State.finish; split <;> first | rfl | exact State.reply_sealer _ _ _ _ | exact State.memberEnd_sealer _ _ _ _ _
@[simp] theorem State.finish_pairs (s : State) (p : PortalId) (r : CmdRef) (status : Nat) (ps : List Byte) : (s.finish p r status ps).pairs = s.pairs := by unfold State.finish; split <;> first | rfl | exact State.reply_pairs _ _ _ _ | exact State.memberEnd_pairs _ _ _ _ _
@[simp] theorem State.finish_claim (s : State) (p : PortalId) (r : CmdRef) (status : Nat) (ps : List Byte) : (s.finish p r status ps).claim = s.claim := by unfold State.finish; split <;> first | rfl | exact State.reply_claim _ _ _ _ | exact State.memberEnd_claim _ _ _ _ _
@[simp] theorem State.finish_partner (s : State) (p : PortalId) (r : CmdRef) (status : Nat) (ps : List Byte) : (s.finish p r status ps).partner = s.partner := by unfold State.finish; split <;> first | rfl | exact State.reply_partner _ _ _ _ | exact State.memberEnd_partner _ _ _ _ _
@[simp] theorem State.finish_tele (s : State) (p : PortalId) (r : CmdRef) (status : Nat) (ps : List Byte) : (s.finish p r status ps).tele = s.tele := by unfold State.finish; split <;> first | rfl | exact State.reply_tele _ _ _ _ | exact State.memberEnd_tele _ _ _ _ _
@[simp] theorem State.finish_recorder (s : State) (p : PortalId) (r : CmdRef) (status : Nat) (ps : List Byte) : (s.finish p r status ps).recorder = s.recorder := by unfold State.finish; split <;> first | rfl | exact State.reply_recorder _ _ _ _ | exact State.memberEnd_recorder _ _ _ _ _
@[simp] theorem State.finish_power (s : State) (p : PortalId) (r : CmdRef) (status : Nat) (ps : List Byte) : (s.finish p r status ps).power = s.power := by unfold State.finish; split <;> first | rfl | exact State.reply_power _ _ _ _ | exact State.memberEnd_power _ _ _ _ _
@[simp] theorem State.finish_linksDown (s : State) (p : PortalId) (r : CmdRef) (status : Nat) (ps : List Byte) : (s.finish p r status ps).linksDown = s.linksDown := by unfold State.finish; split <;> first | rfl | exact State.reply_linksDown _ _ _ _ | exact State.memberEnd_linksDown _ _ _ _ _
@[simp] theorem State.finish_free (s : State) (p : PortalId) (r : CmdRef) (status : Nat) (ps : List Byte) : (s.finish p r status ps).free = s.free := by unfold State.finish; split <;> first | rfl | exact State.reply_free _ _ _ _ | exact State.memberEnd_free _ _ _ _ _

/-! ### finishAll -/

@[simp] theorem State.finishAll_pending (s : State) (p : PortalId) (l : List CmdRef) (status : Nat) (ps : List Byte) : (s.finishAll p l status ps).pending = s.pending := foldState_field (g := State.pending) fun _ _ => State.finish_pending _ _ _ _ _
@[simp] theorem State.finishAll_ts (s : State) (p : PortalId) (l : List CmdRef) (status : Nat) (ps : List Byte) : (s.finishAll p l status ps).ts = s.ts := foldState_field (g := State.ts) fun _ _ => State.finish_ts _ _ _ _ _
@[simp] theorem State.finishAll_mode (s : State) (p : PortalId) (l : List CmdRef) (status : Nat) (ps : List Byte) : (s.finishAll p l status ps).mode = s.mode := foldState_field (g := State.mode) fun _ _ => State.finish_mode _ _ _ _ _
@[simp] theorem State.finishAll_modeCause (s : State) (p : PortalId) (l : List CmdRef) (status : Nat) (ps : List Byte) : (s.finishAll p l status ps).modeCause = s.modeCause := foldState_field (g := State.modeCause) fun _ _ => State.finish_modeCause _ _ _ _ _
@[simp] theorem State.finishAll_epoch (s : State) (p : PortalId) (l : List CmdRef) (status : Nat) (ps : List Byte) : (s.finishAll p l status ps).epoch = s.epoch := foldState_field (g := State.epoch) fun _ _ => State.finish_epoch _ _ _ _ _
@[simp] theorem State.finishAll_commit (s : State) (p : PortalId) (l : List CmdRef) (status : Nat) (ps : List Byte) : (s.finishAll p l status ps).commit = s.commit := foldState_field (g := State.commit) fun _ _ => State.finish_commit _ _ _ _ _
@[simp] theorem State.finishAll_retry (s : State) (p : PortalId) (l : List CmdRef) (status : Nat) (ps : List Byte) : (s.finishAll p l status ps).retry = s.retry := foldState_field (g := State.retry) fun _ _ => State.finish_retry _ _ _ _ _
@[simp] theorem State.finishAll_dies (s : State) (p : PortalId) (l : List CmdRef) (status : Nat) (ps : List Byte) : (s.finishAll p l status ps).dies = s.dies := foldState_field (g := State.dies) fun _ _ => State.finish_dies _ _ _ _ _
@[simp] theorem State.finishAll_buffer (s : State) (p : PortalId) (l : List CmdRef) (status : Nat) (ps : List Byte) : (s.finishAll p l status ps).buffer = s.buffer := foldState_field (g := State.buffer) fun _ _ => State.finish_buffer _ _ _ _ _
@[simp] theorem State.finishAll_lostEvents (s : State) (p : PortalId) (l : List CmdRef) (status : Nat) (ps : List Byte) : (s.finishAll p l status ps).lostEvents = s.lostEvents := foldState_field (g := State.lostEvents) fun _ _ => State.finish_lostEvents _ _ _ _ _
@[simp] theorem State.finishAll_lastRel (s : State) (p : PortalId) (l : List CmdRef) (status : Nat) (ps : List Byte) : (s.finishAll p l status ps).lastRel = s.lastRel := foldState_field (g := State.lastRel) fun _ _ => State.finish_lastRel _ _ _ _ _
@[simp] theorem State.finishAll_evtPending (s : State) (p : PortalId) (l : List CmdRef) (status : Nat) (ps : List Byte) : (s.finishAll p l status ps).evtPending = s.evtPending := foldState_field (g := State.evtPending) fun _ _ => State.finish_evtPending _ _ _ _ _
@[simp] theorem State.finishAll_setNow (s : State) (p : PortalId) (l : List CmdRef) (status : Nat) (ps : List Byte) : (s.finishAll p l status ps).setNow = s.setNow := foldState_field (g := State.setNow) fun _ _ => State.finish_setNow _ _ _ _ _
@[simp] theorem State.finishAll_params (s : State) (p : PortalId) (l : List CmdRef) (status : Nat) (ps : List Byte) : (s.finishAll p l status ps).params = s.params := foldState_field (g := State.params) fun _ _ => State.finish_params _ _ _ _ _
@[simp] theorem State.finishAll_wdg (s : State) (p : PortalId) (l : List CmdRef) (status : Nat) (ps : List Byte) : (s.finishAll p l status ps).wdg = s.wdg := foldState_field (g := State.wdg) fun _ _ => State.finish_wdg _ _ _ _ _
@[simp] theorem State.finishAll_nextGroup (s : State) (p : PortalId) (l : List CmdRef) (status : Nat) (ps : List Byte) : (s.finishAll p l status ps).nextGroup = s.nextGroup := foldState_field (g := State.nextGroup) fun _ _ => State.finish_nextGroup _ _ _ _ _
@[simp] theorem State.finishAll_portals (s : State) (p : PortalId) (l : List CmdRef) (status : Nat) (ps : List Byte) : (s.finishAll p l status ps).portals = s.portals := foldState_field (g := State.portals) fun _ _ => State.finish_portals _ _ _ _ _
@[simp] theorem State.finishAll_engines (s : State) (p : PortalId) (l : List CmdRef) (status : Nat) (ps : List Byte) : (s.finishAll p l status ps).engines = s.engines := foldState_field (g := State.engines) fun _ _ => State.finish_engines _ _ _ _ _
@[simp] theorem State.finishAll_safety (s : State) (p : PortalId) (l : List CmdRef) (status : Nat) (ps : List Byte) : (s.finishAll p l status ps).safety = s.safety := foldState_field (g := State.safety) fun _ _ => State.finish_safety _ _ _ _ _
@[simp] theorem State.finishAll_sealer (s : State) (p : PortalId) (l : List CmdRef) (status : Nat) (ps : List Byte) : (s.finishAll p l status ps).sealer = s.sealer := foldState_field (g := State.sealer) fun _ _ => State.finish_sealer _ _ _ _ _
@[simp] theorem State.finishAll_pairs (s : State) (p : PortalId) (l : List CmdRef) (status : Nat) (ps : List Byte) : (s.finishAll p l status ps).pairs = s.pairs := foldState_field (g := State.pairs) fun _ _ => State.finish_pairs _ _ _ _ _
@[simp] theorem State.finishAll_claim (s : State) (p : PortalId) (l : List CmdRef) (status : Nat) (ps : List Byte) : (s.finishAll p l status ps).claim = s.claim := foldState_field (g := State.claim) fun _ _ => State.finish_claim _ _ _ _ _
@[simp] theorem State.finishAll_partner (s : State) (p : PortalId) (l : List CmdRef) (status : Nat) (ps : List Byte) : (s.finishAll p l status ps).partner = s.partner := foldState_field (g := State.partner) fun _ _ => State.finish_partner _ _ _ _ _
@[simp] theorem State.finishAll_tele (s : State) (p : PortalId) (l : List CmdRef) (status : Nat) (ps : List Byte) : (s.finishAll p l status ps).tele = s.tele := foldState_field (g := State.tele) fun _ _ => State.finish_tele _ _ _ _ _
@[simp] theorem State.finishAll_recorder (s : State) (p : PortalId) (l : List CmdRef) (status : Nat) (ps : List Byte) : (s.finishAll p l status ps).recorder = s.recorder := foldState_field (g := State.recorder) fun _ _ => State.finish_recorder _ _ _ _ _
@[simp] theorem State.finishAll_power (s : State) (p : PortalId) (l : List CmdRef) (status : Nat) (ps : List Byte) : (s.finishAll p l status ps).power = s.power := foldState_field (g := State.power) fun _ _ => State.finish_power _ _ _ _ _
@[simp] theorem State.finishAll_linksDown (s : State) (p : PortalId) (l : List CmdRef) (status : Nat) (ps : List Byte) : (s.finishAll p l status ps).linksDown = s.linksDown := foldState_field (g := State.linksDown) fun _ _ => State.finish_linksDown _ _ _ _ _
@[simp] theorem State.finishAll_free (s : State) (p : PortalId) (l : List CmdRef) (status : Nat) (ps : List Byte) : (s.finishAll p l status ps).free = s.free := foldState_field (g := State.free) fun _ _ => State.finish_free _ _ _ _ _

end Sys2Proof.Machine
end

