-- ==== Sys2Proof/Laws/Sound.lean ====
section
/-! SUPPORT. The commands whose meanings write the bounded stores, or run a host command. -/

namespace Sys2Proof.Machine

theorem State.segReceive_sound (s : State) (f : CanFrame) : Sound s (s.segReceive f) := by
  have hseg : ∀ v, Sound s (s.modPort 1 fun x => { x with seg := v }) := fun v => Sound.of_kept (by simp)
  unfold State.segReceive
  split
  · exact Sound.refl s
  · split
    · exact Sound.refl s
    · extract_lets i none' add
      have hadd : ∀ l, Sound s (add l) := by
        intro l
        simp only [add]
        split
        · split
          · exact (hseg none).trans (State.receive_sound ..)
          · exact hseg none
        · exact hseg _
      split
      · exact hadd _
      · split
        · split
          · exact hadd _
          · exact hseg none
        · exact Sound.refl s

theorem State.mirquaFrame_sound (s : State) (f : CanFrame) (sof : Nat) : Sound s (s.mirquaFrame f sof) := by
  have h : (s.canReceive 3 f sof true).1.kept = s.kept := State.canReceive_kept ..
  unfold State.mirquaFrame
  dsimp only
  split
  · exact (Sound.of_kept h).trans (State.segReceive_sound ..)
  · exact Sound.of_kept h

theorem execEventArrival_sound (dt : Nat) (d : DieId) (s : State) : ∃ t, execEventArrival dt d s = .next t ∧ Sound s t := by
  refine ⟨_, rfl, ?_⟩
  dsimp only
  split
  · exact Sound.of_kept (by simp)
  · split
    · refine Sound.ite (Sound.trans ?_ (State.release_sound ..)) ?_ <;> exact Sound.of_kept (by simp)
    · exact Sound.of_kept (by simp)

theorem execEventRelease_sound (dt : Nat) (s : State) : ∃ t, execEventRelease dt s = .next t ∧ Sound s t := by
  refine ⟨_, rfl, ?_⟩
  exact Sound.trans (Sound.of_kept (by simp)) (foldState_sound _ _ _ fun e t => State.release_sound t e)

theorem execRecordWrite_sound (dt : Nat) (s : State) : ∃ t, execRecordWrite dt s = .next t ∧ Sound s t := by
  refine ⟨_, rfl, ?_⟩
  dsimp only
  split
  · exact Sound.of_kept (by simp)
  · split
    · exact Sound.of_kept (by simp)
    · refine Sound.then_kept ?_ (State.writeRecord_kept ..)
      refine ⟨rfl, fun b => ⟨b.1, b.2.1, b.2.2.1, b.2.2.2.1, ?_⟩⟩
      have := b.2.2.2.2
      simp only [State.advance]
      omega

theorem execWriteCreditRegain_sound (dt : Nat) (s : State) : ∃ t, execWriteCreditRegain dt s = .next t ∧ Sound s t := by
  refine ⟨_, rfl, Sound.ite ?_ (Sound.of_kept (State.advance_kept s dt))⟩
  refine ⟨rfl, fun b => ⟨b.1, b.2.1, b.2.2.1, b.2.2.2.1, ?_⟩⟩
  have := b.2.2.2.2
  show satInc 128 s.recorder.credit ≤ 128
  unfold satInc
  split <;> omega

theorem execLogicSupplyLost_sound (dt : Nat) (s : State) : ∃ t, execLogicSupplyLost dt s = .next t ∧ Sound s t := by
  refine ⟨_, rfl, ?_⟩
  refine Sound.trans (Sound.trans (Sound.of_kept (State.advance_kept s dt)) (State.powerCycle_sound _)) (Sound.of_kept ?_)
  simp

theorem execPorNRelease_sound (dt : Nat) (a b : Bool) (s : State) : ∃ t, execPorNRelease dt a b s = .next t ∧ Sound s t := by
  refine ⟨_, rfl, ?_⟩
  refine Sound.ite (Sound.of_kept (State.advance_kept s dt)) ?_
  exact (State.powerCycle_sound s).then_kept (by simp)

theorem execSpiWrite_sound (dt : Nat) (bytes : List Byte) (cut : Bool) (s : State) : ∃ t, execSpiWrite dt bytes cut s = .next t ∧ Sound s t := by
  refine ⟨_, rfl, ?_⟩
  split
  · exact Sound.of_kept (by simp)
  · split
    · exact Sound.of_kept (by simp)
    · refine Sound.trans ?_ (State.receive_sound ..)
      exact Sound.of_kept (by simp)

theorem execCanFrameReceived_sound (dt : Nat) (n : CanId) (f : CanFrame) (sof : Nat) (s : State) :
    ∃ t, execCanFrameReceived dt n f sof s = .next t ∧ Sound s t := by
  refine ⟨_, rfl, ?_⟩
  refine Sound.trans (Sound.of_kept (State.advance_kept s dt)) (Sound.ite (State.mirquaFrame_sound ..) (Sound.of_kept (State.plainFrame_kept ..)))

theorem execMirquaSegmentReceived_sound (dt : Nat) (f : CanFrame) (s : State) : ∃ t, execMirquaSegmentReceived dt f s = .next t ∧ Sound s t := by
  refine ⟨_, rfl, ?_⟩
  exact Sound.trans (Sound.of_kept (State.advance_kept s dt)) (Sound.ite (State.mirquaFrame_sound ..) (Sound.refl _))

theorem execInterpreterTurn_sound (dt : Nat) (s : State) : ∃ t, execInterpreterTurn dt s = .next t ∧ Sound s t := by
  refine ⟨_, rfl, ?_⟩
  exact Sound.trans (Sound.of_kept (State.advance_kept s dt)) (Sound.ite ((State.turn_sound ..).trans (State.turn_sound ..)) (Sound.refl _))

theorem State.deliverHeld_sound (s : State) (c : HeldCmd) : Sound s (s.deliverHeld c) := by
  unfold State.deliverHeld
  split
  · exact Sound.of_kept (by simp)
  · exact Sound.ite (Sound.of_kept (by simp)) (Sound.ite (Sound.of_kept (by simp)) (opFun_sound ..))

theorem execRestartComplete_sound (dt : Nat) (d : Fin 3) (imageOk : Bool) (s : State) : ∃ t, execRestartComplete dt d imageOk s = .next t ∧ Sound s t := by
  refine ⟨_, rfl, ?_⟩
  refine Sound.trans (Sound.of_kept (State.advance_kept s dt)) ?_
  split
  · exact Sound.refl _
  · split
    · exact Sound.of_kept (by simp)
    · split
      · exact Sound.of_kept (by simp)
      · refine Sound.trans (Sound.of_kept ?_) (foldState_sound _ _ _ fun c t => State.deliverHeld_sound t c)
        simp

/-- A command packet is interpreted or waits. -/
theorem packet_sound (dt op : Nat) (h : CmdHeader) (ps : List Byte) (f : State → Handle → List Byte → State) (hf : ∀ t h ps, Sound t (f t h ps))
    (s : State) : ∃ t, Host.Outcome.next (φ := Fault) (ρ := Refusal) ((s.advance dt).packet op h ps f) = .next t ∧ Sound s t :=
  ⟨_, rfl, Sound.trans (Sound.of_kept (State.advance_kept s dt)) (State.packet_sound _ _ _ _ _ hf)⟩

end Sys2Proof.Machine
end

