-- ==== Sys2Proof/Tests/Slice0.lean ====
section
/-! SUPPORT. Tests: terms that the well-formedness checks refuse, and for the hypotheses of each statement a state and operands that meet them. Expected values
come from the manual's rules, not from the model. -/

namespace Sys2Proof.Tests

set_option Elab.async false

open Sys2Proof.Machine

/-! ## Small states -/

/-- A device past TEST in a mode, with both Mirqua ports agreed on version 1. -/
def inMode (m : Mode) : State :=
  { State.reset with mode := m, ports := Vector.replicate 2 { Port.reset with version := 1 }, dies := Vector.replicate 8 { Die.reset with mode := m } }

/-- The same with sealed values in force. -/
def fitted (m : Mode) (l : List ((Nat × Nat) × Int)) : State := { inMode m with sealer := { Seal.reset with loaded := l } }

/-- A device with portal 0 present, one leaf and no step. -/
def oneDoor (m : Mode) : State := fitted m [((0x1000, 0x1000), 1)]

/-- A device with portal 0 present, two leaves and a step. -/
def fullDoor (m : Mode) : State := fitted m [((0x1000, 0x1000), 7)]

/-- A command header on the SPI port with a free tag. -/
def cmdTo (u : UnitAddr) : CmdHeader := ⟨0, 1, 5, u, 0⟩

/-- A header's handle. -/
def handleOf (op : Nat) (u : UnitAddr) : Handle := ⟨0, 0, 5, op, u⟩

/-! ## The block as a whole -/

theorem test_front : ({ State.reset with pending := [.capSend 0] } : State).pending = .capSend 0 :: [] ∧ State.reset.pending = [] := by decide +kernel

theorem test_reset_bounded : State.reset.Bounded := by
  unfold State.Bounded
  decide +kernel

/-! ## Session commands and the watchdog -/

theorem test_hello : (inMode .configure).interprets ∧ (inMode .configure).power.pfail = false ∧ ((inMode .configure).port 0).tags.getLsbD 5 = false ∧ (cmdTo 0).unit = 0
    ∧ (cmdTo 0).flags = 0 ∧ (1#8).toNat ≤ 1 ∧ (0#8).toNat < (1#8).toNat ∧ (1#8).toNat ≤ (1#8).toNat ∧ ((inMode .configure).box 3 12).isNone := by decide +kernel

theorem test_session : (inMode .test).Takes 0x01 (cmdTo 0) [] ∧ (inMode .test).Takes 0x06 (cmdTo 0) [] ∧ (inMode .test).Takes 0x07 (cmdTo 0) [7] ∧ (inMode .test).Takes 0x05 (cmdTo 0) [32]
    ∧ (inMode .test).Takes 0x05 (cmdTo 0) [1] := by
  constructorm* _ ∧ _ <;> first | (unfold State.Takes; decide +kernel) | decide +kernel


/-- A watchdog of window 100 ms and key 0x1234, started by the SPI port at time-stamp 0. -/
def dog (state kicks : Nat) : Watchdog := ⟨state, 100, 0x1234, 0, kicks, 0, none⟩

/-- A device in a mode with a watchdog. -/
def withDog (m : Mode) (w : Watchdog) : State := { inMode m with wdg := w }

theorem test_wdg_start : (inMode .service).Takes 0x02 (cmdTo 0) [100, 0, 0x34, 0x12] ∧ (inMode .service).Takes 0x02 (cmdTo 0) [100, 0, 0, 0]
    ∧ (inMode .service).Takes 0x02 (cmdTo 0) [9, 0, 0x34, 0x12] ∧ (inMode .service).wdg.state = 0 ∧ unLe [100#8, 0] = 100
    ∧ (withDog .service { dog 1 0 with owner := 1 }).Takes 0x02 (cmdTo 0) [100, 0, 0x34, 0x12] ∧ (withDog .service { dog 1 0 with owner := 1 }).wdg.state ≠ 0
    ∧ (withDog .service { dog 1 0 with owner := 1 }).wdg.owner ≠ (cmdTo 0).port := by
  constructorm* _ ∧ _ <;> first | (unfold State.Takes; decide +kernel) | decide +kernel

theorem test_wdg_kick : (withDog .service (dog 1 0)).Takes 0x03 (cmdTo 0) [0xCB, 0xED] ∧ BitVec.ofNat 16 (unLe [0xCB#8, 0xED]) = (0x1234#16 ^^^ 0xFFFF)
    ∧ ms 100 ≤ 4 * ((0#56) + BitVec.ofNat 56 2500000 - 0).toNat ∧ ((0#56) + BitVec.ofNat 56 10000000 - 0).toNat ≤ ms 100
    ∧ (withDog .service (dog 1 1)).Takes 0x03 (cmdTo 0) [0x34, 0x12] ∧ 4 * ((0#56) + BitVec.ofNat 56 2499999 - 0).toNat < ms 100
    ∧ (withDog .service (dog 2 0)).Takes 0x03 (cmdTo 0) [0xCB, 0xED] ∧ (dog 2 0).state ≠ 1 := by
  constructorm* _ ∧ _ <;> first | (unfold State.Takes; decide +kernel) | decide +kernel

theorem test_wdg_stop : (withDog .service (dog 1 0)).Takes 0x04 (cmdTo 0) [0xCB, 0xED] ∧ (withDog .service (dog 1 0)).par 0xD000 0 ≠ 1
    ∧ BitVec.ofNat 16 (unLe [0xCB#8, 0xED]) = (withDog .service (dog 1 0)).wdg.nextKey ∧ (withDog .service (dog 1 0)).Takes 0x04 (cmdTo 0) [0x34, 0x12]
    ∧ BitVec.ofNat 16 (unLe [0x34#8, 0x12]) ≠ (withDog .service (dog 1 0)).wdg.nextKey ∧ (inMode .service).Takes 0x04 (cmdTo 0) [0, 0]
    ∧ (let s : State := { withDog .service (dog 1 0) with sealer := { Seal.reset with loaded := [((0xD000, 0), 1)] } }
       s.Takes 0x04 (cmdTo 0) [0xCB, 0xED] ∧ s.par 0xD000 0 = 1)
    ∧ (let s := withDog .service { dog 1 0 with owner := 1 }
       s.Takes 0x04 (cmdTo 0) [0xCB, 0xED] ∧ s.wdg.owner ≠ (cmdTo 0).port) := by
  constructorm* _ ∧ _ <;> first | (unfold State.Takes; decide +kernel) | decide +kernel

/-! ## Parameters -/

theorem test_param_read : (inMode .service).Takes 0x10 (cmdTo 0) [0x00, 0x90] ∧ isGroup (cmdTo 0).unit.toNat = false
    ∧ ((ParamTable.find 0x9000).any fun d => d.atUnit 0x9000 0) ∧ ((ParamTable.find 0x9000).any fun d => !d.atUnit 0x9000 0x1000)
    ∧ (inMode .service).Takes 0x10 (cmdTo 0x1000) [0x00, 0x90] ∧ (inMode .service).Takes 0x10 (cmdTo 0) [0xFF, 0xFF] ∧ ParamTable.find 0xFFFF = none
    ∧ (inMode .service).Takes 0x12 (cmdTo 0) [0x00, 0x90, 64] ∧ (inMode .service).Takes 0x12 (cmdTo 0) [0x00, 0x90, 1] := by
  constructorm* _ ∧ _ <;> first | (unfold State.Takes; decide +kernel) | decide +kernel

theorem test_access_kinds : ((ParamTable.find 0x9000).any fun d => d.access = .srw) ∧ ((ParamTable.find 0x4020).any fun d => d.access = .wo) ∧ ((ParamTable.find 0x1045).any fun d => d.access = .rwMaint)
    ∧ ((ParamTable.find 0x2003).any fun d => d.access = .rwConf) ∧ pfEnable 0x1045 = none ∧ leafRate 0x1045 = false := by decide +kernel

theorem test_store_order : ([((1, 2), 3), ((1, 4), 0)] : List ((Nat × Nat) × Int)).Pairwise (fun a b => keyLt a.1 b.1) ∧ ((1, 2) : Nat × Nat) ≠ (1, 4) := by decide +kernel

/-- CLOSE_WARN_TIME of portal 0, an RW parameter, written as 10,000 (R77). -/
def warnRec : ParamRec := ⟨0x1040, 2, [0x10, 0x27]⟩

/-- The write that the record asks for. -/
def warnPut : ParamPut := ⟨descOf 0x1040, 0x1040, 0x1000, 2, 10000⟩

theorem test_param_write : (oneDoor .configure).Takes 0x11 (cmdTo 0x1000) (le 2 warnRec.pid ++ le 1 warnRec.size ++ warnRec.value) ∧ warnRec.size = warnRec.value.length
    ∧ (oneDoor .configure).groupOf 0x1000 = none ∧ ParamTable.find 0x1040 = some (descOf 0x1040) ∧ (descOf 0x1040).atUnit 0x1040 0x1000 ∧ warnRec.num (descOf 0x1040) = 10000
    ∧ (let s := (oneDoor .configure).accepted 0 (cmdTo 0x1000)
       s.putRefused (s.put warnPut) 0x1000 warnPut = none) ∧ (descOf 0x1040).access = .rw ∧ pfEnable 0x1040 = none := by
  constructorm* _ ∧ _ <;> first | (unfold State.Takes; decide +kernel) | decide +kernel

/-- The same record twice; the write of two parameters; and a second one whose value lies out of its range. -/
def pairOf (b : Byte) : List Byte := [2, 0x40, 0x10, 2, 0x10, 0x27, 0x42, 0x10, 2, 0x10, b]

theorem test_param_write_set : (oneDoor .configure).Takes 0x13 (cmdTo 0x1000) (pairOf 0x27) ∧ (takeRecs 2 ((pairOf 0x27).drop 1)).isSome ∧ (oneDoor .configure).groupOf 0x1000 = none
    ∧ ((takeRecs 2 ((pairOf 0x27).drop 1)).any fun rs => (twice rs).isNone && (match putsOf 0x1000 0x1000 rs with
        | .ok qs => (let s := (oneDoor .configure).accepted 0 (cmdTo 0x1000)
            qs.all fun q => s.putRefused (foldState qs (fun q t => t.put q) s) 0x1000 q = none)
        | .error _ => false))
    ∧ ((takeRecs 2 ((pairOf 0xFF).drop 1)).any fun rs => (twice rs).isNone && (match putsOf 0x1000 0x1000 rs with
        | .ok qs => (let s := (oneDoor .configure).accepted 0 (cmdTo 0x1000)
            qs.any fun q => s.putRefused (foldState qs (fun q t => t.put q) s) 0x1000 q ≠ none)
        | .error _ => false))
    ∧ (oneDoor .configure).Takes 0x13 (cmdTo 0x1000) [2, 0x40, 0x10, 2, 1, 0, 0x40, 0x10, 2, 2, 0]
    ∧ ((takeRecs 2 [0x40#8, 0x10, 2, 1, 0, 0x40, 0x10, 2, 2, 0]).any fun rs => (twice rs).isSome) := by
  constructorm* _ ∧ _ <;> first | (unfold State.Takes; decide +kernel) | decide +kernel

theorem test_clears : (inMode .service).Takes 0x11 (cmdTo 0) (writeParams 0xE012 4 0xFFFFFFFF) ∧ (inMode .service).Takes 0x11 (cmdTo 0) (writeParams 0xE013 4 1)
    ∧ (inMode .service).Takes 0x11 (cmdTo 0x4100) (writeParams (0x3000 + 63) 2 0x3FF) ∧ 0x4100 = uEngine 0
    ∧ (inMode .service).Takes 0x11 (cmdTo 0x1010) (writeParams 0x4080 2 8) ∧ 0x1010 = uLeaf 0 0 ∧ (inMode .service).Takes 0x11 (cmdTo 0x1037) (writeParams 0x7080 2 1) ∧ 0x1037 = uChan 0 7
    ∧ (inMode .service).Takes 0x11 (cmdTo 0) (writeParams (canPid 3 0x8B) 1 3) ∧ (inMode .maintain).Takes 0x11 (cmdTo 0x1010) (writeParams 0x4020 1 1)
    ∧ (inMode .service).Takes 0x11 (cmdTo 0x1042) (writeParams 0x6016 1 1) ∧ 0x1042 = uFb 0 2 := by
  constructorm* _ ∧ _ <;> first | (unfold State.Takes; decide +kernel) | decide +kernel

/-- Portal 0 with its feedback interface 0 of type A/B/Z armed by INDEX_MODE 2. -/
def armedDoor : State := { oneDoor .configure with params := [((0x6010, 0x1040), 2)] }

/-- Portal 0 in MAINTAIN with the seal word open. -/
def openSeal (m : Mode) : State := { oneDoor m with sealer := { Seal.reset with loaded := [((0x1000, 0x1000), 1)], live := 0x8000 } }

/-- FB_TYPE of portal 0's leaf 0 becomes 1. -/
def typePut : ParamPut := ⟨descOf 0x6000, 0x6000, 0x1040, 1, 1⟩

theorem test_fb_arm : armedDoor.Takes 0x11 (cmdTo 0x1040) (writeParams 0x6015 1 1) ∧ armedDoor.par 0x6010 (uFb 0 0) = 2
    ∧ (openSeal .maintain).Takes 0x11 (cmdTo 0x1040) (writeParams 0x6000 1 1)
    ∧ ((openSeal .maintain).accepted 0 (cmdTo 0x1040)).putRefused (((openSeal .maintain).accepted 0 (cmdTo 0x1040)).put typePut) 0x1040 typePut = none := by
  constructorm* _ ∧ _ <;> first | (unfold State.Takes; decide +kernel) | decide +kernel

theorem test_set_now : (State.reset.markSet 0xE012 0 3).isSetNow 0xE012 0 3 ∧ (State.reset.w1cMask 0xE012 0 32 8) = 8 ∧ ((State.reset.markSet 0xE012 0 3).w1cMask 0xE012 0 32 8) = 0 := by
  decide +kernel

/-! ## Modes, epochs, heartbeats, time-stamps -/

/-- A commit to a mode, prepared at time-stamp 0, with the dies that have acknowledged and the decision. -/
def commitTo (m : Mode) (acks : BitVec 8) (decided : Option Bool) (again : Bool) : Commit := ⟨m, 1, 50000, 0x7F, acks, decided, again, some (handleOf 0x20 0), none⟩

/-- A device with a commit in progress. -/
def committing (m : Mode) (c : Commit) : State := { inMode m with commit := some c }

/-- Zero speed confirmed by the inputs and by the telegram, nothing else (R69). -/
def atRest (m : Mode) : State :=
  { inMode m with
    safety := { Safety.reset with zsAdopted := true, zsA := true }
    tele := { Telegrams.reset with zs := { Stream.reset with valid := true, byte0 := 0xA5 } } }

theorem test_mode_request : (inMode .configure).Takes 0x20 (cmdTo 0) [8] ∧ (Mode.ofCode 8).isNone ∧ (inMode .configure).Takes 0x20 (cmdTo 0) [5] ∧ (inMode .configure).Takes 0x20 (cmdTo 0) [2]
    ∧ (inMode .configure).Takes 0x20 (cmdTo 0) [6] ∧ (inMode .configure).Takes 0x20 (cmdTo 0) [1] ∧ ((inMode .configure).accepted 0 (cmdTo 0)).modeRefused .test = none
    ∧ (((inMode .configure).accepted 0 (cmdTo 0)).modeRefused .maintain).isSome ∧ (inMode .configure).commit = none ∧ ((inMode .configure).pair 0).scope ≠ .split
    ∧ (committing .configure (commitTo .test 1 none false)).Takes 0x20 (cmdTo 0) [1] ∧ (atRest .service).modeRefused .configure = none
    ∧ (openSeal .maintain).modeRefused .configure = none := by
  constructorm* _ ∧ _ <;> first | (unfold State.Takes; decide +kernel) | decide +kernel

theorem test_safe_entry : (inMode .test).mode ≠ .init ∧ (inMode .safe).mode = .safe := by decide +kernel

theorem test_participants : (committing .configure (commitTo .test 1 none false)).commit.isSome ∧ (1 : DieId) ∈ participants ∧ (commitTo .test 1 none false).parts.getLsbD 1
    ∧ ((inMode .configure).pair 1).scope ≠ .restarting ∧ ((inMode .configure).pair 1).scope ≠ .held ∧ (commitTo .test 0x7F (some true) false).decided = some true
    ∧ ({ Die.reset with prepare := some ⟨1, .test, 50000⟩ } : Die).prepare.isSome ∧ (commitTo .test 1 (some false) false).decided = some false
    ∧ ({ Die.reset with safeDue := true } : Die).safeDue := by decide +kernel

theorem test_safe_under_way : (1 : DieId) ∈ participants ∧ (((inMode .service).modDie 1 fun x => { x with safeDue := true }).die 1).safeDue = true := by decide +kernel

theorem test_ack_deadline : ((committing .configure (commitTo .test 0x7F none false)).advance 40000).elapsed ((commitTo .test 0x7F none false).due - BitVec.ofNat 56 50000) 40000
    ∧ (commitTo .test 0x7F none false).parts &&& ~~~(commitTo .test 0x7F none false).acks = 0 ∧ (commitTo .test 1 none false).parts &&& ~~~(commitTo .test 1 none false).acks ≠ 0 := by
  decide +kernel

theorem test_commit_time : ((committing .configure (commitTo .test 0x7F (some true) false)).advance 50000).elapsed (50000 - BitVec.ofNat 56 50000) 50000
    ∧ ((inMode .configure).pair 0).scope ≠ .restarting ∧ (commitTo .service 0x7F (some true) false).target.door = true ∧ (commitTo .test 1 (some false) true).repeated = true
    ∧ (({ inMode .configure with retry := some { commitTo .test 1 (some false) false with due := 150000 } } : State).advance 150000).elapsed (150000 - BitVec.ofNat 56 100000) 100000 := by
  decide +kernel

theorem test_heartbeat : ((inMode .service).die 6).pllLost = false ∧ ((inMode .service).die 6).hubLost = false ∧ ((inMode .service).die 6).missed = false
    ∧ ((inMode .service).die 6).epoch = (inMode .service).epoch ∧ (({ inMode .service with epoch := 1 } : State).die 6).epoch ≠ 1
    ∧ (((inMode .service).modDie 6 fun x => { x with missed := true }).die 6).missed = true ∧ ((inMode .service).advance 100000).elapsed ((inMode .service).die 6).lastBeat 100000
    ∧ (1 : DieId).val ≤ 2 ∧ (6 : DieId).val = 3 + (3 : PwId).val := by decide +kernel

theorem test_ts_faults : ((inMode .service).die 0).tsFault = false ∧ (((inMode .service).modDie 1 fun x => { x with tsBad := 2 }).die 1).tsBad = 2 ∧ (50 : Int) < 51 ∧ (-51 : Int) < -50
    ∧ ((inMode .service).advance 50000).elapsed ((inMode .service).die 1).lastCorr 50000 ∧ (inMode .service).mode ≠ .init := by decide +kernel

theorem test_ts_corrections : (-50 : Int) ≤ 20 ∧ (20 : Int) ≤ 50 ∧ (50 : Int) < 51 ∧ ((inMode .service).die 1).tsBad < 2 ∧ ((inMode .service).die 1).tsFault = false
    ∧ 2 ≤ (((inMode .service).modDie 1 fun x => { x with tsBad := 2 }).die 1).tsBad ∧ (4 : DieId).val = 3 + (1 : PwId).val ∧ ((inMode .service).die 4).tsFault = false
    ∧ (inMode .service).mode ≠ .init ∧ (1 : DieId).val ≤ 2 := by decide +kernel

theorem test_links : (linkDies 0).2 = 1 ∧ (linkDies 5).2 = 6 ∧ ((inMode .service).linksDown.getLsbD 0 && (inMode .service).linksDown.getLsbD 1) = false := by decide +kernel

theorem test_link_to_power_die : 6 ≤ (6 : Fin 11).val ∧ ((inMode .service).linksDown.getLsbD 0 && (inMode .service).linksDown.getLsbD 1) = false := by decide +kernel

/-! ## Lockstep pairs, ECC, debug port -/

/-- A device with one pair changed. -/
def withPair (m : Mode) (d : Fin 3) (x : Pair) : State := (inMode m).modPair d fun _ => x

theorem test_pair_failures : (inMode .service).mode ≠ .init ∧ ((inMode .service).pair 1).halted = false ∧ ((inMode .service).pair 1).scope = .coreCaches ∧ ((inMode .service).pair 1).rejoining = false
    ∧ ((inMode .service).pair 1).splitting = none ∧ ((inMode .service).pair 1).rejoinReply = none ∧ ((inMode .service).pair 1).recovering = false
    ∧ partPortal 1 3 = some 3 ∧ partPortal 1 4 = none ∧ (withPair .service 1 { Pair.reset with scope := .restarting }).pair 1 = { Pair.reset with scope := .restarting }
    ∧ ((withPair .service 1 { Pair.reset with recovering := true }).pair 1).recovering = true := by decide +kernel

theorem test_pair_recovers : (withPair .service 1 { Pair.reset with recovering := true, agreed := 1000 }).pair 1 = { Pair.reset with recovering := true, agreed := 1000 }
    ∧ (withPair .service 0 { Pair.reset with scope := .restarting }).pair 0 = { Pair.reset with scope := .restarting } ∧ ((inMode .service).pair 0).scope ≠ .split := by decide +kernel

theorem test_split : (withPair .maintain 0 { Pair.reset with scope := .coreOnly }).Takes 0x28 (cmdTo 0x4000) [] ∧ (cmdTo 0x4000).unit.toNat = uDie 0 ∧ (cmdTo 0x4200).unit.toNat = uDie 2
    ∧ (withPair .maintain 2 { Pair.reset with scope := .coreOnly }).Takes 0x28 (cmdTo 0x4200) [] ∧ (withPair .maintain 2 { Pair.reset with scope := .coreOnly }).allFenced 2
    ∧ (withPair .maintain 0 { Pair.reset with splitting := some (handleOf 0x28 0x4000) }).pair 0 = { Pair.reset with splitting := some (handleOf 0x28 0x4000) }
    ∧ (withPair .maintain 0 { Pair.reset with scope := .split }).Takes 0x29 (cmdTo 0x4000) [] ∧ ((withPair .maintain 0 { Pair.reset with scope := .split }).pair 0).diag ≠ 3
    ∧ ((withPair .maintain 0 { Pair.reset with scope := .split }).pair 0).splitting = none ∧ ((withPair .maintain 0 { Pair.reset with scope := .coreOnly }).pair 0).splitting = none
    ∧ ((withPair .maintain 0 { Pair.reset with scope := .coreOnly, rejoining := true, rejoinReply := some (handleOf 0x29 0x4000) }).pair 0).rejoinReply.isSome
    ∧ (inMode .maintain).Takes 0x2A (cmdTo 0x4000) [] := by
  constructorm* _ ∧ _ <;> first | (unfold State.Takes; decide +kernel) | decide +kernel

theorem test_ecc : ((inMode .service).die 3).eccLast = none ∧ ((inMode .service).advance 9999999).elapsed (0#56) 10000000 = false ∧ ((inMode .service).advance 10000000).elapsed (0#56) 10000000 = true
    ∧ partPortal 2 0 = some 4 ∧ (0 : Fin 2).val = (if 65535 < 65536 then 0 else 1) ∧ (1 : Fin 2).val = (if 65536 < 65536 then 0 else 1) ∧ (openSeal .maintain).sealOpen
    ∧ (oneDoor .maintain).sealOpen = false ∧ (openSeal .maintain).allFenced 1 = false ∧ (openSeal .maintain).allFenced 2 = true := by decide +kernel

theorem test_debug_others : (∀ k : Fin 3, k ≠ 1 → DebugInstr.bypass ≠ DebugInstr.halt k ∧ DebugInstr.bypass ≠ DebugInstr.resume k) ∧ DebugInstr.bypass ≠ DebugInstr.halt 1 ∧ DebugInstr.bypass ≠ DebugInstr.resume 1 := by decide +kernel

/-! ## The seal -/

/-- A committed copy, as the reader sees it, with a digest that the word matches. -/
def sealedCopy : SealCopy := ⟨true, [], [5, 0, 7], 5, 1, true⟩

/-- A device whose seal word matches its committed block. -/
def sealedDevice (m : Mode) : State :=
  { inMode m with
    power := { Power.reset with configured := true }
    sealer := { Seal.reset with
      live := 5, liveKnown := true, copies := Vector.replicate 2 sealedCopy, shadow := [5, 0, 7], fsLoaded := true } }

/-- The same with the seal open and the word of a digest. -/
def reopened (d : List Byte) : State := { sealedDevice .maintain with sealer := { (sealedDevice .maintain).sealer with live := BitVec.ofNat 16 (32768 + switchCode d) } }

theorem test_seal_open (d : List Byte) : (reopened d).sealOpen ∧ (reopened d).sealer.live.toNat % 32768 = switchCode d := by
  have h : switchCode d < 32768 := Nat.mod_lt _ (by omega)
  refine ⟨?_, ?_⟩
  · simp only [State.sealOpen, reopened, BitVec.getLsbD_ofNat]
    have : (32768 + switchCode d).testBit 15 = true := by
      rw [Nat.testBit_eq_decide_div_mod_eq, decide_eq_true_eq]
      omega
    simp [this]
  · simp only [reopened, BitVec.toNat_ofNat]
    omega

theorem test_seal_commit_ok (d : List Byte) (h : imageDigest (reopened d).sealer.pending = d) : (reopened d).commitRefused (d.take 8) = none := by
  have hv : (reopened d).checkAll ⟨[], []⟩ = none := by
    have : (reopened d).checkAll ⟨[], []⟩ = (reopened []).checkAll ⟨[], []⟩ := rfl
    rw [this]
    decide +kernel
  have ho : (reopened d).ownerConflict ⟨[], []⟩ = none := by
    have : (reopened d).ownerConflict ⟨[], []⟩ = (reopened []).ownerConflict ⟨[], []⟩ := rfl
    rw [this]
    decide +kernel
  have hp : (reopened d).sealer.pending = [] := rfl
  have hl : View.pneuLeaf ⟨[], []⟩ = none := by decide +kernel
  obtain ⟨h1, h2⟩ := test_seal_open d
  have hm : (reopened d).mode = .maintain := rfl
  have hq : (reopened d).params = [] := rfl
  have hc : (reopened d).sealer.commit = none := rfl
  rw [hp] at h
  simp [State.commitRefused, h1, h2, hp, hm, hq, h, hv, ho, hl, hc]

theorem test_seal_commands : (inMode .service).Takes 0x78 (cmdTo 0) [] ∧ (reopened []).Takes 0x79 (cmdTo 0) [0, 1, 2, 3, 4, 5, 6, 7]
    ∧ ((inMode .service).accepted 0 (cmdTo 0)).commitRefused [] ≠ none ∧ (inMode .service).Takes 0x79 (cmdTo 0) [0, 0, 0, 0, 0, 0, 0, 0] ∧ (inMode .service).Takes 0x7A (cmdTo 0) []
    ∧ (inMode .service).Takes 0x7B (cmdTo 0) [0, 0, 32] ∧ (inMode .service).Takes 0x7B (cmdTo 0) [0, 0, 1] := by
  constructorm* _ ∧ _ <;> first | (unfold State.Takes; decide +kernel) | decide +kernel

theorem test_seal_commit : ({ (reopened []).sealer with commit := some ⟨handleOf 0x79 0, []⟩ } : Seal).commit = some ⟨handleOf 0x79 0, []⟩ ∧ (reopened []).mode = .maintain
    ∧ (0 : Fin 2) = (if (some sealedCopy : Option SealCopy) = some SealCopy.reset then 1 else 0) := by decide +kernel

theorem test_seal_commit_done : ({ (reopened []).sealer with commit := some ⟨handleOf 0x79 0, []⟩ } : Seal).commit = some ⟨handleOf 0x79 0, []⟩ ∧ (reopened []).recorder.blocked = false
    ∧ (sealedDevice .service).mode ≠ .maintain ∧ (1 : Fin 2) = (if (sealedDevice .service).sealer.committed = some (sealedDevice .service).sealer.copies[0] then 1 else 0) := by
  decide +kernel

theorem test_seal_reader : (0 : BitVec 16) ≠ 1 ∧ (sealedDevice .service).sealer.liveKnown = true ∧ (sealedDevice .service).sealer.matches = true
    ∧ ({ (sealedDevice .service).sealer with live := 0 } : Seal).matches = false ∧ (sealedDevice .service).sealer.committed.isSome ∧ (sealedDevice .service).mode.door = true
    ∧ (sealedDevice .service).power.configured ∧ (sealedDevice .service).sealer.loading = false ∧ (sealedDevice .service).sealer.fsLoaded
    ∧ (sealedDevice .service).sealer.committed = some sealedCopy ∧ (sealedDevice .service).sealer.shadow = sealedCopy.digest
    ∧ ({ (sealedDevice .service).sealer with loading := true } : Seal).loading = true := by
  constructorm* _ ∧ _ <;> decide +kernel

theorem test_seal_mismatches : (1#16) ≠ 2 ∧ ({ (sealedDevice .service).sealer with live := 9, liveKnown := true } : Seal).committed.isSome
    ∧ ({ (sealedDevice .service).sealer with live := 9, liveKnown := true } : Seal).matches = false ∧ (sealedDevice .service).sealer.mismatches = 0
    ∧ ({ (sealedDevice .service).sealer with live := 9, liveKnown := true, mismatches := 1 } : Seal).mismatches = 1 ∧ (sealedDevice .service).sealer.mismatch = false
    ∧ (sealedDevice .safe).mode = .safe ∧ (sealedDevice .maintain).mode = .maintain ∧ (0x8009#16).getLsbD 15 = true ∧ (5#16).getLsbD 15 = false
    ∧ (sealedDevice .maintain).sealer.commit = none ∧ ({ (sealedDevice .maintain).sealer with live := 5, liveKnown := true } : Seal).matches = true ∧ (inMode .test).mode = .test := by
  constructorm* _ ∧ _ <;> decide +kernel

theorem test_seal_checks : (sealedDevice .service).power.configured ∧ (sealedDevice .service).sealer.loading = false ∧ (sealedDevice .service).sealer.committed = some sealedCopy
    ∧ ({ sealedDevice .service with sealer := { (sealedDevice .service).sealer with shadow := [9] } } : State).sealer.shadow ≠ sealedCopy.digest
    ∧ (sealedDevice .service).mode ≠ .maintain ∧ (sealedDevice .service).mode ≠ .safe
    ∧ ({ (sealedDevice .service).sealer with loading := true } : Seal).loading = true ∧ ({ (sealedDevice .service).sealer with live := 9 } : Seal).matches = false
    ∧ ({ Seal.reset with loading := true } : Seal).committed = none := by
  constructorm* _ ∧ _ <;> decide +kernel

/-! ## Events -/

/-- An event of source 16 at time-stamp 7. -/
def anEvent : Event := ⟨7, 16, false, 0x0402, 0x1030, 0⟩

theorem test_events : (((inMode .service).modDie 3 fun x => { x with raised := [anEvent] }).die 3).raised = anEvent :: [] ∧ (inMode .service).lastRel = none ∧ (7#56).toNat < (8#56).toNat
    ∧ anEvent.src < 64 ∧ (inMode .service).buffer.length < 256 ∧ 256 ≤ ({ inMode .service with buffer := List.replicate 256 anEvent } : State).buffer.length
    ∧ (({ inMode .service with waiting := [anEvent] } : State).advance 1007).elapsed anEvent.ts 1000 := by decide +kernel

/-! ## Recorder -/

/-- An entry of severity 1. -/
def entry : RecEntry := ⟨0x0402, 16, 1, 0, 7, 0, 0, 0, false⟩

/-- Its record. -/
def record : Record := ⟨entry, 0, 1, 0⟩

/-- A device whose recorder has ended its scan. -/
def recording (m : Mode) (l : List Record) (q : List RecEntry) : State := { inMode m with recorder := { Recorder.reset with ready := true, records := l, queue := q, pendingLoss := 1 } }

theorem test_recorder : (recording .service [] [entry]).recorder.queue = entry :: [] ∧ (recording .service [] [entry]).recWrites ∧ (recording .service [] [entry]).recorder.credit ≠ 0
    ∧ (recording .service [] [entry]).recorder.pendingLoss ≠ 0 ∧ (recording .service [] [entry]).recorder.queue.length ≤ 96
    ∧ ((recording .service [] []).advance 6000000000).elapsed (recording .service [] []).recorder.savedAt 6000000000 ∧ (1 : Fin 64).val = (0 + 1) % 64 := by decide +kernel

theorem test_credit_time : ((recording .service [] []).advance 4000).elapsed (recording .service [] []).recorder.creditAt 4000 := by decide +kernel

theorem test_record_written : (recording .service [record] []).recorder.records.length < recCapacity ∧ (recording .service [record] []).recorder.written < 4294967295 ∧ entry.cycle = false
    ∧ entry.sev ≤ 3 := by decide +kernel

theorem test_region_count (n sev : Nat) : (recording .service (List.replicate n record) []).recorder.count sev = if sev = 1 then n else 0 := by
  by_cases h : sev = 1
  · simp [recording, Recorder.count, record, entry, h]
  · have : ¬ 1 = sev := fun e => h e.symm
    simp [recording, Recorder.count, record, entry, h, this]

theorem test_region_find (n : Nat) :
    (recording .service (List.replicate (n + 1) record) []).recorder.records.findIdx? (fun y => decide (y.entry.sev = 1)) = some 0 := by
  simp only [recording, List.replicate_succ]
  rfl

/-- A full region of records of severity 1: more than its quota; the first record is the victim (R471). -/
theorem test_region_full : ∃ l : List Record, recCapacity ≤ l.length ∧ recQuota 1 < (recording .service l []).recorder.count 1
    ∧ (∀ j < 1, (recording .service l []).recorder.count j ≤ recQuota j)
    ∧ (recording .service l []).recorder.records.findIdx? (fun y => decide (y.entry.sev = 1)) = some 0 := by
  refine ⟨List.replicate (1572863 + 1) record, ?_, ?_, ?_, test_region_find 1572863⟩
  · rw [List.length_replicate]
    decide
  · rw [test_region_count]
    decide
  · intro j hj
    rw [test_region_count, if_neg (by omega)]
    exact Nat.zero_le _

/-- A saved counter block. -/
def block : CounterBlock := ⟨1, 0, 5, 0, 0, [], [], [], [], []⟩

theorem test_scan_flush : (inMode .test).recorder.ready = false ∧ (inMode .test).recorder.saved = none
    ∧ ({ Recorder.reset with slots := Recorder.reset.slots.set 0 (some block) } : Recorder).newest = some block
    ∧ ({ Recorder.reset with slots := Recorder.reset.slots.set 0 (some block) } : Recorder).slots[(0 : Fin 64)] = some block
    ∧ ({ Recorder.reset with tPf := some 0 } : Recorder).tPf = some 0 ∧ (inMode .service).recorder.blocked = false ∧ ((inMode .service).advance 1200).elapsed 0 1200 := by decide +kernel

theorem test_rec_commands : (recording .service [record] []).Takes 0x50 (cmdTo 0) [] ∧ (recording .service [record] []).recorder.ready = true
    ∧ (recording .service [record] []).Takes 0x51 (cmdTo 0) [0, 0, 0, 0, 0, 0, 0, 0, 0, 31, 3] ∧ (recording .service [record] []).Takes 0x51 (cmdTo 0) [0, 0, 0, 0, 0, 0, 0, 0, 0, 1, 0]
    ∧ ({ recording .maintain [record] [] with sealer := { Seal.reset with live := 0x8000 } } : State).Takes 0x52 (cmdTo 0) [3]
    ∧ ({ recording .maintain [record] [] with sealer := { Seal.reset with live := 0x8000 } } : State).sealOpen := by
  constructorm* _ ∧ _ <;> first | (unfold State.Takes; decide +kernel) | decide +kernel

/-! ## Power-up, self-test, power failure, temperature -/

/-- What INIT finds when all is well. -/
def allWell : InitInputs := ⟨true, true, true⟩

theorem test_power : ({ State.reset with power := { Power.reset with off := true } } : State).power.off = true ∧ State.reset.mode = .init ∧ State.reset.power.off = false
    ∧ State.reset.power.initFail = none ∧ State.reset.power.choose.isSome ∧ (State.reset.advance 10000000).elapsed 0 10000000 ∧ (0x0201#16 &&& 0x01FF) ≠ 0 ∧ (0x0200#16 &&& 0x01FF) = 0
    ∧ (recording .test [] []).recorder.ready ∧ (recording .test [] []).commit = none ∧ (inMode .service).power.pfail = false := by decide +kernel

theorem test_power_cycles : ({ State.reset with power := { Power.reset with off := true } } : State).power.off = true ∧ (inMode .service).power.off = false ∧ pairState true false ≠ 0 := by decide +kernel

theorem test_temperature : ((inMode .service).die 3).hot = false ∧ (1449 : Int) < 1450 ∧ (1450 : Int) ≤ 1450 ∧ (((inMode .service).modDie 3 fun x => { x with hot := true }).die 3).hot = true
    ∧ (1399 : Int) < 1400 ∧ (-32768 : Int) ≤ 1399 := by decide +kernel

/-! ## Firmware -/

theorem test_fw_stores : (inMode .maintain).Bounded := by
  unfold State.Bounded
  decide +kernel

theorem test_fw_write : (inMode .maintain).Takes 0x72 (cmdTo 0) ([0xF8, 0xFF, 0x3F, 0] ++ [1, 2, 3, 4, 5, 6, 7, 8]) ∧ unLe [0xF8#8, 0xFF, 0x3F, 0] % 4 = 0
    ∧ unLe [0xF8#8, 0xFF, 0x3F, 0] + 8 ≤ bankSize ∧ (inMode .maintain).Takes 0x71 (cmdTo 0) [] ∧ 0 + (List.replicate 512 (0 : Byte)).length ≤ bankSize := by
  constructorm* _ ∧ _ <;> first | (unfold State.Takes; decide +kernel) | decide +kernel

/-- A device in MAINTAIN with its firmware state changed. -/
def withFw (x : Power) : State := { inMode .maintain with power := x }

theorem test_fw_commands : (inMode .service).Takes 0x70 (cmdTo 0) [] ∧ (inMode .service).power.record = some ⟨1, 0, none, false, 0⟩ ∧ (inMode .maintain).Takes 0x73 (cmdTo 0) []
    ∧ (inMode .maintain).power.verify = none ∧ (withFw { Power.reset with verify := some (handleOf 0x73 0) }).power.verify = some (handleOf 0x73 0)
    ∧ (withFw { Power.reset with verified := true }).Takes 0x74 (cmdTo 0) [] ∧ (withFw { Power.reset with trialRunning := true }).Takes 0x75 (cmdTo 0) []
    ∧ (withFw Power.reset).Takes 0x76 (cmdTo 0) []
    ∧ (withFw { Power.reset with boot := #v[some ⟨3, 0, some 1, true, 0⟩, none] }).power.record = some ⟨3, 0, some 1, true, 0⟩
    ∧ (withFw Power.reset).power.banks[(withFw Power.reset).power.other].check (withFw Power.reset).power.floor = (1, 0, 0) := by
  constructorm* _ ∧ _ <;> first | (unfold State.Takes; decide +kernel) | decide +kernel

/-- A bank as delivered passes the check, whatever its version and counter are. -/
theorem test_fw_delivered : (Bank.check ⟨true, [], []⟩ 0).1 = 0 := by simp [Bank.check]

/-! ## Load channels -/

/-- A device that holds the claim and gates its outputs, at time-stamp 10,000, with values for host-written and sealed parameters. -/
def valued (m : Mode) (l : List ((Nat × Nat) × Int)) : State :=
  { fitted m l with params := l, ts := 10000, claim := { Claim.reset with held := true } }

/-- Portal 0 with load channel 7 in switch mode 1; no role channel. -/
def loads (m : Mode) : State := valued m [((0x1000, 0x1000), 1), ((0x7000, 0x1037), 1)]

/-- The same with the channel changed. -/
def load (x : Channel) : State := (loads .service).modChan 0 7 fun _ => x

theorem test_channel_decides : (load { Channel.reset with thermLatch := true }).chan 0 7 = { Channel.reset with thermLatch := true } ∧ (load Channel.reset).heldOff 0 7 = false
    ∧ ((load Channel.reset).die (pwDie 0)).mode.fromConfigure ∧ (load Channel.reset).present 0 ∧ ((load Channel.reset).chan 0 7).demand = false
    ∧ ((load Channel.reset).chan 0 7).allowed = false ∧ (load Channel.reset).parN 0x7000 (uChan 0 7) = 1 ∧ ((load Channel.reset).chan 0 7).fsSince = none := by decide +kernel

theorem test_channel_causes : (loads .service).fsCause 0 = false ∧ ((load Channel.reset).chan 0 7).fsSince = none
    ∧ ((loads .service).modPortal 0 fun x => { x with fsFenced := true }).fsCause 0 ∧ ((load Channel.reset).chan 0 7).past = none
    ∧ ((load { Channel.reset with past := some (7, (Channel.reset).toPast) }).chan 0 7).past = some (7, (Channel.reset).toPast) ∧ (7 : Ts) ≠ (loads .service).ts
    ∧ ((load { Channel.reset with fsSince := some 3, fsReg := 2, holdDemand := true }).chan 0 7).fsSince.isSome ∧ ((load Channel.reset).chan 0 7).thermLatch = false
    ∧ ((load Channel.reset).chan 0 7).ocLatch = false := by decide +kernel

theorem test_channel_commands : (loads .service).present 0 ∧ (loads .service).mode.runs ∧ (cmdTo 0x1037).unit.toNat = uChan 0 7 ∧ (loads .service).view.roleOf 0 7 = none
    ∧ (loads .service).slotOfChan 0 7 = none ∧ ((loads .service).chan 0 7).pulseEnd = none ∧ ((loads .service).portal 0).state ≠ .fenced ∧ (loads .service).Takes 0x40 (cmdTo 0x1037) []
    ∧ (loads .service).parN 0x7000 (uChan 0 7) ≠ 0 ∧ (loads .service).Takes 0x41 (cmdTo 0x1037) [] ∧ (loads .service).Takes 0x42 (cmdTo 0x1037) [0x60, 0xEA]
    ∧ unLe [0x60#8, 0xEA] = 60000 ∧ (loads .service).Takes 0x44 (cmdTo 0x1037) [] ∧ (load { Channel.reset with thermLatch := true, temp := 1500 }).Takes 0x44 (cmdTo 0x1037) []
    ∧ (loads .service).Takes 0x43 (cmdTo 0x1000) [0x80, 0x80] ∧ (0x80#8 &&& ~~~0x80) = 0 := by
  constructorm* _ ∧ _ <;> first | (unfold State.Takes; decide +kernel) | decide +kernel

theorem test_channel_clear : (load { Channel.reset with thermLatch := true, temp := 1499 }).Takes 0x44 (cmdTo 0x1037) [] ∧ ((load { Channel.reset with thermLatch := true, temp := 1499 }).chan 0 7).temp < 1500
    ∧ ((load { Channel.reset with shutAt := some (7, 0, false) }).chan 0 7).shutAt = some (7, 0, false) ∧ (7 : Ts) ≠ (loads .service).ts + BitVec.ofNat 56 0 := by
  constructorm* _ ∧ _ <;> first | (unfold State.Takes; decide +kernel) | decide +kernel

theorem test_channel_runs : ((load { Channel.reset with allowed := true, modeIn := 3 }).chan 0 7).allowed = true ∧ ((load { Channel.reset with allowed := true, modeIn := 5 }).chan 0 7).modeIn = 5
    ∧ ((load { Channel.reset with modeIn := 4, pullSince := some 0 }).chan 0 7).pullSince = some 0
    ∧ ((load { Channel.reset with pullSince := some 0 }).advance 1000000000).elapsed 0 (100000 * ((load { Channel.reset with pullSince := some 0 }).chanPar 0 7 0x7006).toNat)
    ∧ 0 ≤ ((10000#56) + BitVec.ofNat 56 0 - 10000).toInt
    ∧ ((load { Channel.reset with pulseEnd := some 10000, pulseReply := some (handleOf 0x42 0x1037) }).chan 0 7).pulseReply = some (handleOf 0x42 0x1037) := by decide +kernel

/-- Channel 7 of portal 0 in a mode, with a period of 200 Hz, at a period start of its die. -/
def periodic (k : Nat) (x : Channel) : State :=
  ((valued .service [((0x1000, 0x1000), 1), ((0x7000, 0x1037), (k : Int)), ((0x7003, 0x1037), 200), ((0x7009, 0x1037), 1000)]).modDie (pwDie 0) fun y => { y with ts := 437500 }).modChan 0 7 fun _ =>
    { x with modeIn := k, hostDemand := true, demand := true, allowed := true }

theorem test_periods : ((periodic 2 Channel.reset).chanSync 0 7).periodDue 0 7 = true ∧ (((periodic 2 Channel.reset).chanSync 0 7).chan 0 7).allowed = true
    ∧ (((periodic 2 Channel.reset).chanSync 0 7).chan 0 7).modeIn = 2 ∧ (((periodic 2 Channel.reset).chanSync 0 7).chan 0 7).fsReg ≠ 2
    ∧ (((periodic 3 Channel.reset).chanSync 0 7).chan 0 7).modeIn = 3 ∧ ((periodic 3 Channel.reset).chanSync 0 7).periodDue 0 7 = true
    ∧ (((periodic 4 Channel.reset).chanSync 0 7).chan 0 7).modeIn = 4 ∧ (((periodic 4 Channel.reset).chanSync 0 7).chan 0 7).pullSince = none
    ∧ ((periodic 4 Channel.reset).chanSync 0 7).periodDue 0 7 = true ∧ (((periodic 4 { Channel.reset with pullSince := some 0 }).chanSync 0 7).chan 0 7).pullSince.isSome
    ∧ (((periodic 1 Channel.reset).chanSync 0 7).chan 0 7).modeIn = 1 ∧ (((load Channel.reset).chanSync 0 7).chan 0 7).allowed = false
    ∧ (200 : Nat) * 500000 = 100000000 ∧ (500000 : Nat) % 8 = 0 ∧ ((periodic 2 Channel.reset).chanPar 0 7 0x7003).toNat = 200 ∧ ((periodic 2 Channel.reset).chan 0 7).modeIn ≠ 5 := by decide +kernel

theorem test_flash_period : ((((periodic 5 Channel.reset).modDie (pwDie 0) fun y => { y with ts := 200000000 }).chanSync 0 7).chan 0 7).modeIn = 5
    ∧ ((((periodic 5 Channel.reset).modDie (pwDie 0) fun y => { y with ts := 200000000 }).chanSync 0 7).chan 0 7).allowed = true
    ∧ (((periodic 5 Channel.reset).modDie (pwDie 0) fun y => { y with ts := 200000000 }).chanSync 0 7).periodDue 0 7 = true := by decide +kernel

theorem test_channel_protects : ((load { Channel.reset with on := true, blankSince := some 10000 }).advance 0).ran (some 10000)
      (100 * ((load { Channel.reset with on := true, blankSince := some 10000 }).chanPar 0 7 0x700A).toNat) = decide (100 * ((load Channel.reset).chanPar 0 7 0x700A).toNat = 0)
    ∧ ((load Channel.reset).advance 0).ran ((load Channel.reset).chan 0 7).blankSince 0 = false
    ∧ 3 * (load { Channel.reset with on := true }).iLimCh 0 7 < 2 * 1501 ∧ (load Channel.reset).isRole 0 7 = false
    ∧ (load { Channel.reset with hostDemand := true, demand := true, modeIn := 1 }).wantOn 0 7 ∧ ((load Channel.reset).chanPar 0 7 0x700B).toNat ≤ 0
    ∧ 0 < ((valued .service [((0x1000, 0x1000), 1), ((0x7000, 0x1037), 1), ((0x700B, 0x1037), 1)]).chanPar 0 7 0x700B).toNat
    ∧ ((load { Channel.reset with retrySince := some 0, demand := true }).advance 6000000000).elapsed 0 (100000 * ((load Channel.reset).chanPar 0 7 0x700C).toNat)
    ∧ (((load { Channel.reset with retrySince := some 0, demand := true }).advance 0).modChan 0 7 fun x => { x with retrySince := none }).heldOff 0 7 = false
    ∧ 100000000 ≤ ({ Channel.reset with condAcc := 100000000 } : Channel).conducted 10000 ∧ ((load { Channel.reset with tempWarn := true }).chan 0 7).tempWarn = true := by decide +kernel

theorem test_retry_times : (load { Channel.reset with hostDemand := true, demand := true, modeIn := 1 }).fsCause 0 = ((load { Channel.reset with hostDemand := true, demand := true }).chan 0 7).fsSince.isSome
    ∧ ((load { Channel.reset with retryAt := some (7, 0) }).chan 0 7).retryAt = some (7, 0) ∧ (7 : Ts) ≠ (loads .service).ts + BitVec.ofNat 56 0 := by decide +kernel

theorem test_supply : anomalyAt .undervoltage false 13999 0 ≠ false ∧ anomalyAt .undervoltage true 16001 0 ≠ true ∧ anomalyAt .undervoltage false 14000 0 = false
    ∧ anomalyAt .groundLoss false 24000 2001 ≠ false ∧ anomalyAt .groundLoss true 24000 500 ≠ true ∧ ((loads .service).portal 0).vlsStatus.getLsbD 0 = false := by decide +kernel

/-! ## The control engine -/

/-- PD0 with a slot changed, on a door whose parameters are given. -/
def withSlot (m : Mode) (l : List ((Nat × Nat) × Int)) (n : SlotId) (x : Slot) : State := (valued m l).modSlot 0 n fun _ => x

/-- The parameters that slot 3 of PD0, the position loop of portal 0's leaf 0, needs: order, output and integrator limits. -/
def slotSet (n : Nat) : List ((Nat × Nat) × Int) :=
  [((0x1000, 0x1000), 1), ((0x3000 + 0x40 + n, 0x4100), 0), ((0x3000 + 0x80 + n, 0x4100), 2), ((0x3000 + 0x40 * 13 + n, 0x4100), -100), ((0x3000 + 0x40 * 14 + n, 0x4100), 100),
   ((0x3000 + 0x40 * 15 + n, 0x4100), -1000), ((0x3000 + 0x40 * 16 + n, 0x4100), 1000), ((0x3000 + 0x40 * 18 + n, 0x4100), 5), ((0x3000 + 0x40 * 19 + n, 0x4100), 0),
   ((0x3000 + 0x40 * 20 + n, 0x4100), 1), ((0x3000 + 0x40 * 22 + n, 0x4100), 500)]

theorem test_slot_ticks : ((withSlot .service (slotSet 3) 3 Slot.reset).slot 0 3).residueErr = false ∧ ((withSlot .service (slotSet 3) 3 Slot.reset).slot 0 3).running = false
    ∧ (withSlot .service (slotSet 3) 3 { Slot.reset with mode := .hold, running := true }).slot 0 3 = { Slot.reset with mode := .hold, running := true }
    ∧ (withSlot .service (slotSet 3) 3 { Slot.reset with mode := .closed, running := true, preset := true }).innerTunes 0 3 = false
    ∧ ((withSlot .service (slotSet 3) 3 { Slot.reset with mode := .closed, running := true }).leaf (slotPortal 0 3) (slotLeaf 3)).drive ≠ .creep
    ∧ (withSlot .service (slotSet 3) 3 Slot.reset).slotRaw 0 3 15 ≤ (withSlot .service (slotSet 3) 3 Slot.reset).slotRaw 0 3 16
    ∧ (withSlot .service (slotSet 3) 3 Slot.reset).slotRaw 0 3 13 ≤ (withSlot .service (slotSet 3) 3 Slot.reset).slotRaw 0 3 14 := by decide +kernel

theorem test_slot_places : (({ withSlot .service (slotSet 3) 3 Slot.reset with engines := Vector.replicate 2 { Engine.reset with last := some (10000, 1, 7) } } : State).engines[(0 : Fin 2)]).last
      = some ((withSlot .service (slotSet 3) 3 Slot.reset).ts + BitVec.ofNat 56 0, 1, 7)
    ∧ (withSlot .service (slotSet 3) 3 Slot.reset).slotRate 0 3 = 1 ∧ (3 : SlotId).val ≤ 7 ∧ (withSlot .service (slotSet 3) 3 Slot.reset).slotRate 0 3 < 2
    ∧ (withSlot .service (slotSet 3) 3 Slot.reset).engines[(0 : Fin 2)].last = none := by decide +kernel

theorem test_slot_runs : ((withSlot .service (slotSet 3) 3 { Slot.reset with mode := .hold, running := true }).slot 0 3).running = true
    ∧ ((withSlot .service (slotSet 3) 3 { Slot.reset with mode := .manual, running := true, manual := 100 }).slot 0 3).mode = .manual
    ∧ (withSlot .service (slotSet 3) 3 { Slot.reset with mode := .manual, running := true, manual := 100 }).innerTunes 0 3 = false
    ∧ ((withSlot .service (slotSet 3) 3 { Slot.reset with mode := .manual, running := true, manual := 100 }).slotRaw 0 3 15 : Rat) ≤ ({ Slot.reset with mode := .manual } : Slot).ramp
    ∧ ({ Slot.reset with manual := 100 } : Slot).ramp ≤ (({ Slot.reset with manual := 100 } : Slot).manual : Rat)
    ∧ ((({ Slot.reset with manual := 100 } : Slot).manual : Rat) ≤ (withSlot .service (slotSet 3) 3 Slot.reset).slotRaw 0 3 16)
    ∧ ((withSlot .configure (((0x34C0 + 40, 0x4100), 0) :: slotSet 40) 40 { Slot.reset with mode := .hold, running := true }).advance 0).generalRuns 0 40 = false
    ∧ ((withSlot .service (((0x34C0 + 40, 0x4100), 0) :: slotSet 40) 40 { Slot.reset with mode := .hold }).advance 0).generalRuns 0 40 = true
    ∧ ((withSlot .service (slotSet 40) 40 { Slot.reset with mode := .hold }).slot 0 40).mode ≠ .disabled ∧ 32 ≤ (40 : SlotId).val := by
  constructorm* _ ∧ _ <;> decide +kernel

theorem test_loop_commands : (withSlot .configure (slotSet 3) 3 Slot.reset).slotTarget 0x4100 3 = .ok (0, 3) ∧ ((withSlot .configure (slotSet 3) 3 Slot.reset).slot 0 3).tune = none
    ∧ (withSlot .configure (slotSet 3) 3 Slot.reset).Takes 0x60 (cmdTo 0x4100) [3] ∧ (withSlot .configure (slotSet 3) 3 Slot.reset).slotRequest 0 3 .hold = none
    ∧ (withSlot .configure (slotSet 3) 3 { Slot.reset with mode := .hold }).Takes 0x61 (cmdTo 0x4100) [3]
    ∧ (withSlot .configure (slotSet 3) 3 { Slot.reset with mode := .hold }).slotRequest 0 3 .closed = none
    ∧ ((withSlot .service (slotSet 40) 40 { Slot.reset with mode := .hold, running := true }).slot 0 40).running = true
    ∧ (withSlot .service (slotSet 40) 40 { Slot.reset with mode := .hold, running := true }).slotRequest 0 40 .closed = none
    ∧ (withSlot .service (slotSet 40) 40 { Slot.reset with mode := .hold }).Takes 0x62 (cmdTo 0x4100) [40, 0xFF, 0x7F]
    ∧ (withSlot .service (slotSet 40) 40 { Slot.reset with mode := .hold }).slotRequest 0 40 .manual = none ∧ (withSlot .service (slotSet 40) 40 Slot.reset).slotIsSet 0 40 18
    ∧ (withSlot .configure (slotSet 3) 3 { Slot.reset with mode := .hold }).slotRequest 0 3 .disabled = none ∧ (withSlot .configure (slotSet 3) 3 Slot.reset).slotOut 0 3 = none
    ∧ (withSlot .configure (slotSet 3) 3 Slot.reset).Takes 0x68 (cmdTo 0x4100) [3] ∧ (withSlot .service (slotSet 63) 63 Slot.reset).Takes 0x64 (cmdTo 0x4100) [63]
    ∧ (withSlot .service (slotSet 63) 63 Slot.reset).Takes 0x67 (cmdTo 0x4100) [63] := by
  constructorm* _ ∧ _ <;> first | (unfold State.Takes; decide +kernel) | decide +kernel

theorem test_slot_faults : ((withSlot .configure (slotSet 3) 3 { Slot.reset with errAt := some 10000 }).slot 0 3).errAt = some ((withSlot .configure (slotSet 3) 3 Slot.reset).ts + BitVec.ofNat 56 0)
    ∧ (withSlot .configure (slotSet 3) 3 { Slot.reset with errAt := some 10000 }).Takes 0x60 (cmdTo 0x4100) [3]
    ∧ ((withSlot .configure (slotSet 3) 3 { Slot.reset with mode := .hold }).slot 0 3).mode ≠ .closed := by
  constructorm* _ ∧ _ <;> first | (unfold State.Takes; decide +kernel) | decide +kernel

theorem test_coef_write : (withSlot .configure (slotSet 3) 3 Slot.reset).Takes 0x63 (cmdTo 0x4100) (3 :: ([2, 0] ++ List.replicate 18 1))
    ∧ (withSlot .configure (slotSet 3) 3 Slot.reset).coefRefused 0 3 = none ∧ (descOf (0x3000 + 0x40 * 2 + 3)).inRange 2 ∧ (descOf (0x3000 + 0x40 * 3 + 3)).inRange 0
    ∧ ((List.range 9).all fun k => (descOf (0x3000 + 0x40 * (4 + k) + 3)).inRange (signedOf 2 257)) := by
  constructorm* _ ∧ _ <;> first | (unfold State.Takes; decide +kernel) | decide +kernel

/-- A tune of a general slot that has just begun. -/
def aTune (crossings : List Ts) (swings : List Int) : Tune := ⟨164, 82, 0, 3, 0, 100, 0, none, 0, crossings, swings, 0, 0, none⟩

theorem test_tunes : (withSlot .maintain (slotSet 40) 40 { Slot.reset with mode := .hold }).Takes 0x65 (cmdTo 0x4100) (40 :: [164, 0, 82, 0, 0, 0, 3, 0, 100, 0])
    ∧ (withSlot .maintain (slotSet 40) 40 { Slot.reset with mode := .hold }).slotTarget 0x4100 40 = .ok (0, 40)
    ∧ (withSlot .maintain (slotSet 40) 40 { Slot.reset with mode := .hold }).slotRequest 0 40 .tune = none ∧ (withSlot .maintain (slotSet 40) 40 Slot.reset).slotIsSet 0 40 22
    ∧ (withSlot .maintain (slotSet 40) 40 Slot.reset).slotRaw 0 40 15 + 164 ≤ 0 ∧ (0 : Int) ≤ (withSlot .maintain (slotSet 40) 40 Slot.reset).slotRaw 0 40 16 - 164
    ∧ (withSlot .maintain (slotSet 40) 40 { Slot.reset with mode := .tune, tune := some (aTune [] []) }).Takes 0x66 (cmdTo 0x4100) [40]
    ∧ (withSlot .maintain (slotSet 40) 40 Slot.reset).slotPar 0 40 22 < |(501 : Int)| ∧ |(500 : Int)| ≤ (withSlot .maintain (slotSet 40) 40 Slot.reset).slotPar 0 40 22
    ∧ 3 + 3 ≤ (aTune [0, 1, 2, 3, 4, 5] [0, 0, 493, 0, 0]).crossings.length ∧ 2 * (3 : Int) * 82 < (((aTune [] [0, 0, 493, 0, 0]).swings.drop 2).take 3).foldl (· + ·) 0
    ∧ ((withSlot .maintain (slotSet 40) 40 Slot.reset).advance 9990000).elapsed 0 (100000 * 100) = true ∧ ((withSlot .maintain (slotSet 40) 40 Slot.reset).advance 9990000).elapsed 9000000 (25000 * 100) = false := by
  constructorm* _ ∧ _ <;> first | (unfold State.Takes; decide +kernel) | decide +kernel

theorem test_tune_stops : (withSlot .maintain (slotSet 40) 40 { Slot.reset with mode := .hold, endAt := some 10000 }).Takes 0x66 (cmdTo 0x4100) [40]
    ∧ ((withSlot .maintain (slotSet 40) 40 { Slot.reset with endAt := some 10000 }).slot 0 40).endAt = some ((withSlot .maintain (slotSet 40) 40 Slot.reset).ts + BitVec.ofNat 56 0)
    ∧ ((withSlot .maintain (slotSet 40) 40 { Slot.reset with mode := .hold }).slot 0 40).tune = none ∧ ((withSlot .maintain (slotSet 40) 40 Slot.reset).slot 0 40).endAt = none
    ∧ ((withSlot .maintain (slotSet 3) 3 Slot.reset).portal (slotPortal 0 3)).checkFailed = false := by
  constructorm* _ ∧ _ <;> first | (unfold State.Takes; decide +kernel) | decide +kernel

theorem test_checkers : ({ Slot.reset with residueErr := true, checked := 1000 } : Slot).residueErr = true ∧ (inMode .service).engines[(0 : Fin 2)].testFail = false
    ∧ (inMode .service).engines[(0 : Fin 2)].passes = 0 ∧ ({ Engine.reset with testFail := true } : Engine).testFail = true := by decide +kernel

/-! ## Leaf drive units -/

/-- Portal 0 with a leaf drive of a LEAF_MODE and values besides, on a device that gates its outputs. -/
def driven (k : Int) (more : List ((Nat × Nat) × Int)) (x : Leaf) : State :=
  (valued .service ([((0x1000, 0x1000), 1), ((0x2000, 0x1010), k), ((0x6000, 0x1040), 1)] ++ more)).modLeaf 0 0 fun _ => x

theorem test_leaf_faults : ((driven 1 [] { Leaf.reset with pwm := { Pwm.reset with enable := true } }).advance 1000000).gdEn 0 0
    ∧ ((driven 1 [] { Leaf.reset with pwm := { Pwm.reset with enable := true } }).advance 1000000).elapsed 0 (100 * (driven 1 [] Leaf.reset).parN 0x2013 (uLeaf 0 0))
    ∧ (driven 1 [] Leaf.reset).driven 0 0 ∧ (driven 1 [] Leaf.reset).par 0x2028 (uLeaf 0 0) < |(-1000000 : Int)| ∧ (driven 1 [] Leaf.reset).par 0x2027 (uPortal 0) < 1000000
    ∧ (-1 : Int) ≤ (driven 1 [] Leaf.reset).par 0x2027 (uPortal 0) ∧ (-1 : Int) < (driven 1 [] Leaf.reset).par 0x2026 (uPortal 0)
    ∧ ((driven 1 [] { Leaf.reset with drive := .position }).leaves 0).any (fun k => ((driven 1 [] { Leaf.reset with drive := .position }).leaf 0 k).drive.modulating)
    ∧ ((driven 1 [] { Leaf.reset with dirBad := some 0 }).advance 2000000).elapsed 0 2000000 ∧ ((driven 1 [] { Leaf.reset with dpBad := true, checked := 1000 }).leaf 0 0).checked = 1000 := by
  decide +kernel

/-- A leaf that starts towards a drive state. -/
def startingTo (d : Drive) : Leaf := { Leaf.reset with drive := .starting, wanted := d }

theorem test_drive_starts : ((driven 2 [] (startingTo .position)).leaf 0 0).drive = .starting ∧ ((driven 2 [] (startingTo .position)).advance 10000000).gates
    ∧ ((driven 2 [] (startingTo .position)).advance 10000000).elapsed 0 (100 * ((driven 2 [] Leaf.reset).parN 0x2013 (uLeaf 0 0) + (driven 2 [] Leaf.reset).parN 0x2012 (uLeaf 0 0)))
    ∧ (driven 2 [] (startingTo .position)).leafMode 0 0 ≠ 1 ∧ (driven 1 [((0x2001, 0x1010), 2)] (startingTo .position)).angleSource 0 0 = some 2
    ∧ ((driven 1 [((0x2001, 0x1010), 2)] (startingTo .position)).leaf 0 0).aligned = false ∧ (startingTo .brake).wanted = .brake
    ∧ ((driven 1 [] { Leaf.reset with drive := .aligning }).advance 1000000000).elapsed 0 (100000 * ((driven 1 [] { Leaf.reset with drive := .aligning }).drivePar 0 0 0x2007).toNat)
    ∧ ((driven 1 [] { Leaf.reset with drive := .brake }).advance 200000000).elapsed 0 200000000 ∧ (driven 1 [] Leaf.reset).power.pfail = false
    ∧ ((driven 1 [] Leaf.reset).fb 0 (fbOfLeaf 0)).still = true ∧ ((driven 1 [] Leaf.reset).advance 10000000).elapsed ((driven 1 [] Leaf.reset).fb 0 (fbOfLeaf 0)).stillAt 10000000 := by
  decide +kernel

/-- HALL_MAP with code 1 for sector 0, 2 for 1 and so on; 0 and 7 invalid. -/
def hallMap : (Nat × Nat) × Int := ((0x2005, 0x1010), 0xF543210F)

theorem test_hall : (driven 1 [hallMap] { Leaf.reset with sector := some 5, lastEdge := some 0 }).hallSector 0 0 1 = some 0 ∧ 0 = (5 + 1) % 6
    ∧ (driven 1 [hallMap] Leaf.reset).hallSector 0 0 2 = some 1 ∧ (driven 1 [hallMap] Leaf.reset).hallSector 0 0 7 = none ∧ ((driven 1 [hallMap] Leaf.reset).advance 0).ts ≠ 0
    ∧ (((driven 1 [hallMap] Leaf.reset).advance 0).ts :: ([] : List Ts).filter (fun t => !((driven 1 [hallMap] Leaf.reset).advance 0).elapsed t 100000001)).length < 3
    ∧ 3 ≤ (((driven 1 [hallMap] Leaf.reset).advance 0).ts :: ([1, 2] : List Ts).filter (fun t => !((driven 1 [hallMap] Leaf.reset).advance 0).elapsed t 100000001)).length
    ∧ (driven 1 [hallMap, ((0x2001, 0x1010), 0)] Leaf.reset).angleSource 0 0 = some 0 ∧ ((driven 1 [hallMap] { Leaf.reset with sector := some 0 }).advance 5000000).elapsed 0 5000000 := by
  decide +kernel

/-- A sample at the middle of the filters' range: no current and no bus voltage (R112). -/
def calm (res : Bool) : CurrentSample := ⟨16384, 16384, 16384, [⟨0, 16384⟩], res, false, false, false, false⟩

/-- Decimations of 32, whose filters end at 32,768, and the full scales (R112). -/
def filters : List ((Nat × Nat) × Int) := [((0x2020, 0x1000), 20000), ((0x2021, 0x1010), 32), ((0x2022, 0x1010), 10000), ((0x2023, 0x1000), 32), ((0x2024, 0x1000), 100000)]

/-- The state of a tick of a leaf whose modulator clock does not run, before its slots. -/
def sampled (s : State) (res : Bool) : State :=
  (((s.advance 0).modLeaf 0 0 fun x => { x with theta := (s.advance 0).thetaNow 0 0, checked := if x.dpBad then (if res then 0 else x.checked + 1) else x.checked }).detTick 0 0).directRefs 0 0

theorem test_current_tick : (driven 2 [] Leaf.reset).sdRuns 0 = false ∧ ((sampled (driven 2 [] Leaf.reset) false).leaf 0 0).drive = .off ∧ (calm true).focResidue = true
    ∧ (driven 1 filters Leaf.reset).sdRuns 0 = true := by decide +kernel

/-- Portal 0 with a running clock, limits of its bus and of its motor current. -/
def limited (x : Leaf) : State := driven 1 (filters ++ [((0x2026, 0x1000), 18000), ((0x2027, 0x1000), 32000), ((0x2028, 0x1010), 1000), ((0x2013, 0x1010), 1)]) x

theorem test_leaf_limits : (limited Leaf.reset).sdRuns 0 = true ∧ (limited Leaf.reset).driven 0 0 ∧ (driven 2 [] Leaf.reset).sdRuns 0 = false
    ∧ ((limited Leaf.reset).par 0x2028 (uLeaf 0 0) : Rat) < |(limited Leaf.reset).fastCurrent 0 0 0| ∧ ((limited Leaf.reset).par 0x2027 (uPortal 0) : Rat) < (limited Leaf.reset).busValue 0 32768
    ∧ (limited Leaf.reset).busValue 0 16384 ≤ ((limited Leaf.reset).par 0x2027 (uPortal 0) : Rat) ∧ ((limited Leaf.reset).par 0x2026 (uPortal 0) : Rat) ≤ (limited Leaf.reset).busValue 0 32768
    ∧ (limited Leaf.reset).busValue 0 16384 < ((limited Leaf.reset).par 0x2026 (uPortal 0) : Rat)
    ∧ (((limited Leaf.reset).modPortal 0 fun x => { x with vbusLow := some 0, modSince := some 0 }).portal 0).modUntil = none
    ∧ ((limited Leaf.reset).advance 1000000).elapsed 0 1000000 := by
  constructorm* _ ∧ _ <;> decide +kernel

theorem test_gate_driver : (limited { Leaf.reset with pwm := { Pwm.reset with enable := true } }).driven 0 0
    ∧ ((limited { Leaf.reset with pwm := { Pwm.reset with enable := true } }).leaf 0 0).pwm.enable ∧ ((limited { Leaf.reset with pwm := { Pwm.reset with enable := true } }).advance 1000000).gates
    ∧ ((limited { Leaf.reset with pwm := { Pwm.reset with enable := true } }).advance 1000000).elapsed 0 (100 * (limited Leaf.reset).parN 0x2013 (uLeaf 0 0))
    ∧ ((limited { Leaf.reset with pwm := { Pwm.reset with enable := true } }).advance 1000000).elapsed (limited Leaf.reset).claim.since (5000 + 100 * (limited Leaf.reset).parN 0x2013 (uLeaf 0 0)) := by
  decide +kernel

theorem test_start_watched : ((limited { startingTo .brake with gdFlt := true, pwm := { Pwm.reset with enable := true } }).advance 1000000).gdWatched 0 0 = true
    ∧ ((limited { startingTo .brake with gdFlt := true, pwm := { Pwm.reset with enable := true } }).leaf 0 0).gdFlt = true
    ∧ ((limited (startingTo .brake)).leaf 0 0).gdFlt = false ∧ ((limited (startingTo .brake)).advance 1000000).elapsed 0 (100 * (limited Leaf.reset).parN 0x2013 (uLeaf 0 0)) := by decide +kernel

theorem test_hall_times : 3 ≤ ([3, 2, 1] : List Ts).length ∧ (driven 1 [hallMap] Leaf.reset).leafMode 0 0 = 1 ∧ (driven 1 [hallMap] Leaf.reset).driven 0 0 := by decide +kernel

theorem test_tick_frame : ((sampled (driven 2 [] Leaf.reset) false).leaf 0 0).drive ≠ .position ∧ ((sampled (driven 2 [] Leaf.reset) false).leaf 0 0).drive ≠ .aligning
    ∧ decide ((driven 2 [] Leaf.reset).leafMode 0 0 = 2) = true ∧ (driven 2 [] Leaf.reset).sdRuns 0 = false := by decide +kernel

theorem test_tick_values : (0 : Rat) = (2 * ((calm false).ya : Rat) / ((driven 2 filters Leaf.reset).parN 0x2021 (uLeaf 0 0) : Rat) ^ 3 - 1) * ((driven 2 filters Leaf.reset).par 0x2022 (uLeaf 0 0) : Rat) := by
  have h1 : (driven 2 filters Leaf.reset).parN 0x2021 (uLeaf 0 0) = 32 := by decide +kernel
  rw [h1]
  norm_num [calm]

theorem test_pfail_leaf : (driven 1 [] { Leaf.reset with drive := .position }).driven 0 0 ∧ ((driven 1 [] { Leaf.reset with drive := .position }).leaf 0 0).drive.modulating
    ∧ ((driven 1 [] { Leaf.reset with drive := .brake }).leaf 0 0).drive = .brake ∧ ((driven 1 [] Leaf.reset).leaf 0 0).drive = .off ∧ (driven 1 [] Leaf.reset).power.off = false := by
  decide +kernel

theorem test_chopper : sgn (1000 : Int) = 1 ∧ |((1000 : Int) : Rat)| + 50 < |((1051 : Int) : Rat)| ∧ |((949 : Int) : Rat)| < |((1000 : Int) : Rat)| - 50
    ∧ (driven 2 [((0x2034, 0x1010), 10), ((0x2035, 0x1010), 500)] Leaf.reset).drivePar 0 0 0x2034 ≤ (driven 2 [((0x2034, 0x1010), 10), ((0x2035, 0x1010), 500)] Leaf.reset).drivePar 0 0 0x2035 := by
  decide +kernel

/-- A brushed motor in motion whose chopper has held its phase since time-stamp 0, with a half-band of 50 mA. -/
def chopped (drive : Bool) (sign ref : Int) : Leaf := { Leaf.reset with drive := .position, chopDrive := drive, chopSign := sign, iqRef := ref, chopH := 50, chopCount := 5 }

theorem test_chopper_phases : Ts.since 99 (chopped true 1 1000).chopAt < 100 ∧ 100 ≤ Ts.since 100 (chopped true 1 1000).chopAt ∧ (chopped true 1 1000).chopSign = sgn (chopped true 1 1000).iqRef
    ∧ (0 : Rat) ≤ (chopped true 1 1000).chopH ∧ |((chopped true 1 1000).iqRef : Rat)| + (chopped true 1 1000).chopH < |(1051 : Rat)|
    ∧ |(949 : Rat)| < |((chopped false 1 1000).iqRef : Rat)| - (chopped false 1 1000).chopH ∧ |((chopped true 1 1000).iqRef : Rat)| - (chopped true 1 1000).chopH ≤ |(1050 : Rat)|
    ∧ |(1050 : Rat)| ≤ |((chopped true 1 1000).iqRef : Rat)| + (chopped true 1 1000).chopH ∧ (chopped true 1 (-1000)).chopSign ≠ sgn (chopped true 1 (-1000)).iqRef
    ∧ (chopped false 1 (-1000)).chopDrive = false ∧ (chopped false 1 (-1000)).chopH ≤ |(50 : Rat)| ∧ |(49 : Rat)| < (chopped false 1 (-1000)).chopH ∧ (chopped false 1 (-1000)).iqRef ≠ 0 := by
  decide +kernel

theorem test_chopper_adapts : (driven 2 [] (chopped true 1 1000)).leafMode 0 0 = 2 ∧ ((driven 2 [] (chopped true 1 1000)).leaf 0 0).drive.modulating
    ∧ ((driven 2 [] (chopped true 1 1000)).advance 100000).elapsed ((driven 2 [] (chopped true 1 1000)).leaf 0 0).chopSince 100000 ∧ 5 ≤ (chopped true 1 1000).chopCount
    ∧ Leaf.reset.chopCount < 5 ∧ (driven 1 [] (chopped true 1 1000)).leafMode 0 0 ≠ 2 := by decide +kernel

theorem test_profile : ((driven 2 [] { Leaf.reset with drive := .position, holding := true }).leaf 0 0).holding = true ∧ ((driven 2 [] { Leaf.reset with drive := .creep }).leaf 0 0).drive = .creep
    ∧ ((driven 2 [] { Leaf.reset with drive := .position }).leaf 0 0).holding = false ∧ ((driven 2 [] Leaf.reset).slot (pdOf 0) (leafSlot 0 0 3)).tune = none
    ∧ ((driven 2 [] Leaf.reset).portal 0).state ≠ .jog ∧ ((driven 2 [] Leaf.reset).portal 0).state ≠ .closing ∧ 0 ≤ (driven 2 [] Leaf.reset).latched 0 0 0x2060 := by decide +kernel

/-! ## Step drives -/

/-- Portal 0 with a step in a state, and values besides. -/
def stepping (more : List ((Nat × Nat) × Int)) (x : Step) : State := (valued .service ([((0x1000, 0x1000), 5)] ++ more)).modStep 0 fun _ => x

theorem test_step_faults : (stepping [] Step.reset).stepFitted 0 ∧ (stepping [] Step.reset).par 0x5005 (uStep 0) < |(100000 : Int)|
    ∧ ((stepping [] { Step.reset with drive := .holding }).advance 0).stepEn 0 ∧ ((stepping [] { Step.reset with drive := .holding }).advance 0).elapsed 0 2000
    ∧ (stepping [((0x5002, 0x1020), 20)] Step.reset).view.raw 0x5002 (uStep 0) ≠ 0 ∧ (stepping [] Step.reset).present 0 ∧ (stepping [] Step.reset).mode.fromConfigure
    ∧ (driven 1 [((0x2020, 0x1000), 20)] Leaf.reset).sdRuns 0 ∧ ((stepping [] { Step.reset with drive := .moving, devSince := some 0 }).advance 2000000).elapsed 0 2000000
    ∧ (((stepping [] { Step.reset with drive := .homing, phase := 2, phi := 0xFFF00000 }).advance 0).stepCatchUp 0).stepOf 0 ≠ Step.reset
    ∧ ((stepping [((0x5034, 0x1020), 1), ((0x5000, 0x1020), 10000)] Step.reset).par 0x5034 (uStep 0) : Rat)
        < |(((0xFFF00000#32 - 0#32).toInt : Rat) * ((stepping [((0x5034, 0x1020), 1), ((0x5000, 0x1020), 10000)] Step.reset).parN 0x5000 (uStep 0) : Rat) / 2560000)|
    ∧ ((stepping [] { Step.reset with drive := .homing, phase := 1, homeInput := true }).advance 0).timedOut 0 7 none = false := by decide +kernel

/-- A fitted step whose modulator clock runs at 20,000 kHz, with a current limit. -/
def clocked (x : Step) : State := stepping [((0x5002, 0x1020), 20000), ((0x5003, 0x1020), 32), ((0x5004, 0x1020), 10000), ((0x5005, 0x1020), 1000)] x

theorem test_step_clock : (clocked Step.reset).stepClock 0 ∧ ((clocked Step.reset).par 0x5005 (uStep 0) : Rat) < |(clocked Step.reset).coilFast 0 0|
    ∧ ((clocked Step.reset).par 0x5005 (uStep 0) : Rat) < |(clocked Step.reset).coilFast 0 256| ∧ ((clocked { Step.reset with drive := .holding }).advance 0).elapsed 0 2000
    ∧ false = clockPasses none ((clocked Step.reset).parN 0x5002 (uStep 0)) ∧ true = clockPasses (some 2000) ((clocked Step.reset).parN 0x5002 (uStep 0))
    ∧ false = clockPasses (some 2041) 20000
    ∧ ((clocked Step.reset).stepOf 0).fault.getLsbD 2 = false ∧ ((clocked { Step.reset with fault := 4 }).stepOf 0).fault.getLsbD 2 = true
    ∧ ((clocked { Step.reset with drive := .holding }).advance 0).elapsed (clocked Step.reset).claim.since 7000 := by
  constructorm* _ ∧ _ <;> decide +kernel

theorem test_homing_fails : ((((stepping [] { Step.reset with drive := .homing, phase := 2 }).advance 0).stepCatchUp 0).stepOf 0).drive = .homing
    ∧ (((stepping [((0x1037, 0x1000), 1000)] { Step.reset with drive := .homing, phase := 2, homeStart := some 0 }).advance 10000000000).stepCatchUp 0).timedOut 0 7 (some 0) = true
    ∧ ((((stepping [] { Step.reset with drive := .homing, phase := 1, homeInput := true }).advance 0).stepCatchUp 0).stepOf 0).homeInput = true
    ∧ (((stepping [] { Step.reset with drive := .homing, phase := 1, homeInput := true }).advance 0).stepCatchUp 0).timedOut 0 7 none = false
    ∧ ((((stepping [] { Step.reset with drive := .homing, phase := 1, homeInput := true }).advance 0).stepCatchUp 0).stepPar 0 0x5035 : Rat)
        ≤ |(((0x00100000#32 - 0#32).toInt : Rat) * ((stepping [((0x5000, 0x1020), 10000)] Step.reset).parN 0x5000 (uStep 0) : Rat) / 2560000)| := by decide +kernel

theorem test_step_moves : (((stepping [] Step.reset).advance 0).stepCatchUp 0).stepOf 0 = { Step.reset with genAt := 10000 } ∧ Step.reset.drive ≠ .moving ∧ Step.reset.drive ≠ .homing
    ∧ ((((stepping [] { Step.reset with drive := .homing, phase := 1 }).advance 0).stepCatchUp 0).stepOf 0).drive = .homing
    ∧ ((((stepping [] { Step.reset with drive := .moving, v := 100 }).advance 0).stepCatchUp 0).stepOf 0).v ≠ 0
    ∧ (((stepping [] { Step.reset with drive := .moving, v := 100 }).advance 0).stepCatchUp 0).f2InUse 0 = false
    ∧ ((((stepping [] { Step.reset with drive := .homing, phase := 2 }).advance 0).stepCatchUp 0).stepOf 0).phase = 2
    ∧ ((((stepping [] { Step.reset with confirm := some (0, 1) }).advance 20000000).stepCatchUp 0).stepOf 0).confirm = some (0, 1)
    ∧ (((stepping [] { Step.reset with confirm := some (0, 1) }).advance 20000000).stepCatchUp 0).elapsed 0 20000000 ∧ (((stepping [] Step.reset).advance 0).stepCatchUp 0).stepStill 0
    ∧ (((stepping [((0x6000, 0x1042), 1), ((0x5036, 0x1020), 100)] { Step.reset with delta := some 0 }).advance 0).stepCatchUp 0).f2Confirms 0 := by decide +kernel

theorem test_step_jog_stops : ((((stepping [] { Step.reset with drive := .moving, job := 3, uncertain := true, v := -100 }).advance 0).stepCatchUp 0).stepOf 0).job = 3
    ∧ ((((stepping [] { Step.reset with drive := .moving, job := 3, uncertain := true, v := -100 }).advance 0).stepCatchUp 0).stepOf 0).uncertain = true
    ∧ ((((stepping [] { Step.reset with drive := .moving, job := 3, uncertain := true, v := -100 }).advance 0).stepCatchUp 0).stepOf 0).v < 0
    ∧ ((((stepping [] { Step.reset with drive := .moving, job := 1 }).advance 0).stepCatchUp 0).stepOf 0).job ≠ 3 := by decide +kernel

theorem test_quiet_trim : (stepping [((0x5028, 0x1020), 1)] { Step.reset with drive := .holding }).parN 0x5028 (uStep 0) = 1 ∧ (1 / 2 : Rat) ≤ Step.reset.g ∧ Step.reset.g ≤ 2
    ∧ (stepping [] Step.reset).parN 0x5028 (uStep 0) ≠ 1 := by decide +kernel

theorem test_coils : Step.reset.drive = .off ∧ ((clocked { Step.reset with drive := .holding }).stepOf 0).strong = false ∧ ({ Step.reset with drive := .moving, strong := true } : Step).strong = true
    ∧ (⟨.drive, 0, 1⟩ : Coil).phase = .drive ∧ (0 : Int) ≤ (⟨.drive, 0, 1⟩ : Coil).sgn * refSign 500 ∧ (700 : Rat) ≤ (Ts.since 70 0 : Rat) * 10 ∧ |(500 : Rat)| ≤ |(500 : Rat)|
    ∧ (Ts.since 69 0 : Rat) * 10 < 700 ∧ (⟨.drive, 0, 1⟩ : Coil).sgn * refSign (-500) < 0 ∧ (⟨.cross, 0, 1⟩ : Coil).phase = .cross ∧ |(9 : Rat)| < 500 * 2 / 100
    ∧ (⟨.decay, 0, 1⟩ : Coil).phase = .decay ∧ (2000 : Nat) = ((20000 : Rat) / 10).floor.toNat ∧ 2000 ≤ Ts.since 2000 (⟨.decay, 0, 1⟩ : Coil).since := by
  decide +kernel

theorem test_trim_measures : (clocked { Step.reset with drive := .holding }).stepClock 0 ∧ ([(16384, 16384), (20000, 12000)] : List (Nat × Nat)).getLast? = some (20000, 12000)
    ∧ ((clocked { Step.reset with drive := .holding }).stepOf 0).drive = .holding ∧ (stepping [((0x5028, 0x1020), 1)] { Step.reset with drive := .holding }).stepPar 0 0x5028 = 1
    ∧ (stepping [] Step.reset).stepPar 0 0x5028 ≠ 1 := by
  constructorm* _ ∧ _ <;> decide +kernel

/-! ## Position feedback -/

/-- Feedback interface 0 of portal 0 of a type in a state, and values besides. -/
def counting (ty : Int) (more : List ((Nat × Nat) × Int)) (x : Feedback) : State := (valued .service ([((0x1000, 0x1000), 1), ((0x6000, 0x1040), ty)] ++ more)).modFb 0 0 fun _ => x

theorem test_fb_counts : (counting 0 [] Feedback.reset).fbRuns 0 0 = false ∧ (counting 1 [] Feedback.reset).fbRuns 0 0 = true ∧ countOf 1 false false false false false true = some 0
    ∧ countOf 1 false false false true false false = some 1 ∧ countOf 1 false false false false true false = some (-1) ∧ countOf 1 false false false true true false = none
    ∧ ((counting 1 [] Feedback.reset).fb 0 0).illegalAt.length < 3 := by decide +kernel

theorem test_fb_illegal : ((counting 1 [] { Feedback.reset with illegalAt := [5, 4, 3], legal := 1026 }).fb 0 0).illegalAt = 5 :: 4 :: 3 :: []
    ∧ ((counting 1 [] { Feedback.reset with illegalAt := [5, 4, 3], legal := 1026 }).fb 0 0).legal - 3 < 1024
    ∧ countOf ((counting 1 [] Feedback.reset).fbType 0 0) false false false true true false = none := by decide +kernel

theorem test_gray : (6 : Nat) < 2 ^ 3 ∧ grayDecode 3 (6 ^^^ (6 / 2)) = 6 := by decide +kernel

theorem test_ssi_bad : ((counting 5 [] { Feedback.reset with ssiBad := 1 }).fb 0 0).ssiBad < 2 ∧ 2 ≤ ((counting 5 [] { Feedback.reset with ssiBad := 2 }).fb 0 0).ssiBad := by decide +kernel

/-- A 12-bit SSI encoder. -/
def ssi (x : Feedback) : State := counting 5 [((0x6020, 0x1040), 12), ((0x6021, 0x1040), 1), ((0x6026, 0x1040), 10)] x

theorem test_ssi : (ssi Feedback.reset).fbRuns 0 0 = true ∧ (ssi Feedback.reset).fbType 0 0 = 5 ∧ (ssi Feedback.reset).parN 0x6020 (uFb 0 0) = 12 ∧ (ssi Feedback.reset).parN 0x6021 (uFb 0 0) = 1
    ∧ 12 < (ssi Feedback.reset).parN 0x6020 (uFb 0 0) + 1 ∧ (ssi Feedback.reset).parN 0x6020 (uFb 0 0) + 1 ≤ 13 ∧ ((ssi Feedback.reset).fb 0 0).ssiPrev = none
    ∧ ((ssi { Feedback.reset with ssiPrev := some 4090 }).fb 0 0).ssiPrev = some 4090 ∧ |wrapS 12 ((4 : Int) - 4090)| ≤ ((ssi Feedback.reset).parN 0x6026 (uFb 0 0) : Int)
    ∧ ((ssi Feedback.reset).parN 0x6026 (uFb 0 0) : Int) < |wrapS 12 ((5 : Int) - 4090)| := by decide +kernel

theorem test_observer : ((counting 1 [] Feedback.reset).fb 0 0).still = true ∧ ((counting 1 [] { Feedback.reset with still := false }).fb 0 0).seeding = false
    ∧ |((counting 1 [] { Feedback.reset with still := false }).fbMeas 0 0 : Rat) - ((counting 1 [] { Feedback.reset with still := false }).fb 0 0).xHat|
        ≤ ((counting 1 [] { Feedback.reset with still := false }).parN 0x6005 (uFb 0 0) : Rat)
    ∧ ((counting 1 [] { Feedback.reset with still := false, xHat := 1000000 }).parN 0x6005 (uFb 0 0) : Rat)
        < |((counting 1 [] { Feedback.reset with still := false, xHat := 1000000 }).fbMeas 0 0 : Rat) - ((counting 1 [] { Feedback.reset with still := false, xHat := 1000000 }).fb 0 0).xHat|
    ∧ ((counting 1 [] { Feedback.reset with still := false, lastChange := some 0 }).advance 100000000).elapsed 0 (100000 * (counting 1 [] Feedback.reset).parN 0x6004 (uFb 0 0)) := by decide +kernel

theorem test_references : (counting 1 [] Feedback.reset).fbRuns 0 0 = true ∧ (counting 1 [] Feedback.reset).fbType 0 0 ≠ 4 ∧ (counting 1 [] Feedback.reset).parN 0x6010 (uFb 0 0) = 0
    ∧ (counting 1 [((0x6010, 0x1040), 1)] Feedback.reset).parN 0x6010 (uFb 0 0) = 1 ∧ (counting 1 [((0x6010, 0x1040), 2)] Feedback.reset).parN 0x6010 (uFb 0 0) = 2
    ∧ ((((counting 1 [((0x6010, 0x1040), 2)] Feedback.reset).advance 0).lineCount 0 0).fb 0 0).armed = true
    ∧ ((((counting 1 [((0x6010, 0x1040), 2)] Feedback.reset).advance 0).lineCount 0 0).fb 0 0).armedAt ≠ (((counting 1 [((0x6010, 0x1040), 2)] Feedback.reset).advance 0).lineCount 0 0).ts
    ∧ (counting 1 [((0x6006, 0x1040), 1)] Feedback.reset).parN 0x6006 (uFb 0 0) = 1
    ∧ ((counting 1 [((0x6006, 0x1040), 1)] { Feedback.reset with contactSince := some 0 }).advance 10000000).elapsed 0 10000000 ∧ ((0 : Fin 6).val ≠ 5 ∧ (0 : Fin 6).val ≠ 1)
    ∧ ({ Feedback.reset with okSince := Feedback.reset.okSince.set 0 (some 0) } : Feedback).okSince[(0 : Fin 6)] = some 0
    ∧ ({ Echo.reset with backlog := -1 } : Echo).backlog ≠ 0 ∧ ((valued .service [((0x1000, 0x1000), 1), ((0x6030, 0x1000), 0)]).parNames 0x6030 (uPortal 0)).isSome := by decide +kernel

/-- An interface of type A/B/Z at an edge of Z to high, its active level. -/
def atIndex (k : Int) (x : Feedback) : State := (counting 1 [((0x6010, 0x1040), k)] x).fbSample 0 0 false false true

theorem test_index_edges : (atIndex 1 Feedback.reset).fbRuns 0 0 = true ∧ (atIndex 1 Feedback.reset).fbType 0 0 ≠ 4 ∧ (atIndex 1 Feedback.reset).fbType 0 0 ≠ 5
    ∧ true = (atIndex 1 Feedback.reset).indexLevel 0 0 ∧ ((atIndex 1 Feedback.reset).fb 0 0).zAt = some (atIndex 1 Feedback.reset).ts
    ∧ ((atIndex 1 Feedback.reset).fb 0 0).badAt ≠ some (atIndex 1 Feedback.reset).ts ∧ ((atIndex 1 { Feedback.reset with badAt := some 10000 }).fb 0 0).badAt = some (atIndex 1 Feedback.reset).ts
    ∧ (((atIndex 1 Feedback.reset).modFb 0 0 fun x => { x with zAt := none }).lineCount 0 0).parN 0x6010 (uFb 0 0) = 1
    ∧ (((atIndex 0 Feedback.reset).modFb 0 0 fun x => { x with zAt := none }).lineCount 0 0).parN 0x6010 (uFb 0 0) = 0
    ∧ ((((atIndex 2 { Feedback.reset with armed := true }).modFb 0 0 fun x => { x with zAt := none }).lineCount 0 0).fb 0 0).armed = true
    ∧ ((((atIndex 2 { Feedback.reset with armed := true }).modFb 0 0 fun x => { x with zAt := none }).lineCount 0 0).fb 0 0).armedAt ≠ (atIndex 2 Feedback.reset).ts
    ∧ ((((atIndex 2 { Feedback.reset with armed := false }).modFb 0 0 fun x => { x with zAt := none }).lineCount 0 0).fb 0 0).armed = false
    ∧ ((counting 1 [] Feedback.reset).fb 0 0).contactRef = none ∧ (counting 0 [] Feedback.reset).fbRuns 0 0 = false := by
  constructorm* _ ∧ _ <;> decide +kernel

theorem test_contact_reference : (counting 1 [((0x6006, 0x1040), 1)] { Feedback.reset with contactSince := some 0 }).fbRuns 0 0 = true
    ∧ (counting 1 [((0x6006, 0x1040), 1)] Feedback.reset).fbType 0 0 ≠ 5 ∧ ((counting 1 [((0x6006, 0x1040), 1)] { Feedback.reset with contactSince := some 0 }).fb 0 0).referenced = false
    ∧ ((counting 1 [] Feedback.reset).fb 0 0).lastBad = false ∧ ((counting 1 [] { Feedback.reset with referenced := true }).fb 0 0).referenced = true ∧ Echo.reset.lastEdge = none := by decide +kernel

/-! ## Obstacle detection and force fences -/

/-- A leaf with its detector changed. -/
def watched (x : Detector) : State := driven 1 [((0x4003, 0x1010), 1000), ((0x4016, 0x1010), 10), ((0x4004, 0x1010), 150), ((0x4005, 0x1010), 4000)] { Leaf.reset with det := x }

theorem test_obstacles : 20 * ((watched { Detector.reset with confirm := 200 }).latched 0 0 0x4016).toNat ≤ ((watched { Detector.reset with confirm := 200 }).leaf 0 0).det.confirm
    ∧ (watched Detector.reset).leafPresent 0 0 ∧ (watched Detector.reset).mode ≠ .standby ∧ ((watched Detector.reset).advance 0).gates
    ∧ ((watched Detector.reset).eEff 0 0 : Rat) < ((watched Detector.reset).modFb 0 0 fun x => { x with vHat := 1000000000 }).eKin 0 0
    ∧ (watched Detector.reset).pneumatic 0 = false ∧ (valued .service [((0x1000, 0x1000), 9)]).pneumatic 0 = true
    ∧ ((watched { Detector.reset with efSince := some 0 }).leaf 0 0).det.efSince = some 0 ∧ ((watched { Detector.reset with efSince := some 0 }).advance 200000).elapsed 0 200000
    ∧ 100 * (watched { Detector.reset with efSince := some 0 }).eKin 0 0 ≤ 81 * ((watched Detector.reset).eEff 0 0 : Rat) ∧ (watched Detector.reset).mode ≠ .init
    ∧ ((watched { Detector.reset with status := 0x2000 }).leaf 0 0).det.status.getLsbD 13 = true ∧ ((watched Detector.reset).leaf 0 0).det.status.getLsbD 13 = false
    ∧ ((watched { Detector.reset with updates := 256 }).leaf 0 0).det.savedAt + 256 ≤ 256 ∧ (watched Detector.reset).power.pfail = false := by decide +kernel

theorem test_energy_drives : ((driven 1 [] { Leaf.reset with drive := .position }).leaf 0 0).drive.modulating ∧ ((driven 1 [] { Leaf.reset with drive := .position }).leaf 0 0).det.efSince = none := by
  decide +kernel

theorem test_energy_everywhere : ((driven 1 [] { Leaf.reset with drive := .brake }).leaf 0 0).drive ≠ .off ∧ ((driven 1 [] { Leaf.reset with drive := .brake }).leaf 0 0).drive ≠ .tripped
    ∧ ((watched { Detector.reset with confirm := 200 }).leaf 0 0).det.confirm ≠ 0 := by decide +kernel

theorem test_fences_bound : 0 ≤ (driven 2 [((0x4004, 0x1010), 150)] Leaf.reset).ffLimit 0 0 ∧ (-0 : Rat) ≤ 0 ∧ (0 : Rat) ≤ ((watched Detector.reset).vE 0 0 : Rat) := by decide +kernel

/-! ## Safety inputs, zero speed, door-closed-and-locked and the safety reset -/

/-- Portal 0 with its levels adopted and something changed. -/
def levels (m : Mode) (more : List ((Nat × Nat) × Int)) (f : Portal → Portal) : State :=
  (valued m ([((0x1000, 0x1000), 1)] ++ more)).modPortal 0 fun x => f { x with siAdopted := true }

theorem test_safety_inputs : ((levels .service [] id).portal 0).si[(0 : Fin 12)] = false ∧ ((oneDoor .service).portal 0).siAdopted = false ∧ ((levels .service [] id).portal 0).siAdopted = true
    ∧ (levels .service [] id).pairSt 0 2 = 2 ∧ ((levels .service [] id).advance 100000000).elapsed 0 (100000 * (levels .service [] id).parN 0x8004 (uPortal 0))
    ∧ (levels .service [] fun x => { x with si := x.si.set 6 true }).pairSt 0 2 ≠ 2 ∧ ((levels .service [] id).advance 10000000).elapsed ((levels .service [] id).portal 0).pairSince[(2 : Fin 3)] 10000000
    ∧ ((levels .service [((0x8005, 0x1000), 100), ((0x6001, 0x1040), 10000)] fun x => { x with si := x.si.set 0 true }).modFb 0 0 fun y => { y with xHat := 101, referenced := true }).implausible 0 0 = true
    ∧ (levels .service [] id).implausible 0 0 = false ∧ ((levels .service [] id).portal 0).siFault.getLsbD 3 = false := by decide +kernel

/-- Portal 0 with CL0 on and leaf 0 referenced beyond the plausibility bound. -/
def wrongClosed (t : Ts) : State :=
  (levels .service [((0x8005, 0x1000), 100), ((0x6001, 0x1040), 10000)] fun x => { x with si := x.si.set 0 true, plaus := x.plaus.set 0 (true, t) }).modFb 0 0 fun y => { y with xHat := 101, referenced := true }

theorem test_plausibility : (wrongClosed 0).implausible 0 0 = true ∧ ((wrongClosed 0).portal 0).plaus[(0 : Fin 3)] = (true, 0) ∧ ((wrongClosed 0).advance 19990000).elapsed 0 20000000 = true
    ∧ ((wrongClosed 0).advance 19989999).elapsed 0 20000000 = false ∧ (levels .service [] id).implausible 0 0 = false
    ∧ ((levels .service [] fun x => { x with plaus := x.plaus.set 0 (false, 0) }).portal 0).plaus[(0 : Fin 3)] = (false, 0)
    ∧ ((levels .service [] id).advance 9990000).elapsed 0 10000000 = true ∧ ((levels .service [] id).advance 9989999).elapsed 0 10000000 = false
    ∧ (levels .service [] id).present 0 := by decide +kernel

theorem test_zero_speed : (atRest .service).safety.zsAdopted = true ∧ ({ (atRest .service).safety with zsA := false } : Safety).zsA = false ∧ (atRest .service).safety.zsFault = false
    ∧ ((atRest .service).advance 100000000).elapsed (atRest .service).safety.zsSince (100000 * (atRest .service).parN 0x8011 0)
    ∧ (atRest .service).safety.zsA ≠ (atRest .service).safety.zsB ∧ ((atRest .service).advance 100000000).elapsed (atRest .service).safety.zsSince 100000000 := by decide +kernel

theorem test_dcl_terms : (inMode .service).mode ≠ .init ∧ ((inMode .service).pair 0).scope ≠ .restarting ∧ ((inMode .service).advance 200000).elapsed (inMode .service).safety.fwAt 200000
    ∧ ({ inMode .service with power := { Power.reset with configured := true } } : State).power.configured = true ∧ pdOf 3 = 0 ∧ pdOf 4 = 1
    ∧ ((inMode .service).advance 100000).elapsed (inMode .service).safety.frameAt[(0 : Fin 2)] 100000 ∧ ((inMode .configure).advance 0).comparing = false
    ∧ ((inMode .service).advance 0).comparing = true ∧ ((inMode .service).advance 1000000).elapsed 0 1000000
    ∧ ((levels .service [] fun x => { x with differSince := some 0 }).portal 0).differSince = some 0 ∧ ((levels .service [] fun x => { x with agreeSince := some 0 }).portal 0).agreeSince = some 0 := by
  decide +kernel

theorem test_dcl_times : ((inMode .service).pair 0).halted = false ∧ ((levels .service [] fun x => { x with differSince := some 0 }).advance 1000000).comparing = true
    ∧ ((levels .service [] fun x => { x with differSince := some 0 }).advance 1000000).elapsed 0 1000000 ∧ ((levels .service [] fun x => { x with agreeSince := some 0 }).advance 10000000).elapsed 0 10000000 := by decide +kernel

theorem test_dcl_driven : ((0#56) + BitVec.ofNat 56 50000).toNat % 50000 = 0 ∧ (false ≠ (inMode .service).safety.levelB) = False ∧ (true ≠ (inMode .service).safety.levelA)
    ∧ ({ Safety.reset with pinA := some 0 } : Safety).pinA.isSome ∧ (inMode .service).safety.reachB = false ∧ (valued .service []).claim.held = true
    ∧ ((valued .service []).advance 1000000000).elapsed (valued .service []).safety.drivenSince (100000 * (valued .service []).parN 0x8013 0) := by decide +kernel

/-- A press of the safety-reset pair that has been asserted at time-stamp 0. -/
def pressed : Press := ⟨0, some 0, none, some 0, none, false, false⟩

/-- A device with that press. -/
def withPress (m : Mode) (x : Option Press) (a b : Bool) : State := { inMode m with safety := { Safety.reset with press := x, srA := a, srB := b } }

theorem test_safety_reset : (withPress .safe none false true).safety.press = none ∧ pairState false true = 0 ∧ pairState true true = 2 ∧ pairState false true = 0
    ∧ (withPress .safe (some pressed) true false).safety.press = some pressed ∧ pressed.asserted = some 0 ∧ pressed.reported = false ∧ pressed.voided = false
    ∧ (withPress .safe (some pressed) true false).safety.jammed = false ∧ pairState true false = 1 ∧ (5000000#56 - 0).toNat = 5000000 ∧ (withPress .safe none false true).safety.causeAt = none
    ∧ ((withPress .safe (some pressed) true false).advance 1000000000).elapsed 0 1000000000 ∧ (withPress .service none false true).mode ≠ .safe
    ∧ ({ (withPress .safe none false true) with safety := { Safety.reset with causeAt := some 0 }, ts := 10000 } : State).elapsed 0 10000 = true := by decide +kernel

theorem test_reset_runs : pressed.run = some 0 ∧ (withPress .safe (some { pressed with asserted := none }) false true).safety.press = some { pressed with asserted := none }
    ∧ pairState (withPress .safe (some { pressed with asserted := none }) false true).safety.srA (withPress .safe (some { pressed with asserted := none }) false true).safety.srB ≠ 1
    ∧ Ts.since ((0#56) + BitVec.ofNat 56 10000000) pressed.start ≤ 10000000 ∧ 10000000 < Ts.since ((0#56) + BitVec.ofNat 56 10000001) pressed.start
    ∧ ({ pressed with asserted := none } : Press).reported = false ∧ ({ pressed with asserted := none } : Press).voided = false := by decide +kernel

/-! ## CAN controllers and host ports -/

/-- CAN0 changed, with timing and options that R379 takes. -/
def onCan (m : Mode) (x : Can) : State :=
  ({ inMode m with params := [((0xA000, 0), 1), ((0xA001, 0), 1), ((0xA002, 0), 39), ((0xA003, 0), 39), ((0xA004, 0), 39), ((0xA005, 0), 1), ((0xA006, 0), 1), ((0xA007, 0), 9), ((0xA008, 0), 9),
      ((0xA009, 0), 9), ((0xA00A, 0), 0), ((0xA00B, 0), 1), ((0xA00C, 0), 7)] }).modCan 0 fun _ => x

/-- A classic frame with a standard identifier. -/
def frame : CanFrame := ⟨false, false, false, false, false, 0x123, 1, [7]⟩

/-- A mailbox that holds it. -/
def box (flying : Bool) (deadline : Option Ts) : TxBox := ⟨frame, deadline, flying, none, false, none⟩

/-- A controller with that mailbox in place 3. -/
def mailed (flying : Bool) (deadline : Option Ts) : Can := { Can.reset with state := .normal, boxes := Can.reset.boxes.set 3 (some (box flying deadline)) }

theorem test_can_commands : (onCan .configure Can.reset).Takes 0x2C (cmdTo 0) [0, 0] ∧ (onCan .configure Can.reset).mode.fromConfigure ∧ (onCan .configure (mailed true none)).txBusy 0 = true
    ∧ (onCan .configure Can.reset).txBusy 0 = false ∧ (onCan .configure Can.reset).Takes 0x2C (cmdTo 0) [0, 1] ∧ ((onCan .configure Can.reset).accepted 0 (cmdTo 0)).canTiming 0 = none
    ∧ (onCan .configure Can.reset).Takes 0x2C (cmdTo 0) [0, 2] ∧ ((inMode .configure).accepted 0 (cmdTo 0)).canTiming 3 ≠ none ∧ (inMode .configure).Takes 0x2C (cmdTo 0) [3, 2]
    ∧ (onCan .configure Can.reset).Takes 0x2C (cmdTo 0) [0, 3] ∧ (onCan .configure { Can.reset with state := .listen }).Takes 0x2C (cmdTo 0) [0, 4]
    ∧ (onCan .configure { Can.reset with state := .listen }).txPending 0 = false ∧ (onCan .configure { Can.reset with state := .sleep }).Takes 0x2C (cmdTo 0) [0, 5]
    ∧ (onCan .configure { Can.reset with state := .busOff }).Takes 0x2C (cmdTo 0) [0, 6] ∧ ((onCan .configure { Can.reset with state := .busOff }).can 0).state = .busOff := by
  constructorm* _ ∧ _ <;> first | (unfold State.Takes; decide +kernel) | decide +kernel

theorem test_can_recovers : ((onCan .configure { Can.reset with recoveredAt := some 4 }).can 0).recoveredAt = some ((onCan .configure Can.reset).ts + BitVec.ofNat 56 4)
    ∧ ((onCan .configure { Can.reset with recoveredAt := some 4 }).can 0).state ≠ .busOff ∧ (onCan .configure { Can.reset with recoveredAt := some 4 }).Takes 0x2C (cmdTo 0) [0, 6]
    ∧ ((onCan .configure { Can.reset with state := .detecting }).can 0).state = .detecting ∧ (onCan .configure { Can.reset with state := .detecting }).Takes 0x2C (cmdTo 0) [0, 1] := by
  constructorm* _ ∧ _ <;> first | (unfold State.Takes; decide +kernel) | decide +kernel

theorem test_can_mailboxes : (onCan .service { Can.reset with state := .normal }).Takes 0x2D (cmdTo 0) (le 1 0 ++ le 1 3 ++ le 4 0x123 ++ le 1 0 ++ le 1 1 ++ le 2 100 ++ [7]) ∧ busFrame frame = frame
    ∧ (onCan .service { Can.reset with state := .normal }).box 0 3 = none ∧ (onCan .service (mailed false none)).Takes 0x2E (cmdTo 0) (le 1 0 ++ le 1 3)
    ∧ (onCan .service (mailed false none)).box 0 3 = some (box false none) ∧ (onCan .service (mailed false none)).txOffer 0 = some 3 ∧ ((onCan .service (mailed false none)).can 0).suspended = false
    ∧ (box true none).inFlight = true ∧ ((onCan .service (mailed true none)).can 0).stopping = false ∧ (box false (some 100)).late ((0#56) + BitVec.ofNat 56 100) = true := by
  constructorm* _ ∧ _ <;> first | (unfold State.Takes; decide +kernel) | decide +kernel

/-- A received frame. -/
def got : RxEntry := ⟨0, frame, false, false, false, 0xFF⟩

theorem test_can_receives : ((onCan .service { Can.reset with state := .listen }).can 0).suspended = false ∧ ((onCan .service { Can.reset with state := .listen }).advance 0).filterOf 0 (busFrame frame) = none
    ∧ ((onCan .service { Can.reset with state := .listen }).can 0).fifo.length < 64 ∧ 64 ≤ ({ Can.reset with fifo := List.replicate 64 got } : Can).fifo.length ∧ PrioBuf.reset.lock = none
    ∧ Ts.since 200 0 ≤ 200 ∧ (onCan .service Can.reset).Takes 0x2F (cmdTo 0) (le 1 0 ++ [0] ++ le 1 8) ∧ (onCan .service Can.reset).Takes 0x2F (cmdTo 0) (le 1 0 ++ [0] ++ le 1 1) := by
  constructorm* _ ∧ _ <;> first | (unfold State.Takes; decide +kernel) | decide +kernel

theorem test_can_buffers : ((onCan .service Can.reset).can 0).owned.getLsbD 2 = false ∧ ((onCan .service Can.reset).can 0).bufs[(2 : Fin 8)].lock = none
    ∧ ((onCan .service Can.reset).can 0).bufs[(2 : Fin 8)].front = none ∧ (onCan .service Can.reset).Takes 0x2F (cmdTo 0) (le 1 0 ++ le 1 3 ++ le 1 1)
    ∧ ((onCan .service { Can.reset with bufs := Can.reset.bufs.set 2 ⟨some got, none, none⟩ }).can 0).bufs[(2 : Fin 8)].front = some got
    ∧ (⟨none, none, some (0, 200)⟩ : PrioBuf).lock = some (0, 200) := by
  constructorm* _ ∧ _ <;> first | (unfold State.Takes; decide +kernel) | decide +kernel

theorem test_can_errors : ((onCan .service { Can.reset with state := .normal }).can 0).state = .normal ∧ ((onCan .service Can.reset).can 0).errState ≠ 2
    ∧ (∀ m : Fin 16, ((onCan .service Can.reset).can 0).next[m] = none) ∧ ({ Can.reset with state := .busOff, recovering := true } : Can).recovering = true
    ∧ ((onCan .service Can.reset).advance 1000000000).elapsed 0 (100000 * (onCan .service Can.reset).canN 0 0x51) ∧ ((onCan .service Can.reset).advance 10000000000).elapsed 0 (100000 * (onCan .service Can.reset).canN 0 0x52)
    ∧ (onCan .service { Can.reset with state := .sleep }).canN 0 0x60 = 0 ∧ (onCan .service { Can.reset with state := .normal }).canOpt 0 1 = true := by decide +kernel

theorem test_can_passive : ((onCan .service { Can.reset with state := .normal, errState := 1 }).can 0).errState = 1 ∧ ((onCan .service { Can.reset with state := .listen }).can 0).state = .listen
    ∧ CanErrKind.stuff ≠ .ack ∧ 100 * (onCan .service { Can.reset with state := .sleep }).canN 0 0x67 ≤ 100 * (onCan .service { Can.reset with state := .sleep }).canN 0 0x67 := by decide +kernel

/-- The packet of an ECHO without parameters, with the CRC-16 of R429 over its eight bytes. -/
def echoPacket : List Byte := [1, 5, 7, 0, 0, 0, 0, 0]

/-- A reply that waits. -/
def reply : Reply := ⟨1, 5, 7, 0, 0, [], false, true, false⟩

theorem test_spi : (inMode .service).mode ≠ .init ∧ (inMode .service).power.off = false ∧ parsePacket false [1, 2] = none ∧ parsePacket false (echoPacket ++ le 2 (Crc.crc16 echoPacket).toNat) = some ⟨1, 5, 7, 0, 0, []⟩
    ∧ (((inMode .service).modPort 0 fun x => { x with replies := [reply] }).port 0).replies = reply :: [] ∧ (reply.params.length ≤ 1024) := by decide +kernel

/-- The FD frame of a segment with the identifier of Mirqua commands. -/
def segment (b : Byte) (l : List Byte) : CanFrame := ⟨false, true, false, false, false, 0x100, BitVec.ofNat 4 (l.length + 1), b :: l⟩

/-- The CAN3 port at work. -/
def segPort : State :=
  (valued .service [((0xA30C, 0), 1), ((0xD001, 0), 0x100), ((0xD002, 0), 0x101)]).modCan 3 fun x => { x with state := .listen }

theorem test_segments : (segment 0 [1]).fdf = true ∧ (0#8).getLsbD 7 = false ∧ (0#8).toNat % 64 = 0 ∧ (1#8).toNat % 64 ≠ 0 ∧ (128#8).toNat = 128
    ∧ (((inMode .service).modPort 1 fun x => { x with seg := some ([1], 0, 0) }).port 1).seg = some ([1], 0, 0)
    ∧ parsePacket true (echoPacket ++ le 2 (Crc.crc16 echoPacket).toNat) = some ⟨1, 5, 7, 0, 0, []⟩ ∧ (segPort.advance 0).isMirqua (segment 0 [1]) = true ∧ (segPort.can 3).state = .listen
    ∧ (segPort.can 3).suspended = false ∧ segPort.canOpt 3 0 = true ∧ ((inMode .service).advance 10000000).elapsed 0 10000000
    ∧ (segPort.modCan 3 fun x => { x with state := .normal }).box 3 12 = none ∧ 63 * (0 + 1) < 10 + (List.replicate 54 (0 : Byte)).length ∧ 10 + (List.replicate 53 (0 : Byte)).length ≤ 63 * (0 + 1) := by
  decide +kernel

/-! ## Safe telegrams -/

theorem test_tele_sent : (inMode .service).teleSends = false ∧ (valued .safe []).claim.held = true ∧ (valued .safe []).mode = .safe ∧ (valued .safe []).box 0 12 = none ∧ (valued .safe []).box 1 13 = none
    ∧ (List.replicate 48 (0 : Byte)).length ≤ 48 := by decide +kernel

theorem test_tele_due : ((valued .service []).advance 990000).dclDue = true ∧ ((10000#56) + BitVec.ofNat 56 990000).toNat % 1000000 = 0
    ∧ ({ valued .service [] with ts := 10000000001, tele := { Telegrams.reset with sentDcl := (false, 0) } } : State).dclDue = false
    ∧ ((10000#56) + BitVec.ofNat 56 490000).toNat % 1000000 = 500000 ∧ ((10000#56) + BitVec.ofNat 56 0).toNat % 1000000 ≠ 500000
    ∧ (∀ b, (valued .service []).box 0 12 = some b → b.inFlight = false) ∧ (box true none).inFlight = true := by
  refine ⟨by decide +kernel, by decide +kernel, by decide +kernel, by decide +kernel, by decide +kernel, ?_, rfl⟩
  intro b h
  exact absurd h (by simp [show (valued .service []).box 0 12 = none by decide +kernel])

/-- A copy of number 7, received at an instant. -/
def teleCopy (sof : Ts) : TeleCopy := ⟨7, 1000, sof, [1]⟩

theorem test_tele_received : (valued .service []).copyOk (streamType true) 0 2 frame = false ∧ ((valued .service []).stream true).windows = []
    ∧ (((valued .service []).modStream true fun x => { x with windows := [(false, teleCopy 0)] }).stream true).windows = [(!true, teleCopy 0)] ∧ usBetween 0 500000 ≤ 5000
    ∧ (onCan .service { Can.reset with state := .normal }).mode.fromConfigure ∧ 5000 ≤ usBetween 0 500000
    ∧ (((valued .service []).modStream true fun x => { x with valid := true, seqLast := 7, tsLast := 1000 }).stream true).valid = true ∧ ((7#16) - 7).toInt < 1 ∧ ((1000#32) - 1000).toInt ≤ 0
    ∧ ((valued .service []).advance 10000000000).elapsed ((valued .service []).stream true).lastAt (100000 * (valued .service []).parN 0xB003 0) := by decide +kernel

theorem test_window_old : 5000 < usBetween (0 : Ts) (10000 + BitVec.ofNat 56 490100) ∧ ((((valued .service []).modStream true fun x => { x with windows := [(false, teleCopy 0)] }).stream true).windows = [(false, teleCopy 0)])
    ∧ (valued .service []).copyOk (streamType true) 0 2 frame = false := by decide +kernel

/-! ## Pairing and the claim -/

theorem test_higher_claim : (5#16).toNat < (9#16).toNat ∧ (9#16) = (driveBits 9 9 16 0 false).1 ||| (driveBits 5 9 16 0 false).1 := by decide +kernel

/-- A claim sample with both wires at a level. -/
def bothWires (w : BitVec 16) : ClaimSample := ⟨true, w, w, true, false, false⟩

theorem test_claim_frames : (inMode .standby).claim.wireA.faulty = false ∧ (inMode .standby).claim.wireB.faulty = false ∧ (inMode .standby).mode.fromConfigure
    ∧ (bothWires 0xFFFF).wireA = (bothWires 0xFFFF).wireB ∧ (∀ d : BitVec 16, d &&& ~~~(bothWires 0xFFFF).wireA = 0) ∧ (inMode .test).mode = .test
    ∧ ({ Claim.reset with bothBad := 1 } : Claim).bothBad = 1 ∧ (inMode .configure).mode = .configure := by
  refine ⟨by decide +kernel, by decide +kernel, by decide +kernel, rfl, ?_, rfl, rfl, rfl⟩
  intro d
  simp [bothWires]

/-- Whatever its serial number is, a PRIMARY of health 0 drives a bit on wires that stay released. -/
theorem test_claim_driven (k : Nat) (hk : k < 128) :
    (driveBits (BitVec.ofNat 16 (512 * 0 + 256 * 0 + 128 * 1 + k)) (0 ||| 0) 16 0 false).1 &&& ~~~(0 : BitVec 16) &&& ~~~(0 : BitVec 16) ≠ 0 := by
  have : ∀ b : Fin 128, (driveBits (BitVec.ofNat 16 (512 * 0 + 256 * 0 + 128 * 1 + b.val)) (0 ||| 0) 16 0 false).1 &&& ~~~(0 : BitVec 16) &&& ~~~(0 : BitVec 16) ≠ 0 := by
    decide +kernel
  exact this ⟨k, hk⟩

theorem test_claim_word : (inMode .standby).health = 0 ∧ (inMode .standby).claim.held = false ∧ (inMode .standby).primary = true := by decide +kernel

/-- A device in good health. -/
def healthy : State :=
  { inMode .service with partner := { Partner.reset with linkUp := true, version := 1, hbSentAt := some 0 } }

theorem test_health : healthy.healthZero = false ∧ healthy.healthF = 0 ∧ healthy.healthL = 0 ∧ (∀ k ∈ healthy.healthK, k = false) := by decide +kernel

theorem test_claim_held : (inMode .standby).partner.lost = false ∧ (inMode .standby).primary = true ∧ (fitted .standby [((0x9000, 0), 1)]).primary = false
    ∧ ({ Claim.reset with isoFrames := some 3, noAck := 7, won := true } : Claim).isoFrames = some 3 ∧ (⟨true, false, 0⟩ : ClaimStatus).gatesOk = false := by decide +kernel

theorem test_claim_kept : ({ Claim.reset with won := true, heldEnd := true } : Claim).heldEnd = true ∧ (false : Bool) = ((inMode .standby).mode.fromConfigure && !((inMode .standby).claim.wireA.faulty
      && (inMode .standby).claim.wireB.faulty) && (inMode .standby).claim.won && ((inMode .standby).claim.ack || (inMode .standby).claim.heldEnd))
    ∧ (⟨false, true, 0⟩ : ClaimStatus).ballWon = false ∧ (⟨false, true, 0⟩ : ClaimStatus).gatesOk = true := by decide +kernel

/-- A CAP frame of a PRIMARY. -/
def cap (ok : Bool) : CapFrame := ⟨ok, 1, 1, 0, 7, 0, []⟩

/-- A HEARTBEAT of a partner in STANDBY. -/
def beat : HeartbeatFrame := ⟨true, 1, 3, 0, 0, 0, 0, 0⟩

theorem test_swetric : (inMode .standby).partner.linkUp = false ∧ (cap true).crcOk = true ∧ (cap false).crcOk = false ∧ (inMode .standby).mode.fromConfigure ∧ beat.crcOk = true
    ∧ ({ Partner.reset with heardAt := some 0 } : Partner).heardAt = some 0 ∧ ((inMode .standby).advance 200000).elapsed 0 200000 := by decide +kernel

/-- A snapshot frame with no portal blocks. -/
def snap (ok : Bool) : Snapshot := ⟨ok, 1, 1356, 1, 0, 4, 0, 0, 0, 0, [], [], [], []⟩

/-- A device in STANDBY whose partner has agreed on a version. -/
def listening : State := { inMode .standby with partner := { Partner.reset with version := 1 } }

theorem test_snapshots : (valued .maintain []).claim.held = true ∧ listening.claim.held = false ∧ (snap true).crcOk = true ∧ listening.partner.version ≠ 0 ∧ (snap true).version.toNat = listening.partner.version
    ∧ (snap true).length = 1356 ∧ 1 ≤ ((snap true).seq - (listening.partner.adopted.elim 0 (·.seq))).toInt ∧ listening.partner.digest = listening.sealer.config ∧ (snap false).crcOk = false := by decide +kernel

theorem test_snapshot_taken : (valued .maintain []).partner.version = 0 ∧ ({ valued .maintain [] with partner := { Partner.reset with version := 1 } } : State).partner.version ≠ 0 := by decide +kernel

/-- A device that may yield. -/
def yielding : State :=
  { atRest .service with claim := { Claim.reset with held := true, ack := true }, partner := { Partner.reset with heartbeat := some beat } }

theorem test_yield : yielding.Takes 0x2B (cmdTo 0) [] ∧ yielding.claim.held = true ∧ yielding.restGuard = true ∧ (yielding.partner.heartbeat = some beat ∧ beat.mode.toNat = 3 ∧ beat.pending = 0)
    ∧ yielding.claim.ack = true ∧ yielding.claim.yield = none ∧ (inMode .service).Takes 0x2B (cmdTo 0) [] ∧ (inMode .service).claim.held = false ∧ (yielding.advance 2000000).elapsed 0 2000000 := by
  constructorm* _ ∧ _ <;> first | (unfold State.Takes; decide +kernel) | decide +kernel

/-! ## Portals -/

/-- Portal 0 alone, with its sequencer in a state. -/
def door (m : Mode) (more : List ((Nat × Nat) × Int)) (f : Portal → Portal) : State :=
  let s := valued m ([((0x1000, 0x1000), 1), ((0x1010, 0x1010), 80000), ((0x1011, 0x1010), 200), ((0x6000, 0x1040), 1), ((0x6001, 0x1040), 10000)] ++ more)
  { s with
    safety := (atRest m).safety
    tele := { (atRest m).tele with rel := { Stream.reset with valid := true, byte0 := 1 } }
    engines := Vector.replicate 2 { Engine.reset with slots := Vector.replicate 64 { Slot.reset with mode := .closed } }
    portals := s.portals.set 0 (f { Portal.reset with siAdopted := true }) }

/-- A portal that is locked: CL0 and LK_A show it, EH and IS are at rest. -/
def lockedDown (x : Portal) : Portal := { x with state := .locked, si := #v[true, false, true, false, false, true, false, true, false, false, false, false] }

theorem test_portal_commands : (door .service [] lockedDown).Takes 0x30 (cmdTo 0x1000) [] ∧ (cmdTo 0x1000).unit.toNat = uPortal 0 ∧ (door .service [] lockedDown).present 0
    ∧ (door .service [] lockedDown).Takes 0x37 (cmdTo 0x1000) [0] ∧ (inMode .service).Takes 0x31 (cmdTo 0x1700) [] ∧ (inMode .service).present 7 = false
    ∧ (door .safe [] id).Takes 0x33 (cmdTo 0x1000) [] ∧ (door .safe [] id).Takes 0x34 (cmdTo 0x1000) [] ∧ (door .maintain [] id).Takes 0x36 (cmdTo 0x1000) [] := by
  constructorm* _ ∧ _ <;> first | (unfold State.Takes; decide +kernel) | decide +kernel

theorem test_status_jog : (door .service [] id).Takes 0x32 (cmdTo 0x1000) [] ∧ (door .maintain [] id).Takes 0x35 (cmdTo 0x1000) [0x9C, 0xFF] ∧ (door .maintain [] id).Takes 0x35 (cmdTo 0x1010) [0x64, 0]
    ∧ (fullDoor .maintain).Takes 0x35 (cmdTo 0x1020) [0x64, 0] ∧ (cmdTo 0x1020).unit.toNat = uPortal 0 + 0x20 ∧ (fullDoor .maintain).stepFitted 0 ∧ (fullDoor .maintain).leafPresent 0 1 := by
  constructorm* _ ∧ _ <;> first | (unfold State.Takes; decide +kernel) | decide +kernel

theorem test_commands_act : (door .service [] lockedDown).wdgExpired = false ∧ (door .service [] lockedDown).released 0 = true ∧ (door .service [] lockedDown).zsConfirmed = true
    ∧ (door .service [] lockedDown).slotsAuto 0 = true ∧ ((door .service [] lockedDown).portal 0).state = .locked ∧ (oneDoor .service).released 0 = false
    ∧ (door .service [] fun x => { lockedDown x with state := .fenced }).fenceClearOk 0 = true
    ∧ (door .service [] fun x => { lockedDown x with state := .fenced, causes := 2, fenceCause := 1 }).fenceClearOk 0 = (door .service [] fun x => { lockedDown x with state := .fenced, causes := 2 }).causeCleared 0 1
    ∧ (door .service [] fun x => { x with state := .fenced, si := #v[true, false, true, false, true, false, false, true, false, false, false, false] }).fenceClearOk 0 = false
    ∧ (door .service [] fun x => { x with state := .emergency, si := #v[true, false, true, false, true, false, false, true, false, false, false, false] }).ehActive 0 = true
    ∧ ((door .service [] lockedDown).portal 0).start = 0 := by decide +kernel

theorem test_fences : (31 : Nat) < 32 ∧ (inMode .service).present 0 = false ∧ (door .service [] lockedDown).present 0 ∧ ((door .service [] lockedDown).portal 0).state ≠ .isolated
    ∧ (door .standby [] id).mode = .standby := by decide +kernel

theorem test_causes_found : ((door .service [] fun x => { lockedDown x with found := [(3, 5, 6)] }).portal 0).found = [(3, 5, 6)] ∧ (2 : Nat) < 3
    ∧ ((door .service [] fun x => { lockedDown x with found := [(3, 5, 6), (2, 7, 8)] }).portal 0).found = [(3, 5, 6), (2, 7, 8)] ∧ (door .service [] lockedDown).seqWorks 0 = true
    ∧ (door .standby [] id).seqWorks 0 = false ∧ ((door .service [] lockedDown).pdMode 0).runs ∧ ((door .standby [] id).pdMode 0).runs = false
    ∧ ((door .service [] fun x => { x with state := .isolated }).portal 0).state = .isolated := by decide +kernel

theorem test_evaluations : ((door .service [] lockedDown).portal 0).queue = [] ∧ (door .service [] lockedDown).seqWorks 0 = true ∧ (door .configure [] id).seqWorks 0 = false
    ∧ (door .service [] fun x => { lockedDown x with si := #v[true, false, true, false, false, true, true, false, false, false, false, false] }).isActive 0 = true
    ∧ (door .service [] fun x => { lockedDown x with si := #v[true, false, true, false, true, false, false, true, false, false, false, false] }).ehActive 0 = true
    ∧ ((door .service [] fun x => { lockedDown x with start := 1 }).portal 0).start = 1 ∧ (door .service [] lockedDown).pneumatic 0 = false := by decide +kernel

theorem test_transitions : ((door .service [] fun x => { x with state := .opening }).portal 0).stopPartial = false
    ∧ (∀ l ∈ ((door .service [] fun x => { x with state := .opening }).modFb 0 0 fun y => { y with xHat := 80000 }).leaves 0,
        ((door .service [] fun x => { x with state := .opening }).modFb 0 0 fun y => { y with xHat := 80000 }).near 0 l (((door .service [] fun x => { x with state := .opening }).modFb 0 0
          fun y => { y with xHat := 80000 }).openPos 0 l) = true ∧ ((door .service [] fun x => { x with state := .opening }).modFb 0 0 fun y => { y with xHat := 80000 }).leafStill 0 l = true)
    ∧ (door .service [] fun x => { lockedDown x with state := .closing }).inWindow 0 = true ∧ (door .service [] fun x => { lockedDown x with state := .closing }).closedContacts 0 = true
    ∧ (door .service [] fun x => { lockedDown x with state := .closing }).se0 0 = false ∧ (door .service [] fun x => { x with state := .opening, closeForce := true }).closeIntent 0 = true
    ∧ ((door .service [] fun x => { x with state := .closing }).modDet 0 0 fun d => { d with declared := true }).obstacle 0 true true = some 0
    ∧ timeoutOf .unlocking = some 1 ∧ ((door .service [((0x1031, 0x1000), 1000)] fun x => { x with state := .unlocking, timer := some 0 }).advance 100000000).timedOut 0 1 (some 0)
    ∧ (door .service [] fun x => { x with state := .unlocking }).suspended 0 = false ∧ timeoutOf .closing = some 3
    ∧ ((door .service [((0x1033, 0x1000), 1000)] fun x => { x with state := .closing, timer := some 0 }).advance 100000000).timedOut 0 3 (some 0)
    ∧ ((door .service [] fun x => { x with state := .open, closeForce := true, warn := some 0 }).advance 0).elapsed 0 (100000 * (door .service [] id).parN 0x1040 (uPortal 0))
    ∧ ((door .service [] fun x => { x with state := .open, closeForce := true, dwell := some 0 }).advance 0).elapsed 0 (100000 * (door .service [] id).parN 0x1042 (uPortal 0))
    ∧ (((door .service [] fun x => { lockedDown x with state := .locking, lockedSince := some 0 }).advance 100000000).lockWatch 0).lkLocked 0 = true
    ∧ (((door .service [] fun x => { lockedDown x with state := .locking, lockedSince := some 0 }).advance 100000000).lockWatch 0).settled 0 = true := by decide +kernel

theorem test_times_found : ((door .service [] lockedDown).portal 0).found = [] ∧ ((door .service [] lockedDown).portal 0).pendingCause = 0 ∧ (door .service [] lockedDown).isActive 0 = false
    ∧ (door .service [] lockedDown).ehActive 0 = false ∧ ((door .service [] fun x => { lockedDown x with state := .open, closeForce := true, warn := some 0 }).modFb 0 0 fun y => { y with xHat := 80000 }).inWindow 0 = false
    ∧ (door .service [] fun x => { lockedDown x with state := .open, closeForce := true, warn := some 0 }).closeIntent 0 = true ∧ (door .service [] lockedDown).zsConfirmed = true
    ∧ ((door .service [] fun x => { lockedDown x with state := .opening, pause := some 0 }).portal 0).stopPartial = false
    ∧ ((door .service [] fun x => { lockedDown x with state := .opening, pause := some 0 }).portal 0).closeFailed = false
    ∧ (door .service [] fun x => { lockedDown x with state := .opening, pause := some 0 }).closeIntent 0 = false
    ∧ (door .service [] fun x => { lockedDown x with state := .opening, pause := some 0 }).obstacle 0 false false = none
    ∧ (∃ l ∈ (door .service [] fun x => { lockedDown x with state := .opening, pause := some 0 }).leaves 0,
        (door .service [] fun x => { lockedDown x with state := .opening, pause := some 0 }).near 0 l ((door .service [] fun x => { lockedDown x with state := .opening, pause := some 0 }).openPos 0 l) = false)
    ∧ ((door .service [] fun x => { lockedDown x with state := .opening, pause := some 0 }).advance 0).elapsed 0 (100000 * (door .service [] id).parN 0x1043 (uPortal 0))
    ∧ ((door .service [] fun x => { lockedDown x with state := .opening, pause := some 0 }).advance 0).stateTimedOut 0 = false
    ∧ (door .service [] fun x => { lockedDown x with state := .locking, lockedSince := some 0 }).stepFitted 0 = false
    ∧ ((door .service [] fun x => { lockedDown x with state := .locking, lockedSince := some 0 }).advance 100000000).stateTimedOut 0 = false
    ∧ (door .service [] fun x => { lockedDown x with state := .locking }).suspended 0 = false := by
  constructorm* _ ∧ _ <;> decide +kernel

theorem test_jog_times : ((door .maintain [] fun x => { x with state := .jog, lockJog := some (10, 0), jog := some ⟨0, 5, 0, false⟩ }).portal 0).lockJog = some (10, 0)
    ∧ ((door .maintain [] id).advance 25000000).elapsed 0 25000000 ∧ (door .service [((0x1003, 0x1000), 9)] id).parNames 0x1003 (uPortal 0) = some 9
    ∧ ({ Safety.reset with gpi := Safety.reset.gpi.set 9 true } : Safety).gpi.toList.getD 9 false = true := by decide +kernel

theorem test_interpreter : (inMode .test).interprets ∧ ((inMode .test).port 0).rxq = [] ∧ (((inMode .test).modPort 0 fun x => { x with rxq := [⟨1, 5, 7, 0, 0, []⟩] }).port 0).room = true
    ∧ (((inMode .test).modPort 1 fun x => { x with rxq := [⟨1, 5, 7, 0, 0, []⟩] }).port 1).rxq = ⟨1, 5, 7, 0, 0, []⟩ :: [] := by decide +kernel

/-! ## Terms that the checks refuse -/

/-- A frame, a CAP and a snapshot that pass, to be spoilt. -/
def fullSnap : Snapshot :=
  { snap true with
    digest := List.replicate 32 0, txSeq := List.replicate 8 0, genU := List.replicate 2 (List.replicate 32 0)
    portals := List.replicate 8 ⟨0, 0, 0, 0, 0, 0, 0, 0, 0, List.replicate 2 ⟨0, 0, 0, 0, 0, List.replicate 4 0, 0, 0⟩, ⟨0, 0, 0, 0, 0, 0, 0⟩, 0, List.replicate 8 0, 0, 0, 0, 0⟩ }

theorem test_wf_params : (Instr.echo 0 (cmdTo 0) (List.replicate 1024 0)).wf = true ∧ (Instr.echo 0 (cmdTo 0) (List.replicate 1025 0)).wf = false := by decide +kernel

theorem test_wf_frame : (Instr.canFrameReceived 0 0 frame 0).wf = true ∧ (Instr.canFrameReceived 0 0 { frame with id := 2048 } 0).wf = false
    ∧ (Instr.canFrameReceived 0 0 { frame with rtr := true, fdf := true } 0).wf = false ∧ (Instr.canFrameReceived 0 0 { frame with brs := true } 0).wf = false
    ∧ (Instr.canFrameReceived 0 0 { frame with esi := true } 0).wf = false ∧ (Instr.canFrameReceived 0 0 { frame with data := [] } 0).wf = false
    ∧ (Instr.mirquaSegmentReceived 0 { frame with data := [] }).wf = false ∧ (Instr.telegramCopyReceived 0 true true { frame with data := [] } 0).wf = false := by decide +kernel

theorem test_wf_cap : (Instr.capReceived 0 { cap true with digest := List.replicate 32 0 }).wf = true ∧ (Instr.capReceived 0 (cap true)).wf = false := by decide +kernel

theorem test_wf_snapshot : (Instr.snapshotReceived 0 fullSnap).wf = true ∧ (Instr.snapshotReceived 0 { fullSnap with digest := [] }).wf = false
    ∧ (Instr.snapshotReceived 0 { fullSnap with txSeq := [] }).wf = false ∧ (Instr.snapshotReceived 0 { fullSnap with genU := [] }).wf = false
    ∧ (Instr.snapshotReceived 0 { fullSnap with genU := [[], []] }).wf = false ∧ (Instr.snapshotReceived 0 { fullSnap with portals := [] }).wf = false
    ∧ (Instr.snapshotReceived 0 { fullSnap with portals := fullSnap.portals.map fun p => { p with leaves := [] } }).wf = false
    ∧ (Instr.snapshotReceived 0 { fullSnap with portals := fullSnap.portals.map fun p => { p with pulseLeft := [] } }).wf = false := by decide +kernel

theorem test_wf_dies : (Instr.prepareReceived 0 6 true).wf = true ∧ (Instr.prepareReceived 0 0 true).wf = false ∧ (Instr.commitReceived 0 7).wf = false ∧ (Instr.abortReceived 0 0).wf = false
    ∧ (Instr.safeReceived 0 7).wf = false ∧ (Instr.heartbeatLoss 0 7).wf = false ∧ (Instr.eventArrival 0 0).wf = false ∧ (Instr.eventArrival 0 7).wf = true := by decide +kernel

theorem test_wf_places : (Instr.recorderScanDone 0 [1572863] [786431]).wf = true ∧ (Instr.recorderScanDone 0 [1572864] []).wf = false ∧ (Instr.recorderScanDone 0 [] [786432]).wf = false
    ∧ (Instr.eccError 0 7 0 5 true 1048575).wf = true ∧ (Instr.eccError 0 7 0 5 true 1048576).wf = false := by decide +kernel

/-! ## Known values -/

/-- The ASCII digits 1 to 9. -/
def digits : List Byte := [0x31, 0x32, 0x33, 0x34, 0x35, 0x36, 0x37, 0x38, 0x39]

/-- The check values of R407 and R436. -/
theorem test_check_values : Crc.crc32c 0xFFFFFFFF digits = 0xE3069283 ∧ Crc.crc16 digits = 0x29B1 := by decide +kernel

/-- The quadrature order and the Hall order of R227 run both ways. -/
theorem test_quadrature : countOf 1 false false false true false false = some 1 ∧ countOf 1 true false false true true false = some 1 ∧ countOf 1 true true false false true false = some 1
    ∧ countOf 1 false true false false false false = some 1 ∧ countOf 1 true false false false false false = some (-1) := by decide +kernel

end Sys2Proof.Tests
end

section
/-! Parameter writes: the records of a packet, what refuses them, what a write stores. -/

namespace Sys2Proof.Machine

/-! ## The records of a write -/

theorem unLe_le_two {n : Nat} (h : n < 65536) : unLe (le 2 n) = n := by
  simp only [le, unLe, BitVec.toNat_ofNat]
  omega

/-- The bytes of one record are read back as that record, with nothing behind it (R449). -/
theorem takeRec_bytes {r : ParamRec} (hpid : r.pid < 65536) (hsize : r.size = r.value.length) (hbyte : r.size < 256) :
    takeRec (le 2 r.pid ++ le 1 r.size ++ r.value) = some (r, []) := by
  obtain ⟨pid, size, value⟩ := r
  dsimp only at hpid hsize hbyte ⊢
  have hn : (BitVec.ofNat 8 size).toNat = size := by
    rw [BitVec.toNat_ofNat]
    exact Nat.mod_eq_of_lt hbyte
  have hpid' : unLe [BitVec.ofNat 8 pid, BitVec.ofNat 8 (pid / 256)] = pid := unLe_le_two hpid
  simp only [takeRec, le, List.cons_append, List.nil_append, List.getD_cons_succ, List.getD_cons_zero, hn, List.length_cons, ← hsize,
    List.take_succ_cons, List.take_zero, List.drop_succ_cons, List.drop_zero, hpid', Nat.add_comm 3 size, lt_irrefl, if_false]
  rw [hsize, List.take_length, List.drop_length]

/-- One record for a PID of the tables at a unit of its scope. -/
theorem putsOf_single {unit about : Nat} {r : ParamRec} {d : PDesc} (hd : ParamTable.find r.pid = some d) (hu : d.atUnit r.pid unit = true) :
    putsOf unit about [r] = .ok [⟨d, r.pid, unit, r.size, r.num d⟩] := by
  simp [putsOf, hd, hu]

/-- When every PID and address of some records is accepted, all of them are to be written. -/
theorem putsUpTo_of_putsOf {unit about : Nat} {rs : List ParamRec} {qs : List ParamPut} (h : putsOf unit about rs = .ok qs) :
    putsUpTo unit about rs = (qs, none) := by
  induction rs generalizing qs with
  | nil =>
    cases h
    rfl
  | cons r l ih =>
    simp only [putsOf] at h
    split at h
    · cases h
    next d hd =>
      split at h
      · cases h
      next hu =>
        split at h
        · cases h
        next hl =>
          cases h
          simp only [putsUpTo, putsOf_single hd (by simpa using hu), ih hl, List.singleton_append]

/-! ## What refuses a record -/

theorem State.accessRefused_ne_done {s : State} {q : ParamPut} {st : Nat} (h : s.accessRefused q = some st) : st ≠ stDone := by
  rintro rfl
  revert h
  unfold State.accessRefused State.coefRefused
  dsimp only
  repeat' split
  all_goals decide

theorem ParamPut.rangeRefused_ne_done {q : ParamPut} {st : Nat} (h : q.rangeRefused = some st) : st ≠ stDone := by
  rintro rfl
  revert h
  unfold ParamPut.rangeRefused
  dsimp only
  repeat' split
  all_goals decide

theorem State.limitRefused_ne_done {s t : State} {q : ParamPut} {st : Nat} (h : s.limitRefused t q = some st) : st ≠ stDone := by
  rintro rfl
  revert h
  unfold State.limitRefused
  dsimp only
  repeat' split
  all_goals decide

/-- No refusal of a record carries the status DONE (R450). -/
theorem State.putRefused_ne_done {s t : State} {unit : Nat} {q : ParamPut} {why : Nat × List Byte} (h : s.putRefused t unit q = some why) :
    why.1 ≠ stDone := by
  simp only [State.putRefused, Option.orElse_eq_orElse, Option.orElse_eq_or, Option.or_eq_some_iff, Option.map_eq_some_iff] at h
  obtain ⟨st, hlen, rfl⟩ | ⟨-, ⟨st, hacc, rfl⟩ | ⟨-, ⟨st, hrange, rfl⟩ | ⟨-, ⟨st, hlim, rfl⟩ | ⟨-, b, -, rfl⟩⟩⟩⟩ := h
  · split at hlen
    · cases hlen
    · cases hlen
      exact (by decide : stBadLength ≠ stDone)
  · exact State.accessRefused_ne_done hacc
  · exact ParamPut.rangeRefused_ne_done hrange
  · exact State.limitRefused_ne_done hlim
  · exact (by decide : stResource ≠ stDone)

theorem State.recsRefused_of_putsOf {unit about : Nat} {rs : List ParamRec} {qs : List ParamPut} (s t : State) (h : putsOf unit about rs = .ok qs) :
    s.recsRefused t unit about rs = qs.findSome? fun q => s.putRefused t about q := by
  simp [State.recsRefused, putsUpTo_of_putsOf h]

/-- A write to a unit none of whose records is refused takes effect whole (R450). -/
theorem State.writeRecs_done {s : State} {h : Handle} {rs : List ParamRec} {qs : List ParamPut} (hqs : putsOf h.unit.toNat h.unit.toNat rs = .ok qs)
    (hok : ∀ q ∈ qs, s.putRefused (foldState qs (fun q t => t.put q) s) h.unit.toNat q = none) (done : List Byte) :
    s.writeRecs none h rs done = (s.writeAll qs).reply h stDone done := by
  have hnone : s.recsRefused (foldState qs (fun q t => t.put q) s) h.unit.toNat h.unit.toNat rs = none := by
    rw [State.recsRefused_of_putsOf _ _ hqs]
    exact List.findSome?_eq_none_iff.mpr hok
  simp only [State.writeRecs, putsUpTo_of_putsOf hqs, hnone]

/-- A write to a unit one of whose records is refused does nothing but reply the refusal (R450). -/
theorem State.writeRecs_refused {s : State} {h : Handle} {rs : List ParamRec} {qs : List ParamPut} {q : ParamPut}
    (hqs : putsOf h.unit.toNat h.unit.toNat rs = .ok qs) (hq : q ∈ qs)
    (hno : s.putRefused (foldState qs (fun q t => t.put q) s) h.unit.toNat q ≠ none) (done : List Byte) :
    ∃ st ps, st ≠ stDone ∧ s.writeRecs none h rs done = s.reply h st ps := by
  obtain ⟨why, hwhy⟩ : ∃ why, s.recsRefused (foldState qs (fun q t => t.put q) s) h.unit.toNat h.unit.toNat rs = some why := by
    rw [State.recsRefused_of_putsOf _ _ hqs, ← Option.ne_none_iff_exists']
    exact fun hall => hno (List.findSome?_eq_none_iff.mp hall q hq)
  refine ⟨why.1, why.2, ?_, by simp only [State.writeRecs, putsUpTo_of_putsOf hqs, hwhy]⟩
  rw [State.recsRefused_of_putsOf _ _ hqs] at hwhy
  obtain ⟨q', -, hq'⟩ := List.exists_of_findSome?_eq_some hwhy
  exact State.putRefused_ne_done hq'

/-! ## Parameters that only hold their value -/

/-- The PIDs that act without holding a value: write-one bits and clears, and the writes that are commands (R10, R57, R165, R175, R235, R251, R402). -/
def commandPids : List Nat :=
  [0xE012, 0xE013, 0x4080, 0x7080, 0x4020, 0x6015, 0x6016] ++ List.range' 0x3000 64 ++ (List.finRange 4).map fun n => canPid n 0x8B

/-- No row of such a PID has an access that holds a value. -/
theorem find_commandPids : ∀ pid ∈ commandPids,
    ((ParamTable.find pid).all fun d => d.access == .w1c || d.access == .roW1c || d.access == .wo) = true := by
  decide +kernel

theorem not_mem_commandPids_of_holdsOnly {pid : Nat} {d : PDesc} (hd : ParamTable.find pid = some d) (hold : holdsOnly pid d) : pid ∉ commandPids := by
  intro hmem
  have hacc := find_commandPids pid hmem
  simp only [hd, Option.all_some, Bool.or_eq_true, beq_iff_eq] at hacc
  obtain ⟨hhold, -⟩ := hold
  rcases hacc with (h | h) | h <;> simp [h] at hhold

/-- Beside the commands, the values that act at their write are the role channel of the warning, the type of an interface, the identifiers of the port on
CAN3, and coefficients (R245, R247, R432). -/
theorem State.acted_of_not_acting (s : State) {q : ParamPut} (hcmd : q.pid ∉ commandPids) (hpid : q.pid ∉ [0x1002, 0x6000, 0xD001, 0xD002])
    (hcoef : q.desc.access ≠ .rwCoef) : s.acted q = s := by
  have hsat : q.pid / 0x40 ≠ 0xC0 := fun h => hcmd (by
    have : q.pid ∈ List.range' 0x3000 64 := List.mem_range'_1.mpr (by omega)
    simp [commandPids, this])
  have hcan : ¬(q.pid / 0x400 = 0x28 ∧ q.pid % 0x100 = 0x8B) := fun h => hcmd (by
    have : q.pid = canPid ⟨q.pid / 0x100 % 4, by omega⟩ 0x8B := by
      simp only [canPid]
      omega
    exact List.mem_append_right _ (List.mem_map.mpr ⟨_, List.mem_finRange _, this.symm⟩))
  unfold State.acted
  dsimp only
  split
  case h_5 | h_9 | h_10 | h_11 => exact absurd (by simp [*]) hpid
  case h_12 => rw [if_neg hsat, if_neg hcan, if_neg hcoef]
  all_goals exact absurd (by simp [commandPids, *]) hcmd

theorem State.letGo_of_holdsOnly (s : State) {q : ParamPut} (hold : holdsOnly q.pid q.desc) : s.letGo q = s := by
  obtain ⟨-, -, hD3, hD4, hwarn, -⟩ := hold
  simp [State.letGo, hD3, hD4, hwarn]

theorem State.put_of_holdsOnly (s : State) {q : ParamPut} (hold : holdsOnly q.pid q.desc) :
    s.put q = if q.desc.access = .srw then { s with sealer := { s.sealer with writes := store s.sealer.writes (q.pid, q.unit) q.v } }
      else { s with params := store s.params (q.pid, q.unit) q.v } := by
  obtain ⟨hacc, hpf, -⟩ := hold
  rcases hacc with h | h | h | h | h | h <;> simp [State.put, h, hpf]

theorem State.acted_of_holdsOnly (s : State) {q : ParamPut} (hd : ParamTable.find q.pid = some q.desc) (hold : holdsOnly q.pid q.desc) :
    s.acted q = s := by
  refine State.acted_of_not_acting s (not_mem_commandPids_of_holdsOnly hd hold) ?_ ?_
  · obtain ⟨-, -, -, -, hwarn, htype, hidA, hidB⟩ := hold
    simp [hwarn, htype, hidA, hidB]
  · obtain ⟨hacc, -⟩ := hold
    rcases hacc with h | h | h | h | h | h <;> simp [h]

/-- Writing a parameter that only holds its value stores it and, in MAINTAIN, runs the check of R62. -/
theorem State.writeAll_of_holdsOnly (s : State) {q : ParamPut} (hd : ParamTable.find q.pid = some q.desc) (hold : holdsOnly q.pid q.desc) :
    s.writeAll [q] = if (s.put q).mode = .maintain then (s.put q).runChecks else s.put q := by
  simp only [State.writeAll, foldState, List.foldl_cons, List.foldl_nil, State.letGo_of_holdsOnly s hold, State.acted_of_holdsOnly (s.put q) hd hold]

/-! ## The opcodes -/

/-- PARAM_WRITE addressed to a unit, past the checks that every command passes. -/
theorem exec_paramWrite_unit {dt : Nat} {c : CmdHeader} {ps : List Byte} {s : State} (ht : s.Takes 0x11 c ps) (hgroup : s.groupOf c.unit.toNat = none) :
    exec (.paramWrite dt c ps) s = .next ((s.accepted dt c).paramWriteTo none (s.handle 0x11 c) ps) := by
  have hgroup' : (s.accepted dt c).groupOf (s.handle 0x11 c).unit.toNat = none := hgroup
  rw [← hgroup']
  exact congrArg Host.Outcome.next (State.exec_takes dt State.paramWrite ht)

/-- PARAM_WRITE_SET addressed to a unit, past the checks that every command passes. -/
theorem exec_paramWriteSet_unit {dt : Nat} {c : CmdHeader} {ps : List Byte} {s : State} (ht : s.Takes 0x13 c ps) (hgroup : s.groupOf c.unit.toNat = none) :
    exec (.paramWriteSet dt c ps) s = .next ((s.accepted dt c).paramWriteSetTo none (s.handle 0x13 c) ps) := by
  have hgroup' : (s.accepted dt c).groupOf (s.handle 0x13 c).unit.toNat = none := hgroup
  rw [← hgroup']
  exact congrArg Host.Outcome.next (State.exec_takes dt State.paramWriteSet ht)

/-- A record that no check refuses is written, and the reply is DONE. -/
theorem State.paramWriteTo_done {s : State} {h : Handle} {r : ParamRec} {d : PDesc} {q : ParamPut} (hpid : r.pid < 65536)
    (hsize : r.size = r.value.length) (hbyte : r.size < 256) (hd : ParamTable.find r.pid = some d) (hu : d.atUnit r.pid h.unit.toNat = true)
    (hq : q = ⟨d, r.pid, h.unit.toNat, r.size, r.num d⟩) (hok : s.putRefused (s.put q) h.unit.toNat q = none) :
    s.paramWriteTo none h (le 2 r.pid ++ le 1 r.size ++ r.value) = (s.writeAll [q]).reply h stDone [] := by
  have hqs : putsOf h.unit.toNat h.unit.toNat [r] = .ok [q] := hq ▸ putsOf_single hd hu
  rw [State.paramWriteTo, takeRec_bytes hpid hsize hbyte]
  exact State.writeRecs_done hqs (by simpa [foldState] using hok) []

/-- A set with a PID that stands twice does nothing but reply BAD_PARAM. -/
theorem State.paramWriteSetTo_twice {s : State} {h : Handle} {ps : List Byte} {n : Nat} {rs : List ParamRec} {r : ParamRec} (hn : n = (ps.getD 0 0).toNat)
    (hcount : 1 ≤ n ∧ n ≤ 16) (hrs : takeRecs n (ps.drop 1) = some rs) (htwice : twice rs = some r) :
    s.paramWriteSetTo none h ps = s.reply h stBadParam (failParams h.unit.toNat r.pid h.unit.toNat) := by
  have hcount' : ¬(n < 1 ∨ 16 < n) := by omega
  simp only [State.paramWriteSetTo, ← hn, hcount', hrs, htwice, reduceCtorEq, if_false]

/-- A set of distinct PIDs is a write of its records; its reply names their count. -/
theorem State.paramWriteSetTo_distinct {s : State} {h : Handle} {ps : List Byte} {n : Nat} {rs : List ParamRec} (hn : n = (ps.getD 0 0).toNat)
    (hcount : 1 ≤ n ∧ n ≤ 16) (hrs : takeRecs n (ps.drop 1) = some rs) (htwice : twice rs = none) :
    s.paramWriteSetTo none h ps = s.writeRecs none h rs (le 1 n) := by
  have hcount' : ¬(n < 1 ∨ 16 < n) := by omega
  simp only [State.paramWriteSetTo, ← hn, hcount', hrs, htwice, reduceCtorEq, if_false]

/-- Settles O13: a command that the checks let pass writes its records when none is refused, and a value that only holds is all that such a write stores. -/
theorem paramWrites : Obligations.ParamWrites := by
  unfold Obligations.ParamWrites
  refine ⟨?_, ?_⟩
  · intro dt c r d s q ht hpid hsize hbyte hgroup hd hu hq hok
    have hdone : exec (.paramWrite dt c (le 2 r.pid ++ le 1 r.size ++ r.value)) s
        = .next (((s.accepted dt c).writeAll [q]).reply (s.handle 0x11 c) stDone []) := by
      rw [exec_paramWrite_unit ht hgroup]
      exact congrArg Host.Outcome.next (State.paramWriteTo_done (h := s.handle 0x11 c) hpid hsize hbyte hd hu hq hok)
    refine ⟨hdone, fun t hold htt => ?_⟩
    subst hq
    have hput := State.put_of_holdsOnly (s.accepted dt c) (q := ⟨d, r.pid, c.unit.toNat, r.size, r.num d⟩) hold
    have htput : (s.accepted dt c).put ⟨d, r.pid, c.unit.toNat, r.size, r.num d⟩ = t := hput.trans htt.symm
    have hmode : t.mode = s.mode := by
      rw [htt]
      split <;> rfl
    rw [hdone, State.writeAll_of_holdsOnly _ hd hold, htput, hmode]
  · intro dt c ps s n rs ht hn hmin hmax hrs hgroup
    rw [exec_paramWriteSet_unit ht hgroup]
    refine ⟨fun htwice => ?_, fun r htwice => ?_⟩
    · rw [State.paramWriteSetTo_distinct hn ⟨hmin, hmax⟩ hrs htwice]
      refine ⟨fun qs hqs hok => ?_, fun qs q hqs hq hno => ?_⟩
      · exact congrArg Host.Outcome.next (State.writeRecs_done (h := s.handle 0x13 c) hqs hok _)
      · obtain ⟨st, ps', hst, hreply⟩ := State.writeRecs_refused (h := s.handle 0x13 c) hqs hq hno (le 1 n)
        exact ⟨st, ps', hst, congrArg Host.Outcome.next hreply⟩
    · exact congrArg Host.Outcome.next (State.paramWriteSetTo_twice (h := s.handle 0x13 c) hn ⟨hmin, hmax⟩ hrs htwice)

end Sys2Proof.Machine
end

section
/-! The device after reset. -/

namespace Sys2Proof.Machine

/-! ## The state after reset -/

@[simp] theorem State.reset_portal (p : PortalId) : State.reset.portal p = Portal.reset := Vector.getElem_replicate _
@[simp] theorem State.reset_port (n : PortId) : State.reset.port n = Port.reset := Vector.getElem_replicate _
@[simp] theorem State.reset_can (n : CanId) : State.reset.can n = Can.reset := Vector.getElem_replicate _
@[simp] theorem State.reset_leaf (p : PortalId) (l : LeafId) : State.reset.leaf p l = Leaf.reset := by
  rw [State.leaf, State.reset_portal]
  exact Vector.getElem_replicate _
@[simp] theorem State.reset_chan (p : PortalId) (c : ChanId) : State.reset.chan p c = Channel.reset := by
  rw [State.chan, State.reset_portal]
  exact Vector.getElem_replicate _
@[simp] theorem State.reset_fb (p : PortalId) (f : FbId) : State.reset.fb p f = Feedback.reset := by
  rw [State.fb, State.reset_portal]
  exact Vector.getElem_replicate _
@[simp] theorem State.reset_stepOf (p : PortalId) : State.reset.stepOf p = Step.reset := congrArg Portal.step (State.reset_portal p)

theorem State.reset_bounded : State.reset.Bounded := by
  refine ⟨by decide, Nat.zero_le _, Nat.zero_le _, fun n => ?_, le_refl _⟩
  rw [State.reset_port]
  exact Nat.zero_le _

/-- In INIT every portal is reported ABSENT (R67). -/
theorem State.shownState_of_init {s : State} (h : s.mode = .init) (p : PortalId) : s.shownState p = .absent := by
  simp [State.shownState, h]

/-- Settles O5, part by part of the state after reset. -/
theorem resetState : Obligations.ResetState := by
  unfold Obligations.ResetState
  refine ⟨State.reset_bounded, rfl, rfl, rfl, rfl, rfl, rfl, rfl, rfl, rfl, rfl, rfl, fun n => ?_, fun n => ?_, fun p => ?_⟩
  · rw [State.reset_port]
    exact ⟨rfl, rfl⟩
  · rw [State.reset_can]
    rfl
  · refine ⟨State.shownState_of_init rfl p, fun l => ?_, fun c => ?_, ?_, ?_, fun f => ?_⟩
    · rw [State.reset_leaf]
      rfl
    · rw [State.reset_chan]
      rfl
    · rw [State.reset_stepOf]
      rfl
    · rw [State.reset_stepOf]
      rfl
    · rw [State.reset_fb]
      rfl

end Sys2Proof.Machine
end

section
/-! What the drive states of leaves and the stop of a step change, and what they leave alone. -/

namespace Sys2Proof.Machine

/-! ## What drives and stops leave alone -/

/-- The parts of the device that no drive state and no stop touches: parameters, seal, recorder, power. -/
def State.background (s : State) : List ((Nat × Nat) × Int) × Seal × Recorder × Power := (s.params, s.sealer, s.recorder, s.power)

/-- Whether a leaf's drive is used hangs on the parameters and the sealed values alone (R95, R103). -/
theorem State.driven_congr {s t : State} (hparams : t.params = s.params) (hsealer : t.sealer = s.sealer) (p : PortalId) (l : LeafId) :
    t.driven p l = s.driven p l := by
  have hview : t.view = s.view := by rw [State.view, State.view, hparams, hsealer]
  simp only [State.driven, State.leafPresent, State.pneumatic, State.leafMode, State.parN, State.par, hview]
  rfl

theorem State.driven_of_background {s t : State} (h : t.background = s.background) (p : PortalId) (l : LeafId) : t.driven p l = s.driven p l :=
  State.driven_congr (congrArg (·.1) h) (congrArg (·.2.1) h) p l

@[simp] theorem State.modPortal_background (s : State) (p : PortalId) (f : Portal → Portal) : (s.modPortal p f).background = s.background := rfl
@[simp] theorem State.modLeaf_background (s : State) (p : PortalId) (l : LeafId) (f : Leaf → Leaf) : (s.modLeaf p l f).background = s.background := rfl
@[simp] theorem State.modDet_background (s : State) (p : PortalId) (l : LeafId) (f : Detector → Detector) : (s.modDet p l f).background = s.background := rfl
@[simp] theorem State.modStep_background (s : State) (p : PortalId) (f : Step → Step) : (s.modStep p f).background = s.background := rfl
@[simp] theorem State.modSlot_background (s : State) (d : PdId) (n : SlotId) (f : Slot → Slot) : (s.modSlot d n f).background = s.background := rfl
@[simp] theorem State.raisePortal_background (s : State) (p : PortalId) (code unit param : Nat) :
    (s.raisePortal p code unit param).background = s.background := by
  simp [State.background]
@[simp] theorem State.reply_background (s : State) (h : Handle) (status : Nat) (ps : List Byte) : (s.reply h status ps).background = s.background := by
  simp [State.background]

/-! ### Replies of a slot that stops -/

@[simp] theorem State.endClosing_background (s : State) (d : PdId) (n : SlotId) : (s.endClosing d n).background = s.background :=
  foldState_field (g := State.background) fun _ _ => State.reply_background _ _ _ _
@[simp] theorem State.endClosing_portals (s : State) (d : PdId) (n : SlotId) : (s.endClosing d n).portals = s.portals :=
  foldState_field (g := State.portals) fun _ _ => State.reply_portals _ _ _ _

@[simp] theorem State.syncSlots_background (s : State) (p : PortalId) (l : LeafId) : (s.syncSlots p l).background = s.background := by
  refine foldState_field (g := State.background) fun j t => ?_
  dsimp only
  split
  · rfl
  · split
    · exact State.endClosing_background _ _ _
    · rfl

@[simp] theorem State.syncSlots_portals (s : State) (p : PortalId) (l : LeafId) : (s.syncSlots p l).portals = s.portals := by
  refine foldState_field (g := State.portals) fun j t => ?_
  dsimp only
  split
  · rfl
  · split
    · exact State.endClosing_portals _ _ _
    · rfl

theorem State.leaf_of_portals {s t : State} (h : t.portals = s.portals) (p : PortalId) (l : LeafId) : t.leaf p l = s.leaf p l := by
  rw [State.leaf, State.leaf, State.portal, State.portal, h]

/-- A change of a portal that leaves its leaves as they are. -/
theorem State.leaf_modPortal (s : State) (p q : PortalId) (m : LeafId) {f : Portal → Portal} (h : (f (s.portal p)).leaves = (s.portal p).leaves) :
    (s.modPortal p f).leaf q m = s.leaf q m := by
  have hleaves : ((s.modPortal p f).portal q).leaves = (s.portal q).leaves := by
    rw [State.portal_modPortal]
    split
    next hpq => rw [h, hpq]
    · rfl
  simp only [State.leaf, hleaves]

@[simp] theorem State.leaf_modStep (s : State) (p q : PortalId) (m : LeafId) (f : Step → Step) : (s.modStep p f).leaf q m = s.leaf q m :=
  State.leaf_modPortal s p q m rfl

@[simp] theorem State.leaf_raisePortal (s : State) (p q : PortalId) (m : LeafId) (code unit param : Nat) :
    (s.raisePortal p code unit param).leaf q m = s.leaf q m :=
  State.leaf_of_portals (State.raisePortal_portals ..) q m

@[simp] theorem State.leaf_syncSlots (s : State) (p q : PortalId) (l m : LeafId) : (s.syncSlots p l).leaf q m = s.leaf q m :=
  State.leaf_of_portals (State.syncSlots_portals s p l) q m

@[simp] theorem State.modWatch_background (s : State) (p : PortalId) : (s.modWatch p).background = s.background := rfl

@[simp] theorem State.leaf_modWatch (s : State) (p q : PortalId) (m : LeafId) : (s.modWatch p).leaf q m = s.leaf q m := by
  refine State.leaf_modPortal s p q m ?_
  repeat' split
  all_goals rfl

@[simp] theorem State.endEfBrake_background (s : State) (p : PortalId) (l : LeafId) : (s.endEfBrake p l).background = s.background := by
  unfold State.endEfBrake
  dsimp only
  split <;> simp

theorem State.drive_endEfBrake (s : State) (p q : PortalId) (l m : LeafId) : ((s.endEfBrake p l).leaf q m).drive = (s.leaf q m).drive := by
  unfold State.endEfBrake
  dsimp only
  split
  · simp only [State.leaf_raisePortal, State.modDet, State.leaf_modLeaf]
    split
    next h =>
      obtain ⟨rfl, rfl⟩ := h
      simp
    · rfl
  · rfl

/-! ### Drive states -/

@[simp] theorem State.setDrive_background (s : State) (p : PortalId) (l : LeafId) (d : Drive) : (s.setDrive p l d).background = s.background := by
  simp only [State.setDrive, State.syncSlots_background, State.modWatch_background, State.modLeaf_background]
  split
  · rfl
  · split
    · rfl
    · exact State.endEfBrake_background s p l

/-- A leaf takes the drive state that it is put into, and no other leaf changes its own. -/
theorem State.drive_setDrive (s : State) (p q : PortalId) (l m : LeafId) (d : Drive) :
    ((s.setDrive p l d).leaf q m).drive = if p = q ∧ l = m then d else (s.leaf q m).drive := by
  simp only [State.setDrive, State.leaf_syncSlots, State.leaf_modWatch, State.leaf_modLeaf]
  split
  · rfl
  · split
    · rfl
    · split
      · rfl
      · exact State.drive_endEfBrake s p q l m

@[simp] theorem State.leafBrake_background (s : State) (p : PortalId) (l : LeafId) : (s.leafBrake p l).background = s.background := by
  unfold State.leafBrake
  repeat' split
  all_goals simp

/-- The short brake of a leaf that is not in OFF leaves every drive state as it is but perhaps the leaf's own, which becomes BRAKE. -/
theorem State.drive_leafBrake (s : State) {p : PortalId} {l : LeafId} (hoff : (s.leaf p l).drive ≠ .off) (q : PortalId) (m : LeafId) :
    ((s.leafBrake p l).leaf q m).drive = (s.leaf q m).drive ∨ ((s.leafBrake p l).leaf q m).drive = .brake ∧ p = q ∧ l = m := by
  have hset : ((s.setDrive p l .brake).leaf q m).drive = (s.leaf q m).drive ∨ ((s.setDrive p l .brake).leaf q m).drive = .brake ∧ p = q ∧ l = m := by
    rw [State.drive_setDrive]
    split
    next h => exact .inr ⟨rfl, h⟩
    · exact .inl rfl
  unfold State.leafBrake
  split
  · exact .inl rfl
  · split
    · exact .inl rfl
    · exact .inl rfl
    next h => exact absurd h hoff
    · split
      · exact .inl rfl
      · exact hset
    · exact hset

/-- A driven leaf that modulates or brakes is in BRAKE after a short brake (R106). -/
theorem State.drive_leafBrake_of_driven (s : State) {p : PortalId} {l : LeafId} (hdriven : s.driven p l = true)
    (h : (s.leaf p l).drive = .brake ∨ (s.leaf p l).drive.modulating = true) : ((s.leafBrake p l).leaf p l).drive = .brake := by
  unfold State.leafBrake
  rw [if_neg (by simp [hdriven])]
  split <;> simp_all [State.drive_setDrive, Drive.modulating]

/-! ### The step's stop -/

@[simp] theorem State.stepUncertain_background (s : State) (p : PortalId) (reason code : Nat) : (s.stepUncertain p reason code).background = s.background := by
  simp [State.stepUncertain]

@[simp] theorem State.leaf_stepUncertain (s : State) (p q : PortalId) (m : LeafId) (reason code : Nat) :
    (s.stepUncertain p reason code).leaf q m = s.leaf q m := by
  simp [State.stepUncertain]

@[simp] theorem State.stepStop_background (s : State) (p : PortalId) (d : StepDrive) : (s.stepStop p d).background = s.background := by
  unfold State.stepStop State.stepCatchUpTo
  dsimp only
  repeat' split
  all_goals simp

@[simp] theorem State.leaf_stepStop (s : State) (p q : PortalId) (m : LeafId) (d : StepDrive) : (s.stepStop p d).leaf q m = s.leaf q m := by
  unfold State.stepStop State.stepCatchUpTo
  dsimp only
  repeat' split
  all_goals simp

end Sys2Proof.Machine
end

section
/-! Loss and return of the logic supply, PFAIL, die temperatures. -/

namespace Sys2Proof.Machine

/-! ## A power cycle (R485, R486) -/

@[simp] theorem State.advance_portal (s : State) (dt : Nat) (p : PortalId) : (s.advance dt).portal p = s.portal p := rfl
@[simp] theorem State.advance_leaf (s : State) (dt : Nat) (p : PortalId) (l : LeafId) : (s.advance dt).leaf p l = s.leaf p l := rfl

/-- A power cycle leaves of a portal the friction maps of its leaves, whatever state it was in. -/
theorem State.powerCycle_portal (s : State) (p : PortalId) :
    s.powerCycle.portal p = { Portal.reset with leaves := (s.portal p).leaves.map fun l =>
      { Leaf.reset with det := { Detector.reset with copies := l.det.copies, nextCopy := l.det.nextCopy } } } :=
  Vector.getElem_map _ _

theorem State.powerCycle_leaf (s : State) (p : PortalId) (l : LeafId) :
    s.powerCycle.leaf p l
      = { Leaf.reset with det := { Detector.reset with copies := (s.leaf p l).det.copies, nextCopy := (s.leaf p l).det.nextCopy } } := by
  rw [State.leaf, State.powerCycle_portal]
  exact Vector.getElem_map _ _

/-- The logic supply is down. -/
def State.supplyDown (s : State) : State := { s with power := { s.power with off := true } }

@[simp] theorem State.supplyDown_portal (s : State) (p : PortalId) : s.supplyDown.portal p = s.portal p := rfl
@[simp] theorem State.supplyDown_leaf (s : State) (p : PortalId) (l : LeafId) : s.supplyDown.leaf p l = s.leaf p l := rfl

theorem exec_logicSupplyLost (dt : Nat) (s : State) : exec (.logicSupplyLost dt) s = .next s.powerCycle.supplyDown := rfl

/-- The press that the levels of the safety-reset pair stand for at the release of POR_N: none while the pair shows 0, else one that is voided (R314). -/
def voidedPress (a b : Bool) : Option Press :=
  if pairState a b = 0 then none
  else
    let t : Option Ts := if pairState a b = 1 then some 0 else none
    some ⟨0, t, none, t, none, true, false⟩

theorem voidedPress_isSome_iff (a b : Bool) : (voidedPress a b).isSome ↔ pairState a b ≠ 0 := by
  unfold voidedPress
  split <;> simp [*]

theorem voidedPress_voided {a b : Bool} {x : Press} (h : voidedPress a b = some x) : x.voided = true := by
  unfold voidedPress at h
  split at h
  · cases h
  · cases h
    rfl

/-- The levels of the safety-reset pair are taken, and a press that they show as voided. -/
def State.pairTaken (s : State) (a b : Bool) : State := { s with safety := { s.safety with srA := a, srB := b, press := voidedPress a b } }

@[simp] theorem State.pairTaken_leaf (s : State) (a b : Bool) (p : PortalId) (l : LeafId) : (s.pairTaken a b).leaf p l = s.leaf p l := rfl

theorem exec_porNRelease_off (dt : Nat) (a b : Bool) {s : State} (hoff : s.power.off = true) :
    exec (.porNRelease dt a b) s = .next (s.powerCycle.pairTaken a b) := by
  have hdown : ¬((!s.power.off) = true) := by simp [hoff]
  exact congrArg Host.Outcome.next (if_neg hdown)

theorem exec_porNRelease_on (dt : Nat) (a b : Bool) {s : State} (hon : s.power.off = false) : exec (.porNRelease dt a b) s = .next (s.advance dt) := by
  have hup : (!s.power.off) = true := by simp [hon]
  exact congrArg Host.Outcome.next (if_pos hup)

/-! ## PFAIL (R497) -/

/-- From `s` to `t` leaves have gone to BRAKE at most, none of them from OFF, and the background is as it was. -/
structure BrakesOnly (s t : State) : Prop where
  background : t.background = s.background
  drive      : ∀ p l, (t.leaf p l).drive = (s.leaf p l).drive ∨ (t.leaf p l).drive = .brake ∧ (s.leaf p l).drive ≠ .off

theorem BrakesOnly.recorder {s t : State} (h : BrakesOnly s t) : t.recorder = s.recorder := congrArg (·.2.2.1) h.background

theorem BrakesOnly.power {s t : State} (h : BrakesOnly s t) : t.power = s.power := congrArg (·.2.2.2) h.background

theorem BrakesOnly.refl (s : State) : BrakesOnly s s := ⟨rfl, fun _ _ => .inl rfl⟩

theorem BrakesOnly.trans {s t u : State} (a : BrakesOnly s t) (b : BrakesOnly t u) : BrakesOnly s u := by
  refine ⟨b.background.trans a.background, fun p l => ?_⟩
  obtain hu | ⟨hu, hoff⟩ := b.drive p l
  · rw [hu]
    exact a.drive p l
  · refine .inr ⟨hu, fun hs => ?_⟩
    obtain ht | ⟨-, hoff'⟩ := a.drive p l
    · exact hoff (ht.trans hs)
    · exact hoff' hs

theorem BrakesOnly.off {s t : State} (h : BrakesOnly s t) {p : PortalId} {l : LeafId} (hs : (s.leaf p l).drive = .off) : (t.leaf p l).drive = .off := by
  obtain ht | ⟨-, hoff⟩ := h.drive p l
  · exact ht.trans hs
  · exact absurd hs hoff

theorem BrakesOnly.brake {s t : State} (h : BrakesOnly s t) {p : PortalId} {l : LeafId} (hs : (s.leaf p l).drive = .brake) : (t.leaf p l).drive = .brake := by
  obtain ht | ⟨ht, -⟩ := h.drive p l
  · exact ht.trans hs
  · exact ht

/-- A leaf that modulates goes on doing so, or brakes. -/
theorem BrakesOnly.modulating {s t : State} (h : BrakesOnly s t) {p : PortalId} {l : LeafId}
    (hs : (s.leaf p l).drive = .brake ∨ (s.leaf p l).drive.modulating = true) : (t.leaf p l).drive = .brake ∨ (t.leaf p l).drive.modulating = true := by
  obtain ht | ⟨ht, -⟩ := h.drive p l
  · rwa [ht]
  · exact .inl ht

theorem foldState_brakesOnly {α : Type} {f : α → State → State} (h : ∀ a t, BrakesOnly t (f a t)) (l : List α) (s : State) : BrakesOnly s (foldState l f s) := by
  induction l generalizing s with
  | nil => exact .refl s
  | cons a l ih => exact (h a s).trans (ih _)

/-- Each element of a list is applied at some point of the fold. -/
theorem foldState_brakesOnly_mem {α : Type} {f : α → State → State} (h : ∀ a t, BrakesOnly t (f a t)) {l : List α} {a : α} (ha : a ∈ l) (s : State) :
    ∃ u, BrakesOnly s u ∧ BrakesOnly (f a u) (foldState l f s) := by
  obtain ⟨l₁, l₂, rfl⟩ := List.append_of_mem ha
  refine ⟨foldState l₁ f s, foldState_brakesOnly h l₁ s, ?_⟩
  simp only [foldState, List.foldl_append, List.foldl_cons]
  exact foldState_brakesOnly h l₂ _

/-- What PFAIL does to a leaf: one that is not in OFF brakes. -/
def State.pfailLeaf (p : PortalId) (l : LeafId) (t : State) : State := if (t.leaf p l).drive = .off then t else t.leafBrake p l

/-- What PFAIL does to a step: one that is not in OFF stops. -/
def State.pfailStep (p : PortalId) (t : State) : State := if (t.stepOf p).drive = .off then t else t.stepStop p (t.standstill p)

/-- What PFAIL does to a portal: its leaves brake, its step stops. -/
def State.pfailPortal (p : PortalId) (t : State) : State := (foldState [0, 1] (State.pfailLeaf p) t).pfailStep p

/-- What PFAIL takes before the drives stop: its own acceptance, and T_PF for the flush. -/
def State.pfailTaken (s : State) : State :=
  { s with power := { s.power with pfail := true }, recorder := { s.recorder with tPf := some s.ts, flushing := true } }

theorem State.driven_pfailTaken (s : State) (dt : Nat) (p : PortalId) (l : LeafId) : (s.advance dt).pfailTaken.driven p l = s.driven p l :=
  State.driven_congr rfl rfl p l

theorem State.leaf_pfailTaken (s : State) (dt : Nat) (p : PortalId) (l : LeafId) : (s.advance dt).pfailTaken.leaf p l = s.leaf p l := rfl

/-- The number of leaves in BRAKE, which event 48 reports. -/
def State.braking (s : State) : Nat := ((allPortals.flatMap fun p => (s.portal p).leaves.toList).filter fun l => decide (l.drive = .brake)).length

/-- The drives as PFAIL leaves them. -/
def State.pfailStopped (s : State) : State := foldState allPortals State.pfailPortal s

theorem exec_pfail {dt : Nat} {s : State} (hoff : s.power.off = false) (hpfail : s.power.pfail = false) :
    exec (.pfail dt) s = .next ((s.advance dt).pfailTaken.pfailStopped.raise 48 0x0030 0 (s.advance dt).pfailTaken.pfailStopped.braking) := by
  have hgo : ¬((s.advance dt).power.off = true ∨ (s.advance dt).power.pfail = true) := by simp [hoff, hpfail]
  exact congrArg Host.Outcome.next (if_neg hgo)

theorem State.pfailLeaf_brakesOnly (p : PortalId) (l : LeafId) (s : State) : BrakesOnly s (s.pfailLeaf p l) := by
  unfold State.pfailLeaf
  split
  · exact .refl s
  next hoff =>
    refine ⟨State.leafBrake_background s p l, fun q m => ?_⟩
    obtain hsame | ⟨hbrake, rfl, rfl⟩ := State.drive_leafBrake s hoff q m
    · exact .inl hsame
    · exact .inr ⟨hbrake, hoff⟩

/-- A driven leaf that modulates or brakes is in BRAKE once PFAIL has reached it. -/
theorem State.drive_pfailLeaf {s : State} {p : PortalId} {l : LeafId} (hdriven : s.driven p l = true)
    (h : (s.leaf p l).drive = .brake ∨ (s.leaf p l).drive.modulating = true) : ((s.pfailLeaf p l).leaf p l).drive = .brake := by
  unfold State.pfailLeaf
  split
  next hoff => simp [hoff, Drive.modulating] at h
  · exact State.drive_leafBrake_of_driven s hdriven h

/-- The stop of a step concerns no leaf. -/
theorem State.pfailStep_brakesOnly (p : PortalId) (s : State) : BrakesOnly s (s.pfailStep p) := by
  unfold State.pfailStep
  split
  · exact .refl s
  · refine ⟨State.stepStop_background s p _, fun q m => .inl ?_⟩
    rw [State.leaf_stepStop]

theorem State.pfailPortal_brakesOnly (p : PortalId) (s : State) : BrakesOnly s (s.pfailPortal p) :=
  (foldState_brakesOnly (State.pfailLeaf_brakesOnly p) _ s).trans (State.pfailStep_brakesOnly p _)

/-- A driven leaf that modulates or brakes is in BRAKE once PFAIL has reached its portal. -/
theorem State.drive_pfailPortal {s : State} {p : PortalId} {l : LeafId} (hdriven : s.driven p l = true)
    (h : (s.leaf p l).drive = .brake ∨ (s.leaf p l).drive.modulating = true) : ((s.pfailPortal p).leaf p l).drive = .brake := by
  obtain ⟨u, hsu, hu⟩ := foldState_brakesOnly_mem (State.pfailLeaf_brakesOnly p) (List.mem_finRange l) s
  have hleaf : ((u.pfailLeaf p l).leaf p l).drive = .brake :=
    State.drive_pfailLeaf ((State.driven_of_background hsu.background p l).trans hdriven) (hsu.modulating h)
  exact (hu.trans (State.pfailStep_brakesOnly p _)).brake hleaf

theorem State.pfailStopped_brakesOnly (s : State) : BrakesOnly s s.pfailStopped := foldState_brakesOnly State.pfailPortal_brakesOnly _ s

@[simp] theorem State.pfailStopped_recorder (s : State) : s.pfailStopped.recorder = s.recorder := s.pfailStopped_brakesOnly.recorder
@[simp] theorem State.pfailStopped_power (s : State) : s.pfailStopped.power = s.power := s.pfailStopped_brakesOnly.power

/-- PFAIL brakes every driven leaf that modulates. -/
theorem State.drive_pfailStopped {s : State} {p : PortalId} {l : LeafId} (hdriven : s.driven p l = true)
    (h : (s.leaf p l).drive = .brake ∨ (s.leaf p l).drive.modulating = true) : (s.pfailStopped.leaf p l).drive = .brake := by
  obtain ⟨u, hsu, hu⟩ := foldState_brakesOnly_mem State.pfailPortal_brakesOnly (List.mem_finRange p) s
  exact hu.brake (State.drive_pfailPortal ((State.driven_of_background hsu.background p l).trans hdriven) (hsu.modulating h))

/-! ## The temperature of a die (R518) -/

theorem clampI_of_mem {lo hi x : Int} (hlo : lo ≤ x) (hhi : x ≤ hi) : clampI lo hi x = x := by
  rw [clampI, if_neg (by omega), if_neg (by omega)]

/-- What a measured temperature makes of a die: the value, its peak, and whether the die is hot. -/
def Die.measured (x : Die) (temp : Int) (hot : Bool) : Die := { x with temp := temp, peak := some ((x.peak.map (max · temp)).getD temp), hot := hot }

@[simp] theorem State.advance_die_hot (s : State) (dt : Nat) (d : DieId) : ((s.advance dt).die d).hot = (s.die d).hot := by
  have htick : (s.advance dt).die d = (s.die d).tick dt := Vector.getElem_map _ _
  rw [htick]
  rfl

/-- DIE_TEMPERATURE within its 16 bits: the die is hot from 145.0 °C on until it falls below 140.0 °C, and each change is told. -/
theorem exec_dieTemperature {dt : Nat} {d : DieId} {temp : Int} {s : State} {hot : Bool} (hlo : -32768 ≤ temp) (hhi : temp ≤ 32767)
    (hhot : hot = if (s.die d).hot then decide (1400 ≤ temp) else decide (1450 ≤ temp)) :
    exec (.dieTemperature dt d temp) s = .next (if hot = (s.die d).hot then (s.advance dt).modDie d (·.measured temp hot)
      else ((s.advance dt).modDie d (·.measured temp hot)).raise 49 0x0431 (uDie d.val) (sat16 temp + 65536 * bit hot)) := by
  show execDieTemperature dt d temp s = _
  simp only [execDieTemperature, clampI_of_mem hlo hhi, State.advance_die_hot, ← hhot]
  rfl

/-- A die that stays as hot or as cool as it was only keeps its temperature and its peak. -/
theorem State.modDie_measured_same (s : State) (d : DieId) (temp : Int) :
    s.modDie d (·.measured temp (s.die d).hot) = s.modDie d fun x => { x with temp := temp, peak := some ((x.peak.map (max · temp)).getD temp) } := rfl

/-- Settles O31: what a power cycle leaves of the state, what PFAIL does to each leaf along its folds, and the two limits of a die's temperature. -/
theorem powerCycles : Obligations.PowerCycles := by
  unfold Obligations.PowerCycles
  refine ⟨⟨fun dt s => ?_, fun dt a b s => ⟨fun hoff => ?_, exec_porNRelease_on dt a b⟩⟩, fun dt s hoff hpfail => ?_, fun dt d temp s _ hlo hhi => ?_⟩
  · refine ⟨_, exec_logicSupplyLost dt s, rfl, rfl, rfl, rfl, rfl, rfl, fun p => ⟨fun l => ?_, ?_⟩⟩
    · rw [State.supplyDown_leaf, State.powerCycle_leaf]
      exact ⟨rfl, rfl, rfl, rfl⟩
    · rw [State.supplyDown_portal, State.powerCycle_portal, State.reset_portal]
      exact ⟨rfl, rfl, rfl, rfl⟩
  · refine ⟨_, exec_porNRelease_off dt a b hoff, rfl, rfl, rfl, rfl, rfl, rfl, rfl, rfl, rfl, rfl, fun p l => ?_, rfl,
      voidedPress_isSome_iff a b, fun x => voidedPress_voided⟩
    rw [State.pairTaken_leaf, State.powerCycle_leaf]
  · have hall := (s.advance dt).pfailTaken.pfailStopped_brakesOnly
    refine ⟨_, _, exec_pfail hoff hpfail, ?_, ?_, ?_, fun p l => ?_⟩
    · rw [State.pfailStopped_power]
      rfl
    · rw [State.pfailStopped_recorder]
      rfl
    · rw [State.pfailStopped_recorder]
      rfl
    · rw [← State.driven_pfailTaken s dt, ← State.leaf_pfailTaken s dt]
      exact ⟨hall.off, State.drive_pfailStopped⟩
  · refine ⟨fun hkeep => ?_, fun hcool hreach => ?_, fun hhot hbelow => ?_⟩
    · have hsame : (s.die d).hot = if (s.die d).hot then decide (1400 ≤ temp) else decide (1450 ≤ temp) := by
        obtain ⟨hcool, hless⟩ | ⟨hhot, hleast⟩ := hkeep
        · simp [hcool, hless]
        · simp [hhot, hleast]
      rw [exec_dieTemperature hlo hhi hsame, if_pos rfl, ← State.advance_die_hot s dt d, State.modDie_measured_same]
    · rw [exec_dieTemperature (hot := true) hlo hhi (by simp [hcool, hreach]), if_neg (by simp [hcool])]
      rfl
    · rw [exec_dieTemperature (hot := false) hlo hhi (by simp [hhot, hbelow]), if_neg (by simp [hhot])]
      rfl

end Sys2Proof.Machine
end

section
/-! The portal commands of R83 to one portal. A unit address determines its portal, and one equation for each shared operation (the acceptance of R28,
the checks of R22, the addresses of a jog of R93) carries every clause. -/

namespace Sys2Proof.Machine

/-! ### What the time and the tag of a command leave of the state -/

@[simp] theorem State.accepted_portal (s : State) (dt : Nat) (c : CmdHeader) (p : PortalId) : (s.accepted dt c).portal p = s.portal p := rfl
@[simp] theorem State.accepted_shownState (s : State) (dt : Nat) (c : CmdHeader) (p : PortalId) : (s.accepted dt c).shownState p = s.shownState p := rfl
@[simp] theorem State.accepted_shownCause (s : State) (dt : Nat) (c : CmdHeader) (p : PortalId) : (s.accepted dt c).shownCause p = s.shownCause p := rfl
@[simp] theorem State.handle_unit (s : State) (op : Nat) (c : CmdHeader) : (s.handle op c).unit = c.unit := rfl

/-! ### Modes, addresses and the speed of a jog -/

theorem Mode.runs_iff {m : Mode} : m.runs = true ↔ m = .service ∨ m = .degraded ∨ m = .maintain := by
  cases m <;> decide

theorem Mode.runs_eq_false {m : Mode} (h : m = .standby ∨ m = .configure ∨ m = .safe) : m.runs = false := by
  obtain rfl | rfl | rfl := h <;> rfl

theorem portalOfUnit_uPortal (p : PortalId) : portalOfUnit (uPortal p) = some p := by
  revert p
  decide

theorem unLe_lt_pow_length (l : List Byte) : unLe l < 256 ^ l.length := by
  induction l with
  | nil => decide
  | cons b l ih =>
    have hb := b.isLt
    rw [unLe, List.length_cons, pow_succ]
    omega

theorem unLe_take_two_lt (l : List Byte) : unLe (l.take 2) < 65536 :=
  (unLe_lt_pow_length _).trans_le (Nat.pow_le_pow_right (by decide) (List.length_take_le 2 l))

theorem signedOf_two {x : Nat} (h : x < 65536) : signedOf 2 x = (BitVec.ofNat 16 x).toInt := by
  rw [BitVec.toInt_eq_toNat_cond, BitVec.toNat_ofNat, Nat.mod_eq_of_lt h, signedOf]
  split <;> split <;> omega

/-! ### Acceptance -/

/-- While the sequencer runs, an accepted command waits for the portal's next evaluation (R28). -/
theorem State.acceptAt_of_runs {s : State} (h : s.mode.runs = true) (p : PortalId) (cmd : PCmd) :
    s.acceptAt p cmd = s.modPortal p fun x => { x with queue := x.queue ++ [cmd] } := if_pos h

section PortalCmd
variable {s : State} {h : Handle} {p : PortalId} (mk : CmdRef → PCmd) (guard : State → PortalId → Option (Nat × Nat)) (long before : Bool)

/-- A portal command to the address of one portal: the mode where it comes first, then the presence, then the acceptance (R22, R87, R91). -/
theorem State.portalCmd_uPortal (hu : h.unit.toNat = uPortal p) :
    s.portalCmd h mk guard long before = if before && !s.mode.runs then s.refuse h stModeForbids
      else if !s.present p then s.refuse h stBadUnit else s.acceptAt p (mk (.host h)) := by
  simp only [State.portalCmd, hu, portalOfUnit_uPortal]

theorem State.portalCmd_queued (hu : h.unit.toNat = uPortal p) (hp : s.present p = true) (hm : s.mode.runs = true) :
    s.portalCmd h mk guard long before = s.modPortal p fun x => { x with queue := x.queue ++ [mk (.host h)] } := by
  simp [State.portalCmd_uPortal mk guard long before hu, hm, hp, State.acceptAt_of_runs hm]

theorem State.portalCmd_absent (hu : h.unit.toNat = uPortal p) (hp : s.present p = false) :
    s.portalCmd h mk guard long false = s.refuse h stBadUnit := by
  simp [State.portalCmd_uPortal mk guard long false hu, hp]

theorem State.portalCmd_modeForbids (hu : h.unit.toNat = uPortal p) (hm : s.mode.runs = false) :
    s.portalCmd h mk guard long true = s.refuse h stModeForbids := by
  simp [State.portalCmd_uPortal mk guard long true hu, hm]

end PortalCmd

/-- `i` is the packet `c` of one of the opcodes whose command waits for the evaluation of a portal, and `cmd` is what it leaves in the queue. -/
def State.PortalPacket (s : State) (dt : Nat) (c : CmdHeader) (ps : List Byte) (op : Nat) (i : Instr) (cmd : PCmd) : Prop :=
  (op = 0x30 ∧ i = .portalOpen dt c ps ∧ cmd = .open (.host (s.handle op c))) ∨ (op = 0x31 ∧ i = .portalClose dt c ps ∧ cmd = .close (.host (s.handle op c)))
    ∨ (op = 0x33 ∧ i = .fenceClear dt c ps ∧ cmd = .fenceClear (.host (s.handle op c)))
    ∨ (op = 0x34 ∧ i = .emergencyReset dt c ps ∧ cmd = .emergencyReset (.host (s.handle op c)))
    ∨ (op = 0x36 ∧ i = .jogStop dt c ps ∧ cmd = .jogStop (.host (s.handle op c))) ∨ (op = 0x37 ∧ i = .portalFence dt c ps ∧ cmd = .fence (.host (s.handle op c)))

/-- Each of these packets goes through the shared acceptance, and only FENCE_CLEAR and EMERGENCY_RESET meet the mode check first. -/
theorem State.PortalPacket.exec_eq {s : State} {dt : Nat} {c : CmdHeader} {ps : List Byte} {op : Nat} {i : Instr} {cmd : PCmd}
    (hi : s.PortalPacket dt c ps op i cmd) (ht : s.Takes op c ps) :
    ∃ mk guard long, cmd = mk (.host (s.handle op c))
      ∧ exec i s = .next ((s.accepted dt c).portalCmd (s.handle op c) mk guard long (decide (op = 0x33 ∨ op = 0x34))) := by
  obtain ⟨rfl, rfl, rfl⟩ | ⟨rfl, rfl, rfl⟩ | ⟨rfl, rfl, rfl⟩ | ⟨rfl, rfl, rfl⟩ | ⟨rfl, rfl, rfl⟩ | ⟨rfl, rfl, rfl⟩ := hi
  · exact ⟨_, _, _, rfl, congrArg Host.Outcome.next (State.exec_takes dt State.portalOpen ht)⟩
  · exact ⟨_, _, _, rfl, congrArg Host.Outcome.next (State.exec_takes dt State.portalClose ht)⟩
  · exact ⟨_, _, _, rfl, congrArg Host.Outcome.next (State.exec_takes dt State.fenceClear ht)⟩
  · exact ⟨_, _, _, rfl, congrArg Host.Outcome.next (State.exec_takes dt State.emergencyReset ht)⟩
  · exact ⟨_, _, _, rfl, congrArg Host.Outcome.next (State.exec_takes dt State.jogStop ht)⟩
  · exact ⟨_, _, _, rfl, congrArg Host.Outcome.next (State.exec_takes dt State.portalFence ht)⟩

theorem exec_portalStatus {dt : Nat} {c : CmdHeader} {p : PortalId} {s t : State} (ht : s.Takes 0x32 c []) (hu : c.unit.toNat = uPortal p)
    (hacc : t = s.accepted dt c) :
    exec (.portalStatus dt c []) s = .next (t.reply (s.handle 0x32 c) stDone
      (le 1 (s.shownState p).code ++ le 2 (t.portalFlags p) ++ le 1 (s.shownCause p) ++ le 1 (s.portal p).recloses
        ++ leI 4 (t.fbPos p 0) ++ leI 4 (t.fbPos p 1) ++ leI 4 (t.stepPos p))) := by
  subst hacc
  refine congrArg Host.Outcome.next ((State.exec_takes dt State.portalStatus ht).trans ?_)
  simp only [State.portalStatus, State.handle_unit, hu, portalOfUnit_uPortal, State.accepted_shownState, State.accepted_shownCause, State.accepted_portal]

/-! ### JOG -/

section Jog
variable {s : State} {h : Handle} {p : PortalId} {ps : List Byte} {v : Int}

/-- An address at offset `o` of portal `p` names the pages of the portals, the portal and the offset (R18). -/
theorem portalUnit_fields {u o : Nat} (hu : u = uPortal p + o) (ho : o < 256) : u / 2048 = 2 ∧ u / 256 % 8 = p.val ∧ u % 256 = o := by
  have hp := p.isLt
  unfold uPortal at hu
  omega

/-- JOG to the portal goes to its lock (R93). -/
theorem State.jogCmd_lock (hv : v = (BitVec.ofNat 16 (unLe (ps.take 2))).toInt) (hu : h.unit.toNat = uPortal p) (hp : s.present p = true) :
    s.jogCmd h ps = s.acceptAt p (.jogLock h v) := by
  obtain ⟨hpage, hportal, hoff⟩ := portalUnit_fields (o := 0) hu (by decide)
  simp [State.jogCmd, hpage, hportal, hoff, hp, hv, signedOf_two (unLe_take_two_lt ps)]

/-- JOG to a leaf or the step that is fitted goes to that unit (R93). -/
theorem State.jogCmd_unit {k : Fin 3} (hv : v = (BitVec.ofNat 16 (unLe (ps.take 2))).toInt)
    (hu : h.unit.toNat = uPortal p + (if k = 2 then 0x20 else 0x10 + k.val)) (hp : s.present p = true)
    (hleaf : k = 1 → s.leafPresent p 1 = true) (hstep : k = 2 → s.stepFitted p = true) :
    s.jogCmd h ps = s.acceptAt p (.jogUnit h k v) := by
  obtain ⟨hpage, hportal, hoff⟩ := portalUnit_fields hu (by split <;> omega)
  match k with
  | 0 => simp [State.jogCmd, hpage, hportal, hoff, hp, hv, signedOf_two (unLe_take_two_lt ps)]
  | 1 => simp [State.jogCmd, hpage, hportal, hoff, hleaf rfl, hv, signedOf_two (unLe_take_two_lt ps)]
  | 2 => simp [State.jogCmd, hpage, hportal, hoff, hp, hstep rfl, hv, signedOf_two (unLe_take_two_lt ps)]

end Jog

theorem exec_jog {dt : Nat} {c : CmdHeader} {ps : List Byte} {s : State} (ht : s.Takes 0x35 c ps) :
    exec (.jog dt c ps) s = .next ((s.accepted dt c).jogCmd (s.handle 0x35 c) ps) :=
  congrArg Host.Outcome.next (State.exec_takes dt State.jogCmd ht)

/-- Settles O58: the six commands by the acceptance they share, PORTAL_STATUS by its reply, JOG by the unit that its address names. -/
theorem portalCommands : Obligations.PortalCommands := by
  unfold Obligations.PortalCommands
  refine ⟨fun dt c p s i op cmd ps ht hu hi => ?_, fun dt c p s => ⟨fun ht hu => ⟨_, rfl, exec_portalStatus ht hu rfl⟩, fun ps k v ht hv hm hp => ?_⟩⟩
  · obtain ⟨mk, guard, long, rfl, hexec⟩ := State.PortalPacket.exec_eq hi ht
    rw [hexec]
    refine ⟨fun hp hm => ?_, fun hp hclear hreset => ?_, fun hop hm => ?_⟩
    · exact congrArg Host.Outcome.next (State.portalCmd_queued mk guard long _ hu hp (Mode.runs_iff.mpr hm))
    · rw [decide_eq_false (not_or.mpr ⟨hclear, hreset⟩)]
      exact congrArg Host.Outcome.next (State.portalCmd_absent mk guard long hu hp)
    · rw [decide_eq_true hop]
      exact congrArg Host.Outcome.next (State.portalCmd_modeForbids mk guard long hu (Mode.runs_eq_false hm))
  · have hruns : (s.accepted dt c).mode.runs = true := Mode.runs_iff.mpr hm
    rw [exec_jog ht]
    refine ⟨fun hu => ?_, fun hu hleaf hstep => ?_⟩
    · rw [State.jogCmd_lock (s := s.accepted dt c) (h := s.handle 0x35 c) hv hu hp, State.acceptAt_of_runs hruns]
    · rw [State.jogCmd_unit (s := s.accepted dt c) (h := s.handle 0x35 c) hv hu hp hleaf hstep, State.acceptAt_of_runs hruns]

end Sys2Proof.Machine
end

section
/-! Every command keeps the bounds of the bounded stores. -/

namespace Sys2Proof.Machine

theorem exec_sound_of_kept {o : Host.Outcome State Fault Refusal} {s : State} (h : ∃ t, o = .next t ∧ t.kept = s.kept) :
    ∃ t, o = .next t ∧ Sound s t := by
  obtain ⟨t, ho, hkept⟩ := h
  exact ⟨t, ho, Sound.of_kept hkept⟩

/-- A command packet does what the table of opcodes gives its opcode. -/
theorem exec_opcode_sound (dt op : Nat) (h : CmdHeader) (ps : List Byte) (s : State) :
    ∃ t, Host.Outcome.next (φ := Fault) (ρ := Refusal) ((s.advance dt).packet op h ps (opFun op)) = .next t ∧ Sound s t :=
  packet_sound dt op h ps (opFun op) (opFun_sound op) s

/-- Every command answers a next state that keeps the queue and the bounds: a packet by its opcode, a few events by what they write, all others by what they keep. -/
theorem exec_sound (i : Instr) (s : State) : ∃ t, exec i s = .next t ∧ Sound s t := by
  cases i with
  | hello | deviceInfo | wdgStart | wdgKick | wdgStop | eventRead | queueStatus | echo | paramRead | paramWrite | paramReadRange | paramWriteSet |
    modeRequest | lockstepSplit | lockstepRejoin | lockstepStatus | claimYield | canStop | canStartNormal | canStartListen | detectRate | canSleep |
    canWake | canRecover | canTx | canCancel | canRx | portalOpen | portalClose | portalStatus | fenceClear | emergencyReset | jog | jogStop | portalFence
    | chOn | chOff | chPulse | chMulti | chClear | recInfo | recRead | recClear | loopOpen | loopClose | loopManual | coefWrite | slotRead | tuneStart |
    tuneStop | tuneResult | slotDisable | fwStatus | fwBegin | fwWrite | fwVerify | fwActivate | fwConfirm | fwRevert | sealStatus | sealCommit |
    sealDiscard | sealImageRead | evtPendingClear | satSeenClear | obstStatusClear | shutdownSeenClear | canFlagsClear | fricReset | fbArm | fbCountClear
    | fbTypeWrite => exact exec_opcode_sound ..
  | spiWrite => exact execSpiWrite_sound ..
  | mirquaSegmentReceived => exact execMirquaSegmentReceived_sound ..
  | interpreterTurn => exact execInterpreterTurn_sound ..
  | porNRelease => exact execPorNRelease_sound ..
  | logicSupplyLost => exact execLogicSupplyLost_sound ..
  | eventArrival => exact execEventArrival_sound ..
  | eventRelease => exact execEventRelease_sound ..
  | restartComplete => exact execRestartComplete_sound ..
  | canFrameReceived => exact execCanFrameReceived_sound ..
  | recordWrite => exact execRecordWrite_sound ..
  | writeCreditRegain => exact execWriteCreditRegain_sound ..
  | spiRead => exact exec_sound_of_kept (execSpiRead_kept ..)
  | spiPoll => exact exec_sound_of_kept (execSpiPoll_kept ..)
  | segmentGapTimeout => exact exec_sound_of_kept (execSegmentGapTimeout_kept ..)
  | mirquaSegmentSent => exact exec_sound_of_kept (execMirquaSegmentSent_kept ..)
  | initRetry => exact exec_sound_of_kept (execInitRetry_kept ..)
  | initComplete => exact exec_sound_of_kept (execInitComplete_kept ..)
  | testComplete => exact exec_sound_of_kept (execTestComplete_kept ..)
  | recorderScanDone => exact exec_sound_of_kept (execRecorderScanDone_kept ..)
  | sealLoadComplete => exact exec_sound_of_kept (execSealLoadComplete_kept ..)
  | sealRead => exact exec_sound_of_kept (execSealRead_kept ..)
  | sealShadowCheck => exact exec_sound_of_kept (execSealShadowCheck_kept ..)
  | sealBlockReverify => exact exec_sound_of_kept (execSealBlockReverify_kept ..)
  | sealCommitDone => exact exec_sound_of_kept (execSealCommitDone_kept ..)
  | prepareReceived => exact exec_sound_of_kept (execPrepareReceived_kept ..)
  | ackDeadline => exact exec_sound_of_kept (execAckDeadline_kept ..)
  | commitReceived => exact exec_sound_of_kept (execCommitReceived_kept ..)
  | abortReceived => exact exec_sound_of_kept (execAbortReceived_kept ..)
  | safeReceived => exact exec_sound_of_kept (execSafeReceived_kept ..)
  | epochCommitTime => exact exec_sound_of_kept (execEpochCommitTime_kept ..)
  | commitRepeat => exact exec_sound_of_kept (execCommitRepeat_kept ..)
  | heartbeat => exact exec_sound_of_kept (execHeartbeat_kept ..)
  | heartbeatLoss => exact exec_sound_of_kept (execHeartbeatLoss_kept ..)
  | tsCorrection => exact exec_sound_of_kept (execTsCorrection_kept ..)
  | sequencerEvaluation => exact exec_sound_of_kept (execSequencerEvaluation_kept ..)
  | transitionTimeout => exact exec_sound_of_kept (execTransitionTimeout_kept ..)
  | closeWarningEnd => exact exec_sound_of_kept (execCloseWarningEnd_kept ..)
  | recloseDwellEnd => exact exec_sound_of_kept (execRecloseDwellEnd_kept ..)
  | obstOpenPauseEnd => exact exec_sound_of_kept (execObstOpenPauseEnd_kept ..)
  | lockSettleElapsed => exact exec_sound_of_kept (execLockSettleElapsed_kept ..)
  | jogRenewalTimeout => exact exec_sound_of_kept (execJogRenewalTimeout_kept ..)
  | localOpenRequest => exact exec_sound_of_kept (execLocalOpenRequest_kept ..)
  | safetyInputChange => exact exec_sound_of_kept (execSafetyInputChange_kept ..)
  | siDiscrepancy => exact exec_sound_of_kept (execSiDiscrepancy_kept ..)
  | siDiscrepancyClear => exact exec_sound_of_kept (execSiDiscrepancyClear_kept ..)
  | siPlausibility => exact exec_sound_of_kept (execSiPlausibility_kept ..)
  | siPlausibilityClear => exact exec_sound_of_kept (execSiPlausibilityClear_kept ..)
  | zsInputChange => exact exec_sound_of_kept (execZsInputChange_kept ..)
  | zsDiscrepancy => exact exec_sound_of_kept (execZsDiscrepancy_kept ..)
  | zsFaultClear => exact exec_sound_of_kept (execZsFaultClear_kept ..)
  | gpiChange => exact exec_sound_of_kept (execGpiChange_kept ..)
  | dclFwRenewal => exact exec_sound_of_kept (execDclFwRenewal_kept ..)
  | fwStall => exact exec_sound_of_kept (execFwStall_kept ..)
  | dclInputFrame => exact exec_sound_of_kept (execDclInputFrame_kept ..)
  | dclFrameMissing => exact exec_sound_of_kept (execDclFrameMissing_kept ..)
  | dclTermCompare => exact exec_sound_of_kept (execDclTermCompare_kept ..)
  | dclTermDisagree => exact exec_sound_of_kept (execDclTermDisagree_kept ..)
  | dclTermAgree => exact exec_sound_of_kept (execDclTermAgree_kept ..)
  | dclHalfPeriod => exact exec_sound_of_kept (execDclHalfPeriod_kept ..)
  | dclBallCheck => exact exec_sound_of_kept (execDclBallCheck_kept ..)
  | dclReadbackChange => exact exec_sound_of_kept (execDclReadbackChange_kept ..)
  | dclPickupDropTimeout => exact exec_sound_of_kept (execDclPickupDropTimeout_kept ..)
  | safetyResetEdge => exact exec_sound_of_kept (execSafetyResetEdge_kept ..)
  | safetyResetJam => exact exec_sound_of_kept (execSafetyResetJam_kept ..)
  | gdFault => exact exec_sound_of_kept (execGdFault_kept ..)
  | overcurrentTrip => exact exec_sound_of_kept (execOvercurrentTrip_kept ..)
  | vbusOver => exact exec_sound_of_kept (execVbusOver_kept ..)
  | vbusUnder => exact exec_sound_of_kept (execVbusUnder_kept ..)
  | sdClock => exact exec_sound_of_kept (execSdClock_kept ..)
  | sdStuck => exact exec_sound_of_kept (execSdStuck_kept ..)
  | hallEdge => exact exec_sound_of_kept (execHallEdge_kept ..)
  | hallTimeout => exact exec_sound_of_kept (execHallTimeout_kept ..)
  | driveStartDelayEnd => exact exec_sound_of_kept (execDriveStartDelayEnd_kept ..)
  | alignTimeEnd => exact exec_sound_of_kept (execAlignTimeEnd_kept ..)
  | brakeEnd => exact exec_sound_of_kept (execBrakeEnd_kept ..)
  | currentTick => exact exec_sound_of_kept (execCurrentTick_kept ..)
  | datapathResidueClear => exact exec_sound_of_kept (execDatapathResidueClear_kept ..)
  | directionFault => exact exec_sound_of_kept (execDirectionFault_kept ..)
  | chopAdapt => exact exec_sound_of_kept (execChopAdapt_kept ..)
  | profileTick => exact exec_sound_of_kept (execProfileTick_kept ..)
  | slotTick => exact exec_sound_of_kept (execSlotTick_kept ..)
  | slotResidueClear => exact exec_sound_of_kept (execSlotResidueClear_kept ..)
  | checkerSelfTest => exact exec_sound_of_kept (execCheckerSelfTest_kept ..)
  | tuneEnd => exact exec_sound_of_kept (execTuneEnd_kept ..)
  | obstacleDeclared => exact exec_sound_of_kept (execObstacleDeclared_kept ..)
  | energyFenceBrake => exact exec_sound_of_kept (execEnergyFenceBrake_kept ..)
  | energyBrakeRelease => exact exec_sound_of_kept (execEnergyBrakeRelease_kept ..)
  | fenceSelfTest => exact exec_sound_of_kept (execFenceSelfTest_kept ..)
  | mapSave => exact exec_sound_of_kept (execMapSave_kept ..)
  | stepRecompute => exact exec_sound_of_kept (execStepRecompute_kept ..)
  | stepBridgeFault => exact exec_sound_of_kept (execStepBridgeFault_kept ..)
  | stepStill => exact exec_sound_of_kept (execStepStill_kept ..)
  | homeInputAccepted => exact exec_sound_of_kept (execHomeInputAccepted_kept ..)
  | homingFailure => exact exec_sound_of_kept (execHomingFailure_kept ..)
  | posDeviation => exact exec_sound_of_kept (execPosDeviation_kept ..)
  | f2ConfirmWindowEnd => exact exec_sound_of_kept (execF2ConfirmWindowEnd_kept ..)
  | quietTrim => exact exec_sound_of_kept (execQuietTrim_kept ..)
  | fbCountChange => exact exec_sound_of_kept (execFbCountChange_kept ..)
  | indexEdge => exact exec_sound_of_kept (execIndexEdge_kept ..)
  | ssiFrame => exact exec_sound_of_kept (execSsiFrame_kept ..)
  | observerTick => exact exec_sound_of_kept (execObserverTick_kept ..)
  | tStillExpiry => exact exec_sound_of_kept (execTStillExpiry_kept ..)
  | closedContactReference => exact exec_sound_of_kept (execClosedContactReference_kept ..)
  | fbFaultClear => exact exec_sound_of_kept (execFbFaultClear_kept ..)
  | echoOutputStep => exact exec_sound_of_kept (execEchoOutputStep_kept ..)
  | channelPeriodStart => exact exec_sound_of_kept (execChannelPeriodStart_kept ..)
  | pullInEnd => exact exec_sound_of_kept (execPullInEnd_kept ..)
  | chPulseEnd => exact exec_sound_of_kept (execChPulseEnd_kept ..)
  | channelLimitShutdown => exact exec_sound_of_kept (execChannelLimitShutdown_kept ..)
  | channelFastOff => exact exec_sound_of_kept (execChannelFastOff_kept ..)
  | retryIntervalEnd => exact exec_sound_of_kept (execRetryIntervalEnd_kept ..)
  | retryCountReset => exact exec_sound_of_kept (execRetryCountReset_kept ..)
  | channelTemperature => exact exec_sound_of_kept (execChannelTemperature_kept ..)
  | supplyAnomaly => exact exec_sound_of_kept (execSupplyAnomaly_kept ..)
  | lockstepMismatch => exact exec_sound_of_kept (execLockstepMismatch_kept ..)
  | signatureExchange => exact exec_sound_of_kept (execSignatureExchange_kept ..)
  | comparatorSelfTest => exact exec_sound_of_kept (execComparatorSelfTest_kept ..)
  | coreWatchdogExpiry => exact exec_sound_of_kept (execCoreWatchdogExpiry_kept ..)
  | recoveryComplete => exact exec_sound_of_kept (execRecoveryComplete_kept ..)
  | splitHandoverDone => exact exec_sound_of_kept (execSplitHandoverDone_kept ..)
  | diagnosticFailed => exact exec_sound_of_kept (execDiagnosticFailed_kept ..)
  | eccError => exact exec_sound_of_kept (execEccError_kept ..)
  | claimFrameStart => exact exec_sound_of_kept (execClaimFrameStart_kept ..)
  | claimFrameEnd => exact exec_sound_of_kept (execClaimFrameEnd_kept ..)
  | swetricLinkChange => exact exec_sound_of_kept (execSwetricLinkChange_kept ..)
  | capSend => exact exec_sound_of_kept (execCapSend_kept ..)
  | capReceived => exact exec_sound_of_kept (execCapReceived_kept ..)
  | heartbeatSend => exact exec_sound_of_kept (execHeartbeatSend_kept ..)
  | heartbeatReceived => exact exec_sound_of_kept (execHeartbeatReceived_kept ..)
  | partnerLost => exact exec_sound_of_kept (execPartnerLost_kept ..)
  | snapshotTake => exact exec_sound_of_kept (execSnapshotTake_kept ..)
  | snapshotReceived => exact exec_sound_of_kept (execSnapshotReceived_kept ..)
  | yieldTimeout => exact exec_sound_of_kept (execYieldTimeout_kept ..)
  | canTxOutcome => exact exec_sound_of_kept (execCanTxOutcome_kept ..)
  | canDeadlineStale => exact exec_sound_of_kept (execCanDeadlineStale_kept ..)
  | canError => exact exec_sound_of_kept (execCanError_kept ..)
  | busOffRecovered => exact exec_sound_of_kept (execBusOffRecovered_kept ..)
  | detectWindowEnd => exact exec_sound_of_kept (execDetectWindowEnd_kept ..)
  | detectTimeout => exact exec_sound_of_kept (execDetectTimeout_kept ..)
  | wakeEdge => exact exec_sound_of_kept (execWakeEdge_kept ..)
  | protocolException => exact exec_sound_of_kept (execProtocolException_kept ..)
  | dclTelegramSend => exact exec_sound_of_kept (execDclTelegramSend_kept ..)
  | doorStateSend => exact exec_sound_of_kept (execDoorStateSend_kept ..)
  | telegramCopyReceived => exact exec_sound_of_kept (execTelegramCopyReceived_kept ..)
  | pairingWindowClose => exact exec_sound_of_kept (execPairingWindowClose_kept ..)
  | streamTimeout => exact exec_sound_of_kept (execStreamTimeout_kept ..)
  | lossSummary => exact exec_sound_of_kept (execLossSummary_kept ..)
  | counterSave => exact exec_sound_of_kept (execCounterSave_kept ..)
  | opSecond => exact exec_sound_of_kept (execOpSecond_kept ..)
  | pfail => exact exec_sound_of_kept (execPfail_kept ..)
  | powerFailFlush => exact exec_sound_of_kept (execPowerFailFlush_kept ..)
  | refclkFault => exact exec_sound_of_kept (execRefclkFault_kept ..)
  | pllUnlock => exact exec_sound_of_kept (execPllUnlock_kept ..)
  | dieTemperature => exact exec_sound_of_kept (execDieTemperature_kept ..)
  | watchdogExpiry => exact exec_sound_of_kept (execWatchdogExpiry_kept ..)
  | dealimLinkFault => exact exec_sound_of_kept (execDealimLinkFault_kept ..)
  | pllRelock => exact exec_sound_of_kept (execPllRelock_kept ..)
  | fwVerifyDone => exact exec_sound_of_kept (execFwVerifyDone_kept ..)
  | debugInstruction => exact exec_sound_of_kept (execDebugInstruction_kept ..)
  | busIntegration => exact exec_sound_of_kept (execBusIntegration_kept ..)
  | homeInputInactive => exact exec_sound_of_kept (execHomeInputInactive_kept ..)

/-- Settles O4: an empty queue changes nothing, and the command at the front keeps the bounds on the queue's rest. -/
theorem stepKeepsBounds : Obligations.StepKeepsBounds := by
  unfold Obligations.StepKeepsBounds
  intro s t hs ht
  cases hq : s.pending with
  | nil =>
    have hstay : step s = .next s := by simp only [step, hq]
    cases hstay.symm.trans ht
    exact hs
  | cons i rest =>
    have hfront : step s = exec i { s with pending := rest } := by simp only [step, hq]
    obtain ⟨u, hu, -, hkeep⟩ := exec_sound i { s with pending := rest }
    cases (hfront.trans hu).symm.trans ht
    exact hkeep hs

end Sys2Proof.Machine
end

section
/-! The mode, the epoch and the commit of the device and of its dies: what an operation leaves alone when it starts no change of mode. -/

namespace Sys2Proof.Machine

/-! ## The stance of the device -/

/-- A mode as a commit or SAFE sets it: door service becomes DEGRADED and SERVICE again without one (R36). -/
def Mode.settled (m : Mode) : Mode := if m.door then .service else m

theorem Mode.eq_of_settled {m n : Mode} (h : m.settled = n.settled) (hn : n.door = false) : m = n := by
  cases m <;> cases n <;> simp_all [Mode.settled, Mode.door]

theorem Mode.door_of_settled {m n : Mode} (h : m.settled = n.settled) (hn : n.door = true) : m.door = true := by
  cases m <;> cases n <;> simp_all [Mode.settled, Mode.door]

/-- What a die holds of a change of mode: its epoch and mode, PREPARE and COMMIT, and whether SAFE is under way to it (R39–R44). -/
structure DieStance where
  epoch   : BitVec 32
  mode    : Mode
  prepare : Option Prepare
  commit  : Bool
  safeDue : Bool

/-- The stance of a die. -/
def Die.stance (x : Die) : DieStance := ⟨x.epoch, x.mode.settled, x.prepare, x.commit, x.safeDue⟩

/-- What the device holds of a change of mode: its mode and epoch, the commit that runs or waits for its repeat, the stances of its dies; and the links between them. -/
structure Stance where
  mode      : Mode
  epoch     : BitVec 32
  commit    : Option Commit
  retry     : Option Commit
  linksDown : BitVec 11
  dies      : Vector DieStance 8

/-- The stance of the device. -/
def State.stance (s : State) : Stance := ⟨s.mode.settled, s.epoch, s.commit, s.retry, s.linksDown, s.dies.map Die.stance⟩

@[simp] theorem State.stance_mk (pending ts mode modeCause epoch commit retry dies waiting buffer lostEvents lastRel evtPending setNow params ports wdg groups nextGroup portals engines safety sealer pairs claim partner cans tele recorder power linksDown free) :
    State.stance ⟨pending, ts, mode, modeCause, epoch, commit, retry, dies, waiting, buffer, lostEvents, lastRel, evtPending, setNow, params, ports, wdg, groups, nextGroup, portals, engines, safety, sealer, pairs, claim, partner, cans, tele, recorder, power, linksDown, free⟩
      = ⟨mode.settled, epoch, commit, retry, linksDown, dies.map Die.stance⟩ := rfl

@[simp] theorem State.stance_eta (s : State) : Stance.mk s.mode.settled s.epoch s.commit s.retry s.linksDown (s.dies.map Die.stance) = s.stance := rfl

@[simp] theorem State.stance_ite (c : Prop) [Decidable c] (s t : State) : (if c then s else t).stance = if c then s.stance else t.stance :=
  apply_ite State.stance c s t

@[simp] theorem foldState_stance {α : Type} (l : List α) (f : α → State → State) (s : State) (h : ∀ a t, (f a t).stance = t.stance) :
    (foldState l f s).stance = s.stance := foldState_field h

/-- An update of a die that leaves its stance alone. -/
theorem State.modDie_stance (s : State) (d : DieId) {f : Die → Die} (h : (f s.dies[d]).stance = s.dies[d].stance) : (s.modDie d f).stance = s.stance := by
  have hdies : (s.dies.set d (f s.dies[d])).map Die.stance = s.dies.map Die.stance := by
    ext i hi
    simp only [Vector.getElem_map, Vector.getElem_set]
    split
    next hdi => subst hdi; exact h
    · rfl
  simp only [State.modDie, State.stance, hdies]

/-! ## Parts of the device -/

@[simp] theorem State.setPortal_stance (s : State) (p : PortalId) (x : Portal) : (s.setPortal p x).stance = s.stance := by simp [State.setPortal]
@[simp] theorem State.modPortal_stance (s : State) (p : PortalId) (f : Portal → Portal) : (s.modPortal p f).stance = s.stance := by simp [State.modPortal]
@[simp] theorem State.modPort_stance (s : State) (n : PortId) (f : Port → Port) : (s.modPort n f).stance = s.stance := by simp [State.modPort]
@[simp] theorem State.modLeaf_stance (s : State) (p : PortalId) (l : LeafId) (f : Leaf → Leaf) : (s.modLeaf p l f).stance = s.stance := by simp [State.modLeaf]
@[simp] theorem State.modDet_stance (s : State) (p : PortalId) (l : LeafId) (f : Detector → Detector) : (s.modDet p l f).stance = s.stance := by simp [State.modDet]
@[simp] theorem State.modChan_stance (s : State) (p : PortalId) (c : ChanId) (f : Channel → Channel) : (s.modChan p c f).stance = s.stance := by simp [State.modChan]
@[simp] theorem State.modStep_stance (s : State) (p : PortalId) (f : Step → Step) : (s.modStep p f).stance = s.stance := by simp [State.modStep]
@[simp] theorem State.modSlot_stance (s : State) (d : PdId) (n : SlotId) (f : Slot → Slot) : (s.modSlot d n f).stance = s.stance := by simp [State.modSlot]
@[simp] theorem State.modCan_stance (s : State) (n : CanId) (f : Can → Can) : (s.modCan n f).stance = s.stance := by simp [State.modCan]
@[simp] theorem State.modFb_stance (s : State) (p : PortalId) (f : FbId) (g : Feedback → Feedback) : (s.modFb p f g).stance = s.stance := by simp [State.modFb]
@[simp] theorem State.modPair_stance (s : State) (d : Fin 3) (f : Pair → Pair) : (s.modPair d f).stance = s.stance := by simp [State.modPair]

/-! ## Events -/

@[simp] theorem State.raiseAt_stance (s : State) (d : DieId) (src code unit param : Nat) : (s.raiseAt d src code unit param).stance = s.stance := by
  simp only [State.raiseAt]
  split
  · rfl
  · exact State.modDie_stance _ _ rfl

@[simp] theorem State.raise_stance (s : State) (src code unit param : Nat) : (s.raise src code unit param).stance = s.stance := by simp [State.raise]

@[simp] theorem State.degrade_stance (s : State) : s.degrade.stance = s.stance := by
  unfold State.degrade
  extract_lets anyFenced m old s'
  have hm : m.settled = s.mode.settled := by
    simp only [m]
    split
    next h => rw [h.1]; rfl
    next =>
      split
      next h => rw [h.1]; rfl
      · rfl
  have hdies : (s.dies.map fun (d : Die) => if d.mode = old then { d with mode := m } else d).map Die.stance = s.dies.map Die.stance := by
    rw [Vector.map_map]
    congr 1
    funext d
    simp only [Function.comp]
    split
    next hd => simp only [Die.stance, hd, hm, old]
    · rfl
  split
  · rfl
  · simp only [State.raise_stance, s', State.stance_mk, hm, hdies, State.stance_eta]

@[simp] theorem State.raisePortal_stance (s : State) (p : PortalId) (code unit param : Nat) : (s.raisePortal p code unit param).stance = s.stance := by simp [State.raisePortal]

/-! ## Replies and the ends of commands -/

@[simp] theorem State.segPut_stance (s : State) (k : Nat) : (s.segPut k).stance = s.stance := by
  unfold State.segPut
  split <;> simp

@[simp] theorem State.segLoad_stance (s : State) : s.segLoad.stance = s.stance := by simp [State.segLoad]
@[simp] theorem State.putReply_stance (s : State) (n : PortId) (r : Reply) : (s.putReply n r).stance = s.stance := by simp [State.putReply]
@[simp] theorem State.reply_stance (s : State) (h : Handle) (status : Nat) (params : List Byte) : (s.reply h status params).stance = s.stance := by simp [State.reply]
@[simp] theorem State.refuse_stance (s : State) (h : Handle) (status : Nat) : (s.refuse h status).stance = s.stance := by simp [State.refuse]

@[simp] theorem State.groupReply_stance (s : State) (g : GroupOp) : (s.groupReply g).stance = s.stance := by
  unfold State.groupReply
  dsimp only
  repeat' split
  all_goals simp

@[simp] theorem State.memberEnd_stance (s : State) (id : Nat) (p : PortalId) (status : Nat) (params : List Byte) : (s.memberEnd id p status params).stance = s.stance := by simp [State.memberEnd]

@[simp] theorem State.finish_stance (s : State) (p : PortalId) (r : CmdRef) (status : Nat) (params : List Byte) : (s.finish p r status params).stance = s.stance := by
  unfold State.finish
  split <;> simp

@[simp] theorem State.finishAll_stance (s : State) (p : PortalId) (l : List CmdRef) (status : Nat) (params : List Byte) : (s.finishAll p l status params).stance = s.stance := by simp [State.finishAll]
@[simp] theorem State.endOpenClose_stance (s : State) (p : PortalId) (status outcome : Nat) : (s.endOpenClose p status outcome).stance = s.stance := by simp [State.endOpenClose]

@[simp] theorem State.memberFails_stance (s : State) (p : PortalId) (c : PCmd) (status outcome : Nat) : (s.memberFails p c status outcome).stance = s.stance := by
  unfold State.memberFails
  split <;> simp

@[simp] theorem State.refuseCmd_stance (s : State) (p : PortalId) (c : PCmd) (why : Nat × Nat) : (s.refuseCmd p c why).stance = s.stance := by
  unfold State.refuseCmd State.drawNat
  dsimp only
  repeat' split
  all_goals simp

/-! ## Portals and channels -/

@[simp] theorem State.notClean_stance (s : State) (p : PortalId) : (s.notClean p).stance = s.stance := by simp [State.notClean]
@[simp] theorem State.undeclare_stance (s : State) (p : PortalId) : (s.undeclare p).stance = s.stance := by simp [State.undeclare]
@[simp] theorem State.setPState_stance (s : State) (p : PortalId) (st : PState) : (s.setPState p st).stance = s.stance := by simp [State.setPState]
@[simp] theorem State.fsPortalEvent_stance (s : State) (p : PortalId) (set : Bool) (cause : Nat) : (s.fsPortalEvent p set cause).stance = s.stance := by simp [State.fsPortalEvent]
@[simp] theorem State.chanSync_stance (s : State) (p : PortalId) (c : ChanId) : (s.chanSync p c).stance = s.stance := by simp [State.chanSync]
@[simp] theorem State.chansSync_stance (s : State) (p : PortalId) : (s.chansSync p).stance = s.stance := by simp [State.chansSync]
@[simp] theorem State.failSafe_stance (s : State) (p : PortalId) : (s.failSafe p).stance = s.stance := by simp [State.failSafe]

@[simp] theorem State.endPulse_stance (s : State) (p : PortalId) (c : ChanId) (status : Nat) : (s.endPulse p c status).stance = s.stance := by
  unfold State.endPulse
  dsimp only
  repeat' split
  all_goals simp

@[simp] theorem State.endPulses_stance (s : State) (p : PortalId) (status : Nat) : (s.endPulses p status).stance = s.stance := by simp [State.endPulses]
@[simp] theorem State.hostOff_stance (s : State) (p : PortalId) : (s.hostOff p).stance = s.stance := by simp [State.hostOff]
@[simp] theorem State.stepUncertain_stance (s : State) (p : PortalId) (reason stateCode : Nat) : (s.stepUncertain p reason stateCode).stance = s.stance := by simp [State.stepUncertain]

@[simp] theorem State.stepJogCut_stance (s : State) (p : PortalId) : (s.stepJogCut p).stance = s.stance := by
  unfold State.stepJogCut
  split <;> simp

/-! ## Leaves and steps -/

@[simp] theorem State.endMotion_stance (s : State) (p : PortalId) : (s.endMotion p).stance = s.stance := by simp [State.endMotion]
@[simp] theorem State.endEfBrake_stance (s : State) (p : PortalId) (l : LeafId) : (s.endEfBrake p l).stance = s.stance := by simp [State.endEfBrake]
@[simp] theorem State.endClosing_stance (s : State) (d : PdId) (n : SlotId) : (s.endClosing d n).stance = s.stance := by simp [State.endClosing]
@[simp] theorem State.syncSlots_stance (s : State) (p : PortalId) (l : LeafId) : (s.syncSlots p l).stance = s.stance := by simp [State.syncSlots]
@[simp] theorem State.modWatch_stance (s : State) (p : PortalId) : (s.modWatch p).stance = s.stance := by simp [State.modWatch]
@[simp] theorem State.setDrive_stance (s : State) (p : PortalId) (l : LeafId) (d : Drive) : (s.setDrive p l d).stance = s.stance := by simp [State.setDrive]

@[simp] theorem State.leafBrake_stance (s : State) (p : PortalId) (l : LeafId) : (s.leafBrake p l).stance = s.stance := by
  unfold State.leafBrake
  repeat' split
  all_goals simp

@[simp] theorem State.stepCatchUpTo_stance (s : State) (p : PortalId) : (s.stepCatchUpTo p).stance = s.stance := by simp [State.stepCatchUpTo]
@[simp] theorem State.stepStop_stance (s : State) (p : PortalId) (d : StepDrive) : (s.stepStop p d).stance = s.stance := by simp [State.stepStop]

/-! ## Tunes, fences and what they end -/

@[simp] theorem State.endTune_stance (s : State) (d : PdId) (n : SlotId) (outcome status : Nat) (results : List Byte) : (s.endTune d n outcome status results).stance = s.stance := by
  unfold State.endTune State.drawNat
  dsimp only
  repeat' split
  all_goals simp

@[simp] theorem State.abortTune_stance (s : State) (d : PdId) (n : SlotId) (outcome status : Nat) : (s.abortTune d n outcome status).stance = s.stance := by simp [State.abortTune]
@[simp] theorem State.abortTunes_stance (s : State) (p : PortalId) (outcome status : Nat) : (s.abortTunes p outcome status).stance = s.stance := by simp [State.abortTunes]
@[simp] theorem State.stopMembers_stance (s : State) (p : PortalId) : (s.stopMembers p).stance = s.stance := by simp [State.stopMembers]
@[simp] theorem State.jogLeft_stance (s : State) (p : PortalId) : (s.jogLeft p).stance = s.stance := by simp [State.jogLeft]
@[simp] theorem State.enterFenced_stance (s : State) (p : PortalId) : (s.enterFenced p).stance = s.stance := by simp [State.enterFenced]
@[simp] theorem State.fenceNow_stance (s : State) (p : PortalId) (cause unit param : Nat) : (s.fenceNow p cause unit param).stance = s.stance := by simp [State.fenceNow]
@[simp] theorem State.fenceCmd_stance (s : State) (p : PortalId) (r : CmdRef) : (s.fenceCmd p r).stance = s.stance := by simp [State.fenceCmd]
@[simp] theorem State.refuseJog_stance (s : State) (h : Handle) (why : Nat × Nat × Nat) : (s.refuseJog h why).stance = s.stance := by simp [State.refuseJog]

@[simp] theorem State.takeIdle_stance (s : State) (p : PortalId) (c : PCmd) : (s.takeIdle p c).stance = s.stance := by
  unfold State.takeIdle
  split <;> simp

@[simp] theorem State.flushCommands_stance (s : State) (old : Mode) : (s.flushCommands old).stance = s.stance := by simp [State.flushCommands]

/-! ## Recorder, maps, CAN and telegrams -/

@[simp] theorem State.recEnqueue_stance (s : State) (e : RecEntry) : (s.recEnqueue e).stance = s.stance := by simp [State.recEnqueue]

@[simp] theorem State.cycleEnd_stance (s : State) (p : PortalId) (abandoned : Bool) : (s.cycleEnd p abandoned).stance = s.stance := by
  unfold State.cycleEnd
  split <;> simp

@[simp] theorem State.mapInit_stance (s : State) (p : PortalId) (l : LeafId) (reason : Nat) : (s.mapInit p l reason).stance = s.stance := by
  rw [State.mapInit, State.raisePortal_stance, State.modDet_stance]

@[simp] theorem State.loadMap_stance (s : State) (p : PortalId) (l : LeafId) : (s.loadMap p l).stance = s.stance := by
  unfold State.loadMap
  dsimp only
  repeat' split
  all_goals simp

@[simp] theorem State.saveCounters_stance (s : State) : s.saveCounters.stance = s.stance := by simp [State.saveCounters]

@[simp] theorem State.teleTake_stance (s : State) : s.teleTake.stance = s.stance := by
  unfold State.teleTake
  refine foldState_stance _ _ _ fun n t => ?_
  dsimp only
  rw [foldState_stance]
  · simp
  · intro q u
    split
    · split
      · exact State.modCan_stance ..
      · rfl
    · rfl

@[simp] theorem State.canTraffic_stance (s : State) (n : CanId) (reason arg outcome : Nat) : (s.canTraffic n reason arg outcome).stance = s.stance := by simp [State.canTraffic]

@[simp] theorem State.txFinal_stance (s : State) (n : CanId) (m : Fin 16) (outcome : Nat) : (s.txFinal n m outcome).stance = s.stance := by
  unfold State.txFinal
  dsimp only
  repeat' split
  all_goals simp

@[simp] theorem State.canEvent_stance (s : State) (n : CanId) (reason arg : Nat) : (s.canEvent n reason arg).stance = s.stance := by simp [State.canEvent]
@[simp] theorem State.markSet_stance (s : State) (pid unit bit : Nat) : (s.markSet pid unit bit).stance = s.stance := by simp [State.markSet]
@[simp] theorem State.canLevels_stance (s : State) (n : CanId) (tec recErr : Nat) : (s.canLevels n tec recErr).stance = s.stance := by simp [State.canLevels]

@[simp] theorem State.canOff_stance (s : State) (n : CanId) : (s.canOff n).stance = s.stance := by
  unfold State.canOff
  dsimp only
  repeat' split
  all_goals simp

@[simp] theorem State.cansOff_stance (s : State) : s.cansOff.stance = s.stance := by simp [State.cansOff]
@[simp] theorem State.modStream_stance (s : State) (release : Bool) (f : Stream → Stream) : (s.modStream release f).stance = s.stance := by simp [State.modStream]
@[simp] theorem State.streamDown_stance (s : State) (release : Bool) : (s.streamDown release).stance = s.stance := by simp [State.streamDown]
@[simp] theorem State.zsEvent_stance (s : State) : s.zsEvent.stance = s.stance := by simp [State.zsEvent]
@[simp] theorem State.zsReport_stance (s : State) : s.zsReport.stance = s.stance := by simp [State.zsReport]
@[simp] theorem State.teleConfigure_stance (s : State) : s.teleConfigure.stance = s.stance := by simp [State.teleConfigure]

/-! ## Watches, pairs and fail-safe events -/

@[simp] theorem State.contactWatch_stance (s : State) (p : PortalId) : (s.contactWatch p).stance = s.stance := by simp [State.contactWatch]
@[simp] theorem State.plausWatch_stance (s : State) (p : PortalId) : (s.plausWatch p).stance = s.stance := by simp [State.plausWatch]
@[simp] theorem State.lockWatch_stance (s : State) (p : PortalId) : (s.lockWatch p).stance = s.stance := by simp [State.lockWatch]

@[simp] theorem State.dropSplit_stance (s : State) (d : Fin 3) (status : Nat) : (s.dropSplit d status).stance = s.stance := by
  unfold State.dropSplit
  split <;> simp

@[simp] theorem State.pairEvent_stance (s : State) (d : Fin 3) (kind part unit : Nat) : (s.pairEvent d kind part unit).stance = s.stance := by simp [State.pairEvent]

@[simp] theorem State.rejoin_stance (s : State) (d : Fin 3) (reply : Option Handle) : (s.rejoin d reply).stance = s.stance := by
  unfold State.rejoin
  split <;> simp

@[simp] theorem State.allChansSync_stance (s : State) : s.allChansSync.stance = s.stance := by simp [State.allChansSync]

@[simp] theorem State.fsDieEvent_stance (s : State) (k : PwId) (set : Bool) (cause : Nat) : (s.fsDieEvent k set cause).stance = s.stance := by
  unfold State.fsDieEvent
  dsimp only
  repeat' split
  all_goals simp

@[simp] theorem State.fsDeviceEvent_stance (s : State) (set : Bool) (cause : Nat) : (s.fsDeviceEvent set cause).stance = s.stance := by simp [State.fsDeviceEvent]

/-! ## Locks, jogs and the safe stop -/

@[simp] theorem State.setRole_stance (s : State) (p : PortalId) (ch : Option Nat) (on : Bool) : (s.setRole p ch on).stance = s.stance := by
  unfold State.setRole
  split
  · split
    · simp
    · rfl
  · rfl

@[simp] theorem State.setLock_stance (s : State) (p : PortalId) (on : Bool) : (s.setLock p on).stance = s.stance := by simp [State.setLock]
@[simp] theorem State.endLockJog_stance (s : State) (p : PortalId) : (s.endLockJog p).stance = s.stance := by simp [State.endLockJog]
@[simp] theorem State.abortJogTunes_stance (s : State) (p : PortalId) : (s.abortJogTunes p).stance = s.stance := by simp [State.abortJogTunes]
@[simp] theorem State.stepCatchUp_stance (s : State) (p : PortalId) : (s.stepCatchUp p).stance = s.stance := by simp [State.stepCatchUp]
@[simp] theorem State.stepStopPoint_stance (s : State) (p : PortalId) : (s.stepStopPoint p).stance = s.stance := by simp [State.stepStopPoint]
@[simp] theorem State.setValves_stance (s : State) (p : PortalId) (l : LeafId) (op cl : Bool) : (s.setValves p l op cl).stance = s.stance := by simp [State.setValves]
@[simp] theorem State.leafHold_stance (s : State) (p : PortalId) (l : LeafId) : (s.leafHold p l).stance = s.stance := by simp [State.leafHold]
@[simp] theorem State.leafStopHold_stance (s : State) (p : PortalId) (l : LeafId) : (s.leafStopHold p l).stance = s.stance := by simp [State.leafStopHold]

@[simp] theorem State.endUnitJog_stance (s : State) (p : PortalId) : (s.endUnitJog p).stance = s.stance := by
  unfold State.endUnitJog
  split <;> simp

@[simp] theorem State.endJogs_stance (s : State) (p : PortalId) : (s.endJogs p).stance = s.stance := by simp [State.endJogs]
@[simp] theorem State.modulate_stance (s : State) (p : PortalId) (l : LeafId) (d : Drive) : (s.modulate p l d).stance = s.stance := by simp [State.modulate]

@[simp] theorem State.safeStopPortal_stance (s : State) (p : PortalId) : (s.safeStopPortal p).stance = s.stance := by
  unfold State.safeStopPortal
  dsimp only
  split
  · rfl
  · rw [State.stance_ite, State.stepStopPoint_stance, ite_self, foldState_stance]
    · simp
    · intro l t
      split <;> simp

@[simp] theorem State.safeStop_stance (s : State) : s.safeStop.stance = s.stance := by simp [State.safeStop]

@[simp] theorem State.leafWant_stance (s : State) (p : PortalId) (l : LeafId) (d : Drive) : (s.leafWant p l d).stance = s.stance := by
  unfold State.leafWant
  repeat' split
  all_goals simp

@[simp] theorem State.leafTarget_stance (s : State) (p : PortalId) (l : LeafId) (x : Int) : (s.leafTarget p l x).stance = s.stance := by simp [State.leafTarget]
@[simp] theorem State.leafOff_stance (s : State) (p : PortalId) (l : LeafId) : (s.leafOff p l).stance = s.stance := by simp [State.leafOff]

@[simp] theorem State.leafOutputs_stance (s : State) (p : PortalId) (st : PState) : (s.leafOutputs p st).stance = s.stance := by
  unfold State.leafOutputs
  dsimp only
  repeat' split
  all_goals simp

@[simp] theorem State.stepStart_stance (s : State) (p : PortalId) : (s.stepStart p).stance = s.stance := by simp [State.stepStart]
@[simp] theorem State.setStep_stance (s : State) (p : PortalId) (d : StepDrive) : (s.setStep p d).stance = s.stance := by simp [State.setStep]
@[simp] theorem State.homingStart_stance (s : State) (p : PortalId) : (s.homingStart p).stance = s.stance := by simp [State.homingStart]
@[simp] theorem State.stepMove_stance (s : State) (p : PortalId) (x : Int) (job : Nat) : (s.stepMove p x job).stance = s.stance := by simp [State.stepMove]
@[simp] theorem State.stepTask_stance (s : State) (p : PortalId) (deploy : Bool) : (s.stepTask p deploy).stance = s.stance := by simp [State.stepTask]

@[simp] theorem State.restart_stance (s : State) (p : PortalId) : (s.restart p).stance = s.stance := by
  unfold State.restart
  dsimp only
  repeat' split
  all_goals simp

@[simp] theorem State.resume_stance (s : State) : s.resume.stance = s.stance := by
  unfold State.resume
  split <;> simp

@[simp] theorem State.wdgSync_stance (s : State) : s.wdgSync.stance = s.stance := by simp [State.wdgSync]

/-! ## What a change of mode does to a portal -/

@[simp] theorem State.setWarn_stance (s : State) (p : PortalId) (on : Bool) : (s.setWarn p on).stance = s.stance := by simp [State.setWarn]
@[simp] theorem State.fence_stance (s : State) (p : PortalId) (cause unit param : Nat) : (s.fence p cause unit param).stance = s.stance := by simp [State.fence]
@[simp] theorem State.fbFault_stance (s : State) (p : PortalId) (f : FbId) (b : Nat) : (s.fbFault p f b).stance = s.stance := by simp [State.fbFault]
@[simp] theorem State.fbNeedRef_stance (s : State) (p : PortalId) (f : FbId) : (s.fbNeedRef p f).stance = s.stance := by simp [State.fbNeedRef]
@[simp] theorem State.runCheck_stance (s : State) (p : PortalId) : (s.runCheck p).stance = s.stance := by simp [State.runCheck]
@[simp] theorem State.foundStep_stance (s : State) (p : PortalId) : (s.foundStep p).stance = s.stance := by simp [State.foundStep]
@[simp] theorem State.failSafeEnd_stance (s : State) (p : PortalId) : (s.failSafeEnd p).stance = s.stance := by simp [State.failSafeEnd]

@[simp] theorem State.portalEnter_stance (s : State) (p : PortalId) (old new : Mode) : (s.portalEnter p old new).stance = s.stance := by
  unfold State.portalEnter
  dsimp only
  repeat' split
  all_goals simp

@[simp] theorem State.slotsOff_stance (s : State) (p : PortalId) : (s.slotsOff p).stance = s.stance := by simp [State.slotsOff]
@[simp] theorem State.teleTakeover_stance (s : State) (snap : Option (Snapshot × Nat)) : (s.teleTakeover snap).stance = s.stance := by simp [State.teleTakeover]
@[simp] theorem State.loadGeneral_stance (s : State) (z : Snapshot) : (s.loadGeneral z).stance = s.stance := by simp [State.loadGeneral]
@[simp] theorem State.claimEvent_stance (s : State) (reason : Nat) (warm : Bool) : (s.claimEvent reason warm).stance = s.stance := by simp [State.claimEvent]

end Sys2Proof.Machine
end

section
/-! Changes of mode: SAFE, the commits, and what the entry of the Hub die and of a participant leaves of their stances. -/

namespace Sys2Proof.Machine

/-! ## Reading the stance -/

theorem State.epoch_of_stance {s t : State} (h : t.stance = s.stance) : t.epoch = s.epoch := congrArg Stance.epoch h

theorem State.linksDown_of_stance {s t : State} (h : t.stance = s.stance) : t.linksDown = s.linksDown := congrArg Stance.linksDown h

theorem State.mode_of_stance {s t : State} (h : t.stance = s.stance) (hs : s.mode.door = false) : t.mode = s.mode :=
  Mode.eq_of_settled (congrArg Stance.mode h) hs

theorem State.stance_die (s : State) (d : DieId) : s.stance.dies[d] = (s.die d).stance := Vector.getElem_map _ _

theorem State.die_of_stance {s t : State} (h : t.stance = s.stance) (d : DieId) : (t.die d).stance = (s.die d).stance := by
  rw [← State.stance_die, ← State.stance_die, h]

theorem State.advance_die (s : State) (dt : Nat) (d : DieId) : (s.advance dt).die d = (s.die d).tick dt := Vector.getElem_map _ _

@[simp] theorem State.advance_stance (s : State) (dt : Nat) : (s.advance dt).stance = s.stance := by
  have hdies : (s.dies.map (·.tick dt)).map Die.stance = s.dies.map Die.stance := by
    rw [Vector.map_map]
    rfl
  simp only [State.stance, State.advance_mode, State.advance_epoch, State.advance_commit, State.advance_retry, State.advance_linksDown, State.advance_dies, hdies]

/-- The same update of several dies. -/
theorem State.die_foldState_modDie {l : List DieId} (hl : l.Nodup) (f : Die → Die) (s : State) (e : DieId) :
    (foldState l (fun d t => t.modDie d f) s).die e = if e ∈ l then f (s.die e) else s.die e := by
  induction l generalizing s with
  | nil => simp [foldState]
  | cons d l ih =>
    obtain ⟨hd, hl⟩ := List.nodup_cons.mp hl
    have hstep : foldState (d :: l) (fun d t => t.modDie d f) s = foldState l (fun d t => t.modDie d f) (s.modDie d f) := rfl
    rw [hstep, ih hl, State.die_modDie]
    by_cases he : d = e
    · subst he
      simp [hd]
    · simp [he, Ne.symm he]

theorem participants_nodup : participants.Nodup := by decide

/-- The mode as a commit or SAFE sets it, and the epoch. -/
def State.phase (s : State) : Mode × BitVec 32 := (s.mode.settled, s.epoch)

theorem State.phase_of_stance {s t : State} (h : t.stance = s.stance) : t.phase = s.phase := congrArg (fun x => (x.mode, x.epoch)) h

theorem State.epoch_of_phase {s : State} {m : Mode} {e : BitVec 32} (h : s.phase = (m.settled, e)) : s.epoch = e := congrArg Prod.snd h

theorem State.mode_of_phase {s : State} {m : Mode} {e : BitVec 32} (h : s.phase = (m.settled, e)) (hm : m.door = false) : s.mode = m :=
  Mode.eq_of_settled (congrArg Prod.fst h) hm

/-! ## The entry of a mode -/

/-- The Hub die takes a mode: its own PREPARE and COMMIT are gone (R40, R44). -/
def State.hubTaken (s : State) (new : Mode) : State :=
  { s with mode := new }.modDie 0 fun x => { x with mode := new, epoch := s.epoch, prepare := none, commit := false }

/-- What follows on the Hub die leaves the stance as the mode taken has made it. -/
theorem State.hubEnter_stance (s : State) (new : Mode) : (s.hubEnter new).stance = (s.hubTaken new).stance := by
  unfold State.hubEnter
  extract_lets old moded taken told flushed pulsed cycled mapped power loaded saved taught offed configured claim yieldOver yielded first
    power' sealed safety adopted loading rejoined paired
  have hloaded : loaded.stance = cycled.stance := by simp [loaded, mapped]
  have hyielded : yielded.stance = configured.stance := by
    simp only [yielded]
    split <;> simp [yieldOver]
  have hloading : loading.stance = yielded.stance := by simp [loading, adopted, sealed]
  rw [State.wdgSync_stance]
  calc paired.stance = yielded.stance := by simp [paired, rejoined, hloading]
    _ = loaded.stance := by simp [hyielded, configured, offed, taught, saved]
    _ = told.stance := by simp [hloaded, cycled, pulsed, flushed]
    _ = (s.hubTaken new).stance := by simp only [told, State.raise_stance]; rfl

theorem State.hubEnter_phase (s : State) (new : Mode) : (s.hubEnter new).phase = (new.settled, s.epoch) :=
  State.phase_of_stance (s.hubEnter_stance new)

/-- A participant takes a mode and the Hub die's epoch (R40, R44, R47). -/
def State.dieTaken (s : State) (d : DieId) (new : Mode) : State :=
  s.modDie d fun x => { x with mode := new, epoch := s.epoch, prepare := none, commit := false, missed := false, safeDue := false }

/-- What follows on the participant leaves the stance as the mode taken has made it. -/
theorem State.dieEnter_stance (s : State) (d : DieId) (new : Mode) : (s.dieEnter d new).stance = (s.dieTaken d new).stance := by
  unfold State.dieEnter
  extract_lets old taken
  split
  · exact foldState_stance _ _ _ fun p t => State.portalEnter_stance ..
  · split
    · simp; rfl
    · rfl

theorem State.dieEnter_phase (s : State) (d : DieId) (new : Mode) : (s.dieEnter d new).phase = s.phase :=
  (State.phase_of_stance (s.dieEnter_stance d new)).trans rfl

/-- What a participant holds once it has taken a mode outside door service. -/
theorem State.die_dieEnter (s : State) (d : DieId) {new : Mode} (hnew : new.door = false) :
    ((s.dieEnter d new).die d).mode = new ∧ ((s.dieEnter d new).die d).epoch = s.epoch ∧ ((s.dieEnter d new).die d).prepare = none
      ∧ ((s.dieEnter d new).die d).commit = false ∧ ((s.dieEnter d new).die d).safeDue = false := by
  have hdie := State.die_of_stance (s.dieEnter_stance d new) d
  simp only [State.dieTaken, State.die_modDie, if_pos, Die.stance, DieStance.mk.injEq] at hdie
  obtain ⟨hepoch, hmode, hprepare, hcommit, hsafe⟩ := hdie
  exact ⟨Mode.eq_of_settled hmode hnew, hepoch, hprepare, hcommit, hsafe⟩

/-! ## SAFE (R38, R39, R44) -/

/-- A commit that fails only replies. -/
theorem State.failCommit_field {β : Type} {g : State → β} (hg : ∀ (t : State) (h : Handle), g (t.refuse h stInternal) = g t) (s : State) (c : Option Commit) :
    g (s.failCommit c) = g s := by
  unfold State.failCommit
  split
  · split
    · exact hg _ _
    · rfl
  · rfl

@[simp] theorem State.failCommit_stance (s : State) (c : Option Commit) : (s.failCommit c).stance = s.stance :=
  State.failCommit_field (fun t h => State.refuse_stance t h _) s c
@[simp] theorem State.failCommit_mode (s : State) (c : Option Commit) : (s.failCommit c).mode = s.mode :=
  State.failCommit_field (fun t h => State.refuse_mode t h _) s c
@[simp] theorem State.failCommit_dies (s : State) (c : Option Commit) : (s.failCommit c).dies = s.dies :=
  State.failCommit_field (g := State.dies) (fun _ _ => State.reply_dies _ _ _ _) s c

/-- The device as a SAFE cause leaves it before the entry: its commits have failed. -/
def State.commitsFailed (s : State) : State := (({ s with safety := { s.safety with causeAt := some s.ts } } : State).failCommit s.commit).failCommit s.retry

theorem State.commitsFailed_stance (s : State) : s.commitsFailed.stance = s.stance := by simp [State.commitsFailed]
theorem State.commitsFailed_mode (s : State) : s.commitsFailed.mode = s.mode := by simp [State.commitsFailed]
theorem State.commitsFailed_dies (s : State) : s.commitsFailed.dies = s.dies := by simp [State.commitsFailed]

/-- The next epoch, in which the entry takes place. -/
def State.safeNext (s : State) (b : Nat) : State :=
  { s.commitsFailed with modeCause := 1#16 <<< b, commit := none, retry := none, epoch := s.commitsFailed.epoch + 1 }

/-- SAFE is under way to every participant. -/
def State.safeSent (s : State) (b : Nat) : State := foldState participants (fun d t => t.modDie d fun x => { x with safeDue := true }) (s.safeNext b)

theorem State.die_safeSent (s : State) (b : Nat) {d : DieId} (hd : d ∈ participants) : (s.safeSent b).die d = { s.die d with safeDue := true } := by
  have hnext : (s.safeNext b).die d = s.die d := congrArg (fun v => v[d]) s.commitsFailed_dies
  rw [State.safeSent, State.die_foldState_modDie participants_nodup, if_pos hd, hnext]

/-- In SAFE a cause adds its bit. -/
theorem State.enterSafe_of_safe {s : State} (b : Nat) (h : s.mode = .safe) :
    s.enterSafe b = { s with modeCause := s.modeCause ||| (1#16 <<< b), safety := { s.safety with causeAt := some s.ts } } := by
  simp [State.enterSafe, h]

/-- Outside INIT and SAFE the Hub die enters SAFE. -/
theorem State.enterSafe_of_not_safe {s : State} (b : Nat) (hinit : s.mode ≠ .init) (hsafe : s.mode ≠ .safe) :
    s.enterSafe b = (s.safeSent b).hubEnter .safe := by
  rw [State.enterSafe, if_neg hinit]
  exact if_neg hsafe

theorem State.enterSafe_mode {s : State} (b : Nat) (h : s.mode ≠ .init) : (s.enterSafe b).mode = .safe := by
  by_cases hsafe : s.mode = .safe
  · rw [State.enterSafe_of_safe b hsafe, hsafe]
  · rw [State.enterSafe_of_not_safe b h hsafe]
    exact State.mode_of_phase (State.hubEnter_phase ..) rfl

/-- Settles O17: in SAFE a cause adds its bit; elsewhere the entry starts from the device with SAFE sent, and ends in SAFE. -/
theorem safeEntry : Obligations.SafeEntry := by
  unfold Obligations.SafeEntry
  intro s b hinit
  refine ⟨State.enterSafe_of_safe b, fun hsafe => ?_, State.enterSafe_mode b hinit⟩
  have hsent {β : Type} {g : State → β} (hg : ∀ (t : State) (d : DieId) (f : Die → Die), g (t.modDie d f) = g t) : g (s.safeSent b) = g (s.safeNext b) :=
    foldState_field fun d t => hg t d _
  refine ⟨_, State.enterSafe_of_not_safe b hinit hsafe, ?_, ?_, ?_, ?_, ?_, fun d hd => ?_⟩
  · exact (hsent State.modDie_mode).trans s.commitsFailed_mode
  · exact hsent State.modDie_modeCause
  · exact (hsent State.modDie_epoch).trans (congrArg (· + 1) (State.epoch_of_stance s.commitsFailed_stance))
  · exact hsent State.modDie_commit
  · exact hsent State.modDie_retry
  · rw [State.die_safeSent s b hd]
    exact ⟨rfl, rfl, rfl⟩

end Sys2Proof.Machine
end

section
/-! The requests for a mode, the two-phase commit, and its end. -/

namespace Sys2Proof.Machine

/-! ## MODE_REQUEST (R33, R34, R43) -/

theorem exec_modeRequest {dt : Nat} {c : CmdHeader} {b : Byte} {s : State} (ht : s.Takes 0x20 c [b]) :
    exec (.modeRequest dt c [b]) s = .next ((s.accepted dt c).modeRequest (s.handle 0x20 c) [b]) :=
  congrArg Host.Outcome.next (State.exec_takes dt State.modeRequest ht)

section ModeRequest
variable {s : State} {h : Handle} {b : Byte} (hu : h.unit = 0)
include hu

/-- A code that names no mode, or INIT, STANDBY or DEGRADED, is rejected. -/
theorem State.modeRequest_badParam (hm : (Mode.ofCode b.toNat).all (fun m => m = .init ∨ m = .standby ∨ m = .degraded) = true) :
    s.modeRequest h [b] = s.refuse h stBadParam := by
  unfold State.modeRequest
  rw [if_neg (by simp [hu])]
  cases hcode : Mode.ofCode b.toNat with
  | none =>
    have hcode' : Mode.ofCode ([b].getD 0 0).toNat = none := hcode
    rw [hcode']
  | some m =>
    have hcode' : Mode.ofCode ([b].getD 0 0).toNat = some m := hcode
    have hbad : m = .init ∨ m = .standby ∨ m = .degraded := by simpa [hcode] using hm
    rw [hcode']
    obtain rfl | rfl | rfl := hbad <;> rfl

/-- Another mode is taken at once when it is the present one or SAFE; else a commit or what forbids it decides. -/
theorem State.modeRequest_of_code {m : Mode} (hcode : Mode.ofCode b.toNat = some m) (hinit : m ≠ .init) (hstandby : m ≠ .standby) (hdegraded : m ≠ .degraded) :
    s.modeRequest h [b] = if m = s.mode then s.reply h stDone []
      else if m = .safe then (s.enterSafe 8).reply h stDone []
      else if s.committing ∨ (s.pair 0).scope = .split then s.refuse h stModeForbids
      else match s.modeRefused m with
        | some why => s.reply h why.1 why.2
        | none => (s.reply h stAccepted []).startCommit m (some h) none := by
  have hcode' : Mode.ofCode ([b].getD 0 0).toNat = some m := hcode
  unfold State.modeRequest
  rw [if_neg (by simp [hu]), hcode']
  cases m
  case init => exact absurd rfl hinit
  case standby => exact absurd rfl hstandby
  case degraded => exact absurd rfl hdegraded
  all_goals rfl

end ModeRequest

/-- All participants and the Hub die. -/
theorem dieMask_all : dieMask (0 :: participants) = 0x7F := by decide

/-- A commit that starts with a reply has its T 500 µs ahead of the command, and the next epoch (R40). -/
theorem State.startCommit_reply (s : State) (h : Handle) (status : Nat) (ps : List Byte) (target : Mode) (reply : Option Handle) (takeover : Option Bool) :
    (s.reply h status ps).startCommit target reply takeover
      = { s.reply h status ps with
          commit := some ⟨target, s.epoch + 1, s.ts + BitVec.ofNat 56 50000, 0x7F, 1, none, false, reply, takeover⟩ } := by
  have hts : (s.reply h status ps).ts = s.ts := State.reply_ts ..
  have hepoch : (s.reply h status ps).epoch = s.epoch := State.reply_epoch ..
  rw [← hts, ← hepoch, ← dieMask_all]
  rfl

theorem State.committing_eq_false {s : State} (hcommit : s.commit = none) (hretry : s.retry = none) : s.committing = false := by
  simp [State.committing, hcommit, hretry]

/-- Settles O15: MODE_REQUEST by what the code names, with the commit that the mode manager starts. -/
theorem modeRequests : Obligations.ModeRequests := by
  unfold Obligations.ModeRequests
  rintro dt c b s h ht hu rfl
  have hunit : (s.handle 0x20 c).unit = 0 := hu
  rw [exec_modeRequest ht]
  refine ⟨fun hm => congrArg Host.Outcome.next (State.modeRequest_badParam hunit hm), fun m hcode hinit hstandby hdegraded => ?_⟩
  rw [State.modeRequest_of_code hunit hcode hinit hstandby hdegraded]
  refine ⟨fun hsame => congrArg Host.Outcome.next (if_pos hsame), fun hother hsafe => ?_, fun hother hsafe => ?_⟩
  · exact congrArg Host.Outcome.next ((if_neg hother).trans (if_pos hsafe))
  · have hnew {t : State} : (if m = (s.accepted dt c).mode then (s.accepted dt c).reply (s.handle 0x20 c) stDone []
        else if m = .safe then ((s.accepted dt c).enterSafe 8).reply (s.handle 0x20 c) stDone [] else t) = t := (if_neg hother).trans (if_neg hsafe)
    rw [hnew]
    refine ⟨fun hbusy => ?_, fun hcommit hretry hsplit => ?_⟩
    · have hbusy' : (s.accepted dt c).committing = true ∨ ((s.accepted dt c).pair 0).scope = .split := by
        rw [State.committing, Bool.or_eq_true, or_assoc]
        exact hbusy
      rw [if_pos hbusy']
    · have hidle : ¬((s.accepted dt c).committing = true ∨ ((s.accepted dt c).pair 0).scope = .split) := by
        have hrest : (s.accepted dt c).committing = false := State.committing_eq_false hcommit hretry
        rw [hrest]
        exact not_or.mpr ⟨Bool.false_ne_true, hsplit⟩
      rw [if_neg hidle]
      refine ⟨fun st ps hwhy => ?_, fun hnone => ?_⟩
      · rw [hwhy]
      · rw [hnone]
        exact congrArg Host.Outcome.next (State.startCommit_reply ..)

theorem of_both_guards_eq_none {α : Type} {a b : Bool} {shut no : α} (h : (if !a then some shut else if b then none else some no) = none) :
    a = true ∧ b = true := by
  cases a
  · cases h
  · exact ⟨rfl, by simpa using h⟩

/-- Settles O16, row by row of the transition table. -/
theorem modeTransitions : Obligations.ModeTransitions := by
  unfold Obligations.ModeTransitions
  intro s m h
  unfold State.modeRefused at h
  dsimp only at h
  split at h
  case h_1 hmode => exact .inl ⟨hmode, .inl rfl⟩
  case h_2 hmode => exact .inl ⟨hmode, .inr (.inl rfl)⟩
  case h_3 hmode => exact .inl ⟨hmode, .inr (.inr ⟨rfl, by simpa using h⟩)⟩
  case h_4 hmode =>
    obtain ⟨hseal, hrest⟩ := of_both_guards_eq_none h
    exact .inr (.inl ⟨.inl hmode, hrest, .inr ⟨rfl, hseal⟩⟩)
  case h_5 hmode =>
    obtain ⟨hseal, hrest⟩ := of_both_guards_eq_none h
    exact .inr (.inl ⟨.inr hmode, hrest, .inr ⟨rfl, hseal⟩⟩)
  case h_6 hmode => exact .inr (.inl ⟨.inl hmode, by simpa using h, .inl rfl⟩)
  case h_7 hmode => exact .inr (.inl ⟨.inr hmode, by simpa using h, .inl rfl⟩)
  case h_8 hmode => exact .inr (.inr ⟨.inl hmode, rfl⟩)
  case h_9 hmode => exact .inr (.inr ⟨.inr hmode, rfl⟩)
  case h_10 => cases h

end Sys2Proof.Machine
end

section
/-! The two-phase commit (R39–R44): what its messages do, its decision, and its end. -/

namespace Sys2Proof.Machine

/-! ## What ends a commit -/

@[simp] theorem State.startCommit_phase (s : State) (target : Mode) (reply : Option Handle) (takeover : Option Bool) :
    (s.startCommit target reply takeover).phase = s.phase := rfl

/-- A claim result that waited starts a commit at most. -/
@[simp] theorem State.claimAct_phase (s : State) : s.claimAct.phase = s.phase := by
  unfold State.claimAct
  extract_lets want claim judged warm rejoined
  split
  · rfl
  · split
    · rfl
    · exact (State.startCommit_phase ..).trans (State.phase_of_stance (State.rejoin_stance judged 0 none))

/-- The mode in which a commit ends: its target, and door service or STANDBY for SERVICE (R35, R36). -/
def EndsIn (target new : Mode) : Prop := (target.door = false → new = target) ∧ (target = .service → new.door = true ∨ new = .standby)

/-- A commit takes the device into its epoch, and into a mode that ends its target. -/
theorem State.commitNow_phase (s : State) (c : Commit) : ∃ new, EndsIn c.target new ∧ (s.commitNow c).phase = (new.settled, c.epoch) := by
  unfold State.commitNow
  extract_lets adopted kept new ended partner counted takenOver entered switched replied
  have hnew : EndsIn c.target new := by
    simp only [new]
    split
    next htarget =>
      refine ⟨fun hdoor => ?_, fun _ => ?_⟩
      · rw [htarget] at hdoor
        cases hdoor
      · repeat' split
        · exact .inl rfl
        · exact .inl rfl
        · exact .inr rfl
    next htarget => exact ⟨fun _ => rfl, fun h => absurd h htarget⟩
  have htaken : takenOver.stance = ended.stance := by
    simp only [takenOver]
    split
    · simp only [State.claimEvent_stance]
      split <;> simp [counted]
    · rfl
  have hswitched : switched.phase = entered.phase := by
    refine foldState_field (g := State.phase) fun d t => ?_
    split
    · rfl
    · split
      · exact State.dieEnter_phase ..
      · rfl
  have hreplied : replied.phase = switched.phase := by
    simp only [replied]
    split
    · exact State.phase_of_stance (State.reply_stance ..)
    · rfl
  refine ⟨new, hnew, ?_⟩
  calc replied.claimAct.phase = entered.phase := by rw [State.claimAct_phase, hreplied, hswitched]
    _ = (new.settled, takenOver.epoch) := State.hubEnter_phase ..
    _ = (new.settled, c.epoch) := by rw [State.epoch_of_stance htaken]

/-! ## T, and the repeat (R40, R42) -/

/-- After an abort no participant holds a PREPARE; a first abort waits for its repeat, a second one ends the commit (R42, R357). -/
def State.commitDropped (s : State) : State :=
  foldState participants (fun d t => t.modDie d fun x => { x with prepare := none, commit := false }) { s with commit := none }

/-- What an abort leads to at T. -/
def State.commitAborted (s : State) (c : Commit) : State :=
  if c.repeated then (let t := s.commitDropped.failCommit (some c); if c.takeover.isSome then t.claimFailure else t.claimAct)
  else { s.commitDropped with retry := some { c with due := c.due + BitVec.ofNat 56 100000 } }

/-- At T the decision that the Hub die has made comes into effect. -/
theorem exec_epochCommitTime {dt : Nat} {s : State} {c : Commit} (hc : s.commit = some c)
    (ht : (s.advance dt).elapsed (c.due - BitVec.ofNat 56 50000) 50000 = true) (hpair : c.target ≠ .test ∨ (s.pair 0).scope ≠ .restarting) :
    exec (.epochCommitTime dt) s = .next (match c.decided with
      | none => s.advance dt
      | some true => (s.advance dt).commitNow c
      | some false => (s.advance dt).commitAborted c) := by
  have hc' : (s.advance dt).commit = some c := hc
  have hgo : ¬(!(s.advance dt).elapsed (c.due - BitVec.ofNat 56 (us 500)) (us 500) || (c.target = .test && ((s.advance dt).pair 0).scope = .restarting)) = true := by
    have hpair' : ¬(c.target = .test ∧ ((s.advance dt).pair 0).scope = .restarting) := fun h => hpair.elim (· h.1) (· h.2)
    have ht' : (s.advance dt).elapsed (c.due - BitVec.ofNat 56 (us 500)) (us 500) = true := ht
    simpa [ht'] using hpair'
  show execEpochCommitTime dt s = _
  simp only [execEpochCommitTime, hc', if_neg hgo, State.commitAborted, State.commitDropped]
  rfl

theorem State.commitDropped_field {β : Type} {g : State → β} (hg : ∀ (t : State) (d : DieId) (f : Die → Die), g (t.modDie d f) = g t) (s : State) :
    g s.commitDropped = g { s with commit := none } :=
  foldState_field fun d t => hg t d _

theorem State.prepare_commitDropped (s : State) {d : DieId} (hd : d ∈ participants) : (s.commitDropped.die d).prepare = none := by
  rw [State.commitDropped, State.die_foldState_modDie participants_nodup, if_pos hd]

/-- The Hub die and the participants of a repeat: those that are not fenced out of it (R42). -/
def State.repeatParts (s : State) (c : Commit) : BitVec 8 :=
  dieMask (0 :: participants) &&& ~~~dieMask (participants.filter fun d => s.dieFenced d && (!c.acks.getLsbD d.val || (servedBy d).any fun p => s.present p))

/-- 1 ms after the T of the abort the commit starts anew in the next epoch. -/
theorem exec_commitRepeat {dt : Nat} {s : State} {c : Commit} (hc : s.retry = some c)
    (ht : (s.advance dt).elapsed (c.due - BitVec.ofNat 56 100000) 100000 = true) :
    exec (.commitRepeat dt) s = .next { s.advance dt with retry := none, commit := some { c with
      epoch := s.epoch + 1, due := s.ts + BitVec.ofNat 56 dt + BitVec.ofNat 56 50000, parts := (s.advance dt).repeatParts c, acks := 1, decided := none,
      repeated := true } } := by
  have hc' : (s.advance dt).retry = some c := hc
  have hgo : ¬(!(s.advance dt).elapsed (c.due - BitVec.ofNat 56 (ms 1)) (ms 1)) = true := by
    have ht' : (s.advance dt).elapsed (c.due - BitVec.ofNat 56 (ms 1)) (ms 1) = true := ht
    simp [ht']
  show execCommitRepeat dt s = _
  simp only [execCommitRepeat, hc', if_neg hgo]
  rfl

/-- Settles O19: the end of a commit by its decision, with the mode and the epoch that the commit takes the device into. -/
theorem commitTakesEffect : Obligations.CommitTakesEffect := by
  unfold Obligations.CommitTakesEffect
  intro dt s c
  refine ⟨fun hc ht hpair => ?_, fun hretry ht => ⟨_, _, exec_commitRepeat hretry ht, rfl, rfl, rfl, rfl, rfl, rfl, rfl, rfl⟩⟩
  have hexec := exec_epochCommitTime hc ht hpair
  refine ⟨fun hdec => ?_, fun hdec hrep => ?_, fun hdec hrep htake h hreply => ?_⟩
  · obtain ⟨new, ⟨hnew, hservice⟩, hphase⟩ := (s.advance dt).commitNow_phase c
    rw [hdec] at hexec
    refine ⟨_, hexec, State.epoch_of_phase hphase, fun hdoor => ?_, fun htarget => ?_⟩
    · rw [hnew hdoor] at hphase
      exact State.mode_of_phase hphase hdoor
    · obtain hdoor | rfl := hservice htarget
      · have hend : ((s.advance dt).commitNow c).mode.door = true := Mode.door_of_settled (congrArg Prod.fst hphase) hdoor
        rw [← or_assoc]
        exact .inl (by simpa [Mode.door] using hend)
      · exact .inr (.inr (State.mode_of_phase hphase rfl))
  · rw [hdec] at hexec
    refine ⟨{ (s.advance dt).commitDropped with retry := some { c with due := c.due + BitVec.ofNat 56 100000 } }, ?_,
      State.commitDropped_field State.modDie_mode (s.advance dt), State.commitDropped_field State.modDie_epoch (s.advance dt), State.commitDropped_field State.modDie_commit (s.advance dt), rfl,
      fun d hd => State.prepare_commitDropped (s.advance dt) hd⟩
    rw [hexec, State.commitAborted, if_neg (by simp [hrep])]
  · rw [hdec] at hexec
    refine ⟨(s.advance dt).commitDropped, ?_,
      State.commitDropped_field State.modDie_mode (s.advance dt), State.commitDropped_field State.modDie_epoch (s.advance dt), State.commitDropped_field State.modDie_commit (s.advance dt)⟩
    simp only [hexec, State.commitAborted, State.failCommit, hrep, htake, hreply, if_true, Option.isSome_none, Bool.false_eq_true, if_false]

/-! ## PREPARE, COMMIT, ABORT and SAFE at a participant (R40, R44) -/

section Messages
variable {dt : Nat} {d : DieId} {s : State} {c : Commit}

theorem dieMask_single (d : DieId) : dieMask [d] = BitVec.ofNat 8 (2 ^ d.val) := by simp [dieMask]

/-- A participant holds the PREPARE that reaches it before the decision. -/
def State.prepared (s : State) (d : DieId) (c : Commit) : State := s.modDie d fun x => { x with prepare := some ⟨c.epoch, c.target, c.due⟩ }

/-- The cores of a die run; only the dies 0–2 have a lockstep pair. -/
def State.coresRun (s : State) (d : DieId) : Bool := if h : d.val < 3 then !((s.pair ⟨d.val, h⟩).scope = .restarting || (s.pair ⟨d.val, h⟩).scope = .held) else true

theorem State.coresRun_eq_true (h : ∀ k : Fin 3, k.val = d.val → (s.pair k).scope ≠ .restarting ∧ (s.pair k).scope ≠ .held) : s.coresRun d = true := by
  unfold State.coresRun
  split
  next hd => simp [h ⟨d.val, hd⟩ rfl]
  · rfl

theorem exec_prepareReceived (can : Bool) (hc : s.commit = some c) (hd : d ∈ participants) (hpart : c.parts.getLsbD d.val = true) (hdec : c.decided = none) :
    exec (.prepareReceived dt d can) s = .next (if can && s.coresRun d then
      { (s.advance dt).prepared d c with commit := some { c with acks := c.acks ||| BitVec.ofNat 8 (2 ^ d.val) } } else (s.advance dt).prepared d c) := by
  have hc' : (s.advance dt).commit = some c := hc
  have hgo : (participants.contains d && c.parts.getLsbD d.val && c.decided.isNone) = true := by simp [hd, hpart, hdec]
  show execPrepareReceived dt d can s = _
  simp only [execPrepareReceived, hc', if_pos hgo, dieMask_single]
  rfl

theorem exec_commitReceived (hc : s.commit = some c) (hdec : c.decided = some true) (hprep : (s.die d).prepare.isSome = true) :
    exec (.commitReceived dt d) s = .next ((s.advance dt).modDie d fun x => { x with commit := true }) := by
  have hc' : (s.advance dt).commit = some c := hc
  have hgo : c.decided = some true ∧ ((s.advance dt).die d).prepare.isSome = true := by
    rw [State.advance_die]
    exact ⟨hdec, hprep⟩
  show execCommitReceived dt d s = _
  simp only [execCommitReceived, hc', if_pos hgo]

theorem exec_abortReceived (hc : s.commit = some c) (hdec : c.decided = some false) :
    exec (.abortReceived dt d) s = .next ((s.advance dt).modDie d fun x => { x with prepare := none, commit := false }) := by
  have hc' : (s.advance dt).commit = some c := hc
  show execAbortReceived dt d s = _
  simp only [execAbortReceived, hc', if_pos hdec]

theorem exec_safeReceived (hdue : (s.die d).safeDue = true) : exec (.safeReceived dt d) s = .next ((s.advance dt).dieEnter d .safe) := by
  have hdue' : ((s.advance dt).die d).safeDue = true := by
    rw [State.advance_die]
    exact hdue
  exact congrArg Host.Outcome.next (if_pos hdue')

/-! ## The decision (R40, R42) -/

/-- The participants that have failed to acknowledge. -/
def Commit.missing (c : Commit) : BitVec 8 := c.parts &&& ~~~c.acks

/-- ABORT is sent, with event 39. -/
def State.abortSent (s : State) (c : Commit) : State :=
  ({ s with commit := some { c with decided := some false } } : State).raise 39 0x0027 0 (c.missing.toNat + 256 * bit c.repeated + 65536 * (c.epoch.toNat % 65536))

theorem exec_ackDeadline (hc : s.commit = some c) (hdec : c.decided = none) (ht : (s.advance dt).elapsed (c.due - BitVec.ofNat 56 50000) 40000 = true) :
    exec (.ackDeadline dt) s = .next (if c.missing = 0 then { s.advance dt with commit := some { c with decided := some true } }
      else if c.repeated then (s.advance dt).abortSent c
      else foldState participants (fun d t => if c.missing.getLsbD d.val then t.fenceServed d 0x07 0 else t) ((s.advance dt).abortSent c)) := by
  have hc' : (s.advance dt).commit = some c := hc
  have hgo : ¬(c.decided.isSome || !(s.advance dt).elapsed (c.due - BitVec.ofNat 56 (us 500)) (us 400)) = true := by
    have ht' : (s.advance dt).elapsed (c.due - BitVec.ofNat 56 (us 500)) (us 400) = true := ht
    simp [hdec, ht']
  show execAckDeadline dt s = _
  simp only [execAckDeadline, hc', if_neg hgo]
  rfl

end Messages

/-- Settles O18, message by message, and by the decision at the deadline. -/
theorem commitsRun : Obligations.CommitsRun := by
  unfold Obligations.CommitsRun
  refine ⟨fun dt d s => ⟨fun can c hc hd hpart hdec => ?_, fun c => exec_commitReceived, fun c => exec_abortReceived, fun _ hdue => ?_⟩,
    fun dt s c hc hdec ht => ⟨fun hall => ?_, fun hmissing => ⟨_, rfl, ?_⟩⟩⟩
  · refine ⟨_, rfl, fun hcan => ?_, fun hcan hrun => ?_⟩
    · rw [exec_prepareReceived can hc hd hpart hdec, hcan]
      rfl
    · rw [exec_prepareReceived can hc hd hpart hdec, if_pos (by simp [hcan, State.coresRun_eq_true hrun])]
      rfl
  · obtain ⟨hmode, hepoch, hprepare, hcommit, hsafe⟩ := (s.advance dt).die_dieEnter d (new := .safe) rfl
    exact ⟨_, exec_safeReceived hdue, rfl, hmode, hepoch, hprepare, hcommit, hsafe⟩
  · exact (exec_ackDeadline hc hdec ht).trans (congrArg Host.Outcome.next (if_pos hall))
  · exact (exec_ackDeadline hc hdec ht).trans (congrArg Host.Outcome.next (if_neg hmissing))

end Sys2Proof.Machine
end

section
/-! INIT and TEST. -/

namespace Sys2Proof.Machine

section Init
variable {dt : Nat} {i : InitInputs} {s : State} {retries step : Nat}

/-- The PLLs or the reference clock fail at the first step of INIT (R490). -/
theorem State.initRun_clocks (h : i.pllLocked = false ∨ i.refclkOk = false) :
    s.initRun i retries step = { s with power := { s.power with initFail := some (1, retries, s.ts) } } := by
  have hfail : (!i.pllLocked || !i.refclkOk) = true := by simpa using h
  exact if_pos hfail

/-- The device enters TEST on the chosen bank, and its participants follow (R490). -/
def State.testEntered (s : State) (k : Fin 2) (x : Power) : State :=
  foldState participants (fun d u => u.dieEnter d .test) (({ s with power := { x with running := k, initFail := none }, epoch := 0 } : State).hubEnter .test)

theorem State.testEntered_phase (s : State) (k : Fin 2) (x : Power) : (s.testEntered k x).phase = (Mode.test.settled, 0) :=
  (foldState_field (g := State.phase) fun d t => State.dieEnter_phase t d .test).trans (State.hubEnter_phase _ _)

/-- With every step passed the device enters TEST, and tells the retries that it took and the choice of the bank (R490, R491, R502). -/
theorem State.initRun_passed (hpll : i.pllLocked = true) (hclk : i.refclkOk = true) (hlinks : i.linksUp = true) {k : Fin 2} {x : Power} {evs : List (Nat × Fin 2)}
    (hk : s.power.choose = some (k, x, evs)) :
    s.initRun i retries step = foldState evs (fun e u => u.fwEvent e.1 e.2) (if retries = 0 then s.testEntered k x
      else (s.testEntered k x).raise 51 0x0033 0 (5 + 256 * step + 65536 * min 65535 retries)) := by
  have hclocks : ¬(!i.pllLocked || !i.refclkOk) = true := by simp [hpll, hclk]
  have hup : ¬(!i.linksUp) = true := by simp [hlinks]
  simp only [State.initRun, if_neg hclocks, if_neg hup, hk]
  rfl

theorem State.inInit_eq_true (hinit : s.mode = .init) (hon : s.power.off = false) : s.inInit = true := by simp [State.inInit, hinit, hon]

theorem exec_initComplete (hinit : s.mode = .init) (hon : s.power.off = false) (hfail : s.power.initFail = none) :
    exec (.initComplete dt i) s = .next ((s.advance dt).initRun i 0 0) := by
  have hgo : ((s.advance dt).inInit && (s.advance dt).power.initFail.isNone) = true := by
    rw [State.inInit_eq_true (s := s.advance dt) hinit hon, State.advance_power, hfail]
    rfl
  exact congrArg Host.Outcome.next (if_pos hgo)

theorem exec_initRetry {n : Nat} {b : Ts} (hinit : s.mode = .init) (hon : s.power.off = false) (hfail : s.power.initFail = some (step, n, b))
    (ht : (s.advance dt).elapsed b 10000000 = true) : exec (.initRetry dt i) s = .next ((s.advance dt).initRun i (n + 1) step) := by
  have hfail' : (s.advance dt).power.initFail = some (step, n, b) := hfail
  have hgo : ((s.advance dt).inInit && (s.advance dt).elapsed b (ms 100)) = true := by
    rw [State.inInit_eq_true (s := s.advance dt) hinit hon]
    exact ht
  show execInitRetry dt i s = _
  simp only [execInitRetry, hfail', if_pos hgo]

end Init

/-! ## TEST (R34, R492) -/

section Test
variable {dt : Nat} {f : BitVec 16} {s : State} (htest : s.mode = .test)
include htest

/-- The self-test result is kept. -/
theorem exec_testComplete : exec (.testComplete dt f) s = .next (
    let t : State := { s.advance dt with power := { s.power with selftest := f &&& 0x01FF } }
    if f &&& 0x01FF ≠ 0 then t.enterSafe 0 else if t.recorder.ready ∧ !t.committing then t.startCommit .configure none none else t) := by
  have hgo : ¬(s.advance dt).mode ≠ .test := not_not.mpr htest
  exact congrArg Host.Outcome.next (if_neg hgo)

end Test

/-- Settles O32: INIT by its first step that fails and by the passage of all steps, TEST by its result. -/
theorem initAndTest : Obligations.InitAndTest := by
  unfold Obligations.InitAndTest
  refine ⟨fun dt i s hinit hon hfail => ⟨fun hclocks => ?_, fun hpll hclk hlinks k x evs hk => ?_⟩,
    fun dt i s step n b hinit hon hfail ht hpll hclk hlinks k x evs hk => ?_, fun dt f s htest => ⟨fun hbad => ?_, fun hgood hready hcommit hretry => ?_⟩⟩
  · rw [exec_initComplete hinit hon hfail, State.initRun_clocks hclocks]
    rfl
  · have hphase := (s.advance dt).testEntered_phase k x
    refine ⟨(s.advance dt).testEntered k x, ?_, State.mode_of_phase hphase rfl, State.epoch_of_phase hphase, rfl⟩
    rw [exec_initComplete hinit hon hfail, State.initRun_passed (s := s.advance dt) hpll hclk hlinks hk, if_pos rfl]
  · have hphase := (s.advance dt).testEntered_phase k x
    refine ⟨(s.advance dt).testEntered k x, ?_, State.mode_of_phase hphase rfl, State.epoch_of_phase hphase⟩
    rw [exec_initRetry hinit hon hfail ht, State.initRun_passed (s := s.advance dt) hpll hclk hlinks hk, if_neg n.succ_ne_zero]
  · exact (exec_testComplete htest).trans (congrArg Host.Outcome.next (if_pos hbad))
  · have hidle : (!s.committing) = true := by rw [State.committing_eq_false hcommit hretry]; rfl
    rw [exec_testComplete htest, hgood]
    exact congrArg Host.Outcome.next ((if_neg (not_not.mpr rfl)).trans (if_pos ⟨hready, hidle⟩))

end Sys2Proof.Machine
end

section
/-! The event controller: arrival, release, and the host buffer. -/

namespace Sys2Proof.Machine

/-! ## Arrival (R55) -/

/-- An entry that the order of release places before one that has been released comes late. -/
def State.lateFor (s : State) (e : Event) : Bool :=
  match s.lastRel with
  | some (t, n) => decide (e.ts.toNat < t.toNat ∨ (e.ts = t ∧ e.src < n))
  | none => false

theorem exec_eventArrival {dt : Nat} {d : DieId} {s : State} {e : Event} {l : List Event} (h : (s.die d).raised = e :: l) :
    exec (.eventArrival dt d) s = .next (
      if s.lateFor e then ((s.advance dt).modDie d fun x => { x with raised := l }).release { e with late := true }
      else { (s.advance dt).modDie d fun x => { x with raised := l } with waiting := s.waiting ++ [e] }) := by
  have h' : ((s.advance dt).die d).raised = e :: l := by
    rw [State.advance_die]
    exact h
  show execEventArrival dt d s = _
  simp only [execEventArrival, h']
  rfl

theorem State.lateFor_eq_false {s : State} {e : Event}
    (h : s.lastRel = none ∨ ∃ t n, s.lastRel = some (t, n) ∧ (t.toNat < e.ts.toNat ∨ (t = e.ts ∧ n ≤ e.src))) : s.lateFor e = false := by
  obtain hnone | ⟨t, n, hlast, horder⟩ := h
  · simp only [State.lateFor, hnone]
  · simp only [State.lateFor, hlast, decide_eq_false_iff_not]
    obtain hts | ⟨rfl, hsrc⟩ := horder
    · rintro (hlt | ⟨rfl, -⟩) <;> omega
    · rintro (hlt | ⟨-, hlt⟩) <;> omega

theorem State.lateFor_eq_true {s : State} {e : Event} {t : Ts} {n : Nat} (hlast : s.lastRel = some (t, n))
    (h : e.ts.toNat < t.toNat ∨ (e.ts = t ∧ e.src < n)) : s.lateFor e = true := by
  simp only [State.lateFor, hlast, h, decide_true]

/-! ## Storing (R54, R56) -/

/-- What the recorder takes of an entry touches nothing but the recorder. -/
theorem State.recEvent_field {β : Type} {g : State → β} (hg : ∀ (t : State) (r : Recorder), g { t with recorder := r } = g t) (s : State) (e : Event) :
    g (s.recEvent e) = g s := by
  have hprev (c : Prop) [Decidable c] (r : Recorder) : g (if c then { s with recorder := r } else s) = g s := ite_field (hg s r) rfl
  exact ite_field (hprev _ _) ((hg _ _).trans (hprev _ _))

theorem State.release_buffer (s : State) (e : Event) : (s.release e).buffer = if s.buffer.length < 256 then s.buffer ++ [e] else s.buffer := by
  refine (State.recEvent_field (g := State.buffer) (fun _ _ => rfl) _ e).trans ?_
  rw [State.markSet_buffer]
  exact apply_ite State.buffer ..

theorem State.release_lostEvents (s : State) (e : Event) :
    (s.release e).lostEvents = if s.buffer.length < 256 then s.lostEvents else satInc 65535 s.lostEvents := by
  refine (State.recEvent_field (g := State.lostEvents) (fun _ _ => rfl) _ e).trans ?_
  rw [State.markSet_lostEvents]
  exact apply_ite State.lostEvents ..

theorem State.release_evtPending (s : State) (e : Event) : (s.release e).evtPending = setBit s.evtPending e.src true := by
  refine (State.recEvent_field (g := State.evtPending) (fun _ _ => rfl) _ e).trans ?_
  rw [State.markSet_evtPending]
  exact congrArg (fun x => setBit x e.src true) (ite_field (g := State.evtPending) rfl rfl)

theorem satInc_eq_min (max n : Nat) : satInc max n = min max (n + 1) := by
  unfold satInc
  split <;> omega

theorem getLsbD_setBit_true {n : Nat} (x : BitVec n) {b : Nat} (k : Nat) (hb : b < n) : (setBit x k true).getLsbD b = (decide (b = k) || x.getLsbD b) := by
  have hone : (1#n <<< k).getLsbD b = decide (b = k) := by
    rw [← BitVec.twoPow_eq, BitVec.getLsbD_twoPow]
    by_cases h : b = k
    · simp [← h, hb]
    · simp [h, Ne.symm h]
  rw [setBit, if_pos rfl, BitVec.getLsbD_or, hone, Bool.or_comm]

/-- Settles O27: an entry waits or is late by the order of release; a released one is stored or counted. -/
theorem eventsStored : Obligations.EventsStored := by
  unfold Obligations.EventsStored
  refine ⟨fun dt d s e l h => ⟨fun hlast => ?_, fun t n hlast horder => ?_⟩, fun s e _ => ⟨fun hroom => ?_, fun hfull => ?_, fun b hb => ?_⟩⟩
  · rw [exec_eventArrival h, State.lateFor_eq_false hlast]
    rfl
  · rw [exec_eventArrival h, State.lateFor_eq_true hlast horder]
    rfl
  · rw [State.release_buffer, State.release_lostEvents, if_pos hroom, if_pos hroom]
    exact ⟨rfl, rfl⟩
  · rw [State.release_buffer, State.release_lostEvents, if_neg hfull.not_gt, if_neg hfull.not_gt, satInc_eq_min]
    exact ⟨rfl, rfl⟩
  · rw [State.release_evtPending, getLsbD_setBit_true _ _ hb]

/-! ## Release (R55) -/

/-- No entry stands after one that the order of release places behind it. -/
def InOrder (l : List Event) : Prop := l.Pairwise fun a b => b.before a = false

theorem Event.before_iff {a b : Event} : a.before b = true ↔ a.ts.toNat < b.ts.toNat ∨ (a.ts = b.ts ∧ a.src < b.src) := decide_eq_true_iff

theorem Event.before_asymm {a b : Event} (h : a.before b = true) : b.before a = false := by
  rw [← Bool.not_eq_true, Event.before_iff]
  obtain hlt | ⟨heq, hlt⟩ := Event.before_iff.mp h
  · rintro (hgt | ⟨heq, -⟩)
    · omega
    · rw [heq] at hlt
      omega
  · rw [heq]
    omega

theorem Event.before_trans {a b c : Event} (hab : a.before b = true) (hbc : b.before c = true) : a.before c = true := by
  rw [Event.before_iff] at *
  obtain hab | ⟨heq, hab⟩ := hab
  · obtain hbc | ⟨heq, hbc⟩ := hbc
    · exact .inl (hab.trans hbc)
    · exact .inl (heq ▸ hab)
  · rw [heq]
    exact hbc.imp id fun ⟨heq, hbc⟩ => ⟨heq, hab.trans hbc⟩

/-- The order of release hangs on the time-stamp and the source alone. -/
theorem Event.before_congr {a b c : Event} (hts : a.ts = b.ts) (hsrc : a.src = b.src) : a.before c = b.before c := by
  simp only [Event.before, hts, hsrc]

theorem insertEvent_perm (e : Event) (l : List Event) : (insertEvent e l).Perm (e :: l) := by
  induction l with
  | nil => exact .refl _
  | cons x l ih =>
    rw [insertEvent]
    split
    · exact .refl _
    · exact (ih.cons x).trans (.swap e x l)

theorem InOrder.not_before_head {x y : Event} {l : List Event} (h : InOrder (x :: l)) (hy : y ∈ x :: l) : y.before x ≠ true := by
  obtain rfl | hy := List.mem_cons.mp hy
  · exact fun hyy => Bool.false_ne_true ((Event.before_asymm hyy).symm.trans hyy)
  · exact Bool.eq_false_iff.mp ((List.pairwise_cons.mp h).1 y hy)

/-- An entry that goes before the head of a list in order goes before all of it. -/
theorem InOrder.not_before {e x y : Event} {l : List Event} (h : InOrder (x :: l)) (he : e.before x = true) (hy : y ∈ x :: l) : y.before e = false :=
  Bool.eq_false_iff.mpr fun hye => h.not_before_head hy (Event.before_trans hye he)

theorem InOrder.insertEvent (e : Event) {l : List Event} (h : InOrder l) : InOrder (insertEvent e l) := by
  induction l with
  | nil => exact List.pairwise_singleton _ e
  | cons x l ih =>
    rw [Machine.insertEvent]
    split
    next he => exact List.pairwise_cons.mpr ⟨fun y hy => h.not_before he hy, h⟩
    next he =>
      obtain ⟨hx, hl⟩ := List.pairwise_cons.mp h
      refine List.pairwise_cons.mpr ⟨fun y hy => ?_, ih hl⟩
      obtain rfl | hy := List.mem_cons.mp ((insertEvent_perm e l).mem_iff.mp hy)
      · exact Bool.not_eq_true _ ▸ he
      · exact hx y hy

/-- The time-stamp and the source of an entry. -/
def Event.hasKey (t : Ts) (n : Nat) (e : Event) : Bool := decide (e.ts = t ∧ e.src = n)

theorem Event.before_of_hasKey {t : Ts} {n : Nat} {a b c : Event} (ha : a.hasKey t n = true) (hb : b.hasKey t n = true) : a.before c = b.before c := by
  obtain ⟨hats, hasrc⟩ := of_decide_eq_true ha
  obtain ⟨hbts, hbsrc⟩ := of_decide_eq_true hb
  exact Event.before_congr (hats.trans hbts.symm) (hasrc.trans hbsrc.symm)

/-- An entry goes behind those with its own time-stamp and source. -/
theorem InOrder.filter_insertEvent (t : Ts) (n : Nat) (e : Event) {l : List Event} (h : InOrder l) :
    (Machine.insertEvent e l).filter (·.hasKey t n) = l.filter (·.hasKey t n) ++ [e].filter (·.hasKey t n) := by
  induction l with
  | nil => rfl
  | cons x l ih =>
    rw [Machine.insertEvent]
    split
    next he =>
      by_cases hkey : e.hasKey t n = true
      · have hnone : (x :: l).filter (·.hasKey t n) = [] := by
          refine List.filter_eq_nil_iff.mpr fun y hy hykey => ?_
          exact h.not_before_head hy ((Event.before_of_hasKey hykey hkey).trans he)
        rw [← List.singleton_append, List.filter_append, hnone, List.append_nil, List.nil_append]
      · rw [List.filter_cons_of_neg hkey, List.filter_cons_of_neg hkey]
        exact (List.append_nil _).symm
    next he =>
      rw [List.filter_cons, List.filter_cons, ih (List.pairwise_cons.mp h).2]
      split <;> rfl

/-- The entries of a list put into an order one after the other. -/
def insertEvents (l due : List Event) : List Event := due.foldl (fun l e => insertEvent e l) l

theorem insertEvents_cons (l due : List Event) (e : Event) : insertEvents l (e :: due) = insertEvents (insertEvent e l) due := rfl

theorem insertEvents_perm (l due : List Event) : (insertEvents l due).Perm (l ++ due) := by
  induction due generalizing l with
  | nil => exact .of_eq (List.append_nil l).symm
  | cons e due ih =>
    rw [insertEvents_cons]
    exact (ih _).trans (((insertEvent_perm e l).append_right due).trans List.perm_middle.symm)

theorem InOrder.insertEvents {l : List Event} (h : InOrder l) (due : List Event) : InOrder (insertEvents l due) := by
  induction due generalizing l with
  | nil => exact h
  | cons e due ih => exact ih (h.insertEvent e)

theorem InOrder.filter_insertEvents {l : List Event} (h : InOrder l) (t : Ts) (n : Nat) (due : List Event) :
    (Machine.insertEvents l due).filter (·.hasKey t n) = l.filter (·.hasKey t n) ++ due.filter (·.hasKey t n) := by
  induction due generalizing l with
  | nil => exact (List.append_nil _).symm
  | cons e due ih =>
    rw [insertEvents_cons, ih (h.insertEvent e), h.filter_insertEvent, List.append_assoc, ← List.filter_append, List.singleton_append]

theorem InOrder.nil : InOrder [] := List.Pairwise.nil

theorem exec_eventRelease (dt : Nat) (s : State) :
    exec (.eventRelease dt) s = .next (foldState (insertEvents [] (s.waiting.filter fun e => (s.advance dt).elapsed e.ts 1000)) (fun e t => t.release e)
      { s.advance dt with waiting := s.waiting.filter fun e => !(s.advance dt).elapsed e.ts 1000 }) := by
  show execEventRelease dt s = _
  simp only [execEventRelease, List.partition_eq_filter_filter]
  rfl

/-- Settles O28: the entries that are due are put into the order of release one by one, each behind its equals. -/
theorem eventsReleasedInOrder : Obligations.EventsReleasedInOrder := by
  unfold Obligations.EventsReleasedInOrder
  intro dt s
  refine ⟨_, exec_eventRelease dt s, insertEvents_perm .., InOrder.nil.insertEvents _, fun t n => ?_⟩
  refine (InOrder.nil.filter_insertEvents t n _).trans ?_
  rw [List.filter_nil, List.nil_append, List.filter_filter]
  refine List.filter_congr fun e _ => ?_
  rw [Event.hasKey, Bool.and_comm]
  simp

end Sys2Proof.Machine
end

section
/-! The session opcodes that read, and the links between the dies. -/

namespace Sys2Proof.Machine

/-! ## DEVICE_INFO, EVENT_READ, QUEUE_STATUS and ECHO (R446) -/

section Reads
variable {s : State} {h : Handle} (hu : h.unit = 0) (ps : List Byte)
include hu

theorem State.deviceInfo_device : s.deviceInfo h ps = s.reply h stDone (le 4 Config.unitSerial.toNat ++ le 1 s.mode.code ++ le 4 s.epoch.toNat
      ++ le 1 ((s.power.record.map (·.active)).getD s.power.running).val ++ le 4 (s.power.version s.power.running) ++ leI 1 (s.view.raw 0x9000 0) ++ le 1 h.port.val) :=
  if_neg (not_not.mpr hu)

theorem State.queueStatus_device : s.queueStatus h ps = s.reply h stDone (le 1 (s.port h.port).rxq.length ++ le 1 16 ++ le 1 (s.port h.port).tagCount
      ++ le 16 (s.port h.port).tags.toNat ++ le 2 (min 65535 (s.port h.port).used) ++ le 1 (s.port h.port).fullCount) :=
  if_neg (not_not.mpr hu)

theorem State.echo_device : s.echo h ps = s.reply h stDone ps := if_neg (not_not.mpr hu)

/-- COUNT lies within 1–32 (R54). -/
theorem State.eventRead_device {n : Byte} (hmin : 1 ≤ n.toNat) (hmax : n.toNat ≤ 32) :
    s.eventRead h [n] = { s with buffer := s.buffer.drop n.toNat, lostEvents := 0 }.reply h stDone
      (le 2 s.lostEvents ++ le 1 (s.buffer.take n.toNat).length ++ (s.buffer.take n.toNat).flatMap Event.bytes) := by
  have hcount : ¬(n.toNat < 1 ∨ 32 < n.toNat) := by omega
  exact (if_neg (not_not.mpr hu)).trans (if_neg hcount)

end Reads

/-- Settles O8: each of the four past the checks that every command passes. -/
theorem sessionReads : Obligations.SessionReads := by
  unfold Obligations.SessionReads
  refine ⟨fun dt c ps s hu => ⟨fun ht => ?_, fun ht => ⟨_, _, rfl, ?_, rfl⟩, fun ht => ?_⟩, fun dt c n s ht hu hmin hmax => ?_⟩
  · exact congrArg Host.Outcome.next ((State.exec_takes dt State.deviceInfo ht).trans (State.deviceInfo_device (h := s.handle 0x01 c) hu ps))
  · exact congrArg Host.Outcome.next ((State.exec_takes dt State.queueStatus ht).trans (State.queueStatus_device (h := s.handle 0x06 c) hu ps))
  · exact congrArg Host.Outcome.next ((State.exec_takes dt State.echo ht).trans (State.echo_device (h := s.handle 0x07 c) hu ps))
  · exact congrArg Host.Outcome.next ((State.exec_takes dt State.eventRead ht).trans (State.eventRead_device (h := s.handle 0x05 c) hu hmin hmax))

/-! ## Dealim links (R47, R58, R495) -/

@[simp] theorem State.fenceServed_stance (s : State) (d : DieId) (cause param : Nat) : (s.fenceServed d cause param).stance = s.stance := by
  simp [State.fenceServed]

/-- Event 50 of the die at one end of a link. -/
def State.linkTold (s : State) (link : Fin 11) (kind : Fin 3) (far : Bool) : State :=
  let d := if far then (linkDies link.val).2 else (linkDies link.val).1
  s.raiseAt d 50 0x0032 (uDie d.val) (link.val + 256 * kind.val)

@[simp] theorem State.linkTold_stance (s : State) (link : Fin 11) (kind : Fin 3) (far : Bool) : (s.linkTold link kind far).stance = s.stance :=
  State.raiseAt_stance ..

theorem State.linkTold_linksDown (s : State) (link : Fin 11) (kind : Fin 3) (far : Bool) : (s.linkTold link kind far).linksDown = s.linksDown :=
  State.raiseAt_linksDown ..

/-- A link is marked down. -/
def State.linkLost (s : State) (link : Fin 11) : State := { s with linksDown := s.linksDown ||| (1#11 <<< link.val) }

/-- The portals of a power die whose link to the Hub die is lost are fenced, with the epoch that the die holds. -/
def State.linkFenced (s : State) (link : Fin 11) : State :=
  if decide (2 ≤ link.val) && decide (link.val ≤ 5) then s.fenceServed (linkDies link.val).2 0x08 (s.die (linkDies link.val).2).epoch.toNat else s

@[simp] theorem State.linkFenced_stance (s : State) (link : Fin 11) : (s.linkFenced link).stance = s.stance := by simp [State.linkFenced]

/-- Both links to the portal control dies are down. -/
def State.cutOff (s : State) : Bool := s.linksDown.getLsbD 0 && s.linksDown.getLsbD 1

theorem State.cutOff_linkFenced (s : State) (link : Fin 11) : (s.linkFenced link).cutOff = s.cutOff := by
  rw [State.cutOff, State.linksDown_of_stance (s.linkFenced_stance link), State.cutOff]

/-- Only the first two links lead to the portal control dies. -/
theorem State.cutOff_linkLost {s : State} {link : Fin 11} (hlink : 2 ≤ link.val) : (s.linkLost link).cutOff = s.cutOff := by
  have hbit (b : Nat) (hb : b < 2) : (1#11 <<< link.val).getLsbD b = false := by
    rw [← BitVec.twoPow_eq, BitVec.getLsbD_twoPow, decide_eq_false (by omega : link.val ≠ b), Bool.and_false]
  simp only [State.cutOff, State.linkLost, BitVec.getLsbD_or, hbit 0 (by decide), hbit 1 (by decide), Bool.or_false]

section LinkFault
variable (dt : Nat) (link : Fin 11) (far : Bool) (s : State)

/-- A link is up again. -/
theorem exec_dealimLinkFault_up : exec (.dealimLinkFault dt link 1 far) s
    = .next { (s.advance dt).linkTold link 1 far with linksDown := s.linksDown &&& ~~~(1#11 <<< link.val) } := by
  rw [← State.advance_linksDown s dt, ← State.linkTold_linksDown (s.advance dt) link 1 far]
  rfl

/-- Another fault of a link leaves it as it is. -/
theorem exec_dealimLinkFault_other : exec (.dealimLinkFault dt link 2 far) s = .next ((s.advance dt).linkTold link 2 far) := rfl

/-- A link goes down. -/
theorem exec_dealimLinkFault_down {t : State} (ht : t = ((s.advance dt).linkTold link 0 far).linkLost link) :
    exec (.dealimLinkFault dt link 0 far) s = .next (if t.cutOff then (t.linkFenced link).enterSafe 9 else t.linkFenced link) := by
  subst ht
  rw [← State.cutOff_linkFenced]
  rfl

end LinkFault

/-- The epoch of a die as the loss of a link finds it. -/
theorem State.epoch_die_linkTold (s : State) (dt : Nat) (link : Fin 11) (kind : Fin 3) (far : Bool) (d : DieId) :
    ((((s.advance dt).linkTold link kind far).linkLost link).die d).epoch = (s.die d).epoch := by
  have hstance : ((s.advance dt).linkTold link kind far).stance = s.stance := by simp
  exact congrArg DieStance.epoch (State.die_of_stance hstance d)

theorem State.linkLost_linkTold (s : State) (dt : Nat) (link : Fin 11) (kind : Fin 3) (far : Bool) : ((s.advance dt).linkTold link kind far).linkLost link
    = { (s.advance dt).linkTold link kind far with linksDown := s.linksDown ||| (1#11 <<< link.val) } := by
  rw [State.linkLost, State.linkTold_linksDown, State.advance_linksDown]

theorem State.cutOff_linkTold (s : State) (dt : Nat) (link : Fin 11) (kind : Fin 3) (far : Bool) : ((s.advance dt).linkTold link kind far).cutOff = s.cutOff := by
  rw [State.cutOff, State.linkTold_linksDown, State.advance_linksDown, State.cutOff]

/-- Settles O21: the event of the link, its mark, and what a lost link means for the dies at its ends. -/
theorem linkFaults : Obligations.LinkFaults := by
  unfold Obligations.LinkFaults
  rintro dt link kind far s t d rfl rfl
  refine ⟨?_, ?_, ?_, ?_, ?_⟩
  · rintro rfl
    exact exec_dealimLinkFault_up dt link far s
  · rintro rfl
    exact exec_dealimLinkFault_other dt link far s
  · rintro rfl hlink
    refine ⟨_, s.linkLost_linkTold dt link 0 far, ?_⟩
    have hnone (t : State) : t.linkFenced link = t := if_neg (by simp; omega)
    rw [exec_dealimLinkFault_down dt link far s rfl, hnone]
    rfl
  · rintro rfl hmin hmax hup
    have hpower : (decide (2 ≤ link.val) && decide (link.val ≤ 5)) = true := by simp [hmin, hmax]
    have hnot : ¬s.cutOff = true := Bool.eq_false_iff.mp hup
    rw [exec_dealimLinkFault_down dt link far s rfl, State.cutOff_linkLost hmin, State.cutOff_linkTold, if_neg hnot, State.linkFenced, if_pos hpower,
      State.epoch_die_linkTold, State.linkLost_linkTold]
    rfl
  · rintro rfl hmin hup
    have hother : ¬(decide (2 ≤ link.val) && decide (link.val ≤ 5)) = true := by simp; omega
    have hnot : ¬s.cutOff = true := Bool.eq_false_iff.mp hup
    rw [exec_dealimLinkFault_down dt link far s rfl, State.cutOff_linkLost (by omega), State.cutOff_linkTold, if_neg hnot, State.linkFenced, if_neg hother,
      State.linkLost_linkTold]
    rfl

end Sys2Proof.Machine
end

section
/-! The seal reader, the continuous checks and the end of a load (R305–R309, R493). -/

namespace Sys2Proof.Machine

/-! ## A read whose samples agree (R305, R307, R37) -/

/-- The word of the connector is taken, with an event when it has changed. -/
def State.sealSeen (s : State) (a : BitVec 16) : State :=
  let t := { s with sealer := { s.sealer with live := a, liveKnown := true } }
  if (s.sealer.liveKnown && decide (s.sealer.live ≠ a)) = true then t.sealEvent 0 else t

/-- The mismatches in a row. -/
def State.sealCounted (s : State) (n : Nat) : State := { s with sealer := { s.sealer with mismatches := n, mismatch := decide (2 ≤ n) } }

/-- The mismatches in a row with the word that is read now. -/
def Seal.mismatchCount (x : Seal) : Nat := if (x.committed.isSome && !x.matches) = true then x.mismatches + 1 else 0

/-- The second mismatch in a row is told, and leads to SAFE in the modes that R307 names. -/
def State.sealFaulted (s : State) (n : Nat) (was : Bool) : State :=
  let s := if 2 ≤ n ∧ !was then s.sealEvent 1 else s
  if 2 ≤ n ∧ (s.mode = .configure ∨ s.mode.door ∨ s.mode = .standby ∨ (s.mode = .safe ∧ !was)) then s.enterSafe 1 else s

/-- MAINTAIN is left with SEAL[15] = 0 (R37). -/
def State.sealLeft (s : State) : State := if s.mode = .maintain ∧ !s.sealOpen ∧ s.sealer.commit.isNone then s.leaveMaintain else s

theorem exec_sealRead_differ (dt : Nat) {a b : BitVec 16} (s : State) (h : a ≠ b) : exec (.sealRead dt a b) s = .next (s.advance dt) :=
  congrArg Host.Outcome.next (if_pos h)

theorem exec_sealRead_agree (dt : Nat) (a : BitVec 16) (s : State) {v : State} {n : Nat} (hv : v = (s.advance dt).sealSeen a) (hn : v.sealer.mismatchCount = n) :
    exec (.sealRead dt a a) s = .next ((v.sealCounted n).sealFaulted n v.sealer.mismatch).sealLeft := by
  subst hv hn
  exact congrArg Host.Outcome.next (if_neg (not_not.mpr rfl))

theorem State.sealSeen_mode (s : State) (a : BitVec 16) : (s.sealSeen a).mode = s.mode := ite_field (g := State.mode) rfl rfl

theorem State.sealSeen_sealer (s : State) (a : BitVec 16) : (s.sealSeen a).sealer = { s.sealer with live := a, liveKnown := true } :=
  ite_field (g := State.sealer) rfl rfl

theorem Seal.mismatchCount_of_good {x : Seal} (h : x.committed.isSome → x.matches = true) : x.mismatchCount = 0 :=
  if_neg (by cases hc : x.committed.isSome <;> simp_all)

theorem Seal.mismatchCount_of_bad {x : Seal} (hc : x.committed.isSome) (hm : x.matches = false) : x.mismatchCount = x.mismatches + 1 :=
  if_pos (by simp [hc, hm])

theorem State.sealFaulted_of_lt {s : State} {n : Nat} (was : Bool) (h : n < 2) : s.sealFaulted n was = s := by
  simp only [State.sealFaulted, Nat.not_le.mpr h, false_and, if_false]

theorem State.sealLeft_of_stay {s : State} (h : s.mode ≠ .maintain ∨ s.sealOpen = true) : s.sealLeft = s :=
  if_neg fun ⟨hmode, hclosed, _⟩ => h.elim (· hmode) fun hopen => by simp [hopen] at hclosed

theorem State.sealLeft_of_closed {s : State} (hmode : s.mode = .maintain) (hclosed : s.sealOpen = false) (hc : s.sealer.commit = none) :
    s.sealLeft = s.leaveMaintain :=
  if_pos ⟨hmode, by simp [hclosed], by simp [hc]⟩

/-- The event of the second mismatch. -/
theorem State.sealFaulted_two (s : State) : s.sealFaulted 2 false
    = if s.mode = .configure ∨ s.mode.door ∨ s.mode = .standby ∨ s.mode = .safe then (s.sealEvent 1).enterSafe 1 else s.sealEvent 1 := by
  simp [State.sealFaulted, State.sealEvent]

section SecondMismatch
variable {s : State}

/-- The second mismatch in a row leads to SAFE, where MAINTAIN cannot be left any more. -/
theorem State.sealLeft_sealFaulted_safe (h : s.mode = .configure ∨ s.mode = .standby ∨ s.mode = .service ∨ s.mode = .degraded ∨ s.mode = .safe) :
    (s.sealFaulted 2 false).sealLeft = (s.sealEvent 1).enterSafe 1 := by
  have hinit : (s.sealEvent 1).mode ≠ .init := by
    rintro hinit
    simp [show s.mode = .init from hinit] at h
  rw [State.sealFaulted_two, if_pos (by rcases h with h | h | h | h | h <;> simp [h, Mode.door]), State.sealLeft_of_stay (.inl (by simp [State.enterSafe_mode 1 hinit]))]

/-- In TEST, and in MAINTAIN with SEAL[15] = 1, the second mismatch in a row is only told. -/
theorem State.sealLeft_sealFaulted_stay (h : s.mode = .test ∨ (s.mode = .maintain ∧ s.sealOpen = true)) : (s.sealFaulted 2 false).sealLeft = s.sealEvent 1 := by
  rw [State.sealFaulted_two, if_neg (by rcases h with h | ⟨h, -⟩ <;> simp [h, Mode.door])]
  exact State.sealLeft_of_stay (h.imp (fun h => by rw [State.sealEvent, State.raise_mode, h]; decide) And.right)

end SecondMismatch

section SealRead
variable {dt : Nat} {s v : State} {a : BitVec 16} (hv : v = (s.advance dt).sealSeen a)
include hv

theorem exec_sealRead_good (hgood : v.sealer.committed.isSome → v.sealer.matches = true) : exec (.sealRead dt a a) s = .next (v.sealCounted 0).sealLeft := by
  rw [exec_sealRead_agree dt a s hv (Seal.mismatchCount_of_good hgood), State.sealFaulted_of_lt _ (by decide)]

theorem exec_sealRead_bad {n : Nat} (hc : v.sealer.committed.isSome) (hm : v.sealer.matches = false) (hn : v.sealer.mismatches = n) :
    exec (.sealRead dt a a) s = .next ((v.sealCounted (n + 1)).sealFaulted (n + 1) v.sealer.mismatch).sealLeft :=
  exec_sealRead_agree dt a s hv (by rw [Seal.mismatchCount_of_bad hc hm, hn])

end SealRead

/-! ## The continuous checks (R309) -/

/-- The digest of the shadow differs from that of the block in use, where it counts. -/
def State.shadowBad (s : State) : Bool :=
  match s.sealer.committed with
  | some c => decide (s.sealer.shadow ≠ []) && decide (s.sealer.shadow ≠ c.digest) && decide (s.mode ≠ .maintain) && decide (s.mode ≠ .safe)
  | none => false

theorem State.shadowBad_of_some {s : State} {k : SealCopy} (h : s.sealer.committed = some k) :
    s.shadowBad = (decide (s.sealer.shadow ≠ []) && decide (s.sealer.shadow ≠ k.digest) && decide (s.mode ≠ .maintain) && decide (s.mode ≠ .safe)) := by
  simp only [State.shadowBad, h]

theorem State.shadowBad_eq_false {s : State}
    (h : ∀ k, s.sealer.committed = some k → s.sealer.shadow = [] ∨ s.sealer.shadow = k.digest ∨ s.mode = .maintain ∨ s.mode = .safe) : s.shadowBad = false := by
  cases hc : s.sealer.committed with
  | none => simp only [State.shadowBad, hc]
  | some k => rcases h k hc with hs | hs | hs | hs <;> simp [State.shadowBad_of_some hc, hs]

theorem exec_sealShadowCheck_loaded (dt : Nat) (regsEqual : Bool) {s : State} (hc : s.power.configured) (hl : s.sealer.loading = false) :
    exec (.sealShadowCheck dt regsEqual) s = .next (if !regsEqual || s.shadowBad then ((s.advance dt).sealEvent 4).enterSafe 2 else s.advance dt) := by
  have hrun : ¬(!(s.advance dt).power.configured || (s.advance dt).sealer.loading) = true := by
    rw [State.advance_power, State.advance_sealer, hc, hl]
    decide
  exact congrArg Host.Outcome.next (if_neg hrun)

theorem exec_sealBlockReverify_fails (dt : Nat) {s : State} (hc : s.power.configured) (hk : s.sealer.committed.isSome) :
    exec (.sealBlockReverify dt false) s = .next (({ s.advance dt with sealer := s.sealer.spoil } : State).sealEvent 4 |>.enterSafe 2) := by
  have hrun : ¬(!(s.advance dt).power.configured || (s.advance dt).sealer.committed.isNone || false) = true := by
    simp [hc, Option.isSome_iff_ne_none.mp hk]
  exact congrArg Host.Outcome.next (if_neg hrun)

theorem exec_sealBlockReverify_reads (dt : Nat) (s : State) : exec (.sealBlockReverify dt true) s = .next (s.advance dt) :=
  congrArg Host.Outcome.next (if_pos (Bool.or_true _))

theorem Seal.spoil_live (x : Seal) : x.spoil.live = x.live := by unfold Seal.spoil; split <;> rfl

/-! ## The end of a load (R493) -/

@[simp] theorem State.chanSync_sealer (s : State) (p : PortalId) (c : ChanId) : (s.chanSync p c).sealer = s.sealer := by simp [State.chanSync]

@[simp] theorem State.chansSync_sealer (s : State) (p : PortalId) : (s.chansSync p).sealer = s.sealer :=
  foldState_field fun _ _ => State.chanSync_sealer ..

theorem State.eachPortal_sealer {s : State} {f : PortalId → State → State} (h : ∀ p t, (f p t).sealer = t.sealer) : (s.eachPortal f).sealer = s.sealer :=
  foldState_field h

/-- The fail-safe registers are not the seal reader's word. -/
theorem State.loadFailSafe_live (s : State) (ok : Bool) : (s.loadFailSafe ok).sealer.live = s.sealer.live := by
  have hportal (p : PortalId) (t : State) : (State.chansSync (foldState (List.finRange 8) (fun c u =>
      u.modChan p c fun x => { x with fsReg := if ok then u.parN 0x7002 (uChan p c) else 0 }) t) p).sealer = t.sealer := by
    rw [State.chansSync_sealer]
    exact foldState_field fun _ _ => rfl
  exact (congrArg Seal.live (State.eachPortal_sealer (s := { s with sealer := { s.sealer with fsLoaded := ok } }) hportal) :)

/-- A load has ended, or begins again when it was asked for meanwhile. -/
def State.loadEnded (s : State) : State :=
  { s with sealer := { s.sealer with loading := s.sealer.again, again := false, loadDone := !s.sealer.again, blockOk := s.sealer.committed.isSome } }

/-- No block comes into force: the energy heads are unlatched and the fail-safe registers are OFF. -/
def State.loadNone (s : State) : State := (s.eachPortal fun p t => t.modPortal p fun y => { y with ehLatch := false }).loadFailSafe false

theorem State.loadNone_live (s : State) : s.loadNone.sealer.live = s.sealer.live :=
  (State.loadFailSafe_live ..).trans (congrArg Seal.live (State.eachPortal_sealer fun _ _ => rfl))

/-- The sealed values of a block come into force. -/
def State.loadBlock (s : State) (k : SealCopy) : State :=
  (({ s with sealer := { s.sealer with loaded := k.records, shadow := k.digest, config := configDigest k.records, mismatch := false } } : State).afterLoad s.view).loadFailSafe true

/-- What the end of a load does with the block in use. -/
def State.loadTaken (s : State) : State :=
  match s.sealer.committed with
  | some k =>
    if s.sealer.matches then s.loadEnded.loadBlock k
    else if 2 ≤ s.sealer.mismatches then s.loadEnded.loadNone.enterSafe 1 else s.loadEnded.loadNone
  | none => if s.sealer.blank then s.loadEnded.loadNone else (s.loadEnded.loadNone.sealEvent 4).enterSafe 2

theorem exec_sealLoadComplete (dt : Nat) (s : State) :
    exec (.sealLoadComplete dt) s = .next (if !s.sealer.loading then s.advance dt else (s.advance dt).loadTaken) := rfl

theorem exec_sealLoadComplete_loading (dt : Nat) {s : State} (h : s.sealer.loading = true) :
    exec (.sealLoadComplete dt) s = .next (s.advance dt).loadTaken := by
  rw [exec_sealLoadComplete, h]
  rfl

theorem State.loadTaken_some {s : State} {k : SealCopy} (hk : s.sealer.committed = some k) : s.loadTaken
    = if s.sealer.matches then s.loadEnded.loadBlock k else if 2 ≤ s.sealer.mismatches then s.loadEnded.loadNone.enterSafe 1 else s.loadEnded.loadNone := by
  simp only [State.loadTaken, hk]

theorem State.loadTaken_none {s : State} (hk : s.sealer.committed = none) : s.loadTaken
    = if s.sealer.blank then s.loadEnded.loadNone else (s.loadEnded.loadNone.sealEvent 4).enterSafe 2 := by
  simp only [State.loadTaken, hk]

/-- Settles O26: a read by the word it finds, the checks, and the end of a load by the block that verifies. -/
theorem sealReader : Obligations.SealReader := by
  unfold Obligations.SealReader
  refine ⟨fun dt s a x t hx ht => ?_, ?_, ?_⟩
  · have hseen : t = (s.advance dt).sealSeen a := by
      rw [ht, hx, State.sealSeen]
      simp only [Bool.and_eq_true, decide_eq_true_eq]
      rfl
    have hmode : t.mode = s.mode := by rw [hseen, State.sealSeen_mode]; rfl
    have hlive : x.live = a := by rw [hx]
    have hopen : x.live.getLsbD 15 = a.getLsbD 15 := by rw [hlive]
    obtain rfl : t.sealer = x := by rw [hseen, State.sealSeen_sealer, hx]; rfl
    have hstays {n : Nat} (hstay : s.mode ≠ .maintain ∨ a.getLsbD 15 = true) : (t.sealCounted n).sealLeft = t.sealCounted n :=
      State.sealLeft_of_stay (hstay.imp (hmode ▸ ·) hopen.trans)
    refine ⟨fun b hab => exec_sealRead_differ dt s hab, fun hgood hstay => ?_, fun hc hm h0 hstay => ?_, fun hc hm h1 hfirst u hu => ?_, fun hmaint hclosed hnone hgood => ?_⟩
    · rw [exec_sealRead_good hseen hgood, hstays hstay]
      rfl
    · rw [exec_sealRead_bad hseen hc hm h0, State.sealFaulted_of_lt _ (by decide), hstays hstay]
      rfl
    · have htold : (t.sealCounted 2).sealEvent 1 = u := by rw [hu, ← hlive]; rfl
      have hmode' : (t.sealCounted 2).mode = s.mode := hmode
      rw [exec_sealRead_bad hseen hc hm h1, hfirst, ← htold]
      exact ⟨fun hsafe => congrArg Host.Outcome.next (State.sealLeft_sealFaulted_safe (hmode' ▸ hsafe)),
        fun hstay => congrArg Host.Outcome.next (State.sealLeft_sealFaulted_stay (hmode' ▸ hstay.imp_right (And.imp_right hopen.trans)))⟩
    · rw [exec_sealRead_good hseen hgood, State.sealLeft_of_closed (s := t.sealCounted 0) (hmode.trans hmaint) (hopen.trans hclosed) hnone]
      rfl
  · rintro dt s bad hc rfl
    refine ⟨fun hl => ⟨?_, fun k hk hloaded hbad hmaint hsafe => ?_, fun hgood => ?_⟩, fun hk => ?_, exec_sealBlockReverify_reads dt s⟩
    · exact exec_sealShadowCheck_loaded dt false hc hl
    · rw [exec_sealShadowCheck_loaded dt true hc hl, if_pos (by simp [State.shadowBad_of_some hk, hloaded, hbad, hmaint, hsafe])]
      rfl
    · rw [exec_sealShadowCheck_loaded dt true hc hl, if_neg (by simp [State.shadowBad_eq_false hgood])]
    · rw [exec_sealBlockReverify_fails dt hc hk, State.sealEvent]
      simp only [Seal.spoil_live]
  · rintro dt s t hl rfl
    rw [exec_sealLoadComplete_loading dt hl]
    refine ⟨fun k hk => ⟨fun hm => ?_, fun hm u hu => ?_⟩, fun hk u hu => ?_⟩
    · rw [State.loadTaken_some (s := s.advance dt) hk, State.advance_sealer, if_pos hm]
      rfl
    · rw [State.loadTaken_some (s := s.advance dt) hk, State.advance_sealer, if_neg (Bool.eq_false_iff.mp hm), hu]
      rfl
    · have hlive : u.sealer.live = s.sealer.live := hu ▸ State.loadNone_live _
      rw [State.loadTaken_none (s := s.advance dt) hk, State.advance_sealer, ← hlive, hu]
      rfl

end Sys2Proof.Machine
end

section
/-! PARAM_WRITE of the parameters that act (R10, R57). -/

namespace Sys2Proof.Machine

/-! ## The bits that a clear takes (R57) -/

/-- A sum of powers of two, each taken when its condition holds, has the bits whose condition holds. -/
theorem testBit_foldl_two_pow (f : Nat → Bool) (n b : Nat) :
    ((List.range n).foldl (fun m k => if f k then m + 2 ^ k else m) 0).testBit b = (decide (b < n) && f b)
      ∧ (List.range n).foldl (fun m k => if f k then m + 2 ^ k else m) 0 < 2 ^ n := by
  induction n with
  | zero => simp
  | succ n ih =>
    obtain ⟨hbit, hlt⟩ := ih
    rw [List.range_succ, List.foldl_append, List.foldl_cons, List.foldl_nil]
    generalize (List.range n).foldl (fun m k => if f k then m + 2 ^ k else m) 0 = m at hbit hlt
    have hpow : 2 ^ (n + 1) = 2 ^ n + 2 ^ n := by rw [Nat.pow_succ, Nat.mul_two]
    cases hf : f n with
    | false =>
      refine ⟨?_, by simp only [Bool.false_eq_true, if_false]; omega⟩
      rw [if_neg (by simp), hbit]
      rcases Nat.lt_trichotomy b n with hb | rfl | hb
      · simp [hb, Nat.lt_succ_of_lt hb]
      · simp [hf]
      · simp [Nat.not_lt.mpr (Nat.le_of_lt hb), Nat.not_lt.mpr hb]
    | true =>
      refine ⟨?_, by simp only [if_true]; omega⟩
      rw [if_pos rfl, Nat.add_comm]
      rcases Nat.lt_trichotomy b n with hb | rfl | hb
      · rw [Nat.testBit_two_pow_add_gt hb, hbit]
        simp [hb, Nat.lt_succ_of_lt hb]
      · rw [Nat.testBit_two_pow_add_eq, hbit]
        simp [hf]
      · rw [Nat.testBit_lt_two_pow (Nat.lt_of_lt_of_le (by omega) (Nat.pow_le_pow_right (by decide) hb))]
        simp [Nat.not_lt.mpr hb]

theorem State.testBit_w1cMask (s : State) (pid unit n v b : Nat) :
    (s.w1cMask pid unit n v).testBit b = (decide (b < n) && v.testBit b && !s.isSetNow pid unit b) := by
  rw [Bool.and_assoc]
  exact (testBit_foldl_two_pow (fun b => v.testBit b && !s.isSetNow pid unit b) n b).1

theorem State.getLsbD_clearPending (s : State) (hi : Bool) (v b : Nat) (hb : b < 64) : (s.clearPending hi v).evtPending.getLsbD b
    = (s.evtPending.getLsbD b && !(decide (b / 32 = bit hi) && v.testBit (b % 32) && !s.isSetNow (if hi then 0xE013 else 0xE012) 0 (b % 32))) := by
  have hmask : (BitVec.ofNat 64 (if hi then s.w1cMask (if hi then 0xE013 else 0xE012) 0 32 v * 2 ^ 32 else s.w1cMask (if hi then 0xE013 else 0xE012) 0 32 v)).getLsbD b
      = (decide (b / 32 = bit hi) && v.testBit (b % 32) && !s.isSetNow (if hi then 0xE013 else 0xE012) 0 (b % 32)) := by
    rw [BitVec.getLsbD_ofNat, decide_eq_true hb, Bool.true_and]
    cases hi with
    | false =>
      rw [if_neg (by decide), State.testBit_w1cMask]
      by_cases hlow : b < 32
      · simp [hlow, bit, Nat.div_eq_of_lt hlow, Nat.mod_eq_of_lt hlow]
      · simp [hlow, bit, show b / 32 ≠ 0 by omega]
    | true =>
      rw [if_pos rfl, Nat.testBit_mul_two_pow, State.testBit_w1cMask]
      by_cases hhigh : 32 ≤ b
      · have hdiv : b / 32 = 1 := by omega
        have hmod : b % 32 = b - 32 := by omega
        have hlt : b - 32 < 32 := by omega
        simp [hhigh, hdiv, hmod, hlt, bit]
      · simp [hhigh, bit, show b / 32 ≠ 1 by omega]
  simp only [State.clearPending, BitVec.getLsbD_and, BitVec.getLsbD_not, decide_eq_true hb, Bool.true_and, hmask]

/-! ## Writes of one parameter to a unit -/

theorem unLe_le {w v : Nat} (h : v < 256 ^ w) : unLe (le w v) = v := by
  induction w generalizing v with
  | zero => exact (Nat.lt_one_iff.mp h).symm
  | succ w ih =>
    have hrest : v / 256 < 256 ^ w := Nat.div_lt_of_lt_mul (by rwa [Nat.pow_succ, Nat.mul_comm] at h)
    simp only [le, unLe, ih hrest, BitVec.toNat_ofNat]
    omega

theorem length_le (w v : Nat) : (le w v).length = w := by
  induction w generalizing v with
  | zero => rfl
  | succ w ih => rw [le, List.length_cons, ih]

/-- A unit address that is no group of portals (R20). -/
def singleUnit (u : Nat) : Prop := u ≠ 0x2000 ∧ u / 4096 ≠ 3

theorem State.groupOf_singleUnit (s : State) {u : Nat} (h : singleUnit u) : s.groupOf u = none := by
  obtain ⟨hall, hgroup⟩ := h
  simp [State.groupOf, hall, hgroup]

/-- A write of an unsigned parameter that no check refuses. -/
theorem exec_paramWrite_unsigned {dt : Nat} {c : CmdHeader} {s : State} {pid width v unit : Nat} {d : PDesc} {q : ParamPut}
    (ht : s.Takes 0x11 c (writeParams pid width v)) (hpid : pid < 65536) (hwidth : width < 256) (hv : v < 256 ^ width) (hunit : c.unit.toNat = unit)
    (hone : singleUnit unit) (hd : ParamTable.find pid = some d) (hat : d.atUnit pid unit = true) (hsign : d.signed = false) (hq : q = ⟨d, pid, unit, width, v⟩)
    (hok : (s.accepted dt c).putRefused ((s.accepted dt c).put q) unit q = none) :
    exec (.paramWrite dt c (writeParams pid width v)) s = .next (((s.accepted dt c).writeAll [q]).reply (s.handle 0x11 c) stDone []) := by
  have hnum : ParamRec.num ⟨pid, width, le width v⟩ d = v := by simp [ParamRec.num, hsign, unLe_le hv]
  subst hunit
  rw [exec_paramWrite_unit ht (s.groupOf_singleUnit hone)]
  exact congrArg Host.Outcome.next (State.paramWriteTo_done (h := s.handle 0x11 c) (r := ⟨pid, width, le width v⟩) hpid (length_le width v).symm hwidth hd hat
    (hnum.symm ▸ hq) hok)

/-! ## Parameters that are commands -/

/-- None of the PIDs that are commands lies in a rule that a stored value must keep. -/
theorem commandPids_free : ∀ pid ∈ commandPids, pid ∉ [0x4010, 0x4011, 0xD001, 0xD002, 0x1000, 0x1002, 0x2000, 0x8003] ∧ ownerPid pid = false
    ∧ pid / 0x40 ≠ 0xD3 ∧ pid / 0x40 ≠ 0xD4 ∧ (pid / 0x400 = 0x28 → pid % 0x100 = 0x8B) := by
  decide +kernel

section Command
variable {s : State} {q : ParamPut} (hcmd : q.pid ∈ commandPids)
include hcmd

theorem State.limitRefused_of_command (t : State) : s.limitRefused t q = none := by
  obtain ⟨hfree, -⟩ := commandPids_free q.pid hcmd
  unfold State.limitRefused
  dsimp only
  split
  case h_5 => rfl
  all_goals exact absurd (by simp [*]) hfree

theorem pneuConflict_of_command (v : View) : pneuConflict v q = none := by
  obtain ⟨hfree, -⟩ := commandPids_free q.pid hcmd
  unfold pneuConflict
  dsimp only
  split
  · rfl
  · split
    case h_3 => rfl
    all_goals exact absurd (by simp [*]) hfree

theorem State.filterConflict_of_command : s.filterConflict q = none := by
  obtain ⟨-, -, -, -, hcan⟩ := commandPids_free q.pid hcmd
  unfold State.filterConflict
  split
  · rfl
  next h =>
    have hoff := hcan (not_not.mp h)
    dsimp only
    rw [if_neg (by omega), if_neg (by omega)]

theorem State.ownerRefused_of_command (t : State) : s.ownerRefused t q = none := by
  obtain ⟨-, howner, -, hslot, -⟩ := commandPids_free q.pid hcmd
  simp only [State.ownerRefused, pneuConflict_of_command hcmd, State.filterConflict_of_command hcmd, howner, Bool.false_eq_true, if_false, hslot]

omit s in
theorem ParamPut.rangeRefused_of_command (h : q.desc.inRange q.v = true) : q.rangeRefused = none := by
  obtain ⟨hfree, -, hD3, hD4, -⟩ := commandPids_free q.pid hcmd
  have hstep : q.pid ≠ 0x8003 := by rintro h; exact hfree (by simp [h])
  unfold ParamPut.rangeRefused
  split
  · rfl
  · rfl
  · simp [h, hD3, hD4, hstep]

/-- Only its length, its access and its range can refuse a command. -/
theorem State.putRefused_of_command {t : State} {unit : Nat} (hsize : q.size = q.desc.width) (hacc : s.accessRefused q = none) (hrange : q.rangeRefused = none) :
    s.putRefused t unit q = none := by
  simp [State.putRefused, hsize, hacc, hrange, State.limitRefused_of_command hcmd, State.ownerRefused_of_command hcmd]

theorem State.letGo_of_command : s.letGo q = s := by
  obtain ⟨hfree, -, hD3, hD4, -⟩ := commandPids_free q.pid hcmd
  have hwarn : q.pid ≠ 0x1002 := by rintro h; exact hfree (by simp [h])
  simp [State.letGo, hD3, hD4, hwarn]

theorem State.put_of_command (hd : ParamTable.find q.pid = some q.desc) : s.put q = s := by
  have hacc := find_commandPids q.pid hcmd
  simp only [hd, Option.all_some, Bool.or_eq_true, beq_iff_eq] at hacc
  rcases hacc with (h | h) | h <;> simp [State.put, h]

/-- A command acts, and in MAINTAIN the check of R62 follows. -/
theorem State.writeAll_of_command (hd : ParamTable.find q.pid = some q.desc) :
    s.writeAll [q] = if (s.acted q).mode = .maintain then (s.acted q).runChecks else s.acted q := by
  simp only [State.writeAll, foldState, List.foldl_cons, List.foldl_nil, State.letGo_of_command hcmd, State.put_of_command hcmd hd]

end Command

theorem State.maintain_of_stance {s t : State} (h : t.stance = s.stance) : t.mode = .maintain ↔ s.mode = .maintain :=
  ⟨fun ht => State.mode_of_stance h.symm (by simp [ht, Mode.door]) ▸ ht, fun hs => (State.mode_of_stance h (by simp [hs, Mode.door])).trans hs⟩

/-- The state after a write that made `t` of `s`: in MAINTAIN the check of R62 follows, and the write has answered DONE. -/
def State.writeDone (s : State) (c : CmdHeader) (t : State) : State := (if s.mode = .maintain then t.runChecks else t).reply (s.handle 0x11 c) stDone []

/-- A command that its length, its access and its range let pass acts. -/
theorem exec_paramWrite_command {dt : Nat} {c : CmdHeader} {s u : State} {pid width v unit : Nat} {d : PDesc} (ht : s.Takes 0x11 c (writeParams pid width v))
    (hunit : c.unit.toNat = unit) (hone : singleUnit unit) (hcmd : pid ∈ commandPids) (hpid : pid < 65536) (hwidth : width < 256) (hv : v < 256 ^ width)
    (hd : ParamTable.find pid = some d) (hat : d.atUnit pid unit = true) (hsign : d.signed = false) (hsize : width = d.width)
    (hacc : (s.accepted dt c).accessRefused ⟨d, pid, unit, width, v⟩ = none) (hrange : ParamPut.rangeRefused ⟨d, pid, unit, width, v⟩ = none)
    (hu : (s.accepted dt c).acted ⟨d, pid, unit, width, v⟩ = u) (hmode : u.mode = .maintain ↔ s.mode = .maintain) :
    exec (.paramWrite dt c (writeParams pid width v)) s = .next (s.writeDone c u) := by
  rw [exec_paramWrite_unsigned ht hpid hwidth hv hunit hone hd hat hsign rfl (State.putRefused_of_command hcmd hsize hacc hrange), State.writeAll_of_command hcmd hd, hu,
    State.writeDone]
  simp only [hmode]

/-! ## Units (R18) -/

section Units
variable (p : PortalId)

theorem portal_uLeaf (l : LeafId) (h : uLeaf p l / 256 % 8 < 8) : (⟨uLeaf p l / 256 % 8, h⟩ : PortalId) = p := Fin.ext (by simp only [uLeaf]; omega)

theorem leaf_uLeaf (l : LeafId) (h : uLeaf p l % 2 < 2) : (⟨uLeaf p l % 2, h⟩ : LeafId) = l := Fin.ext (by simp only [uLeaf]; omega)

theorem portal_uChan (ch : ChanId) (h : uChan p ch / 256 % 8 < 8) : (⟨uChan p ch / 256 % 8, h⟩ : PortalId) = p := Fin.ext (by simp only [uChan]; omega)

theorem chan_uChan (ch : ChanId) (h : uChan p ch % 8 < 8) : (⟨uChan p ch % 8, h⟩ : ChanId) = ch := Fin.ext (by simp only [uChan]; omega)

theorem portal_uFb (f : FbId) (h : uFb p f / 256 % 8 < 8) : (⟨uFb p f / 256 % 8, h⟩ : PortalId) = p := Fin.ext (by simp only [uFb]; omega)

theorem fb_uFb (f : FbId) (h : uFb p f % 16 % 3 < 3) : (⟨uFb p f % 16 % 3, h⟩ : FbId) = f := Fin.ext (by simp only [uFb]; omega)

end Units

theorem singleUnit_uLeaf (p : PortalId) (l : LeafId) : singleUnit (uLeaf p l) := by simp only [singleUnit, uLeaf]; omega

theorem singleUnit_uChan (p : PortalId) (ch : ChanId) : singleUnit (uChan p ch) := by simp only [singleUnit, uChan]; omega

theorem singleUnit_uFb (p : PortalId) (f : FbId) : singleUnit (uFb p f) := by simp only [singleUnit, uFb]; omega

theorem singleUnit_uEngine (d : PdId) : singleUnit (uEngine d) := by simp only [singleUnit, uEngine]; omega

theorem singleUnit_zero : singleUnit 0 := ⟨by decide, by decide⟩

theorem engineOf_uEngine : ∀ d : PdId, engineOf (uEngine d) = d := by decide

theorem contains_uLeaf : ∀ (p : PortalId) (l : LeafId), (unitsOf .leaf).contains (uLeaf p l) = true := by decide +kernel

theorem contains_uChan : ∀ (p : PortalId) (ch : ChanId), (unitsOf .channel).contains (uChan p ch) = true := by decide +kernel

theorem contains_uFb : ∀ (p : PortalId) (f : FbId), (unitsOf .feedback).contains (uFb p f) = true := by decide +kernel

/-- Outside the slots and the status of the power dies, a parameter stands at every unit of its scope (R30). -/
theorem PDesc.atUnit_of_contains {d : PDesc} {pid unit : Nat} (h : (unitsOf d.scope).contains unit = true) (hslot : pid / 0x1000 ≠ 3) (hA : pid ≠ 0x7200) (hB : pid ≠ 0x7201) :
    d.atUnit pid unit = true := by
  simp [PDesc.atUnit, List.contains_iff_mem.mp h, hslot, hA, hB]

/-! ## The commands, one by one -/

/-- A PID that the decoder of acting values does not name. -/
def unnamedPid (pid : Nat) : Prop := pid ∉ [0xE012, 0xE013, 0x4080, 0x7080, 0x1002, 0x4020, 0x6015, 0x6016, 0x6000, 0xD001, 0xD002]

theorem State.acted_of_unnamed (s : State) {q : ParamPut} (h : unnamedPid q.pid) : s.acted q
    = if q.pid / 0x40 = 0xC0 then s.clearSat (engineOf q.unit) ⟨q.pid % 0x40, by omega⟩ q.v.toNat
      else if q.pid / 0x400 = 0x28 ∧ q.pid % 0x100 = 0x8B then s.clearCanFlags ⟨q.pid / 0x100 % 4, by omega⟩ q.v.toNat
      else if q.desc.access = .rwCoef then s.modSlot (engineOf q.unit) ⟨q.pid % 0x40, by omega⟩ fun x => { x with wHist := [0, 0, 0] }
      else s := by
  unfold State.acted
  dsimp only
  split
  case h_12 => rfl
  all_goals exact absurd (by simp [*]) h

theorem find_slotStatus : ∀ n : SlotId, ParamTable.find (0x3000 + n.val) = some ⟨0x3000, 0x303F, 2, false, .roW1c, 0, 65535, [], 0, .die⟩ := by decide +kernel

theorem find_canFlags : ∀ n : CanId, ParamTable.find (canPid n 0x8B) = some ⟨canPid n 0x8B, canPid n 0x8B, 1, false, .w1c, 0, 255, [], 0, .device⟩ := by decide +kernel

theorem slotStatus_mem_commandPids (n : SlotId) : 0x3000 + n.val ∈ commandPids :=
  List.mem_append_left _ (List.mem_append_right _ (List.mem_range'_1.mpr (by omega)))

theorem canFlags_mem_commandPids (n : CanId) : canPid n 0x8B ∈ commandPids :=
  List.mem_append_right _ (List.mem_map.mpr ⟨n, List.mem_finRange n, rfl⟩)

theorem atUnit_slotStatus : ∀ (d : PdId) (n : SlotId), PDesc.atUnit ⟨0x3000, 0x303F, 2, false, .roW1c, 0, 65535, [], 0, .die⟩ (0x3000 + n.val) (uEngine d) = true := by
  decide +kernel

@[simp] theorem State.accepted_stance (s : State) (dt : Nat) (c : CmdHeader) : (s.accepted dt c).stance = s.stance := by
  rw [State.accepted, State.takeTag, State.modPort_stance, State.advance_stance]

@[simp] theorem State.fricReset_stance (s : State) (p : PortalId) (l : LeafId) : (s.fricReset p l).stance = s.stance := by simp [State.fricReset]

@[simp] theorem State.fbUnalign_stance (s : State) (p : PortalId) (f : FbId) : (s.fbUnalign p f).stance = s.stance := by
  unfold State.fbUnalign
  split
  · rw [State.modLeaf_stance]
  · rfl

@[simp] theorem State.fbRetype_stance (s : State) (p : PortalId) (f : FbId) : (s.fbRetype p f).stance = s.stance := by simp [State.fbRetype]

/-- A sealed value waits for the commit of the block (R310). -/
def State.sealedPut (s : State) (pid unit : Nat) (v : Int) : State := { s with sealer := { s.sealer with writes := store s.sealer.writes (pid, unit) v } }

@[simp] theorem State.sealedPut_stance (s : State) (pid unit : Nat) (v : Int) : (s.sealedPut pid unit v).stance = s.stance := rfl

/-- FB_TYPE is stored, and its interface starts anew. -/
theorem State.writeAll_fbType (s : State) {p : PortalId} {f : FbId} {q : ParamPut} (hpid : q.pid = 0x6000) (hunit : q.unit = uFb p f) : s.writeAll [q]
    = if ((s.put q).fbRetype p f).mode = .maintain then ((s.put q).fbRetype p f).runChecks else (s.put q).fbRetype p f := by
  have hletGo : s.letGo q = s := by simp [State.letGo, hpid]
  have hacted : (s.put q).acted q = (s.put q).fbRetype p f := by
    obtain ⟨d, pid, unit, size, v⟩ := q
    subst hpid hunit
    show (State.put ..).fbRetype ⟨uFb p f / 256 % 8, _⟩ ⟨uFb p f % 16 % 3, _⟩ = _
    rw [portal_uFb, fb_uFb]
  simp only [State.writeAll, foldState, List.foldl_cons, List.foldl_nil, hletGo, hacted]

section Commands
variable (dt : Nat) {c : CmdHeader} {s : State}

theorem exec_evtPendingClear (hi : Bool) {v : BitVec 32} (ht : s.Takes 0x11 c (writeParams (if hi then 0xE013 else 0xE012) 4 v.toNat)) (hu : c.unit = 0) :
    exec (.evtPendingClear dt c hi v) s = .next (s.writeDone c ((s.accepted dt c).clearPending hi v.toNat)) := by
  cases hi <;>
    exact exec_paramWrite_command ht (congrArg BitVec.toNat hu) singleUnit_zero (by decide) (by decide) (by decide) v.isLt rfl rfl rfl rfl rfl rfl rfl Iff.rfl

theorem exec_satSeenClear {d : PdId} {n : SlotId} {v : BitVec 16} (ht : s.Takes 0x11 c (writeParams (0x3000 + n.val) 2 v.toNat)) (hu : c.unit.toNat = uEngine d) :
    exec (.satSeenClear dt c n v) s = .next (s.writeDone c ((s.accepted dt c).clearSat d n v.toNat)) := by
  have hmode : ((s.accepted dt c).clearSat d n v.toNat).mode = s.mode := ite_field (g := State.mode) rfl rfl
  have hunnamed : unnamedPid (0x3000 + n.val) := by
    simp only [unnamedPid, List.mem_cons, List.not_mem_nil, or_false, not_or]
    omega
  have hslot (h : (0x3000 + n.val) % 0x40 < 64) : (⟨(0x3000 + n.val) % 0x40, h⟩ : SlotId) = n := Fin.ext (by dsimp only; omega)
  refine exec_paramWrite_command ht hu (singleUnit_uEngine d) (slotStatus_mem_commandPids n) (by omega) (by decide) v.isLt (find_slotStatus n) (atUnit_slotStatus d n) rfl rfl rfl rfl ?_
    (hmode ▸ Iff.rfl)
  rw [State.acted_of_unnamed _ hunnamed, if_pos (by dsimp only; omega), engineOf_uEngine, hslot]
  rfl

theorem exec_obstStatusClear {p : PortalId} {l : LeafId} {v : BitVec 16} (ht : s.Takes 0x11 c (writeParams 0x4080 2 v.toNat)) (hu : c.unit.toNat = uLeaf p l) :
    exec (.obstStatusClear dt c v) s = .next (s.writeDone c ((s.accepted dt c).clearObst p l v.toNat)) := by
  refine exec_paramWrite_command ht hu (singleUnit_uLeaf p l) (by decide) (by decide) (by decide) v.isLt rfl
    (PDesc.atUnit_of_contains (contains_uLeaf p l) (by decide) (by decide) (by decide)) rfl rfl rfl rfl ?_ Iff.rfl
  show (s.accepted dt c).clearObst ⟨uLeaf p l / 256 % 8, _⟩ ⟨uLeaf p l % 2, _⟩ v.toNat = _
  rw [portal_uLeaf, leaf_uLeaf]

theorem exec_shutdownSeenClear {p : PortalId} {ch : ChanId} {v : BitVec 16} (ht : s.Takes 0x11 c (writeParams 0x7080 2 v.toNat)) (hu : c.unit.toNat = uChan p ch) :
    exec (.shutdownSeenClear dt c v) s = .next (s.writeDone c ((s.accepted dt c).clearShutdown p ch v.toNat)) := by
  have hmode : ((s.accepted dt c).clearShutdown p ch v.toNat).mode = s.mode := ite_field (g := State.mode) rfl rfl
  refine exec_paramWrite_command ht hu (singleUnit_uChan p ch) (by decide) (by decide) (by decide) v.isLt rfl
    (PDesc.atUnit_of_contains (contains_uChan p ch) (by decide) (by decide) (by decide)) rfl rfl rfl rfl ?_ (hmode ▸ Iff.rfl)
  show (s.accepted dt c).clearShutdown ⟨uChan p ch / 256 % 8, _⟩ ⟨uChan p ch % 8, _⟩ v.toNat = _
  rw [portal_uChan, chan_uChan]

theorem exec_canFlagsClear {n : CanId} {v : Byte} (ht : s.Takes 0x11 c (writeParams (canPid n 0x8B) 1 v.toNat)) (hu : c.unit = 0) :
    exec (.canFlagsClear dt c n v) s = .next (s.writeDone c ((s.accepted dt c).clearCanFlags n v.toNat)) := by
  have hpid : canPid n 0x8B = 0xA08B + 0x100 * n.val := by simp only [canPid]; omega
  have hunnamed : unnamedPid (canPid n 0x8B) := by
    simp only [unnamedPid, hpid, List.mem_cons, List.not_mem_nil, or_false, not_or]
    omega
  have hcan (h : canPid n 0x8B / 0x100 % 4 < 4) : (⟨canPid n 0x8B / 0x100 % 4, h⟩ : CanId) = n := Fin.ext (by dsimp only; omega)
  refine exec_paramWrite_command ht (congrArg BitVec.toNat hu) singleUnit_zero (canFlags_mem_commandPids n) (by omega) (by decide) v.isLt (find_canFlags n)
    (PDesc.atUnit_of_contains rfl (by omega) (by omega) (by omega)) rfl rfl rfl rfl ?_ Iff.rfl
  rw [State.acted_of_unnamed _ hunnamed, if_neg (by dsimp only; omega), if_pos (by dsimp only; omega), hcan]
  rfl

theorem exec_fricReset {p : PortalId} {l : LeafId} (ht : s.Takes 0x11 c (writeParams 0x4020 1 1)) (hu : c.unit.toNat = uLeaf p l) (hmaint : s.mode = .maintain) :
    exec (.fricReset dt c 1) s = .next (s.writeDone c ((s.accepted dt c).fricReset p l)) := by
  have hcmd : 0x4020 ∈ commandPids := by decide
  have hacc : (s.accepted dt c).accessRefused ⟨⟨0x4020, 0x4020, 1, false, .wo, 0, 1, [], 0, .leaf⟩, 0x4020, uLeaf p l, 1, (1 : Nat)⟩ = none :=
    if_pos (decide_eq_true hmaint)
  refine exec_paramWrite_command ht hu (singleUnit_uLeaf p l) hcmd (by decide) (by decide) (by decide) rfl
    (PDesc.atUnit_of_contains (contains_uLeaf p l) (by decide) (by decide) (by decide)) rfl rfl hacc (ParamPut.rangeRefused_of_command hcmd rfl) ?_ (State.maintain_of_stance (by simp))
  show (s.accepted dt c).fricReset ⟨uLeaf p l / 256 % 8, _⟩ ⟨uLeaf p l % 2, _⟩ = _
  rw [portal_uLeaf, leaf_uLeaf]

theorem exec_fbArm {p : PortalId} {f : FbId} (ht : s.Takes 0x11 c (writeParams 0x6015 1 1)) (hu : c.unit.toNat = uFb p f) (hedit : s.mode = .configure ∨ s.mode = .maintain)
    (hindex : s.par 0x6010 (uFb p f) = 2) : exec (.fbArm dt c 1) s
      = .next (s.writeDone c ((s.accepted dt c).modFb p f fun x => { x with armed := true, armedAt := s.ts + BitVec.ofNat 56 dt })) := by
  have hcmd : 0x6015 ∈ commandPids := by decide
  have hacc : (s.accepted dt c).accessRefused ⟨⟨0x6015, 0x6015, 1, false, .wo, 0, 1, [], 0, .feedback⟩, 0x6015, uFb p f, 1, (1 : Nat)⟩ = none :=
    (if_neg (by rcases hedit with h | h <;> simp [show (s.accepted dt c).mode = s.mode from rfl, h])).trans (if_neg (not_not.mpr hindex))
  refine exec_paramWrite_command ht hu (singleUnit_uFb p f) hcmd (by decide) (by decide) (by decide) rfl
    (PDesc.atUnit_of_contains (contains_uFb p f) (by decide) (by decide) (by decide)) rfl rfl hacc (ParamPut.rangeRefused_of_command hcmd rfl) ?_ Iff.rfl
  show (s.accepted dt c).fbArmed ⟨uFb p f / 256 % 8, _⟩ ⟨uFb p f % 16 % 3, _⟩ = _
  rw [portal_uFb, fb_uFb]
  rfl

theorem exec_fbCountClear {p : PortalId} {f : FbId} (ht : s.Takes 0x11 c (writeParams 0x6016 1 1)) (hu : c.unit.toNat = uFb p f) :
    exec (.fbCountClear dt c 1) s = .next (s.writeDone c ((s.accepted dt c).fbCleared p f)) := by
  have hcmd : 0x6016 ∈ commandPids := by decide
  refine exec_paramWrite_command ht hu (singleUnit_uFb p f) hcmd (by decide) (by decide) (by decide) rfl
    (PDesc.atUnit_of_contains (contains_uFb p f) (by decide) (by decide) (by decide)) rfl rfl rfl (ParamPut.rangeRefused_of_command hcmd rfl) ?_ Iff.rfl
  show (s.accepted dt c).fbCleared ⟨uFb p f / 256 % 8, _⟩ ⟨uFb p f % 16 % 3, _⟩ = _
  rw [portal_uFb, fb_uFb]

theorem exec_fbTypeWrite {p : PortalId} {f : FbId} {d : PDesc} {v : Byte} {q : ParamPut} (ht : s.Takes 0x11 c (writeParams 0x6000 1 v.toNat)) (hu : c.unit.toNat = uFb p f)
    (hd : ParamTable.find 0x6000 = some d) (hq : q = ⟨d, 0x6000, uFb p f, 1, v.toNat⟩) (hok : (s.accepted dt c).putRefused ((s.accepted dt c).put q) (uFb p f) q = none) :
    exec (.fbTypeWrite dt c v) s = .next (s.writeDone c (((s.accepted dt c).sealedPut 0x6000 (uFb p f) v.toNat).fbRetype p f)) := by
  obtain rfl : (⟨0x6000, 0x6000, 1, false, .srw, 0, 5, [], 0, .feedback⟩ : PDesc) = d := Option.some.inj hd
  have hput : (s.accepted dt c).put q = (s.accepted dt c).sealedPut 0x6000 (uFb p f) v.toNat := hq ▸ rfl
  have hstance : (((s.accepted dt c).sealedPut 0x6000 (uFb p f) v.toNat).fbRetype p f).stance = s.stance := by simp
  have hwrite : exec (.fbTypeWrite dt c v) s = .next (((s.accepted dt c).writeAll [q]).reply (s.handle 0x11 c) stDone []) :=
    exec_paramWrite_unsigned ht (by decide) (by decide) v.isLt hu (singleUnit_uFb p f) rfl
      (PDesc.atUnit_of_contains (contains_uFb p f) (by decide) (by decide) (by decide)) rfl hq hok
  rw [hwrite, State.writeAll_fbType (p := p) (f := f) _ (congrArg ParamPut.pid hq) (congrArg ParamPut.unit hq), hput, State.writeDone]
  simp only [State.maintain_of_stance hstance]

end Commands

/-- Settles O14: each parameter that acts is a command that its access and its range let pass (FB_TYPE alone holds its value too), and a clear takes the bits of its
mask. -/
theorem clearsAct : Obligations.ClearsAct := by
  unfold Obligations.ClearsAct
  refine ⟨?_, fun s pid unit n v b => State.testBit_w1cMask .., fun s hi v b hb => s.getLsbD_clearPending hi v b hb⟩
  rintro dt c s fin rfl
  refine ⟨fun hi v ht hu => ?_, fun d n v ht hu => ?_, fun p l v ht hu => ?_, fun p ch v ht hu => ?_, fun n v ht hu => ?_, fun p l ht hu hmaint => ?_,
    fun p f ht hu hedit hindex => ?_, fun p f ht hu => ?_, fun p f d v q ht hu hd hq hok => ?_⟩
  · exact exec_evtPendingClear dt hi ht hu
  · exact exec_satSeenClear dt ht hu
  · exact exec_obstStatusClear dt ht hu
  · exact exec_shutdownSeenClear dt ht hu
  · exact exec_canFlagsClear dt ht hu
  · exact exec_fricReset dt ht hu hmaint
  · exact exec_fbArm dt ht hu hedit hindex
  · exact exec_fbCountClear dt ht hu
  · exact exec_fbTypeWrite dt ht hu hd hq hok

end Sys2Proof.Machine
end

section
/-! What the outputs leave alone: the drives, channels, steps, slots, replies and events of a portal do not touch what its sequencer decides on. -/

namespace Sys2Proof.Machine

/-! ## A device without its outputs -/

/-- A place of a vector takes a value that a map does not tell from the old one. -/
theorem map_set_of_eq {α β : Type} {n i : Nat} (v : Vector α n) (hi : i < n) {a : α} {g : α → β} (h : g a = g v[i]) : (v.set i a hi).map g = v.map g := by
  rw [Vector.map_set, h, ← Vector.getElem_map g, Vector.set_getElem_self]

/-- A portal without its drives, step, channels, cycle record and counts, and without the watches of the plausibility checks. -/
def Portal.bare (x : Portal) : Portal :=
  { x with leaves := Portal.reset.leaves, step := Portal.reset.step, chans := Portal.reset.chans, plaus := Portal.reset.plaus, cycle := none,
           warnOn := false, modSince := none, modUntil := none, fsFenced := false, obstTotal := 0 }

/-- A die without the events that it has raised; its mode as a commit or SAFE sets it. -/
def Die.bare (x : Die) : Die := { x with mode := x.mode.settled, raised := [] }

/-- The device without its outputs: events, replies, slots, the recorder and the free values gone, every portal and every die bare. Two states with the
same bare state differ at most in what the sequencer drives, sends and records. -/
def State.bare (s : State) : State :=
  { s with mode := s.mode.settled, dies := s.dies.map Die.bare, portals := s.portals.map Portal.bare, waiting := [], groups := [], free := 0,
           ports := State.reset.ports, engines := State.reset.engines, cans := State.reset.cans, recorder := State.reset.recorder }

@[simp] theorem State.bare_ite (c : Prop) [Decidable c] (s t : State) : (if c then s else t).bare = if c then s.bare else t.bare :=
  apply_ite State.bare c s t

@[simp] theorem foldState_bare {α : Type} (l : List α) (f : α → State → State) (s : State) (h : ∀ a t, (f a t).bare = t.bare) :
    (foldState l f s).bare = s.bare := foldState_field h

theorem State.portal_bare (s : State) (p : PortalId) : s.bare.portal p = (s.portal p).bare := Vector.getElem_map _ _

/-- What a change of a portal changes of the bare portal. -/
theorem State.modPortal_bare_of (s : State) (p : PortalId) {f g : Portal → Portal} (h : (f (s.portal p)).bare = g (s.portal p).bare) :
    (s.modPortal p f).bare = s.bare.modPortal p g := by
  have hset : (s.portals.set p (f (s.portal p))).map Portal.bare = (s.portals.map Portal.bare).set p (g (s.bare.portal p)) := by
    rw [Vector.map_set, h, State.portal_bare]
  simp only [State.modPortal, State.setPortal, State.bare, hset]

/-- A change of a portal that a bare portal shows. -/
theorem State.modPortal_bare (s : State) (p : PortalId) {f : Portal → Portal} (h : ∀ x, (f x).bare = f x.bare) :
    (s.modPortal p f).bare = s.bare.modPortal p f := s.modPortal_bare_of p (h _)

/-- A change of a portal that a bare portal does not show. -/
theorem State.modPortal_bare_same (s : State) (p : PortalId) {f : Portal → Portal} (h : (f (s.portal p)).bare = (s.portal p).bare) :
    (s.modPortal p f).bare = s.bare := by
  simp only [State.modPortal, State.setPortal, State.bare, map_set_of_eq s.portals p.isLt h]

theorem State.modDie_bare_same (s : State) (d : DieId) {f : Die → Die} (h : (f s.dies[d]).bare = s.dies[d].bare) : (s.modDie d f).bare = s.bare := by
  simp only [State.modDie, State.bare, map_set_of_eq s.dies d.isLt h]

/-! ## Parts of the device -/

@[simp] theorem State.modLeaf_bare (s : State) (p : PortalId) (l : LeafId) (f : Leaf → Leaf) : (s.modLeaf p l f).bare = s.bare := s.modPortal_bare_same p rfl
@[simp] theorem State.modDet_bare (s : State) (p : PortalId) (l : LeafId) (f : Detector → Detector) : (s.modDet p l f).bare = s.bare := s.modPortal_bare_same p rfl
@[simp] theorem State.modStep_bare (s : State) (p : PortalId) (f : Step → Step) : (s.modStep p f).bare = s.bare := s.modPortal_bare_same p rfl
@[simp] theorem State.modChan_bare (s : State) (p : PortalId) (c : ChanId) (f : Channel → Channel) : (s.modChan p c f).bare = s.bare := s.modPortal_bare_same p rfl
@[simp] theorem State.modCycle_bare (s : State) (p : PortalId) (f : Cycle → Cycle) : (s.modCycle p f).bare = s.bare := s.modPortal_bare_same p rfl
@[simp] theorem State.modSlot_bare (s : State) (d : PdId) (n : SlotId) (f : Slot → Slot) : (s.modSlot d n f).bare = s.bare := rfl
@[simp] theorem State.modPort_bare (s : State) (n : PortId) (f : Port → Port) : (s.modPort n f).bare = s.bare := rfl

/-! ## Events, replies and the ends of commands -/

@[simp] theorem State.raiseAt_bare (s : State) (d : DieId) (src code unit param : Nat) : (s.raiseAt d src code unit param).bare = s.bare := by
  simp only [State.raiseAt]
  split
  · rfl
  · exact State.modDie_bare_same _ _ rfl

@[simp] theorem State.raise_bare (s : State) (src code unit param : Nat) : (s.raise src code unit param).bare = s.bare := State.raiseAt_bare ..
@[simp] theorem State.raisePortal_bare (s : State) (p : PortalId) (code unit param : Nat) : (s.raisePortal p code unit param).bare = s.bare := State.raiseAt_bare ..
@[simp] theorem State.fsPortalEvent_bare (s : State) (p : PortalId) (set : Bool) (cause : Nat) : (s.fsPortalEvent p set cause).bare = s.bare := State.raiseAt_bare ..

@[simp] theorem State.segPut_bare (s : State) (k : Nat) : (s.segPut k).bare = s.bare := by
  unfold State.segPut
  split <;> rfl

@[simp] theorem State.segLoad_bare (s : State) : s.segLoad.bare = s.bare := by simp [State.segLoad]
@[simp] theorem State.putReply_bare (s : State) (n : PortId) (r : Reply) : (s.putReply n r).bare = s.bare := by simp [State.putReply]
@[simp] theorem State.reply_bare (s : State) (h : Handle) (status : Nat) (params : List Byte) : (s.reply h status params).bare = s.bare := by simp [State.reply]

@[simp] theorem State.groupReply_bare (s : State) (g : GroupOp) : (s.groupReply g).bare = s.bare := by
  unfold State.groupReply
  dsimp only
  split
  · rfl
  · exact State.reply_bare ..

@[simp] theorem State.memberEnd_bare (s : State) (id : Nat) (p : PortalId) (status : Nat) (params : List Byte) : (s.memberEnd id p status params).bare = s.bare :=
  foldState_bare _ _ _ fun _ _ => State.groupReply_bare ..

@[simp] theorem State.finish_bare (s : State) (p : PortalId) (r : CmdRef) (status : Nat) (params : List Byte) : (s.finish p r status params).bare = s.bare := by
  unfold State.finish
  split <;> simp

@[simp] theorem State.finishAll_bare (s : State) (p : PortalId) (l : List CmdRef) (status : Nat) (params : List Byte) : (s.finishAll p l status params).bare = s.bare :=
  foldState_bare _ _ _ fun _ _ => State.finish_bare ..

@[simp] theorem State.memberFails_bare (s : State) (p : PortalId) (c : PCmd) (status outcome : Nat) : (s.memberFails p c status outcome).bare = s.bare := by
  unfold State.memberFails
  split <;> simp

@[simp] theorem State.acceptCmd_bare (s : State) (r : CmdRef) : (s.acceptCmd r).bare = s.bare := by
  unfold State.acceptCmd
  split <;> simp

/-- DEGRADED in place of SERVICE, and back, is no change of mode that a commit makes (R36). -/
@[simp] theorem State.degrade_bare (s : State) : s.degrade.bare = s.bare := by
  unfold State.degrade
  extract_lets anyFenced m old s'
  have hm : m.settled = s.mode.settled := by
    simp only [m]
    split
    next h => rw [h.1]; rfl
    next =>
      split
      next h => rw [h.1]; rfl
      · rfl
  have hdies : (s.dies.map fun (d : Die) => if d.mode = old then { d with mode := m } else d).map Die.bare = s.dies.map Die.bare := by
    rw [Vector.map_map]
    congr 1
    funext d
    simp only [Function.comp]
    split
    next hd => simp only [Die.bare, hd, hm, old]
    · rfl
  split
  · rfl
  · exact (State.raise_bare ..).trans (by simp only [s', State.bare, hm, hdies])

/-! ## Channels -/

@[simp] theorem State.chanSync_bare (s : State) (p : PortalId) (c : ChanId) : (s.chanSync p c).bare = s.bare := by simp [State.chanSync]
@[simp] theorem State.chansSync_bare (s : State) (p : PortalId) : (s.chansSync p).bare = s.bare := foldState_bare _ _ _ fun _ _ => State.chanSync_bare ..

@[simp] theorem State.setRole_bare (s : State) (p : PortalId) (ch : Option Nat) (on : Bool) : (s.setRole p ch on).bare = s.bare := by
  unfold State.setRole
  split
  · split
    · simp
    · rfl
  · rfl

@[simp] theorem State.setLock_bare (s : State) (p : PortalId) (on : Bool) : (s.setLock p on).bare = s.bare := State.setRole_bare ..
@[simp] theorem State.setWarn_bare (s : State) (p : PortalId) (on : Bool) : (s.setWarn p on).bare = s.bare :=
  (State.setRole_bare ..).trans (s.modPortal_bare_same p rfl)
@[simp] theorem State.setValves_bare (s : State) (p : PortalId) (l : LeafId) (op cl : Bool) : (s.setValves p l op cl).bare = s.bare := by simp [State.setValves]

@[simp] theorem State.endPulse_bare (s : State) (p : PortalId) (c : ChanId) (status : Nat) : (s.endPulse p c status).bare = s.bare := by
  unfold State.endPulse
  dsimp only
  split <;> simp

@[simp] theorem State.endPulses_bare (s : State) (p : PortalId) (status : Nat) : (s.endPulses p status).bare = s.bare := by simp [State.endPulses]
@[simp] theorem State.hostOff_bare (s : State) (p : PortalId) : (s.hostOff p).bare = s.bare := (State.chansSync_bare ..).trans (s.modPortal_bare_same p rfl)

@[simp] theorem State.failSafe_bare (s : State) (p : PortalId) : (s.failSafe p).bare = s.bare := by
  have hset : (s.modPortal p fun x => { x with fsFenced := true }).bare = s.bare := s.modPortal_bare_same p rfl
  simp [State.failSafe, hset]

/-! ## Slots and tunes -/

@[simp] theorem State.endTune_bare (s : State) (d : PdId) (n : SlotId) (outcome status : Nat) (results : List Byte) :
    (s.endTune d n outcome status results).bare = s.bare := by
  unfold State.endTune State.drawNat
  split
  · rfl
  · dsimp only
    split
    · simp; rfl
    · simp; rfl

@[simp] theorem State.abortTune_bare (s : State) (d : PdId) (n : SlotId) (outcome status : Nat) : (s.abortTune d n outcome status).bare = s.bare := by simp [State.abortTune]
@[simp] theorem State.abortTunes_bare (s : State) (p : PortalId) (outcome status : Nat) : (s.abortTunes p outcome status).bare = s.bare := by simp [State.abortTunes]
@[simp] theorem State.abortJogTunes_bare (s : State) (p : PortalId) : (s.abortJogTunes p).bare = s.bare := by simp [State.abortJogTunes]
@[simp] theorem State.endClosing_bare (s : State) (d : PdId) (n : SlotId) : (s.endClosing d n).bare = s.bare := by simp [State.endClosing]
@[simp] theorem State.syncSlots_bare (s : State) (p : PortalId) (l : LeafId) : (s.syncSlots p l).bare = s.bare := by simp [State.syncSlots]

/-! ## Leaves -/

@[simp] theorem State.endEfBrake_bare (s : State) (p : PortalId) (l : LeafId) : (s.endEfBrake p l).bare = s.bare := by simp [State.endEfBrake]

@[simp] theorem State.modWatch_bare (s : State) (p : PortalId) : (s.modWatch p).bare = s.bare := by
  refine s.modPortal_bare_same p ?_
  repeat' split
  all_goals rfl

@[simp] theorem State.setDrive_bare (s : State) (p : PortalId) (l : LeafId) (d : Drive) : (s.setDrive p l d).bare = s.bare := by simp [State.setDrive]

@[simp] theorem State.leafBrake_bare (s : State) (p : PortalId) (l : LeafId) : (s.leafBrake p l).bare = s.bare := by
  unfold State.leafBrake
  repeat' split
  all_goals simp

@[simp] theorem State.leafOff_bare (s : State) (p : PortalId) (l : LeafId) : (s.leafOff p l).bare = s.bare := by simp [State.leafOff]
@[simp] theorem State.modulate_bare (s : State) (p : PortalId) (l : LeafId) (d : Drive) : (s.modulate p l d).bare = s.bare := by simp [State.modulate]

@[simp] theorem State.leafWant_bare (s : State) (p : PortalId) (l : LeafId) (d : Drive) : (s.leafWant p l d).bare = s.bare := by
  unfold State.leafWant
  repeat' split
  all_goals simp

@[simp] theorem State.leafHold_bare (s : State) (p : PortalId) (l : LeafId) : (s.leafHold p l).bare = s.bare := State.modLeaf_bare ..
@[simp] theorem State.leafTarget_bare (s : State) (p : PortalId) (l : LeafId) (x : Int) : (s.leafTarget p l x).bare = s.bare := State.modLeaf_bare ..
@[simp] theorem State.leafStopHold_bare (s : State) (p : PortalId) (l : LeafId) : (s.leafStopHold p l).bare = s.bare := by simp [State.leafStopHold]
@[simp] theorem State.leavesStop_bare (s : State) (p : PortalId) : (s.leavesStop p).bare = s.bare := by simp [State.leavesStop]
@[simp] theorem State.latchAll_bare (s : State) (p : PortalId) : (s.latchAll p).bare = s.bare := foldState_bare _ _ _ fun _ _ => State.modLeaf_bare ..

@[simp] theorem State.leafOutputs_bare (s : State) (p : PortalId) (st : PState) : (s.leafOutputs p st).bare = s.bare := by
  refine foldState_bare _ _ _ fun l t => ?_
  repeat' split
  all_goals simp

/-! ## Detectors -/

@[simp] theorem State.undeclare_bare (s : State) (p : PortalId) : (s.undeclare p).bare = s.bare := by simp [State.undeclare]
@[simp] theorem State.notClean_bare (s : State) (p : PortalId) : (s.notClean p).bare = s.bare := by simp [State.notClean]
@[simp] theorem State.clearDeclared_bare (s : State) (p : PortalId) : (s.clearDeclared p).bare = s.bare := by simp [State.clearDeclared]
@[simp] theorem State.motionStart_bare (s : State) (p : PortalId) : (s.motionStart p).bare = s.bare := by simp [State.motionStart]
@[simp] theorem State.traversalStart_bare (s : State) (p : PortalId) : (s.traversalStart p).bare = s.bare := by simp [State.traversalStart]
@[simp] theorem State.learn_bare (s : State) (p : PortalId) (l : LeafId) (isOpen : Bool) : (s.learn p l isOpen).bare = s.bare := by simp [State.learn]
@[simp] theorem State.traversalEnd_bare (s : State) (p : PortalId) (isOpen ended : Bool) : (s.traversalEnd p isOpen ended).bare = s.bare := by simp [State.traversalEnd]

/-! ## The step -/

@[simp] theorem State.stepUncertain_bare (s : State) (p : PortalId) (reason code : Nat) : (s.stepUncertain p reason code).bare = s.bare := by simp [State.stepUncertain]
@[simp] theorem State.stepCatchUp_bare (s : State) (p : PortalId) : (s.stepCatchUp p).bare = s.bare := State.modStep_bare ..
@[simp] theorem State.stepCatchUpTo_bare (s : State) (p : PortalId) : (s.stepCatchUpTo p).bare = s.bare := State.modStep_bare ..
@[simp] theorem State.stepStop_bare (s : State) (p : PortalId) (d : StepDrive) : (s.stepStop p d).bare = s.bare := by simp [State.stepStop]
@[simp] theorem State.stepStopPoint_bare (s : State) (p : PortalId) : (s.stepStopPoint p).bare = s.bare := by simp [State.stepStopPoint]
@[simp] theorem State.setStep_bare (s : State) (p : PortalId) (d : StepDrive) : (s.setStep p d).bare = s.bare := by simp [State.setStep]
@[simp] theorem State.stepStart_bare (s : State) (p : PortalId) : (s.stepStart p).bare = s.bare := State.modStep_bare ..
@[simp] theorem State.homingStart_bare (s : State) (p : PortalId) : (s.homingStart p).bare = s.bare := by simp [State.homingStart]
@[simp] theorem State.stepMove_bare (s : State) (p : PortalId) (x : Int) (job : Nat) : (s.stepMove p x job).bare = s.bare := by simp [State.stepMove]
@[simp] theorem State.stepTask_bare (s : State) (p : PortalId) (deploy : Bool) : (s.stepTask p deploy).bare = s.bare := by simp [State.stepTask]

@[simp] theorem State.stepOutputs_bare (s : State) (p : PortalId) (st : PState) : (s.stepOutputs p st).bare = s.bare := by
  unfold State.stepOutputs
  repeat' split
  all_goals simp

@[simp] theorem State.stepJogCut_bare (s : State) (p : PortalId) : (s.stepJogCut p).bare = s.bare := by
  unfold State.stepJogCut
  split <;> simp

/-! ## Roles, the cycle and obstacles -/

@[simp] theorem State.roleOutputs_bare (s : State) (p : PortalId) (st : PState) : (s.roleOutputs p st).bare = s.bare := by
  unfold State.roleOutputs
  cases st <;> simp

/-- The record of a door cycle is an output. -/
@[simp] theorem State.modPortal_cycle_bare (s : State) (p : PortalId) (c : Option Cycle) : (s.modPortal p fun x => { x with cycle := c }).bare = s.bare :=
  s.modPortal_bare_same p rfl

@[simp] theorem State.recEnqueue_bare (s : State) (e : RecEntry) : (s.recEnqueue e).bare = s.bare := rfl

@[simp] theorem State.cycleEnd_bare (s : State) (p : PortalId) (abandoned : Bool) : (s.cycleEnd p abandoned).bare = s.bare := by
  unfold State.cycleEnd
  split
  · rfl
  · simp

@[simp] theorem State.cycleState_bare (s : State) (p : PortalId) (old new : PState) : (s.cycleState p old new).bare = s.bare := by
  unfold State.cycleState
  cases new <;> simp

@[simp] theorem State.countObst_bare (s : State) (p : PortalId) : (s.countObst p).bare = s.bare := s.modPortal_bare_same p rfl
@[simp] theorem State.obstEvent_bare (s : State) (p : PortalId) (trigger : Nat) (ref : LeafId) : (s.obstEvent p trigger ref).bare = s.bare := by simp [State.obstEvent]

@[simp] theorem State.declStep_bare (s : State) (p : PortalId) : (s.declStep p).bare = s.bare := by
  unfold State.declStep
  dsimp only
  split
  · split
    · exact State.raisePortal_bare ..
    · rfl
  · rfl

@[simp] theorem State.pneuStep_bare (s : State) (p : PortalId) : (s.pneuStep p).bare = s.bare := by
  unfold State.pneuStep
  split
  · rfl
  · exact foldState_bare _ _ _ fun l t => by simp

end Sys2Proof.Machine
end

section
/-! What the sequencer reads, and what its own operations change. -/

namespace Sys2Proof.Machine

/-! ## What the sequencer reads but does not write -/

/-- A portal with only what its sequencer reads and does not write: inputs, feedback and checks. -/
def Portal.senses (x : Portal) : Portal :=
  { x.bare with state := .absent, fenceCause := 0, causes := 0, pendingCause := 0, found := [], recloses := 0, closePending := false, partialOpen := false, closeFailed := false,
                since := 0, timer := none, warn := none, dwell := none, pause := none, openObst := 0, stopPartial := false, closeStart := 0, reopen := Portal.reset.reopen,
                reopenFull := false, openForce := false, openRefs := [], closeForce := false, closeRefs := [], queue := [], jog := none, jogFromOpen := false, lockJog := none,
                jogStop := [], fenceWaits := [], start := 0, lockedSince := none, relPrev := false, fencedHw := false, fenceTotal := 0 }

/-- The device with only what its sequencers read and do not write. -/
def State.senses (s : State) : State := { s.bare with portals := s.portals.map Portal.senses }

theorem State.portal_senses (s : State) (p : PortalId) : s.senses.portal p = (s.portal p).senses := Vector.getElem_map _ _

theorem State.senses_eq (s : State) : s.senses = { s.bare with portals := s.bare.portals.map Portal.senses } := by
  have hmap : (s.portals.map Portal.bare).map Portal.senses = s.portals.map Portal.senses := Vector.map_map ..
  simp only [State.bare, State.senses, hmap]

theorem State.senses_of_bare {s t : State} (h : t.bare = s.bare) : t.senses = s.senses := by rw [State.senses_eq, State.senses_eq, h]

theorem State.modPortal_senses (s : State) (p : PortalId) {f : Portal → Portal} (h : (f (s.portal p)).senses = (s.portal p).senses) :
    (s.modPortal p f).senses = s.senses := by
  simp only [State.modPortal, State.setPortal, State.senses, State.bare, map_set_of_eq s.portals p.isLt h]

theorem Mode.settled_door (m : Mode) : m.settled.door = m.door := by cases m <;> rfl
theorem Mode.settled_runs (m : Mode) : m.settled.runs = m.runs := by cases m <;> rfl

theorem State.pdRuns_senses (s : State) (p : PortalId) : (s.senses.pdMode p).runs = (s.pdMode p).runs := by
  have hdie : s.senses.die (pdDie p) = (s.die (pdDie p)).bare := Vector.getElem_map _ _
  rw [State.pdMode, hdie]
  exact Mode.settled_runs _

section Readers
variable {s t : State} (h : t.senses = s.senses) (p : PortalId)
include h

/-- A value that hangs on what the sequencer reads alone is the same in two states that agree there. -/
theorem State.read_congr {α : Type} {r : State → α} (hr : ∀ u : State, r u.senses = r u) : r t = r s := by rw [← hr t, h, hr]

theorem State.view_congr : t.view = s.view := State.read_congr (r := State.view) h fun _ => rfl
theorem State.ts_congr : t.ts = s.ts := State.read_congr (r := State.ts) h fun _ => rfl
theorem State.zsConfirmed_congr : t.zsConfirmed = s.zsConfirmed := State.read_congr (r := State.zsConfirmed) h fun _ => rfl
theorem State.released_congr : t.released p = s.released p := State.read_congr (r := (State.released · p)) h fun _ => rfl
theorem State.stepFitted_congr : t.stepFitted p = s.stepFitted p := State.read_congr (r := (State.stepFitted · p)) h fun _ => rfl
theorem State.present_congr : t.present p = s.present p := State.read_congr (r := (State.present · p)) h fun _ => rfl
theorem State.pneumatic_congr : t.pneumatic p = s.pneumatic p := State.read_congr (r := (State.pneumatic · p)) h fun _ => rfl
theorem State.leaves_congr : t.leaves p = s.leaves p := State.read_congr (r := (State.leaves · p)) h fun _ => rfl
theorem State.openPos_congr (l : LeafId) : t.openPos p l = s.openPos p l := State.read_congr (r := (State.openPos · p l)) h fun _ => rfl
theorem State.pdRuns_congr : (t.pdMode p).runs = (s.pdMode p).runs := State.read_congr (r := fun u => (u.pdMode p).runs) h fun u => u.pdRuns_senses p

theorem State.seqWorks_congr : t.seqWorks p = s.seqWorks p :=
  State.read_congr (r := (State.seqWorks · p)) h fun u => by
    unfold State.seqWorks
    rw [State.pdRuns_senses]
    rfl

theorem State.wdgExpired_congr : t.wdgExpired = s.wdgExpired :=
  State.read_congr (r := State.wdgExpired) h fun u => by
    unfold State.wdgExpired
    rw [show u.senses.mode.door = u.mode.door from Mode.settled_door _]
    rfl

theorem State.siActive_congr (n : Fin 12) (polBit : Nat) (fitBit : Option Nat) : t.siActive p n polBit fitBit = s.siActive p n polBit fitBit :=
  State.read_congr (r := (State.siActive · p n polBit fitBit)) h fun u => by
    unfold State.siActive
    rw [State.portal_senses]
    rfl

theorem State.pairSt_congr (k : Fin 3) : t.pairSt p k = s.pairSt p k :=
  State.read_congr (r := (State.pairSt · p k)) h fun u => by
    unfold State.pairSt
    rw [State.portal_senses]
    rfl

theorem State.fb_congr (f : FbId) : t.fb p f = s.fb p f :=
  State.read_congr (r := (State.fb · p f)) h fun u => by
    unfold State.fb
    rw [State.portal_senses]
    rfl

theorem State.checkFailed_congr : (t.portal p).checkFailed = (s.portal p).checkFailed :=
  State.read_congr (r := fun u => (u.portal p).checkFailed) h fun u => by
    rw [State.portal_senses]
    rfl

theorem State.par_congr (pid unit : Nat) : t.par pid unit = s.par pid unit := by rw [State.par, State.view_congr h, State.par]
theorem State.parN_congr (pid unit : Nat) : t.parN pid unit = s.parN pid unit := by rw [State.parN, State.par_congr h, State.parN]
theorem State.isActive_congr : t.isActive p = s.isActive p := by rw [State.isActive, State.pairSt_congr h, State.isActive]
theorem State.ehActive_congr : t.ehActive p = s.ehActive p := by rw [State.ehActive, State.pairSt_congr h, State.ehActive]
theorem State.lkLocked_congr : t.lkLocked p = s.lkLocked p := by rw [State.lkLocked, State.pairSt_congr h, State.lkLocked]
theorem State.suspended_congr : t.suspended p = s.suspended p := by rw [State.suspended, State.wdgExpired_congr h, State.checkFailed_congr h, State.suspended]

theorem State.elapsed_congr (a : Ts) (n : Nat) : t.elapsed a n = s.elapsed a n := by rw [State.elapsed, State.ts_congr h, State.elapsed]

theorem State.ran_congr (a : Option Ts) (n : Nat) : t.ran a n = s.ran a n := by
  cases a with
  | none => rfl
  | some a => exact State.elapsed_congr h a n

theorem State.near_congr (l : LeafId) (x : Int) : t.near p l x = s.near p l x := by
  have hx : t.xObs p l = s.xObs p l := by simp only [State.xObs, State.fbX, State.fb_congr h, State.parN_congr h]
  rw [State.near, State.near, hx, State.par_congr h]

theorem State.inWindow_congr : t.inWindow p = s.inWindow p := by simp only [State.inWindow, State.leaves_congr h, State.near_congr h]

theorem State.closedContacts_congr : t.closedContacts p = s.closedContacts p := by
  simp only [State.closedContacts, State.cl0, State.cl1, State.siActive_congr h, State.twoLeaves, State.view_congr h]

theorem State.lockedCond_congr : t.lockedCond p = s.lockedCond p := by
  simp only [State.lockedCond, State.closedContacts_congr h, State.lkLocked_congr h, State.stepFitted_congr h, State.stw, State.siActive_congr h, State.inWindow_congr h]

theorem State.timedOut_congr (k : Nat) (a : Option Ts) : t.timedOut p k a = s.timedOut p k a := State.read_congr (r := (State.timedOut · p k a)) h fun _ => rfl

end Readers

/-! ## Portals whose bare state is known -/

theorem State.modPortal_congr {s : State} {p : PortalId} {f g : Portal → Portal} (h : f (s.portal p) = g (s.portal p)) : s.modPortal p f = s.modPortal p g := by
  rw [State.modPortal, h, State.modPortal]

theorem State.modPortal_self {s : State} {p : PortalId} {f : Portal → Portal} (h : f (s.portal p) = s.portal p) : s.modPortal p f = s := by
  rw [State.modPortal, h, State.setPortal, State.portal, Fin.getElem_fin, Vector.set_getElem_self]

theorem State.modPortal_modPortal (s : State) (p : PortalId) (f g : Portal → Portal) : (s.modPortal p f).modPortal p g = s.modPortal p fun x => g (f x) := by
  simp only [State.modPortal, State.setPortal, State.portal, Fin.getElem_fin, Vector.getElem_set_self, Vector.set_set]

/-- What a bare portal shows of a portal is the same in two states with the same bare state. -/
theorem State.field_of_bare {s t : State} {α : Type} (g : Portal → α) (hg : ∀ x : Portal, g x.bare = g x) (h : t.bare = s.bare) (p : PortalId) :
    g (t.portal p) = g (s.portal p) := by
  rw [← hg (t.portal p), ← State.portal_bare, h, State.portal_bare, hg]

section Visible
variable {s t : State} {p : PortalId} {f : Portal → Portal} (h : t.bare = s.bare.modPortal p f)
include h

theorem State.portal_of_visible : (t.portal p).bare = f (s.portal p).bare := by
  rw [← State.portal_bare, h, State.portal_modPortal, if_pos rfl, State.portal_bare]

theorem State.senses_of_visible (hf : ∀ x : Portal, (f x).senses = x.senses) : t.senses = s.senses := by
  rw [State.senses_eq, State.senses_eq s, h]
  have hf' : (f (s.bare.portal p)).senses = s.bare.portals[p.val].senses := hf _
  simp only [State.modPortal, State.setPortal, map_set_of_eq s.bare.portals p.isLt hf']

end Visible

/-- What a bare portal shows of a portal that a change has reached. -/
theorem State.field_of_visible {s t : State} {p : PortalId} {f : Portal → Portal} {α : Type} (g : Portal → α) (hg : ∀ x : Portal, g x.bare = g x)
    (h : t.bare = s.bare.modPortal p f) : g (t.portal p) = g (f (s.portal p).bare) := by
  rw [← hg, State.portal_of_visible h]

/-- What a bare portal shows of a portal that a change has not reached. -/
theorem State.field_of_visible_ne {s t : State} {p q : PortalId} {f : Portal → Portal} {α : Type} (g : Portal → α) (hg : ∀ x : Portal, g x.bare = g x)
    (h : t.bare = s.bare.modPortal p f) (hq : q ≠ p) : g (t.portal q) = g (s.portal q) := by
  rw [← hg, ← State.portal_bare, h, State.portal_modPortal, if_neg hq.symm, State.portal_bare, hg]

end Sys2Proof.Machine
end

section
/-! What entering a state, stopping and fencing change of a portal, up to its outputs. -/

namespace Sys2Proof.Machine

/-! ## Entering a state -/

/-- A portal in a state, with the time of entry and the start of its timeout. -/
def Portal.inState (st : PState) (since : Ts) (timer : Option Ts) (x : Portal) : Portal := { x with state := st, since := since, timer := timer }

/-- A portal that has entered a state: warning, dwell, pause and the obstacles of an opening are gone, and what only OPEN keeps. -/
def Portal.entered (st : PState) (since : Ts) (timer : Option Ts) (x : Portal) : Portal :=
  { x with state := st, since := since, timer := timer, partialOpen := x.partialOpen && decide (st = .open), closePending := x.closePending && decide (st = .open),
           warn := none, dwell := none, pause := none, stopPartial := false, openObst := 0 }

theorem State.setPState_bare (s : State) (p : PortalId) (st : PState) :
    ∃ since timer, (s.setPState p st).bare = s.bare.modPortal p (Portal.inState st since timer) := by
  unfold State.setPState
  dsimp only
  split
  next hst =>
    refine ⟨(s.portal p).since, (s.portal p).timer, ?_⟩
    rw [State.modPortal_self]
    rw [State.portal_bare, ← hst]
    rfl
  next =>
    refine ⟨s.ts, some s.ts, Eq.trans ?_ (s.modPortal_bare p (f := Portal.inState st s.ts (some s.ts)) fun _ => rfl)⟩
    split
    · exact State.raisePortal_bare ..
    · exact (State.undeclare_bare ..).trans (State.raisePortal_bare ..)

theorem State.enter_bare (s : State) (p : PortalId) (st : PState) :
    ∃ since timer, (s.enter p st).bare = s.bare.modPortal p (Portal.entered st since timer) := by
  obtain ⟨since, timer, hset⟩ := s.setPState_bare p st
  unfold State.enter
  extract_lets old s1 s2 s3 s4 s5 s6
  have h2 : s2.bare = s.bare.modPortal p (Portal.inState st since timer) := by
    rw [← hset]
    simp only [s2]
    generalize old = o
    cases o <;> simp [s1]
  have h3 : s3.bare = s.bare.modPortal p (Portal.entered st since timer) := by
    simp only [s3]
    rw [State.modPortal_bare, h2, State.modPortal_modPortal]
    · rfl
    · exact fun _ => rfl
  have h5 : s5.bare = s.bare.modPortal p (Portal.entered st since timer) := by
    rw [← h3]
    simp only [s5]
    split <;> simp [s4]
  have h6 : s6.bare = s.bare.modPortal p (Portal.entered st since timer) := by simp [s6, h5]
  split
  · refine ⟨since, none, ?_⟩
    rw [State.modPortal_bare, h6, State.modPortal_modPortal]
    · rfl
    · exact fun _ => rfl
  · exact ⟨since, timer, h6⟩

theorem State.state_enter (s : State) (p : PortalId) (st : PState) : ((s.enter p st).portal p).state = st := by
  obtain ⟨since, timer, h⟩ := s.enter_bare p st
  exact State.field_of_visible Portal.state (fun _ => rfl) h

theorem State.state_enter_ne (s : State) {p q : PortalId} (st : PState) (hq : q ≠ p) : ((s.enter p st).portal q).state = (s.portal q).state := by
  obtain ⟨since, timer, h⟩ := s.enter_bare p st
  exact State.field_of_visible_ne Portal.state (fun _ => rfl) h hq

theorem State.enter_senses (s : State) (p : PortalId) (st : PState) : (s.enter p st).senses = s.senses := by
  obtain ⟨since, timer, h⟩ := s.enter_bare p st
  exact State.senses_of_visible h fun _ => rfl

/-- A portal that has reached LOCKED. -/
def Portal.enteredLocked (since : Ts) (timer : Option Ts) (x : Portal) : Portal :=
  { x.entered .locked since timer with recloses := 0, closeForce := false, closeRefs := [] }

theorem State.enterLocked_bare (s : State) (p : PortalId) :
    ∃ since timer, (s.enterLocked p).bare = s.bare.modPortal p (Portal.enteredLocked since timer) := by
  obtain ⟨since, timer, h⟩ := s.enter_bare p .locked
  refine ⟨since, timer, ?_⟩
  unfold State.enterLocked
  rw [State.finishAll_bare, State.modPortal_bare, h, State.modPortal_modPortal]
  · rfl
  · exact fun _ => rfl

/-- A portal that has reached OPEN, at OPEN_POS or short of it. -/
def Portal.enteredOpen (part : Bool) (since : Ts) (timer : Option Ts) (x : Portal) : Portal :=
  { ({ x with partialOpen := part } : Portal).entered .open since timer with openForce := false, openRefs := [] }

theorem State.enterOpen_bare (s : State) (p : PortalId) (part : Bool) :
    ∃ since timer, (s.enterOpen p part).bare = s.bare.modPortal p (Portal.enteredOpen part since timer) := by
  unfold State.enterOpen
  extract_lets s1 s2 refs s3
  have h1 : s1.bare = s.bare.modPortal p fun x => { x with partialOpen := part } := by
    cases part <;> exact s.modPortal_bare_of p rfl
  obtain ⟨since, timer, h2⟩ := s1.enter_bare p .open
  refine ⟨since, timer, ?_⟩
  simp only [s3, s2]
  rw [State.finishAll_bare, State.modPortal_bare, h2, h1, State.modPortal_modPortal, State.modPortal_modPortal]
  · rfl
  · exact fun _ => rfl

/-- A portal in which CLOSING has begun, perhaps as a reclose. -/
def Portal.enteredClosing (reclose : Bool) (since : Ts) (timer : Option Ts) (x : Portal) : Portal :=
  let n := if reclose then min 10 (x.recloses + 1) else x.recloses
  ({ x with recloses := n, closeStart := n } : Portal).entered .closing since timer

theorem State.enterClosing_bare (s : State) (p : PortalId) (reclose : Bool) :
    ∃ since timer, (s.enterClosing p reclose).bare = s.bare.modPortal p (Portal.enteredClosing reclose since timer) := by
  unfold State.enterClosing
  extract_lets s1 s2
  have h1 : s1.bare = s.bare.modPortal p fun x => { x with recloses := if reclose then min 10 (x.recloses + 1) else x.recloses } := by
    cases reclose <;> exact s.modPortal_bare_of p rfl
  obtain ⟨since, timer, h2⟩ := s2.enter_bare p .closing
  refine ⟨since, timer, ?_⟩
  simp only [s2] at h2 ⊢
  rw [h2, State.modPortal_bare, h1, State.modPortal_modPortal, State.modPortal_modPortal]
  · rfl
  · exact fun _ => rfl

theorem State.state_enterOpen (s : State) (p : PortalId) (part : Bool) : ((s.enterOpen p part).portal p).state = .open := by
  obtain ⟨since, timer, h⟩ := s.enterOpen_bare p part
  exact State.field_of_visible Portal.state (fun _ => rfl) h

theorem State.state_reopen (s : State) (p : PortalId) (trigger : Nat) : ((s.reopen p trigger).portal p).state = .reopening := State.state_enter ..

/-! ## Leaving every motion -/

/-- A portal at which every stop of door service has ended what was under way, with no command in force and no JOG_STOP that waits. -/
def Portal.ended (x : Portal) : Portal :=
  { x with closePending := false, warn := none, dwell := none, pause := none, stopPartial := false, openObst := 0, jog := none, lockJog := none, partialOpen := false,
           openForce := false, openRefs := [], closeForce := false, closeRefs := [], jogStop := [] }

theorem State.endMotion_bare (s : State) (p : PortalId) : (s.endMotion p).bare = s.bare.modPortal p fun x =>
    { x with closePending := false, warn := none, dwell := none, pause := none, stopPartial := false, openObst := 0, jog := none, lockJog := none, partialOpen := false } := by
  rw [State.endMotion, State.modPortal_bare, State.stepJogCut_bare]
  exact fun _ => rfl

theorem State.endOpenClose_bare (s : State) (p : PortalId) (status outcome : Nat) : (s.endOpenClose p status outcome).bare
    = s.bare.modPortal p fun x => { x with openForce := false, openRefs := [], closeForce := false, closeRefs := [] } := by
  unfold State.endOpenClose
  rw [State.finishAll_bare, State.modPortal_bare]
  exact fun _ => rfl

theorem State.jogLeft_bare (s : State) (p : PortalId) : (s.jogLeft p).bare = s.bare.modPortal p fun x => { x with jogStop := [] } := by
  unfold State.jogLeft
  rw [State.finishAll_bare, State.modPortal_bare]
  exact fun _ => rfl

theorem State.halted_bare (s : State) (p : PortalId) (st : PState) (outcome : Nat) :
    ∃ since timer, (s.halted p st outcome).bare = s.bare.modPortal p fun x => (x.ended).inState st since timer := by
  unfold State.halted
  extract_lets s1 s2
  obtain ⟨since, timer, h⟩ := s1.enter_bare p st
  refine ⟨since, timer, ?_⟩
  rw [State.degrade_bare, State.jogLeft_bare, State.endOpenClose_bare, h, State.endMotion_bare, State.abortJogTunes_bare]
  simp only [State.modPortal_modPortal]
  rfl

/-- A portal that has entered FENCED. -/
def Portal.fenced (since : Ts) (x : Portal) : Portal :=
  { (x.ended).inState .fenced since none with
    fencedHw := true, fenceTotal := satInc 4294967295 x.fenceTotal, queue := x.queue.filter fun c => !c.ofGroup, fenceWaits := [] }

theorem State.stopMembers_bare (s : State) (p : PortalId) : (s.stopMembers p).bare
    = s.bare.modPortal p fun x => { x with queue := x.queue.filter fun c => !c.ofGroup } := by
  unfold State.stopMembers
  rw [foldState_bare _ _ _ fun c t => State.memberFails_bare ..]
  exact s.modPortal_bare_of p rfl

theorem State.enterFenced_bare (s : State) (p : PortalId) :
    ∃ since, (s.enterFenced p).bare = s.bare.modPortal p (Portal.fenced since) := by
  obtain ⟨since, timer, hset⟩ := s.setPState_bare p .fenced
  refine ⟨since, ?_⟩
  unfold State.enterFenced
  extract_lets s1 s2 s3 s4 s5 s6 s7 s8 s9 waits s10
  have h2 : s2.bare = s1.bare.modPortal p fun x => { x with fencedHw := true, fenceTotal := satInc 4294967295 x.fenceTotal, timer := none } := by
    simp only [s2]
    rw [State.failSafe_bare, State.modPortal_bare]
    exact fun _ => rfl
  have h4 : s4.bare = s3.bare.modPortal p _ := State.endMotion_bare ..
  have h7 : s7.bare = s4.bare := by simp [s7, s6, s5]
  have h8 : s8.bare = (s7.bare.modPortal p _).modPortal p _ := (State.stopMembers_bare ..).trans (by rw [State.endOpenClose_bare])
  have h3 : s3.bare = s2.bare := by simp [s3]
  have h9 : s9.bare = s8.bare.modPortal p _ := State.jogLeft_bare ..
  have h10 : s10.bare = s9.bare.modPortal p fun x => { x with fenceWaits := [] } := s9.modPortal_bare_of p rfl
  rw [State.degrade_bare, State.finishAll_bare]
  clear_value s10 s9 s8 s7 s4 s3 s2
  rw [h10, h9, h8, h7, h4, h3, h2, hset]
  simp only [State.modPortal_modPortal]
  rfl

end Sys2Proof.Machine
end

section
/-! What the commands and a fence do at a portal (R65, R66, R70, R71, R84–R93). -/

namespace Sys2Proof.Machine

/-! ## A fence cause -/

/-- A portal that notes a fence cause. -/
def Portal.caused (cause : Nat) (x : Portal) : Portal := { x with causes := x.causes ||| (1#32 <<< cause) }

/-- A portal that keeps a fence cause until it can enter FENCED: the first one stays (R87, R88, R362). -/
def Portal.pended (cause : Nat) (x : Portal) : Portal :=
  { x.caused cause with pendingCause := if x.pendingCause = 0 then cause else x.pendingCause }

/-- A portal at which a fence cause acts: the first one stays (R90). -/
def Portal.blamed (cause : Nat) (x : Portal) : Portal := { x.caused cause with fenceCause := if x.fenceCause = 0 then cause else x.fenceCause }

/-- A fence cause of the portal waits: the sequencer does not run or has not started, or the portal is in ISOLATED or EMERGENCY. -/
def State.fenceWaits (s : State) (p : PortalId) : Prop :=
  (s.pdMode p).runs = false ∨ (s.portal p).start ≠ 0 ∨ (s.portal p).state = .isolated ∨ (s.portal p).state = .emergency

theorem State.fenceNow_absent {s : State} {p : PortalId} (h : s.present p = false) (cause unit param : Nat) : s.fenceNow p cause unit param = s := by
  simp [State.fenceNow, h]

section FenceNow
variable {s : State} {p : PortalId} (hp : s.present p = true) (cause unit param : Nat)
include hp

/-- A fence cause of a present portal is raised and noted; it waits, or acts on the portal where that is not FENCED already. -/
theorem State.fenceNow_present : ∃ t : State, t.bare = s.bare.modPortal p (Portal.caused cause)
    ∧ (s.fenceWaits p → s.fenceNow p cause unit param
        = t.modPortal p fun x => { x with pendingCause := if x.pendingCause = 0 then cause else x.pendingCause })
    ∧ (¬s.fenceWaits p → s.fenceNow p cause unit param
        = if (s.portal p).state = .fenced then t.modPortal p fun x => { x with fenceCause := if x.fenceCause = 0 then cause else x.fenceCause }
          else (t.modPortal p fun x => { x with fenceCause := if x.fenceCause = 0 then cause else x.fenceCause }).enterFenced p) := by
  unfold State.fenceNow
  rw [if_neg (by simp [hp])]
  extract_lets s1 st t u
  have ht : t.bare = s.bare.modPortal p (Portal.caused cause) := by
    simp only [t]
    rw [State.notClean_bare, s1.modPortal_bare_of p (g := Portal.caused cause) rfl, State.raiseAt_bare]
  have hst : st = (s.portal p).state := State.field_of_bare Portal.state (fun _ => rfl) (State.raiseAt_bare ..) p
  have hstart : (t.portal p).start = (s.portal p).start := State.field_of_visible Portal.start (fun _ => rfl) ht
  have hruns : (t.pdMode p).runs = (s.pdMode p).runs := State.pdRuns_congr (State.senses_of_visible ht fun _ => rfl) p
  clear_value t st
  subst hst
  refine ⟨t, ht, fun hw => if_pos ?_, fun hw => if_neg ?_⟩
  · simpa [State.fenceWaits, hstart, hruns, or_assoc] using hw
  · simpa [State.fenceWaits, hstart, hruns, or_assoc] using hw

theorem State.fenceNow_bare_of_waits (hw : s.fenceWaits p) : (s.fenceNow p cause unit param).bare = s.bare.modPortal p (Portal.pended cause) := by
  obtain ⟨t, ht, hwait, -⟩ := State.fenceNow_present hp cause unit param
  rw [hwait hw, State.modPortal_bare, ht, State.modPortal_modPortal]
  · rfl
  · exact fun _ => rfl

theorem State.fenceNow_bare_of_fenced (hw : ¬s.fenceWaits p) (hst : (s.portal p).state = .fenced) :
    (s.fenceNow p cause unit param).bare = s.bare.modPortal p (Portal.blamed cause) := by
  obtain ⟨t, ht, -, hact⟩ := State.fenceNow_present hp cause unit param
  rw [hact hw, if_pos hst, State.modPortal_bare, ht, State.modPortal_modPortal]
  · rfl
  · exact fun _ => rfl

theorem State.fenceNow_bare_of_acts (hw : ¬s.fenceWaits p) (hst : (s.portal p).state ≠ .fenced) :
    ∃ since, (s.fenceNow p cause unit param).bare = s.bare.modPortal p fun x => (x.blamed cause).fenced since := by
  obtain ⟨t, ht, -, hact⟩ := State.fenceNow_present hp cause unit param
  rw [hact hw, if_neg hst]
  obtain ⟨since, h⟩ := State.enterFenced_bare (t.modPortal p fun x => { x with fenceCause := if x.fenceCause = 0 then cause else x.fenceCause }) p
  refine ⟨since, ?_⟩
  rw [h, State.modPortal_bare, ht, State.modPortal_modPortal, State.modPortal_modPortal]
  · rfl
  · exact fun _ => rfl

/-- A fence cause that does not wait leaves the portal in FENCED. -/
theorem State.state_fenceNow (hw : ¬s.fenceWaits p) : ((s.fenceNow p cause unit param).portal p).state = .fenced := by
  by_cases hst : (s.portal p).state = .fenced
  · exact (State.field_of_visible Portal.state (fun _ => rfl) (State.fenceNow_bare_of_fenced hp cause unit param hw hst)).trans hst
  · obtain ⟨since, h⟩ := State.fenceNow_bare_of_acts hp cause unit param hw hst
    exact State.field_of_visible Portal.state (fun _ => rfl) h

end FenceNow

/-! ## Causes found since the last evaluation (R66, R92) -/

theorem State.seqWorks_absent {s : State} {p : PortalId} (h : s.present p = false) : s.seqWorks p = false := by simp [State.seqWorks, h]

theorem foldState_nil {α : Type} (f : α → State → State) (s : State) : foldState [] f s = s := rfl
theorem foldState_cons {α : Type} (a : α) (l : List α) (f : α → State → State) (s : State) : foldState (a :: l) f s = foldState l f (f a s) := rfl
theorem foldState_append {α : Type} (l m : List α) (f : α → State → State) (s : State) : foldState (l ++ m) f s = foldState m f (foldState l f s) :=
  List.foldl_append ..

/-- The causes below a bound act in ascending order. -/
def State.causesBelow (s : State) (p : PortalId) (l : List (Nat × Nat × Nat)) (n : Nat) : State :=
  foldState (List.range n) (fun c t => foldState (l.filter fun x => x.1 = c) (fun x u => u.fenceNow p x.1 x.2.1 x.2.2) t) s

theorem State.causesBelow_succ (s : State) (p : PortalId) (l : List (Nat × Nat × Nat)) (n : Nat) : s.causesBelow p l (n + 1)
    = foldState (l.filter fun x => x.1 = n) (fun x u => u.fenceNow p x.1 x.2.1 x.2.2) (s.causesBelow p l n) := by
  rw [State.causesBelow, List.range_succ, foldState_append, foldState_cons, foldState_nil, State.causesBelow]

theorem State.causesBelow_none (s : State) (p : PortalId) {l : List (Nat × Nat × Nat)} {m n : Nat} (hmn : m ≤ n)
    (h : ∀ x ∈ l, x.1 < m ∨ n ≤ x.1) : s.causesBelow p l n = s.causesBelow p l m := by
  induction n, hmn using Nat.le_induction with
  | base => rfl
  | succ n hn ih =>
    have hnone : (l.filter fun x => x.1 = n) = [] := by
      refine List.filter_eq_nil_iff.mpr fun x hx hxn => ?_
      have := h x hx
      have := of_decide_eq_true hxn
      omega
    rw [State.causesBelow_succ, hnone, foldState_nil]
    exact ih fun x hx => by
      have := h x hx
      omega

theorem State.causesBelow_zero (s : State) (p : PortalId) (l : List (Nat × Nat × Nat)) : s.causesBelow p l 0 = s := rfl

theorem State.foundStep_eq (s : State) (p : PortalId) :
    s.foundStep p = (s.modPortal p fun x => { x with found := [] }).causesBelow p (s.portal p).found 32 := rfl

theorem State.foundStep_nil {s : State} {p : PortalId} (h : (s.portal p).found = []) : s.foundStep p = s := by
  rw [State.foundStep_eq, h, State.causesBelow_none _ _ (Nat.zero_le 32) (by simp), State.causesBelow_zero]
  exact State.modPortal_self (by rw [← h])

theorem State.foundStep_one {s : State} {p : PortalId} {cause unit param : Nat} (hc : cause < 32) (h : (s.portal p).found = [(cause, unit, param)]) :
    s.foundStep p = (s.modPortal p fun x => { x with found := [] }).fenceNow p cause unit param := by
  rw [State.foundStep_eq, h, State.causesBelow_none (m := cause + 1) _ _ hc (by simp), State.causesBelow_succ,
    State.causesBelow_none _ _ (Nat.zero_le cause) (by simp), State.causesBelow_zero]
  simp [foldState_cons, foldState_nil]

theorem State.foundStep_two {s : State} {p : PortalId} {cause unit param c u q : Nat} (hc : cause < 32) (hlt : c < cause)
    (h : (s.portal p).found = [(cause, unit, param), (c, u, q)]) :
    s.foundStep p = ((s.modPortal p fun x => { x with found := [] }).fenceNow p c u q).fenceNow p cause unit param := by
  have hne : cause ≠ c := by omega
  rw [State.foundStep_eq, h, State.causesBelow_none (m := cause + 1) _ _ hc (by simp; omega), State.causesBelow_succ,
    State.causesBelow_none (m := c + 1) _ _ hlt (by simp), State.causesBelow_succ, State.causesBelow_none _ _ (Nat.zero_le c) (by simp; omega), State.causesBelow_zero]
  simp [foldState_cons, foldState_nil, hne, hne.symm]

/-! ## The commands at an evaluation (R70, R84–R91) -/

section Commands
variable {s : State} {p : PortalId} {h : Handle}

/-- In door service a present portal reports its state (R67). -/
theorem State.shownState_door (hp : s.present p = true) (hm : s.mode = .service ∨ s.mode = .degraded) : s.shownState p = (s.portal p).state := by
  rcases hm with hm | hm <;> simp [State.shownState, hp, hm]

theorem Mode.door_iff {m : Mode} : m.door = true ↔ m = .service ∨ m = .degraded := by cases m <;> decide

variable (hp : s.present p = true) (hw : s.wdgExpired = false) (hm : s.mode = .service ∨ s.mode = .degraded)
include hp hw hm

theorem State.openRefused_of_fenced (hst : (s.portal p).state = .fenced) : s.openRefused p = some (stFenced, 0xFFFF) := by
  simp [State.openRefused, hw, State.shownState_door hp hm, hst]

theorem State.closeRefused_of_fenced (hst : (s.portal p).state = .fenced) : s.closeRefused p = some (stFenced, 0xFFFF) := by
  simp [State.closeRefused, hw, State.shownState_door hp hm, hst]

theorem State.openRefused_of_guard (hg : s.released p = false ∨ s.zsConfirmed = false) (hst : (s.portal p).state = .locked) :
    s.openRefused p = some (stModeForbids, 0xFFFF) := by
  rcases hg with hg | hg <;> simp [State.openRefused, hw, State.shownState_door hp hm, hst, hg]

theorem State.openRefused_none (hr : s.released p = true) (hz : s.zsConfirmed = true) (ha : s.slotsAuto p = true)
    (hst : (s.portal p).state = .locked ∨ (s.portal p).state = .closing) : s.openRefused p = none := by
  rcases hst with hst | hst <;> simp [State.openRefused, hw, State.shownState_door hp hm, hst, hr, hz, ha, Mode.door_iff.mpr hm]

theorem State.closeRefused_none (hst : (s.portal p).state = .open) : s.closeRefused p = none := by
  simp [State.closeRefused, hw, State.shownState_door hp hm, hst, Mode.door_iff.mpr hm]

end Commands

/-- An open request that nothing refuses, on a portal that is not OPEN, is in force when the state acts on it. -/
theorem State.openCmd_of_none {s : State} {p : PortalId} (r : CmdRef) (hnone : s.openRefused p = none) :
    ∃ t : State, t.senses = s.senses ∧ (t.portal p).state = (s.portal p).state
      ∧ ((s.portal p).state = .locked → s.openCmd p r = t.beginOpening p)
      ∧ ((s.portal p).state = .closing → s.openCmd p r = (t.modPortal p fun x => { x with reopenFull := true }).enter p .reopening) := by
  unfold State.openCmd
  rw [hnone]
  extract_lets refs s1 s2 t
  have h2 : s2.bare = s.bare.modPortal p fun x => { x with recloses := 0, closeForce := false, closeRefs := [] } := by
    simp only [s2, s1]
    rw [State.finishAll_bare, State.modPortal_bare]
    exact fun _ => rfl
  have ht : t.bare = s2.bare.modPortal p fun x => { x with openForce := true, openRefs := x.openRefs ++ [r] } := by
    simp only [t]
    rw [State.modPortal_bare, State.acceptCmd_bare]
    exact fun _ => rfl
  rw [h2, State.modPortal_modPortal] at ht
  have hst2 : (s2.portal p).state = (s.portal p).state := State.field_of_visible Portal.state (fun _ => rfl) h2
  have hst : (t.portal p).state = (s.portal p).state := State.field_of_visible Portal.state (fun _ => rfl) ht
  refine ⟨t, State.senses_of_visible ht fun _ => rfl, hst, fun hl => ?_, fun hl => ?_⟩ <;> simp [hst2, hst, hl]

theorem State.openCmd_refused {s : State} {p : PortalId} {h : Handle} {status pid : Nat} (hr : s.openRefused p = some (status, pid)) :
    s.openCmd p (.host h) = s.reply h status (detail pid h.unit.toNat) := by
  unfold State.openCmd
  rw [hr]
  rfl

theorem State.closeCmd_refused {s : State} {p : PortalId} {h : Handle} {status pid : Nat} (hr : s.closeRefused p = some (status, pid)) :
    s.closeCmd p (.host h) = s.reply h status (detail pid h.unit.toNat) := by
  unfold State.closeCmd
  rw [hr]
  rfl

/-- A close request that nothing refuses, on a portal that is not LOCKED, is in force. -/
theorem State.closeCmd_bare_of_none {s : State} {p : PortalId} (r : CmdRef) (hnone : s.closeRefused p = none) (hst : (s.portal p).state ≠ .locked) :
    (s.closeCmd p r).bare = s.bare.modPortal p fun x =>
      { x with openForce := false, openRefs := [], closeFailed := false, closeForce := true, closeRefs := x.closeRefs ++ [r] } := by
  unfold State.closeCmd
  rw [hnone]
  extract_lets refs s1 s2 s3
  have h3 : s3.bare = s.bare.modPortal p fun x => { x with openForce := false, openRefs := [], closeFailed := false } := by
    simp only [s3, s2, s1]
    rw [State.modPortal_bare, State.finishAll_bare, State.modPortal_bare, State.modPortal_modPortal]
    · exact fun _ => rfl
    · exact fun _ => rfl
  have hst3 : (s3.portal p).state = (s.portal p).state := State.field_of_visible Portal.state (fun _ => rfl) h3
  rw [if_neg (hst3 ▸ hst), State.modPortal_bare, State.acceptCmd_bare, h3, State.modPortal_modPortal]
  exact fun _ => rfl

theorem State.takeCmd_host (s : State) (p : PortalId) (h : Handle) : s.takeCmd p (.open (.host h)) = s.openCmd p (.host h)
    ∧ s.takeCmd p (.close (.host h)) = s.closeCmd p (.host h) ∧ s.takeCmd p (.fenceClear (.host h)) = s.fenceClearCmd p (.host h)
    ∧ s.takeCmd p (.emergencyReset (.host h)) = s.emergencyResetCmd p (.host h) ∧ s.takeCmd p (.fence (.host h)) = s.fenceCmd p (.host h) :=
  ⟨rfl, rfl, rfl, rfl, rfl⟩

/-- PORTAL_FENCE leaves the portal as its fence cause 0x13 leaves it; the reply follows or waits. -/
theorem State.state_fenceCmd (s : State) (p : PortalId) (r : CmdRef) :
    ((s.fenceCmd p r).portal p).state = ((s.fenceNow p 0x13 (uPortal p) 0).portal p).state := by
  unfold State.fenceCmd
  dsimp only
  split
  · exact State.field_of_bare Portal.state (fun _ => rfl) (State.finish_bare ..) p
  · rw [State.portal_modPortal, if_pos rfl]

theorem State.not_fenceWaits {s : State} {p : PortalId} (hruns : (s.pdMode p).runs = true) (hstart : (s.portal p).start = 0) (hiso : (s.portal p).state ≠ .isolated)
    (heh : (s.portal p).state ≠ .emergency) : ¬s.fenceWaits p := by
  rintro (h | h | h | h)
  · rw [hruns] at h; cases h
  · exact h hstart
  · exact hiso h
  · exact heh h

/-- Noting a cause sets its bit. -/
theorem Portal.causes_caused (x : Portal) {cause : Nat} (hc : cause < 32) : (x.caused cause).causes.getLsbD cause = true := by
  simp [Portal.caused, hc]

/-- Settles O59: the commands by what refuses them and what they put in force; a fence by whether the cause waits. -/
theorem portalReactions : Obligations.PortalReactions := by
  unfold Obligations.PortalReactions
  refine ⟨fun s p h hp hw hm => ?_, fun s p cause unit param hc => ?_⟩
  · obtain ⟨hopen, hclose, hclear, hreset, hfence⟩ := s.takeCmd_host p h
    rw [hopen, hclose, hclear, hreset, hfence]
    refine ⟨fun hg hst => State.openCmd_refused (State.openRefused_of_guard hp hw hm hg hst), fun hr hz ha => ⟨fun hst => ?_, fun hst => ?_⟩, fun hst => ⟨?_, ?_, ?_, ?_⟩,
      fun hst => ⟨_, rfl, ?_⟩, fun heh => ?_, fun hruns hstart hiso heh => ?_⟩
    · obtain ⟨t, ht, -, hl, -⟩ := State.openCmd_of_none (.host h) (State.openRefused_none hp hw hm hr hz ha (.inl hst))
      rw [hl hst, State.beginOpening, State.state_enter, State.stepFitted_congr ht]
    · obtain ⟨t, -, -, -, hl⟩ := State.openCmd_of_none (.host h) (State.openRefused_none hp hw hm hr hz ha (.inr hst))
      rw [hl hst, State.state_enter]
    · exact State.openCmd_refused (State.openRefused_of_fenced hp hw hm hst)
    · exact State.closeCmd_refused (State.closeRefused_of_fenced hp hw hm hst)
    · intro hok
      rw [State.fenceClearCmd, if_pos hst, hok]
      rfl
    · intro hok
      rw [State.fenceClearCmd, if_pos hst, if_pos hok]
      rfl
    · have hin := State.closeCmd_bare_of_none (.host h) (State.closeRefused_none hp hw hm hst) (by rw [hst]; decide)
      refine ⟨State.field_of_visible Portal.closeForce (fun _ => rfl) hin, State.field_of_visible Portal.openForce (fun _ => rfl) hin,
        State.field_of_visible Portal.closeFailed (fun _ => rfl) hin, (State.field_of_visible Portal.state (fun _ => rfl) hin).trans hst, ?_⟩
      rw [State.field_of_visible Portal.closeRefs (fun _ => rfl) hin]
      simp
    · rw [State.emergencyResetCmd, if_pos heh]
      rfl
    · rw [State.state_fenceCmd]
      exact State.state_fenceNow hp _ _ _ (State.not_fenceWaits hruns hstart hiso heh)
  · refine ⟨fun hp => ?_, fun hs => ?_, fun hs => ?_, State.foundStep_one hc, fun c u q => State.foundStep_two hc, fun hp hruns hstart hiso heh => ⟨_, rfl, ?_⟩,
      fun hp hw => ⟨_, rfl, ?_⟩⟩
    · rw [State.fence, State.seqWorks_absent hp]
      exact State.fenceNow_absent hp cause unit param
    · rw [State.fence, hs]
      rfl
    · rw [State.fence, hs]
      rfl
    · have hact := State.not_fenceWaits hruns hstart hiso heh
      refine ⟨State.state_fenceNow hp cause unit param hact, ?_⟩
      by_cases hst : (s.portal p).state = .fenced
      · have hin := State.fenceNow_bare_of_fenced hp cause unit param hact hst
        refine ⟨?_, State.field_of_visible Portal.fenceCause (fun _ => rfl) hin, fun hne => absurd hst hne⟩
        rw [State.field_of_visible Portal.causes (fun _ => rfl) hin]
        exact Portal.causes_caused _ hc
      · obtain ⟨since, hin⟩ := State.fenceNow_bare_of_acts hp cause unit param hact hst
        refine ⟨?_, State.field_of_visible Portal.fenceCause (fun _ => rfl) hin, fun _ =>
          ⟨State.field_of_visible Portal.fencedHw (fun _ => rfl) hin, State.field_of_visible Portal.openForce (fun _ => rfl) hin,
            State.field_of_visible Portal.closeForce (fun _ => rfl) hin, State.field_of_visible Portal.jog (fun _ => rfl) hin,
            State.field_of_visible Portal.openRefs (fun _ => rfl) hin, State.field_of_visible Portal.closeRefs (fun _ => rfl) hin⟩⟩
        rw [State.field_of_visible Portal.causes (fun _ => rfl) hin]
        exact Portal.causes_caused _ hc
    · have hin := State.fenceNow_bare_of_waits hp cause unit param hw
      refine ⟨State.field_of_visible Portal.state (fun _ => rfl) hin, ?_, State.field_of_visible Portal.pendingCause (fun _ => rfl) hin⟩
      rw [State.field_of_visible Portal.causes (fun _ => rfl) hin]
      exact Portal.causes_caused _ hc

end Sys2Proof.Machine
end

section
/-! Safety inputs, zero speed and general-purpose inputs (R69, R290–R295, R320). -/

namespace Sys2Proof.Machine

/-! ## Levels of the portal's inputs (R290, R292) -/

/-- A level is taken, and with it the time at which its pair has become consistent or inconsistent. -/
def State.levelTaken (s : State) (p : PortalId) (n : Fin 12) (level : Bool) : State :=
  let t := s.modPortal p fun y => { y with si := y.si.set n.val level }
  let k : Fin 3 := ⟨(n.val - 2) / 2 % 3, by omega⟩
  if 2 ≤ n.val ∧ n.val ≤ 7 ∧ (decide (s.pairSt p k = 2) != decide (t.pairSt p k = 2)) then t.modPortal p fun y => { y with pairSince := y.pairSince.set k.val s.ts } else t

/-- SE0, SE1 or OBS, active now, ends the clean traversals (R172, R291). -/
def State.edgeNoted (s : State) (p : PortalId) (n : Fin 12) : State :=
  if (n.val = 8 ∧ s.se0 p) ∨ (n.val = 9 ∧ s.twoLeaves p ∧ s.se1 p) ∨ (n.val = 11 ∧ s.obs p) then s.notClean p else s

theorem State.si_levelTaken (s : State) (p : PortalId) (n : Fin 12) (level : Bool) : ((s.levelTaken p n level).portal p).si = (s.portal p).si.set n level := by
  unfold State.levelTaken
  dsimp only
  split <;> simp

theorem State.si_edgeNoted (s : State) (p : PortalId) (n : Fin 12) : ((s.edgeNoted p n).portal p).si = (s.portal p).si :=
  State.field_of_bare Portal.si (fun _ => rfl) (by simp [State.edgeNoted]) p

section InputChange
variable (dt : Nat) {p : PortalId} {n : Fin 12} {level : Bool} {s : State}

theorem exec_safetyInputChange_same (h : (s.portal p).si[n] = level) : exec (.safetyInputChange dt p n level) s = .next (s.advance dt) :=
  congrArg Host.Outcome.next (if_pos h)

variable (h : (s.portal p).si[n] ≠ level)
include h

theorem exec_safetyInputChange_first (ha : (s.portal p).siAdopted = false) : exec (.safetyInputChange dt p n level) s
    = .next ((s.advance dt).modPortal p fun y => { y with si := y.si.set n level }) :=
  congrArg Host.Outcome.next ((if_neg h).trans (if_pos (by rw [State.advance_portal, ha]; rfl)))

theorem exec_safetyInputChange_adopted (ha : (s.portal p).siAdopted = true) : exec (.safetyInputChange dt p n level) s
    = .next ((((((s.advance dt).levelTaken p n level).edgeNoted p n).inputEvent p n level).lockWatch p).contactWatch p) :=
  congrArg Host.Outcome.next ((if_neg h).trans (if_neg (by rw [State.advance_portal, ha]; decide)))

end InputChange

/-! ## Faults of the inputs (R293, R294) -/

/-- The bit is set, and the cause found, of a present portal. -/
theorem State.siFaultSet_present {s : State} {p : PortalId} {b : Nat} (extra : Nat) (hb : (s.portal p).siFault.getLsbD b = false) (hp : s.present p = true) :
    s.siFaultSet p b extra = (s.modPortal p fun x => { x with siFault := setBit x.siFault b true }).fence p 0x06 (uPortal p) (b + extra) := by
  rw [State.siFaultSet, if_neg (by simp [hb])]
  exact if_pos hp

theorem ms_eq (n : Nat) : ms n = 100000 * n := Nat.mul_comm ..

section Pairs
variable (dt : Nat) {p : PortalId} {k : Fin 3} {s : State} (ha : (s.portal p).siAdopted = true)
include ha

theorem exec_siDiscrepancy (hk : s.pairSt p k = 2) (ht : (s.advance dt).elapsed (s.portal p).pairSince[k] (100000 * s.parN 0x8004 (uPortal p)) = true) :
    exec (.siDiscrepancy dt p k) s = .next ((s.advance dt).siFaultSet p k 0) := by
  rw [← ms_eq] at ht
  have hk' : (s.advance dt).pairSt p k = 2 := hk
  have ht' : (s.advance dt).elapsed (s.portal p).pairSince[k] (ms ((s.advance dt).parN 0x8004 (uPortal p))) = true := ht
  exact congrArg Host.Outcome.next (if_pos (by rw [State.advance_portal, ha, hk']; simpa using ht'))

theorem exec_siDiscrepancyClear (hk : s.pairSt p k ≠ 2) (ht : (s.advance dt).elapsed (s.portal p).pairSince[k] 10000000 = true) :
    exec (.siDiscrepancyClear dt p k) s = .next ((s.advance dt).siFaultClear p k) := by
  have hk' : (s.advance dt).pairSt p k ≠ 2 := hk
  have ht' : (s.advance dt).elapsed (s.portal p).pairSince[k] (ms 100) = true := ht
  exact congrArg Host.Outcome.next (if_pos (by rw [State.advance_portal, ha]; simpa [hk'] using ht'))

end Pairs

/-- The watches of a portal once one plausibility check has been followed. -/
def State.plausNext (s : State) (p : PortalId) (k : Fin 3) : Vector (Bool × Ts) 3 :=
  if (s.portal p).plaus[k].1 = s.implausible p k then (s.portal p).plaus else (s.portal p).plaus.set k.val (s.implausible p k, s.ts)

/-- One plausibility check is followed. -/
def State.plausStep (s : State) (p : PortalId) (k : Fin 3) : State := s.modPortal p fun x => { x with plaus := s.plausNext p k }

theorem State.plausWatch_eq (s : State) (p : PortalId) : s.plausWatch p = ((s.plausStep p 0).plausStep p 1).plausStep p 2 := by
  have hstep (t : State) (k : Fin 3) :
      (t.modPortal p fun x => if x.plaus[k].1 = t.implausible p k then x else { x with plaus := x.plaus.set k.val (t.implausible p k, t.ts) }) = t.plausStep p k := by
    refine State.modPortal_congr ?_
    unfold State.plausNext
    split <;> rfl
  simp only [← hstep]
  rfl

/-- The condition of a check does not hang on the watches. -/
theorem State.implausible_plausStep (s : State) (p : PortalId) (j k : Fin 3) : (s.plausStep p j).implausible p k = s.implausible p k := by
  have hportal : (s.plausStep p j).portal p = { s.portal p with plaus := s.plausNext p j } := by rw [State.plausStep, State.portal_modPortal, if_pos rfl]
  unfold State.implausible State.cl0 State.cl1 State.stw State.siActive State.xObs State.fbX State.fb State.stepPos State.stepPosR State.stepOf
  rw [hportal]
  rfl

theorem State.plaus_plausStep (s : State) (p : PortalId) (j k : Fin 3) : ((s.plausStep p j).portal p).plaus[k]
    = if j = k ∧ (s.portal p).plaus[k].1 ≠ s.implausible p k then (s.implausible p k, s.ts) else (s.portal p).plaus[k] := by
  rw [State.plausStep, State.portal_modPortal, if_pos rfl]
  simp only [State.plausNext, Fin.getElem_fin]
  by_cases hjk : j = k
  · subst hjk
    split <;> simp [*]
  · split <;> simp [hjk, Fin.val_ne_of_ne hjk]

/-- Each check keeps its time while its condition is the same, and takes the present one when it changes. -/
theorem State.plaus_plausWatch (s : State) (p : PortalId) (k : Fin 3) : ((s.plausWatch p).portal p).plaus[k]
    = if (s.portal p).plaus[k].1 = s.implausible p k then (s.portal p).plaus[k] else (s.implausible p k, s.ts) := by
  have hts (t : State) (j : Fin 3) : (t.plausStep p j).ts = t.ts := rfl
  rw [State.plausWatch_eq]
  simp only [State.plaus_plausStep, State.implausible_plausStep, hts]
  match k with
  | 0 | 1 | 2 => simp

theorem State.implausible_plausWatch (s : State) (p : PortalId) (k : Fin 3) : (s.plausWatch p).implausible p k = s.implausible p k := by
  simp only [State.plausWatch_eq, State.implausible_plausStep]

section Plausibility
variable (dt : Nat) {p : PortalId} {k : Fin 3} {s : State} {b : Ts} {on : Bool} (hon : s.implausible p k = on) (hb : (s.portal p).plaus[k] = (on, b))
include hon hb

/-- A check whose condition is as it was keeps its time. -/
theorem State.plaus_of_same : (((s.advance dt).plausWatch p).portal p).plaus[k] = (on, b) := by
  have hadv : (s.advance dt).implausible p k = on := hon
  rw [State.plaus_plausWatch, hadv, State.advance_portal, hb, if_pos rfl]

omit hb in
theorem State.implausible_advance_plausWatch : ((s.advance dt).plausWatch p).implausible p k = on :=
  (State.implausible_plausWatch ..).trans hon

end Plausibility

theorem exec_siPlausibility (dt : Nat) {p : PortalId} {k : Fin 3} {s : State} {b : Ts} (hon : s.implausible p k = true) (hb : (s.portal p).plaus[k] = (true, b)) :
    exec (.siPlausibility dt p k) s
      = .next (if (s.advance dt).elapsed b 20000000 then ((s.advance dt).plausWatch p).siFaultSet p (3 + k) 0 else (s.advance dt).plausWatch p) := by
  refine congrArg Host.Outcome.next ?_
  rw [State.implausible_advance_plausWatch dt hon, State.plaus_of_same dt hon hb]
  rfl

theorem exec_siPlausibilityClear (dt : Nat) {p : PortalId} {k : Fin 3} {s : State} {b : Ts} (hon : s.implausible p k = false) (hb : (s.portal p).plaus[k] = (false, b)) :
    exec (.siPlausibilityClear dt p k) s
      = .next (if (s.advance dt).elapsed b 10000000 then ((s.advance dt).plausWatch p).siFaultClear p (3 + k) else (s.advance dt).plausWatch p) := by
  refine congrArg Host.Outcome.next ?_
  rw [State.implausible_advance_plausWatch dt hon, State.plaus_of_same dt hon hb]
  rfl

/-! ## Zero speed (R69, R295) -/

theorem State.zsReport_safety (s : State) : s.zsReport.safety = { s.safety with zsShown := s.zsConfirmed } := by
  unfold State.zsReport
  dsimp only
  split
  next h => rw [h]
  · rfl

theorem State.zsReport_tele (s : State) : s.zsReport.tele = s.tele := by
  unfold State.zsReport
  exact ite_field (g := State.tele) rfl rfl

/-- Zero speed is confirmed by the levels and the fault of the pair and by the telegram, whatever was reported last. -/
theorem State.zsConfirmed_of_shown {s t : State} {b : Bool} (hs : t.safety = { s.safety with zsShown := b }) (ht : t.tele = s.tele) : t.zsConfirmed = s.zsConfirmed := by
  simp only [State.zsConfirmed, State.zsPairOk, State.zsTold, hs, ht]

theorem State.zsReport_zsConfirmed (s : State) : s.zsReport.zsConfirmed = s.zsConfirmed := State.zsConfirmed_of_shown s.zsReport_safety s.zsReport_tele

/-- A report leaves what is shown equal to what is confirmed. -/
theorem State.zsShown_zsReport (s : State) : s.zsReport.safety.zsShown = s.zsReport.zsConfirmed := by
  rw [State.zsReport_zsConfirmed, State.zsReport_safety]

/-- The device-level inputs once a level of the zero-speed pair is taken. -/
def State.zsTaken (s : State) (isB level : Bool) : Safety :=
  let y := if isB then { s.safety with zsB := level } else { s.safety with zsA := level }
  if s.safety.zsAdopted && (decide (s.safety.zsA = s.safety.zsB) != decide (y.zsA = y.zsB)) then { y with zsSince := s.ts } else y

theorem State.zsTaken_eq (s : State) (isB level : Bool) : ∃ since,
    s.zsTaken isB level = { (if isB then { s.safety with zsB := level } else { s.safety with zsA := level } : Safety) with zsSince := since } :=
  (ite_eq_or_eq _ _ _).elim (fun h => ⟨_, h⟩) fun h => ⟨s.safety.zsSince, h.trans (by cases isB <;> rfl)⟩

theorem exec_zsInputChange (dt : Nat) (isB level : Bool) (s : State) :
    exec (.zsInputChange dt isB level) s = .next ({ s.advance dt with safety := (s.advance dt).zsTaken isB level } : State).zsReport := rfl

theorem State.setZsFault_safety (s : State) (v : Bool) : (s.setZsFault v).safety
    = { s.safety with zsFault := v, zsShown := ({ s with safety := { s.safety with zsFault := v } } : State).zsConfirmed } := rfl

theorem State.setZsFault_zsConfirmed (s : State) (v : Bool) : (s.setZsFault v).zsConfirmed = ({ s with safety := { s.safety with zsFault := v } } : State).zsConfirmed :=
  State.zsConfirmed_of_shown (s.setZsFault_safety v) rfl

theorem State.zsShown_setZsFault (s : State) (v : Bool) : (s.setZsFault v).safety.zsShown = (s.setZsFault v).zsConfirmed := by
  rw [State.setZsFault_zsConfirmed, State.setZsFault_safety]

theorem exec_zsDiscrepancy (dt : Nat) {s : State} (ha : s.safety.zsAdopted = true) (hz : s.safety.zsA = s.safety.zsB) (hf : s.safety.zsFault = false)
    (ht : (s.advance dt).elapsed s.safety.zsSince (100000 * s.parN 0x8011 0) = true) :
    exec (.zsDiscrepancy dt) s = .next ((s.advance dt).setZsFault true) := by
  rw [← ms_eq] at ht
  have ht' : (s.advance dt).elapsed s.safety.zsSince (ms ((s.advance dt).parN 0x8011 0)) = true := ht
  exact congrArg Host.Outcome.next (if_pos (by rw [State.advance_safety, ha, hf, hz]; simpa using ht'))

theorem exec_zsFaultClear (dt : Nat) {s : State} (ha : s.safety.zsAdopted = true) (hz : s.safety.zsA ≠ s.safety.zsB) (hf : s.safety.zsFault = true)
    (ht : (s.advance dt).elapsed s.safety.zsSince 100000000 = true) :
    exec (.zsFaultClear dt) s = .next ((s.advance dt).setZsFault false) := by
  have ht' : (s.advance dt).elapsed s.safety.zsSince (ms 1000) = true := ht
  exact congrArg Host.Outcome.next (if_pos (by rw [State.advance_safety, ha, hf]; simpa [hz] using ht'))

/-- A level of a general-purpose input is taken. -/
def State.gpiTaken (s : State) (n : Fin 10) (level : Bool) : State := { s with safety := { s.safety with gpi := s.safety.gpi.set n level } }

theorem exec_gpiChange (dt : Nat) (n : Fin 10) (level : Bool) (s : State) :
    exec (.gpiChange dt n level) s = .next (if s.safety.gpiAdopted = true ∧ s.safety.gpi[n] ≠ level ∧ (s.parN 0x8015 0).testBit n
      then ((s.advance dt).gpiTaken n level).raise (54 + n) (0x0036 + n) 0 (bit level) else (s.advance dt).gpiTaken n level) := by
  refine congrArg Host.Outcome.next (if_congr ?_ rfl rfl)
  have hpar : (s.advance dt).parN 0x8015 0 = s.parN 0x8015 0 := rfl
  rw [State.advance_safety, hpar, Bool.and_eq_true, Bool.and_eq_true, decide_eq_true_eq, and_assoc]

/-- Settles O48: each input by the branch that its level, its pair or its time takes. -/
theorem safetyInputs : Obligations.SafetyInputs := by
  unfold Obligations.SafetyInputs
  refine ⟨fun dt p n level k chk s => ⟨exec_safetyInputChange_same dt, fun ha => ?_, fun ha hn => ?_, fun ha hk ht => ?_, fun ha hk ht => ?_, fun b hon hb => ?_,
    fun b hon hb => ?_, s.plaus_plausWatch p chk, fun b extra hb hp => ⟨_, s.siFaultSet_present extra hb hp, ?_⟩⟩,
    fun dt isB level n s => ⟨?_, fun ha hz hf ht => ?_, fun ha hz hf ht => ?_, (s.advance dt).gpiTaken n level, rfl, rfl, exec_gpiChange dt n level s⟩⟩
  · by_cases hn : (s.portal p).si[n] = level
    · exact ⟨_, exec_safetyInputChange_same dt hn, hn, rfl, rfl⟩
    · refine ⟨_, exec_safetyInputChange_first dt hn ha, ?_, rfl, rfl⟩
      simp
  · have hsi := ((s.advance dt).levelTaken p n level).si_edgeNoted p n |>.trans ((s.advance dt).si_levelTaken p n level)
    refine ⟨_, exec_safetyInputChange_adopted dt hn ha, hsi, fun m hm => ?_⟩
    rw [hsi]
    simp [Fin.val_ne_of_ne hm.symm]
  · exact exec_siDiscrepancy dt ha hk ht
  · exact exec_siDiscrepancyClear dt ha hk ht
  · rw [exec_siPlausibility dt hon hb]
    exact ⟨fun ht => by rw [if_pos ht], fun ht => by rw [ht]; rfl⟩
  · rw [exec_siPlausibilityClear dt hon hb]
    exact ⟨fun ht => by rw [if_pos ht], fun ht => by rw [ht]; rfl⟩
  · rw [State.portal_modPortal, if_pos rfl]
  · obtain ⟨since, htaken⟩ := (s.advance dt).zsTaken_eq isB level
    refine ⟨_, exec_zsInputChange dt isB level s, ?_, ?_, State.zsShown_zsReport _, ?_⟩ <;> rw [State.zsReport_safety, htaken] <;> cases isB <;> rfl
  · refine ⟨_, exec_zsDiscrepancy dt ha hz hf ht, rfl, ?_, rfl, fun p => rfl⟩
    rw [State.setZsFault_zsConfirmed]
    simp [State.zsConfirmed, State.zsPairOk]
  · refine ⟨_, exec_zsFaultClear dt ha hz hf ht, rfl, ?_, State.zsShown_setZsFault ..⟩
    rw [State.setZsFault_zsConfirmed]
    have hb : s.safety.zsB = !s.safety.zsA := by cases h : s.safety.zsA <;> simp_all
    simp [State.zsConfirmed, State.zsPairOk, ha, hb]
    rfl

end Sys2Proof.Machine
end

section
/-! The seal commands and the end of a commit (R62, R306, R310, R311). -/

namespace Sys2Proof.Machine

/-! ## The check of R62 leaves the seal alone -/

theorem State.sealer_bare (s : State) : s.bare.sealer = s.sealer := rfl

theorem State.sealer_of_bare {s t : State} (h : t.bare = s.bare) : t.sealer = s.sealer := by rw [← t.sealer_bare, h, State.sealer_bare]

theorem State.sealer_endUnitJog (s : State) (p : PortalId) : (s.endUnitJog p).sealer = s.sealer := by
  unfold State.endUnitJog
  split
  next j _ =>
    split
    · rfl
    · let t := s.modPortal p fun x => { x with jog := some { j with ending := true } }
      exact State.sealer_of_bare (s := t) (by simp [t])
  · rfl

theorem State.sealer_endLockJog (s : State) (p : PortalId) : (s.endLockJog p).sealer = s.sealer :=
  ite_field (g := State.sealer) ((State.sealer_of_bare (State.setLock_bare ..)).trans (State.modPortal_sealer ..)) rfl

theorem State.sealer_endJogs (s : State) (p : PortalId) : (s.endJogs p).sealer = s.sealer :=
  (State.sealer_endLockJog ..).trans (State.sealer_endUnitJog ..)

theorem State.sealer_safeStopPortal (s : State) (p : PortalId) : (s.safeStopPortal p).sealer = s.sealer := by
  refine ite_field (g := State.sealer) rfl ((State.sealer_of_bare ?_).trans (s.sealer_endJogs p))
  rw [State.bare_ite, State.stepStopPoint_bare, ite_self]
  refine foldState_bare _ _ _ fun l t => ?_
  split <;> simp

theorem State.restart_bare (s : State) (p : PortalId) : (s.restart p).bare = s.bare := by
  unfold State.restart
  dsimp only
  split
  · rfl
  · split <;> simp

theorem State.sealer_restart (s : State) (p : PortalId) : (s.restart p).sealer = s.sealer := State.sealer_of_bare (s.restart_bare p)

theorem State.sealer_runCheck (s : State) (p : PortalId) : (s.runCheck p).sealer = s.sealer :=
  ite_field (g := State.sealer) ((State.sealer_safeStopPortal ..).trans (State.modPortal_sealer ..))
    (ite_field (g := State.sealer) ((State.sealer_restart ..).trans (State.modPortal_sealer ..)) rfl)

theorem State.sealer_runChecks (s : State) : s.runChecks.sealer = s.sealer := foldState_field fun p t => t.sealer_runCheck p

/-! ## The commands (R310, R311) -/

section Commands
variable (dt : Nat) {c : CmdHeader} {ps : List Byte} {s : State} (hu : c.unit = 0)
include hu

theorem exec_sealStatus (h : s.Takes 0x78 c []) : exec (.sealStatus dt c []) s = .next ({ s.accepted dt c with free := s.free + 1 }.reply (s.handle 0x78 c) stDone
    (le 2 s.sealer.live.toNat ++ le 2 s.sealer.stored ++ le 4 s.sealer.commitCount
      ++ le 1 (bit (decide (s.sealer.writes ≠ [])) + 2 * bit s.sealer.blank + 4 * bit s.sealer.mismatch)
      ++ (imageDigest s.sealer.pending).take 8 ++ le 2 (switchCode (imageDigest s.sealer.pending))
      ++ match s.sealer.committed with | some k => k.digest.take 8 | none => le 8 (Config.freeNat s.free))) :=
  congrArg Host.Outcome.next ((State.exec_takes dt State.sealStatus h).trans (if_neg (not_not.2 hu)))

theorem exec_sealCommit_refused (h : s.Takes 0x79 c ps) {st : Nat} {b : List Byte} (hr : (s.accepted dt c).commitRefused (ps.take 8) = some (st, b)) :
    exec (.sealCommit dt c ps) s = .next ((s.accepted dt c).reply (s.handle 0x79 c) st b) := by
  refine congrArg Host.Outcome.next ((State.exec_takes dt State.sealCommit h).trans ((if_neg (not_not.2 hu)).trans ?_))
  rw [hr]

theorem exec_sealCommit_taken (h : s.Takes 0x79 c ps) (hr : (s.accepted dt c).commitRefused (ps.take 8) = none) : exec (.sealCommit dt c ps) s
    = .next { (s.accepted dt c).reply (s.handle 0x79 c) stAccepted [] with sealer := { s.sealer with commit := some ⟨s.handle 0x79 c, s.sealer.writes⟩, writes := [] } } := by
  refine congrArg Host.Outcome.next ((State.exec_takes dt State.sealCommit h).trans ((if_neg (not_not.2 hu)).trans ?_))
  rw [hr]
  simp only [State.reply_sealer]
  rfl

theorem exec_sealDiscard (h : s.Takes 0x7A c []) {t : State} (ht : t = { s.accepted dt c with sealer := { s.sealer with writes := [] } }) :
    exec (.sealDiscard dt c []) s
      = .next ((if s.sealer.writes ≠ [] then t.raise 44 0x002C 0 (s.sealer.live.toNat + 65536 * 3) else t).reply (s.handle 0x7A c) stDone []) := by
  subst ht
  refine congrArg Host.Outcome.next ((State.exec_takes dt State.sealDiscard h).trans ((if_neg (not_not.2 hu)).trans ?_))
  exact congrArg (State.reply · _ stDone []) (if_congr decide_eq_true_iff rfl rfl)

theorem exec_sealImageRead (h : s.Takes 0x7B c ps) (h1 : 1 ≤ (ps.getD 2 0).toNat) (h2 : (ps.getD 2 0).toNat ≤ 32) :
    exec (.sealImageRead dt c ps) s = .next ((s.accepted dt c).reply (s.handle 0x7B c) stDone
      ((((sealedImage s.sealer.pending).drop (unLe (ps.take 2))).take (ps.getD 2 0).toNat).flatMap recordBytes)) :=
  congrArg Host.Outcome.next ((State.exec_takes dt State.sealImageRead h).trans ((if_neg (not_not.2 hu)).trans (if_neg (by omega))))

end Commands

/-- A commit that no check refuses: the conditions of R306 and R311. -/
theorem State.commitRefused_none {s : State} {start : List Byte} (h : s.commitRefused start = none) : s.mode = .maintain ∧ s.sealOpen
    ∧ start = (imageDigest s.sealer.pending).take 8 ∧ s.sealer.live.toNat % 32768 = switchCode (imageDigest s.sealer.pending) ∧ s.sealer.commit = none := by
  unfold State.commitRefused at h
  dsimp only at h
  split at h
  · cases h
  next hmode =>
  split at h
  · cases h
  next hopen =>
  split at h
  · cases h
  next hstart =>
  split at h
  · cases h
  next hcode =>
  split at h
  · cases h
  split at h
  · cases h
  split at h
  · cases h
  split at h
  · cases h
  next hcommit =>
  exact ⟨not_not.1 hmode, by simpa using hopen, (not_not.1 hstart).symm, not_not.1 hcode, by simpa using hcommit⟩

/-! ## The end of a commit -/

/-- The copy of the block that a commit overwrites: the one that is not in use. -/
def Seal.older (x : Seal) : Fin 2 :=
  match x.committed with
  | some k => if x.copies[0] = k then 1 else 0
  | none => 0

theorem Seal.older_eq (x : Seal) : x.older = if x.committed = some x.copies[0] then 1 else 0 := by
  unfold Seal.older
  split
  next k hk => rw [hk]; exact if_congr (by rw [Option.some_inj, eq_comm]) rfl rfl
  next hk => rw [hk]; rfl

/-- The block with the committed writes is in the older copy, and the reply is given. -/
def State.blockWritten (s : State) (h : Handle) (w : List ((Nat × Nat) × Int)) : State :=
  let vals := overlay s.sealer.base w
  let d := imageDigest vals
  let copy : SealCopy := ⟨true, vals, d, BitVec.ofNat 16 (switchCode d), s.sealer.commitCount + 1, true⟩
  (({ s with sealer := { s.sealer with copies := s.sealer.copies.set s.sealer.older.val copy, commit := none, config := configDigest vals } } : State).sealEvent 2).reply
    h stDone (le 2 (switchCode d) ++ le 4 (s.sealer.commitCount + 1))

/-- What follows a commit: the check of R62, and the move to CONFIGURE. -/
def State.committed (s : State) : State :=
  let u := if s.mode = .maintain then s.runChecks else s
  if u.mode = .maintain ∧ !u.sealOpen then u.leaveMaintain else u

theorem exec_sealCommitDone (dt : Nat) {s : State} {h : Handle} {w : List ((Nat × Nat) × Int)} (hc : s.sealer.commit = some ⟨h, w⟩) (hb : s.recorder.blocked = false) :
    exec (.sealCommitDone dt) s = .next ((s.advance dt).blockWritten h w).committed := by
  have hc' : (s.advance dt).sealer.commit = some ⟨h, w⟩ := hc
  have hb' : (s.advance dt).recorder.blocked = false := hb
  refine congrArg Host.Outcome.next ?_
  split
  next hn => rw [hn] at hc'; cases hc'
  next c hs =>
    cases hs.symm.trans hc'
    exact if_neg (by rw [hb']; decide)

/-- With the switches open, or outside MAINTAIN, only the check follows a commit. -/
theorem State.committed_of_open {s : State} (h : s.mode ≠ .maintain ∨ s.sealOpen) : s.committed = if s.mode = .maintain then s.runChecks else s := by
  unfold State.committed
  by_cases hs : s.mode = .maintain
  · have hu : s.runChecks.sealOpen = true := by rw [State.sealOpen, State.sealer_runChecks]; exact h.resolve_left (not_not.2 hs)
    simp [hs, hu]
  · simp [hs]

/-- Settles O25: each command by its packet, the refusals by their order, and the check of R62 by what it leaves of the seal and of the mode. -/
theorem sealCommits : Obligations.SealCommits := by
  unfold Obligations.SealCommits
  refine ⟨fun dt c ps s hu => ⟨fun h => ⟨_, exec_sealStatus dt hu h, fun k hk => by rw [hk]⟩, exec_sealCommit_taken dt hu,
    fun h _ _ => exec_sealCommit_refused dt hu h, fun h => ⟨_, rfl, exec_sealDiscard dt hu h rfl⟩, ?_⟩, fun s start => State.commitRefused_none, ?_⟩
  · rintro off n h rfl rfl h1 h2
    exact exec_sealImageRead dt hu h h1 h2
  · intro dt s t h w copy older hc hb hm ho hcopy ht
    have hwritten : (s.advance dt).blockWritten h w = t := by
      rw [← Seal.older_eq] at ho
      rw [ht, hcopy, ho]
      rfl
    have hmode : t.mode = s.mode := by rw [ht, State.reply_mode, State.raise_mode]; rfl
    have hopen : t.sealOpen = s.sealOpen := by rw [State.sealOpen, ht, State.reply_sealer, State.raise_sealer]; rfl
    rw [exec_sealCommitDone dt hc hb, hwritten, State.committed_of_open (by rwa [hmode, hopen]), hmode]

end Sys2Proof.Machine
end

section
/-! An evaluation step by step: what goes before its steps, and which steps have nothing to do in which state (R92). -/

namespace Sys2Proof.Machine

/-! ## Before the steps -/

/-- Since when the LOCKED condition holds, once it has been followed (R68). -/
def State.lockedTime (s : State) (p : PortalId) : Option Ts :=
  if s.present p && s.lockedCond p then (if (s.portal p).lockedSince.isSome then (s.portal p).lockedSince else some s.ts) else none

theorem State.plausStep_bare (s : State) (p : PortalId) (k : Fin 3) : (s.plausStep p k).bare = s.bare := s.modPortal_bare_same p rfl

theorem State.plausWatch_bare (s : State) (p : PortalId) : (s.plausWatch p).bare = s.bare := by
  rw [State.plausWatch_eq, State.plausStep_bare, State.plausStep_bare, State.plausStep_bare]

theorem State.lockWatch_bare (s : State) (p : PortalId) : (s.lockWatch p).bare = s.bare.modPortal p fun x => { x with lockedSince := s.lockedTime p } := by
  have hb := s.plausWatch_bare p
  have hs := State.senses_of_bare hb
  have hsince : ((s.plausWatch p).portal p).lockedSince = (s.portal p).lockedSince := State.field_of_bare Portal.lockedSince (fun _ => rfl) hb p
  rw [← hb]
  refine State.modPortal_bare_of _ _ ?_
  unfold State.lockedTime
  rw [State.present_congr hs, State.lockedCond_congr hs, hsince, State.ts_congr hs]
  rfl

theorem State.lockWatch_senses (s : State) (p : PortalId) : (s.lockWatch p).senses = s.senses := State.senses_of_visible (s.lockWatch_bare p) fun _ => rfl

theorem State.lockedSince_lockWatch (s : State) (p : PortalId) : ((s.lockWatch p).portal p).lockedSince = s.lockedTime p :=
  State.field_of_visible Portal.lockedSince (fun _ => rfl) (s.lockWatch_bare p)

/-- Following the LOCKED condition twice at one instant is following it once. -/
theorem State.lockedTime_lockWatch (s : State) (p : PortalId) : (s.lockWatch p).lockedTime p = s.lockedTime p := by
  have hs := s.lockWatch_senses p
  rw [State.lockedTime, State.lockedSince_lockWatch, State.present_congr hs, State.lockedCond_congr hs, State.ts_congr hs, State.lockedTime]
  split
  · split <;> simp [*]
  · rfl

/-- An evaluation before its steps. -/
def State.watched (s : State) (p : PortalId) : State := ((s.lockWatch p).pneuStep p).relStep p

/-- A portal before the steps of its evaluation. -/
def Portal.watched (since : Option Ts) (rel : Bool) (x : Portal) : Portal :=
  { x with lockedSince := since, closeFailed := x.closeFailed && !(rel && !x.relPrev), relPrev := rel }

theorem State.watched_bare (s : State) (p : PortalId) : (s.watched p).bare = s.bare.modPortal p (Portal.watched (s.lockedTime p) (s.released p)) := by
  have hb : ((s.lockWatch p).pneuStep p).bare = (s.lockWatch p).bare := State.pneuStep_bare ..
  have hrel : ((s.lockWatch p).pneuStep p).released p = s.released p := State.released_congr ((State.senses_of_bare hb).trans (s.lockWatch_senses p)) p
  unfold State.watched State.relStep
  dsimp only
  rw [hrel, State.modPortal_bare, hb, State.lockWatch_bare, State.modPortal_modPortal]
  · rfl
  · exact fun _ => rfl

theorem State.watched_senses (s : State) (p : PortalId) : (s.watched p).senses = s.senses := State.senses_of_visible (s.watched_bare p) fun _ => rfl

/-- What the watches leave of a portal. -/
theorem State.field_watched (s : State) (p : PortalId) {α : Type} (g : Portal → α)
    (hg : ∀ (x : Portal) (since : Option Ts) (rel : Bool), g x.bare = g x ∧ g (x.watched since rel) = g x) : g ((s.watched p).portal p) = g (s.portal p) := by
  rw [State.field_of_visible g (fun x => (hg x none false).1) (s.watched_bare p), (hg _ _ _).2, (hg _ none false).1]

/-- An evaluation right after the LOCKED condition has been followed finds its time as it is. -/
theorem State.lockedSince_watched (s : State) (p : PortalId) : (((s.lockWatch p).watched p).portal p).lockedSince = ((s.lockWatch p).portal p).lockedSince := by
  rw [State.lockedSince_lockWatch, ← State.lockedTime_lockWatch]
  exact State.field_of_visible Portal.lockedSince (fun _ => rfl) ((s.lockWatch p).watched_bare p)

theorem State.settled_of_since {s t : State} {p : PortalId} (hs : t.senses = s.senses) (hl : (t.portal p).lockedSince = (s.portal p).lockedSince) : t.settled p = s.settled p := by
  rw [State.settled, hl, State.ran_congr hs, State.parN_congr hs, State.settled]

theorem State.evaluate_of_starting {s : State} {p : PortalId} (h : (s.portal p).start = 1) : s.evaluate p
    = let u := (((s.watched p).foundStep p).modPortal p fun x => { x with start := 0 }).resting p
      (if u.suspended p then u else u.closeStep p).cmdStep p :=
  if_pos ((s.field_watched p Portal.start (fun _ _ _ => ⟨rfl, rfl⟩)).trans h)

theorem State.evaluate_of_running {s : State} {p : PortalId} (h : (s.portal p).start = 0) : s.evaluate p
    = ((((((s.watched p).isoStep p (s.watched p).wdgExpired).ehStep p).declStep p).foundStep p).causeStep p).evalRest p :=
  if_neg fun h1 => by
    have h0 := (s.field_watched p Portal.start (fun _ _ _ => ⟨rfl, rfl⟩)).symm.trans h1
    rw [h] at h0
    cases h0

/-! ## Steps that have nothing to do -/

section Quiet
variable {s : State} {p : PortalId}

theorem State.isoStep_of_inactive (susp : Bool) (h : s.isActive p = false) (hst : (s.portal p).state ≠ .isolated) : s.isoStep p susp = s := by
  simp [State.isoStep, h, hst]

theorem State.ehStep_of_inactive (h : s.ehActive p = false) : s.ehStep p = s := by simp [State.ehStep, h]

theorem State.declStep_nil (h : (s.portal p).found = []) : s.declStep p = s := by simp [State.declStep, h]

theorem State.causeStep_of_none (h : (s.portal p).pendingCause = 0) (hst : (s.portal p).state ≠ .locked) : s.causeStep p = s := by
  simp [State.causeStep, h, hst]

theorem State.zsStep_of_ne_open (h : (s.portal p).state ≠ .open) : s.zsStep p = s := if_neg fun c => h c.1
theorem State.zsStep_of_confirmed (h : s.zsConfirmed = true) : s.zsStep p = s := if_neg fun c => by simp [h] at c

theorem State.timeoutStep_of_not (h : s.stateTimedOut p = false) : s.timeoutStep p = s := if_neg (by simp [h])

theorem State.stateTimedOut_of_none (h : timeoutOf (s.portal p).state = none) : s.stateTimedOut p = false := by
  unfold State.stateTimedOut
  rw [h]

theorem State.warnStep_of_ne_open (h : (s.portal p).state ≠ .open) : s.warnStep p = s := if_neg fun c => h c.1
theorem State.warnStep_of_none (h : (s.portal p).warn = none) : s.warnStep p = s := if_neg fun c => by simp [h, State.ran] at c
theorem State.dwellStep_of_ne_open (h : (s.portal p).state ≠ .open) : s.dwellStep p = s := if_neg fun c => h c.1
theorem State.pauseStep_of_ne_opening (h : (s.portal p).state ≠ .opening) : s.pauseStep p = s := if_neg fun c => h c.1

theorem State.completeStep_of_rest (h : timeoutOf (s.portal p).state = none) : s.completeStep p = s := by
  cases hst : (s.portal p).state <;> simp_all [State.completeStep, timeoutOf]

/-- The states in which close intent does nothing: CLOSING and what follows it, and the states outside door service. -/
def PState.closeIdle (st : PState) : Prop := st ≠ .stepDeploy ∧ st ≠ .unlocking ∧ st ≠ .opening ∧ st ≠ .open

theorem State.closeStep_of_idle (h : (s.portal p).state.closeIdle) : s.closeStep p = s := by
  obtain ⟨h1, h2, h3, h4⟩ := h
  unfold State.closeStep
  cases hst : (s.portal p).state <;> simp_all

theorem State.closeStep_of_none (h : s.closeIntent p = false) (hst : (s.portal p).state ≠ .open) : s.closeStep p = s := by
  unfold State.closeStep
  cases hst' : (s.portal p).state <;> simp_all

theorem State.cmdStep_nil (h : (s.portal p).queue = []) : s.cmdStep p = s := by
  unfold State.cmdStep
  rw [h, State.modPortal_self (by rw [← h])]
  exact ite_self _

theorem State.jogStep_of_ne_jog (h : (s.portal p).state ≠ .jog) : s.jogStep p = s := if_pos h

/-- The last steps of an evaluation of a portal that no close intent moves and no command waits for. -/
theorem State.lastSteps_of_idle (h : (s.portal p).state.closeIdle) (hj : (s.portal p).state ≠ .jog) (hq : (s.portal p).queue = []) :
    (((s.closeStep p).cmdStep p).closeStep p).jogStep p = s := by
  rw [State.closeStep_of_idle h, State.cmdStep_nil hq, State.closeStep_of_idle h, State.jogStep_of_ne_jog hj]

/-- The states that only a command, a sensor or a cause ends. -/
def PState.parked (st : PState) : Prop := st = .isolated ∨ st = .emergency ∨ st = .fenced ∨ st = .locked

theorem PState.parked_rest {st : PState} (h : st.parked) : timeoutOf st = none ∧ st.closeIdle ∧ st ≠ .jog ∧ st ≠ .open ∧ st ≠ .opening := by
  rcases h with rfl | rfl | rfl | rfl <;> simp [timeoutOf, PState.closeIdle]

/-- Steps 7 to 10 of R92 but the timeout. -/
def State.evalTail (s : State) (p : PortalId) : State :=
  ((((((((s.warnStep p).dwellStep p).pauseStep p).completeStep p).closeStep p).cmdStep p).closeStep p).jogStep p)

theorem State.evalTail_of_parked (h : (s.portal p).state.parked) (hq : (s.portal p).queue = []) : s.evalTail p = s := by
  obtain ⟨ht, hc, hj, ho, hop⟩ := PState.parked_rest h
  rw [State.evalTail, State.warnStep_of_ne_open ho, State.dwellStep_of_ne_open ho, State.pauseStep_of_ne_opening hop, State.completeStep_of_rest ht,
    State.lastSteps_of_idle hc hj hq]

theorem State.evalRest_of_works (h : s.suspended p = false) : s.evalRest p = (((s.obstStep p).zsStep p).timeoutStep p).evalTail p := by
  unfold State.evalRest State.evalTail
  simp [h]

/-- In a state without motion an obstacle is only noted as handled. -/
theorem State.obstStep_still (h1 : (s.portal p).state ≠ .closing) (h2 : (s.portal p).state ≠ .opening) (h3 : (s.portal p).state ≠ .reopening)
    (h4 : (s.portal p).state ≠ .jog) : s.obstStep p = s.clearDeclared p := by
  unfold State.obstStep
  cases hst : (s.portal p).state <;> simp_all

/-- The evaluation of a parked portal without commands changes only what the outputs show. -/
theorem State.evalRest_of_parked (h : (s.portal p).state.parked) (hq : (s.portal p).queue = []) : (s.evalRest p).bare = s.bare := by
  obtain ⟨ht, hc, hj, ho, hop⟩ := PState.parked_rest h
  have hb := s.clearDeclared_bare p
  have hst : ((s.clearDeclared p).portal p).state = (s.portal p).state := State.field_of_bare Portal.state (fun _ => rfl) hb p
  have hq' : ((s.clearDeclared p).portal p).queue = [] := (State.field_of_bare Portal.queue (fun _ => rfl) hb p).trans hq
  cases hsusp : s.suspended p with
  | true =>
    unfold State.evalRest
    simp only [hsusp, if_true, hj, ne_eq, not_false_eq_true, and_self]
    rw [State.cmdStep_nil hq', State.jogStep_of_ne_jog (by rwa [hst]), hb]
  | false =>
    rw [State.evalRest_of_works hsusp, State.obstStep_still _ hop _ hj, State.zsStep_of_ne_open (by rwa [hst]),
      State.timeoutStep_of_not (State.stateTimedOut_of_none (by rwa [hst])), State.evalTail_of_parked (by rwa [hst]) hq', hb]
    · rcases h with h | h | h | h <;> simp [h]
    · rcases h with h | h | h | h <;> simp [h]

/-- An evaluation with nothing found: the switch and the handle at rest, no cause, the portal not locked or isolated. -/
theorem State.evaluate_quiet (hstart : (s.portal p).start = 0) (hi : s.isActive p = false) (he : s.ehActive p = false) (hf : (s.portal p).found = [])
    (hc : (s.portal p).pendingCause = 0) (hst : (s.portal p).state ≠ .isolated) (hlk : (s.portal p).state ≠ .locked) : s.evaluate p = (s.watched p).evalRest p := by
  have hs := s.watched_senses p
  have hst' : ((s.watched p).portal p).state = (s.portal p).state := s.field_watched p Portal.state (fun _ _ _ => ⟨rfl, rfl⟩)
  have hf' : ((s.watched p).portal p).found = [] := (s.field_watched p Portal.found (fun _ _ _ => ⟨rfl, rfl⟩)).trans hf
  rw [State.evaluate_of_running hstart, State.isoStep_of_inactive _ ((State.isActive_congr hs p).trans hi) (by rwa [hst']),
    State.ehStep_of_inactive ((State.ehActive_congr hs p).trans he), State.declStep_nil hf', State.foundStep_nil hf',
    State.causeStep_of_none ((s.field_watched p Portal.pendingCause (fun _ _ _ => ⟨rfl, rfl⟩)).trans hc) (by rwa [hst'])]

end Quiet

end Sys2Proof.Machine
end

section
/-! Evaluations and transitions of a portal (R66, R68, R71, R72, R76–R82, R87, R88, R92, R93). -/

namespace Sys2Proof.Machine

/-! ## Isolation and the handle (R87, R88) -/

section Parked
variable {s : State} {p : PortalId}

/-- A fence cause leaves a portal in ISOLATED or EMERGENCY there, with its commands. -/
theorem State.fenceNow_of_halted (h : (s.portal p).state = .isolated ∨ (s.portal p).state = .emergency) (cause unit param : Nat) :
    ((s.fenceNow p cause unit param).portal p).state = (s.portal p).state ∧ ((s.fenceNow p cause unit param).portal p).queue = (s.portal p).queue := by
  cases hp : s.present p with
  | false =>
    rw [State.fenceNow_absent hp]
    exact ⟨rfl, rfl⟩
  | true =>
    have hb := State.fenceNow_bare_of_waits hp cause unit param (.inr (.inr h))
    exact ⟨State.field_of_visible Portal.state (fun _ => rfl) hb, State.field_of_visible Portal.queue (fun _ => rfl) hb⟩

/-- The portal is in a halted state with no command waiting. -/
def State.haltedIn (s : State) (p : PortalId) (st : PState) : Prop := (s.portal p).state = st ∧ (s.portal p).queue = []

theorem foldState_haltedIn {α : Type} {st : PState} {f : α → State → State} (hf : ∀ a (t : State), t.haltedIn p st → (f a t).haltedIn p st) (l : List α)
    (h : s.haltedIn p st) : (foldState l f s).haltedIn p st := by
  induction l generalizing s with
  | nil => exact h
  | cons a l ih => exact ih (hf a s h)

theorem State.haltedIn_of_bare {t : State} {st : PState} (hb : t.bare = s.bare) (h : s.haltedIn p st) : t.haltedIn p st :=
  ⟨(State.field_of_bare Portal.state (fun _ => rfl) hb p).trans h.1, (State.field_of_bare Portal.queue (fun _ => rfl) hb p).trans h.2⟩

theorem State.foundStep_haltedIn {st : PState} (hst : st = .isolated ∨ st = .emergency) (h : s.haltedIn p st) : (s.foundStep p).haltedIn p st := by
  have hfence (x : Nat × Nat × Nat) (t : State) (ht : t.haltedIn p st) : (t.fenceNow p x.1 x.2.1 x.2.2).haltedIn p st := by
    obtain ⟨hs, hq⟩ := State.fenceNow_of_halted (by rwa [ht.1]) x.1 x.2.1 x.2.2
    exact ⟨hs.trans ht.1, hq.trans ht.2⟩
  rw [State.foundStep_eq]
  refine foldState_haltedIn (fun c t => foldState_haltedIn hfence _) _ ?_
  rw [State.haltedIn, State.portal_modPortal, if_pos rfl]
  exact h

/-- The rest of an evaluation leaves a halted portal where it is. -/
theorem State.restSteps_haltedIn {st : PState} (hst : st = .isolated ∨ st = .emergency) (h : s.haltedIn p st) :
    ((((s.declStep p).foundStep p).causeStep p).evalRest p).haltedIn p st := by
  have hd : (s.declStep p).haltedIn p st := State.haltedIn_of_bare (State.declStep_bare ..) h
  obtain ⟨hs, hq⟩ := State.foundStep_haltedIn hst hd
  have hc : ((s.declStep p).foundStep p).causeStep p = (s.declStep p).foundStep p := by
    unfold State.causeStep
    rcases hst with rfl | rfl <;> simp [hs]
  rw [hc]
  refine State.haltedIn_of_bare (State.evalRest_of_parked ?_ hq) ⟨hs, hq⟩
  rw [hs]
  exact hst.elim .inl (.inr ∘ .inl)

theorem State.halted_haltedIn (st : PState) (outcome : Nat) (hq : (s.portal p).queue = []) : (s.halted p st outcome).haltedIn p st := by
  obtain ⟨since, timer, hb⟩ := s.halted_bare p st outcome
  exact ⟨State.field_of_visible Portal.state (fun _ => rfl) hb, (State.field_of_visible Portal.queue (fun _ => rfl) hb).trans hq⟩

/-- The isolation switch comes before everything else (R88). -/
theorem State.evaluate_isolated (hstart : (s.portal p).start = 0) (hq : (s.portal p).queue = []) (hi : s.isActive p = true) :
    ((s.evaluate p).portal p).state = .isolated := by
  have hi' : (s.watched p).isActive p = true := (State.isActive_congr (s.watched_senses p) p).trans hi
  have hq' : ((s.watched p).portal p).queue = [] := (s.field_watched p Portal.queue (fun _ _ _ => ⟨rfl, rfl⟩)).trans hq
  have hiso (b : Bool) : ((s.watched p).isoStep p b).haltedIn p .isolated := by
    unfold State.isoStep
    rw [if_pos hi']
    split
    next hst => exact ⟨hst, hq'⟩
    next => exact State.halted_haltedIn _ _ hq'
  have heh (b : Bool) : ((s.watched p).isoStep p b).ehStep p = (s.watched p).isoStep p b := if_neg fun c => c.2.1 (hiso b).1
  rw [State.evaluate_of_running hstart, heh]
  exact (State.restSteps_haltedIn (.inl rfl) (hiso _)).1

/-- The emergency handle comes before everything but the switch (R87). -/
theorem State.evaluate_emergency (hstart : (s.portal p).start = 0) (hq : (s.portal p).queue = []) (hi : s.isActive p = false) (he : s.ehActive p = true)
    (hiso : (s.portal p).state ≠ .isolated) (habs : (s.portal p).state ≠ .absent) : ((s.evaluate p).portal p).state = .emergency := by
  have hs := s.watched_senses p
  have hst : ((s.watched p).portal p).state = (s.portal p).state := s.field_watched p Portal.state (fun _ _ _ => ⟨rfl, rfl⟩)
  have hq' : ((s.watched p).portal p).queue = [] := (s.field_watched p Portal.queue (fun _ _ _ => ⟨rfl, rfl⟩)).trans hq
  have heh : ((s.watched p).ehStep p).haltedIn p .emergency := by
    unfold State.ehStep
    dsimp only
    rw [State.ehActive_congr hs, hst]
    split
    next => exact State.halted_haltedIn _ _ hq'
    next hc => exact ⟨hst.trans (by simpa [he, hiso, habs] using hc), hq'⟩
  rw [State.evaluate_of_running hstart, State.isoStep_of_inactive _ ((State.isActive_congr hs p).trans hi) (by rwa [hst])]
  exact (State.restSteps_haltedIn (.inr rfl) heh).1

end Parked

/-! ## The start of the sequencer (R66, R68) -/

/-- A portal that enters FENCED with the first kept cause. -/
def Portal.kept (since : Ts) (x : Portal) : Portal :=
  ({ x with fenceCause := if x.fenceCause = 0 then x.pendingCause else x.fenceCause, pendingCause := 0 } : Portal).fenced since

theorem State.enterKept_bare (s : State) (p : PortalId) : ∃ since, (s.enterKept p).bare = s.bare.modPortal p (Portal.kept since) := by
  obtain ⟨since, hb⟩ := State.enterFenced_bare
    (s.modPortal p fun x => { x with fenceCause := if x.fenceCause = 0 then x.pendingCause else x.fenceCause, pendingCause := 0 }) p
  refine ⟨since, ?_⟩
  unfold State.enterKept
  rw [hb, State.modPortal_bare, State.modPortal_modPortal]
  · rfl
  · exact fun _ => rfl

/-- The portal is in a state from which no evaluation starts it, and no command waits. -/
structure State.At (s : State) (p : PortalId) (st : PState) : Prop where
  state : (s.portal p).state = st
  start : (s.portal p).start = 0
  queue : (s.portal p).queue = []

/-- Where the resting evaluation ends (R68). -/
def State.restState (s : State) (p : PortalId) : PState :=
  if s.isActive p then .isolated else if s.ehActive p then .emergency else if s.causePending p then .fenced else if s.settled p then .locked else .open

theorem State.restState_idle (s : State) (p : PortalId) : s.restState p = .open ∨ (s.restState p).closeIdle := by
  unfold State.restState
  repeat' split
  all_goals simp [PState.closeIdle]

section Starting
variable {s t : State} {p : PortalId} {f : Portal → Portal} {st : PState}

theorem State.At.of_visible (hb : t.bare = s.bare.modPortal p f) (hst : (f (s.portal p).bare).state = st) (hstart : (f (s.portal p).bare).start = 0)
    (hq : (f (s.portal p).bare).queue = []) : t.At p st :=
  ⟨(State.field_of_visible Portal.state (fun _ => rfl) hb).trans hst, (State.field_of_visible Portal.start (fun _ => rfl) hb).trans hstart, (State.field_of_visible Portal.queue (fun _ => rfl) hb).trans hq⟩

theorem State.At.of_bare (h : s.At p st) (hb : t.bare = s.bare) : t.At p st :=
  ⟨(State.field_of_bare Portal.state (fun _ => rfl) hb p).trans h.state, (State.field_of_bare Portal.start (fun _ => rfl) hb p).trans h.start, (State.field_of_bare Portal.queue (fun _ => rfl) hb p).trans h.queue⟩

variable (hstart : (s.portal p).start = 0) (hq : (s.portal p).queue = [])
include hstart hq

theorem State.halted_at (st : PState) (outcome : Nat) : (s.halted p st outcome).At p st := by
  obtain ⟨since, timer, hb⟩ := s.halted_bare p st outcome
  exact .of_visible hb rfl hstart hq

theorem State.enterKept_at : (s.enterKept p).At p .fenced := by
  obtain ⟨since, hb⟩ := s.enterKept_bare p
  exact .of_visible hb rfl hstart (by simp [Portal.kept, Portal.fenced, Portal.ended, Portal.inState, Portal.bare, hq])

theorem State.enterLocked_at : (s.enterLocked p).At p .locked := by
  obtain ⟨since, timer, hb⟩ := s.enterLocked_bare p
  exact .of_visible hb rfl hstart hq

theorem State.enter_at (st : PState) : (s.enter p st).At p st := by
  obtain ⟨since, timer, hb⟩ := s.enter_bare p st
  exact .of_visible hb rfl hstart hq

theorem State.enterClosing_at (reclose : Bool) : (s.enterClosing p reclose).At p .closing := by
  obtain ⟨since, timer, hb⟩ := s.enterClosing_bare p reclose
  exact .of_visible hb rfl hstart hq

omit hstart hq in
theorem State.At.modPortal (h : s.At p st) (hf : (f (s.portal p)).state = (s.portal p).state ∧ (f (s.portal p)).start = (s.portal p).start
    ∧ (f (s.portal p)).queue = (s.portal p).queue) : (s.modPortal p f).At p st := by
  obtain ⟨h1, h2, h3⟩ := hf
  constructor <;> rw [State.portal_modPortal, if_pos rfl]
  · exact h1.trans h.state
  · exact h2.trans h.start
  · exact h3.trans h.queue

theorem State.resting_at : (s.resting p).At p (s.restState p) := by
  unfold State.resting State.restState
  split
  next => exact State.halted_at hstart hq ..
  split
  next => exact State.halted_at hstart hq ..
  split
  next => exact State.enterKept_at hstart hq
  split
  next => exact State.enterLocked_at hstart hq
  next => exact State.enter_at (by simpa using hstart) (by simpa using hq) _

omit hstart hq in
/-- Close intent in OPEN: without zero speed CLOSING begins, otherwise at most the warning. -/
theorem State.closeStep_open (h : s.At p .open) : (s.closeStep p).At p .open ∨ (s.zsConfirmed = false ∧ (s.closeStep p).At p .closing) := by
  unfold State.closeStep
  dsimp only
  rw [h.state]
  dsimp only
  split
  next =>
    split
    next hz => exact .inr ⟨by simpa using hz, State.enterClosing_at h.start h.queue _⟩
    next =>
      refine .inl ?_
      split
      next => exact h
      next => exact .of_bare (h.modPortal ⟨rfl, rfl, rfl⟩) (State.setWarn_bare ..)
  next =>
    refine .inl ?_
    split
    next => exact .of_bare (h.modPortal ⟨rfl, rfl, rfl⟩) (State.setWarn_bare ..)
    next => exact h

end Starting

/-- The resting evaluation changes nothing that the sequencer only reads. -/
theorem State.resting_senses (s : State) (p : PortalId) : (s.resting p).senses = s.senses := by
  unfold State.resting
  split
  next =>
    obtain ⟨since, timer, hb⟩ := s.halted_bare p .isolated 4
    exact State.senses_of_visible hb fun _ => rfl
  split
  next =>
    obtain ⟨since, timer, hb⟩ := s.halted_bare p .emergency 3
    exact State.senses_of_visible hb fun _ => rfl
  split
  next =>
    obtain ⟨since, hb⟩ := s.enterKept_bare p
    exact State.senses_of_visible hb fun _ => rfl
  split
  next =>
    obtain ⟨since, timer, hb⟩ := s.enterLocked_bare p
    exact State.senses_of_visible hb fun _ => rfl
  next => exact (State.enter_senses ..).trans (State.modPortal_senses _ _ rfl)

/-- After the resting evaluation only a portal in OPEN follows its close intent, and no command waits. -/
theorem State.At.startSteps {s : State} {p : PortalId} {st : PState} (h : s.At p st) (hst : st = .open ∨ st.closeIdle) :
    ∃ st', ((if s.suspended p then s else s.closeStep p).cmdStep p).At p st' ∧ (st' = st ∨ st = .open ∧ st' = .closing ∧ s.zsConfirmed = false) := by
  split
  next =>
    rw [State.cmdStep_nil h.queue]
    exact ⟨st, h, .inl rfl⟩
  next =>
    rcases hst with rfl | hidle
    · rcases State.closeStep_open h with ho | ⟨hz, hc⟩
      · rw [State.cmdStep_nil ho.queue]
        exact ⟨_, ho, .inl rfl⟩
      · rw [State.cmdStep_nil hc.queue]
        exact ⟨_, hc, .inr ⟨rfl, rfl, hz⟩⟩
    · rw [State.closeStep_of_idle (by rwa [h.state]), State.cmdStep_nil h.queue]
      exact ⟨st, h, .inl rfl⟩

/-- The first evaluation of a portal ends where the resting evaluation does, or in CLOSING when zero speed is lost in OPEN (R66, R68, R79). -/
theorem State.evaluate_start {s : State} {p : PortalId} (hstart : (s.portal p).start = 1) (hq : (s.portal p).queue = []) (hf : (s.portal p).found = []) :
    ∃ st, (s.evaluate p).At p st
      ∧ (st = (s.watched p).restState p ∨ (s.watched p).restState p = .open ∧ st = .closing ∧ s.zsConfirmed = false) := by
  have hf' : ((s.watched p).portal p).found = [] := (s.field_watched p Portal.found (fun _ _ _ => ⟨rfl, rfl⟩)).trans hf
  let t := (s.watched p).modPortal p fun x => { x with start := 0 }
  have ht : t.portal p = { (s.watched p).portal p with start := 0 } := by rw [State.portal_modPortal, if_pos rfl]
  have hts : t.senses = (s.watched p).senses := State.modPortal_senses _ _ rfl
  have hpend : t.causePending p = (s.watched p).causePending p := by rw [State.causePending, ht, State.causePending]
  have hset : t.settled p = (s.watched p).settled p := State.settled_of_since hts (by rw [ht])
  have hrest : t.restState p = (s.watched p).restState p := by
    rw [State.restState, State.isActive_congr hts, State.ehActive_congr hts, hpend, hset, State.restState]
  have hat : (t.resting p).At p (t.restState p) := State.resting_at (by rw [ht]) (by rw [ht]; exact (s.field_watched p Portal.queue (fun _ _ _ => ⟨rfl, rfl⟩)).trans hq)
  have hz : (t.resting p).zsConfirmed = s.zsConfirmed := State.zsConfirmed_congr ((t.resting_senses p).trans (hts.trans (s.watched_senses p)))
  rw [State.evaluate_of_starting hstart, State.foundStep_nil hf', ← hrest, ← hz]
  exact hat.startSteps (t.restState_idle p)

end Sys2Proof.Machine
end

section
/-! The transitions of a portal and the ends of its times (R71, R72, R76–R82). -/

namespace Sys2Proof.Machine

/-! ## The completion of a transition (R71, R72, R76, R82) -/

section Complete
variable {s : State} {p : PortalId}

theorem State.completeStep_unlocking (h : (s.portal p).state = .unlocking) : s.completeStep p = if s.lkUnlocked p = true then s.enter p .opening else s := by
  unfold State.completeStep
  simp only [h]

theorem State.completeStep_opened (h : (s.portal p).state = .opening) (hs : (s.portal p).stopPartial = false) (hp : (s.portal p).pause = none)
    (hl : ∀ l ∈ s.leaves p, s.near p l (s.openPos p l) = true ∧ s.leafStill p l = true) : s.completeStep p = s.enterOpen p false := by
  unfold State.completeStep
  have hall : (s.leaves p).all (fun l => s.near p l (s.openPos p l) && s.leafStill p l) = true := List.all_eq_true.2 fun l hm => by simp [hl l hm]
  simp [h, hs, hp, hall]

theorem State.completeStep_opening_far (h : (s.portal p).state = .opening) (hs : (s.portal p).stopPartial = false)
    (hl : ∃ l ∈ s.leaves p, s.near p l (s.openPos p l) = false) : s.completeStep p = s := by
  obtain ⟨l, hm, hn⟩ := hl
  have hall : (s.leaves p).all (fun l => s.near p l (s.openPos p l) && s.leafStill p l) = false := List.all_eq_false.2 ⟨l, hm, by simp [hn]⟩
  unfold State.completeStep
  simp [h, hs, hall]

theorem State.completeStep_closed (h : (s.portal p).state = .closing) (hw : s.inWindow p = true) (hc : s.closedContacts p = true) (h0 : s.se0 p = false)
    (h1 : s.se1 p = false) (ho : s.obs p = false) : s.completeStep p = s.enter p .locking := by
  unfold State.completeStep
  simp only [h]
  exact if_pos (by simp [hw, hc, h0, h1, ho])

theorem State.completeStep_closing_far (h : (s.portal p).state = .closing) (hw : s.inWindow p = false) : s.completeStep p = s := by
  unfold State.completeStep
  simp only [h]
  exact if_neg (by simp [hw])

theorem State.completeStep_locked (h : (s.portal p).state = .locking) (hf : s.stepFitted p = false) (hl : s.lkLocked p = true) (hs : s.settled p = true) :
    s.completeStep p = s.enterLocked p := by
  unfold State.completeStep State.lockedStep
  simp [h, hf, hl, hs]

theorem State.stopPartial_closeStep (h : (s.portal p).state = .opening) (hi : s.closeIntent p = true) : ((s.closeStep p).portal p).stopPartial = true := by
  unfold State.closeStep
  simp only [h, hi, if_true]
  split
  next hs => exact hs
  next => simp

theorem State.state_obstStep_closing (h : (s.portal p).state = .closing) {k : Nat} (hk : s.obstacle p true true = some k) : ((s.obstStep p).portal p).state = .reopening := by
  have hb : (s.obstStep p).bare = (s.reopen p k).bare := by
    unfold State.obstStep
    simp [h, hk]
  exact (State.field_of_bare Portal.state (fun _ => rfl) hb p).trans (s.state_reopen p k)

theorem State.timeoutStep_timed {k : Nat} (hk : timeoutOf (s.portal p).state = some k) (ht : s.timedOut p k (s.portal p).timer = true) :
    s.timeoutStep p = if (s.portal p).state = .closing then s.reopen p 7 else s.fenceNow p 0x01 (uPortal p) (s.portal p).state.code := by
  refine if_pos ?_
  unfold State.stateTimedOut
  rw [hk]
  exact ht

end Complete

/-! ## A time that has passed is found by an evaluation (R66) -/

/-- The sequencer of the portal evaluates its times: it works, is not suspended and has started. -/
def State.evaluates (s : State) (p : PortalId) : Prop := s.seqWorks p = true ∧ s.suspended p = false ∧ (s.portal p).start = 0

theorem State.evaluateIf_of_evaluates {s : State} {p : PortalId} (h : s.evaluates p) : s.evaluateIf p true = s.evaluate p := by
  obtain ⟨h1, h2, h3⟩ := h
  exact if_pos (by simp [h1, h2, h3])

theorem State.evaluateIf_of_not {s : State} {p : PortalId} (h : s.seqWorks p = false ∨ s.suspended p = true ∨ (s.portal p).start ≠ 0) (c : Bool) : s.evaluateIf p c = s := by
  refine if_neg ?_
  rcases h with h | h | h <;> simp [h]

theorem State.not_evaluates {s : State} {p : PortalId} : ¬s.evaluates p ↔ s.seqWorks p = false ∨ s.suspended p = true ∨ (s.portal p).start ≠ 0 := by
  rw [State.evaluates, not_and_or, not_and_or, Bool.not_eq_true, Bool.not_eq_false]

theorem State.advance_seqWorks (dt : Nat) (s : State) (p : PortalId) : (s.advance dt).seqWorks p = s.seqWorks p := by
  have hmode : (s.advance dt).pdMode p = s.pdMode p := by
    rw [State.pdMode, State.advance_die]
    rfl
  rw [State.seqWorks, hmode]
  rfl

theorem State.advance_evaluates (dt : Nat) {s : State} {p : PortalId} : (s.advance dt).evaluates p ↔ s.evaluates p := by
  rw [State.evaluates, State.advance_seqWorks]
  exact Iff.rfl

theorem State.lockWatch_evaluates {s : State} {p : PortalId} : (s.lockWatch p).evaluates p ↔ s.evaluates p := by
  have hs := s.lockWatch_senses p
  have hstart : ((s.lockWatch p).portal p).start = (s.portal p).start := State.field_of_visible Portal.start (fun _ => rfl) (s.lockWatch_bare p)
  rw [State.evaluates, State.seqWorks_congr hs, State.suspended_congr hs, hstart, State.evaluates]

theorem State.stateTimedOut_of_some {s : State} {p : PortalId} {k : Nat} (hk : timeoutOf (s.portal p).state = some k) :
    s.stateTimedOut p = s.timedOut p k (s.portal p).timer := by
  unfold State.stateTimedOut
  rw [hk]

theorem State.ran_some (s : State) (b : Ts) (n : Nat) : s.ran (some b) (ms n) = s.elapsed b (100000 * n) := by
  rw [ms_eq]
  rfl

section Times
variable (dt : Nat) {s : State} {p : PortalId} (h : s.evaluates p)
include h

theorem exec_transitionTimeout {k : Nat} (hk : timeoutOf (s.portal p).state = some k) (ht : (s.advance dt).timedOut p k (s.portal p).timer = true) :
    exec (.transitionTimeout dt p) s = .next ((s.advance dt).evaluate p) := by
  refine congrArg Host.Outcome.next ?_
  rw [State.stateTimedOut_of_some (by rwa [State.advance_portal]), State.advance_portal, ht, State.evaluateIf_of_evaluates ((State.advance_evaluates dt).2 h)]

theorem exec_closeWarningEnd {b : Ts} (hb : (s.portal p).warn = some b) (ht : (s.advance dt).elapsed b (100000 * s.parN 0x1040 (uPortal p)) = true) :
    exec (.closeWarningEnd dt p) s = .next ((s.advance dt).evaluate p) := by
  have hpar : (s.advance dt).parN 0x1040 (uPortal p) = s.parN 0x1040 (uPortal p) := rfl
  refine congrArg Host.Outcome.next ?_
  rw [State.advance_portal, hb, State.ran_some, hpar, ht, State.evaluateIf_of_evaluates ((State.advance_evaluates dt).2 h)]

theorem exec_recloseDwellEnd {b : Ts} (hb : (s.portal p).dwell = some b) (ht : (s.advance dt).elapsed b (100000 * s.parN 0x1042 (uPortal p)) = true) :
    exec (.recloseDwellEnd dt p) s = .next ((s.advance dt).evaluate p) := by
  have hpar : (s.advance dt).parN 0x1042 (uPortal p) = s.parN 0x1042 (uPortal p) := rfl
  refine congrArg Host.Outcome.next ?_
  rw [State.advance_portal, hb, State.ran_some, hpar, ht, State.evaluateIf_of_evaluates ((State.advance_evaluates dt).2 h)]

theorem exec_obstOpenPauseEnd {b : Ts} (hb : (s.portal p).pause = some b) (ht : (s.advance dt).elapsed b (100000 * s.parN 0x1043 (uPortal p)) = true) :
    exec (.obstOpenPauseEnd dt p) s = .next ((s.advance dt).evaluate p) := by
  have hpar : (s.advance dt).parN 0x1043 (uPortal p) = s.parN 0x1043 (uPortal p) := rfl
  refine congrArg Host.Outcome.next ?_
  rw [State.advance_portal, hb, State.ran_some, hpar, ht, State.evaluateIf_of_evaluates ((State.advance_evaluates dt).2 h)]

theorem exec_lockSettleElapsed (hs : ((s.advance dt).lockWatch p).settled p = true) :
    exec (.lockSettleElapsed dt p) s = .next (((s.advance dt).lockWatch p).evaluate p) := by
  refine congrArg Host.Outcome.next ?_
  rw [hs, State.evaluateIf_of_evaluates (State.lockWatch_evaluates.2 ((State.advance_evaluates dt).2 h))]

end Times

/-- Where the sequencer does not evaluate, a time that has passed changes nothing. -/
theorem exec_times_idle (dt : Nat) {s : State} {p : PortalId} (h : ¬s.evaluates p) : exec (.transitionTimeout dt p) s = .next (s.advance dt)
    ∧ exec (.closeWarningEnd dt p) s = .next (s.advance dt) ∧ exec (.recloseDwellEnd dt p) s = .next (s.advance dt)
    ∧ exec (.obstOpenPauseEnd dt p) s = .next (s.advance dt) ∧ exec (.lockSettleElapsed dt p) s = .next ((s.advance dt).lockWatch p) := by
  have ht : ¬(s.advance dt).evaluates p := mt (State.advance_evaluates dt).1 h
  have hidle (c : Bool) : (s.advance dt).evaluateIf p c = s.advance dt := State.evaluateIf_of_not (State.not_evaluates.1 ht) c
  have hwatch (c : Bool) : ((s.advance dt).lockWatch p).evaluateIf p c = (s.advance dt).lockWatch p :=
    State.evaluateIf_of_not (State.not_evaluates.1 (mt State.lockWatch_evaluates.1 ht)) c
  exact ⟨congrArg _ (hidle _), congrArg _ (hidle _), congrArg _ (hidle _), congrArg _ (hidle _), congrArg _ (hwatch _)⟩

/-! ## Jogs and the local open input (R70, R93) -/

section Jogs
variable (dt : Nat) {s : State} {p : PortalId} {b : Ts}

theorem exec_jogRenewalTimeout_lock {v : Int} (hst : (s.portal p).state = .jog) (hj : (s.portal p).lockJog = some (v, b))
    (ht : (s.advance dt).elapsed b 25000000 = true) : exec (.jogRenewalTimeout dt p true) s = .next (((s.advance dt).endLockJog p).jogStep p) := by
  unfold exec execJogRenewalTimeout
  simp only [State.advance_portal, hst, hj]
  exact congrArg Host.Outcome.next (if_pos ht)

theorem exec_jogRenewalTimeout_unit {j : Jog} (hst : (s.portal p).state = .jog) (hj : (s.portal p).jog = some j)
    (ht : (s.advance dt).elapsed j.renew 25000000 = true) : exec (.jogRenewalTimeout dt p false) s = .next (((s.advance dt).endUnitJog p).jogStep p) := by
  unfold exec execJogRenewalTimeout
  simp only [State.advance_portal, hst, hj]
  exact congrArg Host.Outcome.next (if_pos ht)

end Jogs

end Sys2Proof.Machine
end

section
/-! The evaluations in which a time of the sequencer ends: timeout, close warning, reclose dwell, obstacle pause, LOCK_SETTLE (R72, R77, R79, R81, R82). -/

namespace Sys2Proof.Machine

/-- A portal that evaluates with the switch and the handle at rest, no cause and no command. -/
structure State.Calm (s : State) (p : PortalId) : Prop where
  works : s.evaluates p
  switch : s.isActive p = false
  handle : s.ehActive p = false
  found : (s.portal p).found = []
  cause : (s.portal p).pendingCause = 0
  queue : (s.portal p).queue = []

theorem State.Calm.advance {s : State} {p : PortalId} (h : s.Calm p) (dt : Nat) : (s.advance dt).Calm p :=
  ⟨(State.advance_evaluates dt).2 h.works, h.switch, h.handle, h.found, h.cause, h.queue⟩

section
variable {s : State} {p : PortalId} (h : s.Calm p)
include h

theorem State.Calm.start : (s.portal p).start = 0 := h.works.2.2

theorem State.Calm.lockWatch : (s.lockWatch p).Calm p := by
  have hs := s.lockWatch_senses p
  have hb := s.lockWatch_bare p
  exact ⟨State.lockWatch_evaluates.2 h.works, (State.isActive_congr hs p).trans h.switch, (State.ehActive_congr hs p).trans h.handle,
    (State.field_of_visible Portal.found (fun _ => rfl) hb).trans h.found, (State.field_of_visible Portal.pendingCause (fun _ => rfl) hb).trans h.cause,
    (State.field_of_visible Portal.queue (fun _ => rfl) hb).trans h.queue⟩

theorem State.Calm.watched_at : (s.watched p).At p (s.portal p).state :=
  ⟨s.field_watched p Portal.state (fun _ _ _ => ⟨rfl, rfl⟩), (s.field_watched p Portal.start (fun _ _ _ => ⟨rfl, rfl⟩)).trans h.start, (s.field_watched p Portal.queue (fun _ _ _ => ⟨rfl, rfl⟩)).trans h.queue⟩

/-- A calm evaluation consists of its last steps. -/
theorem State.Calm.evaluate (hst : (s.portal p).state ≠ .isolated) (hlk : (s.portal p).state ≠ .locked) :
    s.evaluate p = ((((s.watched p).obstStep p).zsStep p).timeoutStep p).evalTail p := by
  rw [State.evaluate_quiet h.start h.switch h.handle h.found h.cause hst hlk,
    State.evalRest_of_works ((State.suspended_congr (s.watched_senses p) p).trans h.works.2.1)]

end

section
variable {s : State} {p : PortalId} {st : PState}

theorem State.At.evalTail_parked (h : s.At p st) (hst : st.parked) : s.evalTail p = s :=
  State.evalTail_of_parked (by rwa [h.state]) h.queue

theorem State.At.lastSteps (h : s.At p st) (hst : st.closeIdle) (hj : st ≠ .jog) : (((s.closeStep p).cmdStep p).closeStep p).jogStep p = s :=
  State.lastSteps_of_idle (by rwa [h.state]) (by rwa [h.state]) h.queue

/-! ## The timeout of a transition (R77) -/

/-- What a portal notes of an obstacle, outside CLOSING. -/
def Portal.obstructed (n : Nat) (pause : Option Ts) (stop : Bool) (x : Portal) : Portal := { x with openObst := n, pause := pause, stopPartial := stop }

/-- Outside CLOSING an obstacle changes at most the pause and the partial stop of a portal. -/
theorem State.obstStep_bare (h : (s.portal p).state ≠ .closing) : ∃ n pause stop, (s.obstStep p).bare = s.bare.modPortal p (Portal.obstructed n pause stop) := by
  have hself (x : State) (hx : x.bare = s.bare) : ∃ n pause stop, x.bare = s.bare.modPortal p (Portal.obstructed n pause stop) :=
    ⟨(s.portal p).openObst, (s.portal p).pause, (s.portal p).stopPartial, by rw [hx, State.modPortal_self (by rw [State.portal_bare]; rfl)]⟩
  have hstopped (t : State) (ht : t.bare = s.bare) {f : Portal → Portal} (n : Nat) (pause : Option Ts) (stop : Bool)
      (hf : (f (t.portal p)).bare = Portal.obstructed n pause stop (t.portal p).bare) :
      ∃ n pause stop, (t.modPortal p f).bare = s.bare.modPortal p (Portal.obstructed n pause stop) :=
    ⟨n, pause, stop, by rw [← ht]; exact State.modPortal_bare_of _ _ hf⟩
  have hleaves (trigger : Nat) (ref : LeafId) : ((s.obstEvent p trigger ref).leavesStop p).bare = s.bare := by rw [State.leavesStop_bare, State.obstEvent_bare]
  unfold State.obstStep
  extract_lets x s'
  have hs' : ∃ n pause stop, s'.bare = s.bare.modPortal p (Portal.obstructed n pause stop) := by
    simp only [s', x]
    split
    next hc => exact absurd hc h
    next =>
      split
      next t _ =>
        split
        next => exact hself _ rfl
        split
        next => exact hstopped _ (hleaves t _) 1 (some (((s.obstEvent p t (if t = 1 then 1 else 0)).leavesStop p).ts)) _ rfl
        next => exact hstopped _ (hleaves t _) _ none true rfl
      next => exact hself _ rfl
    next =>
      split
      next t _ =>
        split
        next => exact hself _ rfl
        next => exact hstopped _ (hleaves t _) _ _ true rfl
      next => exact hself _ rfl
    next => exact hself _ rfl
  clear_value s'
  split
  next => exact hs'
  next => rwa [State.clearDeclared_bare]

/-- A transition other than CLOSING that lasts beyond its timeout fences its portal with cause 0x01. -/
theorem State.Calm.evaluate_timeout (h : s.Calm p) {k : Nat} (hk : timeoutOf (s.portal p).state = some k) (hc : (s.portal p).state ≠ .closing)
    (ht : s.timedOut p k (s.portal p).timer = true) : ((s.evaluate p).portal p).state = .fenced ∧ ((s.evaluate p).portal p).causes.getLsbD 1 = true := by
  have hne {st : PState} (hst : timeoutOf st = none) : (s.portal p).state ≠ st := fun e => by rw [e, hst] at hk; cases hk
  have hat := h.watched_at
  obtain ⟨n, pause, stop, hb⟩ := State.obstStep_bare (s := s.watched p) (p := p) (by rwa [hat.state])
  rw [h.evaluate (hne rfl) (hne rfl)]
  have hws := s.watched_senses p
  have hwt : ((s.watched p).portal p).timer = (s.portal p).timer := s.field_watched p Portal.timer (fun _ _ _ => ⟨rfl, rfl⟩)
  generalize (s.watched p).obstStep p = u at hb
  generalize s.watched p = w at hb hat hws hwt
  have hu : u.At p (s.portal p).state := .of_visible hb hat.state hat.start hat.queue
  have hsens : u.senses = s.senses := (State.senses_of_visible hb fun _ => rfl).trans hws
  have htimer : (u.portal p).timer = (s.portal p).timer := (State.field_of_visible Portal.timer (fun _ => rfl) hb).trans hwt
  have hworks : u.seqWorks p = true := (State.seqWorks_congr hsens p).trans h.works.1
  obtain ⟨⟨hpres, hruns⟩, -⟩ : (u.present p = true ∧ (u.pdMode p).runs = true) ∧ _ := by
    simpa only [State.seqWorks, Bool.and_eq_true, and_assoc] using hworks
  have hkU : timeoutOf (u.portal p).state = some k := by rw [hu.state, hk]
  have htU : u.timedOut p k (u.portal p).timer = true := by rw [htimer, State.timedOut_congr hsens, ht]
  rw [State.zsStep_of_ne_open (by rw [hu.state]; exact hne rfl), State.timeoutStep_timed hkU htU, if_neg (by rwa [hu.state])]
  obtain ⟨since, hf⟩ := State.fenceNow_bare_of_acts hpres 1 (uPortal p) (u.portal p).state.code
    (State.not_fenceWaits hruns hu.start (by rw [hu.state]; exact hne rfl) (by rw [hu.state]; exact hne rfl)) (by rw [hu.state]; exact hne rfl)
  have hqueue : (((u.portal p).bare.blamed 1).fenced since).queue = [] := by
    have hq : (u.portal p).bare.queue = [] := hu.queue
    simp [Portal.fenced, Portal.inState, Portal.ended, Portal.blamed, Portal.caused, hq]
  have hv : (u.fenceNow p 1 (uPortal p) (u.portal p).state.code).At p .fenced := .of_visible hf rfl hu.start hqueue
  rw [hv.evalTail_parked (.inr (.inr (.inl rfl)))]
  refine ⟨hv.state, ?_⟩
  rw [State.field_of_visible Portal.causes (fun _ => rfl) hf]
  exact Portal.causes_caused _ (by decide)

/-! ## The close warning and the reclose dwell (R79, R81) -/

theorem State.closeFailed_of_closeIntent (h : s.closeIntent p = true) : (s.portal p).closeFailed = false := by
  unfold State.closeIntent at h
  simpa using (Bool.and_eq_true_iff.1 h).1

/-- Close intent hangs on what the sequencer reads, on CLOSE_FAILED and on a close command in force. -/
theorem State.closeIntent_congr {t : State} (hs : t.senses = s.senses) (hf : (t.portal p).closeFailed = (s.portal p).closeFailed)
    (hc : (t.portal p).closeForce = (s.portal p).closeForce) : t.closeIntent p = s.closeIntent p := by
  rw [State.closeIntent, hf, hc, State.released_congr hs, State.zsConfirmed_congr hs, State.closeIntent]

theorem State.closeIntent_of_bare {t : State} (hb : t.bare = s.bare) : t.closeIntent p = s.closeIntent p :=
  State.closeIntent_congr (State.senses_of_bare hb) (State.field_of_bare Portal.closeFailed (fun _ => rfl) hb p) (State.field_of_bare Portal.closeForce (fun _ => rfl) hb p)

theorem State.closeIntent_watched (h : (s.portal p).closeFailed = false) : (s.watched p).closeIntent p = s.closeIntent p := by
  refine State.closeIntent_congr (s.watched_senses p) ((State.field_of_visible Portal.closeFailed (fun _ => rfl) (s.watched_bare p)).trans ?_) (s.field_watched p Portal.closeForce (fun _ _ _ => ⟨rfl, rfl⟩))
  have hf : (s.portal p).bare.closeFailed = false := h
  simp [Portal.watched, hf, h]

/-- A portal of CLOSING away from the closed window stays in it for the rest of its evaluation. -/
theorem State.At.closing_tail (h : s.At p .closing) (hw : s.inWindow p = false) :
    (((((s.pauseStep p).completeStep p).closeStep p).cmdStep p).closeStep p).jogStep p = s := by
  rw [State.pauseStep_of_ne_opening (by rw [h.state]; decide), State.completeStep_closing_far h.state hw, h.lastSteps (by simp [PState.closeIdle]) (by decide)]

/-- An evaluation in which no obstacle is found, before its times. -/
def State.calmEval (s : State) (p : PortalId) : State := (s.watched p).clearDeclared p

theorem State.calmEval_bare (s : State) (p : PortalId) : (s.calmEval p).bare = (s.watched p).bare := State.clearDeclared_bare ..

theorem State.calmEval_senses (s : State) (p : PortalId) : (s.calmEval p).senses = s.senses := (State.senses_of_bare (s.calmEval_bare p)).trans (s.watched_senses p)

theorem State.field_calmEval (s : State) (p : PortalId) {α : Type} (g : Portal → α)
    (hg : ∀ (x : Portal) (since : Option Ts) (rel : Bool), g x.bare = g x ∧ g (x.watched since rel) = g x) : g ((s.calmEval p).portal p) = g (s.portal p) :=
  (State.field_of_bare g (fun x => (hg x none false).1) (s.calmEval_bare p) p).trans (s.field_watched p g hg)

theorem State.Calm.calmEval_at (h : s.Calm p) (hst : (s.portal p).state = st) : (s.calmEval p).At p st := hst ▸ h.watched_at.of_bare (s.calmEval_bare p)

theorem State.stateTimedOut_congr {t : State} (hs : t.senses = s.senses) (hst : (t.portal p).state = (s.portal p).state) (ht : (t.portal p).timer = (s.portal p).timer) :
    t.stateTimedOut p = s.stateTimedOut p := by
  unfold State.stateTimedOut
  rw [hst, ht]
  split
  next => exact State.timedOut_congr hs ..
  next => rfl

/-- A calm evaluation that finds no obstacle, no loss of zero speed and no timeout. -/
theorem State.Calm.evaluate_unobstructed (h : s.Calm p) (hst : (s.portal p).state ≠ .isolated) (hlk : (s.portal p).state ≠ .locked)
    (hob : (s.watched p).obstStep p = s.calmEval p) (hz : (s.portal p).state ≠ .open ∨ s.zsConfirmed = true) (ht : s.stateTimedOut p = false) :
    s.evaluate p = (s.calmEval p).evalTail p := by
  have hat := h.calmEval_at rfl
  have hzs : (s.calmEval p).zsStep p = s.calmEval p := hz.elim (fun hne => State.zsStep_of_ne_open (by rwa [hat.state]))
    fun hc => State.zsStep_of_confirmed ((State.zsConfirmed_congr (s.calmEval_senses p)).trans hc)
  have hts : (s.calmEval p).timeoutStep p = s.calmEval p :=
    State.timeoutStep_of_not ((State.stateTimedOut_congr (s.calmEval_senses p) hat.state (s.field_calmEval p Portal.timer (fun _ _ _ => ⟨rfl, rfl⟩))).trans ht)
  rw [h.evaluate hst hlk, hob, hzs, hts]

/-- In a state without motion no obstacle is looked for. -/
theorem State.Calm.obstStep_watched (h : s.Calm p) (h1 : (s.portal p).state ≠ .closing) (h2 : (s.portal p).state ≠ .opening) (h3 : (s.portal p).state ≠ .reopening)
    (h4 : (s.portal p).state ≠ .jog) : (s.watched p).obstStep p = s.calmEval p := by
  rw [← h.watched_at.state] at h1 h2 h3 h4
  exact State.obstStep_still h1 h2 h3 h4

section Open
variable (h : s.Calm p) (hst : (s.portal p).state = .open) (hi : s.closeIntent p = true) (hz : s.zsConfirmed = true)
include h hst hi hz

omit hi in
theorem State.Calm.evaluate_open : s.evaluate p = (s.calmEval p).evalTail p :=
  h.evaluate_unobstructed (by rw [hst]; decide) (by rw [hst]; decide)
    (h.obstStep_watched (by rw [hst]; decide) (by rw [hst]; decide) (by rw [hst]; decide) (by rw [hst]; decide)) (.inr hz)
    (State.stateTimedOut_of_none (by rw [hst]; rfl))

omit h hst hz in
theorem State.closeIntent_calmEval : (s.calmEval p).closeIntent p = true :=
  (State.closeIntent_of_bare (s.calmEval_bare p)).trans ((State.closeIntent_watched (State.closeFailed_of_closeIntent hi)).trans hi)

/-- The end of the close warning begins CLOSING (R79). -/
theorem State.Calm.evaluate_warned (hw : s.inWindow p = false) {b : Ts} (hb : (s.portal p).warn = some b)
    (ht : s.elapsed b (100000 * s.parN 0x1040 (uPortal p)) = true) :
    ((s.evaluate p).portal p).state = .closing ∧ ((s.evaluate p).portal p).recloses = (s.portal p).recloses := by
  have hs := s.calmEval_senses p
  have hat : (s.calmEval p).At p .open := h.calmEval_at hst
  have hwarn : (s.calmEval p).warnStep p = (s.calmEval p).enterClosing p false := by
    refine if_pos ⟨hat.state, ?_, State.closeIntent_calmEval hi⟩
    rw [s.field_calmEval p Portal.warn (fun _ _ _ => ⟨rfl, rfl⟩), hb, State.ran_some, State.parN_congr hs, State.elapsed_congr hs, ht]
  obtain ⟨since, timer, hv⟩ := (s.calmEval p).enterClosing_bare p false
  have hvat := State.enterClosing_at hat.start hat.queue false
  have hvw : ((s.calmEval p).enterClosing p false).inWindow p = false := by rw [State.inWindow_congr ((State.senses_of_visible hv fun _ => rfl).trans hs), hw]
  rw [h.evaluate_open hst hz, State.evalTail, hwarn, State.dwellStep_of_ne_open (by rw [hvat.state]; decide), hvat.closing_tail hvw]
  exact ⟨hvat.state, (State.field_of_visible Portal.recloses (fun _ => rfl) hv).trans (s.field_calmEval p Portal.recloses (fun _ _ _ => ⟨rfl, rfl⟩))⟩

/-- The end of the reclose dwell begins CLOSING as a reclose (R81). -/
theorem State.Calm.evaluate_dwelt (hw : s.inWindow p = false) (hn : (s.portal p).warn = none) {b : Ts} (hb : (s.portal p).dwell = some b)
    (ht : s.elapsed b (100000 * s.parN 0x1042 (uPortal p)) = true) :
    ((s.evaluate p).portal p).state = .closing ∧ ((s.evaluate p).portal p).recloses = min 10 ((s.portal p).recloses + 1) := by
  have hs := s.calmEval_senses p
  have hat : (s.calmEval p).At p .open := h.calmEval_at hst
  have hdwell : (s.calmEval p).dwellStep p = (s.calmEval p).enterClosing p true := by
    refine if_pos ⟨hat.state, ?_, State.closeIntent_calmEval hi⟩
    rw [s.field_calmEval p Portal.dwell (fun _ _ _ => ⟨rfl, rfl⟩), hb, State.ran_some, State.parN_congr hs, State.elapsed_congr hs, ht]
  obtain ⟨since, timer, hv⟩ := (s.calmEval p).enterClosing_bare p true
  have hvat := State.enterClosing_at hat.start hat.queue true
  have hvw : ((s.calmEval p).enterClosing p true).inWindow p = false := by rw [State.inWindow_congr ((State.senses_of_visible hv fun _ => rfl).trans hs), hw]
  rw [h.evaluate_open hst hz, State.evalTail, State.warnStep_of_none ((s.field_calmEval p Portal.warn (fun _ _ _ => ⟨rfl, rfl⟩)).trans hn), hdwell, hvat.closing_tail hvw]
  exact ⟨hvat.state, (State.field_of_visible Portal.recloses (fun _ => rfl) hv).trans (congrArg (fun n => min 10 (n + 1)) (s.field_calmEval p Portal.recloses (fun _ _ _ => ⟨rfl, rfl⟩)))⟩

end Open

/-! ## LOCK_SETTLE in LOCKING (R72) -/

/-- The LOCKED condition has held for LOCK_SETTLE in LOCKING without a step: LOCKED is entered. -/
theorem State.Calm.evaluate_settled (h : s.Calm p) (hst : (s.portal p).state = .locking) (hf : s.stepFitted p = false) (hl : s.lkLocked p = true)
    (hs : (s.lockWatch p).settled p = true) (ht : s.stateTimedOut p = false) : (((s.lockWatch p).evaluate p).portal p).state = .locked
      ∧ (((s.lockWatch p).evaluate p).portal p).recloses = 0 ∧ (((s.lockWatch p).evaluate p).portal p).closeForce = false := by
  have hsens := s.lockWatch_senses p
  have hc := h.lockWatch
  have hst' : ((s.lockWatch p).portal p).state = .locking := (State.field_of_visible Portal.state (fun _ => rfl) (s.lockWatch_bare p)).trans hst
  have ht' : (s.lockWatch p).stateTimedOut p = false :=
    (State.stateTimedOut_congr hsens (hst'.trans hst.symm) (State.field_of_visible Portal.timer (fun _ => rfl) (s.lockWatch_bare p))).trans ht
  have heval := hc.evaluate_unobstructed (by rw [hst']; decide) (by rw [hst']; decide)
    (hc.obstStep_watched (by rw [hst']; decide) (by rw [hst']; decide) (by rw [hst']; decide) (by rw [hst']; decide)) (.inl (by rw [hst']; decide)) ht'
  have hat := hc.calmEval_at hst'
  have hcs := ((s.lockWatch p).calmEval_senses p)
  have hset : ((s.lockWatch p).calmEval p).settled p = true := (State.settled_of_since hcs
    ((State.field_of_bare Portal.lockedSince (fun _ => rfl) ((s.lockWatch p).calmEval_bare p) p).trans (s.lockedSince_watched p))).trans hs
  generalize (s.lockWatch p).calmEval p = u at *
  have hu := hcs.trans hsens
  have hfin := State.enterLocked_at hat.start hat.queue
  obtain ⟨since, timer, hb⟩ := u.enterLocked_bare p
  rw [heval, State.evalTail, State.warnStep_of_ne_open (by rw [hat.state]; decide), State.dwellStep_of_ne_open (by rw [hat.state]; decide),
    State.pauseStep_of_ne_opening (by rw [hat.state]; decide),
    State.completeStep_locked hat.state ((State.stepFitted_congr hu p).trans hf) ((State.lkLocked_congr hu p).trans hl) hset, hfin.lastSteps (by simp [PState.closeIdle]) (by decide)]
  exact ⟨hfin.state, State.field_of_visible Portal.recloses (fun _ => rfl) hb, State.field_of_visible Portal.closeForce (fun _ => rfl) hb⟩

end

end Sys2Proof.Machine
end

section
/-! The end of the obstacle pause of an opening: the leaves resume their way to OPEN_POS (R82). -/

namespace Sys2Proof.Machine

/-! ## Where a leaf is to go -/

/-- Where a leaf is to go, and whether it holds. -/
def Leaf.aim (x : Leaf) : Int × Bool := (x.target, x.holding)

section Aim
variable (s : State) (p q : PortalId) (l m : LeafId)

theorem State.aim_modLeaf {f : Leaf → Leaf} (h : ∀ x, (f x).aim = x.aim) : ((s.modLeaf p l f).leaf q m).aim = (s.leaf q m).aim := by
  rw [State.leaf_modLeaf]
  split
  next hlm =>
    obtain ⟨rfl, rfl⟩ := hlm
    exact h _
  next => rfl

theorem State.aim_endEfBrake : ((s.endEfBrake p l).leaf q m).aim = (s.leaf q m).aim := by
  unfold State.endEfBrake
  dsimp only
  split
  next =>
    rw [State.leaf_raisePortal, State.modDet, State.aim_modLeaf, State.aim_modLeaf]
    · exact fun _ => rfl
    · exact fun _ => rfl
  next => rfl

theorem State.aim_setDrive (d : Drive) : ((s.setDrive p l d).leaf q m).aim = (s.leaf q m).aim := by
  unfold State.setDrive
  rw [State.leaf_syncSlots, State.leaf_modWatch, State.aim_modLeaf]
  · repeat' split
    · rfl
    · rfl
    · exact State.aim_endEfBrake ..
  · exact fun _ => rfl

theorem State.aim_modulate (d : Drive) : ((s.modulate p l d).leaf q m).aim = (s.leaf q m).aim := by
  unfold State.modulate
  rw [State.aim_setDrive, State.aim_modLeaf, State.aim_modLeaf]
  · intro x
    split <;> rfl
  · intro x
    split <;> rfl

/-- Asking a leaf for a drive state does not change where any leaf is to go. -/
theorem State.aim_leafWant (d : Drive) : ((s.leafWant p l d).leaf q m).aim = (s.leaf q m).aim := by
  unfold State.leafWant
  split
  next => rfl
  next =>
    split
    next => rfl
    next =>
      rw [State.aim_modLeaf, State.aim_setDrive]
      exact fun _ => rfl
    next =>
      rw [State.aim_modLeaf, State.aim_setDrive]
      exact fun _ => rfl
    next =>
      rw [State.aim_modLeaf]
      exact fun _ => rfl
    next =>
      rw [State.aim_modLeaf]
      exact fun _ => rfl
    next => rw [State.aim_modulate]

theorem State.aim_leafTarget (x : Int) : ((s.leafTarget p l x).leaf p m).aim = if l = m then (x, false) else (s.leaf p m).aim := by
  unfold State.leafTarget
  rw [State.leaf_modLeaf]
  by_cases h : l = m <;> simp [h, Leaf.aim]

end Aim

/-! ## The leaves of an opening -/

/-- A leaf or its valves in OPENING. -/
def State.leafOpens (s : State) (p : PortalId) (l : LeafId) : State :=
  if s.pneumatic p then s.setValves p l true false else (s.leafWant p l .position).leafTarget p l (s.openPos p l)

theorem State.leafOutputs_opening (s : State) (p : PortalId) : s.leafOutputs p .opening = foldState (s.leaves p) (fun l t => t.leafOpens p l) s := rfl

section Opens
variable {s : State} {p : PortalId}

theorem State.leafOpens_bare (l : LeafId) : (s.leafOpens p l).bare = s.bare := by
  unfold State.leafOpens State.leafTarget
  split <;> simp

theorem State.aim_leafOpens (hp : s.pneumatic p = false) (l m : LeafId) :
    ((s.leafOpens p l).leaf p m).aim = if l = m then (s.openPos p m, false) else (s.leaf p m).aim := by
  unfold State.leafOpens
  rw [if_neg (by simp [hp]), State.aim_leafTarget, State.aim_leafWant]
  split
  next h => rw [h]
  next => rfl

/-- Every leaf that starts opening is on its way to OPEN_POS. -/
theorem State.aim_leavesOpen (hp : s.pneumatic p = false) {m : LeafId} {ls : List LeafId} (h : m ∈ ls ∨ (s.leaf p m).aim = (s.openPos p m, false)) :
    ((foldState ls (fun l t => t.leafOpens p l) s).leaf p m).aim = (s.openPos p m, false) := by
  induction ls generalizing s with
  | nil => exact h.resolve_left (by simp)
  | cons l ls ih =>
    have hs : (s.leafOpens p l).senses = s.senses := State.senses_of_bare (State.leafOpens_bare l)
    have haim := State.aim_leafOpens hp l m
    rw [foldState_cons, ← State.openPos_congr hs p m]
    refine ih ((State.pneumatic_congr hs p).trans hp) ?_
    rw [haim, State.openPos_congr hs]
    by_cases hlm : l = m
    · exact .inr (if_pos hlm)
    · rw [if_neg hlm]
      exact h.imp_left fun hm => (List.mem_cons.1 hm).resolve_left (Ne.symm hlm)

theorem State.aim_leafOutputs_opening (hp : s.pneumatic p = false) {l : LeafId} (hl : l ∈ s.leaves p) :
    ((s.leafOutputs p .opening).leaf p l).aim = (s.openPos p l, false) := by
  rw [State.leafOutputs_opening]
  exact State.aim_leavesOpen hp (.inl hl)

end Opens

/-! ## The pause -/

section Pause
variable {s : State} {p : PortalId}

/-- What goes before the steps of an evaluation leaves the leaf drives alone. -/
theorem State.leaf_watched (hp : s.pneumatic p = false) (m : LeafId) : (s.watched p).leaf p m = s.leaf p m := by
  have hstep (t : State) (k : Fin 3) : (t.plausStep p k).leaf p m = t.leaf p m := State.leaf_modPortal _ _ _ _ rfl
  have hlock : (s.lockWatch p).leaf p m = s.leaf p m := by
    refine (State.leaf_modPortal _ _ _ _ rfl).trans ?_
    rw [State.plausWatch_eq, hstep, hstep, hstep]
  have hpneu : (s.lockWatch p).pneuStep p = s.lockWatch p := if_pos (by rw [State.pneumatic_congr (s.lockWatch_senses p), hp]; rfl)
  unfold State.watched State.relStep
  rw [hpneu]
  exact (State.leaf_modPortal _ _ _ _ rfl).trans hlock

/-- The obstacles that stop an opening are the declared ones. -/
theorem State.obstacle_declared_congr {t : State} (hv : t.view = s.view) (hl : ∀ m, t.leaf p m = s.leaf p m) : t.obstacle p false false = s.obstacle p false false := by
  unfold State.obstacle
  simp only [hl, State.leafPresent, State.pneumatic, hv, Bool.false_and]

theorem State.advance_obstacle_declared (dt : Nat) (s : State) (p : PortalId) : (s.advance dt).obstacle p false false = s.obstacle p false false :=
  State.obstacle_declared_congr rfl (s.advance_leaf dt p)

theorem State.pauseStep_ended (h : (s.portal p).state = .opening) (hs : (s.portal p).stopPartial = false) {b : Ts} (hb : (s.portal p).pause = some b)
    (ht : s.elapsed b (100000 * s.parN 0x1043 (uPortal p)) = true) :
    s.pauseStep p = (s.modPortal p fun y => { y with pause := none }).leafOutputs p .opening :=
  if_pos ⟨h, by rw [hb, State.ran_some, ht], by rw [hs]; rfl⟩

/-- After the pause the leaves open on, short of OPEN_POS and without close intent. -/
theorem State.Calm.evaluate_paused (h : s.Calm p) (hp : s.pneumatic p = false) (hst : (s.portal p).state = .opening) (hsp : (s.portal p).stopPartial = false)
    (hf : (s.portal p).closeFailed = false) (hi : s.closeIntent p = false) (hob : s.obstacle p false false = none) (ht : s.stateTimedOut p = false)
    (hn : ∃ l ∈ s.leaves p, s.near p l (s.openPos p l) = false) {b : Ts} (hb : (s.portal p).pause = some b)
    (hel : s.elapsed b (100000 * s.parN 0x1043 (uPortal p)) = true) :
    ((s.evaluate p).portal p).state = .opening ∧ ((s.evaluate p).portal p).pause = none
      ∧ ∀ l ∈ s.leaves p, ((s.evaluate p).leaf p l).target = s.openPos p l ∧ ((s.evaluate p).leaf p l).holding = false := by
  have hob' : (s.watched p).obstStep p = s.calmEval p := by
    unfold State.obstStep
    simp only [h.watched_at.state, hst, (State.obstacle_declared_congr (State.view_congr (s.watched_senses p)) (State.leaf_watched hp)).trans hob]
    rfl
  have hat := h.calmEval_at hst
  have hs := s.calmEval_senses p
  let v := ((s.calmEval p).modPortal p fun y => { y with pause := none }).leafOutputs p .opening
  have hpause : (s.calmEval p).pauseStep p = v := State.pauseStep_ended hat.state ((s.field_calmEval p Portal.stopPartial (fun _ _ _ => ⟨rfl, rfl⟩)).trans hsp)
    ((s.field_calmEval p Portal.pause (fun _ _ _ => ⟨rfl, rfl⟩)).trans hb) (by rwa [State.parN_congr hs, State.elapsed_congr hs])
  have hvb : v.bare = (s.calmEval p).bare.modPortal p fun y => { y with pause := none } :=
    (State.leafOutputs_bare ..).trans (State.modPortal_bare _ _ fun _ => rfl)
  have hv : v.At p .opening := .of_visible hvb hat.state hat.start hat.queue
  have hvs : v.senses = s.senses := (State.senses_of_visible hvb fun _ => rfl).trans hs
  have hint : v.closeIntent p = false := by
    rw [← hi, ← State.closeIntent_watched hf, ← State.closeIntent_of_bare (s.calmEval_bare p)]
    exact State.closeIntent_congr (State.senses_of_visible hvb fun _ => rfl) (State.field_of_visible Portal.closeFailed (fun _ => rfl) hvb) (State.field_of_visible Portal.closeForce (fun _ => rfl) hvb)
  have hfar : v.completeStep p = v := by
    refine State.completeStep_opening_far hv.state ((State.field_of_visible Portal.stopPartial (fun _ => rfl) hvb).trans ((s.field_calmEval p Portal.stopPartial (fun _ _ _ => ⟨rfl, rfl⟩)).trans hsp)) ?_
    simpa only [State.leaves_congr hvs, State.near_congr hvs, State.openPos_congr hvs] using hn
  have hclose : v.closeStep p = v := State.closeStep_of_none hint (by rw [hv.state]; decide)
  have heval : s.evaluate p = v := by
    rw [h.evaluate_unobstructed (by rw [hst]; decide) (by rw [hst]; decide) hob' (.inl (by rw [hst]; decide)) ht, State.evalTail,
      State.warnStep_of_ne_open (by rw [hat.state]; decide), State.dwellStep_of_ne_open (by rw [hat.state]; decide), hpause, hfar, hclose, State.cmdStep_nil hv.queue,
      hclose, State.jogStep_of_ne_jog (by rw [hv.state]; decide)]
  rw [heval]
  refine ⟨hv.state, State.field_of_visible Portal.pause (fun _ => rfl) hvb, fun l hl => ?_⟩
  have hms : ((s.calmEval p).modPortal p fun y => { y with pause := none }).senses = s.senses := (State.modPortal_senses _ _ rfl).trans hs
  rw [← State.openPos_congr hms]
  exact Prod.mk.inj (State.aim_leafOutputs_opening ((State.pneumatic_congr hms p).trans hp) (by rwa [State.leaves_congr hms]))

end Pause

end Sys2Proof.Machine
end

section
/-! The evaluation command, and the obligation of the evaluations and transitions (R66, R68, R71, R72, R76–R82, R87, R88, R92). -/

namespace Sys2Proof.Machine

/-- A portal that starts is where the resting evaluation ends, or has gone on from OPEN to CLOSING. -/
theorem restState_or_closing {switch handle cause settled zs : Bool} {st : PState}
    (h : st = (if switch then .isolated else if handle then .emergency else if cause then .fenced else if settled then .locked else .open)
      ∨ (if switch then PState.isolated else if handle then .emergency else if cause then .fenced else if settled then .locked else .open) = .open
        ∧ st = .closing ∧ zs = false) :
    st = if switch then .isolated else if handle then .emergency else if cause then .fenced else if settled then .locked
      else if st = .closing ∧ zs = false then .closing else .open := by
  split_ifs at h ⊢ with _ _ _ _ hc
  · simpa using h
  · simpa using h
  · simpa using h
  · simpa using h
  · exact hc.1
  · exact h.resolve_right fun hr => hc hr.2

section Sequencer
variable (dt : Nat) {s : State} {p : PortalId}

theorem State.watch_seqWorks : ((s.advance dt).lockWatch p).seqWorks p = s.seqWorks p :=
  (State.seqWorks_congr ((s.advance dt).lockWatch_senses p) p).trans (State.advance_seqWorks ..)

theorem State.field_watch {α : Type} (g : Portal → α)
    (hg : ∀ (x : Portal) (since : Option Ts), g x.bare = g x ∧ g { x with lockedSince := since } = g x) :
    g (((s.advance dt).lockWatch p).portal p) = g (s.portal p) := by
  rw [State.field_of_visible g (fun x => (hg x none).1) ((s.advance dt).lockWatch_bare p), (hg _ _).2, (hg _ none).1, State.advance_portal]

theorem exec_sequencerEvaluation_idle (h : s.seqWorks p = false) (hm : s.mode ≠ .standby) : exec (.sequencerEvaluation dt p) s = .next ((s.advance dt).lockWatch p) := by
  have hw : ((s.advance dt).lockWatch p).seqWorks p = false := (State.watch_seqWorks dt).trans h
  refine congrArg Host.Outcome.next ((if_neg (by rw [hw]; decide)).trans (if_neg fun c => hm c.1))

theorem exec_sequencerEvaluation (h : s.seqWorks p = true) (hs : (s.portal p).start < 2) :
    exec (.sequencerEvaluation dt p) s = .next (((s.advance dt).lockWatch p).evaluate p) := by
  have hw : ((s.advance dt).lockWatch p).seqWorks p = true := (State.watch_seqWorks dt).trans h
  have hs' : (((s.advance dt).lockWatch p).portal p).start < 2 := (State.field_watch dt Portal.start (fun _ _ => ⟨rfl, rfl⟩)).symm ▸ hs
  exact congrArg Host.Outcome.next ((if_pos hw).trans (if_neg (by omega)))

/-- The start of the sequencer (R66, R68), in the words of the obligation. -/
theorem exec_sequencerEvaluation_start (h : s.seqWorks p = true) (hs : (s.portal p).start = 1) (hq : (s.portal p).queue = []) (hf : (s.portal p).found = []) :
    ∃ t, exec (.sequencerEvaluation dt p) s = .next t ∧ (t.portal p).start = 0
      ∧ (t.portal p).state = (if s.isActive p then .isolated else if s.ehActive p then .emergency else if s.causePending p then .fenced
        else if ((s.advance dt).lockWatch p).settled p then .locked else if (t.portal p).state = .closing ∧ s.zsConfirmed = false then .closing else .open) := by
  let u := (s.advance dt).lockWatch p
  have hsens : (u.watched p).senses = (s.advance dt).senses := (u.watched_senses p).trans ((s.advance dt).lockWatch_senses p)
  have hkept : ((u.watched p).portal p).fenceCause = (s.portal p).fenceCause :=
    (u.field_watched p Portal.fenceCause (fun _ _ _ => ⟨rfl, rfl⟩)).trans (State.field_watch dt Portal.fenceCause (fun _ _ => ⟨rfl, rfl⟩))
  have hpend : ((u.watched p).portal p).pendingCause = (s.portal p).pendingCause :=
    (u.field_watched p Portal.pendingCause (fun _ _ _ => ⟨rfl, rfl⟩)).trans (State.field_watch dt Portal.pendingCause (fun _ _ => ⟨rfl, rfl⟩))
  have hcause : (u.watched p).causePending p = s.causePending p := by
    rw [State.causePending, hkept, hpend, State.causePending]
  have hrest : (u.watched p).restState p = if s.isActive p then .isolated else if s.ehActive p then .emergency else if s.causePending p then .fenced
      else if u.settled p then .locked else .open := by
    rw [State.restState, hcause, State.settled_of_since (u.watched_senses p) ((s.advance dt).lockedSince_watched p), State.isActive_congr hsens, State.ehActive_congr hsens]
    rfl
  obtain ⟨st, hat, hst⟩ := State.evaluate_start ((State.field_watch dt Portal.start (fun _ _ => ⟨rfl, rfl⟩)).trans hs) ((State.field_watch dt Portal.queue (fun _ _ => ⟨rfl, rfl⟩)).trans hq)
    ((State.field_watch dt Portal.found (fun _ _ => ⟨rfl, rfl⟩)).trans hf)
  have hz : u.zsConfirmed = (s.advance dt).zsConfirmed := State.zsConfirmed_congr ((s.advance dt).lockWatch_senses p)
  rw [hrest, hz] at hst
  refine ⟨_, exec_sequencerEvaluation dt h (by omega), hat.start, ?_⟩
  rw [hat.state]
  exact restState_or_closing hst

end Sequencer

/-- GPI of the local open input active at a portal that runs: an open request waits for its evaluation (R70). -/
theorem exec_localOpenRequest (dt : Nat) {s : State} {p : PortalId} {n : Nat} (hp : s.present p = true) (hm : s.mode = .service ∨ s.mode = .degraded ∨ s.mode = .maintain)
    (hn : s.parNames 0x1003 (uPortal p) = some n) (ha : s.safety.gpiAdopted = true) (hg : s.safety.gpi.toList.getD n false = true) :
    exec (.localOpenRequest dt p) s = .next ((s.advance dt).modPortal p fun x => { x with queue := x.queue ++ [.open .silent] }) := by
  have hn' : (s.advance dt).parNames 0x1003 (uPortal p) = some n := hn
  have hp' : (s.advance dt).present p = true := hp
  have hruns : (s.advance dt).mode.runs = true := Mode.runs_iff.2 hm
  unfold exec execLocalOpenRequest
  simp only [hn', State.advance_safety, ha, hg, hp', Bool.and_self, if_true, State.acceptAt_of_runs hruns]

/-- Settles O60: the steps of an evaluation by what each finds, the transitions by their conditions, and each time by the evaluation in which it ends. -/
theorem portalEvaluations : Obligations.PortalEvaluations := by
  unfold Obligations.PortalEvaluations
  refine ⟨fun dt p s hq => ⟨exec_sequencerEvaluation_idle dt, fun hw hs => ⟨fun hi => ⟨_, exec_sequencerEvaluation dt hw (by omega), ?_⟩,
      fun hi he hiso habs => ⟨_, exec_sequencerEvaluation dt hw (by omega), ?_⟩⟩, fun hw hs _ hf => ?_⟩,
    fun s p st => ⟨s.state_enter p st, fun q => s.state_enter_ne st⟩,
    fun s p => ⟨State.completeStep_unlocking, fun hst hs hp hl => ?_, State.completeStep_closed, State.stopPartial_closeStep, fun hst k => State.state_obstStep_closing hst⟩,
    fun s p k => State.timeoutStep_timed, ?_, ?_, fun dt p s b v j n => ⟨exec_jogRenewalTimeout_lock dt, exec_jogRenewalTimeout_unit dt, exec_localOpenRequest dt⟩⟩
  · exact State.evaluate_isolated ((State.field_watch dt Portal.start (fun _ _ => ⟨rfl, rfl⟩)).trans hs) ((State.field_watch dt Portal.queue (fun _ _ => ⟨rfl, rfl⟩)).trans hq)
      ((State.isActive_congr ((s.advance dt).lockWatch_senses p) p).trans hi)
  · exact State.evaluate_emergency ((State.field_watch dt Portal.start (fun _ _ => ⟨rfl, rfl⟩)).trans hs) ((State.field_watch dt Portal.queue (fun _ _ => ⟨rfl, rfl⟩)).trans hq)
      ((State.isActive_congr ((s.advance dt).lockWatch_senses p) p).trans hi) ((State.ehActive_congr ((s.advance dt).lockWatch_senses p) p).trans he)
      (by rwa [State.field_watch dt Portal.state (fun _ _ => ⟨rfl, rfl⟩)]) (by rwa [State.field_watch dt Portal.state (fun _ _ => ⟨rfl, rfl⟩)])
  · obtain ⟨t, hexec, hstart, hstate⟩ := exec_sequencerEvaluation_start dt hw hs hq hf
    exact ⟨t, _, hexec, rfl, hstart, hstate⟩
  · obtain ⟨since, timer, hb⟩ := s.enterOpen_bare p false
    rw [State.completeStep_opened hst hs hp hl]
    exact ⟨s.state_enterOpen p false, State.field_of_visible Portal.partialOpen (fun _ => rfl) hb⟩
  · rintro dt p s t u rfl rfl
    refine ⟨fun h => exec_times_idle dt (State.not_evaluates.2 h), fun hw hsusp hs => ?_⟩
    have h : s.evaluates p := ⟨hw, hsusp, hs⟩
    exact ⟨fun k => exec_transitionTimeout dt h, fun b => exec_closeWarningEnd dt h, fun b => exec_recloseDwellEnd dt h, fun b => exec_obstOpenPauseEnd dt h,
      exec_lockSettleElapsed dt h⟩
  · rintro dt p s t b rfl hw hsusp hs hi he hf hc hq hp
    have h : s.Calm p := ⟨⟨hw, hsusp, hs⟩, hi, he, hf, hc, hq⟩
    refine ⟨fun k hk hne ht => ⟨_, exec_transitionTimeout dt h.works hk ht, (h.advance dt).evaluate_timeout hk hne ht⟩,
      fun hst hint hz hwin => ⟨fun hb ht => ⟨_, exec_closeWarningEnd dt h.works hb ht, (h.advance dt).evaluate_warned hst hint hz hwin hb ht⟩,
        fun hn hb ht => ⟨_, exec_recloseDwellEnd dt h.works hb ht, (h.advance dt).evaluate_dwelt hst hint hz hwin hn hb ht⟩⟩,
      fun hst hsp hfail hint hob ht hn hb hel =>
        ⟨_, exec_obstOpenPauseEnd dt h.works hb hel, (h.advance dt).evaluate_paused hp hst hsp hfail hint ((s.advance_obstacle_declared dt p).trans hob) ht hn hb hel⟩,
      fun hst hfit hl hset ht => ⟨_, exec_lockSettleElapsed dt h.works hset, (h.advance dt).evaluate_settled hst hfit hl hset ht⟩⟩

end Sys2Proof.Machine
end

section
/-! The residue condition of a slot, the self-test of the checkers, and the faults of a leaf drive (R113, R114, R116, R127, R161, R162). -/

namespace Sys2Proof.Machine

theorem us_eq (n : Nat) : us n = 100 * n := Nat.mul_comm ..

/-! ## The residue checks of an engine (R161, R162) -/

section Engines
variable (dt : Nat) {d : PdId} {s : State}

theorem exec_slotResidueClear {n : SlotId} (herr : (s.slot d n).residueErr = true) (hn : 1000 ≤ (s.slot d n).checked) :
    exec (.slotResidueClear dt d n) s = .next ((s.advance dt).modSlot d n fun x => { x with residueErr := false, checked := 0 }) :=
  if_pos ⟨hn, herr⟩

/-- An engine without a failure and without passes, given those values again. -/
theorem Engine.counted_none {e : Engine} (hfail : e.testFail = false) (hpasses : e.passes = 0) : { e with passes := 0, testFail := false } = e := by
  rw [← hfail, ← hpasses]

/-- An engine that is replaced by itself. -/
theorem State.engines_set_self {e : Engine} (he : e = s.engines[d]) : { s with engines := s.engines.set d e } = s := by
  rw [he, Fin.getElem_fin, Vector.set_getElem_self]

/-- The result of a self-test that the checker passes: it counts while the failure holds (R162). -/
theorem exec_checkerSelfTest_flagged : exec (.checkerSelfTest dt d true) s = .next { s.advance dt with engines := s.engines.set d { s.engines[d] with
    passes := if s.engines[d].testFail then s.engines[d].passes + 1 else 0
    testFail := s.engines[d].testFail && decide (s.engines[d].passes + 1 < 3) } } := rfl

theorem exec_checkerSelfTest_idle (hfail : s.engines[d].testFail = false) (hpasses : s.engines[d].passes = 0) :
    exec (.checkerSelfTest dt d true) s = .next (s.advance dt) := by
  rw [exec_checkerSelfTest_flagged, hfail]
  refine congrArg Host.Outcome.next (State.engines_set_self (s := s.advance dt) ?_)
  exact Engine.counted_none hfail hpasses

end Engines

/-! ## The gate driver and the fast filters (R113, R116) -/

@[simp] theorem State.advance_pdMode (s : State) (dt : Nat) (p : PortalId) : (s.advance dt).pdMode p = s.pdMode p := by
  rw [State.pdMode, State.advance_die]
  rfl

@[simp] theorem State.advance_sdRuns (s : State) (dt : Nat) (p : PortalId) : (s.advance dt).sdRuns p = s.sdRuns p := by
  rw [State.sdRuns, State.advance_pdMode]
  rfl

theorem State.gdWatched_of_enabled {s : State} {p : PortalId} {l : LeafId} (hdriven : s.driven p l = true) (henable : (s.leaf p l).pwm.enable = true)
    (hgates : s.gates = true) (hleaf : s.elapsed (s.leaf p l).enableSince (100 * s.parN 0x2013 (uLeaf p l)) = true)
    (hclaim : s.elapsed s.claim.since (5000 + 100 * s.parN 0x2013 (uLeaf p l)) = true) : s.gdWatched p l = true := by
  simp [State.gdWatched, us_eq, hdriven, henable, hgates, hleaf, hclaim]

section Leaves
variable (dt : Nat) {p : PortalId} {l : LeafId} {s : State}

theorem exec_gdFault_released : exec (.gdFault dt p ⟨l, false⟩) s = .next ((s.advance dt).modLeaf p l fun x => { x with gdFlt := false }) := rfl

theorem exec_gdFault_low (h : (s.advance dt).gdWatched p l = true) : exec (.gdFault dt p ⟨l, true⟩) s
    = .next (((s.advance dt).modLeaf p l fun x => { x with gdFlt := true }).leafFault p l 0 true 0x03) := by
  refine if_pos ⟨rfl, ?_⟩
  rw [← h]
  simp only [State.gdWatched, State.leaf_modLeaf, and_self, if_true]
  rfl

theorem exec_overcurrentTrip {ph : Bool} {a b : Nat} (hdriven : s.driven p l = true) (hruns : s.sdRuns p = true) (hph : ph = false ∨ s.leafMode p l ≠ 2)
    (ha : (s.par 0x2028 (uLeaf p l) : Rat) < |s.fastCurrent p l a|) (hb : (s.par 0x2028 (uLeaf p l) : Rat) < |s.fastCurrent p l b|) :
    exec (.overcurrentTrip dt p l ph (a, b)) s = .next ((s.advance dt).leafFault p l 1 true 0x03) := by
  have hstream : (!(ph && decide ((s.advance dt).leafMode p l = 2))) = true := by
    obtain rfl | hmode := hph
    · rfl
    · have hmode' : (s.advance dt).leafMode p l ≠ 2 := hmode
      simp [hmode']
  exact if_pos ⟨hdriven, (s.advance_sdRuns dt p).trans hruns, hstream, ha, hb⟩

theorem exec_directionFault {b : Ts} (hb : (s.leaf p l).dirBad = some b) (ht : (s.advance dt).elapsed b 2000000 = true) :
    exec (.directionFault dt p l) s = .next ((s.advance dt).leafFault p l 8 false 0x02) := by
  refine if_pos ?_
  rw [State.advance_leaf, hb]
  exact ht

theorem exec_datapathResidueClear (hbad : (s.leaf p l).dpBad = true) (hn : 1000 ≤ (s.leaf p l).checked) :
    exec (.datapathResidueClear dt p l) s = .next ((s.advance dt).modLeaf p l fun x => { x with dpBad := false, checked := 0 }) :=
  if_pos ⟨hbad, hn⟩

end Leaves

/-! ## The bus voltage (R112, R114) -/

/-- A bus voltage is taken, and with it the time since when it has been below VBUS_MIN. -/
def State.busTaken (s : State) (p : PortalId) (v : Rat) : State :=
  s.modPortal p fun x => { x with vbus := v, vbusLow := if v < (s.par 0x2026 (uPortal p) : Rat) then some (x.vbusLow.getD s.ts) else none }

@[simp] theorem State.busTaken_sdRuns (s : State) (p q : PortalId) (v : Rat) : (s.busTaken p v).sdRuns q = s.sdRuns q := rfl

/-- An output of the bus filter is a bus voltage while the modulator clock runs, and nothing otherwise. -/
theorem State.busOutput_eq (s : State) (p : PortalId) (y : Nat) : s.busOutput p y = if s.sdRuns p then s.busTaken p (s.busValue p y) else s := by
  refine if_congr Iff.rfl (State.modPortal_congr ?_) rfl
  have hsince : (if (s.portal p).vbusLow.isSome then (s.portal p).vbusLow else some s.ts) = some ((s.portal p).vbusLow.getD s.ts) := by
    cases (s.portal p).vbusLow <;> rfl
  rw [hsince]

@[simp] theorem State.busOutput_sdRuns (s : State) (p q : PortalId) (y : Nat) : (s.busOutput p y).sdRuns q = s.sdRuns q := by
  rw [State.busOutput_eq]
  split <;> rfl

theorem State.busLow_busTaken_of_le {s : State} {p : PortalId} {v : Rat} (h : (s.par 0x2026 (uPortal p) : Rat) ≤ v) : (s.busTaken p v).busLow p = false := by
  simp [State.busLow, State.busTaken, not_lt.2 h, State.ran]

/-- A bus that has been below VBUS_MIN, and a leaf that has modulated, for 10 ms. -/
theorem State.busLow_busTaken_of_lt {s : State} {p : PortalId} {v : Rat} {b m : Ts} (h : v < (s.par 0x2026 (uPortal p) : Rat)) (hlow : (s.portal p).vbusLow = some b)
    (hb : s.elapsed b 1000000 = true) (hmod : (s.portal p).modSince = some m) (hm : s.elapsed m 1000000 = true) (huntil : (s.portal p).modUntil = none) :
    (s.busTaken p v).busLow p = true := by
  have hb' : (s.busTaken p v).elapsed b 1000000 = true := hb
  have hm' : (s.busTaken p v).elapsed m 1000000 = true := hm
  simp only [State.busLow, State.busTaken, State.portal_modPortal, if_true, h, hlow, hmod, huntil, Option.getD_some, State.ran_some, Option.isNone_none, Bool.true_or,
    Bool.and_true]
  exact Bool.and_eq_true_iff.2 ⟨hb', hm'⟩

section Bus
variable (dt : Nat) {p : PortalId} {s : State} (y : Nat)

theorem exec_vbusOver_stopped (h : s.sdRuns p = false) : exec (.vbusOver dt p y) s = .next (s.advance dt) := by
  show execVbusOver dt p y s = _
  simp [execVbusOver, State.busOutput_eq, h]

theorem exec_vbusUnder_stopped (h : s.sdRuns p = false) : exec (.vbusUnder dt p y) s = .next (s.advance dt) := by
  show execVbusUnder dt p y s = _
  simp [execVbusUnder, State.busOutput_eq, h]

variable {t : State} (ht : t = (s.advance dt).busTaken p (s.busValue p y)) (h : s.sdRuns p = true)
include ht h

/-- A bus output while the clock runs is taken. -/
theorem State.busOutput_taken : (s.advance dt).busOutput p y = t ∧ t.sdRuns p = true := by
  subst ht
  simp only [State.busOutput_eq, State.busTaken_sdRuns, State.advance_sdRuns, h, if_true, and_true]
  rfl

theorem exec_vbusOver : exec (.vbusOver dt p y) s = .next (if (s.par 0x2027 (uPortal p) : Rat) < s.busValue p y then t.leavesFault p 2 true else t) := by
  obtain ⟨hout, hruns⟩ := State.busOutput_taken dt y ht h
  show execVbusOver dt p y s = _
  simp only [execVbusOver, hout, hruns, true_and]
  subst ht
  exact (apply_ite Host.Outcome.next ..).symm

theorem exec_vbusUnder : exec (.vbusUnder dt p y) s = .next (if t.busLow p then t.leavesFault p 3 false else t) := by
  obtain ⟨hout, hruns⟩ := State.busOutput_taken dt y ht h
  show execVbusUnder dt p y s = _
  simp only [execVbusUnder, hout, hruns, true_and]
  exact (apply_ite Host.Outcome.next ..).symm

end Bus

/-- Settles O40: the residue checks, and each fault of a leaf by the condition under which its command finds it. -/
theorem leafFaults : Obligations.LeafFaults := by
  unfold Obligations.LeafFaults
  refine ⟨fun dt d s => ⟨fun n => exec_slotResidueClear dt, exec_checkerSelfTest_idle dt, fun hfail => ?_, rfl⟩,
    fun dt p l s => ⟨?_, fun ph a b => exec_overcurrentTrip dt, ?_, fun b => exec_directionFault dt, exec_datapathResidueClear dt, fun b trip cause => rfl⟩⟩
  · rw [exec_checkerSelfTest_flagged, hfail, if_pos rfl, Bool.true_and]
  · rintro low t rfl
    exact ⟨fun hlow => hlow ▸ exec_gdFault_released dt, fun hlow hdriven henable hgates hleaf hclaim =>
      hlow ▸ exec_gdFault_low dt (State.gdWatched_of_enabled hdriven henable hgates hleaf hclaim)⟩
  · rintro y v t hv ht
    have hv' : s.busValue p y = v := hv.symm
    have ht' : t = (s.advance dt).busTaken p (s.busValue p y) := by rw [hv', ht]; rfl
    refine ⟨fun h => ⟨exec_vbusOver_stopped dt y h, exec_vbusUnder_stopped dt y h⟩, fun h => ?_⟩
    rw [exec_vbusOver dt y ht' h, exec_vbusUnder dt y ht' h, hv', ht', hv']
    refine ⟨fun hover => by rw [if_pos hover], fun hle => by rw [if_neg (not_lt.2 hle)], fun hle => ?_, fun b m hlt hlow hb hmod hm huntil => ?_⟩
    · have hbus : ((s.advance dt).busTaken p v).busLow p = false := State.busLow_busTaken_of_le hle
      rw [hbus]
      rfl
    · rw [State.busLow_busTaken_of_lt (s := s.advance dt) hlt hlow hb hmod hm huntil, if_pos rfl]

end Sys2Proof.Machine
end

section
/-! The start and the brake of a leaf drive, and its angle by the Hall inputs (R104–R106, R110, R111). -/

namespace Sys2Proof.Machine

/-! ## STARTING, ALIGNING and BRAKE (R104–R106, R110) -/

/-- The time that STARTING takes before the short brake, without BOOT_TIME, or before a modulating state (R106). -/
def State.startTime (s : State) (p : PortalId) (l : LeafId) : Nat :=
  us (s.parN 0x2013 (uLeaf p l) + if (s.leaf p l).wanted = .brake then 0 else s.parN 0x2012 (uLeaf p l))

/-- Where a leaf goes at the end of STARTING, when its gate driver shows no fault. -/
def State.startEnd (s : State) (p : PortalId) (l : LeafId) : State :=
  if (s.leaf p l).wanted = .brake then s.setDrive p l .brake
  else if s.leafMode p l = 1 ∧ s.angleSource p l = some 2 ∧ !(s.leaf p l).aligned then
    (s.modulate p l .aligning).modLeaf p l fun y => { y with alignX := s.xObs p l }
  else s.modulate p l (s.leaf p l).wanted

section Starts
variable (dt : Nat) {p : PortalId} {l : LeafId} {s : State}

theorem exec_driveStartDelayEnd (hdrive : (s.leaf p l).drive = .starting) (ht : (s.advance dt).elapsed (s.leaf p l).driveSince (s.startTime p l) = true) :
    exec (.driveStartDelayEnd dt p l) s = .next (
      if (s.leaf p l).gdFlt = true ∧ (s.advance dt).gdWatched p l = true then (s.advance dt).leafFault p l 0 true 0x03 else (s.advance dt).startEnd p l) := by
  refine (if_pos ⟨hdrive, ht⟩).trans ?_
  simp only [← apply_ite Host.Outcome.next]
  rfl

theorem State.startEnd_brake (h : (s.leaf p l).wanted = .brake) : s.startEnd p l = s.setDrive p l .brake := if_pos h

theorem State.startEnd_align (hw : (s.leaf p l).wanted ≠ .brake) (hmode : s.leafMode p l = 1) (hsource : s.angleSource p l = some 2)
    (haligned : (s.leaf p l).aligned = false) : s.startEnd p l = (s.modulate p l .aligning).modLeaf p l fun y => { y with alignX := s.xObs p l } :=
  (if_neg hw).trans (if_pos ⟨hmode, hsource, by rw [haligned]; rfl⟩)

theorem State.startEnd_modulate (hw : (s.leaf p l).wanted ≠ .brake) (h : s.leafMode p l ≠ 1 ∨ s.angleSource p l ≠ some 2 ∨ (s.leaf p l).aligned = true) :
    s.startEnd p l = s.modulate p l (s.leaf p l).wanted := by
  refine (if_neg hw).trans (if_neg ?_)
  rintro ⟨hmode, hsource, haligned⟩
  rw [Bool.not_eq_true'] at haligned
  simp [hmode, hsource, haligned] at h

/-- No fault of the gate driver is seen at the end of STARTING (R116). -/
theorem exec_driveStartDelayEnd_clear (hdrive : (s.leaf p l).drive = .starting) (hgd : (s.leaf p l).gdFlt = false ∨ (s.advance dt).gdWatched p l = false)
    (ht : (s.advance dt).elapsed (s.leaf p l).driveSince (s.startTime p l) = true) :
    exec (.driveStartDelayEnd dt p l) s = .next ((s.advance dt).startEnd p l) := by
  rw [exec_driveStartDelayEnd dt hdrive ht, if_neg]
  rintro ⟨hflt, hwatched⟩
  simp [hflt, hwatched] at hgd

theorem State.startTime_brake (h : (s.leaf p l).wanted = .brake) : s.startTime p l = 100 * s.parN 0x2013 (uLeaf p l) := by
  rw [State.startTime, if_pos h, us_eq, Nat.add_zero]

theorem State.startTime_modulate (h : (s.leaf p l).wanted ≠ .brake) : s.startTime p l = 100 * (s.parN 0x2013 (uLeaf p l) + s.parN 0x2012 (uLeaf p l)) := by
  rw [State.startTime, if_neg h, us_eq]

theorem exec_alignTimeEnd (hdrive : (s.leaf p l).drive = .aligning)
    (ht : (s.advance dt).elapsed (s.leaf p l).driveSince (100000 * (s.drivePar p l 0x2007).toNat) = true) : exec (.alignTimeEnd dt p l) s
    = .next (((s.advance dt).modLeaf p l fun y => { y with c0 := (s.fb p (fbOfLeaf l)).c, theta0 := 0, aligned := true }).modulate p l (s.leaf p l).wanted) := by
  rw [← ms_eq] at ht
  exact if_pos ⟨hdrive, ht⟩

/-- The time of BRAKE is over: 2 s, or 100 ms of a leaf that is STILL (R106). -/
theorem exec_brakeEnd (hdrive : (s.leaf p l).drive = .brake) (hpfail : s.power.pfail = false)
    (ht : (s.advance dt).elapsed (s.leaf p l).driveSince 200000000 = true ∨ (s.fb p (fbOfLeaf l)).still = true
      ∧ (s.advance dt).elapsed (s.fb p (fbOfLeaf l)).stillAt 10000000 = true ∧ (s.advance dt).elapsed (s.leaf p l).driveSince 10000000 = true) :
    exec (.brakeEnd dt p l) s = .next ((s.advance dt).setDrive p l .off) := by
  have hpower : (!(s.advance dt).power.pfail) = true := by
    rw [Bool.not_eq_true']
    exact hpfail
  exact if_pos ⟨hdrive, hpower, ht⟩

end Starts

/-! ## The Hall inputs (R111) -/

/-- A leaf that has seen the edge into a sector, with the boundary that it crossed and the speed of the interval (R111). Its reference is taken where
ENCODER_HALL_START waits for one (R110). -/
def State.edgeSeen (s : State) (p : PortalId) (l : LeafId) (code : BitVec 3) (k : Nat) (boundary speed : Rat) : Leaf :=
  let x := s.leaf p l
  let takeRef := s.angleSource p l = some 1 && !x.hallRef && x.drive ≠ .off
  { x with hallCode := code, sector := some k, lastEdge := some s.ts, edgeSpeed := speed, thetaEdge := boundary, theta := BitVec.ofInt 16 (quant boundary)
           hallRef := x.hallRef || takeRef, theta0 := if takeRef then BitVec.ofInt 16 (quant boundary) else x.theta0
           c0 := if takeRef then (s.fb p (fbOfLeaf l)).c else x.c0 }

theorem State.modLeaf_congr {s : State} {p : PortalId} {l : LeafId} {f g : Leaf → Leaf} (h : f (s.leaf p l) = g (s.leaf p l)) : s.modLeaf p l f = s.modLeaf p l g :=
  State.modPortal_congr (congrArg (fun x => { s.portal p with leaves := (s.portal p).leaves.set l x }) h)

theorem State.modLeaf_modLeaf (s : State) (p : PortalId) (l : LeafId) (f g : Leaf → Leaf) : (s.modLeaf p l f).modLeaf p l g = s.modLeaf p l fun x => g (f x) := by
  simp only [State.modLeaf, State.modPortal_modPortal, Fin.getElem_fin, Vector.getElem_set_self, Vector.set_set]

theorem Ts.since_ne_zero {t b : Ts} (h : t ≠ b) : t.since b ≠ 0 := by
  unfold Ts.since
  bv_omega

section Hall
variable (dt : Nat) {p : PortalId} {l : LeafId} {s : State}

/-- An edge into the next sector crosses the boundary between the two. -/
theorem exec_hallEdge_next {code : BitVec 3} {k j : Nat} {b : Ts} (hcode : s.hallSector p l code = some k) (hsector : (s.leaf p l).sector = some j)
    (hnext : k = (j + 1) % 6) (hedge : (s.leaf p l).lastEdge = some b) (hb : (s.advance dt).ts ≠ b) : exec (.hallEdge dt p l code) s
    = .next ((s.advance dt).modLeaf p l fun _ => (s.advance dt).edgeSeen p l code k (s.sectorCentre p l j + sixth / 2) (sixth / (((s.advance dt).ts - b).toNat : Rat))) := by
  have hcode' : (s.advance dt).hallSector p l code = some k := hcode
  have hspeed : (if (s.advance dt).ts.since b = 0 then (0 : Rat) else 1 * sixth / ((s.advance dt).ts.since b : Rat)) = sixth / (((s.advance dt).ts - b).toNat : Rat) := by
    rw [if_neg (Ts.since_ne_zero hb), one_mul]
    rfl
  show execHallEdge dt p l code s = _
  simp only [execHallEdge, hcode', State.advance_leaf, hsector, hedge, hnext, if_true, hspeed]
  exact congrArg Host.Outcome.next (State.modLeaf_congr rfl)

variable {inv : List Ts}

/-- The codes of the last second that are invalid, the present one first. -/
theorem exec_hallEdge_invalid {code : BitVec 3} (hcode : s.hallSector p l code = none)
    (hinv : inv = (s.advance dt).ts :: (s.leaf p l).invalid.filter fun t => !(s.advance dt).elapsed t 100000001) : exec (.hallEdge dt p l code) s
    = .next (if 3 ≤ inv.length ∧ s.leafMode p l = 1 ∧ s.driven p l = true
      then ((s.advance dt).modLeaf p l fun y => { y with hallCode := code, invalid := [] }).leafFault p l 6 false 0x02
      else (s.advance dt).modLeaf p l fun y => { y with hallCode := code, invalid := inv }) := by
  subst hinv
  have hcode' : (s.advance dt).hallSector p l code = none := hcode
  show execHallEdge dt p l code s = _
  simp only [execHallEdge, hcode', State.modLeaf_modLeaf, apply_ite Host.Outcome.next]
  rfl

/-- 50 ms without an edge. -/
theorem exec_hallTimeout {k : Nat} {b : Ts} (hsector : (s.leaf p l).sector = some k) (hedge : (s.leaf p l).lastEdge = some b)
    (ht : (s.advance dt).elapsed b 5000000 = true) : exec (.hallTimeout dt p l) s = .next ((s.advance dt).modLeaf p l fun y =>
      { y with thetaEdge := s.sectorCentre p l k, edgeSpeed := 0, theta := BitVec.ofInt 16 (quant (s.sectorCentre p l k)) }) := by
  have hran : (s.advance dt).ran (s.leaf p l).lastEdge (ms 50) = true := by
    rw [hedge]
    exact ht
  show execHallTimeout dt p l s = _
  simp only [execHallTimeout, State.advance_leaf, hsector, hran, if_true]
  rfl

end Hall

/-- Settles O41: the end of STARTING by the state that is wanted, and an edge by the sector of its code. -/
theorem driveStarts : Obligations.DriveStarts := by
  unfold Obligations.DriveStarts
  refine ⟨fun dt p l s => ⟨fun hdrive hgd ht hw => ?_, fun hdrive ht hw => ?_, exec_alignTimeEnd dt, exec_brakeEnd dt⟩,
    fun dt p l s code k => ⟨fun j b hcode hsector hnext hedge hb => ⟨_, _, exec_hallEdge_next dt hcode hsector hnext hedge hb, rfl, rfl, rfl, rfl, rfl, rfl, rfl⟩,
      fun hcode inv hinv => ?_, fun b => exec_hallTimeout dt⟩⟩
  · rw [← State.startTime_modulate hw] at ht
    rw [exec_driveStartDelayEnd_clear dt hdrive hgd ht]
    exact ⟨fun h => congrArg _ (State.startEnd_modulate hw h), fun hmode hsource haligned => ⟨_, congrArg _ (State.startEnd_align hw hmode hsource haligned)⟩⟩
  · rw [← State.startTime_brake hw] at ht
    refine ⟨fun hgd => ?_, fun hflt hwatched => ?_⟩
    · rw [exec_driveStartDelayEnd_clear dt hdrive hgd ht]
      exact congrArg _ (State.startEnd_brake hw)
    · rw [exec_driveStartDelayEnd dt hdrive ht, if_pos ⟨hflt, hwatched⟩]
  · rw [exec_hallEdge_invalid dt hcode hinv]
    exact ⟨fun hlt => by rw [if_neg fun h => absurd h.1 (by omega)], fun hle hmode hdriven => by rw [if_pos ⟨hle, hmode, hdriven⟩]⟩

end Sys2Proof.Machine
end

section
/-! The current tick of a leaf drive, the chopper of a brushed motor, and the profile generator (R109, R112, R117–R121, R124–R127). -/

namespace Sys2Proof.Machine

/-! ## The current tick (R112, R117, R127) -/

theorem quant_zero : quant 0 = 0 := if_pos rfl

theorem State.fb_modPortal (s : State) (p q : PortalId) (k : FbId) {f : Portal → Portal} (h : (f (s.portal p)).fbs = (s.portal p).fbs) :
    (s.modPortal p f).fb q k = s.fb q k := by
  have hfbs : ((s.modPortal p f).portal q).fbs = (s.portal q).fbs := by
    rw [State.portal_modPortal]
    split
    next hpq => rw [h, hpq]
    · rfl
  simp only [State.fb, hfbs]

@[simp] theorem State.fb_modLeaf (s : State) (p q : PortalId) (l : LeafId) (k : FbId) (f : Leaf → Leaf) : (s.modLeaf p l f).fb q k = s.fb q k :=
  State.fb_modPortal s p q k rfl

@[simp] theorem State.vObs_modLeaf (s : State) (p q : PortalId) (l m : LeafId) (f : Leaf → Leaf) : (s.modLeaf p l f).vObs q m = s.vObs q m := by
  simp only [State.vObs, State.fbV, State.fb_modLeaf]
  rfl

/-- The angle of a tick does not hang on the bus voltage. -/
theorem State.thetaNow_busTaken (s : State) (p q : PortalId) (l : LeafId) (v : Rat) : (s.busTaken p v).thetaNow q l = s.thetaNow q l := by
  have hleaf : (s.busTaken p v).leaf q l = s.leaf q l := State.leaf_modPortal s p q l rfl
  have hfb : (s.busTaken p v).fb q (fbOfLeaf l) = s.fb q (fbOfLeaf l) := State.fb_modPortal s p q _ rfl
  simp only [State.thetaNow, State.hallTheta, State.encoderTheta, hleaf, hfb]
  rfl

section Sample
variable {s : State} {p : PortalId} {l : LeafId} {m : CurrentSample}

/-- Without a modulator clock a tick takes the angle alone. -/
theorem State.sample_stopped (h : s.sdRuns p = false) : s.sample p l m = s.modLeaf p l fun x =>
    { x with theta := s.thetaNow p l, checked := if x.dpBad then (if m.focResidue then 0 else x.checked + 1) else x.checked } := by
  simp only [State.sample, State.busOutput_eq, h, Bool.false_eq_true, if_false]

/-- With it, the bus voltage too and the currents of the rotor frame, of a brushed motor the armature current alone (R112, R117). -/
theorem State.sample_runs {bdc : Bool} (hb : bdc = decide (s.leafMode p l = 2)) (h : s.sdRuns p = true) :
    s.sample p l m = (s.busTaken p (s.busValue p m.yv)).modLeaf p l fun x =>
      { x with theta := s.thetaNow p l
               id := if bdc then 0 else quant (park (s.phaseCurrent p l m.ya) (s.phaseCurrent p l m.yb) (s.thetaNow p l)).1
               iq := if bdc then quant (s.phaseCurrent p l m.ya) else quant (park (s.phaseCurrent p l m.ya) (s.phaseCurrent p l m.yb) (s.thetaNow p l)).2
               checked := if x.dpBad then (if m.focResidue then 0 else x.checked + 1) else x.checked } := by
  have hmode : decide ((s.busTaken p (s.busValue p m.yv)).leafMode p l = 2) = bdc := hb.symm
  simp only [State.sample, State.busOutput_eq, h, if_true, State.busTaken_sdRuns, State.thetaNow_busTaken, hmode]
  cases bdc
  · rfl
  · simp only [if_true, quant_zero]
    rfl

end Sample

/-- A leaf that does not move against its speed reference, and does not align, passes the checks of its motion (R127). -/
theorem State.motionChecks_pass {s v : State} {p : PortalId} {l : LeafId} (hv : v = s.modLeaf p l fun y => { y with dirBad := none })
    (hdir : (v.leaf p l).drive ≠ .position ∨ 0 ≤ (v.leaf p l).vRef * v.vObs p l) (halign : (v.leaf p l).drive ≠ .aligning) : s.motionChecks p l = v := by
  subst hv
  simp only [State.leaf_modLeaf, State.vObs_modLeaf, and_self, if_true] at hdir halign
  have hwrong : ¬((s.leaf p l).drive = .position ∧ (s.leaf p l).vRef * s.vObs p l < 0) := fun h => hdir.elim (fun hd => hd h.1) (not_le.2 h.2)
  have hbad : (decide ((s.leaf p l).drive = .position) && decide (50 ≤ |(s.leaf p l).vRef|) && decide ((s.leaf p l).vRef * s.vObs p l < 0)
      && decide (20 ≤ |s.vObs p l|)) = false := by
    by_contra hc
    simp only [Bool.not_eq_false, Bool.and_eq_true, decide_eq_true_eq] at hc
    obtain ⟨⟨⟨hdrive, -⟩, hneg⟩, -⟩ := hc
    exact hwrong ⟨hdrive, hneg⟩
  simp only [State.motionChecks, hbad, halign, false_and, Bool.false_eq_true, if_false]

/-- The residue mismatches of a tick, in their order (R119, R186). -/
theorem State.tickResidues_eq {v v1 v2 v3 : State} {p : PortalId} {l : LeafId} {m : CurrentSample}
    (h1 : v1 = if m.focResidue = true ∧ v.leafMode p l ≠ 2 ∧ (v.leaf p l).dpBad = false then v.datapathResidue p l else v)
    (h2 : v2 = if m.detResidue then v1.fenceUnitFault p l false 1 else v1) (h3 : v3 = if m.fenceResidue then v2.fenceUnitFault p l false 2 else v2) :
    v.tickResidues p l m = v3 := by
  subst h3 h2 h1
  simp only [State.tickResidues, Bool.not_eq_true']

theorem State.driveTick_eq (w : State) (p : PortalId) (l : LeafId) (m : CurrentSample) :
    w.driveTick p l m = if (w.leaf p l).drive.modulating = false ∨ (w.leaf p l).efOverride = true then w
      else if w.leafMode p l = 2 then w.chopRun p l m.arm else w.focLoad p l :=
  if_congr (by rw [Bool.or_eq_true, Bool.not_eq_true']) rfl rfl

/-- A tick of a leaf whose motion passes its checks, from the samples to the bridge. -/
theorem exec_currentTick (dt : Nat) {p : PortalId} {l : LeafId} {m : CurrentSample} {s u v : State} (hu : (s.advance dt).sample p l m = u)
    (hv : v = ((u.detTick p l).directRefs p l).modLeaf p l fun y => { y with dirBad := none })
    (hdir : (v.leaf p l).drive ≠ .position ∨ 0 ≤ (v.leaf p l).vRef * v.vObs p l) (halign : (v.leaf p l).drive ≠ .aligning) :
    exec (.currentTick dt p l m) s
      = .next ((((v.tickResidues p l m).slotTick (pdOf p) (leafSlot p l 0) m.dResidue).slotTick (pdOf p) (leafSlot p l 1) m.qResidue).driveTick p l m) := by
  show execCurrentTick dt p l m s = _
  simp only [execCurrentTick, hu, State.motionChecks_pass hv hdir halign]

/-! ## The chopper (R109, R120, R121) -/

theorem shapeC_le (n m d : Nat) (c : Int) : shapeC n m d c ≤ n - (d + 4) / 5 := Nat.min_le_right ..

theorem sgn_ne_zero {x : Int} (h : x ≠ 0) : sgn x ≠ 0 := by
  unfold sgn
  split_ifs <;> omega

section Chopper
variable {t : Ts} {i : Rat} {x : Leaf}

theorem chopStep_held (h : t.since x.chopAt < 100) : chopStep t i x = x := if_pos h

variable (ht : 100 ≤ t.since x.chopAt)
include ht

theorem chopStep_same_sign (hs : x.chopSign = sgn x.iqRef) : chopStep t i x =
    if x.chopDrive then (if |(x.iqRef : Rat)| + x.chopH < |i| then x.chopTo t false x.chopSign else x)
    else if |i| < |(x.iqRef : Rat)| - x.chopH then x.chopTo t true x.chopSign else x := by
  rw [chopStep, if_neg (not_lt.2 ht), if_neg (not_not.2 hs.symm), hs]

theorem chopStep_new_sign (hs : x.chopSign ≠ sgn x.iqRef) : chopStep t i x =
    if x.chopDrive then x.chopTo t false x.chopSign
    else if |i| < x.chopH then (if sgn x.iqRef = 0 then { x with chopSign := 0 } else x.chopTo t true (sgn x.iqRef)) else x :=
  (if_neg (not_lt.2 ht)).trans (if_pos hs.symm)

section SameSign
variable (hs : x.chopSign = sgn x.iqRef)
include hs

theorem chopSign_chopStep_same_sign : (chopStep t i x).chopSign = x.chopSign := by
  rw [chopStep_same_sign ht hs]
  split_ifs <;> rfl

/-- Above |i_ref| + h the chopper freewheels. -/
theorem chopStep_above (hh : 0 ≤ x.chopH) (hi : |(x.iqRef : Rat)| + x.chopH < |i|) : (chopStep t i x).chopDrive = false := by
  rw [chopStep_same_sign ht hs, if_pos hi, if_neg (not_lt.2 (by linarith))]
  split
  · rfl
  next hd => exact Bool.eq_false_of_not_eq_true hd

/-- Below |i_ref| − h it drives. -/
theorem chopStep_below (hh : 0 ≤ x.chopH) (hi : |i| < |(x.iqRef : Rat)| - x.chopH) : (chopStep t i x).chopDrive = true := by
  rw [chopStep_same_sign ht hs, if_pos hi, if_neg (not_lt.2 (by linarith))]
  split
  · assumption
  · rfl

/-- Between the two it keeps its phase. -/
theorem chopStep_between (hlo : |(x.iqRef : Rat)| - x.chopH ≤ |i|) (hhi : |i| ≤ |(x.iqRef : Rat)| + x.chopH) : chopStep t i x = x := by
  rw [chopStep_same_sign ht hs, if_neg (not_lt.2 hhi), if_neg (not_lt.2 hlo), ite_self]

end SameSign

section NewSign
variable (hs : x.chopSign ≠ sgn x.iqRef)
include hs

theorem chopStep_new_sign_driving (hdrive : x.chopDrive = true) : chopStep t i x = x.chopTo t false x.chopSign :=
  (chopStep_new_sign ht hs).trans (if_pos hdrive)

theorem chopStep_new_sign_waits (hdrive : x.chopDrive = false) (hi : x.chopH ≤ |i|) : chopStep t i x = x := by
  rw [chopStep_new_sign ht hs, if_neg (by simp [hdrive]), if_neg (not_lt.2 hi)]

theorem chopStep_new_sign_drives (hdrive : x.chopDrive = false) (hi : |i| < x.chopH) (href : x.iqRef ≠ 0) : chopStep t i x = x.chopTo t true (sgn x.iqRef) := by
  rw [chopStep_new_sign ht hs, if_neg (by simp [hdrive]), if_pos hi, if_neg (sgn_ne_zero href)]

end NewSign

end Chopper

theorem clampR_mem {lo hi : Rat} (h : lo ≤ hi) (x : Rat) : lo ≤ clampR lo hi x ∧ clampR lo hi x ≤ hi := by
  unfold clampR
  split_ifs <;> constructor <;> linarith

/-- The half-band after a millisecond of the chopper (R121). -/
def State.bandAfter (s : State) (p : PortalId) (l : LeafId) : Rat :=
  let x := s.leaf p l
  if x.chopCount < 5 then x.chopH
  else clampR (s.drivePar p l 0x2034) (s.drivePar p l 0x2035)
    (clampR (x.chopH / 2) (2 * x.chopH) (x.chopH * (1 + ((1000 * x.chopCount : Rat) / (s.drivePar p l 0x2033 : Rat) - 1) / 4)))

@[simp] theorem State.ts_chopRun (s : State) (p : PortalId) (l : LeafId) (arm : List SincSample) : (s.chopRun p l arm).ts = s.ts := by
  unfold State.chopRun
  split <;> rfl

section Adapt
variable (dt : Nat) {p : PortalId} {l : LeafId} {s u : State} (arm : List SincSample)

theorem exec_chopAdapt (hu : u = (s.advance dt).chopRun p l arm) (hmode : s.leafMode p l = 2) (hmod : (s.leaf p l).drive.modulating = true)
    (ht : (s.advance dt).elapsed (s.leaf p l).chopSince 100000 = true) : exec (.chopAdapt dt p l arm) s = .next (u.modLeaf p l fun _ =>
      { u.leaf p l with chopFreq := 1000 * (u.leaf p l).chopCount, chopH := u.bandAfter p l, chopCount := 0, chopSince := s.ts + BitVec.ofNat 56 dt }) := by
  refine (if_pos ⟨hmode, hmod, ht⟩).trans (congrArg Host.Outcome.next ?_)
  subst hu
  refine State.modLeaf_congr ?_
  simp only [State.bandAfter, Nat.cast_mul, Nat.cast_ofNat, State.ts_chopRun, State.advance_ts]

theorem exec_chopAdapt_idle (h : s.leafMode p l ≠ 2 ∨ (s.leaf p l).drive.modulating = false ∨ (s.advance dt).elapsed (s.leaf p l).chopSince 100000 = false) :
    exec (.chopAdapt dt p l arm) s = .next (s.advance dt) := by
  refine if_neg ?_
  rintro ⟨hmode, hmod, ht⟩
  obtain h | h | h := h
  · exact h hmode
  · exact absurd (h.symm.trans hmod) (by decide)
  · exact absurd (h.symm.trans ht) (by decide)

end Adapt

/-! ## The profile generator (R124–R126) -/

/-- A speed that is moved towards a goal moves by no more than the larger of its two steps. -/
theorem abs_slewSpeed_sub_le {v goal up down a : Rat} (hup : 0 ≤ up) (hdown : 0 ≤ down) (hua : up ≤ a) (hda : down ≤ a) :
    |slewSpeed v goal up down - v| ≤ a := by
  unfold slewSpeed
  rw [abs_le]
  split_ifs with _ hlt hlt
  · have hmin := le_min hlt.le (le_add_of_nonneg_right hup)
    have hmin' := min_le_right goal (v + up)
    constructor <;> linarith
  · have hmax := max_le (not_lt.1 hlt) (sub_le_self v hup)
    have hmax' := le_max_right goal (v - up)
    constructor <;> linarith
  · have hmin := le_min hlt.le (le_add_of_nonneg_right hdown)
    have hmin' := min_le_right goal (v + down)
    constructor <;> linarith
  · have hmax := max_le (not_lt.1 hlt) (sub_le_self v hdown)
    have hmax' := le_max_right goal (v - down)
    constructor <;> linarith

/-- A tick of the profile changes the speed command by no more than the largest of the five accelerations (mm/s²) gives in a millisecond. -/
theorem abs_sub_le_of_slews {accOpen decOpen accClose decClose decReverse a v w goal : Rat} {isOpen back : Bool} (h0 : 0 ≤ accOpen) (h1 : 0 ≤ decOpen)
    (h2 : 0 ≤ accClose) (h3 : 0 ≤ decClose) (h4 : 0 ≤ decReverse) (ha : a = max (max accOpen decOpen) (max (max accClose decClose) decReverse) / 1000)
    (hv : v = if back then slewSpeed w 0 0 (decReverse / 1000)
      else slewSpeed w goal ((if isOpen then accOpen else accClose) / 1000) ((if isOpen then decOpen else decClose) / 1000)) : |v - w| ≤ a := by
  have hle : ∀ b, b ≤ max (max accOpen decOpen) (max (max accClose decClose) decReverse) → b / 1000 ≤ a :=
    fun b hb => ha ▸ div_le_div_of_nonneg_right hb (by norm_num)
  have hge : ∀ b : Rat, 0 ≤ b → 0 ≤ b / 1000 := fun b hb => div_nonneg hb (by norm_num)
  subst hv
  cases back
  · cases isOpen
    · exact abs_slewSpeed_sub_le (hge _ h2) (hge _ h3) (hle _ (by simp)) (hle _ (by simp))
    · exact abs_slewSpeed_sub_le (hge _ h0) (hge _ h1) (hle _ (by simp)) (hle _ (by simp))
  · have hrev := hle decReverse (by simp)
    exact abs_slewSpeed_sub_le le_rfl (hge _ h4) ((hge _ h4).trans hrev) hrev

/-- The profile of a leaf that neither stops nor takes over a speed: the speed command moves towards its goal by the accelerations of its direction, or to 0 by
DEC_REVERSE against it, and the reference by the speed command, up to the target (R124, R126). -/
theorem State.leaf_profileMove {s : State} {p : PortalId} {l : LeafId} {x : Leaf} (hx : x = s.leaf p l) (hcarry : x.carry = false) (hstop : x.stopping = false) :
    ∃ (isOpen back reached : Bool) (goal v : Rat),
      v = (if back then slewSpeed x.vCmd 0 0 (s.latched p l 0x2064 / 1000)
        else slewSpeed x.vCmd goal ((if isOpen then (s.latched p l 0x2060 : Rat) else s.latched p l 0x2062) / 1000)
          ((if isOpen then (s.latched p l 0x2061 : Rat) else s.latched p l 0x2063) / 1000))
      ∧ (s.profileMove p l none).leaf p l = if reached then { x with carry := false, xRef := x.target, vCmd := 0, holding := true, reversing := false }
        else { x with carry := false, xRef := x.xRef + v / 10, vCmd := v, reversing := back || x.reversing } := by
  subst hx
  simp only [State.profileMove, State.leaf_modLeaf, and_self, if_true, hcarry, hstop, Bool.false_eq_true, false_and, if_false, false_or, Bool.not_false, Bool.true_and]
  exact ⟨_, _, _, _, _, rfl, rfl⟩

@[simp] theorem State.state_modLeaf (s : State) (p q : PortalId) (l : LeafId) (f : Leaf → Leaf) : ((s.modLeaf p l f).portal q).state = (s.portal q).state := by
  rw [State.modLeaf, State.portal_modPortal]
  split
  next h => rw [h]
  · rfl

@[simp] theorem State.state_profileMove (s : State) (p q : PortalId) (l : LeafId) (cap : Option Rat) :
    ((s.profileMove p l cap).portal q).state = (s.portal q).state := State.state_modLeaf s p q l _

section Profile
variable (dt : Nat) {p : PortalId} {l : LeafId} {s : State}

theorem exec_profileTick_creep (hdrive : (s.leaf p l).drive = .creep) : exec (.profileTick dt p l) s
    = .next ((s.advance dt).modLeaf p l fun y => { y with xRef := s.xObs p l, vCmd := -(s.latched p l 0x2068 : Rat) }) := by
  show execProfileTick dt p l s = _
  simp only [execProfileTick, State.advance_leaf, hdrive]
  rfl

theorem exec_profileTick_holding (hdrive : (s.leaf p l).drive = .position) (hhold : (s.leaf p l).holding = true) :
    exec (.profileTick dt p l) s = .next (s.advance dt) := by
  show execProfileTick dt p l s = _
  simp only [execProfileTick, State.advance_leaf, hdrive, hhold, or_true, if_true]

theorem exec_profileTick_moving (hdrive : (s.leaf p l).drive = .position) (hhold : (s.leaf p l).holding = false)
    (htune : ∀ j, (s.slot (pdOf p) (leafSlot p l j)).tune = none) (hjog : (s.portal p).state ≠ .jog) (hclosing : (s.portal p).state ≠ .closing) :
    exec (.profileTick dt p l) s = .next ((s.advance dt).profileMove p l none) := by
  have htuning : ((List.finRange 4).any fun j => ((s.advance dt).slot (pdOf p) (leafSlot p l j)).tune.isSome) = false := by
    rw [List.any_eq_false]
    intro j _
    have hj : ((s.advance dt).slot (pdOf p) (leafSlot p l j)).tune = none := htune j
    simp [hj]
  show execProfileTick dt p l s = _
  simp only [execProfileTick, State.advance_leaf, State.advance_portal, hdrive, hhold, htuning, Bool.false_eq_true, or_self, if_false, State.state_profileMove, hclosing,
    false_and]
  split
  next h _ => exact absurd h hjog
  · rfl

end Profile

/-- Settles O42: a tick by its samples and checks, the chopper by the sign and the band of its current, the profile by the state of the drive. -/
theorem currentAndProfile : Obligations.CurrentAndProfile := by
  unfold Obligations.CurrentAndProfile
  refine ⟨⟨?_, shapeC_le, fun t i x => ⟨chopStep_held, fun ht hs hh => ⟨chopSign_chopStep_same_sign ht hs, chopStep_above ht hs hh, chopStep_below ht hs hh,
      chopStep_between ht hs⟩, fun ht hs => ⟨fun hdrive => ?_, chopStep_new_sign_waits ht hs, fun hdrive hi href => ?_⟩⟩⟩,
    ?_, fun dt p l s => ⟨exec_profileTick_holding dt, exec_profileTick_creep dt, exec_profileTick_moving dt⟩, ?_⟩
  · rintro dt p l m s u v v1 v2 v3 w th bdc bus ia ib hb rfl rfl rfl rfl hu hv hdir halign h1 h2 h3 rfl
    have hsample : (s.advance dt).sample p l m = u := by
      rw [hu]
      cases hruns : s.sdRuns p
      · exact State.sample_stopped ((s.advance_sdRuns dt p).trans hruns)
      · exact State.sample_runs hb ((s.advance_sdRuns dt p).trans hruns)
    rw [exec_currentTick dt hsample hv hdir halign, State.tickResidues_eq h1 h2 h3, State.driveTick_eq]
    rfl
  · rw [chopStep_new_sign_driving ht hs hdrive]
    exact ⟨rfl, rfl, rfl⟩
  · rw [chopStep_new_sign_drives ht hs hdrive hi href]
    exact ⟨rfl, rfl, rfl⟩
  · rintro dt p l arm s u n h lo hi hu rfl rfl rfl rfl
    have hu' : u = (s.advance dt).chopRun p l arm := by
      rw [hu, State.chopRun, State.advance_sdRuns]
      rfl
    refine ⟨fun hmode hmod ht => ⟨_, _, exec_chopAdapt dt arm hu' hmode hmod ht, rfl, rfl, fun hn => if_pos hn, fun hn => ?_⟩, exec_chopAdapt_idle dt arm⟩
    rw [show u.bandAfter p l = _ from if_neg (not_lt.2 hn)]
    exact ⟨rfl, fun hle => clampR_mem hle _⟩
  · rintro p l s x y a hx hcarry hstop h0 h1 h2 h3 h4 ha rfl
    obtain ⟨isOpen, back, reached, goal, v, hv, hy⟩ := State.leaf_profileMove hx hcarry hstop
    rw [hy]
    cases reached
    · refine .inr ⟨rfl, rfl, ?_⟩
      exact abs_sub_le_of_slews (Int.cast_nonneg h0) (Int.cast_nonneg h1) (Int.cast_nonneg h2) (Int.cast_nonneg h3) (Int.cast_nonneg h4) ha hv
    · exact .inl ⟨rfl, rfl, rfl⟩

end Sys2Proof.Machine
end

section
/-! The slots of the control engines: how a slot changes, and what the operations on channels, leaves and replies leave of the slots (R122, R138). -/

namespace Sys2Proof.Machine

/-! ## Changing a slot -/

section ModSlot
variable {s : State} {d : PdId} {n : SlotId}

theorem State.modSlot_congr {f g : Slot → Slot} (h : f (s.slot d n) = g (s.slot d n)) : s.modSlot d n f = s.modSlot d n g := by
  have h' : f s.engines[d].slots[n] = g s.engines[d].slots[n] := h
  rw [State.modSlot, h', State.modSlot]

theorem State.modSlot_self {f : Slot → Slot} (h : f (s.slot d n) = s.slot d n) : s.modSlot d n f = s := by
  have h' : f s.engines[d].slots[n] = s.engines[d].slots[n] := h
  refine State.engines_set_self ?_
  rw [h', Fin.getElem_fin (s.engines[d].slots), Vector.set_getElem_self]

theorem State.slot_modSlot_same (f : Slot → Slot) : (s.modSlot d n f).slot d n = f (s.slot d n) := by
  rw [State.slot_modSlot, if_pos ⟨rfl, rfl⟩]

theorem State.modSlot_modSlot (f g : Slot → Slot) : (s.modSlot d n f).modSlot d n g = s.modSlot d n fun x => g (f x) := by
  simp only [State.modSlot, Fin.getElem_fin, Vector.getElem_set_self, Vector.set_set]

theorem State.slot_of_engines {t : State} (h : t.engines = s.engines) : t.slot d n = s.slot d n := by rw [State.slot, h, State.slot]

end ModSlot

/-! ## What a release downstream leaves of the slots (R123, R138, R179, R181) -/

@[simp] theorem State.ffClamp_engines (s : State) (p : PortalId) (l : LeafId) (i : Int) : (s.ffClamp p l i).2.engines = s.engines := by
  unfold State.ffClamp
  dsimp only
  split
  · rfl
  · exact ite_field (g := State.engines) (State.raisePortal_engines ..) rfl

@[simp] theorem State.efClamp_engines (s : State) (p : PortalId) (l : LeafId) (v : Rat) : (s.efClamp p l v).2.engines = s.engines := by
  unfold State.efClamp
  dsimp only
  split <;> rfl

@[simp] theorem State.slotUndrive_engines (s : State) (d : PdId) (n : SlotId) : (s.slotUndrive d n).engines = s.engines := by
  unfold State.slotUndrive
  split <;> rfl

@[simp] theorem State.applySlot_engines (s : State) (d : PdId) (n : SlotId) (u : Int) : (s.applySlot d n u).2.engines = s.engines := by
  unfold State.applySlot
  split
  · dsimp only
    split
    · rfl
    · rfl
    · exact ite_field (g := State.engines) (State.ffClamp_engines ..) (State.ffClamp_engines ..)
    · exact ite_field (g := State.engines) (State.efClamp_engines ..) (State.efClamp_engines ..)
  · split <;> rfl

@[simp] theorem State.slot_applySlot (s : State) (d e : PdId) (n m : SlotId) (u : Int) : (s.applySlot d n u).2.slot e m = s.slot e m :=
  State.slot_of_engines (State.applySlot_engines s d n u)

/-! ## Replies that wait for a transfer (R164) -/

theorem State.slot_endClosing (s : State) (d : PdId) (n : SlotId) : (s.endClosing d n).slot d n = { s.slot d n with closing := [] } := by
  have hreplies : (s.endClosing d n).engines = (s.modSlot d n fun y => { y with closing := [] }).engines :=
    foldState_field (g := State.engines) fun _ _ => State.reply_engines _ _ _ _
  rw [State.slot_of_engines hreplies, State.slot_modSlot_same]

theorem Slot.closing_none {x : Slot} (h : x.closing = []) : { x with closing := [] } = x := by rw [← h]

theorem State.endClosing_none {s : State} {d : PdId} {n : SlotId} (h : (s.slot d n).closing = []) : s.endClosing d n = s := by
  simp only [State.endClosing, h, foldState, List.foldl_nil]
  exact State.modSlot_self (Slot.closing_none h)

end Sys2Proof.Machine
end

section
/-! The tick of a slot: its place, whether the slot runs, and what each mode computes (R137–R148, R160). -/

namespace Sys2Proof.Machine

/-! ## The parts of a tick (R141, R144) -/

/-- The engine has begun the tick of a slot: the place of the next one counts from it (R141). -/
def State.tickTaken (s : State) (d : PdId) (n : SlotId) : State :=
  { s with engines := s.engines.set d { s.engines[d] with last := some (s.ts, s.slotRate d n, n.val) } }

/-- A slot computes in its tick: a leaf slot while its drive state lets it run, a general one while its owner does and it is not DISABLED (R144). -/
def State.tickRuns (s : State) (d : PdId) (n : SlotId) : Bool :=
  if n.val < 32 then (s.slot d n).running else s.generalRuns d n && decide ((s.slot d n).mode ≠ .disabled)

/-- The state in which a slot that computes does so: a general one ticks from here. -/
def State.tickStarted (s : State) (d : PdId) (n : SlotId) : State :=
  if n.val < 32 then s.tickTaken d n else (s.tickTaken d n).modSlot d n fun x => { x with running := true }

section Parts
variable {s : State} {d : PdId} {n : SlotId}

@[simp] theorem State.slot_tickTaken (s : State) (d e : PdId) (n m : SlotId) : (s.tickTaken d n).slot e m = s.slot e m := by
  simp only [State.tickTaken, State.slot, Fin.getElem_fin, Vector.getElem_set]
  split
  next h => simp only [h]
  · rfl

theorem Slot.running_self {x : Slot} (h : x.running = true) : { x with running := true } = x := by rw [← h]

theorem State.slot_tickStarted (hrun : s.tickRuns d n = true) : (s.tickStarted d n).slot d n = { s.slot d n with running := true } := by
  unfold State.tickRuns at hrun
  unfold State.tickStarted
  split
  next h =>
    rw [if_pos h] at hrun
    rw [State.slot_tickTaken, Slot.running_self hrun]
  · rw [State.slot_modSlot_same, State.slot_tickTaken]

/-- No tune begins or ends when a tick starts. -/
theorem State.innerTunes_tickStarted (s : State) (d : PdId) (n : SlotId) : (s.tickStarted d n).innerTunes d n = s.innerTunes d n := by
  have htune : ∀ m, ((s.tickStarted d n).slot d m).tune = (s.slot d m).tune := by
    intro m
    unfold State.tickStarted
    split
    · rw [State.slot_tickTaken]
    · rw [State.slot_modSlot, State.slot_tickTaken, State.slot_tickTaken]
      split
      next h => rw [h.2]
      · rfl
  simp only [State.innerTunes, htune]

@[simp] theorem State.tickStarted_portals (s : State) (d : PdId) (n : SlotId) : (s.tickStarted d n).portals = s.portals := by
  unfold State.tickStarted
  split <;> rfl

@[simp] theorem State.tickStarted_view (s : State) (d : PdId) (n : SlotId) : (s.tickStarted d n).view = s.view := by
  unfold State.tickStarted
  split <;> rfl

theorem State.tickDue_of_passed {m k : Nat} (hlast : s.engines[d].last = some (s.ts, m, k)) (h : s.slotRate d n < m ∨ (m = s.slotRate d n ∧ n.val ≤ k)) :
    s.tickDue d n = false := by
  rw [State.tickDue, hlast]
  simp only [ne_eq, not_true_eq_false, decide_false, Bool.false_or, Bool.or_eq_false_iff, Bool.and_eq_false_iff, decide_eq_false_iff_not]
  omega

theorem State.tickDue_of_place
    (h : ∀ t m k, s.engines[d].last = some (t, m, k) → t ≠ s.ts ∨ m < s.slotRate d n ∨ (m = s.slotRate d n ∧ k < n.val)) : s.tickDue d n = true := by
  unfold State.tickDue
  split
  next t m k hlast => simpa [or_assoc] using h t m k hlast
  · rfl

theorem State.slotTick_passed (h : s.tickDue d n = false) (b : Bool) : s.slotTick d n b = s := by
  rw [State.slotTick, h]
  rfl

variable (hdue : s.tickDue d n = true) (herr : (s.slot d n).residueErr = false)
include hdue herr

/-- A slot without a residue error whose tick has come computes, or stops, or does nothing. -/
theorem State.slotTick_due (b : Bool) : s.slotTick d n b =
    if s.tickRuns d n then (if b then (s.tickStarted d n).slotResidue d n else (s.tickStarted d n).slotWork d n)
    else if 32 ≤ n.val ∧ (s.slot d n).running = true then (((s.tickTaken d n).modSlot d n Slot.cleared).endClosing d n).slotUndrive d n
    else s.tickTaken d n := by
  unfold State.slotTick
  rw [if_neg (by rw [hdue]; decide)]
  extract_lets _ v x run s1 s2
  have hx : x = s.slot d n := State.slot_tickTaken ..
  have hrun : run = s.tickRuns d n := by rw [State.tickRuns, ← hx]; rfl
  have hs2 : s2 = s1 := if_neg (by rw [hx, herr]; decide)
  have hs1 : s1 = if s.tickRuns d n then s.tickStarted d n
      else if 32 ≤ n.val ∧ (s.slot d n).running = true then (((s.tickTaken d n).modSlot d n Slot.cleared).endClosing d n).slotUndrive d n
      else s.tickTaken d n := by
    rw [← hrun, ← hx]
    by_cases hn : n.val < 32
    · rw [if_neg (fun h : 32 ≤ n.val ∧ _ => absurd hn (not_lt.2 h.1)), State.tickStarted, if_pos hn, ite_self]
      exact if_pos hn
    · simp only [not_lt.1 hn, true_and, State.tickStarted, if_neg hn]
      exact if_neg hn
  rw [hs2, hs1, hrun]
  cases s.tickRuns d n <;> rfl

theorem State.slotTick_idle (hrun : s.tickRuns d n = false) (hran : (s.slot d n).running = false) (b : Bool) : s.slotTick d n b = s.tickTaken d n := by
  rw [State.slotTick_due hdue herr, if_neg (by rw [hrun]; decide), if_neg (by rw [hran]; exact fun h => absurd h.2 (by decide))]

theorem State.slotTick_stops (hrun : s.tickRuns d n = false) (hran : (s.slot d n).running = true) (hn : 32 ≤ n.val) (b : Bool) :
    s.slotTick d n b = (((s.tickTaken d n).modSlot d n Slot.cleared).endClosing d n).slotUndrive d n := by
  rw [State.slotTick_due hdue herr, if_neg (by rw [hrun]; decide), if_pos ⟨hn, hran⟩]

end Parts

/-! ## What each mode computes (R137–R139, R143, R148) -/

/-- A slot computes as in HOLD: a slot inner to it is in TUNE, or it is the position slot of a creeping leaf (R125, R155). -/
def State.frozen (s : State) (d : PdId) (n : SlotId) : Bool :=
  s.innerTunes d n || (n.val < 32 && slotLoop n = 3 && (s.leaf (slotPortal d n) (slotLeaf n)).drive = .creep)

/-- Where the manual ramp of a slot comes in a tick (R143). -/
def State.rampNext (s : State) (d : PdId) (n : SlotId) (x : Slot) : Rat :=
  let step := perTick (s.slotPar d n 18).toNat (s.slotRate d n)
  clampR (s.slotRaw d n 15) (s.slotRaw d n 16) (if x.ramp < x.manual then min x.manual (x.ramp + step) else max x.manual (x.ramp - step))

/-- The integrator that makes the first sum of AUTO the output before it, as far as its limits allow (R148). -/
def State.presetInt (s : State) (d : PdId) (n : SlotId) (w : Int) : Int :=
  clampI (toQ30 (s.slotRaw d n 13)) (toQ30 (s.slotRaw d n 14)) (toQ30 (s.slot d n).u - toQ30 w)

/-- The sum of shaping output, integrator and offset, Q30, before rounding (R137). -/
def State.autoSum (s : State) (d : PdId) (n : SlotId) (w : Int) : Int := toQ30 w + (s.slot d n).i + (s.slot d n).o

/-- The output that AUTO releases (R137, R138). -/
def State.autoOut (s : State) (d : PdId) (n : SlotId) (w : Int) : Int :=
  clampI (s.slotRaw d n 15) (s.slotRaw d n 16) (satQ15 (roundQ30 (s.autoSum d n w)))

/-- OUT_SAT: the value in force downstream is not the sum (R139). -/
def State.autoSat (s : State) (d : PdId) (n : SlotId) (w : Int) : Bool :=
  decide (toQ30 (s.applySlot d n (s.autoOut d n w)).1 ≠ s.autoSum d n w)

/-- A rational between the bounds stays as it is. -/
theorem clampR_of_mem {lo hi x : Rat} (hlo : lo ≤ x) (hhi : x ≤ hi) : clampR lo hi x = x := by
  rw [clampR, if_neg (not_lt.2 hlo), if_neg (not_lt.2 hhi)]

theorem clampI_mem {lo hi : Int} (h : lo ≤ hi) (x : Int) : lo ≤ clampI lo hi x ∧ clampI lo hi x ≤ hi := by
  unfold clampI
  split_ifs <;> omega

theorem toQ30_eq (x : Int) : toQ30 x = 32768 * x := Int.mul_comm ..

section Work
variable {s : State} {d : PdId} {n : SlotId}

theorem State.not_frozen (htunes : s.innerTunes d n = false)
    (hcreep : n.val < 32 → slotLoop n = 3 → (s.leaf (slotPortal d n) (slotLeaf n)).drive ≠ .creep) : s.frozen d n = false := by
  rw [State.frozen, htunes, Bool.false_or]
  simpa using hcreep

theorem State.slotWork_hold (h : (s.slot d n).mode = .hold) : s.slotWork d n = s.holdTick d n (s.slotErr d n) (s.shape d n (s.slotErr d n)) := by
  simp only [State.slotWork, h]

theorem State.slotWork_manual (h : (s.slot d n).mode = .manual) (hf : s.frozen d n = false) :
    s.slotWork d n = (s.modSlot d n fun y => y.push (s.slotErr d n) (s.shape d n (s.slotErr d n))).manualTick d n := by
  simp only [State.slotWork, h]
  exact if_neg (Bool.not_eq_true _ ▸ hf)

theorem State.slotWork_closed (h : (s.slot d n).mode = .closed) (hf : s.frozen d n = false) :
    s.slotWork d n = s.closedTick d n (s.slotErr d n) (s.shape d n (s.slotErr d n)) := by
  simp only [State.slotWork, h]
  exact if_neg (Bool.not_eq_true _ ▸ hf)

variable (e w : Int)

theorem State.slot_holdTick : (s.holdTick d n e w).slot d n = (s.slot d n).push e w := by
  unfold State.holdTick
  dsimp only
  split
  · exact State.slot_modSlot_same _
  · rw [State.slot_applySlot, State.slot_modSlot_same]

theorem State.slot_manualTick :
    (s.manualTick d n).slot d n = { s.slot d n with ramp := s.rampNext d n (s.slot d n), u := quant (s.rampNext d n (s.slot d n)) } := by
  unfold State.manualTick
  dsimp only
  rw [State.slot_modSlot_same, State.slot_applySlot]
  rfl

/-- A ramp that rises within the limits takes one step, or ends at its target. -/
theorem State.rampNext_up {x : Slot} (hup : x.ramp ≤ x.manual) (hlo : (s.slotRaw d n 15 : Rat) ≤ x.ramp) (hhi : (x.manual : Rat) ≤ s.slotRaw d n 16) :
    s.rampNext d n x = min (x.manual : Rat) (x.ramp + ((s.slotPar d n 18).toNat : Rat) / (s.slotRate d n : Rat)) := by
  have hstep : 0 ≤ ((s.slotPar d n 18).toNat : Rat) / (s.slotRate d n : Rat) := by positivity
  have hmove : (if x.ramp < x.manual then min (x.manual : Rat) (x.ramp + perTick (s.slotPar d n 18).toNat (s.slotRate d n))
      else max (x.manual : Rat) (x.ramp - perTick (s.slotPar d n 18).toNat (s.slotRate d n)))
      = min (x.manual : Rat) (x.ramp + ((s.slotPar d n 18).toNat : Rat) / (s.slotRate d n : Rat)) := by
    unfold perTick
    split
    · rfl
    next h => rw [max_eq_left (by linarith), min_eq_left (by linarith)]
  rw [State.rampNext, hmove]
  exact clampR_of_mem (le_min (hlo.trans hup) (by linarith)) ((min_le_left _ _).trans hhi)

/-- The first tick of AUTO: what the limits of the integrator keep out of it becomes the offset (R148). -/
theorem State.slot_closedTick_preset (h : (s.slot d n).preset = true) : (s.closedTick d n e w).slot d n =
    { (s.slot d n).push e w with
      i := s.presetInt d n w, o := toQ30 (s.slot d n).u - toQ30 w - s.presetInt d n w
      u := clampI (s.slotRaw d n 15) (s.slotRaw d n 16) (satQ15 (s.slot d n).u)
      preset := false, outSat := false, intSat := false, satSeen := false, closing := [] } := by
  unfold State.closedTick
  rw [if_pos h]
  dsimp only
  have hreplies (l : List Handle) (ps : List Byte) (t : State) : (foldState l (fun h t => t.reply h stDone ps) t).slot d n = t.slot d n :=
    State.slot_of_engines (foldState_field (g := State.engines) fun _ _ => State.reply_engines ..)
  split
  · split
    · rw [hreplies, State.slot_modSlot_same, State.slot_applySlot]
      rfl
    · rw [State.slot_of_engines (State.raisePortal_engines ..), hreplies, State.slot_modSlot_same, State.slot_applySlot]
      rfl
  · rw [hreplies, State.slot_modSlot_same, State.slot_applySlot]
    rfl

theorem State.slot_closedTick_auto (h : (s.slot d n).preset = false) : ∃ (j o : Int) (ua : Option Int) (isat : Bool), (s.closedTick d n e w).slot d n =
    { (s.slot d n).push e w with
      i := clampI (toQ30 (s.slotRaw d n 13)) (toQ30 (s.slotRaw d n 14)) j, o := o, u := s.autoOut d n w, uApp := ua
      outSat := s.autoSat d n w, intSat := isat, satSeen := (s.slot d n).satSeen || s.autoSat d n w } := by
  unfold State.closedTick
  rw [if_neg (by rw [h]; decide)]
  dsimp only
  have hmark (c : Prop) [Decidable c] (t : State) (pid unit b : Nat) : (if c then t.markSet pid unit b else t).slot d n = t.slot d n := by
    split <;> rfl
  rw [hmark, State.slot_modSlot_same, State.slot_applySlot]
  exact ⟨_, _, _, _, rfl⟩

section Closed
variable {x : Slot} (hx : x = (s.closedTick d n e w).slot d n)
include hx

/-- In both ticks the output and the integrator come out of their limits (R138, R139). -/
theorem State.closedTick_limits : x.e = e ∧ x.w = w ∧ x.mode = (s.slot d n).mode
    ∧ (s.slotRaw d n 15 ≤ s.slotRaw d n 16 → s.slotRaw d n 15 ≤ x.u ∧ x.u ≤ s.slotRaw d n 16)
    ∧ (s.slotRaw d n 13 ≤ s.slotRaw d n 14 → 32768 * s.slotRaw d n 13 ≤ x.i ∧ x.i ≤ 32768 * s.slotRaw d n 14) := by
  simp only [← toQ30_eq]
  have hint (h : s.slotRaw d n 13 ≤ s.slotRaw d n 14) (j : Int) := clampI_mem (lo := toQ30 (s.slotRaw d n 13)) (hi := toQ30 (s.slotRaw d n 14))
    (by simp only [toQ30_eq]; omega) j
  subst hx
  cases hp : (s.slot d n).preset
  · obtain ⟨j, o, ua, isat, hslot⟩ := State.slot_closedTick_auto e w hp
    rw [hslot]
    exact ⟨rfl, rfl, rfl, fun h => clampI_mem h _, fun h => hint h j⟩
  · rw [State.slot_closedTick_preset e w hp]
    exact ⟨rfl, rfl, rfl, fun h => clampI_mem h _, fun h => hint h _⟩

theorem State.closedTick_preset (h : (s.slot d n).preset = true) :
    32768 * w + x.i + x.o = 32768 * (s.slot d n).u ∧ x.preset = false ∧ x.closing = [] ∧ x.satSeen = false := by
  rw [hx, State.slot_closedTick_preset e w h]
  refine ⟨?_, rfl, rfl, rfl⟩
  simp only [toQ30_eq]
  omega

theorem State.closedTick_auto (h : (s.slot d n).preset = false) :
    x.u = clampI (s.slotRaw d n 15) (s.slotRaw d n 16) (clampI (-32768) 32767 ((32768 * w + (s.slot d n).i + (s.slot d n).o + 16384) / 32768))
    ∧ ∀ ua, ua = (s.applySlot d n x.u).1 →
      x.outSat = decide (32768 * ua ≠ 32768 * w + (s.slot d n).i + (s.slot d n).o) ∧ x.satSeen = ((s.slot d n).satSeen || x.outSat) := by
  obtain ⟨j, o, ua, isat, hslot⟩ := State.slot_closedTick_auto e w h
  rw [hx, hslot]
  refine ⟨?_, ?_⟩
  · rw [← toQ30_eq w]
    rfl
  · rintro _ rfl
    refine ⟨?_, rfl⟩
    rw [← toQ30_eq, ← toQ30_eq w]
    rfl

end Closed

end Work


/-! ## A tick that computes -/

section Computes
variable {s r : State} {d : PdId} {n : SlotId} {e w : Int} (hdue : s.tickDue d n = true) (herr : (s.slot d n).residueErr = false)
  (hrun : s.tickRuns d n = true) (hr : r = s.tickStarted d n) (he : e = r.slotErr d n) (hw : w = r.shape d n e)

section Starts
include hr

theorem State.started_not_frozen (htunes : s.innerTunes d n = false)
    (hcreep : n.val < 32 → slotLoop n = 3 → (s.leaf (slotPortal d n) (slotLeaf n)).drive ≠ .creep) : r.frozen d n = false := by
  refine State.not_frozen ((hr ▸ State.innerTunes_tickStarted s d n).trans htunes) ?_
  rwa [State.leaf_of_portals (hr ▸ State.tickStarted_portals s d n)]

include hrun

theorem State.slot_started : r.slot d n = { s.slot d n with running := true } := hr ▸ State.slot_tickStarted hrun

include hdue herr

theorem State.slotTick_residue : s.slotTick d n true = r.slotResidue d n := by
  rw [State.slotTick_due hdue herr, if_pos hrun, if_pos rfl, hr]

theorem State.slotTick_works : s.slotTick d n false = r.slotWork d n := by
  rw [State.slotTick_due hdue herr, if_pos hrun, if_neg (by decide), hr]

end Starts
include hdue herr hrun hr he hw

theorem State.slotTick_hold (h : (s.slot d n).mode = .hold) : s.slotTick d n false = r.holdTick d n e w := by
  rw [State.slotTick_works hdue herr hrun hr, State.slotWork_hold, ← he, ← hw]
  rw [State.slot_started hrun hr, h]

theorem State.slotTick_manual (h : (s.slot d n).mode = .manual) (hf : r.frozen d n = false) :
    s.slotTick d n false = (r.modSlot d n fun y => y.push e w).manualTick d n := by
  rw [State.slotTick_works hdue herr hrun hr, State.slotWork_manual (by rw [State.slot_started hrun hr, h]) hf, ← he, ← hw]

theorem State.slotTick_closed (h : (s.slot d n).mode = .closed) (hf : r.frozen d n = false) : s.slotTick d n false = r.closedTick d n e w := by
  rw [State.slotTick_works hdue herr hrun hr, State.slotWork_closed (by rw [State.slot_started hrun hr, h]) hf, ← he, ← hw]

end Computes


section Parameters
variable {s t : State} (h : t.view = s.view) (d : PdId) (n : SlotId)
include h

theorem State.slotRaw_of_view (f : Nat) : t.slotRaw d n f = s.slotRaw d n f := by rw [State.slotRaw, h, State.slotRaw]

theorem State.slotPar_of_view (f : Nat) : t.slotPar d n f = s.slotPar d n f := by rw [State.slotPar, State.par, h, State.slotPar, State.par]

theorem State.slotRate_of_view : t.slotRate d n = s.slotRate d n := by
  rw [State.slotRate, State.slotPar_of_view h, State.slotRate]

end Parameters

/-- Settles O38: a tick by its place, by whether the slot computes, and by what its mode makes of the slot. -/
theorem slotTicks : Obligations.SlotTicks := by
  unfold Obligations.SlotTicks
  intro dt d n s v r run e w herr hv hrun hr he hw
  replace hv : v = (s.advance dt).tickTaken d n := hv
  replace hrun : run = (s.advance dt).tickRuns d n := hrun
  replace hr : r = (s.advance dt).tickStarted d n := by rw [hr, hv]; rfl
  have hview : r.view = s.view := hr ▸ State.tickStarted_view (s.advance dt) d n
  have hraw := State.slotRaw_of_view hview d n
  refine ⟨?_, fun hplace => ?_⟩
  · rintro ⟨m, k, hlast, hpassed⟩ b
    exact congrArg Host.Outcome.next (State.slotTick_passed (State.tickDue_of_passed (s := s.advance dt) hlast hpassed) b)
  have hdue : (s.advance dt).tickDue d n = true := State.tickDue_of_place hplace
  refine ⟨fun hstops hran b => ?_, fun hstops hran hgeneral b => ?_, fun hcomputes => ?_⟩
  · exact congrArg Host.Outcome.next ((State.slotTick_idle hdue herr (hrun ▸ hstops) hran b).trans hv.symm)
  · refine ⟨_, congrArg Host.Outcome.next (State.slotTick_stops hdue herr (hrun ▸ hstops) hran hgeneral b), ?_⟩
    rw [State.slot_of_engines (State.slotUndrive_engines ..), State.slot_endClosing, State.slot_modSlot_same, State.slot_tickTaken]
    rfl
  replace hcomputes : (s.advance dt).tickRuns d n = true := hrun ▸ hcomputes
  have hslot : r.slot d n = { s.slot d n with running := true } := State.slot_started (s := s.advance dt) hcomputes hr
  refine ⟨fun hmode => ⟨?_, ?_⟩, fun hmode htunes hcreep => ?_, fun hmode htunes hcreep => ?_, ?_⟩
  · exact congrArg Host.Outcome.next (State.slotTick_hold hdue herr hcomputes hr he hw hmode)
  · rw [State.slot_holdTick, hslot]
    rfl
  · have hf := State.started_not_frozen hr htunes hcreep
    refine ⟨_, _, congrArg Host.Outcome.next (State.slotTick_manual hdue herr hcomputes hr he hw hmode hf), rfl, ?_⟩
    rw [State.slot_manualTick, State.slot_modSlot_same, hslot]
    refine ⟨rfl, rfl, hmode, fun hup hlo hhi => ⟨?_, rfl⟩⟩
    have hnext := State.rampNext_up (s := r) (d := d) (n := n) (x := s.slot d n) hup (by rwa [hraw]) (by rwa [hraw])
    rw [State.slotPar_of_view hview, State.slotRate_of_view hview] at hnext
    exact hnext
  · have hf := State.started_not_frozen hr htunes hcreep
    refine ⟨_, _, congrArg Host.Outcome.next (State.slotTick_closed hdue herr hcomputes hr he hw hmode hf), rfl, ?_⟩
    obtain ⟨hxe, hxw, hxmode, hout, hint⟩ := State.closedTick_limits (s := r) (d := d) (n := n) e w rfl
    have hpreset := State.closedTick_preset (s := r) (d := d) (n := n) e w rfl
    have hauto := State.closedTick_auto (s := r) (d := d) (n := n) e w rfl
    simp only [hraw, hslot] at hxmode hout hint hpreset hauto
    exact ⟨hxe, hxw, hxmode.trans hmode, hout, hint, hpreset, hauto⟩
  · exact congrArg Host.Outcome.next (State.slotTick_residue hdue herr hcomputes hr)

end Sys2Proof.Machine
end

section
/-! The loop opcodes, and how a relay tune begins, ends and is stopped (R146, R154–R157, R163, R164). -/

namespace Sys2Proof.Machine

/-! ## The end of a tune (R157) -/

theorem engineDie_ne (d : PdId) : engineDie d ≠ 0 ∧ engineDie d ≠ 7 := by
  constructor <;> simp only [engineDie, ne_eq, Fin.ext_iff, Fin.val_zero] <;> omega

/-- An event of a die that delivers its own waits there with the die's time-stamp (R52). -/
theorem State.raised_raiseAt (s : State) {k : DieId} (h : k ≠ 0 ∧ k ≠ 7) (src code unit param : Nat) :
    ((s.raiseAt k src code unit param).die k).raised = (s.die k).raised ++ [⟨(s.die k).ts, src, false, code, unit, param % 2 ^ 32⟩] := by
  simp only [State.raiseAt, h.1, h.2, or_self, if_false, State.die_modDie, if_true]

theorem State.die_of_dies {s t : State} (h : t.dies = s.dies) (k : DieId) : t.die k = s.die k := by rw [State.die, h, State.die]

section TuneEnds
variable {s : State} {d : PdId} {n : SlotId} (outcome status : Nat)

theorem State.abortTune_none (h : (s.slot d n).tune = none) : s.abortTune d n outcome status = s := by
  rw [State.abortTune, h]
  rfl

variable {t : Tune} (ht : (s.slot d n).tune = some t)
include ht

/-- A slot whose tune ends holds, with the bias as its output while it runs (R144, R157). -/
theorem State.slot_endTune (results : List Byte) : (s.endTune d n outcome status results).slot d n =
    if (s.slot d n).running then { s.slot d n with mode := .hold, u := t.bias, tune := none, endAt := some s.ts }
    else { (s.slot d n).cleared with mode := .hold, tune := none, endAt := some s.ts } := by
  unfold State.endTune
  rw [ht]
  dsimp only
  split
  · rw [State.slot_of_engines (State.reply_engines ..), State.slot_of_engines (State.raiseAt_engines ..), State.slot_modSlot_same]
    rfl
  · rw [State.slot_of_engines (State.raiseAt_engines ..), State.slot_modSlot_same]
    rfl

theorem State.raised_endTune (results : List Byte) : ∃ v, ((s.endTune d n outcome status results).die (engineDie d)).raised
    = (s.die (engineDie d)).raised ++ [⟨(s.die (engineDie d)).ts, 52, false, 0x0034, s.slotUnit d n, v⟩] := by
  unfold State.endTune
  rw [ht]
  dsimp only
  refine ⟨s.drawNat.1 % 2 ^ 32, ?_⟩
  split
  · rw [State.die_of_dies (State.reply_dies ..), State.raised_raiseAt _ (engineDie_ne d)]
    rfl
  · rw [State.raised_raiseAt _ (engineDie_ne d)]
    rfl

theorem State.abortTune_some : s.abortTune d n outcome status = (s.endTune d n outcome status []).modSlot d n fun x =>
    { x with tuTu := 0, tuAmp := 0, tuKu := 0, tuShift := 0, tuB0 := 0, tuKi := 0, tuKb := 0, tuFlags := 0 } := by
  rw [State.abortTune, ht]
  rfl

end TuneEnds

/-! ## The end conditions of a tune (R157) -/

section TuneChecks
variable {s : State} {d : PdId} {n : SlotId} {t : Tune} (ht : (s.slot d n).tune = some t)
include ht

theorem State.tuneCheck_limit (he : s.slotPar d n 22 < |(s.slot d n).e|) : s.tuneCheck d n = s.abortTune d n 4 stModeForbids := by
  simp only [State.tuneCheck, ht, he, if_true]

variable (he : |(s.slot d n).e| ≤ s.slotPar d n 22)
include he

theorem State.tuneCheck_completed (hcount : t.periods + 3 ≤ t.crossings.length)
    (hbig : 2 * (t.periods : Int) * t.eps < ((t.swings.drop 2).take t.periods).foldl (· + ·) 0) {u : State} (hu : u = s.modSlot d n (s.tuneResults d n t)) :
    s.tuneCheck d n = u.endTune d n 0 stDone (u.slot d n).tuneFields := by
  simp only [State.tuneCheck, ht, not_lt.2 he, hcount, hbig, hu, decide_true, Bool.and_self, if_true, if_false]

theorem State.tuneCheck_timeout (hcount : t.crossings.length < t.periods + 3) (hswitch : s.elapsed t.lastSwitch (25000 * t.timeout) = false)
    (htime : s.elapsed t.start (100000 * t.timeout) = true) : s.tuneCheck d n = s.abortTune d n 2 stModeForbids := by
  have hms : ms t.timeout = 100000 * t.timeout := Nat.mul_comm ..
  have hquarter : 100000 * t.timeout / 4 = 25000 * t.timeout := by omega
  simp only [State.tuneCheck, ht, not_lt.2 he, not_le.2 hcount, hms, hquarter, hswitch, htime, decide_false, Bool.false_and, Bool.or_self, Bool.false_eq_true,
    if_true, if_false]

end TuneChecks

/-! ## A loop opcode on the slot that it names (R164) -/

/-- The tune that the parameters of TUNE_START ask for (R154). -/
def tuneAsked (q : List Byte) (h : Handle) (now : Ts) : Tune :=
  ⟨signedOf 2 (unLe (q.take 2)), signedOf 2 (unLe ((q.drop 2).take 2)), signedOf 2 (unLe ((q.drop 4).take 2)), (q.getD 6 0).toNat, (q.getD 7 0).toNat,
    unLe ((q.drop 8).take 2), now, none, now, [], [], 0, 0, some h⟩

/-- The limits on what TUNE_START may ask of a slot (R154). -/
def State.tuneFits (s : State) (d : PdId) (n : SlotId) (t : Tune) : Prop :=
  s.slotIsSet d n 22 = true ∧ 164 ≤ t.h ∧ t.h ≤ 16384 ∧ 0 ≤ t.eps ∧ 2 * t.eps ≤ t.h ∧ s.slotRaw d n 15 + t.h ≤ t.bias ∧ t.bias ≤ s.slotRaw d n 16 - t.h
    ∧ 3 ≤ t.periods ∧ t.periods ≤ 20 ∧ t.rule ≤ 1 ∧ 100 ≤ t.timeout ∧ t.timeout ≤ 60000

/-- The fields of a slot that COEF_WRITE writes, with their values (R152). -/
def coefVals (q : List Byte) : List (Nat × Int) :=
  [(2, ((q.getD 0 0).toNat : Int)), (3, ((q.getD 1 0).toNat : Int))] ++ (List.range 9).map fun k => (4 + k, signedOf 2 (unLe ((q.drop (2 + 2 * k)).take 2)))

theorem foldState_store (vals : List (Nat × Int)) (key : Nat → Nat × Nat) (s : State) :
    foldState vals (fun e t => { t with params := store t.params (key e.1) e.2 }) s
      = { s with params := vals.foldl (fun l (e : Nat × Int) => store l (key e.1) e.2) s.params } := by
  unfold foldState
  induction vals generalizing s with
  | nil => rfl
  | cons e l ih => rw [List.foldl_cons, ih, List.foldl_cons]

/-- At the tick of a residue mismatch every request is refused with FENCED (R163). -/
theorem State.slotRequest_mismatch {s : State} {d : PdId} {n : SlotId} (h : (s.slot d n).errAt = some s.ts) (want : SlotMode) :
    s.slotRequest d n want = some (stFenced, detail 0xFFFF (s.slotUnit d n)) := if_pos h

section Opcodes
variable {s : State} {h : Handle} {b : Byte} {q : List Byte} {d : PdId} {n : SlotId} (htarget : s.slotTarget h.unit.toNat b.toNat = .ok (d, n))
include htarget

theorem State.withSlot_ok (f : PdId → SlotId → State) : s.withSlot h (b :: q) f = f d n := by
  simp only [State.withSlot, List.getD_cons_zero, htarget]

theorem State.loopOpen_refused {st : Nat} {l : List Byte} (hreq : s.slotRequest d n .hold = some (st, l)) : s.loopOpen h (b :: q) = s.reply h st l := by
  rw [State.loopOpen, State.withSlot_ok htarget, hreq]
  rfl

theorem State.slotRead_eq : s.slotRead h (b :: q) = s.reply h stDone (le 2 (s.slot d n).statusWord ++ leI 2 (s.slot d n).e ++ leI 2 (s.slot d n).w
    ++ leI 2 (s.slot d n).u ++ leI 4 (clampI (-(2 ^ 31)) (2 ^ 31 - 1) (s.slot d n).i) ++ leI 2 (satQ15 (roundQ30 (s.slot d n).o))) :=
  State.withSlot_ok htarget _

theorem State.tuneResult_eq : s.tuneResult h (b :: q) = s.reply h stDone (0 :: (s.slot d n).tuneFields) := State.withSlot_ok htarget _

theorem State.coefWrite_stores (hfree : s.coefRefused d n = none) {vals : List (Nat × Int)} (hvals : vals = coefVals q)
    (hrange : ∀ e ∈ vals, (descOf (0x3000 + 0x40 * e.1 + n.val)).inRange e.2 = true) : s.coefWrite h (b :: q)
      = (({ s with params := vals.foldl (fun l (e : Nat × Int) => store l (0x3000 + 0x40 * e.1 + n.val, uEngine d) e.2) s.params }).modSlot d n fun x =>
        { x with wHist := [0, 0, 0] }).reply h stDone [] := by
  have hnone : (vals.find? fun e => !(descOf (0x3000 + 0x40 * e.1 + n.val)).inRange e.2) = none := by
    simpa [List.find?_eq_none] using hrange
  rw [State.coefWrite, State.withSlot_ok htarget, ← foldState_store vals fun f => (0x3000 + 0x40 * f + n.val, uEngine d)]
  subst hvals
  simp only [hfree, List.drop_succ_cons, List.drop_zero]
  rw [← coefVals, hnone]

/-! ### A slot without a tune and without a transfer to come -/

section Idle
variable (htune : (s.slot d n).tune = none)
include htune

theorem State.loopClose_idle (hreq : s.slotRequest d n .closed = none) (hmode : (s.slot d n).mode ≠ .closed) (hran : (s.slot d n).running = false) :
    s.loopClose h (b :: q)
      = (s.modSlot d n fun x => { x with mode := .closed, preset := true, prevMode := x.mode }).reply h stDone [2] := by
  rw [State.loopClose, State.withSlot_ok htarget, hreq, State.abortTune_none _ _ htune]
  refine (if_neg fun hc => hmode hc.1).trans ((if_neg (by rw [hran]; decide)).trans ?_)
  refine congrArg (State.reply · h stDone [2]) (State.modSlot_congr ?_)
  rw [if_neg hmode]

variable (hclosing : (s.slot d n).closing = [])
include hclosing

theorem State.loopClose_waits (hreq : s.slotRequest d n .closed = none) (hmode : (s.slot d n).mode ≠ .closed) (hran : (s.slot d n).running = true) :
    s.loopClose h (b :: q)
      = s.modSlot d n fun x => { x with mode := .closed, preset := true, prevMode := x.mode, closing := [h] } := by
  rw [State.loopClose, State.withSlot_ok htarget, hreq, State.abortTune_none _ _ htune]
  refine (if_neg fun hc => hmode hc.1).trans ((if_pos hran).trans ?_)
  rw [State.modSlot_modSlot]
  refine State.modSlot_congr ?_
  rw [if_neg hmode, hclosing]
  rfl

theorem State.loopOpen_done (hreq : s.slotRequest d n .hold = none) :
    s.loopOpen h (b :: q) = (s.modSlot d n fun x => { x with mode := .hold }).reply h stDone [] := by
  rw [State.loopOpen, State.withSlot_ok htarget, hreq, State.abortTune_none _ _ htune, State.endClosing_none hclosing]
  rfl

theorem State.loopManual_done (hreq : s.slotRequest d n .manual = none) (hset : s.slotIsSet d n 18 = true) : s.loopManual h (b :: q)
    = (s.modSlot d n fun x => { x with mode := .manual, manual := signedOf 2 (unLe q), ramp := if x.mode = .manual then x.ramp else x.u }).reply h stDone [] := by
  rw [State.loopManual, State.withSlot_ok htarget, hreq, State.abortTune_none _ _ htune, State.endClosing_none hclosing, hset]
  rfl

theorem State.slotDisable_unwired (hreq : s.slotRequest d n .disabled = none) (hout : s.slotOut d n = none) :
    s.slotDisable h (b :: q) = (s.modSlot d n fun x => { x.cleared with mode := .disabled }).reply h stDone [] := by
  rw [State.slotDisable, State.withSlot_ok htarget, hreq, State.abortTune_none _ _ htune, State.endClosing_none hclosing]
  simp only [hout]
  rfl

end Idle

/-! ### TUNE_START and TUNE_STOP -/

theorem State.tuneStart_accepted (hcheck : n.val < 32 → (s.portal (slotPortal d n)).checkFailed = false) (hreq : s.slotRequest d n .tune = none)
    (hmode : (s.slot d n).mode = .hold) (hfits : s.tuneFits d n (tuneAsked q h s.ts)) : s.tuneStart h (b :: q)
      = (s.reply h stAccepted []).modSlot d n fun x => { x with mode := .tune, tune := some (tuneAsked q h s.ts) } := by
  obtain ⟨hset, hfits⟩ := hfits
  rw [State.tuneStart, State.withSlot_ok htarget]
  refine (if_neg fun hc => absurd (hcheck hc.1) (by simp [hc.2])).trans ?_
  rw [hreq]
  refine (if_neg (not_not.2 hmode)).trans ((if_neg ?_).trans ?_)
  · rw [hset]
    simp only [tuneAsked] at hfits
    simp only [Bool.not_true, Bool.false_eq_true, false_or, List.drop_succ_cons, List.drop_zero]
    omega
  · simp only [State.reply_ts]
    rfl

theorem State.tuneStop_tuning (htune : (s.slot d n).tune.isSome = true) :
    s.tuneStop h (b :: q) = ((s.tuneCheck d n).abortTune d n 1 stModeForbids).reply h stDone [] := by
  rw [State.tuneStop, State.withSlot_ok htarget, if_pos htune]

section Stopped
variable (htune : (s.slot d n).tune = none)
include htune

theorem State.tuneStop_ended (hend : (s.slot d n).endAt = some s.ts) : s.tuneStop h (b :: q) = s.reply h stDone [] := by
  rw [State.tuneStop, State.withSlot_ok htarget, htune, if_neg (by decide), if_pos hend]

theorem State.tuneStop_idle (hend : (s.slot d n).endAt ≠ some s.ts) : s.tuneStop h (b :: q) = s.refuse h stModeForbids := by
  rw [State.tuneStop, State.withSlot_ok htarget, htune, if_neg (by decide), if_neg hend]

end Stopped

end Opcodes

/-- The next state of a command that the checks let pass is what its opcode makes of the accepted command. -/
theorem State.next_takes {s t : State} {dt op : Nat} {c : CmdHeader} {ps : List Byte} {f : State → Handle → List Byte → State} (ht : s.Takes op c ps)
    (h : f (s.accepted dt c) (s.handle op c) ps = t) : (.next ((s.advance dt).packet op c ps f) : Host.Outcome State Fault Refusal) = .next t :=
  congrArg Host.Outcome.next ((State.exec_takes dt f ht).trans h)

/-- A tune that is aborted leaves a slot that holds, without results, and event 0x0034 (R157). -/
theorem State.slot_abortTune {s : State} {d : PdId} {n : SlotId} {t : Tune} (outcome status : Nat) (ht : (s.slot d n).tune = some t) {x : Slot}
    (hx : x = (s.abortTune d n outcome status).slot d n) : x.mode = .hold ∧ x.tune = none ∧ x.u = (if (s.slot d n).running then t.bias else 0)
      ∧ x.tuTu = 0 ∧ x.tuAmp = 0 ∧ x.tuKu = 0 ∧ x.tuShift = 0 ∧ x.tuB0 = 0 ∧ x.tuKi = 0 ∧ x.tuKb = 0 ∧ x.tuFlags = 0 := by
  rw [hx, State.abortTune_some outcome status ht, State.slot_modSlot_same, State.slot_endTune outcome status ht]
  cases (s.slot d n).running <;> exact ⟨rfl, rfl, rfl, rfl, rfl, rfl, rfl, rfl, rfl, rfl, rfl⟩

theorem State.raised_abortTune {s : State} {d : PdId} {n : SlotId} {t : Tune} (outcome status : Nat) (ht : (s.slot d n).tune = some t) :
    ∃ v, ((s.abortTune d n outcome status).die (engineDie d)).raised
      = (s.die (engineDie d)).raised ++ [⟨(s.die (engineDie d)).ts, 52, false, 0x0034, s.slotUnit d n, v⟩] := by
  rw [State.abortTune_some outcome status ht]
  exact State.raised_endTune outcome status ht []

/-- Settles O39: each loop opcode on the slot that it names, and a tune by how it begins and by what ends it. -/
theorem loopsAndTunes : Obligations.LoopsAndTunes := by
  unfold Obligations.LoopsAndTunes
  refine ⟨fun dt c b d n s htarget htune hclosing => ?_, ?_, fun dt c b d n s htarget hcmd => ?_, fun d n s t outcome status ht => ?_, fun dt d n s t ht => ?_⟩
  · refine ⟨fun herr hcmd => State.next_takes hcmd (State.loopOpen_refused htarget (State.slotRequest_mismatch herr _)),
      fun hcmd hreq => State.next_takes hcmd (State.loopOpen_done htarget htune hclosing hreq), fun hcmd hreq hmode => ⟨fun hran => ?_, fun hran => ?_⟩,
      fun v hcmd hreq hset => State.next_takes hcmd (State.loopManual_done htarget htune hclosing hreq hset),
      fun hcmd hreq hout => State.next_takes hcmd (State.slotDisable_unwired htarget htune hclosing hreq hout),
      fun hcmd => State.next_takes hcmd (State.slotRead_eq htarget), fun hcmd => State.next_takes hcmd (State.tuneResult_eq htarget),
      fun ps hcmd hfree vals hvals hrange => ?_⟩
    · exact State.next_takes hcmd (State.loopClose_idle htarget htune hreq hmode hran)
    · exact State.next_takes hcmd (State.loopClose_waits htarget htune hclosing hreq hmode hran)
    · have htaken : (s.accepted dt c).slotTarget (s.handle 0x63 c).unit.toNat b.toNat = .ok (d, n) := htarget
      exact State.next_takes hcmd (State.coefWrite_stores htaken hfree hvals hrange)
  · rintro dt c b q d n s _ _ _ _ _ _ hcheck htarget hcmd hreq hmode rfl rfl rfl rfl rfl rfl hset h1 h2 h3 h4 h5 h6 h7 h8 h9 h10 h11
    exact State.next_takes hcmd (State.tuneStart_accepted htarget hcheck hreq hmode ⟨hset, h1, h2, h3, h4, h5, h6, h7, h8, h9, h10, h11⟩)
  · exact ⟨fun htune => State.next_takes hcmd (State.tuneStop_tuning htarget htune),
      fun htune hend => State.next_takes hcmd (State.tuneStop_ended htarget htune hend),
      fun htune hend => State.next_takes hcmd (State.tuneStop_idle htarget htune hend)⟩
  · obtain ⟨hmode, htune, hu, hresults⟩ := State.slot_abortTune outcome status ht rfl
    obtain ⟨hTu, hAmp, hKu, hShift, hB0, hKi, hKb, hFlags⟩ := hresults
    exact ⟨_, _, rfl, rfl, hmode, htune, hu, hTu, hAmp, hKu, hShift, hB0, hKi, hKb, hFlags, State.raised_abortTune outcome status ht⟩
  · refine ⟨fun he => congrArg Host.Outcome.next (State.tuneCheck_limit (s := s.advance dt) ht he),
      fun he => ⟨fun hcount hbig => ?_, fun hcount hswitch htime => ?_⟩⟩
    · exact ⟨_, congrArg Host.Outcome.next (State.tuneCheck_completed (s := s.advance dt) ht he hcount hbig rfl), rfl⟩
    · exact congrArg Host.Outcome.next (State.tuneCheck_timeout (s := s.advance dt) ht he hcount hswitch htime)

end Sys2Proof.Machine
end

section
/-! Obstacle declarations, the energy fence, the checks of the fence unit and the friction map (R174, R177–R183, R185, R186). -/

namespace Sys2Proof.Machine

/-! ## The detector of a leaf -/

@[simp] theorem State.det_modDet_same (s : State) (p : PortalId) (l : LeafId) (f : Detector → Detector) :
    ((s.modDet p l f).leaf p l).det = f (s.leaf p l).det := by
  rw [State.modDet, State.leaf_modLeaf, if_pos ⟨rfl, rfl⟩]

theorem State.modDet_congr {s : State} {p : PortalId} {l : LeafId} {f g : Detector → Detector} (h : f (s.leaf p l).det = g (s.leaf p l).det) :
    s.modDet p l f = s.modDet p l g :=
  State.modLeaf_congr (congrArg (fun d => { s.leaf p l with det := d }) h)

theorem State.modDet_self {s : State} {p : PortalId} {l : LeafId} {f : Detector → Detector} (h : f (s.leaf p l).det = (s.leaf p l).det) :
    s.modDet p l f = s := by
  rw [State.modDet, State.modLeaf]
  refine State.modPortal_self ?_
  have hleaf : { s.leaf p l with det := f (s.leaf p l).det } = s.leaf p l := by rw [h]
  have hleaves : (s.portal p).leaves.set l { s.leaf p l with det := f (s.leaf p l).det } = (s.portal p).leaves := by
    rw [hleaf]
    exact Vector.set_getElem_self _
  exact congrArg (fun x => { s.portal p with leaves := x }) hleaves

theorem getLsbD_setBit {n : Nat} (x : BitVec n) (k : Nat) (v : Bool) {b : Nat} (hb : b < n) :
    (setBit x k v).getLsbD b = if b = k then v else x.getLsbD b := by
  cases v with
  | true =>
    rw [getLsbD_setBit_true x k hb]
    by_cases h : b = k <;> simp [h]
  | false =>
    have hone : (1#n <<< k).getLsbD b = decide (b = k) := by
      rw [← BitVec.twoPow_eq, BitVec.getLsbD_twoPow]
      by_cases h : b = k
      · simp [← h, hb]
      · simp [h, Ne.symm h]
    rw [setBit, if_neg (by decide), BitVec.getLsbD_and, BitVec.getLsbD_not, hone, decide_eq_true hb, Bool.true_and]
    by_cases h : b = k <;> simp [h]

/-- A bit of OBST_STATUS reads as it was written last (R193). -/
theorem Detector.getLsbD_setStat_same (x : Detector) {k : Nat} (hk : k < 16) (v : Bool) : (x.setStat k v).status.getLsbD k = v :=
  (getLsbD_setBit x.status k v hk).trans (if_pos rfl)

theorem Detector.getLsbD_setStat_ne (x : Detector) {b k : Nat} (hb : b < 16) (h : b ≠ k) (v : Bool) :
    (x.setStat k v).status.getLsbD b = x.status.getLsbD b := (getLsbD_setBit x.status k v hb).trans (if_neg h)

/-! ## Declarations (R177, R178) -/

/-- What a declaration makes of a detector, with the threshold that the clamp takes. -/
def Detector.declares (d : Detector) (thr : Rat) : Detector :=
  (({ d with confirm := 0, declared := true, declClamp := some thr } : Detector).setStat 3 true).setStat 4 true

theorem Detector.status_declares (d : Detector) (thr : Rat) :
    (d.declares thr).status.getLsbD 3 = true ∧ (d.declares thr).status.getLsbD 4 = true := by
  unfold Detector.declares
  constructor
  · rw [Detector.getLsbD_setStat_ne _ (by decide) (by decide), Detector.getLsbD_setStat_same _ (by decide)]
  · rw [Detector.getLsbD_setStat_same _ (by decide)]

section Declared
variable {s : State} {p : PortalId} {l : LeafId} (dt : Nat) (hfull : 20 * (s.latched p l 0x4016).toNat ≤ (s.leaf p l).det.confirm)
  (hcount : (s.leaf p l).det.confirm ≠ 0) (hpresent : s.leafPresent p l = true)
include hfull hcount hpresent

theorem exec_obstacleDeclared_standby (hmode : s.mode = .standby) :
    exec (.obstacleDeclared dt p l) s = .next ((s.advance dt).modDet p l fun d => { d with confirm := 0 }) :=
  (if_pos ⟨hfull, hcount, hpresent⟩).trans (if_pos hmode)

theorem exec_obstacleDeclared (hmode : s.mode ≠ .standby) {thr : Rat}
    (hthr : thr = s.thrNow p l (s.leaf p l).det.dir ((s.leaf p l).det.status.getLsbD 1)) :
    exec (.obstacleDeclared dt p l) s = .next (((s.advance dt).modDet p l fun _ => (s.leaf p l).det.declares thr).notClean p) := by
  subst hthr
  exact (if_pos ⟨hfull, hcount, hpresent⟩).trans (if_neg hmode)

end Declared

/-! ## The energy fence (R181–R183, R185) -/

/-- What ENERGY_FENCE_BRAKE makes of the detector, before the lines or the valves follow. -/
def State.energyBraked (s : State) (p : PortalId) (l : LeafId) : State :=
  (s.setSeen p l 9).modDet p l fun d => { d.setStat 7 true with efSince := some s.ts, efPeak := (truncR (s.eKin p l)).toNat }

theorem State.det_setSeen_same (s : State) (p : PortalId) (l : LeafId) (b : Nat) :
    ((s.setSeen p l b).leaf p l).det = { (s.leaf p l).det.setStat b true with clean := false } := by
  rw [State.setSeen, State.leaf_of_portals (State.markSet_portals ..), State.det_modDet_same]

theorem State.energyBraked_det (s : State) (p : PortalId) (l : LeafId) {d : Detector} (hd : ((s.energyBraked p l).leaf p l).det = d) :
    d.efSince = some s.ts ∧ d.status.getLsbD 7 = true ∧ d.status.getLsbD 9 = true := by
  rw [State.energyBraked, State.det_modDet_same, State.det_setSeen_same] at hd
  subst hd
  dsimp only
  refine ⟨rfl, Detector.getLsbD_setStat_same _ (by decide) true, ?_⟩
  rw [Detector.getLsbD_setStat_ne _ (by decide) (by decide)]
  exact Detector.getLsbD_setStat_same _ (by decide) true

/-- An energy above its limit brakes a leaf whose valves or lines can be overridden: on a pneumatic portal it shuts
the leaf's valves, elsewhere it takes the phase lines. -/
theorem exec_energyFenceBrake (dt : Nat) {p : PortalId} {l : LeafId} {s : State} (hpresent : s.leafPresent p l = true) (hgates : (s.advance dt).gates = true)
    (henergy : (s.eEff p l : Rat) < s.eKin p l) (hfree : (s.leaf p l).det.efSince = none)
    (hable : s.pneumatic p = true ∨ (s.leaf p l).drive ≠ .off ∧ (s.leaf p l).drive ≠ .tripped) : exec (.energyFenceBrake dt p l) s
      = .next (if s.pneumatic p then (((s.advance dt).energyBraked p l).modPortal p fun y => { y with valveOff := y.valveOff.set l true }).chansSync p
        else (((s.advance dt).energyBraked p l).modLeaf p l fun y => { y with efOverride := true }).syncSlots p l) := by
  have hacts : (s.leafPresent p l && (s.advance dt).gates
      && (s.pneumatic p || !((s.leaf p l).drive = .tripped || (s.leaf p l).drive = .off))) = true := by
    rw [hpresent, hgates]
    obtain hp | ⟨hoff, htrip⟩ := hable
    · simp [hp]
    · simp [hoff, htrip]
  exact if_pos ⟨hacts, henergy, Option.isNone_iff_eq_none.2 hfree⟩

@[simp] theorem State.leaf_chanSync (s : State) (p q : PortalId) (c : ChanId) (m : LeafId) : (s.chanSync p c).leaf q m = s.leaf q m :=
  State.leaf_modPortal s p q m rfl

@[simp] theorem State.leaf_chansSync (s : State) (p q : PortalId) (m : LeafId) : (s.chansSync p).leaf q m = s.leaf q m :=
  foldState_field (g := fun t => t.leaf q m) fun _ _ => State.leaf_chanSync ..

theorem State.valveOff_chansSync (s : State) (p q : PortalId) : ((s.chansSync p).portal q).valveOff = (s.portal q).valveOff :=
  State.field_of_bare Portal.valveOff (fun _ => rfl) (s.chansSync_bare p) q

theorem State.efSince_endEfBrake (s : State) (p : PortalId) (l : LeafId) : ((s.endEfBrake p l).leaf p l).det.efSince = none := by
  unfold State.endEfBrake
  dsimp only
  split
  · rw [State.leaf_raisePortal, State.det_modDet_same]
  next h => exact Option.not_isSome_iff_eq_none.1 h

/-- What ENERGY_BRAKE_RELEASE gives back, the valves of the leaf and its phase lines, before its slots follow. -/
def State.energyReleased (s : State) (p : PortalId) (l : LeafId) : State :=
  (((s.endEfBrake p l).modPortal p fun y => { y with valveOff := y.valveOff.set l false }).chansSync p).modLeaf p l fun y => { y with efOverride := false }

theorem State.energyReleased_leaf {s t : State} {p : PortalId} {l : LeafId} (ht : t = s.energyReleased p l) :
    (t.leaf p l).efOverride = false ∧ (t.portal p).valveOff[l] = false ∧ (t.leaf p l).det.efSince = none := by
  have hleaf : t.leaf p l = { (s.endEfBrake p l).leaf p l with efOverride := false } := by
    rw [ht, State.energyReleased, State.leaf_modLeaf, if_pos ⟨rfl, rfl⟩, State.leaf_chansSync, State.leaf_modPortal _ _ _ _ rfl]
  refine ⟨by rw [hleaf], ?_, by rw [hleaf]; exact s.efSince_endEfBrake p l⟩
  have hvalves : (t.portal p).valveOff = ((s.endEfBrake p l).portal p).valveOff.set l false := by
    rw [ht, State.energyReleased, State.modLeaf, State.portal_modPortal, if_pos rfl, State.valveOff_chansSync, State.portal_modPortal, if_pos rfl]
  rw [hvalves]
  exact Vector.getElem_set_self _

theorem exec_energyBrakeRelease (dt : Nat) {p : PortalId} {l : LeafId} {s : State} {b : Ts} (hsince : (s.leaf p l).det.efSince = some b)
    (helapsed : (s.advance dt).elapsed b 200000 = true) (henergy : 100 * s.eKin p l ≤ 81 * (s.eEff p l : Rat)) :
    exec (.energyBrakeRelease dt p l) s = .next (((s.advance dt).energyReleased p l).syncSlots p l) := by
  refine if_pos ⟨?_, henergy⟩
  rw [State.advance_leaf, hsince, State.ran_some]
  exact helapsed

/-! ## The shadow pass of a fence unit (R186) -/

/-- What a passing shadow pass makes of a detector. -/
def Detector.passed (d : Detector) : Detector :=
  if d.status.getLsbD 13 then if 3 ≤ d.passes + 1 then { d.setStat 13 false with passes := 0 } else { d with passes := d.passes + 1 } else d

theorem exec_fenceSelfTest_pass (dt : Nat) (p : PortalId) (l : LeafId) (s : State) :
    exec (.fenceSelfTest dt p l true) s = .next ((s.advance dt).modDet p l Detector.passed) := rfl

theorem exec_fenceSelfTest_fail (dt : Nat) (p : PortalId) (l : LeafId) (s : State) :
    exec (.fenceSelfTest dt p l false) s = .next ((s.advance dt).fenceUnitFault p l true 2) := rfl

theorem Detector.passed_unmarked {d : Detector} (h : d.status.getLsbD 13 = false) : d.passed = d := by
  rw [Detector.passed, h, if_neg (by decide)]

theorem Detector.mark_passed {d : Detector} (h : d.status.getLsbD 13 = true) : d.passed.status.getLsbD 13 = decide (d.passes < 2) := by
  rw [Detector.passed, if_pos h]
  split
  next hthird =>
    have hcount : decide (d.passes < 2) = false := decide_eq_false (by omega)
    rw [hcount]
    exact d.getLsbD_setStat_same (by decide) false
  next hmore =>
    have hcount : decide (d.passes < 2) = true := decide_eq_true (by omega)
    rw [hcount]
    exact h

/-! ## The save of a map (R174) -/

/-- What a save makes of a detector: the older copy takes the map as it is now. -/
def Detector.saves (d : Detector) (c : MapCopy) : Detector :=
  { d with copies := d.copies.set (d.nextCopy % 2) (some c) (by omega), nextCopy := 1 - d.nextCopy, savedAt := d.updates }

theorem exec_mapSave (dt : Nat) {p : PortalId} {l : LeafId} {s : State} (hdue : (s.leaf p l).det.savedAt + 256 ≤ (s.leaf p l).det.updates)
    (hpower : s.power.pfail = false) :
    exec (.mapSave dt p l) s = .next ((s.advance dt).modDet p l fun d => (s.advance dt).saveBits p l (d.saves (s.mapCopy p l))) :=
  if_pos ⟨hdue, by rw [State.advance_power, hpower]; rfl⟩

/-- The bits that a save clears are no part of what it has stored. -/
theorem State.saveBits_stored (s : State) (p : PortalId) (l : LeafId) {d x : Detector} (hx : x = s.saveBits p l d) :
    x.copies = d.copies ∧ x.savedAt = d.savedAt := by
  rw [hx, State.saveBits]
  split <;> exact ⟨rfl, rfl⟩

theorem Detector.copies_saves (d : Detector) (c : MapCopy) : (d.saves c).copies[d.nextCopy % 2]? = some (some c)
    ∧ (d.saves c).copies[1 - d.nextCopy % 2]? = d.copies[1 - d.nextCopy % 2]? := by
  constructor
  · exact Vector.getElem?_set_self (by omega)
  · exact Vector.getElem?_set_ne (by omega) (by omega)

/-! ## What the fences bound (R179, R181) -/

theorem State.ffClamp_fst (s : State) (p : PortalId) (l : LeafId) (i : Int) : (s.ffClamp p l i).1 = clampI (-s.ffLimit p l) (s.ffLimit p l) i := by
  unfold State.ffClamp
  dsimp only
  split
  next h => exact h.symm
  · rfl

theorem State.efClamp_fst (s : State) (p : PortalId) (l : LeafId) (v : Rat) : (s.efClamp p l v).1 = clampR (-(s.vE p l : Rat)) (s.vE p l) v := by
  unfold State.efClamp
  dsimp only
  split
  next h => exact h.symm
  · rfl

/-- Settles O47: each command by what it makes of the leaf's detector, the two fences by the clamps that they are. -/
theorem obstacleReactions : Obligations.ObstacleReactions := by
  unfold Obligations.ObstacleReactions
  refine ⟨fun dt p l s => ⟨fun hfull hcount hpresent => ⟨fun hmode => ?_, fun hmode => ?_⟩,
    fun hpresent hgates henergy hfree => ⟨fun hp hoff htrip => ?_, fun hp => ?_⟩, fun b hsince helapsed henergy => ?_, fun hmark => ?_, fun hmark => ?_,
    exec_fenceSelfTest_fail dt p l s, fun hdue hpower => ?_⟩, fun s p l i hlimit => ?_, fun s p l v => ?_⟩
  · exact exec_obstacleDeclared_standby dt hfull hcount hpresent hmode
  · obtain ⟨hreaction, hclamp⟩ := (s.leaf p l).det.status_declares (s.thrNow p l (s.leaf p l).det.dir ((s.leaf p l).det.status.getLsbD 1))
    exact ⟨_, _, exec_obstacleDeclared dt hfull hcount hpresent hmode rfl, rfl, rfl, rfl, hreaction, hclamp, rfl⟩
  · refine ⟨_, (exec_energyFenceBrake dt hpresent hgates henergy hfree (.inr ⟨hoff, htrip⟩)).trans (congrArg Host.Outcome.next (if_neg (by simp [hp]))), ?_⟩
    rw [State.leaf_modLeaf, if_pos ⟨rfl, rfl⟩]
    exact ⟨rfl, State.energyBraked_det (s.advance dt) p l rfl⟩
  · refine ⟨_, (exec_energyFenceBrake dt hpresent hgates henergy hfree (.inl hp)).trans (congrArg Host.Outcome.next (if_pos hp)), ?_, ?_⟩
    · rw [State.portal_modPortal, if_pos rfl]
      exact Vector.getElem_set_self _
    · rw [State.leaf_modPortal _ _ _ _ rfl]
      exact (State.energyBraked_det (s.advance dt) p l rfl).1
  · exact ⟨_, exec_energyBrakeRelease dt hsince helapsed henergy, State.energyReleased_leaf rfl⟩
  · exact (exec_fenceSelfTest_pass dt p l s).trans (congrArg Host.Outcome.next (State.modDet_self (Detector.passed_unmarked hmark)))
  · exact ⟨_, (s.leaf p l).det.passed, (exec_fenceSelfTest_pass dt p l s).trans (congrArg Host.Outcome.next (State.modDet_congr rfl)), rfl, Detector.mark_passed hmark⟩
  · obtain ⟨hcopies, hsaved⟩ := State.saveBits_stored (s.advance dt) p l (d := (s.leaf p l).det.saves (s.mapCopy p l)) rfl
    obtain ⟨hwritten, hkept⟩ := (s.leaf p l).det.copies_saves (s.mapCopy p l)
    exact ⟨_, _, (exec_mapSave dt hdue hpower).trans (congrArg Host.Outcome.next (State.modDet_congr rfl)), rfl, by rw [hcopies, hwritten],
      by rw [hcopies, hkept], hsaved⟩
  · rw [State.ffClamp_fst]
    obtain ⟨hlo, hhi⟩ := clampI_mem (by omega : -s.ffLimit p l ≤ s.ffLimit p l) i
    exact ⟨hlo, hhi, clampI_of_mem⟩
  · rw [State.efClamp_fst]
    have hspeed : (0 : Rat) ≤ (s.vE p l : Rat) := Nat.cast_nonneg _
    obtain ⟨hlo, hhi⟩ := clampR_mem (by linarith : -(s.vE p l : Rat) ≤ (s.vE p l : Rat)) v
    exact ⟨hlo, hhi, clampR_of_mem⟩

end Sys2Proof.Machine
end

section
/-! The step drive: its faults, its motion, the home input, the certainty of its position, its coils and the trim of quiet mode (R194–R219). -/

namespace Sys2Proof.Machine

/-! ## The step of a portal -/

@[simp] theorem State.advance_stepOf (s : State) (dt : Nat) (p : PortalId) : (s.advance dt).stepOf p = s.stepOf p := rfl

@[simp] theorem State.stepOf_modStep_same (s : State) (p : PortalId) (f : Step → Step) : (s.modStep p f).stepOf p = f (s.stepOf p) := by
  rw [State.stepOf_modStep, if_pos rfl]

theorem State.stepOf_modPortal (s : State) (p q : PortalId) {f : Portal → Portal} (h : (f (s.portal p)).step = (s.portal p).step) :
    (s.modPortal p f).stepOf q = s.stepOf q := by
  rw [State.stepOf, State.portal_modPortal]
  split
  next hpq => rw [h, hpq, State.stepOf]
  · rfl

@[simp] theorem State.stepOf_raisePortal (s : State) (p q : PortalId) (code unit param : Nat) : (s.raisePortal p code unit param).stepOf q = s.stepOf q := by
  rw [State.stepOf, State.portal, State.raisePortal_portals, State.stepOf, State.portal]

theorem State.modStep_congr {s : State} {p : PortalId} {f g : Step → Step} (h : f (s.stepOf p) = g (s.stepOf p)) : s.modStep p f = s.modStep p g :=
  State.modPortal_congr (congrArg (fun x => { s.portal p with step := x }) h)

theorem State.modStep_modStep (s : State) (p : PortalId) (f g : Step → Step) : (s.modStep p f).modStep p g = s.modStep p fun x => g (f x) :=
  State.modPortal_modPortal ..

theorem State.modStep_self {s : State} {p : PortalId} {f : Step → Step} (h : f (s.stepOf p) = s.stepOf p) : s.modStep p f = s :=
  State.modPortal_self (congrArg (fun x => { s.portal p with step := x }) h)

@[simp] theorem State.advance_stepClock (s : State) (dt : Nat) (p : PortalId) : (s.advance dt).stepClock p = s.stepClock p := by
  rw [State.stepClock, State.advance_pdMode]
  rfl

/-- A working parameter hangs on the values in force and on those latched at the last start (R223). -/
theorem State.stepPar_congr {s t : State} {p : PortalId} (hview : t.view = s.view) (hlatched : (t.stepOf p).latched = (s.stepOf p).latched) (pid : Nat) :
    t.stepPar p pid = s.stepPar p pid := by
  rw [State.stepPar, hlatched, State.par, hview]
  rfl

/-! ## Faults of the step (R114, R199, R214, R216) -/

theorem clockPasses_some (n khz : Nat) : clockPasses (some n) khz = true ↔ 98 * khz ≤ 1000 * n ∧ 1000 * n ≤ 102 * khz := by
  simp only [clockPasses, Bool.and_eq_true, decide_eq_true_eq]
  omega

section Faults
variable (dt : Nat) {p : PortalId} {s : State}

theorem exec_stepBridgeFault_fast {c : Bool} {y1 y2 : Nat} (hclock : s.stepClock p = true) (h1 : (s.par 0x5005 (uStep p) : Rat) < |s.coilFast p y1|)
    (h2 : (s.par 0x5005 (uStep p) : Rat) < |s.coilFast p y2|) :
    exec (.stepBridgeFault dt p (.fast c) y1 y2) s = .next ((s.advance dt).stepFault p 1 true 0x03) :=
  congrArg Host.Outcome.next (if_pos ⟨h1, h2, (s.advance_stepClock dt p).trans hclock⟩)

theorem exec_stepBridgeFault_released (y1 y2 : Nat) :
    exec (.stepBridgeFault dt p (.line false) y1 y2) s = .next ((s.advance dt).modStep p fun x => { x with fltIn := false }) := rfl

theorem exec_stepBridgeFault_low {y1 y2 : Nat} (hfitted : s.stepFitted p = true) (hen : (s.advance dt).stepEn p = true)
    (hsince : (s.advance dt).elapsed (s.stepOf p).enSince 2000 = true) (hclaim : (s.advance dt).elapsed s.claim.since 7000 = true) :
    exec (.stepBridgeFault dt p (.line true) y1 y2) s = .next (((s.advance dt).modStep p fun x => { x with fltIn := true }).stepFault p 0 true 0x03) := by
  refine congrArg Host.Outcome.next (if_pos ⟨rfl, ?_, ?_, hclaim, hfitted⟩)
  · rw [← hen, State.stepEn, State.stepOf_modStep_same]
    rfl
  · rw [State.stepOf_modStep_same]
    exact hsince

theorem exec_sdStuck_step (hclock : s.stepClock p = true) : exec (.sdStuck dt p 2) s = .next ((s.advance dt).stepFault p 3 false 0x03) :=
  if_pos ((s.advance_stepClock dt p).trans hclock)

theorem exec_sdStuck_leaf {l : LeafId} (h : l.val < 3) (hruns : s.sdRuns p = true) (hdriven : s.driven p l = true) :
    exec (.sdStuck dt p ⟨l.val, h⟩) s = .next ((s.advance dt).leafFault p l 5 false 0x03) := by
  have hl : (⟨l.val % 2, by omega⟩ : LeafId) = l := Fin.ext (Nat.mod_eq_of_lt l.isLt)
  have hleaf : (⟨l.val, h⟩ : Fin 3) ≠ 2 := fun h2 => absurd (congrArg Fin.val h2) (Nat.ne_of_lt l.isLt)
  show execSdStuck dt p _ s = _
  simp only [execSdStuck, if_neg hleaf, hl]
  exact if_pos ⟨(s.advance_sdRuns dt p).trans hruns, hdriven⟩

theorem exec_sdClock_step {c : Option Nat} {ok : Bool} {t : State} (hok : ok = clockPasses c (s.parN 0x5002 (uStep p)))
    (ht : t = (s.advance dt).modStep p fun x => { x with clockOk := ok }) (hclock : s.stepClock p = true) :
    exec (.sdClock dt p ⟨true, c⟩) s = .next (if ok = true ∨ (s.stepOf p).fault.getLsbD 2 = true then t else t.stepFault p 2 false 0x03) := by
  subst ht hok
  refine congrArg Host.Outcome.next ((if_pos ((s.advance_stepClock dt p).trans hclock)).trans ?_)
  rw [State.stepOf_modStep_same]
  rfl

theorem exec_sdClock_leaves {c : Option Nat} {ok : Bool} {t : State} (hok : ok = clockPasses c (s.parN 0x2020 (uPortal p)))
    (ht : t = (s.advance dt).modPortal p fun x => { x with sdClockOk := ok }) (hruns : s.sdRuns p = true) :
    exec (.sdClock dt p ⟨false, c⟩) s = .next (if ok then t else t.leavesFault p 4 false) := by
  subst ht hok
  exact congrArg Host.Outcome.next (if_pos ((s.advance_sdRuns dt p).trans hruns))

theorem exec_posDeviation {b : Ts} (hb : (s.stepOf p).devSince = some b) (ht : (s.advance dt).elapsed b 2000000 = true) (hdrive : (s.stepOf p).drive = .moving) :
    exec (.posDeviation dt p) s = .next ((s.advance dt).stepFault p 4 false 0x10) := by
  refine if_pos ⟨?_, hdrive⟩
  rw [State.advance_stepOf, hb, State.ran_some]
  exact ht

/-- The travel of a homing phase, in 0.01 mm (R216). -/
def State.homeTravel (s : State) (p : PortalId) : Rat :=
  |((((s.stepOf p).phi - (s.stepOf p).phaseStart).toInt : Rat) * (s.parN 0x5000 (uStep p) : Rat) / 2560000)|

/-- A homing run fails by the first of its three limits that it has passed (R216). -/
theorem exec_homingFailure {t : State} (ht : t = (s.advance dt).stepCatchUp p) (hdrive : (t.stepOf p).drive = .homing) : exec (.homingFailure dt p) s
    = if (t.stepOf p).phase = 2 ∧ t.stepPar p 0x5034 < t.homeTravel p then .next (t.stepFault p 5 false 0x10)
      else if t.timedOut p 7 (t.stepOf p).homeStart = true then .next (t.stepFault p 6 false 0x10)
      else if (t.stepOf p).phase = 1 ∧ (t.stepOf p).homeInput = true ∧ t.stepPar p 0x5035 ≤ t.homeTravel p then .next (t.stepFault p 7 false 0x10)
      else .next t := by
  subst ht
  exact if_neg (not_not.2 hdrive)

end Faults

/-! ## The recompute of the step (R201–R209, R215) -/

/-- The choppers of a recompute change the two coils alone. -/
theorem State.chopCoils_eq (s : State) (p : PortalId) (fast : List FastSample) :
    ∃ a b, s.chopCoils p fast = s.modStep p fun x => { x with coilA := a, coilB := b } := by
  unfold State.chopCoils
  dsimp only
  split
  · exact ⟨_, _, State.modStep_congr rfl⟩
  · exact ⟨(s.stepOf p).coilA, (s.stepOf p).coilB, (State.modStep_self rfl).symm⟩

/-- A recompute that finds no deviation of F2. -/
theorem exec_stepRecompute (dt : Nat) {p : PortalId} (fast : List FastSample) {s t r : State} (ht : t = (s.advance dt).stepCatchUp p)
    (hr : r = (t.modStep p fun y => { y with devSince := none }).chopCoils p fast) (hdev : (t.stepOf p).drive ≠ .moving ∨ t.f2InUse p = false) :
    exec (.stepRecompute dt ⟨p, fast⟩) s = .next ((r.stepProfile p).coilMode p s.ts) := by
  have hnone : (t.f2InUse p && decide ((t.stepOf p).drive = .moving) && decide (t.stepPar p 0x5036 < |t.f2Dev p|)) = false := by
    obtain h | h := hdev <;> simp [h]
  subst ht hr
  show execStepRecompute dt _ s = _
  simp only [execStepRecompute, hnone, Bool.false_eq_true, if_false]

section Profile
variable {s : State} {p : PortalId}

theorem State.stepProfile_idle (hm : (s.stepOf p).drive ≠ .moving) (hh : (s.stepOf p).drive ≠ .homing) : s.stepProfile p = s := by
  unfold State.stepProfile
  dsimp only
  split
  · contradiction
  · contradiction
  · rfl

/-- The phase of a homing run after a recompute: off the home input, and towards it once it has been inactive for 10 ms (R215). -/
def State.homePhase (s : State) (p : PortalId) : Nat :=
  if (s.stepOf p).phase = 1 ∧ !(s.stepOf p).homeInput ∧ s.ran (s.stepOf p).homeClear (ms 10) then 2 else (s.stepOf p).phase

theorem State.homePhase_eq (s : State) (p : PortalId) : s.homePhase p
    = if (s.stepOf p).phase = 1 ∧ (s.stepOf p).homeInput = false ∧ s.ran (s.stepOf p).homeClear 1000000 = true then 2 else (s.stepOf p).phase := by
  simp only [State.homePhase, Bool.not_eq_true', ms_eq, Nat.reduceMul]

theorem State.stepProfile_homing (hh : (s.stepOf p).drive = .homing) {ph : Nat} {v : Rat} (hph : ph = s.homePhase p)
    (hv : v = if ph = 1 then s.stepPar p 0x5032 else -s.stepPar p 0x5032) : s.stepProfile p = s.modStep p fun y =>
      { y with phase := ph, phaseStart := if ph = y.phase then y.phaseStart else y.phi, r := 256, pendingR := none, v := v
               strongWant := s.strongFor p (s.stepPar p 0x5032) y.strongWant, w := velWord (s.stepPar p 0x5032) 256
               acc := if y.v * v < 0 ∨ y.v = 0 then 0 else y.acc } := by
  subst hv hph
  simp only [State.stepProfile, hh]
  rfl

/-- A moving step takes the speed of its profile; where the move starts anew, the accumulator and the resolution too (R201, R203, R220). -/
theorem State.stepProfile_moving (hm : (s.stepOf p).drive = .moving) (hv0 : (s.stepOf p).v ≠ 0) {v : Rat} {fresh : Bool}
    (hspeed : s.stepSpeed p (if (s.stepOf p).job = 3 then s.stepJogCap p else (s.par 0x5013 (uStep p) : Rat)) = (v, fresh)) :
    ∃ r acc pending, s.stepProfile p = s.modStep p fun y =>
      { y with acc := acc, r := r, v := stepQuant v, w := velWord |stepQuant v| r, strongWant := s.strongFor p |stepQuant v| y.strongWant, pendingR := pending } := by
  simp only [State.stepProfile, hm, hv0, false_and, if_false, hspeed]
  cases fresh
  · exact ⟨_, _, _, State.modStep_congr rfl⟩
  · exact ⟨_, _, _, State.modStep_congr rfl⟩

end Profile

/-- What a recompute without a deviation of F2 makes of the step before its profile: the time of the deviation ends, and the coils chop. -/
def Step.prepared (y : Step) (a b : Coil) : Step := { y with devSince := none, coilA := a, coilB := b }

theorem State.prepared_eq (t : State) (p : PortalId) (fast : List FastSample) :
    ∃ a b, (t.modStep p fun y => { y with devSince := none }).chopCoils p fast = t.modStep p fun y => y.prepared a b := by
  obtain ⟨a, b, h⟩ := (t.modStep p fun y => { y with devSince := none }).chopCoils_eq p fast
  exact ⟨a, b, h.trans (State.modStep_modStep ..)⟩

section Prepared
variable {t r : State} {p : PortalId} {a b : Coil} (hr : r = t.modStep p fun y => y.prepared a b)
include hr

theorem State.stepOf_prepared : r.stepOf p = (t.stepOf p).prepared a b := by
  rw [hr, State.stepOf_modStep_same]

theorem State.stepPar_prepared (pid : Nat) : r.stepPar p pid = t.stepPar p pid :=
  State.stepPar_congr (by rw [hr]; rfl) (by rw [State.stepOf_prepared hr]; rfl) pid

theorem State.par_prepared (pid unit : Nat) : r.par pid unit = t.par pid unit := by
  rw [hr]
  rfl

theorem State.strongFor_prepared (u : Rat) (now : Bool) : r.strongFor p u now = t.strongFor p u now := by
  rw [State.strongFor, State.stepPar_prepared hr, State.par_prepared hr, State.strongFor]

theorem State.stepJogCap_prepared : r.stepJogCap p = t.stepJogCap p := by
  simp only [State.stepJogCap, State.stepOf_prepared hr, State.parN, State.par_prepared hr, Step.prepared]

theorem State.stepSpeed_prepared (vmax : Rat) : r.stepSpeed p vmax = t.stepSpeed p vmax := by
  simp only [State.stepSpeed, State.stepOf_prepared hr, State.stepPar_prepared hr, Step.prepared]

theorem State.homePhase_prepared : r.homePhase p = t.homePhase p := by
  have hran : ∀ a n, r.ran a n = t.ran a n := by
    rw [hr]
    exact fun _ _ => rfl
  simp only [State.homePhase, State.stepOf_prepared hr, hran, Step.prepared]

end Prepared

section Recompute
variable (dt : Nat) {p : PortalId} (fast : List FastSample) {s t r : State} (ht : t = (s.advance dt).stepCatchUp p)
  (hr : r = (t.modStep p fun y => { y with devSince := none }).chopCoils p fast)
include ht hr

theorem exec_stepRecompute_idle (hm : (t.stepOf p).drive ≠ .moving) (hh : (t.stepOf p).drive ≠ .homing) :
    exec (.stepRecompute dt ⟨p, fast⟩) s = .next (r.coilMode p s.ts) := by
  obtain ⟨a, b, hab⟩ := t.prepared_eq p fast
  have hstep := State.stepOf_prepared (hr.trans hab)
  rw [exec_stepRecompute dt fast ht hr (.inl hm), State.stepProfile_idle (by rwa [hstep]) (by rwa [hstep])]

theorem exec_stepRecompute_homing (hh : (t.stepOf p).drive = .homing) {ph : Nat} {v : Rat} (hph : ph = t.homePhase p)
    (hv : v = if ph = 1 then t.stepPar p 0x5032 else -t.stepPar p 0x5032) : exec (.stepRecompute dt ⟨p, fast⟩) s = .next ((r.modStep p fun y =>
      { y with phase := ph, phaseStart := if ph = y.phase then y.phaseStart else y.phi, r := 256, pendingR := none, v := v
               strongWant := t.strongFor p (t.stepPar p 0x5032) y.strongWant, w := velWord (t.stepPar p 0x5032) 256
               acc := if y.v * v < 0 ∨ y.v = 0 then 0 else y.acc }).coilMode p s.ts) := by
  obtain ⟨a, b, hab⟩ := t.prepared_eq p fast
  have hprep := hr.trans hab
  rw [exec_stepRecompute dt fast ht hr (.inl (by rw [hh]; decide)), State.stepProfile_homing (ph := ph) (v := v)]
  · simp only [State.stepPar_prepared hprep, State.strongFor_prepared hprep]
  · rw [State.stepOf_prepared hprep]
    exact hh
  · rw [State.homePhase_prepared hprep]
    exact hph
  · rw [State.stepPar_prepared hprep]
    exact hv

theorem exec_stepRecompute_moving (hm : (t.stepOf p).drive = .moving) (hv0 : (t.stepOf p).v ≠ 0) (hf2 : t.f2InUse p = false) {v : Rat} {fresh : Bool}
    (hspeed : t.stepSpeed p (if (t.stepOf p).job = 3 then t.stepJogCap p else (t.par 0x5013 (uStep p) : Rat)) = (v, fresh)) :
    ∃ a b acc res pending, exec (.stepRecompute dt ⟨p, fast⟩) s = .next ((r.modStep p fun _ => { (t.stepOf p).prepared a b with
      acc := acc, r := res, v := stepQuant v, w := velWord |stepQuant v| res, strongWant := t.strongFor p |stepQuant v| (t.stepOf p).strongWant
      pendingR := pending }).coilMode p s.ts) := by
  obtain ⟨a, b, hab⟩ := t.prepared_eq p fast
  have hprep := hr.trans hab
  have hstep := State.stepOf_prepared hprep
  obtain ⟨res, acc, pending, hprofile⟩ := State.stepProfile_moving (s := r) (p := p) (v := v) (fresh := fresh) (by rw [hstep]; exact hm) (by rw [hstep]; exact hv0)
    (by rw [State.stepSpeed_prepared hprep, State.stepJogCap_prepared hprep, State.par_prepared hprep, hstep]; exact hspeed)
  refine ⟨a, b, acc, res, pending, ?_⟩
  rw [exec_stepRecompute dt fast ht hr (.inr hf2), hprofile]
  refine congrArg (fun u => Host.Outcome.next (u.coilMode p s.ts)) (State.modStep_congr ?_)
  rw [hstep, State.strongFor_prepared hprep]
  rfl

end Recompute

/-! ## The home input (R194, R211, R215, R217) -/

theorem State.stepOf_stepCatchUp (s : State) (p : PortalId) : (s.stepCatchUp p).stepOf p = (s.stepOf p).clocks (s.ts.since (s.stepOf p).genAt / 2) :=
  State.stepOf_modStep_same ..

/-- The level of the home input's pin is a matter of the portal's inputs alone. -/
theorem State.homeLevel_keeps (s : State) (p : PortalId) (active : Bool) :
    (s.homeLevel p active).stepOf p = s.stepOf p ∧ (s.homeLevel p active).view = s.view ∧ (s.homeLevel p active).ts = s.ts := by
  unfold State.homeLevel
  split
  · exact ⟨State.stepOf_modPortal _ _ _ rfl, rfl, rfl⟩
  · exact ⟨rfl, rfl, rfl⟩

theorem exec_homeInputInactive (dt : Nat) (p : PortalId) (s : State) : exec (.homeInputInactive dt p) s
    = .next ((((s.advance dt).homeLevel p false).stepCatchUp p).modStep p fun y =>
      { y with homeInput := false, homeClear := some (s.ts + BitVec.ofNat 56 dt) }) := by
  obtain ⟨-, -, hts⟩ := (s.advance dt).homeLevel_keeps p false
  show execHomeInputInactive dt p s = _
  rw [execHomeInputInactive, State.stepCatchUp, State.modStep_ts, hts, State.advance_ts]

theorem abs_quant_sub_lt_one (q : Rat) : |(quant q : Rat) - q| < 1 := by
  have hceil : q ≤ (q.ceil : Rat) := Rat.le_ceil
  have hceil' : (q.ceil : Rat) < q + 1 := Rat.ceil_lt
  have hfloor := q.floor_le
  have hfloor' : q - 1 < (q.floor : Rat) := Rat.lt_floor
  unfold quant
  rw [abs_lt]
  split_ifs with hint
  · rw [(Rat.den_eq_one_iff q).1 hint]
    norm_num
  · constructor <;> linarith
  · constructor <;> linarith

/-- The reference that a homing run takes: the position is HOME_OFFSET there, and the correction is what the count was off by (R215). -/
def Step.referenced (y : Step) (off corr : Int) : Step :=
  { y with phi0 := y.phi - BitVec.ofInt 32 off, homeCorr := corr, uncertain := false, homed := true, confirm := none }

/-- A homing run at its end: the step stops in HOLDING, takes its reference and with it the offset of F2, and the correction goes into event 0x0330 and the
cycle's record (R212, R215). -/
def State.homeFound (u : State) (p : PortalId) (off corr : Int) : State :=
  let s := (u.stepStop p .holding).modStep p fun y => y.referenced off corr
  let s := if s.parN 0x6000 (uFb p 2) ≠ 0 then s.modStep p fun y => { y with delta := some (s.fbX p 2 - s.stepPosR p) } else s
  let s := s.raisePortal p 0x0330 (uStep p) (corr % 2 ^ 32).toNat
  s.modPortal p fun y => { y with timer := some s.ts, cycle := y.cycle.map fun c => { c with flags := c.flags ||| 0x01#8, homeCorr := corr } }

theorem State.stepOf_homeFound (u : State) (p : PortalId) (off corr : Int) :
    ∃ (y : Step) (d : Option Rat), (u.homeFound p off corr).stepOf p = { y.referenced off corr with delta := d } := by
  rw [State.homeFound, State.stepOf_modPortal _ _ _ rfl, State.stepOf_raisePortal]
  split
  · exact ⟨_, _, (State.stepOf_modStep_same ..).trans (by rw [State.stepOf_modStep_same])⟩
  · exact ⟨_, _, State.stepOf_modStep_same ..⟩

section HomeInput
variable {dt : Nat} {p : PortalId} {s t u : State} (ht : t = (s.advance dt).stepCatchUp p)
  (hu : u = (((s.advance dt).homeLevel p true).stepCatchUp p).modStep p fun y => { y with homeInput := true, homeClear := none })
include ht hu

/-- The home input's level reaches the step, and no value in force. -/
theorem State.homeInput_taken : u.stepOf p = { t.stepOf p with homeInput := true, homeClear := none } ∧ u.view = t.view := by
  obtain ⟨hstep, hview, hts⟩ := (s.advance dt).homeLevel_keeps p true
  subst ht hu
  constructor
  · rw [State.stepOf_modStep_same, State.stepOf_stepCatchUp, hstep, hts, State.stepOf_stepCatchUp]
  · exact hview

theorem State.stepPar_homeInput (pid : Nat) : u.stepPar p pid = t.stepPar p pid := by
  obtain ⟨hstep, hview⟩ := State.homeInput_taken ht hu
  exact State.stepPar_congr hview (by rw [hstep]) pid

/-- The home input only shows its level where neither a homing run nor a jog towards stowed of an uncertain step looks for it. -/
theorem exec_homeInputAccepted_idle (hhome : ¬((t.stepOf p).drive = .homing ∧ (t.stepOf p).phase = 2))
    (hjog : ¬((t.stepOf p).drive = .moving ∧ (t.stepOf p).job = 3 ∧ (t.stepOf p).uncertain = true ∧ (t.stepOf p).v < 0)) :
    exec (.homeInputAccepted dt p) s = .next u := by
  obtain ⟨hstep, -⟩ := State.homeInput_taken ht hu
  have hhome' : ¬((u.stepOf p).drive = .homing ∧ (u.stepOf p).phase = 2) := by rwa [hstep]
  have hjog' : ¬((u.stepOf p).drive = .moving ∧ (u.stepOf p).job = 3 ∧ (u.stepOf p).uncertain = true ∧ (u.stepOf p).v < 0) := by rwa [hstep]
  subst hu
  exact (if_neg hhome').trans (if_neg hjog')

theorem exec_homeInputAccepted_jog (hdrive : (t.stepOf p).drive = .moving) (hjob : (t.stepOf p).job = 3) (hunc : (t.stepOf p).uncertain = true)
    (hv : (t.stepOf p).v < 0) : exec (.homeInputAccepted dt p) s = .next (u.modStep p fun y => { y with phiT := y.phi - BitVec.ofInt 32 (quant (256 *
      brakeDist (t.stepPar p 0x5011) (t.stepPar p 0x5012) (t.stepPar p 0x5016) (t.stepPar p 0x5017) |(t.stepOf p).v|)) }) := by
  have hpar := State.stepPar_homeInput ht hu
  obtain ⟨hstep, -⟩ := State.homeInput_taken ht hu
  have hhome : ¬((u.stepOf p).drive = .homing ∧ (u.stepOf p).phase = 2) := by simp [hstep, hdrive]
  have hjog : (u.stepOf p).drive = .moving ∧ (u.stepOf p).job = 3 ∧ (u.stepOf p).uncertain = true ∧ (u.stepOf p).v < 0 := by
    rw [hstep]
    exact ⟨hdrive, hjob, hunc, hv⟩
  have hspeed : (u.stepOf p).v = (t.stepOf p).v := by rw [hstep]
  rw [← hpar, ← hpar, ← hpar, ← hpar, ← hspeed]
  subst hu
  exact (if_neg hhome).trans (if_pos hjog)

theorem exec_homeInputAccepted_reference (hdrive : (t.stepOf p).drive = .homing) (hphase : (t.stepOf p).phase = 2) {off corr : Int}
    (hoff : off = t.fineOf p (t.stepPar p 0x5033))
    (hcorr : corr = if (t.stepOf p).homed then ((t.stepOf p).phi - (t.stepOf p).phi0).toInt - off else 0) :
    exec (.homeInputAccepted dt p) s = .next ((u.homeFound p off corr).stepTask p ((t.stepOf p).job = 1)) := by
  have hpar := State.stepPar_homeInput ht hu 0x5033
  obtain ⟨hstep, hview⟩ := State.homeInput_taken ht hu
  have hhome : (u.stepOf p).drive = .homing ∧ (u.stepOf p).phase = 2 := by
    rw [hstep]
    exact ⟨hdrive, hphase⟩
  have hoff' : off = u.fineOf p (u.stepPar p 0x5033) := by
    simp only [hoff, hpar, State.fineOf, State.parN, State.par, hview]
  have hcorr' : corr = if (u.stepOf p).homed then ((u.stepOf p).phi - (u.stepOf p).phi0).toInt - off else 0 := by rw [hcorr, hstep]
  have hjob : (t.stepOf p).job = (u.stepOf p).job := by rw [hstep]
  rw [hcorr', hjob, hoff']
  subst hu
  exact if_pos hhome

end HomeInput

/-! ## The certainty of the position (R212, R213) -/

section Certainty
variable (dt : Nat) {p : PortalId} {s t : State} (ht : t = (s.advance dt).stepCatchUp p)
include ht

theorem exec_stepStill_confirmed (hstill : t.stepStill p = true) (hf2 : t.f2Confirms p = true) : exec (.stepStill dt p) s = .next (t.adoptF2 p) := by
  subst ht
  exact if_pos ⟨hstill, hf2⟩

theorem exec_f2ConfirmWindowEnd {b : Ts} {n : Nat} (hconfirm : (t.stepOf p).confirm = some (b, n)) (htime : t.elapsed b 20000000 = true) :
    exec (.f2ConfirmWindowEnd dt p) s = .next (if t.f2Confirms p then t.adoptF2 p else (t.stepUncertain p n (t.portal p).state.code).homeAgain p) := by
  subst ht
  have htime' : ((s.advance dt).stepCatchUp p).elapsed b (ms 200) = true := htime
  show execF2ConfirmWindowEnd dt p s = _
  simp only [execF2ConfirmWindowEnd, hconfirm, htime', if_true]

end Certainty

/-! ## The coils (R197, R207, R208) -/

section Lines
variable {p : PortalId} {s : State} (b : Bool)

theorem State.coilLines_open (h : (s.stepOf p).drive = .off ∨ (s.stepOf p).drive = .shorted ∨ (s.stepOf p).drive = .tripped) : s.coilLines p b = (.low, .low) := by
  obtain h | h | h := h <;> simp only [State.coilLines, h]

variable (h : (s.stepOf p).drive = .moving ∨ (s.stepOf p).drive = .homing ∨ (s.stepOf p).drive = .holding)
include h

theorem State.coilLines_quiet (hq : (s.stepOf p).strong = false) {u : Rat}
    (hu : u = s.quietAmp p * (if b then sinR (s.stepOf p).theta else cosR (s.stepOf p).theta)) :
    s.coilLines p b = (.pwm (1 / 2 + u / 2), .pwm (1 / 2 - u / 2)) := by
  subst hu
  obtain h | h | h := h <;> simp only [State.coilLines, h, hq, Bool.false_eq_true, if_false]

theorem State.coilLines_strong_drive (hs : (s.stepOf p).strong = true) {c : Coil} (hc : c = if b then (s.stepOf p).coilB else (s.stepOf p).coilA)
    (hphase : c.phase = .drive) : s.coilLines p b = if 0 ≤ c.sgn then (.high, .low) else (.low, .high) := by
  subst hc
  obtain h | h | h := h <;> simp only [State.coilLines, h, hs, hphase, if_true]

end Lines

section Chopper
variable {c : Coil} {i ref amp tOff tBlank : Rat} {t : Ts}

theorem Coil.offEnd_of_ne_decay (h : c.phase ≠ .decay) : c.offEnd ref tOff t = c := if_neg fun hd => h hd.1

theorem Coil.offEnd_decay {n : Nat} (h : c.phase = .decay) (hn : n = (tOff / 10).floor.toNat) (ht : n ≤ t.since c.since) :
    c.offEnd ref tOff t = { c with phase := .drive, since := c.since + BitVec.ofNat 56 n, sgn := refSign ref } := by
  subst hn
  exact if_pos ⟨h, ht⟩

section Drive
variable (h : c.phase = .drive)
include h

theorem Coil.sample_drive_cross (hs : c.sgn * refSign ref < 0) : c.sample i ref amp tOff tBlank t = { c with phase := .cross, since := t } := by
  rw [Coil.sample, Coil.offEnd_of_ne_decay (by simp [h])]
  exact if_pos ⟨by simp [h], hs⟩

theorem Coil.sample_drive (hs : 0 ≤ c.sgn * refSign ref) : c.sample i ref amp tOff tBlank t
    = if tBlank ≤ (t.since c.since : Rat) * 10 ∧ |ref| ≤ |i| then { c with phase := .decay, since := t } else c := by
  simp only [Coil.sample, Coil.offEnd_of_ne_decay (show c.phase ≠ .decay by simp [h]), not_lt.2 hs, and_false, if_false, h]

end Drive

theorem Coil.sample_cross (h : c.phase = .cross) : c.sample i ref amp tOff tBlank t
    = if |i| < amp * 2 / 100 then { c with phase := .drive, since := t, sgn := refSign ref } else c := by
  simp only [Coil.sample, Coil.offEnd_of_ne_decay (show c.phase ≠ .decay by simp [h]), h, ne_eq, not_true_eq_false, false_and, if_false]

end Chopper

/-! ## QUIET_TRIM (R207) -/

/-- A gain within its bounds that a factor of 63/64 to 65/64 trims stays there, and moves by at most 1/64 of itself. -/
theorem trimmed_mem {g ratio : Rat} (hlo : 1 / 2 ≤ g) (hhi : g ≤ 2) (hratio : 63 / 64 ≤ ratio ∧ ratio ≤ 65 / 64) :
    1 / 2 ≤ clampR (1 / 2) 2 (g * ratio) ∧ clampR (1 / 2) 2 (g * ratio) ≤ 2 ∧ 63 * g ≤ 64 * clampR (1 / 2) 2 (g * ratio)
      ∧ 64 * clampR (1 / 2) 2 (g * ratio) ≤ 65 * g := by
  obtain ⟨hdown, hup⟩ := hratio
  obtain ⟨hmin, hmax⟩ := clampR_mem (show (1 / 2 : Rat) ≤ 2 by norm_num) (g * ratio)
  have hless : g * (63 / 64) ≤ g * ratio := mul_le_mul_of_nonneg_left hdown (by linarith)
  have hmore : g * ratio ≤ g * (65 / 64) := mul_le_mul_of_nonneg_left hup (by linarith)
  refine ⟨hmin, hmax, ?_⟩
  unfold clampR
  split_ifs <;> constructor <;> linarith

/-- The factor of a trim: from the measured current to the set one, by at most 1/64 (R207). -/
def State.trimRatio (s : State) (p : PortalId) (i : Rat) : Rat := if i = 0 then 65 / 64 else clampR (63 / 64) (65 / 64) (s.coilAmp p / i)

theorem State.trimRatio_mem (s : State) (p : PortalId) (i : Rat) : 63 / 64 ≤ s.trimRatio p i ∧ s.trimRatio p i ≤ 65 / 64 := by
  unfold State.trimRatio
  split
  · norm_num
  · exact clampR_mem (by norm_num) _

/-- The step drives its coils (R197). -/
def StepDrive.drives (d : StepDrive) : Bool := decide (d = .holding) || decide (d = .moving) || decide (d = .homing)

/-- The gain after a millisecond whose outputs have the mean current `i` (R207). -/
def State.gainAfter (s : State) (p : PortalId) (i : Rat) : Rat :=
  if (s.stepOf p).drive.drives ∧ !(s.stepOf p).strong ∧ s.stepPar p 0x5028 = 1 then clampR (1 / 2) 2 ((s.stepOf p).g * s.trimRatio p i) else (s.stepOf p).g

section Gain
variable (s : State) (p : PortalId) (i : Rat)

theorem State.gainAfter_idle (h : (s.stepOf p).drive = .off ∨ (s.stepOf p).drive = .shorted ∨ (s.stepOf p).drive = .tripped ∨ (s.stepOf p).strong = true
    ∨ s.stepPar p 0x5028 ≠ 1) : s.gainAfter p i = (s.stepOf p).g := by
  refine if_neg ?_
  rintro ⟨hdrives, hquiet, htrim⟩
  have hopen : ∀ d : StepDrive, d = .off ∨ d = .shorted ∨ d = .tripped → d.drives = false := by
    rintro _ (rfl | rfl | rfl) <;> rfl
  obtain hd | hs | hoff : ((s.stepOf p).drive = .off ∨ (s.stepOf p).drive = .shorted ∨ (s.stepOf p).drive = .tripped) ∨ (s.stepOf p).strong = true
      ∨ s.stepPar p 0x5028 ≠ 1 := by simpa only [or_assoc] using h
  · rw [hopen _ hd] at hdrives
    contradiction
  · rw [hs] at hquiet
    contradiction
  · exact hoff htrim

theorem State.gainAfter_trimmed (hdrive : (s.stepOf p).drive = .moving ∨ (s.stepOf p).drive = .holding ∨ (s.stepOf p).drive = .homing)
    (hquiet : (s.stepOf p).strong = false) (htrim : s.stepPar p 0x5028 = 1) :
    s.gainAfter p i = clampR (1 / 2) 2 ((s.stepOf p).g * s.trimRatio p i) := by
  have hdrives : (s.stepOf p).drive.drives = true := by
    obtain h | h | h := hdrive <;> rw [h] <;> rfl
  exact if_pos ⟨hdrives, by rw [hquiet]; rfl, htrim⟩

end Gain

/-- The mean current of a millisecond's outputs (R207). -/
def State.quietMean (s : State) (p : PortalId) (ys : List (Nat × Nat)) : Rat :=
  (ys.map fun y => sqrtR (s.coilSinc3 p y.1 * s.coilSinc3 p y.1 + s.coilSinc3 p y.2 * s.coilSinc3 p y.2)).sum / ys.length

theorem exec_quietTrim (dt : Nat) {p : PortalId} {ys : List (Nat × Nat)} {a b : Nat} {s : State} (hclock : s.stepClock p = true) (hlast : ys.getLast? = some (a, b)) :
    exec (.quietTrim dt p ys) s = .next ((s.advance dt).modStep p fun y => { y with
      ia := quant (s.coilSinc3 p a), ib := quant (s.coilSinc3 p b), g := s.gainAfter p (s.quietMean p ys), iMeas := s.quietMean p ys }) := by
  have hclock' : (s.advance dt).stepClock p = true := (s.advance_stepClock dt p).trans hclock
  show execQuietTrim dt p ys s = _
  simp only [execQuietTrim, hclock', Bool.not_true, Bool.false_eq_true, if_false, List.getLast?_map, hlast, Option.map_some, List.map_map, meanR, List.length_map]
  exact congrArg Host.Outcome.next (State.modStep_congr rfl)

/-- Settles O43: the faults by their conditions, the recompute by the drive of the step, the home input by what looks for it, the coils by drive and phase. -/
theorem stepMoves : Obligations.StepMoves := by
  unfold Obligations.StepMoves
  refine ⟨fun dt p s => ⟨fun _ _ _ => exec_stepBridgeFault_fast dt, exec_stepBridgeFault_released dt,
      fun hfitted hen hsince hclaim _ _ => exec_stepBridgeFault_low dt hfitted hen hsince hclaim, fun n khz => ⟨rfl, clockPasses_some n khz⟩,
      fun hclock => ⟨exec_sdStuck_step dt hclock, fun c ok t hok ht => ?_⟩,
      fun hruns => ⟨fun c ok t hok ht => exec_sdClock_leaves dt hok ht hruns, fun l hdriven => exec_sdStuck_leaf dt _ hruns hdriven⟩,
      fun b => exec_posDeviation dt, ?_, fun _ _ _ => rfl⟩,
    ?_, ?_, ?_, ?_⟩
  · have hclk := exec_sdClock_step dt hok ht hclock
    exact ⟨fun h => hclk.trans (by rw [if_pos h]), fun hbad hfault => hclk.trans (by rw [if_neg (by rw [hbad, hfault]; decide)])⟩
  · rintro t x ht rfl hdrive travel rfl
    rw [exec_homingFailure dt ht hdrive]
    refine ⟨fun hph hfar => if_pos ⟨hph, hfar⟩, fun hph hnear hout => ?_, fun hph hout => ?_, fun hph hin hstuck hrunning => ?_⟩
    · exact (if_neg fun h => not_lt.2 hnear h.2).trans (if_pos hout)
    · exact (if_neg (by simp [hph])).trans (if_pos hout)
    · exact (if_neg (by simp [hph])).trans ((if_neg (by simp [hrunning])).trans (if_pos ⟨hph, hin, hstuck⟩))
  · rintro dt p fast s t r u h x ht rfl hr rfl
    refine ⟨exec_stepRecompute_idle dt fast ht hr, fun hh ph v hph hv => exec_stepRecompute_homing dt fast ht hr hh (hph.trans (t.homePhase_eq p).symm) hv,
      fun hm hv0 hf2 v fresh hspeed => ?_, exec_homeInputInactive dt p s, fun hu => ⟨fun hd hj => ?_, fun hd hj hunc hv => ?_, fun hd hph => ?_, fun hd hph => ?_⟩,
      exec_stepStill_confirmed dt ht, fun b n => exec_f2ConfirmWindowEnd dt ht⟩
    · obtain ⟨a, b, acc, res, pending, hexec⟩ := exec_stepRecompute_moving dt fast ht hr hm hv0 hf2 hspeed
      exact ⟨_, _, hexec, rfl, rfl, rfl, rfl, rfl, hm, rfl, rfl⟩
    · exact exec_homeInputAccepted_idle ht hu (fun h => hd h.1) fun h => by
        obtain ⟨hm, hjob, hunc, hv⟩ := h
        simp [hm, hjob, hunc, not_le.2 hv] at hj
    · exact ⟨_, exec_homeInputAccepted_jog ht hu hd hj hunc hv, abs_quant_sub_lt_one _⟩
    · exact exec_homeInputAccepted_idle ht hu (fun h => hph h.2) fun h => by simp [hd] at h
    · obtain ⟨y, d, hstep⟩ := u.stepOf_homeFound p (t.fineOf p (t.stepPar p 0x5033)) _
      refine ⟨_, _, exec_homeInputAccepted_reference ht hu hd hph rfl rfl, rfl, ?_⟩
      rw [hstep]
      exact ⟨rfl, rfl, sub_sub_cancel _ _, rfl⟩
  · rintro p s b x c u rfl hc hu
    exact ⟨s.coilLines_open b, fun h => ⟨fun hq => s.coilLines_quiet b h hq hu, fun hs => s.coilLines_strong_drive b h hs hc⟩⟩
  · intro c i ref amp tOff tBlank t
    refine ⟨fun h hs hblank hi => ?_, fun h hs hlow => ?_, fun h => Coil.sample_drive_cross h, fun h hi => ?_, fun h n => Coil.offEnd_decay h⟩
    · exact (Coil.sample_drive h hs).trans (if_pos ⟨hblank, hi⟩)
    · exact (Coil.sample_drive h hs).trans (if_neg fun hc => hlow.elim (not_lt.2 hc.1) (not_lt.2 hc.2))
    · exact (Coil.sample_cross h).trans (if_pos hi)
  · intro dt p ys a b s hclock hlast
    refine ⟨_, _, exec_quietTrim dt hclock hlast, rfl, s.gainAfter_idle p _, fun hdrive hquiet htrim hlo hhi => ?_⟩
    rw [s.gainAfter_trimmed p _ hdrive hquiet htrim]
    exact trimmed_mem hlo hhi (s.trimRatio_mem p _)

end Sys2Proof.Machine
end

section
/-! The position feedback of a portal: how an interface changes, and how a sample of its pins is counted (R227, R228, R238). -/

namespace Sys2Proof.Machine

/-! ## An interface of a portal -/

@[simp] theorem State.advance_fb (s : State) (dt : Nat) (p : PortalId) (f : FbId) : (s.advance dt).fb p f = s.fb p f := rfl

@[simp] theorem State.fb_modFb_same (s : State) (p : PortalId) (f : FbId) (g : Feedback → Feedback) : (s.modFb p f g).fb p f = g (s.fb p f) := by
  rw [State.fb_modFb, if_pos ⟨rfl, rfl⟩]

theorem State.modFb_congr {s : State} {p : PortalId} {f : FbId} {g h : Feedback → Feedback} (hgh : g (s.fb p f) = h (s.fb p f)) : s.modFb p f g = s.modFb p f h :=
  State.modPortal_congr (congrArg (fun x => { s.portal p with fbs := (s.portal p).fbs.set f x }) hgh)

theorem State.modFb_modFb (s : State) (p : PortalId) (f : FbId) (g h : Feedback → Feedback) : (s.modFb p f g).modFb p f h = s.modFb p f fun x => h (g x) := by
  simp only [State.modFb, State.modPortal_modPortal, Fin.getElem_fin, Vector.getElem_set_self, Vector.set_set]

theorem State.fb_of_portals {s t : State} (h : t.portals = s.portals) (p : PortalId) (f : FbId) : t.fb p f = s.fb p f := by
  rw [State.fb, State.portal, h, State.fb, State.portal]

@[simp] theorem State.fb_raisePortal (s : State) (p q : PortalId) (f : FbId) (code unit param : Nat) : (s.raisePortal p code unit param).fb q f = s.fb q f :=
  State.fb_of_portals (State.raisePortal_portals ..) q f

@[simp] theorem State.fb_markSet (s : State) (p : PortalId) (f : FbId) (pid unit bit : Nat) : (s.markSet pid unit bit).fb p f = s.fb p f := rfl

@[simp] theorem State.fb_lockWatch (s : State) (p : PortalId) (f : FbId) : (s.lockWatch p).fb p f = s.fb p f := State.fb_congr (s.lockWatch_senses p) p f

@[simp] theorem State.advance_fbRuns (s : State) (dt : Nat) (p : PortalId) (f : FbId) : (s.advance dt).fbRuns p f = s.fbRuns p f := by
  rw [State.fbRuns, State.advance_pdMode]
  rfl

/-- The closed contact of one leaf is followed (R233). -/
def State.contactStep (s : State) (p : PortalId) (l : LeafId) : State :=
  s.modFb p (fbOfLeaf l) fun x => { x with contactSince := if (if l = 0 then s.cl0 p else s.cl1 p) && (s.fb p (fbOfLeaf l)).still
    then (if x.contactSince.isSome then x.contactSince else some s.ts) else none }

theorem State.contactWatch_eq (s : State) (p : PortalId) : s.contactWatch p = (s.contactStep p 0).contactStep p 1 := rfl

theorem State.fb_contactStep (s : State) (p : PortalId) (l : LeafId) (f : FbId) : ∃ since, (s.contactStep p l).fb p f = { s.fb p f with contactSince := since } := by
  rw [State.contactStep, State.fb_modFb]
  split
  next h => exact ⟨_, by rw [h.2]⟩
  · exact ⟨_, rfl⟩

theorem State.fb_contactWatch (s : State) (p : PortalId) (f : FbId) : ∃ since, (s.contactWatch p).fb p f = { s.fb p f with contactSince := since } := by
  obtain ⟨since0, h0⟩ := s.fb_contactStep p 0 f
  obtain ⟨since1, h1⟩ := (s.contactStep p 0).fb_contactStep p 1 f
  exact ⟨since1, by rw [State.contactWatch_eq, h1, h0]⟩

@[simp] theorem State.ts_contactWatch (s : State) (p : PortalId) : (s.contactWatch p).ts = s.ts := rfl

/-! ## Counting (R227, R228, R238) -/

/-- An interface with what its observer and its contact watch hold, and its last count change, left out: a count change touches nothing else (R238, R239). -/
def Feedback.lasting (x : Feedback) : Feedback :=
  { x with still := false, seeding := false, xHat := 0, vHat := 0, aHat := 0, settleEnd := none, contactSince := none, wake := none, lastChange := none, lastDir := 0
           lastCount := 0, dir := false, spanUp := false, spanDown := false }

theorem Feedback.woken_lasting (x : Feedback) (now : Ts) : (x.woken now).lasting = x.lasting := by
  unfold Feedback.woken
  split
  · split <;> rfl
  · rfl

/-- `x` comes of `y` by a count change in direction `d`: it is the last one, and STILL has ended (R238). -/
structure Feedback.Changed (y : Feedback) (now : Ts) (d : Int) (x : Feedback) : Prop where
  still : x.still = false
  lastDir : x.lastDir = d
  lastChange : x.lastChange = some now
  lasting : x.lasting = y.lasting

section Change
variable {y : Feedback} {now : Ts} {d : Int} {s : State} {p : PortalId} {f : FbId}

theorem State.changed_modFb {g : Feedback → Feedback} (h : y.Changed now d (g (s.fb p f))) : y.Changed now d ((s.modFb p f g).fb p f) := by
  rwa [State.fb_modFb_same]

theorem State.changed_contactWatch (h : y.Changed now d (s.fb p f)) : y.Changed now d ((s.contactWatch p).fb p f) := by
  obtain ⟨since, hsince⟩ := s.fb_contactWatch p f
  rw [hsince]
  exact ⟨h.still, h.lastDir, h.lastChange, h.lasting⟩

theorem State.changed_fbSettle (h : y.Changed now d (s.fb p f)) : y.Changed now d ((s.fbSettle p f).fb p f) :=
  State.changed_modFb ⟨h.still, h.lastDir, h.lastChange, h.lasting⟩

theorem State.changed_ite {c : Prop} [Decidable c] {t u : State} (ht : c → y.Changed now d (t.fb p f)) (hu : ¬c → y.Changed now d (u.fb p f)) :
    y.Changed now d ((if c then t else u).fb p f) := by
  split
  next h => exact ht h
  next h => exact hu h

end Change

theorem State.lasting_awake (s : State) (p : PortalId) (f : FbId) :
    (((s.modFb p f fun x => { x.woken s.ts with wake := none }).contactWatch p).fb p f).lasting = (s.fb p f).lasting := by
  obtain ⟨since, hsince⟩ := (s.modFb p f fun x => { x.woken s.ts with wake := none }).fb_contactWatch p f
  rw [hsince, State.fb_modFb_same]
  exact (s.fb p f).woken_lasting s.ts

/-- A count change by the state of the observer: at STILL, while it seeds, while it tracks (R238, R239). -/
theorem State.changed_fbChange (s : State) (p : PortalId) (f : FbId) (d : Int) : (s.fb p f).Changed s.ts d ((s.fbChange p f d).fb p f) := by
  have hlast := s.lasting_awake p f
  have hts : ((s.modFb p f fun x => { x.woken s.ts with wake := none }).contactWatch p).ts = s.ts := State.ts_contactWatch ..
  unfold State.fbChange
  dsimp only
  generalize (s.modFb p f fun x => { x.woken s.ts with wake := none }).contactWatch p = t at hlast hts ⊢
  have hts' : some t.ts = some s.ts := congrArg some hts
  refine State.changed_ite (fun _ => State.changed_contactWatch (State.changed_modFb ⟨rfl, rfl, hts', hlast⟩)) fun hstill => ?_
  rw [Bool.not_eq_true] at hstill
  refine State.changed_ite (fun _ => ?_) fun _ => ?_
  · cases (t.fb p f).lastChange with
    | none => exact State.changed_modFb ⟨hstill, rfl, hts', hlast⟩
    | some since =>
      exact State.changed_ite (fun _ => State.changed_fbSettle (State.changed_modFb ⟨hstill, rfl, hts', hlast⟩)) fun _ => State.changed_modFb ⟨hstill, rfl, hts', hlast⟩
  · exact State.changed_ite (fun _ => State.changed_fbSettle (State.changed_modFb ⟨hstill, rfl, hts', hlast⟩)) fun _ => State.changed_modFb ⟨hstill, rfl, hts', hlast⟩

theorem State.fb_echoCount (s : State) (p q : PortalId) (f g : FbId) (n : Int) : (s.echoCount p f n).fb q g = s.fb q g := by
  unfold State.echoCount
  split
  · rfl
  · dsimp only
    split
    · rw [State.fb_raisePortal, State.fb_modPortal _ _ _ _ rfl]
    · exact State.fb_modPortal _ _ _ _ rfl

/-- An interface with newly accepted levels of its three pins (R226, R235). -/
def Feedback.pinned (x : Feedback) (now : Ts) (a b z : Bool) : Feedback := { x with a := a, b := b, z := z, zAt := if z = x.z then x.zAt else some now }

/-- The accepted levels of the three pins are taken. -/
def State.pinsTaken (s : State) (p : PortalId) (f : FbId) (a b z : Bool) : State := s.modFb p f fun x => x.pinned s.ts a b z

/-- An illegal transition is counted and remembered (R228). -/
def State.illegalSeen (s : State) (p : PortalId) (f : FbId) : State :=
  (s.modFb p f fun y => { y with illegal := min 65535 (y.illegal + 1), illegalAt := (y.legal :: y.illegalAt).take 4, okSince := y.okSince.set 0 (some s.ts)
                                 badAt := some s.ts }).markSet 0x6086 (uFb p f) 0

theorem State.pinsTaken_runs {s : State} {p : PortalId} {f : FbId} {a b z : Bool} (h : s.fbRuns p f = true) : (!(s.pinsTaken p f a b z).fbRuns p f) = false := by
  rw [Bool.not_eq_false']
  exact h

section Sample
variable {s : State} {p : PortalId} {f : FbId} {a b z : Bool}

theorem State.fbSample_stopped (h : s.fbRuns p f = false) : s.fbSample p f a b z = s.pinsTaken p f a b z := by
  have hruns : (s.pinsTaken p f a b z).fbRuns p f = false := h
  exact if_pos (by rw [Bool.not_eq_true']; exact hruns)

variable (h : s.fbRuns p f = true)
include h

theorem State.fbSample_unchanged (hr : countOf (s.fbType p f) (s.fb p f).a (s.fb p f).b (s.fb p f).z a b z = some 0) : s.fbSample p f a b z = s.pinsTaken p f a b z := by
  refine (if_neg (ne_true_of_eq_false (State.pinsTaken_runs h))).trans ?_
  rw [hr]
  rfl

/-- A legal transition changes the count by its direction (R227). -/
theorem State.changed_fbSample {d : Int} (hd : d ≠ 0) (hr : countOf (s.fbType p f) (s.fb p f).a (s.fb p f).b (s.fb p f).z a b z = some d) :
    ({ (s.fb p f).pinned s.ts a b z with c := (s.fb p f).c + BitVec.ofInt 32 d, legal := (s.fb p f).legal + 1 } : Feedback).Changed s.ts d
      ((s.fbSample p f a b z).fb p f) := by
  have hsample : s.fbSample p f a b z
      = (((s.pinsTaken p f a b z).modFb p f fun y => { y with c := y.c + BitVec.ofInt 32 d, legal := y.legal + 1 }).fbChange p f d).echoCount p f d := by
    refine (if_neg (ne_true_of_eq_false (State.pinsTaken_runs h))).trans ?_
    rw [hr]
    exact if_neg hd
  have hchange := ((s.pinsTaken p f a b z).modFb p f fun y => { y with c := y.c + BitVec.ofInt 32 d, legal := y.legal + 1 }).changed_fbChange p f d
  rw [State.fb_modFb_same, State.pinsTaken, State.fb_modFb_same] at hchange
  rwa [hsample, State.fb_echoCount]

/-- Four illegal transitions within 1,024 counts are a fault (R228). -/
theorem State.fbSample_illegal (hr : countOf (s.fbType p f) (s.fb p f).a (s.fb p f).b (s.fb p f).z a b z = none) {t : State} (ht : t = (s.pinsTaken p f a b z).illegalSeen p f) :
    ((s.fb p f).illegalAt.length < 3 → s.fbSample p f a b z = t)
    ∧ ∀ i j k l, (s.fb p f).illegalAt = i :: j :: k :: l → (s.fb p f).legal - k < 1024 → s.fbSample p f a b z = t.fbLose p f 0 := by
  obtain ⟨hat, hlegal⟩ : (t.fb p f).illegalAt = ((s.fb p f).legal :: (s.fb p f).illegalAt).take 4 ∧ (t.fb p f).legal = (s.fb p f).legal := by
    rw [ht, State.illegalSeen, State.fb_markSet, State.fb_modFb_same, State.pinsTaken, State.fb_modFb_same]
    exact ⟨rfl, rfl⟩
  have hsample : s.fbSample p f a b z = (match (t.fb p f).illegalAt with
      | [_, _, _, k] => if (t.fb p f).legal - k < 1024 then t.fbLose p f 0 else t
      | _ => t) := by
    refine (if_neg (ne_true_of_eq_false (State.pinsTaken_runs h))).trans ?_
    rw [hr]
    simp only [satInc_eq_min]
    rw [ht]
    rfl
  rw [hsample, hat, hlegal]
  refine ⟨fun hlen => ?_, fun i j k l hl hnear => ?_⟩
  · match (s.fb p f).illegalAt, hlen with
    | [], _ | [_], _ | [_, _], _ => rfl
  · rw [hl]
    exact if_pos hnear

end Sample

/-! ## Counting of levels (R227) -/

theorem countOf_quadrature_reverse : ∀ a b z a' b' z' : Bool, countOf 1 a' b' z' a b z = (countOf 1 a b z a' b' z').map (- ·) := by decide

theorem countOf_quadrature_abs : ∀ a b z a' b' z' : Bool, (countOf 1 a b z a' b' z').all fun d => |d| ≤ 1 := by decide

theorem countOf_quadrature_eq_none : ∀ a b z a' b' z' : Bool, countOf 1 a b z a' b' z' = none ↔ a ≠ a' ∧ b ≠ b' := by decide

/-- Settles O44: a sample by whether the interface runs and by the count that its levels give. -/
theorem feedbackCounts : Obligations.FeedbackCounts := by
  unfold Obligations.FeedbackCounts
  refine ⟨?_, fun a b z a' b' z' => ⟨fun d hd => ?_, countOf_quadrature_eq_none a b z a' b' z', ?_⟩⟩
  · rintro dt p f a b z s u rfl
    refine ⟨fun h => congrArg _ (State.fbSample_stopped ((s.advance_fbRuns dt p f).trans h)), ?_⟩
    rintro hs r rfl
    have h := (s.advance_fbRuns dt p f).trans hs
    refine ⟨fun hr => congrArg _ (State.fbSample_unchanged h hr), fun d hr hd => ?_, ?_⟩
    · obtain ⟨hstill, hdir, hchange, hlast⟩ := State.changed_fbSample h hd hr
      exact ⟨_, _, rfl, rfl, congrArg Feedback.c hlast, congrArg Feedback.legal hlast, hstill, hdir, hchange, congrArg Feedback.a hlast, congrArg Feedback.b hlast,
        congrArg Feedback.z hlast⟩
    · rintro hr t rfl
      obtain ⟨hfew, hlost⟩ := State.fbSample_illegal h hr rfl
      exact ⟨fun hlen => congrArg _ (hfew hlen), fun i j k l hl hnear => congrArg _ (hlost i j k l hl hnear)⟩
  · have habs := countOf_quadrature_abs a b z a' b' z'
    rw [hd] at habs
    exact ⟨by rw [countOf_quadrature_reverse, hd, Option.map_some], of_decide_eq_true habs⟩
  · revert b z z'
    decide

end Sys2Proof.Machine
end

section
/-! SSI frames, and the Gray code of their values (R230, R231). -/

namespace Sys2Proof.Machine

/-- Below its set top bit, the Gray code of a number is that of its complement. -/
theorem gray_mod_two_pow {n b : Nat} (hlt : b < 2 ^ (n + 1)) (htop : b.testBit n = true) :
    (b ^^^ b / 2) % 2 ^ n = (2 ^ (n + 1) - (b + 1)) ^^^ (2 ^ (n + 1) - (b + 1)) / 2 := by
  have hhigh (i : Nat) (hi : n < i) : b.testBit i = false := Nat.testBit_lt_two_pow (hlt.trans_le (Nat.pow_le_pow_right (by decide) hi))
  refine Nat.eq_of_testBit_eq fun i => ?_
  simp only [Nat.testBit_mod_two_pow, Nat.testBit_xor, Nat.testBit_div_two, Nat.testBit_two_pow_sub_succ hlt]
  obtain hi | rfl | hi := lt_trichotomy i n
  · simp [hi, Nat.lt_succ_of_lt hi]
  · simp [htop]
  · simp [hi.not_gt, (Nat.succ_le_of_lt hi).not_gt]

theorem grayDecode_gray (n b : Nat) (hb : b < 2 ^ n) : grayDecode n (b ^^^ (b / 2)) = b := by
  induction n generalizing b with
  | zero => exact (Nat.lt_one_iff.1 hb).symm
  | succ n ih =>
    have hnext : b.testBit (n + 1) = false := Nat.testBit_lt_two_pow hb
    have hbit : (b ^^^ (b / 2)).testBit n = b.testBit n := by rw [Nat.testBit_xor, Nat.testBit_div_two, hnext, Bool.xor_false]
    rw [grayDecode, hbit]
    obtain hlow | hle := lt_or_ge b (2 ^ n)
    · have hgray : b ^^^ b / 2 < 2 ^ n := Nat.xor_lt_two_pow hlow (by omega)
      rw [Nat.testBit_lt_two_pow hlow, if_neg (by decide), Nat.mod_eq_of_lt hgray, ih b hlow]
    · have htop : b.testBit n = true := Nat.testBit_of_two_pow_le_and_two_pow_add_one_gt hle hb
      rw [htop, if_pos rfl, gray_mod_two_pow hb htop, ih _ (by omega)]
      omega

/-! ## Frames (R230, R231) -/

/-- A bad frame is counted, and discarded (R231). -/
theorem State.ssiBadFrame_eq (s : State) (p : PortalId) (f : FbId) (b : Nat) {u : State}
    (hu : u = s.modFb p f fun x => { x with ssiBad := x.ssiBad + 1, zeroErr := true, okSince := (x.okSince.set 3 none).set 4 none }) :
    s.ssiBadFrame p f b = if 2 ≤ (s.fb p f).ssiBad then u.fbFault p f b else u := by
  have hbad : (u.fb p f).ssiBad = (s.fb p f).ssiBad + 1 := by rw [hu, State.fb_modFb_same]
  have hthird : 3 ≤ (u.fb p f).ssiBad ↔ 2 ≤ (s.fb p f).ssiBad := by omega
  unfold State.ssiBadFrame
  simp only [← hu, hthird]

/-- A reference event of an interface ends NOT_REFERENCED (R233). -/
theorem State.fb_fbReferenced (s : State) (p : PortalId) (f : FbId) (src : Nat) (moved : Int) :
    (s.fbReferenced p f src moved).fb p f = { (s.fb p f).clearFault 5 s.ts with referenced := true, everRef := true } :=
  (State.fb_raisePortal ..).trans (State.fb_modFb_same ..)

/-- An interface after a good frame of value `v`, its count apart (R231). -/
def Feedback.framed (x : Feedback) (now : Ts) (v : Nat) : Feedback :=
  { x with ssiBad := 0, zeroErr := false, ssiPrev := some v
           okSince := (x.okSince.set 3 (if (x.okSince[3]).isSome then x.okSince[3] else some now)).set 4 (if (x.okSince[4]).isSome then x.okSince[4] else some now) }

/-- The first good frame: its value is the count, and a reference (R231, R233). -/
def State.ssiFirst (s : State) (p : PortalId) (f : FbId) (v : Nat) : State :=
  let t := s.modFb p f fun x => { x.framed s.ts v with c := BitVec.ofNat 32 v, ssiChange := v, lastCount := BitVec.ofNat 32 v }
  t.fbReferenced p f 2 (t.fbMeas p f - s.fbMeas p f)

theorem State.fb_ssiFirst (s : State) (p : PortalId) (f : FbId) (v : Nat) : ((s.ssiFirst p f v).fb p f).c = BitVec.ofNat 32 v
    ∧ ((s.ssiFirst p f v).fb p f).ssiPrev = some v ∧ ((s.ssiFirst p f v).fb p f).referenced = true ∧ ((s.ssiFirst p f v).fb p f).ssiBad = 0 := by
  rw [State.ssiFirst, State.fb_fbReferenced, State.fb_modFb_same]
  exact ⟨rfl, rfl, rfl, rfl⟩

/-- A later good frame has moved the count by `d`, and by `dc` since the last count change (R231, R238, R242). -/
def State.ssiMoved (s : State) (p : PortalId) (f : FbId) (v : Nat) (d dc : Int) : State :=
  let t := s.modFb p f fun x => { x.framed s.ts v with c := x.c + BitVec.ofInt 32 d }
  let u := if d = 0 then t else t.echoCount p f d
  if 2 ≤ |dc| then (u.fbChange p f (sgn dc)).modFb p f fun x => { x with ssiChange := v } else u

theorem State.fb_ssiMoved (s : State) (p : PortalId) (f : FbId) (v : Nat) (d dc : Int) :
    ((s.ssiMoved p f v d dc).fb p f).c = (s.fb p f).c + BitVec.ofInt 32 d ∧ ((s.ssiMoved p f v d dc).fb p f).ssiPrev = some v
      ∧ ((s.ssiMoved p f v d dc).fb p f).ssiBad = 0 := by
  have hecho : ∀ t : State, (if d = 0 then t else t.echoCount p f d).fb p f = t.fb p f := fun t =>
    ite_field (g := fun u => u.fb p f) rfl (t.fb_echoCount p p f f d)
  unfold State.ssiMoved
  dsimp only
  split
  · obtain ⟨_, _, _, hlast⟩ := State.changed_fbChange _ p f (sgn dc)
    rw [hecho, State.fb_modFb_same] at hlast
    rw [State.fb_modFb_same]
    exact ⟨congrArg Feedback.c hlast, congrArg Feedback.ssiPrev hlast, congrArg Feedback.ssiBad hlast⟩
  · rw [hecho, State.fb_modFb_same]
    exact ⟨rfl, rfl, rfl⟩

/-- A frame of a running SSI interface: with too few edges or a low line at its end it is bad, else it goes by the valid value before it (R231). -/
theorem exec_ssiFrame (dt : Nat) {p : PortalId} {f : FbId} {raw : BitVec 32} {edges : Nat} {hi : Bool} {s : State} {n v : Nat} (hruns : s.fbRuns p f = true)
    (htype : s.fbType p f = 5) (hn : n = s.parN 0x6020 (uFb p f))
    (hv : v = if s.parN 0x6021 (uFb p f) = 1 then grayDecode n (raw.toNat % 2 ^ n) else raw.toNat % 2 ^ n) :
    exec (.ssiFrame dt p f raw edges hi) s = .next (if edges < n + 1 ∨ hi = false then (s.advance dt).ssiBadFrame p f 3
      else (s.fb p f).ssiPrev.elim ((s.advance dt).ssiFirst p f v) fun v0 =>
        if (s.parN 0x6026 (uFb p f) : Int) < |wrapS n ((v : Int) - v0)| then (s.advance dt).ssiBadFrame p f 4
        else (s.advance dt).ssiMoved p f v (wrapS n ((v : Int) - v0)) (wrapS n ((v : Int) - (s.fb p f).ssiChange))) := by
  subst hv hn
  have hworks : ¬(!((s.advance dt).fbRuns p f) ∨ (s.advance dt).fbType p f ≠ 5) := by
    rw [State.advance_fbRuns, hruns]
    exact fun h => h.elim (by decide) fun hne => hne htype
  have hbad : (edges < (s.advance dt).parN 0x6020 (uFb p f) + 1 ∨ !hi) ↔ (edges < s.parN 0x6020 (uFb p f) + 1 ∨ hi = false) :=
    or_congr Iff.rfl (Iff.of_eq (Bool.not_eq_true' hi))
  refine ((if_neg hworks).trans (if_congr hbad rfl ?_)).trans (apply_ite Host.Outcome.next _ _ _).symm
  rw [State.advance_fb]
  cases (s.fb p f).ssiPrev with
  | none => rfl
  | some v0 =>
    refine Eq.trans ?_ (apply_ite Host.Outcome.next _ _ _).symm
    exact if_congr Iff.rfl rfl (apply_ite Host.Outcome.next _ _ _).symm

/-- Settles O45: the Gray code by its top bit, a bad frame by those before it, a whole one by the value before it. -/
theorem ssiFrames : Obligations.SsiFrames := by
  unfold Obligations.SsiFrames
  refine ⟨⟨grayDecode_gray, fun s u p f b hu => ?_⟩, fun dt p f raw edges hi s n v hruns htype hn hv => ?_⟩
  · rw [State.ssiBadFrame_eq s p f b hu]
    exact ⟨fun h => if_neg (not_le.2 h), fun h => if_pos h⟩
  · have hexec := exec_ssiFrame (edges := edges) (hi := hi) dt hruns htype hn hv
    refine ⟨fun hbad => hexec.trans (congrArg _ (if_pos hbad)), fun hedges hhigh => ?_⟩
    rw [if_neg (by simpa [hhigh] using hedges)] at hexec
    refine ⟨fun hprev => ?_, fun v0 hprev => ?_⟩
    · rw [hprev] at hexec
      exact ⟨_, hexec, (s.advance dt).fb_ssiFirst p f v⟩
    · rw [hprev] at hexec
      exact ⟨fun hjump => hexec.trans (congrArg _ (if_pos hjump)), fun hnear => ⟨_, hexec.trans (congrArg _ (if_neg (not_lt.2 hnear))), State.fb_ssiMoved ..⟩⟩

end Sys2Proof.Machine
end

section
/-! The observer of an interface, its references and faults, and the position echo (R233, R235, R237, R238, R240–R242, R248). -/

namespace Sys2Proof.Machine

/-! ## The observer (R237, R238, R240) -/

/-- The tracking error of a tick; none after a bad frame (R231, R237). -/
def State.trackError (s : State) (p : PortalId) (f : FbId) : Rat := if (s.fb p f).zeroErr then 0 else (s.fbMeas p f : Rat) - (s.fb p f).xHat

/-- A tracking observer has lost the position (R240). -/
def State.trackLost (s : State) (p : PortalId) (f : FbId) : Bool :=
  decide ((s.parN 0x6005 (uFb p f) : Rat) < |s.trackError p f|) && !(s.fb p f).still && !(s.fb p f).seeding

theorem State.trackLost_of_still {s : State} {p : PortalId} {f : FbId} (h : (s.fb p f).still = true) : s.trackLost p f = false := by simp [State.trackLost, h]

theorem State.trackLost_of_moving {s : State} {p : PortalId} {f : FbId} (hstill : (s.fb p f).still = false) (hseed : (s.fb p f).seeding = false) :
    s.trackLost p f = decide ((s.parN 0x6005 (uFb p f) : Rat) < |s.trackError p f|) := by simp [State.trackLost, hstill, hseed]

/-- An interface after a tick with measured position `m`, bandwidth `bw` and error `e`: at STILL it stands at `m`, while it seeds its position alone follows, else it is advanced
by the error; the error of a bad frame is used up (R231, R237, R238). -/
def Feedback.ticked (x : Feedback) (now : Ts) (lost : Bool) (m bw e : Rat) : Feedback :=
  let y := { x with zeroErr := false, okSince := x.okSince.set 2 (if lost then none else if (x.okSince[2]).isSome then x.okSince[2] else some now) }
  if y.still then { y with xHat := m, vHat := 0, aHat := 0 }
  else if y.seeding then { y with xHat := m }
  else observe bw e y

section Tick
variable {x y : Feedback} {now : Ts} {lost : Bool} {m bw e : Rat} (hy : y = x.ticked now lost m bw e)
include hy

/-- A tick leaves the count, the faults and the reference. -/
theorem Feedback.ticked_kept : y.c = x.c ∧ y.fault = x.fault ∧ y.referenced = x.referenced := by
  subst hy
  unfold Feedback.ticked
  dsimp only
  split
  · exact ⟨rfl, rfl, rfl⟩
  · split <;> exact ⟨rfl, rfl, rfl⟩

theorem Feedback.ticked_still (h : x.still = true) : y.xHat = m ∧ y.vHat = 0 ∧ y.aHat = 0 := by
  simp only [hy, Feedback.ticked, h, if_true, and_self]

theorem Feedback.ticked_tracking (hstill : x.still = false) (hseed : x.seeding = false) {w : Rat} (hw : w = 2 * piR * bw) : y.aHat = x.aHat + w ^ 3 * e / 20000
    ∧ y.vHat = x.vHat + (y.aHat + 3 * w ^ 2 * e) / 20000 ∧ y.xHat = x.xHat + (y.vHat + 3 * w * e) / 20000 ∧ y.zeroErr = false := by
  simp only [hy, hw, Feedback.ticked, hstill, hseed, Bool.false_eq_true, if_false, observe, mul_one_div, and_self]

end Tick

/-- The tick of a running interface. -/
def State.observed (s : State) (p : PortalId) (f : FbId) : State :=
  (s.modFb p f fun x => x.ticked s.ts (s.trackLost p f) (s.fbMeas p f) (s.parN 0x6003 (uFb p f) : Rat) (s.trackError p f)).lockWatch p

theorem State.fb_observed (s : State) (p : PortalId) (f : FbId) :
    (s.observed p f).fb p f = (s.fb p f).ticked s.ts (s.trackLost p f) (s.fbMeas p f) (s.parN 0x6003 (uFb p f) : Rat) (s.trackError p f) :=
  (State.fb_lockWatch ..).trans (State.fb_modFb_same ..)

section Observer
variable (dt : Nat) {p : PortalId} {f : FbId} {s : State}

theorem exec_observerTick (hruns : s.fbRuns p f = true) :
    exec (.observerTick dt p f) s = .next (if s.trackLost p f then ((s.advance dt).observed p f).fbLose p f 2 else (s.advance dt).observed p f) := by
  have hworks : ¬(!(s.advance dt).fbRuns p f) = true := by
    rw [State.advance_fbRuns, hruns]
    decide
  exact (if_neg hworks).trans (apply_ite Host.Outcome.next _ _ _).symm

/-- T_STILL without a count change sets STILL (R238). -/
theorem exec_tStillExpiry {b : Ts} (hruns : s.fbRuns p f = true) (hstill : (s.fb p f).still = false) (hchange : (s.fb p f).lastChange = some b)
    (ht : (s.advance dt).elapsed b (100000 * s.parN 0x6004 (uFb p f)) = true) : exec (.tStillExpiry dt p f) s
      = .next (((s.advance dt).modFb p f fun y => { y with
          still := true, stillAt := s.ts + BitVec.ofNat 56 dt, seeding := false, xHat := (s.fbMeas p f : Rat), vHat := 0, aHat := 0
          wake := some (y.seeding, y.xHat, y.vHat, y.aHat) }).contactWatch p) := by
  have hpar : (s.advance dt).parN 0x6004 (uFb p f) = s.parN 0x6004 (uFb p f) := rfl
  refine if_pos ⟨(s.advance_fbRuns dt p f).trans hruns, ?_, ?_⟩
  · rw [State.advance_fb, hstill]
    rfl
  · rw [State.advance_fb, hchange, State.ran_some, hpar, ht]

end Observer

/-! ## The index (R235, R236, R248) -/

section Index
variable (dt : Nat) {p : PortalId} {f : FbId} {a b z : Bool} {s u : State} (hu : u = (s.advance dt).fbSample p f a b z)
include hu

/-- No edge of Z to its active level in this sample, or an interface without an index. -/
theorem exec_indexEdge_idle (h : u.fbRuns p f = false ∨ u.fbType p f = 4 ∨ u.fbType p f = 5 ∨ z ≠ u.indexLevel p f ∨ (u.fb p f).zAt ≠ some u.ts) :
    exec (.indexEdge dt p f ⟨a, b, z⟩) s = .next u := by
  subst hu
  exact congrArg _ (if_pos (h.imp_left (Bool.not_eq_true' _).mpr))

/-- An edge of Z to its active level is an index, but in a sample with an illegal transition, where it discards the span in progress (R235, R248). -/
theorem exec_indexEdge_edge (hruns : u.fbRuns p f = true) (h4 : u.fbType p f ≠ 4) (h5 : u.fbType p f ≠ 5) (hz : z = u.indexLevel p f) (hzAt : (u.fb p f).zAt = some u.ts) :
    exec (.indexEdge dt p f ⟨a, b, z⟩) s = .next (if (u.fb p f).badAt = some u.ts then u.modFb p f fun x => { x with zAt := none, spanUp := true, spanDown := true }
      else (u.modFb p f fun x => { x with zAt := none }).indexTaken p f) := by
  subst hu
  refine congrArg Host.Outcome.next ((if_neg ?_).trans (if_congr Iff.rfl (State.modFb_modFb ..) rfl))
  simp [hruns, h4, h5, hz.symm, hzAt]

end Index

section Taken
variable {s t : State} {p : PortalId} {f : FbId} (ht : t = s.lineCount p f)
include ht

theorem State.indexTaken_unused (hmode : t.parN 0x6010 (uFb p f) = 0) : s.indexTaken p f = t := by
  unfold State.indexTaken
  simp only [← ht, hmode]

theorem State.indexTaken_always (hmode : t.parN 0x6010 (uFb p f) = 1) : s.indexTaken p f = t.indexReference p f := by
  unfold State.indexTaken
  simp only [← ht, hmode]

theorem State.indexTaken_armed (hmode : t.parN 0x6010 (uFb p f) = 2) : s.indexTaken p f
    = if (t.fb p f).armed ∧ (t.fb p f).armedAt ≠ t.ts then (t.modFb p f fun y => { y with armed := false }).indexReference p f else t := by
  unfold State.indexTaken
  simp only [← ht, hmode]

end Taken

/-! ## References (R233, R240, R241, R248) -/

theorem State.indexReference_eq {s : State} {p : PortalId} {f : FbId} (h : ∀ k c e, (s.fb p f).contactRef = some (k, c, e) → k ≠ s.ts) :
    s.indexReference p f = s.fbReference p f (s.par 0x6012 (uFb p f)) 0 := by
  have hyield : s.contactYield p f = s := by
    unfold State.contactYield
    cases href : (s.fb p f).contactRef with
    | none => rfl
    | some r => exact if_neg (h r.1 r.2.1 r.2.2 href)
  rw [State.indexReference, hyield]

/-- A reference at STILL makes the position the one given, and ends NOT_REFERENCED (R233). -/
theorem State.fb_fbReference {s : State} {p : PortalId} {f : FbId} (hstill : (s.fb p f).still = true) (pos : Int) (src : Nat) : ((s.fbReference p f pos src).fb p f).c = (s.fb p f).c
    ∧ ((s.fbReference p f pos src).fb p f).referenced = true
    ∧ ((s.fbReference p f pos src).fb p f).c0 = (s.fb p f).c - BitVec.ofInt 32 (s.fbSign p f * s.fbCounts p f pos)
    ∧ ((s.fbReference p f pos src).fb p f).fault.getLsbD 5 = false := by
  unfold State.fbReference
  dsimp only
  rw [if_neg (by simp [hstill]), State.fb_fbReferenced, State.fb_modFb_same]
  exact ⟨rfl, rfl, rfl, (getLsbD_setBit _ 5 false (by decide)).trans (if_pos rfl)⟩

section Clear
variable (dt : Nat) {p : PortalId} {f : FbId} {s : State}

theorem exec_closedContactReference {l : LeafId} {b : Ts} (hf : f = fbOfLeaf l) (hruns : s.fbRuns p f = true) (htype : s.fbType p f ≠ 5)
    (huse : s.parN 0x6006 (uFb p f) = 1) (href : (s.fb p f).referenced = false) (hsince : (s.fb p f).contactSince = some b)
    (ht : (s.advance dt).elapsed b 10000000 = true) : exec (.closedContactReference dt p l) s
      = .next (((s.advance dt).modFb p f fun x => { x with contactRef := some (s.ts + BitVec.ofNat 56 dt, x.c0, x.everRef) }).fbReference p f 0 1) := by
  subst hf
  refine if_pos ⟨(s.advance_fbRuns dt p _).trans hruns, htype, huse, ?_, ?_⟩
  · rw [State.advance_fb, href]
    rfl
  · rw [State.advance_fb, hsince, State.ran_some, ht]

/-- A fault clears when its clearing condition has held: the line count and NOT_REFERENCED have conditions of their own (R241). -/
theorem exec_fbFaultClear {n : Fin 6} (h : (if n = 5 then (s.fb p f).referenced else if n = 1 then !(s.fb p f).lastBad else (s.advance dt).ran (s.fb p f).okSince[n] (ms 100)) = true) :
    exec (.fbFaultClear dt p f n) s = .next ((s.advance dt).modFb p f fun y => y.clearFault n.val (s.ts + BitVec.ofNat 56 dt)) :=
  if_pos h

end Clear

/-! ## The echo (R242) -/

theorem sgn_pos {x : Int} : 0 < sgn x ↔ 0 < x := by
  unfold sgn
  split_ifs <;> omega

/-- The echo after one place of its lines (R242). -/
def Echo.stepped (e : Echo) (now : Ts) : Echo :=
  { e with backlog := e.backlog - sgn e.backlog, ab := (e.ab + (if 0 < sgn e.backlog then 1 else 3)) % 4, lastEdge := some now
           overrun := e.overrun && decide (e.backlog - sgn e.backlog ≠ 0) }

theorem Echo.stepped_ab (e : Echo) (now : Ts) : (e.stepped now).ab = (e.ab + (if 0 < e.backlog then 1 else 3)) % 4 := by simp only [Echo.stepped, sgn_pos]

theorem exec_echoOutputStep (dt : Nat) {p : PortalId} {s : State} (hlog : (s.portal p).echo.backlog ≠ 0) (hedge : (s.portal p).echo.lastEdge = none)
    (hsource : (s.parNames 0x6030 (uPortal p)).isSome = true) :
    exec (.echoOutputStep dt p) s = .next ((s.advance dt).modPortal p fun x => { x with echo := (s.portal p).echo.stepped (s.ts + BitVec.ofNat 56 dt) }) := by
  refine if_pos ⟨hlog, ?_, hsource⟩
  rw [State.advance_portal, hedge]

/-- Settles O46: a tick by the state of the observer, an index by its mode, a reference and a fault by their conditions. -/
theorem observerTracks : Obligations.ObserverTracks := by
  unfold Obligations.ObserverTracks
  refine ⟨fun dt p f s hruns => ?_, fun dt p f s => ⟨fun a b z u hu => ⟨exec_indexEdge_idle dt hu, fun hruns h4 h5 hz hzAt => ?_⟩, State.indexReference_eq,
    fun l b => exec_closedContactReference dt, ?_, fun n b h5 h1 hb ht => ?_, fun hbad => ?_, fun href => ?_, fun hlog hedge hsource => ?_⟩⟩
  · have hexec := exec_observerTick dt hruns
    have hfb := (s.advance dt).fb_observed p f
    obtain ⟨hc, hfault, href⟩ := Feedback.ticked_kept hfb
    refine ⟨fun hstill => ?_, fun hstill hseed e w he hw hnear => ?_, fun hstill hseed hgood hfar => ?_, fun b => exec_tStillExpiry dt hruns⟩
    · rw [State.trackLost_of_still hstill, if_neg Bool.false_ne_true] at hexec
      obtain ⟨hx, hv, ha⟩ := Feedback.ticked_still hfb hstill
      exact ⟨_, hexec, hx, hv, ha, hc, hfault⟩
    · subst he
      rw [State.trackLost_of_moving hstill hseed, if_neg (by rw [decide_eq_true_eq]; exact not_lt.2 hnear)] at hexec
      exact ⟨_, _, hexec, rfl, Feedback.ticked_tracking hfb hstill hseed hw⟩
    · have herror : s.trackError p f = (s.fbMeas p f : Rat) - (s.fb p f).xHat := if_neg (by rw [hgood]; decide)
      rw [State.trackLost_of_moving hstill hseed, herror, if_pos (decide_eq_true hfar)] at hexec
      obtain ⟨hc', hfault', href'⟩ := Feedback.ticked_kept (y := (s.fb p f).ticked _ _ _ _ _) rfl
      exact ⟨_, _, hexec, congrArg (State.lockWatch · p) (State.modFb_congr rfl), hc', hfault', href'⟩
  · rw [exec_indexEdge_edge dt hu hruns h4 h5 hz hzAt]
    refine ⟨fun hbad => by rw [if_pos hbad], fun hgood t ht => ?_⟩
    rw [if_neg hgood]
    refine ⟨fun hmode => congrArg _ (State.indexTaken_unused ht hmode), fun hmode => congrArg _ (State.indexTaken_always ht hmode), fun hmode harmed hat => ?_, fun hmode hidle => ?_⟩
    · rw [State.indexTaken_armed ht hmode, if_pos ⟨harmed, hat⟩]
    · rw [State.indexTaken_armed ht hmode, if_neg fun h => Bool.false_ne_true (hidle.symm.trans h.1)]
  · rintro pos src t rfl hstill
    exact State.fb_fbReference hstill pos src
  · refine exec_fbFaultClear dt ?_
    rw [if_neg (fun h => h5 (congrArg Fin.val h)), if_neg (fun h => h1 (congrArg Fin.val h)), hb, State.ran_some, ht]
  · exact exec_fbFaultClear dt (by rw [if_neg (by decide), if_pos rfl, hbad]; rfl)
  · exact exec_fbFaultClear dt href
  · exact ⟨_, _, exec_echoOutputStep dt hlog hedge hsource, rfl, rfl, Echo.stepped_ab .., rfl, rfl⟩

end Sys2Proof.Machine
end

section
/-! The load channels: what the decision of R264 makes of its channel and what it leaves, and when a channel conducts (R264–R267, R282). -/

namespace Sys2Proof.Machine

/-! ## What a change of a channel leaves -/

/-- What a portal has beside its channels, a change of a channel leaves. -/
theorem State.field_modChan {α : Type} (g : Portal → α) (hg : ∀ x y, g { x with chans := y } = g x) (s : State) (p q : PortalId) (c : ChanId) (f : Channel → Channel) :
    g ((s.modChan p c f).portal q) = g (s.portal q) := by
  rw [State.modChan, State.portal_modPortal]
  split
  next h => exact (hg _ _).trans (congrArg (fun r => g (s.portal r)) h)
  · rfl

theorem State.chan_modChan_same (s : State) (p : PortalId) (c : ChanId) (f : Channel → Channel) : (s.modChan p c f).chan p c = f (s.chan p c) :=
  (s.chan_modChan p p c c f).trans (if_pos ⟨rfl, rfl⟩)

theorem State.modChan_congr {s : State} {p : PortalId} {c : ChanId} {f g : Channel → Channel} (h : f (s.chan p c) = g (s.chan p c)) : s.modChan p c f = s.modChan p c g :=
  State.modPortal_congr (congrArg (fun x => { s.portal p with chans := (s.portal p).chans.set c x }) h)

theorem State.modChan_modChan (s : State) (p : PortalId) (c : ChanId) (f g : Channel → Channel) : (s.modChan p c f).modChan p c g = s.modChan p c fun x => g (f x) := by
  simp only [State.modChan, State.modPortal_modPortal, Fin.getElem_fin, Vector.getElem_set_self, Vector.set_set]

/-- A channel put back as it is. -/
theorem State.modChan_self (s : State) (p : PortalId) (c : ChanId) : (s.modChan p c fun _ => s.chan p c) = s := by
  refine State.modPortal_self ?_
  have hchans : (s.portal p).chans.set c (s.chan p c) = (s.portal p).chans := Vector.set_getElem_self _
  exact congrArg (fun y => { s.portal p with chans := y }) hchans

section Reads
variable (s : State) (p q : PortalId) (c d : ChanId) (f : Channel → Channel)

@[simp] theorem State.modChan_present : (s.modChan p c f).present q = s.present q := rfl
@[simp] theorem State.modChan_gates : (s.modChan p c f).gates = s.gates := rfl
@[simp] theorem State.modChan_die (k : DieId) : (s.modChan p c f).die k = s.die k := rfl
@[simp] theorem State.modChan_parN (pid unit : Nat) : (s.modChan p c f).parN pid unit = s.parN pid unit := rfl
@[simp] theorem State.modChan_isRole : (s.modChan p c f).isRole q d = s.isRole q d := rfl
@[simp] theorem State.modChan_slotOfChan : (s.modChan p c f).slotOfChan q d = s.slotOfChan q d := rfl

@[simp] theorem State.modChan_fsCause : (s.modChan p c f).fsCause q = s.fsCause q := by
  have hbeat := State.field_modChan Portal.fsHeartbeat (fun _ _ => rfl) s p q c f
  have hfence := State.field_modChan Portal.fsFenced (fun _ _ => rfl) s p q c f
  unfold State.fsCause
  rw [hbeat, hfence]
  rfl

@[simp] theorem State.modChan_supplyOff : (s.modChan p c f).supplyOff q = s.supplyOff q := by
  have hvls := State.field_modChan Portal.vlsStatus (fun _ _ => rfl) s p q c f
  unfold State.supplyOff
  rw [hvls]

@[simp] theorem State.modChan_efOff : (s.modChan p c f).efOff q d = s.efOff q d := by
  have hvalves := State.field_modChan Portal.valveOff (fun _ _ => rfl) s p q c f
  unfold State.efOff
  rw [hvalves]
  rfl

end Reads

/-! ## What a decision leaves of its channel -/

/-- A channel without what a decision of the state machine changes: the demands, latches, counts, measurements and pulses are left. -/
def Channel.standing (x : Channel) : Channel :=
  { Channel.reset with
    hostDemand := x.hostDemand, seqDemand := x.seqDemand, pulseEnd := x.pulseEnd, pulseReply := x.pulseReply, ocLatch := x.ocLatch, thermLatch := x.thermLatch
    retries := x.retries, tempWarn := x.tempWarn, temp := x.temp, shutdownSeen := x.shutdownSeen, iAvg := x.iAvg, iOn := x.iOn, shutdowns := x.shutdowns
    fsReg := x.fsReg, retryAt := x.retryAt, shutAt := x.shutAt }

/-- The parameters that a rise of the demand takes (R286). -/
def State.chanTaken (s : State) (p : PortalId) (c : ChanId) : List (Nat × Int) := chanLatchPids.map fun q => (q, s.par q (uChan p c))

/-- What the demand makes of a channel: a rise takes the mode and the parameters, its absence ends a retry wait (R271, R286). -/
def Channel.demanded (x : Channel) (want : Bool) (mode : Nat) (taken : List (Nat × Int)) : Channel :=
  if want && !x.demand then { x with demand := true, modeIn := mode, switchings := satInc 4294967295 x.switchings, latched := taken }
  else if want then x
  else { x with demand := false, retrySince := none, latched := [] }

/-- What rows 1 to 3 of R264 make of a channel: off, as it conducts, or the start of its mode; `flash` is the step of a FLASH channel. -/
def Channel.switched (x : Channel) (now : Ts) (allowed flash : Bool) : Channel :=
  if !allowed then { x.drive now false none with allowed := false, pullSince := none, dutyEff := 0, pwmDuty := none }
  else if x.allowed then { x with allowed := true }
  else
    let x := { x with allowed := true }
    match x.modeIn with
    | 1 => { x.drive now true none with dutyEff := 1000 }
    | 4 => { x.drive now true none with pullSince := some now, dutyEff := 1000 }
    | 5 => { x.drive now flash none with dutyEff := if flash then 1000 else 0 }
    | _ => x.drive now false none

/-- What a standing channel shows is the same in two channels that agree there. -/
theorem Channel.field_of_standing {α : Type} (g : Channel → α) (hg : ∀ x : Channel, g x.standing = g x) {x y : Channel} (h : y.standing = x.standing) : g y = g x := by
  rw [← hg y, h, hg]

theorem Channel.standing_demanded (x : Channel) (want : Bool) (mode : Nat) (taken : List (Nat × Int)) : (x.demanded want mode taken).standing = x.standing := by
  unfold Channel.demanded
  split
  · rfl
  · split <;> rfl

theorem Channel.standing_switched (x : Channel) (now : Ts) (allowed flash : Bool) : (x.switched now allowed flash).standing = x.standing := by
  unfold Channel.switched
  split
  · rfl
  · split
    · rfl
    · dsimp only
      split <;> rfl

/-- A channel that is not allowed to conduct is off. -/
theorem Channel.switched_off (x : Channel) (now : Ts) (flash : Bool) : (x.switched now false flash).on = false ∧ (x.switched now false flash).dutyEff = 0 := ⟨rfl, rfl⟩

/-- A channel in mode ON that did not conduct conducts when it is allowed to. -/
theorem Channel.on_switched_start {x : Channel} (hfree : x.allowed = false) (hmode : x.modeIn = 1) (now : Ts) (allowed flash : Bool) :
    (x.switched now allowed flash).on = allowed := by
  cases allowed with
  | false => rfl
  | true =>
    rw [Channel.switched, if_neg (by decide), if_neg (by rw [hfree]; decide)]
    dsimp only
    rw [hmode]
    rfl

/-- The fail-safe side of a channel, once taken, stays through the decision. -/
theorem Channel.failSafe_switched (x : Channel) (now : Ts) (allowed flash : Bool) :
    (x.switched now allowed flash).fsSince = x.fsSince ∧ (x.switched now allowed flash).holdDemand = x.holdDemand := by
  unfold Channel.switched
  split
  · exact ⟨rfl, rfl⟩
  · split
    · exact ⟨rfl, rfl⟩
    · dsimp only
      split <;> exact ⟨rfl, rfl⟩

theorem Channel.failSafe_demanded (x : Channel) (want : Bool) (mode : Nat) (taken : List (Nat × Int)) :
    (x.demanded want mode taken).fsSince = x.fsSince ∧ (x.demanded want mode taken).holdDemand = x.holdDemand := by
  unfold Channel.demanded
  split
  · exact ⟨rfl, rfl⟩
  · split <;> exact ⟨rfl, rfl⟩

section Decision
variable (s : State) (p : PortalId) (c : ChanId)

theorem State.standing_chanFailSafe : (s.chanFailSafe p c).standing = (s.chan p c).standing := by
  unfold State.chanFailSafe
  dsimp only
  split
  · rfl
  · split
    · split <;> rfl
    · rfl
  · rfl
  · rfl

/-- The demand after any fail-safe state, of the channel that the fail-safe side gives. -/
def State.chanWanted : Bool := (s.modChan p c fun _ => s.chanFailSafe p c).wantOn p c

/-- The channel once its demand is decided. -/
def State.chanDemanded : Channel := (s.chanFailSafe p c).demanded (s.chanWanted p c) (s.parN 0x7000 (uChan p c)) (s.chanTaken p c)

/-- The channel may conduct: it is demanded, and rows 1 to 3 of R264 do not hold it off. -/
def State.chanAllowed : Bool := s.chanWanted p c && !(s.modChan p c fun _ => s.chanDemanded p c).heldOff p c

/-- The step of a FLASH channel at this instant. -/
def State.chanFlash : Bool :=
  let t := s.modChan p c fun _ => s.chanDemanded p c
  flashOn (t.chanPar p c 0x7008).toNat (t.chanPar p c 0x7009).toNat (s.pwTs p)

/-- The channel once the decision is taken. -/
def State.chanDecided : Channel := (s.chanDemanded p c).switched s.ts (s.chanAllowed p c) (s.chanFlash p c)

/-- A decision changes its channel alone. -/
theorem State.chanSync_eq : s.chanSync p c = s.modChan p c fun _ => s.chanDecided p c := rfl

theorem State.chan_chanSync : (s.chanSync p c).chan p c = s.chanDecided p c := by rw [State.chanSync_eq, State.chan_modChan_same]

theorem State.chan_chanSync_ne {q : PortalId} {d : ChanId} (h : q ≠ p ∨ d ≠ c) : (s.chanSync p c).chan q d = s.chan q d :=
  (s.chan_modChan p q c d fun _ => s.chanDecided p c).trans (if_neg fun he => h.elim (fun hq => hq he.1.symm) fun hd => hd he.2.symm)

theorem State.standing_chanDemanded : (s.chanDemanded p c).standing = (s.chan p c).standing :=
  (Channel.standing_demanded ..).trans (s.standing_chanFailSafe p c)

/-- The latches, counts and commands of a channel stay through a decision. -/
theorem State.standing_chanSync : ((s.chanSync p c).chan p c).standing = (s.chan p c).standing := by
  rw [State.chan_chanSync]
  exact (Channel.standing_switched ..).trans (s.standing_chanDemanded p c)

end Decision

/-! ## When a channel is off -/

section Off
variable {s : State} {p : PortalId} {c : ChanId}

/-- What holds a changed channel off: the supply, the claim, the flush and the fence as before, latches and retry wait of the changed channel. -/
theorem State.heldOff_modChan (f : Channel → Channel) : (s.modChan p c f).heldOff p c = (s.supplyOff p || (f (s.chan p c)).thermLatch || (f (s.chan p c)).ocLatch
    || (f (s.chan p c)).retrySince.isSome || !s.gates || s.power.flushed || s.efOff p c) := by
  simp only [State.heldOff, State.chan_modChan_same, State.modChan_supplyOff, State.modChan_gates, State.modChan_power, State.modChan_efOff]

/-- A channel that is not allowed to conduct is off after the decision. -/
theorem State.chan_off_of_not_allowed (h : s.chanAllowed p c = false) : ((s.chanSync p c).chan p c).on = false ∧ ((s.chanSync p c).chan p c).dutyEff = 0 := by
  rw [State.chan_chanSync, State.chanDecided, h]
  exact Channel.switched_off ..

/-- Rows 1 to 3 of R264 keep a channel from conducting. -/
theorem State.not_allowed_of_heldOff (h : (s.modChan p c fun _ => s.chanDemanded p c).heldOff p c = true) : s.chanAllowed p c = false := by
  rw [State.chanAllowed, h, Bool.not_true, Bool.and_false]

/-- A channel that is not demanded does not conduct. -/
theorem State.not_allowed_of_not_wanted (h : s.chanWanted p c = false) : s.chanAllowed p c = false := by
  rw [State.chanAllowed, h, Bool.false_and]

/-- What holds a channel off whatever its retry wait, with the absence of its portal and the modes before CONFIGURE, keeps it from conducting. -/
theorem State.not_allowed_of_cause (h : s.supplyOff p = true ∨ (s.chan p c).thermLatch = true ∨ (s.chan p c).ocLatch = true ∨ s.gates = false ∨ s.power.flushed = true
    ∨ s.efOff p c = true ∨ (s.die (pwDie p)).mode.fromConfigure = false ∨ s.present p = false) : s.chanAllowed p c = false := by
  have htherm : (s.chanDemanded p c).thermLatch = (s.chan p c).thermLatch := Channel.field_of_standing Channel.thermLatch (fun _ => rfl) (s.standing_chanDemanded p c)
  have hoc : (s.chanDemanded p c).ocLatch = (s.chan p c).ocLatch := Channel.field_of_standing Channel.ocLatch (fun _ => rfl) (s.standing_chanDemanded p c)
  have hheld := State.heldOff_modChan (s := s) (p := p) (c := c) fun _ => s.chanDemanded p c
  rw [htherm, hoc] at hheld
  obtain h | h | h | h | h | h | h | h := h
  case inr.inr.inr.inr.inr.inr.inl => exact State.not_allowed_of_not_wanted (by simp [State.chanWanted, State.wantOn, h])
  case inr.inr.inr.inr.inr.inr.inr => exact State.not_allowed_of_not_wanted (by simp [State.chanWanted, State.wantOn, h])
  all_goals exact State.not_allowed_of_heldOff (by simp [hheld, h])

end Off

/-! ## When a channel conducts -/

section On
variable {s : State} {p : PortalId} {c : ChanId}

/-- A channel whose fail-safe side has nothing to take or to give back. -/
theorem State.chanFailSafe_settled (h : s.fsCause p = (s.chan p c).fsSince.isSome) : s.chanFailSafe p c = s.chan p c := by
  unfold State.chanFailSafe
  dsimp only
  cases hs : (s.chan p c).fsSince <;> simp_all

/-- The channel at the first fail-safe cause: it keeps the demand and the duty in force (R265). -/
def State.chanHolding (s : State) (p : PortalId) (c : ChanId) : Channel :=
  { s.chan p c with fsSince := some s.ts, holdDemand := (s.chan p c).demand, holdDuty := (s.chan p c).pwmDuty.getD (s.ownerDuty p c) }

/-- A cause that begins, unless the last one ended at this very clock (R282). -/
theorem State.chanFailSafe_begins (hcause : s.fsCause p = true) (hnone : (s.chan p c).fsSince = none) (hpast : ∀ u y, (s.chan p c).past = some (u, y) → u ≠ s.ts) :
    s.chanFailSafe p c = s.chanHolding p c := by
  unfold State.chanFailSafe
  dsimp only
  rw [hcause, hnone]
  dsimp only
  split
  next u y hy => exact if_neg (hpast u y hy)
  · rfl

/-- A settled channel is wanted as it stands. -/
theorem State.chanWanted_settled (h : s.fsCause p = (s.chan p c).fsSince.isSome) : s.chanWanted p c = s.wantOn p c := by
  rw [State.chanWanted, State.chanFailSafe_settled h, State.modChan_self]

/-- The demand after any fail-safe state, where the portal works and the channel has a mode. -/
theorem State.wantOn_eq (hconf : (s.die (pwDie p)).mode.fromConfigure = true) (hpresent : s.present p = true) (hdemand : (s.chan p c).demand = false)
    (hmode : s.parN 0x7000 (uChan p c) = 1) : s.wantOn p c
      = if s.fsCause p then ((s.chan p c).fsReg = 1 || ((s.chan p c).fsReg = 2 && (s.chan p c).holdDemand)) else s.ownerDemand p c := by
  simp [State.wantOn, hconf, hpresent, hdemand, hmode]

/-- A channel in mode ON that nothing holds off, and that was not demanded, conducts exactly when it is wanted. -/
theorem State.on_chanSync_start (hheld : s.heldOff p c = false) (hmode : s.parN 0x7000 (uChan p c) = 1) (hdemand : (s.chanFailSafe p c).demand = false)
    (hfree : (s.chanFailSafe p c).allowed = false) (hretry : (s.chanFailSafe p c).retrySince = (s.chan p c).retrySince) :
    ((s.chanSync p c).chan p c).on = s.chanWanted p c := by
  cases hwant : s.chanWanted p c with
  | false => exact (State.chan_off_of_not_allowed (State.not_allowed_of_not_wanted hwant)).1
  | true =>
    have hrise : s.chanDemanded p c = { s.chanFailSafe p c with
        demand := true, modeIn := 1, switchings := satInc 4294967295 (s.chanFailSafe p c).switchings, latched := s.chanTaken p c } := by
      rw [State.chanDemanded, Channel.demanded, hwant, hdemand, hmode]
      rfl
    have htherm : (s.chanDemanded p c).thermLatch = (s.chan p c).thermLatch := Channel.field_of_standing Channel.thermLatch (fun _ => rfl) (s.standing_chanDemanded p c)
    have hoc : (s.chanDemanded p c).ocLatch = (s.chan p c).ocLatch := Channel.field_of_standing Channel.ocLatch (fun _ => rfl) (s.standing_chanDemanded p c)
    have hwait : (s.chanDemanded p c).retrySince = (s.chan p c).retrySince := by rw [hrise, hretry]
    have hallowed : s.chanAllowed p c = true := by
      rw [State.chanAllowed, hwant, State.heldOff_modChan, htherm, hoc, hwait]
      exact congrArg (!·) hheld
    rw [State.chan_chanSync, State.chanDecided, Channel.on_switched_start (by rw [hrise]; exact hfree) (by rw [hrise]), hallowed]

end On

/-- Settles O35: what holds a channel off keeps it from conducting; else the fail-safe side gives the demand, and a channel that did not conduct follows it. -/
theorem channelDecides : Obligations.ChannelDecides := by
  unfold Obligations.ChannelDecides
  rintro s t p c rfl
  refine ⟨fun h => State.chan_off_of_not_allowed (State.not_allowed_of_cause h), fun hheld hconf hpresent hdemand hfree hmode => ⟨fun hcause hnone => ?_,
    fun hcause hnone hpast => ?_, fun hcause hsome => ?_⟩, fun q d h => State.chan_chanSync_ne s p c h, rfl⟩
  · have hset : s.fsCause p = (s.chan p c).fsSince.isSome := by rw [hcause, hnone]; rfl
    have hside := State.chanFailSafe_settled hset
    rw [State.on_chanSync_start hheld hmode (by rw [hside, hdemand]) (by rw [hside, hfree]) (by rw [hside]), State.chanWanted_settled hset,
      State.wantOn_eq hconf hpresent hdemand hmode, hcause]
    rfl
  · have hside := State.chanFailSafe_begins hcause hnone hpast
    have hwant : s.chanWanted p c = decide ((s.chan p c).fsReg = 1) := by
      have hchan := State.chan_modChan_same s p c fun _ => s.chanHolding p c
      rw [State.chanWanted, hside, State.wantOn_eq (s := s.modChan p c fun _ => s.chanHolding p c) hconf hpresent (by rw [hchan]; exact hdemand) hmode,
        State.modChan_fsCause, hcause, hchan]
      simp [State.chanHolding, hdemand]
    refine ⟨(State.on_chanSync_start hheld hmode (by rw [hside]; exact hdemand) (by rw [hside]; exact hfree) (by rw [hside]; rfl)).trans hwant, ?_⟩
    obtain ⟨hsince, hhold⟩ := Channel.failSafe_switched (s.chanDemanded p c) s.ts (s.chanAllowed p c) (s.chanFlash p c)
    obtain ⟨hsince', hhold'⟩ := Channel.failSafe_demanded (s.chanFailSafe p c) (s.chanWanted p c) (s.parN 0x7000 (uChan p c)) (s.chanTaken p c)
    rw [State.chan_chanSync]
    exact ⟨hsince.trans (hsince'.trans (by rw [hside]; rfl)), hhold.trans (hhold'.trans (by rw [hside]; exact hdemand))⟩
  · have hset : s.fsCause p = (s.chan p c).fsSince.isSome := by rw [hcause, hsome]
    have hside := State.chanFailSafe_settled hset
    rw [State.on_chanSync_start hheld hmode (by rw [hside, hdemand]) (by rw [hside, hfree]) (by rw [hside]), State.chanWanted_settled hset,
      State.wantOn_eq hconf hpresent hdemand hmode, hcause]
    rfl

end Sys2Proof.Machine
end

section
/-! The channel opcodes of the host: the checks that they share, the demand that they set, and the clear of the latches (R262, R263, R273). -/

namespace Sys2Proof.Machine

/-! ## The checks (R263) -/

theorem chanOfUnit_uChan (p : PortalId) (k : ChanId) : chanOfUnit (uChan p k) = some (p, k) := by
  have hunit : uChan p k / 2048 = 2 ∧ uChan p k / 16 % 16 = 3 ∧ uChan p k % 16 < 8 := by
    simp only [uChan]
    omega
  rw [chanOfUnit, if_pos hunit, portal_uChan, chan_uChan]

section Checks
variable {s : State} {h : Handle} {p : PortalId} {cs on : List ChanId} {clear : Bool} {act : State}

/-- Channels that the host owns are in conflict with none. -/
theorem State.chanConflict_none {slots : Bool} (hrole : ∀ k ∈ cs, s.view.roleOf p k.val = none) (hslot : slots = true → ∀ k ∈ cs, s.slotOfChan p k = none) :
    s.chanConflict p cs slots = none := by
  refine List.findSome?_eq_none_iff.2 fun k hk => ?_
  rw [hrole k hk]
  cases slots with
  | false => rfl
  | true => rw [hslot rfl k hk]; rfl

/-- A command to channels that the host owns, of a present portal in a mode that runs, acts: a clear in FENCED too, a demand on channels with a mode. -/
theorem State.chanChecked_act (hpresent : s.present p = true) (hruns : s.mode.runs = true) (hrole : ∀ k ∈ cs, s.view.roleOf p k.val = none)
    (hslot : clear = false → ∀ k ∈ cs, s.slotOfChan p k = none) (hfence : clear = false → (s.portal p).state ≠ .fenced)
    (hmode : ∀ k ∈ on, s.parN 0x7000 (uChan p k) ≠ 0) : s.chanChecked h p cs on clear act = act := by
  have hconflict : s.chanConflict p cs (!clear) = none := State.chanConflict_none hrole fun hs => hslot (by simpa using hs)
  have hstate : ¬(!clear ∧ (s.portal p).state = .fenced) := fun hc => hfence (by simpa using hc.1) hc.2
  have hset : ¬(on.any fun k => decide (s.parN 0x7000 (uChan p k) = 0)) = true := by simpa using hmode
  rw [State.chanChecked, hpresent, hruns, hconflict, if_neg (by decide), if_neg (by decide)]
  dsimp only
  rw [if_neg hstate, if_neg hset]

end Checks

/-! ## The demand (R262) -/

/-- The host's demand of a channel is set, and the state machine decides. -/
def State.hostSet (s : State) (p : PortalId) (k : ChanId) (on : Bool) : State := (s.modChan p k fun x => { x with hostDemand := on }).chanSync p k

/-- A new demand where no CH_PULSE is in progress. -/
theorem State.hostDemand_of_no_pulse {s : State} {p : PortalId} {k : ChanId} (h : (s.chan p k).pulseEnd = none) (on : Bool) : s.hostDemand p k on = s.hostSet p k on := by
  rw [State.hostDemand, h]
  rfl

/-- A channel that the host may command: its portal is present and not FENCED, the sequencer runs, neither a role nor a slot has it, and no CH_PULSE is in progress. -/
structure State.HostCommands (s : State) (p : PortalId) (k : ChanId) : Prop where
  present : s.present p = true
  runs    : s.mode.runs = true
  role    : s.view.roleOf p k.val = none
  slot    : s.slotOfChan p k = none
  pulse   : (s.chan p k).pulseEnd = none
  fence   : (s.portal p).state ≠ .fenced

section Demand
variable {s : State} {h : Handle} {p : PortalId} {k : ChanId}

/-- Time and tag of a command take no channel from the host. -/
theorem State.HostCommands.accepted (hc : s.HostCommands p k) (dt : Nat) (c : CmdHeader) : (s.accepted dt c).HostCommands p k :=
  ⟨hc.present, hc.runs, hc.role, hc.slot, hc.pulse, hc.fence⟩

theorem State.HostCommands.checked (hc : s.HostCommands p k) {on : List ChanId} {act : State} (hmode : ∀ j ∈ on, s.parN 0x7000 (uChan p j) ≠ 0) :
    s.chanChecked h p [k] on false act = act :=
  State.chanChecked_act hc.present hc.runs (List.forall_mem_singleton.2 hc.role) (fun _ => List.forall_mem_singleton.2 hc.slot) (fun _ => hc.fence) hmode

section Opcodes
variable (hc : s.HostCommands p k) (hu : h.unit.toNat = uChan p k) (ps : List Byte)
include hc hu

theorem State.chOn_done (hmode : s.parN 0x7000 (uChan p k) ≠ 0) :
    s.chOn h ps = (s.hostSet p k true).reply h stDone (le 2 ((s.hostSet p k true).chStatus p k)) := by
  rw [State.chOn, hu, chanOfUnit_uChan]
  dsimp only
  rw [hc.checked (List.forall_mem_singleton.2 hmode), State.hostDemand_of_no_pulse hc.pulse]

theorem State.chOff_done : s.chOff h ps = (s.hostSet p k false).reply h stDone (le 2 ((s.hostSet p k false).chStatus p k)) := by
  rw [State.chOff, hu, chanOfUnit_uChan]
  dsimp only
  rw [hc.checked (List.forall_mem_nil _), State.hostDemand_of_no_pulse hc.pulse]

/-- A pulse of an admitted length sets the demand, answers ACCEPTED and owes its final reply at the end of its length. -/
theorem State.chPulse_accepted (hmode : s.parN 0x7000 (uChan p k) ≠ 0) (hlo : 1 ≤ unLe (ps.take 2)) (hhi : unLe (ps.take 2) ≤ 60000) :
    s.chPulse h ps = ((s.hostSet p k true).reply h stAccepted (le 2 ((s.hostSet p k true).chStatus p k))).modChan p k fun x =>
      { x with pulseEnd := some (s.ts + BitVec.ofNat 56 (100000 * unLe (ps.take 2))), pulseReply := some h } := by
  rw [State.chPulse, hu, chanOfUnit_uChan]
  dsimp only
  rw [hc.checked (List.forall_mem_singleton.2 hmode), if_neg (by omega), State.hostDemand_of_no_pulse hc.pulse, State.reply_ts, ms_eq]
  rfl

end Opcodes

end Demand

/-! ## CH_MULTI (R262) -/

/-- CH_MULTI to a portal sets the demands of its channels one by one. -/
theorem State.chMulti_done {s : State} {h : Handle} {p : PortalId} {affect on : Byte} {ks : List ChanId} (hpresent : s.present p = true) (hruns : s.mode.runs = true)
    (hfence : (s.portal p).state ≠ .fenced) (hu : h.unit.toNat = uPortal p) (hmask : on &&& ~~~affect = 0)
    (hks : ks = (List.finRange 8).filter fun k => affect.getLsbD k.val)
    (hown : ∀ k ∈ ks, s.view.roleOf p k.val = none ∧ s.slotOfChan p k = none ∧ (on.getLsbD k.val → s.parN 0x7000 (uChan p k) ≠ 0)) :
    s.chMulti h [affect, on] = (foldState ks (fun k u => u.hostDemand p k (on.getLsbD k.val)) s).reply h stDone
      ((List.finRange 8).flatMap fun k => le 2 ((foldState ks (fun k u => u.hostDemand p k (on.getLsbD k.val)) s).chStatus p k)) := by
  obtain ⟨hpage, hportal, hoff⟩ := portalUnit_fields (o := 0) hu (by decide)
  have hp (hlt : h.unit.toNat / 256 % 8 < 8) : (⟨h.unit.toNat / 256 % 8, hlt⟩ : PortalId) = p := Fin.ext hportal
  subst hks
  rw [State.chMulti]
  dsimp only
  rw [if_pos ⟨hpage, hoff⟩, if_neg (fun hbad => hbad.1 hmask), hp]
  exact State.chanChecked_act hpresent hruns (fun k hk => (hown k hk).1) (fun _ k hk => (hown k hk).2.1) (fun _ => hfence) fun k hk =>
    (hown k (List.mem_of_mem_filter hk)).2.2 (show on.getLsbD k.val = true from (List.mem_filter.1 hk).2)

/-! ## CH_CLEAR (R273) -/

section Clear
variable {s : State} {h : Handle} {p : PortalId} {k : ChanId}

/-- What a clear takes from a channel before the state machine decides. -/
def Channel.cleared (x : Channel) : Channel := { x with ocLatch := false, thermLatch := false, retrySince := none, retries := 0 }

theorem State.raiseAt_chan (s : State) (d : DieId) (src code unit param : Nat) (p : PortalId) (k : ChanId) : (s.raiseAt d src code unit param).chan p k = s.chan p k := by
  rw [State.chan, State.portal, State.raiseAt_portals]
  rfl

/-- A clear leaves no latch, and RETRY_COUNT at 0. -/
theorem State.standing_chanCleared (s : State) (p : PortalId) (k : ChanId) : ((s.chanCleared p k).chan p k).standing = (s.chan p k).cleared.standing := by
  unfold State.chanCleared
  extract_lets x changed t u
  have ht : t.chan p k = (s.chan p k).cleared := State.chan_modChan_same ..
  have hu : u.chan p k = (s.chan p k).cleared := ite_field (g := (State.chan · p k)) ((State.raiseAt_chan ..).trans ht) ht
  rw [State.standing_chanSync, hu]

/-- A clear when the channel was not shut down at this clock (R282). -/
theorem State.chanClear_of_no_shutdown (h : ∀ u a b, (s.chan p k).shutAt = some (u, a, b) → u ≠ s.ts) : s.chanClear p k = s.chanCleared p k := by
  unfold State.chanClear
  split
  next u a b hu => exact if_neg (h u a b hu)
  · rfl

variable (hpresent : s.present p = true) (hruns : s.mode.runs = true) (hrole : s.view.roleOf p k.val = none) (hu : h.unit.toNat = uChan p k) (ps : List Byte)
include hpresent hruns hrole hu

/-- CH_CLEAR asks for the portal, the mode and the role alone. -/
theorem State.chClear_eq : s.chClear h ps = if s.tooHot p k then s.reply h stModeForbids (leI 2 (s.chan p k).temp ++ le 2 (s.chStatus p k))
    else (s.chanClear p k).reply h stDone (le 2 ((s.chanClear p k).chStatus p k)) := by
  rw [State.chClear, hu, chanOfUnit_uChan]
  exact State.chanChecked_act hpresent hruns (List.forall_mem_singleton.2 hrole) (fun hc => absurd hc (by decide)) (fun hc => absurd hc (by decide)) (List.forall_mem_nil _)

theorem State.chClear_done (hcool : (s.chan p k).thermLatch = false ∨ (s.chan p k).temp < 1500) :
    s.chClear h ps = (s.chanClear p k).reply h stDone (le 2 ((s.chanClear p k).chStatus p k)) := by
  have hhot : ¬s.tooHot p k = true := by
    simp only [State.tooHot, Bool.and_eq_true, decide_eq_true_eq, not_and, not_le]
    exact fun htherm => hcool.resolve_left (by rw [htherm]; decide)
  rw [State.chClear_eq hpresent hruns hrole hu, if_neg hhot]

theorem State.chClear_hot (htherm : (s.chan p k).thermLatch = true) (hhot : 1500 ≤ (s.chan p k).temp) :
    s.chClear h ps = s.reply h stModeForbids (leI 2 (s.chan p k).temp ++ le 2 (s.chStatus p k)) := by
  rw [State.chClear_eq hpresent hruns hrole hu, if_pos (by rw [State.tooHot, htherm, decide_eq_true hhot]; rfl)]

end Clear

/-- Settles O36: each opcode by the checks that it shares with the others, and by the demand or the clear that it then does. -/
theorem channelCommands : Obligations.ChannelCommands := by
  unfold Obligations.ChannelCommands
  intro dt c ps p k s hpresent hruns
  refine ⟨?_, fun hu hrole ht => ⟨fun hcool hshut => ?_, fun htherm hhot => ?_⟩, ?_⟩
  · rintro hu hrole hslot hpulse hfence t rfl
    have hc := State.HostCommands.accepted ⟨hpresent, hruns, hrole, hslot, hpulse, hfence⟩ dt c
    exact ⟨fun ht hmode => congrArg Host.Outcome.next ((State.exec_takes dt State.chOn ht).trans (State.chOn_done hc hu [] hmode)),
      fun ht => congrArg Host.Outcome.next ((State.exec_takes dt State.chOff ht).trans (State.chOff_done hc hu [])),
      fun ht hmode hlo hhi => congrArg Host.Outcome.next ((State.exec_takes dt State.chPulse ht).trans (State.chPulse_accepted hc hu ps hmode hlo hhi))⟩
  · have hclear : (s.accepted dt c).chanClear p k = (s.accepted dt c).chanCleared p k := State.chanClear_of_no_shutdown hshut
    have hstanding := (s.accepted dt c).standing_chanCleared p k
    refine ⟨_, rfl, ?_, ?_, ?_, congrArg Host.Outcome.next ((State.exec_takes dt State.chClear ht).trans (State.chClear_done (s := s.accepted dt c) hpresent hruns hrole hu [] hcool))⟩
    · rw [hclear]; exact Channel.field_of_standing Channel.thermLatch (fun _ => rfl) hstanding
    · rw [hclear]; exact Channel.field_of_standing Channel.ocLatch (fun _ => rfl) hstanding
    · rw [hclear]; exact Channel.field_of_standing Channel.retries (fun _ => rfl) hstanding
  · exact congrArg Host.Outcome.next ((State.exec_takes dt State.chClear ht).trans (State.chClear_hot (s := s.accepted dt c) hpresent hruns hrole hu [] htherm hhot))
  · rintro affect on ks t ht hu hmask hfence hks hown rfl
    exact congrArg Host.Outcome.next ((State.exec_takes dt State.chMulti ht).trans (State.chMulti_done (s := s.accepted dt c) hpresent hruns hfence hu hmask hks hown))

end Sys2Proof.Machine
end

section
/-! Load channels as they run: period starts and the ends of a pull-in and of a pulse (R258–R262), protection and retries (R269–R273, R282), and the
anomalies of the supply (R279). -/

namespace Sys2Proof.Machine

/-! ## Period starts (R258–R261) -/

theorem State.vls_chanSync (s : State) (p q : PortalId) (c : ChanId) : ((s.chanSync p c).portal q).vls = (s.portal q).vls :=
  State.field_of_bare Portal.vls (fun _ => rfl) (s.chanSync_bare p c) q

/-- The channel with the measured means of its current: over the last millisecond, and over its on-time where there was one (R275, R277). -/
def Channel.measured (x : Channel) (i : Nat) (on : Option Nat) : Channel := { x with iAvg := min i 8190, iOn := (on.map (min · 8190)).getD x.iOn }

/-- A period start takes the measured voltage and currents, and the state machine decides; the period itself follows. -/
def State.periodMeasured (s : State) (p : PortalId) (c : ChanId) (vls : Int) (i : Nat) (on : Option Nat) : State :=
  ((s.modPortal p fun x => { x with vls := vls }).modChan p c (Channel.measured · i on)).chanSync p c

section Period
variable (dt : Nat) {p : PortalId} {c : ChanId} {vls : Int} {i : Nat} {on : Option Nat} {s u : State}

theorem exec_channelPeriodStart (hu : u = (s.advance dt).periodMeasured p c vls i on) :
    exec (.channelPeriodStart dt p c vls i on) s = .next (if (u.chan p c).allowed && u.periodDue p c then u.periodStart p c else u) := by
  subst hu
  cases on <;> rfl

theorem State.periodMeasured_vls (hu : u = s.periodMeasured p c vls i on) : (u.portal p).vls = vls := by
  rw [hu, State.periodMeasured, State.vls_chanSync, State.field_modChan Portal.vls (fun _ _ => rfl), State.portal_modPortal, if_pos rfl]

/-- In mode ON, and in a pull-in, a period start changes nothing. -/
theorem State.periodStart_idle (h : (u.chan p c).modeIn = 1 ∨ ((u.chan p c).modeIn = 4 ∧ (u.chan p c).pullSince.isSome = true)) : u.periodStart p c = u := by
  obtain h | ⟨h, hpull⟩ := h
  · simp only [State.periodStart, h]
  · simp only [State.periodStart, h, hpull, if_true]

theorem State.periodStart_pwm (hmode : (u.chan p c).modeIn = 2) (hhold : ¬((u.chan p c).fsSince = some u.ts ∧ (u.chan p c).fsReg = 2)) :
    u.periodStart p c = u.modChan p c fun x =>
      x.applyDuty u.ts (if u.fsCause p ∧ (u.chan p c).fsReg = 2 then (u.chan p c).holdDuty else u.ownerDuty p c) (u.pwmPeriod p c) := by
  simp only [State.periodStart, hmode, hhold, if_false, State.chanDuty]

theorem State.periodStart_lamp (hmode : (u.chan p c).modeIn = 3) : u.periodStart p c = u.modChan p c fun x =>
    x.applyDuty u.ts (lampDuty (u.par 0x7004 (uChan p c)) (u.chanPar p c 0x7005) (u.portal p).vls) (u.pwmPeriod p c) := by
  simp only [State.periodStart, hmode, State.chanDuty]

/-- The duty of a VALVE channel after its pull-in is the hold duty. -/
theorem State.chanDuty_held (hmode : (u.chan p c).modeIn = 4) (hpull : (u.chan p c).pullSince = none) :
    u.chanDuty p c = holdDuty (u.chanPar p c 0x7007) (u.chanPar p c 0x7005) (u.portal p).vls := by
  simp only [State.chanDuty, hmode, hpull, Option.isSome_none, Bool.false_eq_true, if_false]

theorem State.periodStart_valve (hmode : (u.chan p c).modeIn = 4) (hpull : (u.chan p c).pullSince = none) : u.periodStart p c = u.modChan p c fun x =>
    x.applyDuty u.ts (holdDuty (u.chanPar p c 0x7007) (u.chanPar p c 0x7005) (u.portal p).vls) (u.pwmPeriod p c) := by
  simp only [State.periodStart, hmode, hpull, Option.isSome_none, Bool.false_eq_true, if_false, State.chanDuty_held hmode hpull]

/-- A step of a FLASH channel is on or off as its pattern says. -/
theorem State.chan_periodStart_flash (hmode : (u.chan p c).modeIn = 5) :
    ((u.periodStart p c).chan p c).on = flashOn (u.chanPar p c 0x7008).toNat (u.chanPar p c 0x7009).toNat (u.pwTs p)
      ∧ ((u.periodStart p c).chan p c).dutyEff = if ((u.periodStart p c).chan p c).on then 1000 else 0 := by
  have hduty : u.chanDuty p c = if flashOn (u.chanPar p c 0x7008).toNat (u.chanPar p c 0x7009).toNat (u.pwTs p) then 1000 else 0 := by
    simp only [State.chanDuty, hmode]
  have hstep : decide (u.chanDuty p c = 1000) = flashOn (u.chanPar p c 0x7008).toNat (u.chanPar p c 0x7009).toNat (u.pwTs p) := by
    rw [hduty]
    cases flashOn (u.chanPar p c 0x7008).toNat (u.chanPar p c 0x7009).toNat (u.pwTs p) <;> rfl
  simp only [State.periodStart, hmode, State.chan_modChan_same, hstep]
  exact ⟨rfl, rfl⟩

end Period

/-- A period of `P` counts starts where the die's time-stamp, shifted by an eighth of the period for each channel, is a multiple of `P` (R258). -/
theorem State.periodDue_iff {s : State} {p : PortalId} {c : ChanId} {f P : Nat} (hfreq : f * P = 100000000) (h8 : P % 8 = 0)
    (hpar : (s.chanPar p c 0x7003).toNat = f) (hmode : (s.chan p c).modeIn ≠ 5) :
    s.periodDue p c = true ↔ ((s.pwTs p).toNat + P - c.val * (P / 8)) % P = 0 := by
  have hpos : 0 < f := Nat.pos_of_ne_zero fun h => by simp [h] at hfreq
  have hshift : c.val * 12500000 = f * (c.val * (P / 8)) := by
    have heighth : f * (P / 8) = 12500000 := by
      have hP : P = 8 * (P / 8) := by omega
      have h : 8 * (f * (P / 8)) = 100000000 := by rw [← hfreq, Nat.mul_left_comm, ← hP]
      omega
    rw [← heighth, Nat.mul_left_comm]
  have hscaled : ((s.pwTs p).toNat * f + 100000000 - c.val * 12500000) % 100000000 = f * (((s.pwTs p).toNat + P - c.val * (P / 8)) % P) := by
    rw [hshift, ← hfreq, Nat.mul_comm _ f, ← Nat.mul_add, ← Nat.mul_sub, Nat.mul_mod_mul_left]
  rw [State.periodDue]
  dsimp only
  rw [if_neg hmode, hpar, decide_eq_true_eq, hscaled]
  refine ⟨fun h => ?_, fun h => by rw [h]; simpa using hpos⟩
  exact Nat.lt_one_iff.1 (Nat.lt_of_mul_lt_mul_left (a := f) (by simpa using h))

/-! ## The ends of a pull-in and of a pulse (R260, R262) -/

@[simp] theorem State.advance_chan (s : State) (dt : Nat) (p : PortalId) (c : ChanId) : (s.advance dt).chan p c = s.chan p c := rfl
@[simp] theorem State.advance_chanPar (s : State) (dt : Nat) (p : PortalId) (c : ChanId) (pid : Nat) : (s.advance dt).chanPar p c pid = s.chanPar p c pid := rfl

/-- A channel parameter hangs on its channel by what the running demand took (R286). -/
theorem State.chanPar_modChan {s : State} {p : PortalId} {c : ChanId} {f : Channel → Channel} (h : (f (s.chan p c)).latched = (s.chan p c).latched) (pid : Nat) :
    (s.modChan p c f).chanPar p c pid = s.chanPar p c pid := by
  unfold State.chanPar Channel.par
  rw [State.chan_modChan_same, h]
  rfl

section Ends
variable {s : State} {p : PortalId} {c : ChanId}

theorem exec_pullInEnd (dt : Nat) {b : Ts} (hb : (s.chan p c).pullSince = some b) (ht : (s.advance dt).elapsed b (100000 * (s.chanPar p c 0x7006).toNat) = true)
    (hmode : (s.chan p c).modeIn = 4) : exec (.pullInEnd dt p c) s = .next ((s.advance dt).modChan p c fun x =>
      { x with pullSince := none, dutyEff := holdDuty (s.chanPar p c 0x7007) (s.chanPar p c 0x7005) (s.portal p).vls }) := by
  have hran : (s.advance dt).ran (s.chan p c).pullSince (ms (s.chanPar p c 0x7006).toNat) = true := by rw [hb, State.ran_some, ht]
  have hduty : ((s.advance dt).modChan p c fun x => { x with pullSince := none }).chanDuty p c
      = holdDuty (s.chanPar p c 0x7007) (s.chanPar p c 0x7005) (s.portal p).vls := by
    rw [State.chanDuty_held (by rw [State.chan_modChan_same]; exact hmode) (by rw [State.chan_modChan_same]), State.chanPar_modChan rfl, State.chanPar_modChan rfl,
      State.field_modChan Portal.vls fun _ _ => rfl]
    rfl
  refine (if_pos hran).trans (congrArg Host.Outcome.next ?_)
  rw [hduty, State.modChan_modChan]

/-- The channel's pulse is over, and its reply no longer owed. -/
def State.pulseOver (s : State) (p : PortalId) (c : ChanId) : State := s.modChan p c fun y => { y with pulseEnd := none, pulseReply := none }

/-- The end of a pulse answers the command that owes its reply. -/
theorem State.endPulse_owed {h : Handle} (hr : (s.chan p c).pulseReply = some h) (status : Nat) :
    s.endPulse p c status = (s.pulseOver p c).reply h status (le 2 ((s.pulseOver p c).chStatus p c)) := by
  simp only [State.endPulse, hr]
  rfl

theorem exec_chPulseEnd (dt : Nat) {b : Ts} {h : Handle} (hb : (s.chan p c).pulseEnd = some b) (hr : (s.chan p c).pulseReply = some h)
    (ht : 0 ≤ (s.ts + BitVec.ofNat 56 dt - b).toInt) : ∃ t : State, exec (.chPulseEnd dt p c) s = .next (t.reply h stDone (le 2 (t.chStatus p c)))
      ∧ (t.chan p c).hostDemand = false ∧ (t.chan p c).pulseEnd = none ∧ (t.chan p c).pulseReply = none := by
  have hstanding : (((s.advance dt).hostSet p c false).chan p c).standing = { (s.chan p c).standing with hostDemand := false } := by
    rw [State.hostSet, State.standing_chanSync, State.chan_modChan_same]
    rfl
  have howed : (((s.advance dt).hostSet p c false).chan p c).pulseReply = some h :=
    (congrArg (fun x : Channel => x.pulseReply) hstanding).trans hr
  have hchan : (((s.advance dt).hostSet p c false).pulseOver p c).chan p c
      = { ((s.advance dt).hostSet p c false).chan p c with pulseEnd := none, pulseReply := none } := State.chan_modChan_same ..
  refine ⟨((s.advance dt).hostSet p c false).pulseOver p c, ?_, ?_, by rw [hchan], by rw [hchan]⟩
  · rw [← State.endPulse_owed howed]
    change execChPulseEnd dt p c s = _
    simp only [execChPulseEnd, State.advance_chan, hb]
    exact if_pos ht
  · rw [hchan]
    exact congrArg (fun x : Channel => x.hostDemand) hstanding

end Ends

/-! ## What an event leaves of the decision -/

/-- A change of a die that leaves its mode. -/
theorem State.mode_modDie (s : State) (d k : DieId) {f : Die → Die} (h : ∀ x : Die, (f x).mode = x.mode) : ((s.modDie d f).die k).mode = (s.die k).mode := by
  rw [State.die_modDie]
  split
  next he => rw [h, he]
  · rfl

section Events
variable (s : State) (d : DieId) (p : PortalId) (c : ChanId)

theorem State.fsCause_modDie {f : Die → Die} (h : ∀ x : Die, (f x).mode = x.mode) : (s.modDie d f).fsCause p = s.fsCause p := by
  unfold State.fsCause
  rw [s.mode_modDie d (pwDie p) h]
  rfl

theorem State.wantOn_modDie {f : Die → Die} (h : ∀ x : Die, (f x).mode = x.mode) : (s.modDie d f).wantOn p c = s.wantOn p c := by
  unfold State.wantOn
  rw [s.mode_modDie d (pwDie p) h, s.fsCause_modDie d p h]
  rfl

variable (src code unit param : Nat)

theorem State.raiseAt_isRole : (s.raiseAt d src code unit param).isRole p c = s.isRole p c := ite_field (g := (State.isRole · p c)) rfl rfl

theorem State.raiseAt_chanPar (pid : Nat) : (s.raiseAt d src code unit param).chanPar p c pid = s.chanPar p c pid := ite_field (g := (State.chanPar · p c pid)) rfl rfl

theorem State.raiseAt_fsCause : (s.raiseAt d src code unit param).fsCause p = s.fsCause p :=
  ite_field (g := (State.fsCause · p)) rfl (s.fsCause_modDie d p fun _ => rfl)

theorem State.raiseAt_wantOn : (s.raiseAt d src code unit param).wantOn p c = s.wantOn p c :=
  ite_field (g := (State.wantOn · p c)) rfl (s.wantOn_modDie d p c fun _ => rfl)

end Events

/-- What the demand of a channel hangs on (R255, R264). -/
def Channel.wishes (x : Channel) : Bool × Nat × Bool × Option Nat × Bool × Nat × Bool :=
  (x.demand, x.modeIn, x.seqDemand, x.slotDuty, x.hostDemand, x.fsReg, x.holdDemand)

theorem State.wantOn_modChan {s : State} {p : PortalId} {c : ChanId} {f : Channel → Channel} (h : (f (s.chan p c)).wishes = (s.chan p c).wishes) :
    (s.modChan p c f).wantOn p c = s.wantOn p c := by
  simp only [Channel.wishes, Prod.mk.injEq] at h
  obtain ⟨hdemand, hmode, hseq, hslot, hhost, hreg, hhold⟩ := h
  simp only [State.wantOn, State.ownerDemand, State.chan_modChan_same, State.modChan_parN, State.modChan_present, State.modChan_die, State.modChan_fsCause,
    State.modChan_isRole, State.modChan_slotOfChan, hdemand, hmode, hseq, hslot, hhost, hreg, hhold]

section Marks
variable (s : State) (pid unit b : Nat) (p : PortalId) (c : ChanId)

theorem State.markSet_chan : (s.markSet pid unit b).chan p c = s.chan p c := rfl
theorem State.markSet_isRole : (s.markSet pid unit b).isRole p c = s.isRole p c := rfl
theorem State.markSet_fsCause : (s.markSet pid unit b).fsCause p = s.fsCause p := rfl
theorem State.markSet_wantOn : (s.markSet pid unit b).wantOn p c = s.wantOn p c := rfl
theorem State.markSet_chanPar (q : Nat) : (s.markSet pid unit b).chanPar p c q = s.chanPar p c q := rfl

end Marks

/-! ## A shutdown (R269, R271) -/

/-- A channel that is shut down: off, and counted. -/
def Channel.shut (x : Channel) (now : Ts) (peak : Nat) (fast : Bool) : Channel :=
  { x.drive now false none with offAt := none, shutAt := some (now, peak, fast), shutdowns := satInc 4294967295 x.shutdowns, shutdownSeen := true, condAcc := 0 }

section Shut
variable (x : Channel) (now : Ts) (peak : Nat) (fast : Bool)

theorem Channel.shut_wishes : (x.shut now peak fast).wishes = x.wishes := rfl
theorem Channel.shut_latched : (x.shut now peak fast).latched = x.latched := rfl
theorem Channel.shut_demand : (x.shut now peak fast).demand = x.demand := rfl
theorem Channel.shut_fsSince : (x.shut now peak fast).fsSince = x.fsSince := rfl
theorem Channel.shut_ocLatch : (x.shut now peak fast).ocLatch = x.ocLatch := rfl
theorem Channel.shut_shutdowns : (x.shut now peak fast).shutdowns = min 4294967295 (x.shutdowns + 1) := satInc_eq_min ..

end Shut

/-- The event of a shutdown. -/
def State.shutdownRaised (s : State) (p : PortalId) (c : ChanId) (peak : Nat) (fast : Bool) : State :=
  s.raiseAt (pwDie p) (pwSrc p) 0x0400 (uChan p c) (min peak 8190 + 65536 * (s.chan p c).retries + 2 ^ 24 * bit fast)

/-- The channel is off, with the event of its shutdown and its mark. -/
def State.shutOff (s : State) (p : PortalId) (c : ChanId) (peak : Nat) (fast : Bool) : State :=
  ((s.shutdownRaised p c peak fast).modChan p c (Channel.shut · (s.shutdownRaised p c peak fast).ts peak fast)).markSet 0x7080 (uChan p c) 9

section Shutdown
variable (s : State) (p : PortalId) (c : ChanId) (peak : Nat) (fast : Bool)

theorem State.shutOff_ts : (s.shutOff p c peak fast).ts = s.ts := by
  rw [State.shutOff, State.markSet_ts, State.modChan_ts, State.shutdownRaised, State.raiseAt_ts]

theorem State.shutOff_chan : (s.shutOff p c peak fast).chan p c = (s.chan p c).shut s.ts peak fast := by
  rw [State.shutOff, State.markSet_chan, State.chan_modChan_same, State.shutdownRaised, State.raiseAt_chan, State.raiseAt_ts]

theorem State.shutOff_isRole : (s.shutOff p c peak fast).isRole p c = s.isRole p c := by
  rw [State.shutOff, State.markSet_isRole, State.modChan_isRole, State.shutdownRaised, State.raiseAt_isRole]

theorem State.shutOff_fsCause : (s.shutOff p c peak fast).fsCause p = s.fsCause p := by
  rw [State.shutOff, State.markSet_fsCause, State.modChan_fsCause, State.shutdownRaised, State.raiseAt_fsCause]

theorem State.shutOff_wantOn : (s.shutOff p c peak fast).wantOn p c = s.wantOn p c := by
  rw [State.shutOff, State.markSet_wantOn, State.wantOn_modChan (Channel.shut_wishes ..), State.shutdownRaised, State.raiseAt_wantOn]

theorem State.shutOff_chanPar (pid : Nat) : (s.shutOff p c peak fast).chanPar p c pid = s.chanPar p c pid := by
  rw [State.shutOff, State.markSet_chanPar, State.chanPar_modChan (Channel.shut_latched ..), State.shutdownRaised, State.raiseAt_chanPar]

/-- A retry wait begins. -/
def State.retryBegun : State := (s.shutOff p c peak fast).modChan p c fun y => { y with retrySince := some s.ts }

/-- The overcurrent latch is set. -/
def State.latchBegun : State := (s.shutOff p c peak fast).modChan p c fun y => { y with ocLatch := true }

/-- The latch has turned the channel off, with its event. -/
def State.overcurrentLatched : State :=
  ((s.latchBegun p c peak fast).chanSync p c).raiseAt (pwDie p) (pwSrc p) 0x0401 (uChan p c) (s.chan p c).retries

/-- A shutdown leads into the wait for a retry, or into the overcurrent latch, which fences the portal of a role channel. -/
theorem State.chanShutdown_eq : s.chanShutdown p c peak fast = if (s.chan p c).retries < (s.chanPar p c 0x700B).toNat then (s.retryBegun p c peak fast).chanSync p c
    else (s.overcurrentLatched p c peak fast).chanLatchFence p c := by
  rw [← s.shutOff_chanPar p c peak fast, State.retryBegun, ← s.shutOff_ts p c peak fast]
  rfl

theorem State.retryBegun_chan : (s.retryBegun p c peak fast).chan p c = { (s.chan p c).shut s.ts peak fast with retrySince := some s.ts } := by
  rw [State.retryBegun, State.chan_modChan_same, State.shutOff_chan]

theorem State.latchBegun_chan : (s.latchBegun p c peak fast).chan p c = { (s.chan p c).shut s.ts peak fast with ocLatch := true } := by
  rw [State.latchBegun, State.chan_modChan_same, State.shutOff_chan]

theorem State.overcurrentLatched_isRole : (s.overcurrentLatched p c peak fast).isRole p c = s.isRole p c := by
  rw [State.overcurrentLatched, State.raiseAt_isRole, State.chanSync_eq, State.modChan_isRole, State.latchBegun, State.modChan_isRole, State.shutOff_isRole]

theorem State.overcurrentLatched_chan :
    (s.overcurrentLatched p c peak fast).chan p c = ((s.latchBegun p c peak fast).chanSync p c).chan p c := State.raiseAt_chan ..

/-- A channel that latches is off, counted and latched. -/
theorem State.overcurrentLatched_off : ((s.overcurrentLatched p c peak fast).chan p c).on = false ∧ ((s.overcurrentLatched p c peak fast).chan p c).ocLatch = true
    ∧ ((s.overcurrentLatched p c peak fast).chan p c).shutdowns = min 4294967295 ((s.chan p c).shutdowns + 1) := by
  have hlatch : ((s.latchBegun p c peak fast).chan p c).ocLatch = true := by rw [State.latchBegun_chan]
  have hcount : ((s.latchBegun p c peak fast).chan p c).shutdowns = min 4294967295 ((s.chan p c).shutdowns + 1) := by
    rw [State.latchBegun_chan, Channel.shut_shutdowns]
  have hstanding := (s.latchBegun p c peak fast).standing_chanSync p c
  rw [State.overcurrentLatched_chan]
  exact ⟨(State.chan_off_of_not_allowed (State.not_allowed_of_cause (.inr (.inr (.inl hlatch))))).1,
    (Channel.field_of_standing Channel.ocLatch (fun _ => rfl) hstanding).trans hlatch, (Channel.field_of_standing Channel.shutdowns (fun _ => rfl) hstanding).trans hcount⟩

variable {s p c}

/-- A settled channel that is demanded and waits for a retry is off, and waits on. -/
theorem State.chan_chanSync_waiting {b : Ts} (hset : s.fsCause p = (s.chan p c).fsSince.isSome) (hwant : s.wantOn p c = true) (hdemand : (s.chan p c).demand = true)
    (hwait : (s.chan p c).retrySince = some b) : ((s.chanSync p c).chan p c).on = false ∧ ((s.chanSync p c).chan p c).retrySince = some b := by
  have hsame : s.chanDemanded p c = s.chan p c := by
    rw [State.chanDemanded, State.chanFailSafe_settled hset, State.chanWanted_settled hset, hwant, Channel.demanded, hdemand]
    rfl
  have hoff : s.chanAllowed p c = false := State.not_allowed_of_heldOff (by rw [State.heldOff_modChan, hsame, hwait]; simp)
  refine ⟨(State.chan_off_of_not_allowed hoff).1, ?_⟩
  rw [State.chan_chanSync, State.chanDecided, hoff, hsame, ← hwait]
  rfl

/-- After a shutdown with a retry left the channel is off and waits, with its latch as it was. -/
theorem State.retryBegun_waits (hwant : s.wantOn p c = true) (hdemand : (s.chan p c).demand = true) (hset : s.fsCause p = (s.chan p c).fsSince.isSome) :
    (((s.retryBegun p c peak fast).chanSync p c).chan p c).on = false ∧ (((s.retryBegun p c peak fast).chanSync p c).chan p c).retrySince = some s.ts
      ∧ (((s.retryBegun p c peak fast).chanSync p c).chan p c).ocLatch = (s.chan p c).ocLatch
      ∧ (((s.retryBegun p c peak fast).chanSync p c).chan p c).shutdowns = min 4294967295 ((s.chan p c).shutdowns + 1) := by
  have hchan := s.retryBegun_chan p c peak fast
  have hstanding := (s.retryBegun p c peak fast).standing_chanSync p c
  obtain ⟨hoff, hwait⟩ : (((s.retryBegun p c peak fast).chanSync p c).chan p c).on = false ∧ (((s.retryBegun p c peak fast).chanSync p c).chan p c).retrySince = some s.ts := by
    refine State.chan_chanSync_waiting ?_ ?_ ?_ ?_
    · rw [hchan, Channel.shut_fsSince, ← hset, State.retryBegun, State.modChan_fsCause, State.shutOff_fsCause]
    · rw [State.retryBegun, State.wantOn_modChan rfl, State.shutOff_wantOn, hwant]
    · rw [hchan, Channel.shut_demand, hdemand]
    · rw [hchan]
  refine ⟨hoff, hwait, (Channel.field_of_standing Channel.ocLatch (fun _ => rfl) hstanding).trans ?_, (Channel.field_of_standing Channel.shutdowns (fun _ => rfl) hstanding).trans ?_⟩
  · rw [hchan, Channel.shut_ocLatch]
  · rw [hchan, Channel.shut_shutdowns]

end Shutdown

/-! ## Protection (R269–R272) -/

section Protection
variable (dt : Nat) {p : PortalId} {c : ChanId} {peak : Nat} {s : State}

/-- A channel that conducts has its blanking window. -/
theorem Channel.conducting_of_on {x : Channel} (h : x.on = true) (now : Ts) : x.conducting now = some x.blankSince := if_pos h

theorem exec_channelLimitShutdown_blanked (hon : (s.chan p c).on = true) (hran : (s.advance dt).ran (s.chan p c).blankSince (100 * (s.chanPar p c 0x700A).toNat) = false) :
    exec (.channelLimitShutdown dt p c peak) s = .next ((s.advance dt).modChan p c fun x => { x with limiting := true }) := by
  change execChannelLimitShutdown dt p c peak s = _
  simp only [execChannelLimitShutdown, State.advance_chan, State.advance_chanPar, Channel.conducting_of_on hon, us_eq, hran, hon, Bool.false_eq_true, if_false, if_true]

theorem exec_channelLimitShutdown_shut (hon : (s.chan p c).on = true) (hran : (s.advance dt).ran (s.chan p c).blankSince (100 * (s.chanPar p c 0x700A).toNat) = true) :
    exec (.channelLimitShutdown dt p c peak) s = .next ((s.advance dt).chanShutdown p c peak false) := by
  change execChannelLimitShutdown dt p c peak s = _
  simp only [execChannelLimitShutdown, State.advance_chan, State.advance_chanPar, Channel.conducting_of_on hon, us_eq, hran, if_true]

theorem exec_channelFastOff (hon : (s.chan p c).on = true) (hpeak : 3 * s.iLimCh p c < 2 * peak) :
    exec (.channelFastOff dt p c peak) s = .next ((s.advance dt).chanShutdown p c peak true) :=
  if_pos ⟨by rw [State.advance_chan, Channel.conducting_of_on hon]; rfl, hpeak⟩

theorem exec_retryIntervalEnd {b : Ts} (hb : (s.chan p c).retrySince = some b) (ht : (s.advance dt).elapsed b (100000 * (s.chanPar p c 0x700C).toNat) = true)
    (hdemand : (s.chan p c).demand = true) (hheld : ((s.advance dt).modChan p c fun x => { x with retrySince := none }).heldOff p c = false) :
    exec (.retryIntervalEnd dt p c) s = .next (((s.advance dt).modChan p c fun x =>
      { x with retrySince := none, retries := min 15 (x.retries + 1), retryAt := some (s.ts + BitVec.ofNat 56 dt, x.retries) }).chanSync p c) := by
  have hran : (s.advance dt).ran (s.chan p c).retrySince (ms (s.chanPar p c 0x700C).toNat) = true := by rw [hb, State.ran_some, ht]
  refine (if_pos ⟨hran, hdemand, by rw [hheld]; rfl⟩).trans ?_
  rw [State.modChan_modChan]
  rfl

theorem exec_retryCountReset (hcond : 100000000 ≤ (s.chan p c).conducted (s.ts + BitVec.ofNat 56 dt)) (htherm : (s.chan p c).thermLatch = false) :
    exec (.retryCountReset dt p c) s = .next ((s.advance dt).modChan p c fun x => { x with retries := 0 }) :=
  if_pos ⟨hcond, by rw [State.advance_chan, htherm]; rfl⟩

end Protection

/-! ## Temperatures of channels (R272, R273) -/

/-- The warning of a temperature, and its end. -/
def State.temperatureWarned (s : State) (p : PortalId) (c : ChanId) (temp : Int) : State :=
  if 1600 < temp ∧ !(s.chan p c).tempWarn then (s.modChan p c fun y => { y with tempWarn := true }).raiseAt (pwDie p) 49 0x0430 (uChan p c) (sat16 temp)
  else if temp < 1500 then s.modChan p c fun y => { y with tempWarn := false } else s

/-- The thermal latch takes back a retry of its clock (R282). -/
def Channel.overheated (y : Channel) (now : Ts) : Channel :=
  match y.retryAt with
  | some (t, n) => if t = now then { y with thermLatch := true, retries := n, retrySince := some t } else { y with thermLatch := true }
  | none => { y with thermLatch := true }

/-- The thermal latch of a channel, with its event. -/
def State.temperatureLatched (s : State) (p : PortalId) (c : ChanId) (temp : Int) : State :=
  (((s.modChan p c (Channel.overheated · s.ts)).chanSync p c).raiseAt (pwDie p) (pwSrc p) 0x0402 (uChan p c) (sat16 temp)).chanLatchFence p c

section Temperature
variable (dt : Nat) {p : PortalId} {c : ChanId} {temp : Int} {s : State}

theorem Channel.overheated_of_no_retry {y : Channel} {now : Ts} (h : ∀ u n, y.retryAt = some (u, n) → u ≠ now) : y.overheated now = { y with thermLatch := true } := by
  unfold Channel.overheated
  split
  next u n hu => exact if_neg (h u n hu)
  · rfl

/-- A temperature of a channel: its warning, and at 175.0 °C its latch. -/
theorem exec_channelTemperature {m : State} (hm : m = (s.advance dt).modChan p c fun x => { x with temp := temp }) : exec (.channelTemperature dt p c temp) s
    = .next (if 1750 ≤ temp ∧ !(m.chan p c).thermLatch then (m.temperatureWarned p c temp).temperatureLatched p c temp else m.temperatureWarned p c temp) := by
  subst hm
  exact (apply_ite Host.Outcome.next ..).symm

/-- Between 150.0 °C and 160.0 °C, and above it once warned, the warning stays as it is. -/
theorem State.temperatureWarned_same (hlo : 1500 ≤ temp) (h : temp ≤ 1600 ∨ (s.chan p c).tempWarn = true) : s.temperatureWarned p c temp = s := by
  have hwarn : ¬(1600 < temp ∧ (!(s.chan p c).tempWarn) = true) := by
    rintro ⟨hhot, hfirst⟩
    exact h.elim (fun hle => absurd hhot (not_lt.2 hle)) fun hw => by simp [hw] at hfirst
  rw [State.temperatureWarned, if_neg hwarn, if_neg (not_lt.2 hlo)]

theorem exec_channelTemperature_calm (hlo : 1500 ≤ temp) (hhi : temp ≤ 1600) :
    exec (.channelTemperature dt p c temp) s = .next ((s.advance dt).modChan p c fun x => { x with temp := temp }) := by
  rw [exec_channelTemperature dt rfl, if_neg (fun h => by omega), State.temperatureWarned_same hlo (.inl hhi)]

theorem exec_channelTemperature_warns (hlo : 1600 < temp) (hhi : temp < 1750) (hwarn : (s.chan p c).tempWarn = false) : exec (.channelTemperature dt p c temp) s
    = .next (((s.advance dt).modChan p c fun x => { x with temp := temp, tempWarn := true }).raiseAt (pwDie p) 49 0x0430 (uChan p c) (sat16 temp)) := by
  rw [exec_channelTemperature dt rfl, if_neg (fun h => by omega), State.temperatureWarned, if_pos ⟨hlo, by rw [State.chan_modChan_same]; simpa using hwarn⟩, State.modChan_modChan]

/-- The latch at 175.0 °C of a warned channel without a role that does not retry at this clock. -/
theorem exec_channelTemperature_latches (hhot : 1750 ≤ temp) (hwarn : (s.chan p c).tempWarn = true) (htherm : (s.chan p c).thermLatch = false) (hrole : s.isRole p c = false)
    (hretry : ∀ u n, (s.chan p c).retryAt = some (u, n) → u ≠ s.ts + BitVec.ofNat 56 dt) : exec (.channelTemperature dt p c temp) s
      = .next ((((s.advance dt).modChan p c fun x => { x with temp := temp, thermLatch := true }).chanSync p c).raiseAt (pwDie p) (pwSrc p) 0x0402 (uChan p c) (sat16 temp)) := by
  have hchan : ((s.advance dt).modChan p c fun x => { x with temp := temp }).chan p c = { s.chan p c with temp := temp } := State.chan_modChan_same ..
  rw [exec_channelTemperature dt rfl, if_pos ⟨hhot, by rw [hchan]; simpa using htherm⟩, State.temperatureWarned_same (by omega) (.inr (by rw [hchan]; exact hwarn)),
    State.temperatureLatched, State.chanLatchFence, State.raiseAt_isRole]
  have hlatch : ((s.advance dt).modChan p c fun x => { x with temp := temp }).modChan p c (Channel.overheated · (s.ts + BitVec.ofNat 56 dt))
      = (s.advance dt).modChan p c fun x => { x with temp := temp, thermLatch := true } := by
    rw [State.modChan_modChan]
    exact State.modChan_congr (Channel.overheated_of_no_retry hretry)
  refine (congrArg Host.Outcome.next (if_neg fun h => Bool.false_ne_true (hrole.symm.trans h))).trans ?_
  exact congrArg (fun t : State => Host.Outcome.next ((t.chanSync p c).raiseAt (pwDie p) (pwSrc p) 0x0402 (uChan p c) (sat16 temp))) hlatch

end Temperature

/-! ## Anomalies of the supply (R279) -/

theorem State.vlsStatus_chansSync (s : State) (p q : PortalId) : ((s.chansSync p).portal q).vlsStatus = (s.portal q).vlsStatus :=
  State.field_of_bare Portal.vlsStatus (fun _ => rfl) (s.chansSync_bare p) q

/-- A portal shows an anomaly or its end, and its channels decide. -/
def State.anomalyShown (s : State) (q : PortalId) (b : Nat) (on : Bool) : State :=
  (s.modPortal q fun x => { x with vlsStatus := setBit x.vlsStatus b on }).chansSync q

/-- The portals that show an anomaly: the one measured, or both of its die for a ground loss. -/
def anomalyPortals (k : SupplyKind) (p : PortalId) : List PortalId := if k = .groundLoss then allPortals.filter fun q => pwDie q = pwDie p else [p]

/-- The bit of an anomaly on the portals that show it, and on the others. -/
theorem State.vlsStatus_anomalies {b : Nat} (hb : b < 8) (on : Bool) (l : List PortalId) (s : State) (q : PortalId) :
    ((foldState l (fun r t => t.anomalyShown r b on) s).portal q).vlsStatus.getLsbD b = if q ∈ l then on else (s.portal q).vlsStatus.getLsbD b := by
  induction l generalizing s with
  | nil => rfl
  | cons r l ih =>
    have hshown : ((s.anomalyShown r b on).portal q).vlsStatus.getLsbD b = if r = q then on else (s.portal q).vlsStatus.getLsbD b := by
      rw [State.anomalyShown, State.vlsStatus_chansSync, State.portal_modPortal]
      split
      · exact (getLsbD_setBit _ b on hb).trans (if_pos rfl)
      · rfl
    rw [foldState_cons, ih, hshown]
    by_cases hq : r = q
    · simp [hq]
    · simp [hq, Ne.symm hq]

section Supply
variable (dt : Nat) {p : PortalId} {k : SupplyKind} {mv : Int} {gnd : Nat} {s t : State} {old : Bool}

theorem exec_supplyAnomaly (ht : t = (s.advance dt).modPortal p fun x => { x with vls := mv }) (hold : old = (s.portal p).vlsStatus.getLsbD (supplyBit k)) :
    exec (.supplyAnomaly dt p k mv gnd) s = if anomalyAt k old mv gnd = old then .next t
      else .next ((foldState (anomalyPortals k p) (fun q u => u.anomalyShown q (supplyBit k) (anomalyAt k old mv gnd)) t).raiseAt (pwDie p) (pwSrc p)
        (if anomalyAt k old mv gnd then 0x0410 else 0x0411) (if k = .groundLoss then uDie (3 + p.val / 2) else uPortal p) (supplyBit k + 65536 * sat16 (mv / 100))) := by
  have hbit : (((s.advance dt).modPortal p fun x => { x with vls := mv }).portal p).vlsStatus.getLsbD (supplyBit k) = old := by
    rw [State.portal_modPortal, if_pos rfl, hold]
    rfl
  change execSupplyAnomaly dt p k mv gnd s = _
  simp only [execSupplyAnomaly, hbit, ht]
  rfl

end Supply

/-- Settles O37: a period start by the mode of the channel, each end by its time, a shutdown by the retries left, and an anomaly by the portals that show it. -/
theorem channelRuns : Obligations.ChannelRuns := by
  unfold Obligations.ChannelRuns
  refine ⟨fun dt p c s => ⟨?_, fun f P hfreq h8 hpar hmode => State.periodDue_iff hfreq h8 hpar hmode, ?_, fun b h hb hr ht => exec_chPulseEnd dt hb hr ht⟩,
    fun dt p c peak s => ⟨exec_channelLimitShutdown_blanked dt, exec_channelLimitShutdown_shut dt, exec_channelFastOff dt, ?_, ?_, exec_retryCountReset dt,
      fun temp => exec_channelTemperature_calm dt, fun temp => exec_channelTemperature_warns dt, ?_⟩, ?_⟩
  · intro vls i on u hu
    have hexec := exec_channelPeriodStart dt hu
    have hvls := State.periodMeasured_vls hu
    refine ⟨fun h => ?_, fun hallowed hdue => ?_⟩
    · rw [hexec]
      obtain h | h | h := h
      · rw [h, Bool.false_and, if_neg Bool.false_ne_true]
      · rw [h, Bool.and_false, if_neg Bool.false_ne_true]
      · rw [State.periodStart_idle h, ite_self]
    · rw [hallowed, hdue, Bool.and_true, if_pos rfl] at hexec
      rw [hexec, ← hvls]
      exact ⟨fun hmode hhold => congrArg _ (State.periodStart_pwm hmode hhold), fun hmode => congrArg _ (State.periodStart_lamp hmode),
        fun hmode hpull => congrArg _ (State.periodStart_valve hmode hpull), fun hmode => ⟨_, rfl, State.chan_periodStart_flash hmode⟩⟩
  · rintro b n hb rfl ht hmode
    exact exec_pullInEnd dt hb ht hmode
  · rintro fast t rfl
    refine ⟨fun hleft hwant hdemand hset => ?_, fun hspent => ?_⟩
    · rw [State.chanShutdown_eq, if_pos hleft]
      exact State.retryBegun_waits peak fast hwant hdemand hset
    · refine ⟨s.overcurrentLatched p c peak fast, ?_, s.overcurrentLatched_off p c peak fast⟩
      rw [State.chanShutdown_eq, if_neg (not_lt.2 hspent), State.chanLatchFence, State.overcurrentLatched_isRole]
  · rintro b u hb ht hdemand rfl hheld
    exact exec_retryIntervalEnd dt hb ht hdemand hheld
  · rintro temp t hhot hwarn htherm hrole hretry rfl
    exact ⟨(State.chan_off_of_not_allowed (State.not_allowed_of_cause (.inr (.inl (by rw [State.chan_modChan_same]))))).1,
      exec_channelTemperature_latches dt hhot hwarn htherm hrole hretry⟩
  · intro dt p k mv gnd s t old ht hold
    have hexec := exec_supplyAnomaly dt (gnd := gnd) ht hold
    refine ⟨fun hsame => hexec.trans (if_pos hsame), fun hk hnew => ?_, fun hk hnew => ?_⟩
    · have hcode : (if (!old) = true then 0x0410 else 0x0411) = if old = true then 0x0411 else 0x0410 := by cases old <;> rfl
      rw [hexec, if_neg hnew, Bool.eq_not.2 hnew, anomalyPortals, if_neg hk, if_neg hk, hcode, foldState_cons, foldState_nil, State.anomalyShown]
    · refine ⟨_, hexec.trans (if_neg hnew), fun q => ?_⟩
      subst hk
      have hother : (t.portal q).vlsStatus = (s.portal q).vlsStatus := by
        rw [ht, State.portal_modPortal]
        split
        next h => subst h; rfl
        · rfl
      have hbit := State.vlsStatus_anomalies (b := 3) (by decide) (anomalyAt .groundLoss old mv gnd) (anomalyPortals .groundLoss p) t q
      rw [State.portal, State.raiseAt_portals]
      refine hbit.trans ?_
      rw [hother, Bool.eq_not.2 hnew, anomalyPortals, if_pos rfl]
      simp [allPortals]

end Sys2Proof.Machine
end

section
/-! The two computations of door-closed-and-locked and their comparison (R296–R298). -/

namespace Sys2Proof.Machine

/-! ## What the terms of a portal are formed from -/

/-- The part of the device that the terms of a portal read besides the mode and the latches: the values in force, the levels accepted and the feedback. -/
structure TermInputs where
  view    : View
  si      : Vector Bool 12
  adopted : Bool
  fbs     : Vector Feedback 3

/-- That part for a portal of the device. -/
def State.termInputs (s : State) (p : PortalId) : TermInputs := ⟨s.view, (s.portal p).si, (s.portal p).siAdopted, (s.portal p).fbs⟩

section Readers
variable {s t : State} {p : PortalId} (h : t.termInputs p = s.termInputs p)
include h

theorem State.view_of_inputs : t.view = s.view := congrArg TermInputs.view h
theorem State.parN_of_inputs (pid unit : Nat) : t.parN pid unit = s.parN pid unit := by rw [State.parN, State.par, State.view_of_inputs h, State.parN, State.par]
theorem State.present_of_inputs : t.present p = s.present p := by rw [State.present, State.view_of_inputs h, State.present]

theorem State.pairSt_of_inputs (k : Fin 3) : t.pairSt p k = s.pairSt p k := by
  have hsi : (t.portal p).si = (s.portal p).si := congrArg TermInputs.si h
  have hadopted : (t.portal p).siAdopted = (s.portal p).siAdopted := congrArg TermInputs.adopted h
  simp only [State.pairSt, hsi, hadopted]

theorem State.lkLocked_of_inputs : t.lkLocked p = s.lkLocked p := by rw [State.lkLocked, State.pairSt_of_inputs h, State.lkLocked]
theorem State.isActive_of_inputs : t.isActive p = s.isActive p := by rw [State.isActive, State.pairSt_of_inputs h, State.isActive]
theorem State.ehActive_of_inputs : t.ehActive p = s.ehActive p := by rw [State.ehActive, State.pairSt_of_inputs h, State.ehActive]

theorem State.siActive_of_inputs (n : Fin 12) (polBit : Nat) (fitBit : Option Nat) : t.siActive p n polBit fitBit = s.siActive p n polBit fitBit := by
  have hsi : (t.portal p).si = (s.portal p).si := congrArg TermInputs.si h
  have hadopted : (t.portal p).siAdopted = (s.portal p).siAdopted := congrArg TermInputs.adopted h
  simp only [State.siActive, hsi, hadopted, State.parN_of_inputs h]

theorem State.near_of_inputs (l : LeafId) (x : Int) : t.near p l x = s.near p l x := by
  have hfbs : (t.portal p).fbs = (s.portal p).fbs := congrArg TermInputs.fbs h
  have hx : t.xObs p l = s.xObs p l := by simp only [State.xObs, State.fbX, State.fb, hfbs, State.parN_of_inputs h]
  rw [State.near, State.near, hx, State.par, State.view_of_inputs h, State.par]

theorem State.inWindow_of_inputs : t.inWindow p = s.inWindow p := by
  have hleaves : t.leaves p = s.leaves p := by rw [State.leaves, State.twoLeaves, State.view_of_inputs h, State.leaves, State.twoLeaves]
  simp only [State.inWindow, hleaves, State.near_of_inputs h]

theorem State.closedContacts_of_inputs : t.closedContacts p = s.closedContacts p := by
  simp only [State.closedContacts, State.cl0, State.cl1, State.siActive_of_inputs h, State.twoLeaves, State.view_of_inputs h]

theorem State.stowed_of_inputs : (!t.stepFitted p || t.stw p) = (!s.stepFitted p || s.stw p) := by
  simp only [State.stepFitted, State.stw, State.siActive_of_inputs h, State.view_of_inputs h]

end Readers

/-! ## An update of each portal by what it reads of itself -/

section Folds
variable {g : PortalId → State → Portal} (hg : ∀ (p q : PortalId) (t : State) (x : Portal), q ≠ p → g p (t.setPortal q x) = g p t)
include hg

/-- When what a portal becomes does not hang on the other portals, an update of each portal of a list gives each what the state before gave it. -/
theorem State.portal_foldState_setPortal {l : List PortalId} (hl : l.Nodup) (s : State) (p : PortalId) :
    (foldState l (fun p t => t.setPortal p (g p t)) s).portal p = if p ∈ l then g p s else s.portal p := by
  induction l generalizing s with
  | nil => rfl
  | cons a l ih =>
    obtain ⟨ha, hl⟩ := List.nodup_cons.1 hl
    rw [foldState_cons, ih hl, State.portal_setPortal]
    by_cases hp : a = p
    · subst hp
      simp [ha]
    · simp [hp, Ne.symm hp, hg p a s _ hp]

theorem State.portal_eachPortal_setPortal (s : State) (p : PortalId) : (s.eachPortal fun p t => t.setPortal p (g p t)).portal p = g p s :=
  (State.portal_foldState_setPortal hg (List.nodup_finRange 8) s p).trans (if_pos (List.mem_finRange p))

theorem State.portal_pdPortals_setPortal (d : PdId) (s : State) (p : PortalId) :
    (foldState (pdPortals d) (fun p t => t.setPortal p (g p t)) s).portal p = if pdOf p = d then g p s else s.portal p := by
  have hl : (pdPortals d).Nodup := (List.nodup_finRange 8).filter _
  rw [State.portal_foldState_setPortal hg hl]
  simp [pdPortals, allPortals]

end Folds

/-- A change of each portal alone reads nothing of the others. -/
theorem State.portal_setPortal_reads (f : Portal → Portal) (p q : PortalId) (t : State) (x : Portal) (h : q ≠ p) :
    f ((t.setPortal q x).portal p) = f (t.portal p) := by rw [State.portal_setPortal, if_neg h]

theorem State.termInputs_setPortal_ne {p q : PortalId} (h : q ≠ p) (s : State) (x : Portal) : (s.setPortal q x).termInputs p = s.termInputs p := by
  rw [State.termInputs, State.portal_setPortal, if_neg h]
  rfl

/-! ## The firmware terms (R296) -/

theorem State.fwTermOf_setPortal_ne {p q : PortalId} (h : q ≠ p) (s : State) (x : Portal) : (s.setPortal q x).fwTermOf p = s.fwTermOf p := by
  have hin := State.termInputs_setPortal_ne h s x
  have hshown : (s.setPortal q x).shownState p = s.shownState p := by
    rw [State.shownState, State.present_of_inputs hin, State.portal_setPortal, if_neg h]
    rfl
  simp only [State.fwTermOf, State.present_of_inputs hin, hshown, State.lockedCond, State.closedContacts_of_inputs hin, State.lkLocked_of_inputs hin, State.pairSt_of_inputs hin,
    State.stowed_of_inputs hin, State.inWindow_of_inputs hin]

/-- Firmware has renewed its terms. -/
def State.fwRenewed (s : State) : State :=
  { s with safety := { s.safety with fwAt := s.ts } }.eachPortal fun p t => t.modPortal p fun x => { x with fwTerm := t.fwTermOf p }

theorem State.fwTerm_fwRenewed (s : State) (p : PortalId) : (s.fwRenewed.portal p).fwTerm = s.fwTermOf p :=
  congrArg Portal.fwTerm (State.portal_eachPortal_setPortal (g := fun p t => { t.portal p with fwTerm := t.fwTermOf p })
    (fun p q t x h => by rw [State.portal_setPortal, if_neg h, State.fwTermOf_setPortal_ne h]) _ p)

theorem State.safety_fwRenewed (s : State) : s.fwRenewed.safety = { s.safety with fwAt := s.ts } := foldState_field (g := State.safety) fun _ _ => rfl

theorem exec_dclFwRenewal (dt : Nat) {s : State} (hmode : s.mode ≠ .init) (hscope : (s.pair 0).scope ≠ .restarting) (hhalt : (s.pair 0).halted = false) :
    exec (.dclFwRenewal dt) s = .next (s.advance dt).fwRenewed :=
  congrArg Host.Outcome.next (if_neg (not_or.2 ⟨hmode, not_or.2 ⟨hscope, ne_true_of_eq_false hhalt⟩⟩))

/-- Every firmware term is taken as false. -/
def State.fwTermsLost (s : State) : State := s.eachPortal fun p t => t.modPortal p fun x => { x with fwTerm := false }

theorem State.fwTerm_fwTermsLost (s : State) (p : PortalId) : (s.fwTermsLost.portal p).fwTerm = false :=
  congrArg Portal.fwTerm (State.portal_eachPortal_setPortal (State.portal_setPortal_reads fun x => { x with fwTerm := false }) s p)

theorem exec_fwStall (dt : Nat) {s : State} (hmode : s.mode ≠ .init) (ht : (s.advance dt).elapsed s.safety.fwAt 200000 = true) :
    exec (.fwStall dt) s = .next ((s.advance dt).fwTermsLost.dclFaultSet 6) := congrArg Host.Outcome.next (if_pos ⟨hmode, ht⟩)

/-! ## DCL_FAULT (R301, R302) -/

theorem State.dclFaultSet_portal (s : State) (b : Nat) (p : PortalId) : (s.dclFaultSet b).portal p = s.portal p := ite_field (g := (State.portal · p)) rfl rfl

/-- A bit is set where it was not, and what stands beside DCL_FAULT in the DCL logic stays. -/
theorem State.safety_dclFaultSet (s : State) (b : Nat) : (s.dclFaultSet b).safety = { s.safety with dclFault := setBit s.safety.dclFault b true } := by
  unfold State.dclFaultSet
  split
  next h =>
    have hset : setBit s.safety.dclFault b true = s.safety.dclFault := by
      refine BitVec.eq_of_getLsbD_eq fun k hk => ?_
      rw [getLsbD_setBit_true _ _ hk]
      by_cases hb : k = b <;> simp [hb, h]
    rw [hset]
  · rfl

/-! ## The hardware terms (R297) -/

/-- EH_LATCH once a frame has been taken. -/
def State.frameLatch (s : State) (p : PortalId) : Bool := (s.portal p).ehLatch || (s.ehActive p && !(s.portal p).ehPrev && !s.isActive p)

/-- A portal with WIN and EH_LATCH as a frame brings them. -/
def State.frameSeen (s : State) (p : PortalId) : Portal := { s.portal p with win := s.inWindow p, ehLatch := s.frameLatch p, ehPrev := s.ehActive p }

/-- The device once a frame has brought them. -/
def State.seen (s : State) (p : PortalId) : State := s.setPortal p (s.frameSeen p)

theorem State.portal_seen (s : State) (p : PortalId) : (s.seen p).portal p = s.frameSeen p := by rw [State.seen, State.portal_setPortal, if_pos rfl]

theorem State.termInputs_seen (s : State) (p : PortalId) : (s.seen p).termInputs p = s.termInputs p := by
  rw [State.termInputs, State.portal_seen]
  rfl

/-- The conditions of LOCK_SETTLE by what a frame shows. -/
theorem State.hwCond_seen (s : State) (p : PortalId) : (s.seen p).hwCond p = (s.inWindow p && !(s.portal p).fencedHw && !s.frameLatch p && s.closedContacts p && s.lkLocked p
    && (!s.stepFitted p || s.stw p) && decide (s.pairSt p 1 = 0) && decide (s.pairSt p 2 = 0)) := by
  have hin := s.termInputs_seen p
  rw [State.hwCond, State.portal_seen, State.closedContacts_of_inputs hin, State.lkLocked_of_inputs hin, State.pairSt_of_inputs hin, State.pairSt_of_inputs hin,
    State.stowed_of_inputs hin]
  dsimp only [State.frameSeen]
  ac_rfl

/-- Since when they have held without a break. -/
def State.settleSince (s : State) (p : PortalId) : Option Ts := if s.hwCond p then (match (s.portal p).hwSince with
  | some t => some t
  | none => some s.ts) else none

theorem State.isSome_settleSince (s : State) (p : PortalId) : (s.settleSince p).isSome = s.hwCond p := by
  unfold State.settleSince
  split
  next h =>
    rw [h]
    split <;> rfl
  next h => rw [Bool.eq_false_of_not_eq_true h, Option.isSome_none]

/-- A time that runs goes on. -/
theorem State.settleSince_of_some {s : State} {p : PortalId} {b : Ts} (hb : (s.portal p).hwSince = some b) (h : s.hwCond p = true) : s.settleSince p = some b := by
  rw [State.settleSince, if_pos h, hb]

/-- A portal with its hardware term as the conditions give it. -/
def State.settledTerm (s : State) (p : PortalId) : Portal :=
  { s.portal p with
    hwSince := s.settleSince p, hwTerm := !s.present p || s.isActive p || s.ran (s.settleSince p) (ms (s.parN 0x1044 (uPortal p))) }

/-- A portal once a frame of it has been taken. -/
def State.framed (s : State) (p : PortalId) : Portal := (s.seen p).settledTerm p

theorem State.inputFrame_eq (s : State) (p : PortalId) : s.inputFrame p = s.setPortal p (s.framed p) := by
  have hsplit : s.inputFrame p = (s.seen p).setPortal p (s.framed p) := rfl
  rw [hsplit, State.seen, State.setPortal, State.setPortal, State.setPortal, Vector.set_set]

theorem State.win_framed (s : State) (p : PortalId) : (s.framed p).win = s.inWindow p := congrArg Portal.win (s.portal_seen p)
theorem State.ehLatch_framed (s : State) (p : PortalId) : (s.framed p).ehLatch = s.frameLatch p := congrArg Portal.ehLatch (s.portal_seen p)
theorem State.isSome_hwSince_framed (s : State) (p : PortalId) : (s.framed p).hwSince.isSome = (s.seen p).hwCond p := (s.seen p).isSome_settleSince p

section HwTerm
variable {s : State} {p : PortalId}

/-- The hardware term of a portal whose time stands at `o` after a frame. -/
theorem State.hwTerm_framed {o : Option Ts} (ho : (s.framed p).hwSince = o) :
    (s.framed p).hwTerm = (!s.present p || s.isActive p || s.ran o (ms (s.parN 0x1044 (uPortal p)))) := by
  have hin := s.termInputs_seen p
  have hterm : (s.framed p).hwTerm = (!(s.seen p).present p || (s.seen p).isActive p || s.ran (s.framed p).hwSince (ms ((s.seen p).parN 0x1044 (uPortal p)))) := rfl
  rw [hterm, State.present_of_inputs hin, State.isActive_of_inputs hin, State.parN_of_inputs hin, ho]

theorem State.hwTerm_framed_free (h : s.present p = false ∨ s.isActive p = true) : (s.framed p).hwTerm = true := by
  rw [State.hwTerm_framed rfl]
  obtain h | h := h <;> simp [h]

variable (hp : s.present p = true) (ha : s.isActive p = false)
include hp ha

theorem State.hwTerm_framed_none (h : (s.framed p).hwSince = none) : (s.framed p).hwTerm = false := by
  rw [State.hwTerm_framed h, hp, ha]
  rfl

theorem State.hwTerm_framed_some {b : Ts} (hb : (s.portal p).hwSince = some b) (h : (s.framed p).hwSince.isSome = true) :
    (s.framed p).hwTerm = s.elapsed b (100000 * s.parN 0x1044 (uPortal p)) := by
  have hbefore : ((s.seen p).portal p).hwSince = some b := (congrArg Portal.hwSince (s.portal_seen p)).trans hb
  have hsince : (s.framed p).hwSince = some b := State.settleSince_of_some hbefore ((s.isSome_hwSince_framed p).symm.trans h)
  rw [State.hwTerm_framed hsince, hp, ha, State.ran_some]
  rfl

end HwTerm

section Congr
variable {s t : State} {p : PortalId} (hportal : t.portal p = s.portal p) (hview : t.view = s.view) (hts : t.ts = s.ts)
include hportal hview

theorem State.termInputs_congr : t.termInputs p = s.termInputs p := by rw [State.termInputs, hportal, hview, State.termInputs]

theorem State.frameSeen_congr : t.frameSeen p = s.frameSeen p := by
  have hin := State.termInputs_congr hportal hview
  simp only [State.frameSeen, State.frameLatch, hportal, State.inWindow_of_inputs hin, State.ehActive_of_inputs hin, State.isActive_of_inputs hin]

theorem State.hwCond_congr : t.hwCond p = s.hwCond p := by
  have hin := State.termInputs_congr hportal hview
  rw [State.hwCond, hportal, State.closedContacts_of_inputs hin, State.lkLocked_of_inputs hin, State.stowed_of_inputs hin, State.pairSt_of_inputs hin, State.pairSt_of_inputs hin,
    State.hwCond]

include hts

theorem State.settledTerm_congr : t.settledTerm p = s.settledTerm p := by
  have hin := State.termInputs_congr hportal hview
  have hsince : t.settleSince p = s.settleSince p := by rw [State.settleSince, State.hwCond_congr hportal hview, hportal, hts, State.settleSince]
  have hran : ∀ o n, t.ran o n = s.ran o n := fun o n => by simp only [State.ran, State.elapsed, hts]
  simp only [State.settledTerm, hportal, hsince, hran, State.present_of_inputs hin, State.isActive_of_inputs hin, State.parN_of_inputs hin]

theorem State.framed_congr : t.framed p = s.framed p :=
  State.settledTerm_congr (by rw [State.portal_seen, State.portal_seen, State.frameSeen_congr hportal hview]) hview hts

end Congr

/-- A frame of a portal control die has come at the DCL logic. -/
def State.frameNoted (s : State) (d : PdId) : State := { s with safety := { s.safety with frameAt := s.safety.frameAt.set d.val s.ts } }

/-- The portals of the die have taken it. -/
def State.frameTaken (s : State) (d : PdId) : State := foldState (pdPortals d) (fun p t => t.inputFrame p) (s.frameNoted d)

theorem State.portal_frameTaken (s : State) (d : PdId) (p : PortalId) : (s.frameTaken d).portal p = if pdOf p = d then s.framed p else s.portal p := by
  have heach : (fun (q : PortalId) (t : State) => t.inputFrame q) = fun q t => t.setPortal q (t.framed q) := funext fun q => funext fun t => t.inputFrame_eq q
  rw [State.frameTaken, heach, State.portal_pdPortals_setPortal (g := fun q t => t.framed q) fun p q t x h =>
    State.framed_congr (by rw [State.portal_setPortal, if_neg h]) rfl rfl]
  exact congrArg (fun x => if pdOf p = d then x else s.portal p) (State.framed_congr rfl rfl rfl)

theorem exec_dclInputFrame (dt : Nat) (d : PdId) {s : State} (h : s.power.configured = true) : exec (.dclInputFrame dt d) s = .next ((s.advance dt).frameTaken d) :=
  congrArg Host.Outcome.next (if_neg (by rw [State.advance_power, h]; decide))

/-- The terms of a die whose frames do not come are false. -/
def State.hwTermsLost (s : State) (d : PdId) : State := foldState (pdPortals d) (fun p t => t.modPortal p fun x => { x with hwTerm := false, hwSince := none }) s

theorem State.portal_hwTermsLost (s : State) (d : PdId) (p : PortalId) :
    (s.hwTermsLost d).portal p = if pdOf p = d then { s.portal p with hwTerm := false, hwSince := none } else s.portal p :=
  State.portal_pdPortals_setPortal (State.portal_setPortal_reads fun x => { x with hwTerm := false, hwSince := none }) d s p

theorem exec_dclFrameMissing (dt : Nat) {d : PdId} {s : State} (ht : (s.advance dt).elapsed s.safety.frameAt[d] 100000 = true) :
    exec (.dclFrameMissing dt d) s = .next ((s.advance dt).hwTermsLost d) := congrArg Host.Outcome.next (if_pos ht)

/-! ## The comparison (R298) -/

/-- A portal once its terms have been compared at time-stamp `now`, or not compared. -/
def Portal.compared (x : Portal) (comparing : Bool) (now : Ts) : Portal :=
  if !comparing then { x with differSince := none, agreeSince := none }
  else if x.fwTerm = x.hwTerm then { x with differSince := none, agreeSince := if x.agreeSince.isSome then x.agreeSince else some now }
  else { x with agreeSince := none, differSince := if x.differSince.isSome then x.differSince else some now }

theorem Portal.isSome_compared (x : Portal) (now : Ts) : (x.compared true now).differSince.isSome = decide (x.fwTerm ≠ x.hwTerm)
    ∧ (x.compared true now).agreeSince.isSome = decide (x.fwTerm = x.hwTerm) := by
  have hruns : ∀ o : Option Ts, (if o.isSome then o else some now).isSome = true := fun o => by cases o <;> rfl
  by_cases h : x.fwTerm = x.hwTerm <;> simp [Portal.compared, h, hruns]

/-- Each portal's terms are compared. -/
def State.termsCompared (s : State) : State := s.eachPortal fun p t => t.modPortal p fun x => x.compared s.comparing s.ts

theorem State.portal_termsCompared (s : State) (p : PortalId) : s.termsCompared.portal p = (s.portal p).compared s.comparing s.ts :=
  State.portal_eachPortal_setPortal (State.portal_setPortal_reads fun x => x.compared s.comparing s.ts) s p

theorem exec_dclTermCompare (dt : Nat) (s : State) : exec (.dclTermCompare dt) s = .next (s.advance dt).termsCompared := rfl

section Faults
variable {dt : Nat} {p : PortalId} {b : Ts} {s : State}

theorem exec_dclTermDisagree (hcmp : (s.advance dt).comparing = true) (hb : (s.portal p).differSince = some b) (ht : (s.advance dt).elapsed b 1000000 = true) :
    exec (.dclTermDisagree dt p) s = .next ((s.advance dt).siFaultSet p 6 (256 * bit (s.portal p).hwTerm + 512 * bit (s.portal p).fwTerm)) :=
  congrArg Host.Outcome.next (if_pos (by rw [hcmp, State.advance_portal, hb, State.ran_some]; exact ht))

theorem exec_dclTermAgree (hb : (s.portal p).agreeSince = some b) (ht : (s.advance dt).elapsed b 10000000 = true) :
    exec (.dclTermAgree dt p) s = .next ((s.advance dt).siFaultClear p 6) :=
  congrArg Host.Outcome.next (if_pos (by rw [State.advance_portal, hb, State.ran_some]; exact ht))

end Faults

/-- Settles O49: the firmware terms as they are renewed and lost, the hardware terms by their frames, and the times of their comparison. -/
theorem dclTerms : Obligations.DclTerms := by
  unfold Obligations.DclTerms
  refine ⟨fun dt s hmode hscope hhalt => ⟨_, exec_dclFwRenewal dt hmode hscope hhalt, ?_, fun p => State.fwTerm_fwRenewed _ p⟩,
    fun dt s hmode ht => ⟨_, exec_fwStall dt hmode ht, fun p => ?_, ?_⟩, fun dt d p s hconf => ⟨_, exec_dclInputFrame dt d hconf, fun hd => ?_, fun hd => ?_⟩,
    fun dt d s ht => ⟨_, exec_dclFrameMissing dt ht, fun p => ?_⟩, fun dt s => ⟨_, exec_dclTermCompare dt s, fun p => ?_⟩,
    fun dt p b s => ⟨exec_dclTermDisagree, exec_dclTermAgree⟩⟩
  · rw [State.safety_fwRenewed]
    rfl
  · rw [State.dclFaultSet_portal, State.fwTerm_fwTermsLost]
  · rw [State.safety_dclFaultSet, getLsbD_setBit_true _ _ (by decide)]
    rfl
  · rw [State.portal_frameTaken, if_neg hd, State.advance_portal]
  · rw [State.portal_frameTaken, if_pos hd]
    refine ⟨State.win_framed _ p, State.ehLatch_framed _ p, ?_, fun h => State.hwTerm_framed_free h, fun hp ha => State.hwTerm_framed_none hp ha,
      fun b hp ha hb => State.hwTerm_framed_some (s := s.advance dt) hp ha hb⟩
    rw [State.isSome_hwSince_framed, State.hwCond_seen, State.win_framed, State.ehLatch_framed]
    rfl
  · rw [State.portal_hwTermsLost]
    by_cases hd : pdOf p = d
    · rw [if_pos hd, if_pos hd]
      exact ⟨rfl, rfl⟩
    · rw [if_neg hd, if_neg hd, State.advance_portal]
  · rw [State.portal_termsCompared, State.advance_portal]
    refine ⟨fun h => ?_, fun h => ?_⟩
    · rw [h]
      exact ⟨rfl, rfl⟩
    · rw [h]
      exact Portal.isSome_compared _ _

end Sys2Proof.Machine
end

section
/-! The driven DCL and the checks of its outputs (R299–R302). -/

namespace Sys2Proof.Machine

/-! ## The half-period boundary (R299, R300) -/

/-- The conditions of the driven DCL, one by one. -/
theorem State.dclTrue_iff (s : State) : s.dclTrue = true ↔ (s.mode = .service ∨ s.mode = .degraded) ∧ s.claim.held = true ∧ (∃ p, s.present p = true)
    ∧ (∀ p, (s.portal p).fwTerm = true ∧ (s.portal p).hwTerm = true) ∧ s.safety.dclFault = 0 ∧ s.power.pfail = false := by
  simp only [State.dclTrue, Bool.and_eq_true, Bool.not_eq_true', decide_eq_true_eq, Mode.door_iff, allPortals, List.any_eq_true, List.all_eq_true, List.mem_finRange, true_and,
    forall_const, and_assoc]

/-- The driven DCL judged `now`, with the wave started, toggled or stopped. -/
def Safety.toggled (x : Safety) (now : Bool) : Safety := { x with driven := now, waveHigh := now && !(x.driven && x.waveHigh) }

theorem Safety.toggled_true (x : Safety) : (x.toggled true).levelA = (!x.levelA) ∧ (x.toggled true).levelB = !(x.toggled true).levelA := ⟨rfl, rfl⟩
theorem Safety.toggled_false (x : Safety) : (x.toggled false).levelA = false ∧ (x.toggled false).levelB = false := ⟨rfl, rfl⟩

/-- The device once a half-period boundary has been taken. -/
def State.halfPeriod (s : State) : State :=
  let y := s.safety.toggled s.dclTrue
  if s.dclTrue = s.safety.driven then { s with safety := y }
  else { s with safety := { y with
    drivenSince := s.ts, reachA := decide (s.safety.rbA = s.dclTrue), reachB := decide (s.safety.rbB = s.dclTrue) } }.dclEvent

theorem exec_dclHalfPeriod (dt : Nat) {s : State} (h : (s.ts + BitVec.ofNat 56 dt).toNat % 50000 = 0) :
    exec (.dclHalfPeriod dt) s = .next (s.advance dt).halfPeriod := congrArg Host.Outcome.next (if_neg (not_not.2 h))

theorem State.portal_halfPeriod (s : State) (p : PortalId) : s.halfPeriod.portal p = s.portal p := ite_field (g := (State.portal · p)) rfl rfl

/-- What hangs on the fault, the verdict and the wave alone is as the toggling leaves it. -/
theorem State.safety_halfPeriod {α : Type} (g : Safety → α) (hg : ∀ (x : Safety) (t : Ts) (a b : Bool), g { x with drivenSince := t, reachA := a, reachB := b } = g x) (s : State) :
    g s.halfPeriod.safety = g (s.safety.toggled s.dclTrue) := ite_field (g := fun t : State => g t.safety) rfl (hg ..)

/-! ## Faults that are found or not (R301) -/

/-- A bit of DCL_FAULT is set when its fault is found. -/
def State.faultFound (s : State) (found : Bool) (b : Nat) : State := if found then s.dclFaultSet b else s

theorem State.safety_faultFound (s : State) (found : Bool) (b : Nat) :
    (s.faultFound found b).safety = { s.safety with dclFault := if found then setBit s.safety.dclFault b true else s.safety.dclFault } := by
  cases found with
  | true => exact s.safety_dclFaultSet b
  | false => rfl

theorem State.getLsbD_faultFound (s : State) (found : Bool) (b : Nat) {k : Nat} (hk : k < 8) :
    (s.faultFound found b).safety.dclFault.getLsbD k = (decide (k = b) && found || s.safety.dclFault.getLsbD k) := by
  rw [State.safety_faultFound]
  cases found with
  | true => exact (getLsbD_setBit_true _ b hk).trans (by rw [Bool.and_true])
  | false => rw [Bool.and_false, Bool.false_or]; rfl

/-! ## The balls (R301) -/

theorem pinCheck_differ {a l : Bool} (h : a ≠ l) (hist : Option Nat) : pinCheck hist (decide (a = l)) = (some 0, hist.isSome) := by
  rw [decide_eq_false h]
  rfl

theorem pinCheck_agree {a l : Bool} (h : a = l) (hist : Option Nat) :
    (pinCheck hist (decide (a = l))).2 = false ∧ (hist = some 0 → (pinCheck hist (decide (a = l))).1 = some 1) ∧ (hist = some 1 → (pinCheck hist (decide (a = l))).1 = none) := by
  rw [decide_eq_true h]
  refine ⟨rfl, ?_, ?_⟩ <;> rintro rfl <;> rfl

/-- The levels of the balls are taken, with the history of each. -/
def State.ballsRead (s : State) (a b : Bool) : State :=
  { s with safety := { s.safety with
    ballA := a, ballB := b, pinA := (pinCheck s.safety.pinA (decide (a = s.safety.levelA))).1, pinB := (pinCheck s.safety.pinB (decide (b = s.safety.levelB))).1 } }

/-- The device once both balls have been checked. -/
def State.ballsChecked (s : State) (a b : Bool) : State :=
  ((s.ballsRead a b).faultFound (pinCheck s.safety.pinA (decide (a = s.safety.levelA))).2 0).faultFound (pinCheck s.safety.pinB (decide (b = s.safety.levelB))).2 1

theorem exec_dclBallCheck (dt : Nat) (a b : Bool) (s : State) : exec (.dclBallCheck dt a b) s = .next ((s.advance dt).ballsChecked a b) := rfl

theorem State.safety_ballsChecked {α : Type} (g : Safety → α) (hg : ∀ (x : Safety) (f : BitVec 8), g { x with dclFault := f } = g x) (s : State) (a b : Bool) :
    g (s.ballsChecked a b).safety = g (s.ballsRead a b).safety := by
  rw [State.ballsChecked, State.safety_faultFound, hg, State.safety_faultFound, hg]

theorem State.dclFault_ballsChecked (s : State) (a b : Bool) :
    (s.ballsChecked a b).safety.dclFault.getLsbD 0 = ((pinCheck s.safety.pinA (decide (a = s.safety.levelA))).2 || s.safety.dclFault.getLsbD 0)
    ∧ (s.ballsChecked a b).safety.dclFault.getLsbD 1 = ((pinCheck s.safety.pinB (decide (b = s.safety.levelB))).2 || s.safety.dclFault.getLsbD 1) := by
  rw [State.ballsChecked, State.getLsbD_faultFound _ _ _ (by decide), State.getLsbD_faultFound _ _ _ (by decide), State.getLsbD_faultFound _ _ _ (by decide),
    State.getLsbD_faultFound _ _ _ (by decide)]
  exact ⟨rfl, rfl⟩

/-! ## The readbacks (R301) -/

/-- A readback has reached the driven DCL since its last change. -/
def Safety.reach (x : Safety) (isB : Bool) : Bool := if isB then x.reachB else x.reachA

/-- The bit of DCL_FAULT of a readback: pick-up or drop, by the driven DCL. -/
def Safety.readbackBit (x : Safety) (isB : Bool) : Nat := (if x.driven then 2 else 4) + bit isB

/-- A level of a readback is taken. -/
def State.readBack (s : State) (isB level : Bool) : State :=
  { s with safety := if isB then { s.safety with rbB := level, reachB := s.safety.reach isB || decide (level = s.safety.driven) }
    else { s.safety with rbA := level, reachA := s.safety.reach isB || decide (level = s.safety.driven) } }

theorem State.safety_readBack (s : State) (isB level : Bool) : (if isB then (s.readBack isB level).safety.rbB else (s.readBack isB level).safety.rbA) = level
    ∧ (s.readBack isB level).safety.reach isB = (s.safety.reach isB || decide (level = s.safety.driven)) ∧ (s.readBack isB level).safety.dclFault = s.safety.dclFault := by
  cases isB <;> exact ⟨rfl, rfl, rfl⟩

/-- A readback leaves the driven DCL that it had followed, while the device holds the claim. -/
def State.readbackFails (s : State) (isB level : Bool) : Bool := s.claim.held && !decide (level = s.safety.driven) && s.safety.reach isB

theorem exec_dclReadbackChange (dt : Nat) (isB level : Bool) (s : State) : exec (.dclReadbackChange dt isB level) s
    = .next (((s.advance dt).readBack isB level).faultFound (s.readbackFails isB level) (s.safety.readbackBit isB)) := rfl

theorem exec_dclPickupDropTimeout {dt : Nat} {isB : Bool} {s : State} (hclaim : s.claim.held = true) (hreach : s.safety.reach isB = false)
    (ht : (s.advance dt).elapsed s.safety.drivenSince (100000 * s.parN (if s.safety.driven then 0x8012 else 0x8013) 0) = true) :
    exec (.dclPickupDropTimeout dt isB) s = .next ((s.advance dt).dclFaultSet (s.safety.readbackBit isB)) := by
  rw [← ms_eq] at ht
  refine congrArg Host.Outcome.next (if_pos ?_)
  change (s.claim.held && !s.safety.reach isB && _) = true
  rw [hclaim, hreach]
  exact ht

/-- Settles O50: the driven DCL by its conditions, a ball by the history of its checks, a readback by the driven DCL that it follows. -/
theorem dclDriven : Obligations.DclDriven := by
  unfold Obligations.DclDriven
  refine ⟨fun dt s h => ⟨_, exec_dclHalfPeriod dt h, ?_⟩, fun dt a b s => ⟨_, exec_dclBallCheck dt a b s, ?_⟩, ?_⟩
  · have hdriven : (s.advance dt).halfPeriod.safety.driven = s.dclTrue := State.safety_halfPeriod Safety.driven (fun _ _ _ _ => rfl) (s.advance dt)
    have hA : (s.advance dt).halfPeriod.safety.levelA = (s.safety.toggled s.dclTrue).levelA := State.safety_halfPeriod Safety.levelA (fun _ _ _ _ => rfl) (s.advance dt)
    have hB : (s.advance dt).halfPeriod.safety.levelB = (s.safety.toggled s.dclTrue).levelB := State.safety_halfPeriod Safety.levelB (fun _ _ _ _ => rfl) (s.advance dt)
    have hfault : (s.advance dt).halfPeriod.safety.dclFault = s.safety.dclFault := State.safety_halfPeriod Safety.dclFault (fun _ _ _ _ => rfl) (s.advance dt)
    rw [hdriven, hA, hB]
    refine ⟨s.dclTrue_iff, fun h => ?_, fun h => ?_, hfault, fun p => State.portal_halfPeriod _ p⟩
    · rw [h]
      exact s.safety.toggled_true
    · rw [h]
      exact s.safety.toggled_false
  · have hpinA : ((s.advance dt).ballsChecked a b).safety.pinA = (pinCheck s.safety.pinA (decide (a = s.safety.levelA))).1 :=
      State.safety_ballsChecked Safety.pinA (fun _ _ => rfl) (s.advance dt) a b
    obtain ⟨h0, h1⟩ := (s.advance dt).dclFault_ballsChecked a b
    rw [State.advance_safety] at h0 h1
    rw [hpinA, h0, h1]
    refine ⟨State.safety_ballsChecked Safety.ballA (fun _ _ => rfl) _ a b, State.safety_ballsChecked Safety.ballB (fun _ _ => rfl) _ a b, fun h hsome => ?_, fun h => ?_,
      fun h => (pinCheck_agree h _).2.1, fun h => (pinCheck_agree h _).2.2, fun h => ?_, fun h hsome => ?_, fun h => ?_⟩
    · rw [pinCheck_differ h, hsome, Bool.true_or]
    · rw [pinCheck_differ h]
    · rw [(pinCheck_agree h _).1, Bool.false_or]
    · rw [pinCheck_differ h, hsome, Bool.true_or]
    · rw [(pinCheck_agree h _).1, Bool.false_or]
  · rintro dt isB level s reached bitNo rfl rfl
    refine ⟨⟨_, exec_dclReadbackChange dt isB level s, ?_⟩, exec_dclPickupDropTimeout⟩
    obtain ⟨hlevel, hreach, hfault⟩ := (s.advance dt).safety_readBack isB level
    rw [State.safety_faultFound]
    refine ⟨hlevel, hreach, ?_⟩
    have hfails : s.readbackFails isB level = true ↔ s.claim.held ∧ level ≠ s.safety.driven ∧ s.safety.reach isB := by
      simp [State.readbackFails, and_assoc]
    dsimp only
    rw [hfault]
    exact if_congr hfails rfl rfl

end Sys2Proof.Machine
end

section
/-! The presses of the safety reset (R312–R315, R318). -/

namespace Sys2Proof.Machine

/-! ## How a press is followed (R312–R314) -/

/-- A press that begins. -/
def Press.began (now : Ts) : Press := ⟨now, none, none, none, none, false, false⟩

/-- A press that sees its pair go from the state `was` to the state `st`: the time at which it becomes ASSERTED, the one at which it first leaves that, and its latest run. -/
def Press.followed (x : Press) (was st : Nat) (now : Ts) : Press :=
  let x := if st = 1 ∧ x.asserted.isNone ∧ !(ms 100 < now.since x.start) then { x with asserted := some now } else x
  let x := if was = 1 ∧ st ≠ 1 ∧ x.leaving.isNone then { x with leaving := some now } else x
  if st = 1 ∧ was ≠ 1 then { x with run := some now, runEnd := none } else if was = 1 ∧ st ≠ 1 then { x with runEnd := some now } else x

theorem Press.began_followed (now : Ts) : (Press.began now).followed 0 2 now = Press.began now := rfl

section Asserted
variable {x : Press} {was : Nat} {now : Ts} (hwas : was ≠ 1)
include hwas

theorem Press.followed_asserted (hnone : x.asserted = none) (h : now.since x.start ≤ 10000000) : x.followed was 1 now = { x with asserted := some now, run := some now, runEnd := none } := by
  have htime : ¬ms 100 < now.since x.start := not_lt.2 h
  simp [Press.followed, hnone, hwas, htime]

theorem Press.followed_late (h : 10000000 < now.since x.start) : x.followed was 1 now = { x with run := some now, runEnd := none } := by
  have htime : ms 100 < now.since x.start := h
  simp [Press.followed, hwas, htime]

end Asserted

/-- A release changes of a press only when it left ASSERTED and when its run ended. -/
theorem Press.followed_released (x : Press) (was : Nat) (now : Ts) : ∃ l r, x.followed was 0 now = { x with leaving := l, runEnd := r } ∧ l.getD now = x.leaving.getD now := by
  by_cases hwas : was = 1
  · cases hl : x.leaving with
    | none => exact ⟨some now, some now, by simp [Press.followed, hwas, hl], rfl⟩
    | some t => exact ⟨some t, some now, by simp [Press.followed, hwas, hl], rfl⟩
  · exact ⟨x.leaving, x.runEnd, by simp [Press.followed, hwas], rfl⟩

/-- The levels of the pair are taken. -/
def State.srTaken (s : State) (a b : Bool) : State := { s with safety := { s.safety with srA := a, srB := b } }

/-- A press as it stands. -/
def State.pressKept (s : State) (x : Press) : State := { s with safety := { s.safety with press := some x } }

/-- A press is judged at its end, reported when it is late, or goes on. -/
def State.pressJudged (s : State) (st : Nat) (x : Press) : State :=
  if st = 0 then s.pressEnd x
  else if x.asserted.isNone && !x.reported && !x.voided && s.elapsed x.start (ms 100) then (s.pressKept { x with reported := true }).resetEvent 4 0
  else s.pressKept x

/-- The press in progress while the pair is in the state `st`: the one before, or one that begins. -/
def State.pressNow (s : State) (st : Nat) : Option Press :=
  match s.safety.press with
  | some x => some x
  | none => if st = 0 then none else some (.began s.ts)

/-- The press in progress, if there is one, is followed and judged. -/
def State.pressTaken (s : State) (was st : Nat) : State :=
  match s.pressNow st with
  | none => s
  | some x => s.pressJudged st (x.followed was st s.ts)

section Edge
variable (dt : Nat) (a b : Bool) (s : State)

theorem exec_safetyResetEdge : exec (.safetyResetEdge dt a b) s
    = .next (((s.advance dt).srTaken a b).pressTaken (pairState s.safety.srA s.safety.srB) (pairState a b)) := rfl

variable {a b s}

theorem exec_safetyResetEdge_none (h : ((s.advance dt).srTaken a b).pressNow (pairState a b) = none) :
    exec (.safetyResetEdge dt a b) s = .next ((s.advance dt).srTaken a b) := by rw [exec_safetyResetEdge, State.pressTaken, h]

theorem exec_safetyResetEdge_some {x : Press} (h : ((s.advance dt).srTaken a b).pressNow (pairState a b) = some x) : exec (.safetyResetEdge dt a b) s
    = .next (((s.advance dt).srTaken a b).pressJudged (pairState a b) (x.followed (pairState s.safety.srA s.safety.srB) (pairState a b) (s.ts + BitVec.ofNat 56 dt))) := by
  rw [exec_safetyResetEdge, State.pressTaken, h]
  rfl

end Edge

section PressNow
variable {s : State} {st : Nat}

theorem State.pressNow_of_some {x : Press} (h : s.safety.press = some x) : s.pressNow st = some x := by rw [State.pressNow, h]
theorem State.pressNow_idle (h : s.safety.press = none) (hst : st = 0) : s.pressNow st = none := by simp only [State.pressNow, h, hst, if_true]
theorem State.pressNow_begins (h : s.safety.press = none) (hst : st ≠ 0) : s.pressNow st = some (.began s.ts) := by simp only [State.pressNow, h, hst, if_false]

end PressNow

/-! ## How a press is judged (R313, R314) -/

section Judged
variable {s : State} {st : Nat} {x : Press} (hst : st ≠ 0)
include hst

theorem State.pressJudged_goes_on (h : x.asserted.isSome = true ∨ s.elapsed x.start 10000000 = false) : s.pressJudged st x = s.pressKept x := by
  have htime : s.elapsed x.start (ms 100) = s.elapsed x.start 10000000 := rfl
  rw [State.pressJudged, if_neg hst, htime, if_neg]
  obtain h | h := h
  · simp [Option.isSome_iff_ne_none.1 h]
  · simp [h]

theorem State.pressJudged_late (hnone : x.asserted = none) (hrep : x.reported = false) (hvoid : x.voided = false) (ht : s.elapsed x.start 10000000 = true) :
    s.pressJudged st x = (s.pressKept { x with reported := true }).resetEvent 4 0 := by
  rw [State.pressJudged, if_neg hst, if_pos]
  rw [hnone, hrep, hvoid]
  exact ht

end Judged

section EdgeJudged
variable {dt : Nat} {a b : Bool} {s : State} {x y : Press} (hnow : ((s.advance dt).srTaken a b).pressNow (pairState a b) = some x)
  (hy : x.followed (pairState s.safety.srA s.safety.srB) (pairState a b) (s.ts + BitVec.ofNat 56 dt) = y)
include hnow hy

theorem exec_safetyResetEdge_ends (hst : pairState a b = 0) : exec (.safetyResetEdge dt a b) s = .next (((s.advance dt).srTaken a b).pressEnd y) := by
  rw [exec_safetyResetEdge_some dt hnow, hy, State.pressJudged, if_pos hst]

variable (hst : pairState a b ≠ 0)
include hst

theorem exec_safetyResetEdge_goes_on (h : y.asserted.isSome = true ∨ (s.advance dt).elapsed y.start 10000000 = false) :
    exec (.safetyResetEdge dt a b) s = .next (((s.advance dt).srTaken a b).pressKept y) := by
  rw [exec_safetyResetEdge_some dt hnow, hy, State.pressJudged_goes_on (s := (s.advance dt).srTaken a b) hst h]

theorem exec_safetyResetEdge_late (hnone : y.asserted = none) (hrep : y.reported = false) (hvoid : y.voided = false) (ht : (s.advance dt).elapsed y.start 10000000 = true) :
    exec (.safetyResetEdge dt a b) s = .next ((((s.advance dt).srTaken a b).pressKept { y with reported := true }).resetEvent 4 0) := by
  rw [exec_safetyResetEdge_some dt hnow, hy, State.pressJudged_late (s := (s.advance dt).srTaken a b) hst hnone hrep hvoid ht]

end EdgeJudged

section Ends
variable {s : State} {x : Press}

/-- The device without a press. -/
def State.pressOver (s : State) : State := { s with safety := { s.safety with press := none, jammed := false } }

/-- A press that was ASSERTED, not reported and not voided is judged by its times. -/
theorem State.pressEnd_asserted {t0 : Ts} (hjam : s.safety.jammed = false) (ht : x.asserted = some t0) (hrep : x.reported = false) (hvoid : x.voided = false) {left : Ts} {held : Nat}
    (hleft : x.leaving.getD s.ts = left) (hheld : left.since t0 = held) :
    s.pressEnd x = if held < 5000000 then s.pressOver.resetEvent 1 held else if 200000000 < held then s.pressOver.resetEvent 2 held
      else if 10000000 < s.ts.since left then s.pressOver.resetEvent 4 held else s.pressOver.cleanEdge held := by
  simp only [State.pressEnd, hjam, ht, hrep, hvoid, hleft, hheld, Bool.false_eq_true, if_false]
  rfl

end Ends

/-! ## A clean edge (R302, R315, R318) -/

theorem State.dclFault_clearDclFault (s : State) : s.clearDclFault.safety.dclFault = if s.safety.rbA = false ∧ s.safety.rbB = false ∧ s.safety.ballA = false ∧ s.safety.ballB = false
    ∧ s.elapsed s.safety.fwAt 200000 = false then 0 else s.safety.dclFault := by
  have htime : s.elapsed s.safety.fwAt (ms 2) = s.elapsed s.safety.fwAt 200000 := rfl
  by_cases hzero : s.safety.dclFault = 0
  · simp [State.clearDclFault, hzero]
  · simp only [State.clearDclFault, htime, hzero, ne_eq, not_false_eq_true, true_and, Bool.not_eq_true']
    split <;> rfl

theorem State.clearDclFault_field {β : Type} {g : State → β} (hg : ∀ t : State, g { t with safety := { t.safety with dclFault := 0 } }.dclEvent = g t) (s : State) :
    g s.clearDclFault = g s := ite_field (hg s) rfl

section CleanEdge
variable {s : State} (hcause : ∀ c, s.safety.causeAt = some c → s.elapsed c 10000 = true) (hcommit : ¬(s.mode = .safe ∧ s.committing = true)) (n : Nat)
include hcause hcommit

/-- An edge that meets neither a new SAFE cause nor the commit that leaves SAFE takes effect. -/
theorem State.cleanEdge_effective : s.cleanEdge n = if s.mode = .safe then
    (s.resetEvent 0 n).clearDclFault.startCommit (if s.modeCause &&& 0x18#16 = 0 then .configure else .test) none none else (s.resetEvent 0 n).clearDclFault := by
  have hmode : (s.resetEvent 0 n).clearDclFault.mode = s.mode := State.clearDclFault_field (fun _ => rfl) (s.resetEvent 0 n)
  have hmodeCause : (s.resetEvent 0 n).clearDclFault.modeCause = s.modeCause := State.clearDclFault_field (fun _ => rfl) (s.resetEvent 0 n)
  have hsafe : (decide (s.mode = .safe) && s.committing) = false := by simpa using hcommit
  unfold State.cleanEdge
  dsimp only
  rw [hmode, hmodeCause, hsafe]
  cases hc : s.safety.causeAt with
  | none => exact if_neg (by simp)
  | some c =>
    have htime : s.elapsed c (us 100) = true := hcause c hc
    exact if_neg (by simp [htime])

end CleanEdge

/-! ## What a press leaves of the portals (R315) -/

theorem State.portal_cleanEdge (s : State) (n : Nat) (p : PortalId) : (s.cleanEdge n).portal p = s.portal p := by
  have hclear : (s.resetEvent 0 n).clearDclFault.portal p = s.portal p := State.clearDclFault_field (g := (State.portal · p)) (fun _ => rfl) (s.resetEvent 0 n)
  exact ite_field (g := (State.portal · p)) rfl (ite_field (g := (State.portal · p)) hclear hclear)

theorem State.portal_pressEnd (s : State) (x : Press) (p : PortalId) : (s.pressEnd x).portal p = s.portal p := by
  unfold State.pressEnd
  dsimp only
  split
  · rfl
  · split
    · exact ite_field (g := (State.portal · p)) rfl rfl
    · split
      · rfl
      · exact ite_field (g := (State.portal · p)) rfl (ite_field (g := (State.portal · p)) rfl (ite_field (g := (State.portal · p)) rfl
          (ite_field (g := (State.portal · p)) rfl (State.portal_cleanEdge _ _ p))))

theorem State.portal_pressJudged (s : State) (st : Nat) (x : Press) (p : PortalId) : (s.pressJudged st x).portal p = s.portal p :=
  ite_field (g := (State.portal · p)) (s.portal_pressEnd x p) (ite_field (g := (State.portal · p)) rfl rfl)

/-- Levels of the pair change no portal: no press clears a fence. -/
theorem exec_safetyResetEdge_portal {dt : Nat} {a b : Bool} {s t : State} (h : exec (.safetyResetEdge dt a b) s = .next t) (p : PortalId) : t.portal p = s.portal p := by
  cases hx : ((s.advance dt).srTaken a b).pressNow (pairState a b) with
  | some x =>
    obtain rfl := Host.Outcome.next.inj ((exec_safetyResetEdge_some dt hx).symm.trans h)
    exact State.portal_pressJudged _ _ _ p
  | none =>
    obtain rfl := Host.Outcome.next.inj ((exec_safetyResetEdge_none dt hx).symm.trans h)
    rfl

/-! ## A jam (R314) -/

/-- The pair is jammed. -/
def State.jamTaken (s : State) : State := { s with safety := { s.safety with jammed := true } }

/-- The jam of a press is judged. -/
def State.jamJudged (s : State) (x : Press) : State :=
  if !s.safety.jammed && pairState s.safety.srA s.safety.srB = 1 && s.ran x.run (ms 10000) then s.jamTaken.resetEvent 3 (s.ts.since (x.run.getD s.ts)) else s

/-- The jam of the press in progress, if there is one, is judged. -/
def State.jamWatched (s : State) : State :=
  match s.safety.press with
  | some x => s.jamJudged x
  | none => s

theorem exec_safetyResetJam (dt : Nat) (s : State) : exec (.safetyResetJam dt) s = .next (s.advance dt).jamWatched := rfl

theorem State.jamWatched_jams {s : State} {x : Press} {t0 : Ts} (hx : s.safety.press = some x) (hrun : x.run = some t0) (hjam : s.safety.jammed = false)
    (hpair : pairState s.safety.srA s.safety.srB = 1) (ht : s.elapsed t0 1000000000 = true) : s.jamWatched = s.jamTaken.resetEvent 3 (s.ts.since t0) := by
  have hran : s.ran (some t0) (ms 10000) = true := ht
  rw [State.jamWatched, hx]
  dsimp only
  rw [State.jamJudged, hjam, hpair, hrun, hran]
  rfl

/-- Settles O51: a press from its beginning to its verdict, the effect of a clean edge, and the jam. -/
theorem safetyResets : Obligations.SafetyResets := by
  unfold Obligations.SafetyResets
  refine ⟨fun dt a b s hnone => ⟨fun hst => ⟨_, exec_safetyResetEdge_none dt (State.pressNow_idle hnone hst), hnone, rfl⟩, fun hst hwas => ?_⟩,
    fun dt a b x s hx hun hst hwas => ⟨fun ht => ?_, fun ht hrep hvoid => ?_⟩, ?_, fun s n hcause hcommit => ?_, State.dclFault_clearDclFault,
    fun dt a b s t _ h => exec_safetyResetEdge_portal h, fun dt x t0 s hx hrun hjam hpair ht => ?_⟩
  · have hpair : pairState a b ≠ 0 := hst.trans_ne (by decide)
    have hearly : (s.advance dt).elapsed (s.ts + BitVec.ofNat 56 dt) 10000000 = false := by simp [State.elapsed, Ts.since]
    have hfollowed : (Press.began (s.ts + BitVec.ofNat 56 dt)).followed (pairState s.safety.srA s.safety.srB) (pairState a b) (s.ts + BitVec.ofNat 56 dt)
        = .began (s.ts + BitVec.ofNat 56 dt) := by rw [hst, hwas, Press.began_followed]
    exact ⟨_, exec_safetyResetEdge_goes_on (State.pressNow_begins hnone hpair) hfollowed hpair (.inr hearly), rfl, rfl⟩
  · have hfollowed := Press.followed_asserted hwas hun ht
    rw [← hst] at hfollowed
    exact ⟨_, exec_safetyResetEdge_goes_on (State.pressNow_of_some hx) hfollowed (hst.trans_ne (by decide)) (.inl rfl), rfl, rfl⟩
  · have hfollowed := Press.followed_late hwas ht
    rw [← hst] at hfollowed
    exact ⟨_, exec_safetyResetEdge_late (State.pressNow_of_some hx) hfollowed (hst.trans_ne (by decide)) hun hrep hvoid (decide_eq_true ht.le), rfl, rfl⟩
  · rintro dt x t0 left s held hx ht0 hrep hvoid hjam - rfl rfl
    obtain ⟨l, r, hfollowed, hl⟩ := x.followed_released (pairState s.safety.srA s.safety.srB) (s.ts + BitVec.ofNat 56 dt)
    have hend := State.pressEnd_asserted (s := (s.advance dt).srTaken false true) (x := { x with leaving := l, runEnd := r }) hjam ht0 hrep hvoid hl rfl
    exact ⟨((s.advance dt).srTaken false true).pressOver, rfl, rfl, rfl,
      (exec_safetyResetEdge_ends (dt := dt) (a := false) (b := true) (State.pressNow_of_some hx) hfollowed rfl).trans (congrArg _ hend)⟩
  · rw [State.cleanEdge_effective hcause hcommit]
    exact ⟨fun h => if_neg h, fun h => if_pos h⟩
  · exact ⟨_, (exec_safetyResetJam dt s).trans (congrArg _ (State.jamWatched_jams (s := s.advance dt) hx hrun hjam hpair ht)), rfl, hx⟩

end Sys2Proof.Machine
end

section
/-! The step, the queue of waiting commands, HELLO, and the host watchdog (R426, R447, R448, R452–R456). -/

namespace Sys2Proof.Machine

/-! ## The step and the queue (R426) -/

theorem step_of_pending {c : Instr} {l : List Instr} {s : State} (h : s.pending = c :: l) : step s = exec c { s with pending := l } := by
  simp only [step, h]

theorem step_of_pending_nil {s : State} (h : s.pending = []) : step s = .next s := by
  simp only [step, h]

/-- Settles O1: the two branches of the step. -/
theorem stepRunsFront : Obligations.StepRunsFront := by
  unfold Obligations.StepRunsFront
  exact ⟨fun c s => step_of_pending rfl, fun c l s h => step_of_pending h, fun s h => step_of_pending_nil h⟩

/-- Settles O2: every command is sound, so it answers a next state with the queue as it was. -/
theorem everyCommandAnswers : Obligations.EveryCommandAnswers := by
  unfold Obligations.EveryCommandAnswers
  intro i s
  obtain ⟨t, ht, hpending, -⟩ := exec_sound i s
  exact ⟨t, ht, hpending⟩

/-- Settles O3: the next state that a command answers is the one of `everyCommandAnswers`. -/
theorem queueKept : Obligations.QueueKept := by
  unfold Obligations.QueueKept
  intro i s t h
  obtain ⟨u, hu, hpending⟩ := everyCommandAnswers i s
  obtain rfl := Host.Outcome.next.inj (hu.symm.trans h)
  exact hpending

end Sys2Proof.Machine
end

section
/-! The replies of the host ports, HELLO (R447, R448), and the host watchdog (R452–R456). -/

namespace Sys2Proof.Machine

/-! ## What a reply leaves in its port -/

/-- The reply that a port gets for a command. -/
def Port.replyTo (x : Port) (h : Handle) (status : Nat) (ps : List Byte) : Reply :=
  ⟨if h.op = 0 ∧ x.version = 0 then 1 else x.version, h.tag, h.op, h.unit, status, ps, decide (status ≠ 1) && x.owing.getLsbD h.tag.toNat, decide (status ≠ 1), false⟩

/-- The port once the command has been answered; the CAN3 port may have loaded a segment as well. -/
def Port.answered (x : Port) (h : Handle) (status : Nat) (ps : List Byte) : Port :=
  { x with
    owing := if status = 1 then x.owing ||| (1#128 <<< h.tag.toNat) else x.owing &&& ~~~(1#128 <<< h.tag.toNat)
    replies := x.replies ++ [x.replyTo h status ps] }

theorem State.port_segPut_of_ne (s : State) (k : Nat) {n : PortId} (hn : n ≠ 1) : (s.segPut k).port n = s.port n := by
  have hne : (1 : Nat) ≠ n.val := fun e => hn (Fin.ext e.symm)
  unfold State.segPut
  split
  · rfl
  · exact Vector.getElem_set_ne (by decide) n.isLt hne

theorem State.port_segLoad_of_ne (s : State) {n : PortId} (hn : n ≠ 1) : s.segLoad.port n = s.port n :=
  ite_field (g := (State.port · n)) (s.port_segPut_of_ne 0 hn) rfl

section Fields
variable {β : Type} {g : Port → β} (hg : ∀ (x : Port) (k : Option Nat), g { x with txSeg := k } = g x) (s : State)
include hg

/-- A segment that is loaded shows in nothing of its port but the segment. -/
theorem State.port_segPut (k : Nat) (n : PortId) : g ((s.segPut k).port n) = g (s.port n) := by
  by_cases hn : n = 1
  · subst hn
    unfold State.segPut
    split
    · rfl
    · exact (congrArg g (Vector.getElem_set_self _)).trans (hg _ _)
  · rw [s.port_segPut_of_ne k hn]

theorem State.port_segLoad (n : PortId) : g (s.segLoad.port n) = g (s.port n) :=
  ite_field (g := fun t : State => g (t.port n)) (s.port_segPut hg 0 n) rfl

theorem State.port_putReply_same (n : PortId) (r : Reply) : g ((s.putReply n r).port n) = g { s.port n with replies := (s.port n).replies ++ [r] } := by
  have hport : (s.modPort n fun x => { x with replies := x.replies ++ [r] }).port n = { s.port n with replies := (s.port n).replies ++ [r] } := by simp
  rw [← hport]
  exact ite_field (g := fun t : State => g (t.port n)) rfl (ite_field (g := fun t : State => g (t.port n)) (State.port_segLoad hg _ n) rfl)

/-- A reply to a command of the port's present session. -/
theorem State.port_reply_same {h : Handle} (hsession : (s.port h.port).session = h.session) (status : Nat) (ps : List Byte) :
    g ((s.reply h status ps).port h.port) = g ((s.port h.port).answered h status ps) := by
  unfold State.reply
  dsimp only
  rw [if_neg (not_not.mpr hsession), State.port_putReply_same hg]
  simp [Port.answered, Port.replyTo]

end Fields

theorem State.port_putReply_of_ne (s : State) {n m : PortId} (hn : m ≠ n) (r : Reply) : (s.putReply n r).port m = s.port m := by
  have hport : (s.modPort n fun x => { x with replies := x.replies ++ [r] }).port m = s.port m := by simp [Ne.symm hn]
  refine ite_field (g := (State.port · m)) hport ?_
  split
  next h => exact (State.port_segLoad_of_ne _ (h ▸ hn)).trans hport
  next => exact hport

/-- A reply leaves the other port as it was. -/
theorem State.port_reply_of_ne (s : State) {h : Handle} {n : PortId} (hn : n ≠ h.port) (status : Nat) (ps : List Byte) : (s.reply h status ps).port n = s.port n := by
  refine ite_field (g := (State.port · n)) rfl ((State.port_putReply_of_ne _ hn _).trans ?_)
  simp [Ne.symm hn]

/-! ## The end of a frame in a mailbox -/

theorem State.canTraffic_field {β : Type} {g : State → β} (hg : ∀ (t : State) (src code unit param : Nat), g (t.raise src code unit param) = g t) (s : State)
    (n : CanId) (reason arg outcome : Nat) : g (s.canTraffic n reason arg outcome) = g s := ite_field (hg ..) rfl

/-- A frame that no command waits for ends without a reply. -/
theorem State.txFinal_field_of_no_reply {β : Type} {g : State → β} (hraise : ∀ (t : State) (src code unit param : Nat), g (t.raise src code unit param) = g t)
    (hcan : ∀ (t : State) (n : CanId) (f : Can → Can), g (t.modCan n f) = g t) (s : State) (n : CanId) (m : Fin 16) (outcome : Nat)
    (hnone : ∀ b, s.box n m = some b → b.reply = none) : g (s.txFinal n m outcome) = g s := by
  unfold State.txFinal
  split
  · rfl
  next b hb =>
    dsimp only
    rw [hnone b hb]
    exact (State.canTraffic_field hraise ..).trans (hcan ..)

/-! ## HELLO (R447, R448) -/

/-- A HELLO passes the checks whatever version its header carries. -/
theorem State.packet_hello {s : State} {c : CmdHeader} {lo hi opt : Byte} (hint : s.interprets = true) (hpf : s.power.pfail = false)
    (htag : (s.port c.port).tags.getLsbD c.tag.toNat = false) (hunit : c.unit = 0) (hflags : c.flags = 0) (hopt : opt.toNat ≤ 1) :
    s.packet 0 c [lo, hi, opt] State.hello = (s.takeTag c.port c.tag).hello (s.handle 0 c) [lo, hi, opt] := by
  have hu : c.unit.toNat = 0 := congrArg BitVec.toNat hunit
  have hvalid : unitValid 0 = true := by decide
  have hlength : lengthOk 0 [lo, hi, opt] = true := rfl
  have hknown : opLengths.any (fun y => decide (y.1 = 0)) = true := by decide
  have hreserved : reservedIn 0 [lo, hi, opt] = none := if_neg (by simpa using hopt)
  have hpf' : (s.takeTag c.port c.tag).power.pfail = false := hpf
  have hfree : (s.takeTag c.port c.tag).holdsBack 0 0 = none := rfl
  simp only [State.packet, State.command, hint, htag, hu, hvalid, hlength, hknown, hflags, hreserved, hpf', hfree, State.handle]
  simp

/-- The device once the port that a HELLO came on has the version that it agreed on. -/
def State.greeted (s : State) (h : Handle) (reset : Bool) (agreed : Nat) : State :=
  (if reset then (s.resetPort h.port).takeTag h.port h.tag else s).modPort h.port fun x => { x with version := agreed }

section Hello
variable {s : State} {h : Handle} (hu : h.unit = 0) {lo hi : Byte} (opt : Byte)
include hu

theorem State.hello_of_lt (hlt : hi.toNat < lo.toNat) : s.hello h [lo, hi, opt] = s.refuse h stBadParam :=
  (if_neg (not_not.mpr hu)).trans (if_pos hlt)

theorem State.hello_of_le (hle : lo.toNat ≤ hi.toNat) {agreed : Nat} (hagreed : agreed = if lo.toNat ≤ 1 ∧ 1 ≤ hi.toNat then 1 else 0) :
    s.hello h [lo, hi, opt] = (s.greeted h (opt.getLsbD 0) agreed).reply { h with session := ((s.greeted h (opt.getLsbD 0) agreed).port h.port).session }
      (if agreed = 1 then stDone else stVersion) [1, 1, BitVec.ofNat 8 agreed, BitVec.ofNat 8 h.port.val, 0, 4, 128] := by
  subst hagreed
  exact (if_neg (not_not.mpr hu)).trans (if_neg (Nat.not_lt.mpr hle))

end Hello

theorem State.version_greeted (s : State) (h : Handle) (reset : Bool) (agreed : Nat) : ((s.greeted h reset agreed).port h.port).version = agreed := by
  simp [State.greeted]

theorem agreed_eq {lo hi agreed : Nat} (h : agreed = if max lo 1 ≤ min hi 1 then min hi 1 else 0) : agreed = if lo ≤ 1 ∧ 1 ≤ hi then 1 else 0 := by
  subst h
  split <;> split <;> omega

/-- The header of a reply to HELLO carries 1, whether or not the port has a version (R447). -/
theorem Port.last_answered_hello {x : Port} {h : Handle} {status : Nat} (hop : h.op = 0) (hver : x.version = 0 ∨ x.version = 1) (hstatus : status ≠ 1) (ps : List Byte) :
    ∃ owed, (x.answered h status ps).replies.getLast? = some ⟨1, h.tag, 0, h.unit, status, ps, owed, true, false⟩ := by
  have hone : (if h.op = 0 ∧ x.version = 0 then 1 else x.version) = 1 := by
    obtain hv | hv := hver <;> simp [hop, hv]
  refine ⟨decide (status ≠ 1) && x.owing.getLsbD h.tag.toNat, ?_⟩
  rw [Port.answered, List.getLast?_append, List.getLast?_singleton, Port.replyTo, hone, hop, decide_eq_true hstatus]
  rfl

/-- Settles O6: HELLO past its checks, and its reply at the end of the port's replies. -/
theorem helloAgrees : Obligations.HelloAgrees := by
  unfold Obligations.HelloAgrees
  intro dt c lo hi opt s hint hpf htag hunit hflags hopt
  have hexec : exec (.hello dt c [lo, hi, opt]) s = .next ((s.accepted dt c).hello (s.handle 0 c) [lo, hi, opt]) :=
    congrArg Host.Outcome.next (State.packet_hello (s := s.advance dt) hint hpf htag hunit hflags hopt)
  refine ⟨fun hlt => hexec.trans (congrArg _ (State.hello_of_lt hunit opt hlt)), fun hle agreed hagreed => ?_⟩
  have hagreed' := agreed_eq hagreed
  let t := (s.accepted dt c).greeted (s.handle 0 c) (opt.getLsbD 0) agreed
  let h : Handle := { s.handle 0 c with session := (t.port c.port).session }
  have hversion : (t.port c.port).version = agreed := State.version_greeted ..
  have hstatus : (if agreed = 1 then stDone else stVersion) ≠ 1 := by split <;> decide
  have hor : (t.port c.port).version = 0 ∨ (t.port c.port).version = 1 := by
    rw [hversion, hagreed']
    split <;> simp
  obtain ⟨owed, hlast⟩ := Port.last_answered_hello (h := h) rfl hor hstatus [1, 1, BitVec.ofNat 8 agreed, BitVec.ofNat 8 c.port.val, 0, 4, 128]
  refine ⟨_, owed, hexec.trans (congrArg _ (State.hello_of_le hunit opt hle hagreed')), ?_, ?_⟩
  · exact (State.port_reply_same (g := Port.version) (fun _ _ => rfl) t (h := h) rfl ..).trans hversion
  · refine (State.port_reply_same (g := fun x => x.replies.getLast?) (fun _ _ => rfl) t (h := h) rfl ..).trans (hlast.trans ?_)
    rw [← hunit]
    rfl

/-! ## RESET (R448) -/

/-- The port without replies, tags and debts, in its next session. -/
def Port.cleared (x : Port) : Port := { x with session := x.session + 1, replies := [], tags := 0, owing := 0, txSeg := none }

/-- RESET changes of the ports and of what no reply and no mailbox is part of its own port only. -/
theorem State.resetPort_field {β : Type} {g : State → β} (hraise : ∀ (t : State) (src code unit param : Nat), g (t.raise src code unit param) = g t)
    (hcan : ∀ (t : State) (n : CanId) (f : Can → Can), g (t.modCan n f) = g t) (s : State) (n : PortId) (hnone : ∀ b, s.box 3 12 = some b → b.reply = none) :
    g (s.resetPort n) = g (s.modPort n Port.cleared) := by
  unfold State.resetPort
  dsimp only
  refine ite_field ?_ rfl
  split
  next b hb =>
    exact ite_field (hcan ..) (State.txFinal_field_of_no_reply hraise hcan _ 3 12 1 hnone)
  · rfl

section Greeted
variable (s : State) (h : Handle) (agreed : Nat) (hnone : ∀ b, s.box 3 12 = some b → b.reply = none)
include hnone

theorem State.port_greeted_reset : (s.greeted h true agreed).port h.port
    = { (s.port h.port).cleared with tags := 1#128 <<< h.tag.toNat, version := agreed } := by
  have hreset : (s.resetPort h.port).port h.port = (s.port h.port).cleared :=
    (State.resetPort_field (g := (State.port · h.port)) (fun _ _ _ _ _ => rfl) (fun _ _ _ => rfl) s h.port hnone).trans (by simp)
  simp [State.greeted, State.takeTag, hreset, Port.cleared]

theorem State.port_greeted_of_ne {n : PortId} (hn : n ≠ h.port) : (s.greeted h true agreed).port n = s.port n := by
  have hreset : (s.resetPort h.port).port n = s.port n :=
    (State.resetPort_field (g := (State.port · n)) (fun _ _ _ _ _ => rfl) (fun _ _ _ => rfl) s h.port hnone).trans (by simp [Ne.symm hn])
  simp [State.greeted, State.takeTag, hreset, Ne.symm hn]

theorem State.wdg_greeted_reset : (s.greeted h true agreed).wdg = s.wdg :=
  State.resetPort_field (g := State.wdg) (fun _ _ _ _ _ => rfl) (fun _ _ _ => rfl) s h.port hnone

end Greeted

theorem State.session_greeted (s : State) (h : Handle) (agreed : Nat) : ((s.greeted h false agreed).port h.port).session = (s.port h.port).session := by
  simp [State.greeted]

theorem State.port_accepted_of_ne (s : State) (dt : Nat) (c : CmdHeader) {n : PortId} (hn : n ≠ c.port) : (s.accepted dt c).port n = s.port n := by
  simp [State.accepted, State.takeTag, Ne.symm hn]

theorem State.session_port_accepted (s : State) (dt : Nat) (c : CmdHeader) : ((s.accepted dt c).port c.port).session = (s.port c.port).session := by
  simp [State.accepted, State.takeTag]

theorem State.rxq_port_accepted (s : State) (dt : Nat) (c : CmdHeader) : ((s.accepted dt c).port c.port).rxq = (s.port c.port).rxq := by
  simp [State.accepted, State.takeTag]

/-- Settles O7: without RESET the handle keeps its session; with it the port starts anew, with its own reply and its own tag. -/
theorem helloReset : Obligations.HelloReset := by
  unfold Obligations.HelloReset
  intro dt c lo hi s hint hpf htag hunit hflags hle hnone
  have hexec (opt : Byte) (hopt : opt.toNat ≤ 1) : exec (.hello dt c [lo, hi, opt]) s = .next ((s.accepted dt c).hello (s.handle 0 c) [lo, hi, opt]) :=
    congrArg Host.Outcome.next (State.packet_hello (s := s.advance dt) hint hpf htag hunit hflags hopt)
  refine ⟨fun hmin hmax => (hexec 0 (by decide)).trans (congrArg _ ?_), ?_⟩
  · have hagreed : 1 = if lo.toNat ≤ 1 ∧ 1 ≤ hi.toNat then 1 else 0 := (if_pos ⟨hmin, hmax⟩).symm
    have hsession := (State.session_greeted (s.accepted dt c) (s.handle 0 c) 1).trans (s.session_port_accepted dt c)
    refine (State.hello_of_le (s := s.accepted dt c) (h := s.handle 0 c) hunit 0 hle hagreed).trans ?_
    exact congrArg (fun n => ((s.accepted dt c).greeted (s.handle 0 c) false 1).reply { s.handle 0 c with session := n } stDone _) hsession
  · obtain ⟨agreed, hagreed⟩ : ∃ n, n = if lo.toNat ≤ 1 ∧ 1 ≤ hi.toNat then 1 else 0 := ⟨_, rfl⟩
    let t := (s.accepted dt c).greeted (s.handle 0 c) true agreed
    let h : Handle := { s.handle 0 c with session := (t.port c.port).session }
    have hport : t.port c.port = _ := State.port_greeted_reset (s.accepted dt c) (s.handle 0 c) agreed hnone
    have hsame {β : Type} {g : Port → β} (hg : ∀ (x : Port) (k : Option Nat), g { x with txSeg := k } = g x) (status : Nat) (ps : List Byte) :
        g ((t.reply h status ps).port c.port) = g ((t.port c.port).answered h status ps) := State.port_reply_same hg t (h := h) rfl status ps
    have hsession : (t.port c.port).session = (s.port c.port).session + 1 := (congrArg Port.session hport).trans (congrArg (· + 1) (s.session_port_accepted dt c))
    have hreplies (r : Reply) : (t.port c.port).replies ++ [r] = [r] := congrArg (· ++ [r]) (congrArg Port.replies hport)
    refine ⟨_, _, (hexec 1 (by decide)).trans (congrArg _ (State.hello_of_le hunit 1 hle hagreed)), (hsame (g := Port.replies) (fun _ _ => rfl) _ _).trans (hreplies _),
      rfl, rfl, (hsame (g := Port.tags) (fun _ _ => rfl) _ _).trans (congrArg Port.tags hport), (hsame (g := Port.session) (fun _ _ => rfl) _ _).trans hsession,
      (hsame (g := Port.rxq) (fun _ _ => rfl) _ _).trans ((congrArg Port.rxq hport).trans (s.rxq_port_accepted dt c)), fun n hn => ?_, ?_⟩
    · have hother : t.port n = (s.accepted dt c).port n := State.port_greeted_of_ne (s.accepted dt c) (s.handle 0 c) agreed hnone hn
      exact (t.port_reply_of_ne (h := h) hn _ _).trans (hother.trans (s.port_accepted_of_ne dt c hn))
    · have hwdg : t.wdg = s.wdg := State.wdg_greeted_reset (s.accepted dt c) (s.handle 0 c) agreed hnone
      exact (t.reply_wdg h _ _).trans hwdg

/-! ## The watchdog's safe stop leaves the time alone (R456) -/

theorem State.ts_of_bare {s t : State} (h : t.bare = s.bare) : t.ts = s.ts := State.ts_congr (State.senses_of_bare h)

@[simp] theorem State.fsDieEvent_bare (s : State) (k : PwId) (set : Bool) (cause : Nat) : (s.fsDieEvent k set cause).bare = s.bare := by
  unfold State.fsDieEvent
  dsimp only
  split
  · exact State.raiseAt_bare ..
  · rfl

@[simp] theorem State.fsDeviceEvent_bare (s : State) (set : Bool) (cause : Nat) : (s.fsDeviceEvent set cause).bare = s.bare := by simp [State.fsDeviceEvent]
@[simp] theorem State.allChansSync_bare (s : State) : s.allChansSync.bare = s.bare := by simp [State.allChansSync]

theorem State.ts_endUnitJog (s : State) (p : PortalId) : (s.endUnitJog p).ts = s.ts := by
  unfold State.endUnitJog
  split
  next j _ =>
    split
    · rfl
    · let t := s.modPortal p fun x => { x with jog := some { j with ending := true } }
      exact State.ts_of_bare (s := t) (by simp [t])
  · rfl

theorem State.ts_endJogs (s : State) (p : PortalId) : (s.endJogs p).ts = s.ts :=
  (ite_field (g := State.ts) ((State.ts_of_bare (State.setLock_bare ..)).trans (State.modPortal_ts ..)) rfl : (s.endJogs p).ts = (s.endUnitJog p).ts).trans (s.ts_endUnitJog p)

theorem State.ts_safeStopPortal (s : State) (p : PortalId) : (s.safeStopPortal p).ts = s.ts := by
  refine ite_field (g := State.ts) rfl ((State.ts_of_bare ?_).trans (s.ts_endJogs p))
  rw [State.bare_ite, State.stepStopPoint_bare, ite_self]
  refine foldState_bare _ _ _ fun l t => ?_
  split <;> simp

theorem State.ts_safeStop (s : State) : s.safeStop.ts = s.ts := ite_field (g := State.ts) (foldState_field fun p t => t.ts_safeStopPortal p) rfl

theorem State.ts_resume (s : State) : s.resume.ts = s.ts := by
  unfold State.resume
  split
  · rfl
  · exact foldState_field fun p t => (State.ts_of_bare (State.restart_bare ..)).trans (State.modPortal_ts ..)

theorem State.ts_wdgSync (s : State) : s.wdgSync.ts = s.ts := by
  have hbegins (t : State) : (t.safeStop.fsDeviceEvent true 3).allChansSync.ts = t.ts := (State.ts_of_bare (by simp)).trans t.ts_safeStop
  refine ite_field (g := State.ts) (ite_field (g := State.ts) rfl ((hbegins _).trans (ite_field (g := State.ts) rfl rfl))) (ite_field (g := State.ts) ?_ rfl)
  exact (foldState_field fun p t => State.ts_of_bare (t.hostOff_bare p)).trans ((State.ts_of_bare (by simp)).trans s.ts_resume)

theorem State.ts_wdgExpire (s : State) (why : Nat) : (s.wdgExpire why).ts = s.ts := State.ts_wdgSync _

/-! ## WDG_START (R452) -/

/-- The device once an expiry of the same instant has come (R458). -/
def State.wdgJudged (s : State) : State := if s.wdg.state = 1 ∧ ms s.wdg.window ≤ s.wdgAge then s.wdgExpire 0 else s

/-- The watchdog runs; an expiry in force ends with its event. -/
def State.wdgStarted (s : State) (w : Nat) (k : BitVec 16) (n : PortId) : State :=
  let t := { s with wdg := { s.wdg with state := 1, window := w, key := k, owner := n, kicks := 0, last := s.ts } }
  if s.wdgExpired then t.wdgEvent 3 else t

theorem State.wdg_wdgStarted (s : State) (w : Nat) (k : BitVec 16) (n : PortId) : (s.wdgStarted w k n).wdg = ⟨1, w, k, n, 0, s.ts, s.wdg.stopSince⟩ :=
  ite_field (g := State.wdg) rfl rfl

theorem State.wdgExpired_of_runs {s : State} (h : s.wdg.state = 1) : s.wdgExpired = false := by simp [State.wdgExpired, h]

theorem State.ts_wdgJudged (s : State) : s.wdgJudged.ts = s.ts := ite_field (g := State.ts) (s.ts_wdgExpire 0) rfl

section Start
variable {s : State} {h : Handle} (hu : h.unit = 0) {ps : List Byte} {w : Nat} {k : BitVec 16} (hw : w = unLe (ps.take 2)) (hk : k = BitVec.ofNat 16 (unLe (ps.drop 2)))
include hu hw hk

/-- WDG_START of the device, in the order of its checks. -/
theorem State.wdgStart_device : s.wdgStart h ps = if k = 0 ∨ k = 0xFFFF then s.refuse h stBadParam else if w < 10 ∨ 1000 < w then s.refuse h stOutOfRange
    else if s.wdg.state ≠ 0 ∧ s.wdg.owner ≠ h.port then s.refuse h stModeForbids else (s.wdgJudged.wdgStarted w k h.port).wdgSync.reply h stDone [] := by
  subst hw hk
  exact if_neg (not_not.mpr hu)

end Start

/-- Settles O9: the checks of WDG_START in their order, and the watchdog that runs past them. -/
theorem watchdogStarts : Obligations.WatchdogStarts := by
  unfold Obligations.WatchdogStarts
  rintro dt c ps s w k h ht hu rfl hw hk
  have hexec : exec (.wdgStart dt c ps) s = .next ((s.accepted dt c).wdgStart (s.handle 0x02 c) ps) :=
    congrArg Host.Outcome.next (State.exec_takes dt State.wdgStart ht)
  rw [hexec, State.wdgStart_device (s := s.accepted dt c) (h := s.handle 0x02 c) hu hw hk]
  refine ⟨fun hkey => by rw [if_pos hkey], fun hne0 hneF => ?_⟩
  rw [if_neg (not_or.mpr ⟨hne0, hneF⟩)]
  refine ⟨fun hwin => by rw [if_pos hwin], fun hmin hmax => ?_⟩
  rw [if_neg (by omega)]
  refine ⟨fun hst howner => congrArg _ (if_pos ⟨hst, howner⟩), fun hfree => ?_⟩
  have hnot : ¬((s.accepted dt c).wdg.state ≠ 0 ∧ (s.accepted dt c).wdg.owner ≠ (s.handle 0x02 c).port) := fun ⟨hst, howner⟩ => hfree.elim hst howner
  have hwdg := State.wdg_wdgStarted (s.accepted dt c).wdgJudged w k (s.handle 0x02 c).port
  refine ⟨_, congrArg _ (if_neg hnot), hwdg.trans ?_, State.wdgExpired_of_runs (congrArg Watchdog.state hwdg)⟩
  rw [congrArg Watchdog.stopSince hwdg, State.ts_wdgJudged]
  rfl

/-! ## WDG_KICK (R453) -/

/-- The watchdog after a valid kick. -/
def State.kicked (s : State) : State := { s with wdg := { s.wdg with kicks := s.wdg.kicks + 1, last := s.ts } }

section Kick
variable {s : State} {h : Handle} (hu : h.unit = 0) {ps : List Byte}
include hu

/-- WDG_KICK of the device, in the order of its checks. -/
theorem State.wdgKick_device : s.wdgKick h ps = if s.wdg.state ≠ 1 ∨ s.wdg.owner ≠ h.port then s.refuse h stModeForbids
    else if ms s.wdg.window < s.wdgAge then (s.wdgExpire 0).refuse h stModeForbids
    else if BitVec.ofNat 16 (unLe ps) ≠ s.wdg.nextKey then (s.wdgExpire 1).reply h stModeForbids (detail 0xD080 0)
    else if 4 * s.wdgAge < ms s.wdg.window then (s.wdgExpire 2).reply h stModeForbids (detail 0xD080 0)
    else s.kicked.reply h stDone (le 2 (s.wdgAge / 100000)) := by
  have hzero : h.unit.toNat = 0 := congrArg BitVec.toNat hu
  refine (if_neg (not_not.mpr hu)).trans ?_
  rw [hzero]
  rfl

end Kick

/-- The key of the n-th kick after a start. -/
theorem Watchdog.nextKey_eq (x : Watchdog) : x.nextKey = if (x.kicks + 1) % 2 = 1 then x.key ^^^ 0xFFFF else x.key := by
  unfold Watchdog.nextKey
  split <;> split <;> first | rfl | omega

/-- Settles O10: the checks of a kick in their order, and the expiry without one. -/
theorem watchdogKicks : Obligations.WatchdogKicks := by
  unfold Obligations.WatchdogKicks
  refine ⟨?_, fun dt s hst hwin => congrArg _ (if_pos ⟨hst, hwin⟩)⟩
  rintro dt c ps s n age key h ht hu rfl rfl hkey rfl
  have hkey' : key = (s.accepted dt c).wdg.nextKey := hkey.trans s.wdg.nextKey_eq.symm
  have hexec : exec (.wdgKick dt c ps) s = .next ((s.accepted dt c).wdgKick (s.handle 0x03 c) ps) :=
    congrArg Host.Outcome.next (State.exec_takes dt State.wdgKick ht)
  rw [hexec, State.wdgKick_device (s := s.accepted dt c) (h := s.handle 0x03 c) hu, hkey']
  refine ⟨fun hnot => congrArg _ (if_pos hnot), fun hst howner hage => ?_⟩
  have hruns : ¬((s.accepted dt c).wdg.state ≠ 1 ∨ (s.accepted dt c).wdg.owner ≠ (s.handle 0x03 c).port) := fun hnot => hnot.elim (· hst) (· howner)
  have hintime : ¬ms (s.accepted dt c).wdg.window < (s.accepted dt c).wdgAge := Nat.not_lt.mpr hage
  rw [if_neg hruns, if_neg hintime]
  refine ⟨fun hright hlate => ?_, fun hbad => ?_⟩
  · have hlate' : ¬4 * (s.accepted dt c).wdgAge < ms (s.accepted dt c).wdg.window := Nat.not_lt.mpr hlate
    rw [if_neg (not_not.mpr hright), if_neg hlate']
    rfl
  · by_cases hright : BitVec.ofNat 16 (unLe ps) = (s.accepted dt c).wdg.nextKey
    · rw [if_neg (not_not.mpr hright)]
      exact ⟨2, congrArg _ (if_pos (hbad.resolve_left (not_not.mpr hright)))⟩
    · exact ⟨1, congrArg _ (if_pos hright)⟩

/-! ## WDG_STOP (R455) -/

/-- The watchdog stops; an expiry in force ends with its event. -/
def State.wdgStopped (s : State) : State :=
  let t := if s.wdg.state = 2 then s.wdgEvent 4 else s
  { t with wdg := { t.wdg with state := 0 } }

theorem State.wdg_wdgStopped (s : State) : s.wdgStopped.wdg = { s.wdg with state := 0 } := by
  have hwdg : (if s.wdg.state = 2 then s.wdgEvent 4 else s).wdg = s.wdg := ite_field (g := State.wdg) rfl rfl
  simp only [State.wdgStopped, hwdg]

theorem State.wdgExpired_wdgStopped {s : State} (h : s.par 0xD000 0 ≠ 1 ∨ s.mode.door = false) : s.wdgStopped.wdgExpired = false := by
  have hpar : s.wdgStopped.par 0xD000 0 = s.par 0xD000 0 := ite_field (g := (State.par · 0xD000 0)) rfl rfl
  have hmode : s.wdgStopped.mode = s.mode := ite_field (g := State.mode) rfl rfl
  obtain h | h := h <;> simp [State.wdgExpired, hpar, hmode, State.wdg_wdgStopped, h]

section Stop
variable {s : State} {h : Handle} (hu : h.unit = 0) {ps : List Byte}
include hu

/-- WDG_STOP of the device, in the order of its checks. -/
theorem State.wdgStop_device : s.wdgStop h ps = if s.wdg.state = 0 then s.reply h stDone [] else if s.wdg.owner ≠ h.port then s.refuse h stModeForbids
    else if s.par 0xD000 0 = 1 ∧ s.mode ≠ .configure ∧ s.mode ≠ .maintain then s.refuse h stModeForbids
    else if BitVec.ofNat 16 (unLe ps) ≠ s.wdg.nextKey then s.refuse h stBadParam else s.wdgStopped.wdgSync.reply h stDone [] := if_neg (not_not.mpr hu)

end Stop

/-- Settles O11: the checks of WDG_STOP in their order, and the event of an expiry. -/
theorem watchdogStops : Obligations.WatchdogStops := by
  unfold Obligations.WatchdogStops
  refine ⟨?_, fun s why => rfl⟩
  rintro dt c ps s h ht hu rfl
  have hexec : exec (.wdgStop dt c ps) s = .next ((s.accepted dt c).wdgStop (s.handle 0x04 c) ps) :=
    congrArg Host.Outcome.next (State.exec_takes dt State.wdgStop ht)
  rw [hexec, State.wdgStop_device (s := s.accepted dt c) (h := s.handle 0x04 c) hu]
  refine ⟨fun hst => congrArg _ (if_pos hst), fun hst howner => ?_, fun hst howner => ?_⟩
  all_goals rw [if_neg (show ¬(s.accepted dt c).wdg.state = 0 from hst)]
  · exact congrArg _ (if_pos howner)
  rw [if_neg (show ¬(s.accepted dt c).wdg.owner ≠ (s.handle 0x04 c).port from not_not.mpr howner)]
  refine ⟨fun hpar hconf hmaint => congrArg _ (if_pos ⟨hpar, hconf, hmaint⟩), fun hfree => ?_⟩
  have hnot : ¬((s.accepted dt c).par 0xD000 0 = 1 ∧ (s.accepted dt c).mode ≠ .configure ∧ (s.accepted dt c).mode ≠ .maintain) :=
    fun ⟨hpar, hconf, hmaint⟩ => hfree.elim (· hpar) (·.elim hconf hmaint)
  have hend : (s.accepted dt c).par 0xD000 0 ≠ 1 ∨ (s.accepted dt c).mode.door = false := hfree.imp id fun hm => by
    obtain hm | hm := hm <;> exact congrArg Mode.door hm
  rw [if_neg hnot]
  refine ⟨fun hkey => congrArg _ (if_pos hkey), fun hkey => ?_⟩
  exact ⟨_, congrArg _ (if_neg (not_not.mpr hkey)), State.wdg_wdgStopped _, State.wdgExpired_wdgStopped hend⟩

end Sys2Proof.Machine
end

section
/-! Lockstep pairs: what restarts or holds them, recovery, split and rejoin; ECC errors and the debug port (R323–R340, R496). -/

namespace Sys2Proof.Machine

/-! ## Changing a pair -/

section ModPair
variable {s : State} {d : Fin 3}

theorem State.modPair_self {f : Pair → Pair} (h : f (s.pair d) = s.pair d) : s.modPair d f = s := by
  have h' : f s.pairs[d] = s.pairs[d] := h
  rw [State.modPair, h', Fin.getElem_fin, Vector.set_getElem_self]

theorem State.modPair_modPair (f g : Pair → Pair) : (s.modPair d f).modPair d g = s.modPair d fun x => g (f x) := by
  simp only [State.modPair, Fin.getElem_fin, Vector.getElem_set_self, Vector.set_set]

theorem State.dropSplit_of_none (status : Nat) (h : (s.pair d).splitting = none) : s.dropSplit d status = s := by
  rw [State.dropSplit, h]

/-- A restart of a pair that has no split and no rejoin to come ends none. -/
theorem State.dropBarrier_of_none (hsplit : (s.pair d).splitting = none) (hrejoin : (s.pair d).rejoining = false) (hreply : (s.pair d).rejoinReply = none)
    (hscope : (s.pair d).scope ≠ .split) : s.dropBarrier d = s := by
  have hself : (s.modPair d fun x => { x with rejoining := false, rejoinReply := none, diag := if x.scope = .split ∧ x.diag = 1 then 0 else x.diag }) = s := by
    refine State.modPair_self ?_
    rw [if_neg (fun h => hscope h.1), ← hrejoin, ← hreply]
  simp only [State.dropBarrier, s.dropSplit_of_none _ hsplit, hreply, hself]

end ModPair

/-! ## Mismatches (R327, R328, R330, R496) -/

/-- The pair has failed once more, and says so. -/
def State.pairFailed (s : State) (d : Fin 3) (kind part unit : Nat) : State :=
  (s.modPair d fun x => { x with mismatches := inc32 x.mismatches, lastMismatch := some s.ts }).pairEvent d kind part unit

/-- The pair restarts. -/
def State.pairRestarts (s : State) (d : Fin 3) : State := s.modPair d fun x => { x with scope := .restarting }

/-- The pair is held stopped after a second failure. -/
def State.pairHeld (s : State) (d : Fin 3) : State :=
  ((s.modPair d fun x => { x with scope := .held, recovering := false }).pairEvent d 8 15 (uDie d.val)).dropHeld d

section PairFails
variable {s : State} {d : Fin 3} (kind part : Nat) {who : Option PortalId} (hmode : s.mode ≠ .init) (hheld : (s.pair d).scope ≠ .held)
  (hsplitting : (s.pair d).splitting = none) (hrejoin : (s.pair d).rejoining = false) (hreply : (s.pair d).rejoinReply = none) (hscope : (s.pair d).scope ≠ .split)
  {unit : Nat} (hunit : unit = (if (s.pair d).scope = .restarting ∨ (s.pair d).recovering then uDie d.val else (who.map uPortal).getD (uDie d.val)))
include hmode hheld hsplitting hrejoin hreply hscope hunit

/-- A pair that runs in lockstep fails. -/
theorem State.pairFails_lockstep : s.pairFails d kind part who = if d = 0 then ((s.pairFailed d kind part unit).pairRestarts d).enterSafe 3
    else if (s.pair d).scope = .restarting ∨ (s.pair d).recovering = true then ((s.pairFailed d kind part unit).pairHeld d).fenceServed (pairDie d) 0x05 0
    else match who with
      | some p => ((s.pairFailed d kind part unit).pairRestarts d).fence p 0x05 (uPortal p) 0
      | none => ((s.pairFailed d kind part unit).pairRestarts d).fenceServed (pairDie d) 0x05 0 := by
  have hrun : ¬(s.mode = .init ∨ (s.pair d).scope = .held) := not_or.mpr ⟨hmode, hheld⟩
  have hagain : (decide ((s.pair d).scope = .restarting) || (s.pair d).recovering) = true ↔ (s.pair d).scope = .restarting ∨ (s.pair d).recovering = true := by simp
  unfold State.pairFails
  dsimp only
  rw [if_neg hrun, s.dropBarrier_of_none hsplitting hrejoin hreply hscope]
  cases who with
  | none =>
    obtain rfl : unit = uDie d.val := hunit.trans (ite_self _)
    simp only [hagain]
    rfl
  | some p =>
    have hunit' : (if (s.pair d).scope = .restarting ∨ (s.pair d).recovering = true then uDie d.val else uPortal p) = unit := hunit.symm
    simp only [hagain, hunit']
    rfl

end PairFails

/-- Settles O22: each of the three commands lets its pair fail, and a pair in lockstep fails as R330 says. -/
theorem pairFailures : Obligations.PairFailures := by
  unfold Obligations.PairFailures
  rintro dt d s kind part who i hmode hsplitting hrejoin hreply hi unit t hunit rfl hscope hheld
  have hexec : exec i s = .next ((s.advance dt).pairFails d kind part who) := by
    obtain ⟨a, rfl, rfl, rfl, rfl⟩ | ⟨n, rfl, rfl, rfl, rfl⟩ | ⟨n, rfl, rfl, rfl, rfl, hhalt, hrun⟩ := hi
    · have hnot : ¬((s.advance dt).pair d).rejoining = true := Bool.eq_false_iff.mp hrejoin
      refine congrArg Host.Outcome.next ((if_neg hscope).trans ((if_neg hnot).trans ?_))
      simp
    · rfl
    · have hskip : ¬((s.advance dt).mode = .init ∨ ((s.advance dt).pair d).halted = true ∨ ((s.advance dt).pair d).scope = .split
          ∨ ((s.advance dt).pair d).scope = .restarting ∨ ((s.advance dt).pair d).scope = .held) := by
        rintro (h | h | h | h | h)
        · exact hmode h
        · exact Bool.eq_false_iff.mp hhalt h
        · exact hscope h
        · exact hrun h
        · exact hheld h
      have hnot : ¬((s.advance dt).pair d).rejoining = true := Bool.eq_false_iff.mp hrejoin
      exact congrArg Host.Outcome.next ((if_neg hskip).trans ((if_neg Bool.false_ne_true).trans (if_neg hnot)))
  rw [hexec, State.pairFails_lockstep (s := s.advance dt) kind part hmode hheld hsplitting hrejoin hreply hscope hunit]
  refine ⟨fun h0 => congrArg _ (if_pos h0), fun h0 hrun hrec => ?_, fun h0 hagain => congrArg _ ((if_neg h0).trans (if_pos hagain))⟩
  have hfirst : ¬(((s.advance dt).pair d).scope = .restarting ∨ ((s.advance dt).pair d).recovering = true) := not_or.mpr ⟨hrun, Bool.eq_false_iff.mp hrec⟩
  rw [if_neg h0, if_neg hfirst]
  refine ⟨fun p hp => ?_, fun hnone => ?_⟩
  · subst hp
    rfl
  · subst hnone
    rfl

/-! ## Recovery, self-test and restart (R325, R330, R331, R334, R496) -/

section Exchange
variable {s : State} {d : Fin 3} (hmode : s.mode ≠ .init) (hhalt : (s.pair d).halted = false)
  (hscope : (s.pair d).scope = .coreOnly ∨ (s.pair d).scope = .coreCaches) (dt : Nat) (n : Fin 5)
include hmode hhalt hscope

/-- An exchange of a pair that runs in lockstep, and agrees. -/
theorem exec_signatureExchange_agrees : exec (.signatureExchange dt d true n) s = .next (
    let t := if (s.pair d).recovering then (s.advance dt).modPair d fun x => { x with agreed := x.agreed + 1 } else s.advance dt
    if (s.pair d).rejoining then t.rejoined d else t) := by
  have hruns : ¬((s.advance dt).mode = .init ∨ ((s.advance dt).pair d).halted = true ∨ ((s.advance dt).pair d).scope = .split
      ∨ ((s.advance dt).pair d).scope = .restarting ∨ ((s.advance dt).pair d).scope = .held) := by
    have hpair : (s.advance dt).pair d = s.pair d := rfl
    obtain h | h := hscope <;> simp [hpair, hmode, hhalt, h]
  exact congrArg Host.Outcome.next (if_neg hruns)

end Exchange

/-- The first exchange after a release answers the rejoin; no diagnostic of the pair has failed. -/
theorem State.rejoined_of_passed {s : State} {d : Fin 3} {h : Handle} (hreply : (s.pair d).rejoinReply = some h) (hdiag : (s.pair d).diag ≠ 3) :
    s.rejoined d = (s.modPair d fun x => { x with rejoining := false, rejoinReply := none }).reply h stDone [] := by
  have hdiag' : (((s.modPair d fun x => { x with rejoining := false, rejoinReply := none }).reply h stDone []).pair d).diag = (s.pair d).diag := by
    rw [State.pair, State.reply_pairs, ← State.pair, State.pair_modPair, if_pos rfl]
  simp only [State.rejoined, hreply]
  exact if_neg fun hbad => hdiag (hdiag'.symm.trans hbad.2)

/-- A comparator self-test counts while the pair is not split. -/
theorem exec_comparatorSelfTest {s : State} {d : Fin 3} (hmode : s.mode ≠ .init) (hscope : (s.pair d).scope ≠ .split) (dt : Nat) (pass : Bool) :
    exec (.comparatorSelfTest dt d pass) s = .next (
      let t := (s.advance dt).modPair d fun x => { x with tests := inc32 x.tests, testFails := if pass then x.testFails else satInc 65535 x.testFails }
      if pass then t else (t.pairEvent d 2 15 (uDie d.val)).enterSafe 4) :=
  congrArg Host.Outcome.next (if_neg (not_or.mpr ⟨hmode, hscope⟩))

section Restart
variable {s : State} {d : Fin 3} (hscope : (s.pair d).scope = .restarting) (dt : Nat)
include hscope

/-- A restart without an image that verifies. -/
theorem exec_restartComplete_bad : exec (.restartComplete dt d false) s = .next (
    let t := (((s.advance dt).modPair d fun x => { x with scope := .held }).pairEvent d 8 15 (uDie d.val)).dropHeld d
    if d = 0 then t else t.fenceServed (pairDie d) 0x05 0) :=
  congrArg Host.Outcome.next ((if_neg (not_not.mpr hscope)).trans (if_pos rfl))

theorem exec_restartComplete_good : exec (.restartComplete dt d true) s = .next (
    if d = 0 then ((s.advance dt).modPair d fun x => { x with scope := s.pairScope, halted := false }).pairEvent d 3 15 (uDie d.val)
    else foldState (s.pair d).held (fun c t => t.deliverHeld c)
      (((s.advance dt).modPair d fun x => { x with scope := .coreCaches, recovering := true, agreed := 0, halted := false, held := [] }).pairEvent d 3 15 (uDie d.val))) :=
  congrArg Host.Outcome.next ((if_neg (not_not.mpr hscope)).trans (if_neg Bool.false_ne_true))

end Restart

/-! ## LOCKSTEP_SPLIT, LOCKSTEP_REJOIN and LOCKSTEP_STATUS (R332–R335, R340) -/

theorem pairOfUnit_uDie (d : Fin 3) : pairOfUnit (uDie d.val) = some d := by
  revert d
  decide

section Opcodes
variable {s : State} {d : Fin 3} {h : Handle} (hu : h.unit.toNat = uDie d.val) (ps : List Byte)
include hu

theorem State.lockstepSplit_accepted (hmode : s.mode = .maintain ∨ (d = 0 ∧ s.mode = .standby)) (hfenced : d = 0 ∨ s.allFenced d = true)
    (hscope : (s.pair d).scope = .coreOnly ∨ (s.pair d).scope = .coreCaches) (hrec : (s.pair d).recovering = false) (hcommit : s.commit = none) (hretry : s.retry = none)
    (hsplit : (s.pair d).splitting = none) : s.lockstepSplit h ps = (s.reply h stAccepted []).modPair d fun x => { x with splitting := some h } := by
  have hmode' : ¬(!(decide (s.mode = .maintain) || (decide (d = 0) && decide (s.mode = .standby)))) = true := by simpa [or_iff_not_imp_left] using hmode
  have hfenced' : ¬(decide (d ≠ 0) && !s.allFenced d) = true := by
    obtain h0 | hf := hfenced
    · simp [h0]
    · simp [hf]
  have hruns : ¬(decide ((s.pair d).scope = .restarting) || (s.pair d).recovering || decide ((s.pair d).scope = .held)) = true := by
    obtain hs | hs := hscope <;> simp [hs, hrec]
  have hidle : ¬s.committing = true := by simp [State.committing, hcommit, hretry]
  have hnot : ¬(s.pair d).scope = .split := by
    obtain hs | hs := hscope <;> simp [hs]
  simp only [State.lockstepSplit, hu, pairOfUnit_uDie]
  rw [if_neg hmode', if_neg hfenced', if_neg hruns, if_neg hidle, if_neg hnot, hsplit]
  rfl

theorem State.lockstepRejoin_releases (hscope : (s.pair d).scope = .split) (hsplit : (s.pair d).splitting = none) (hdiag : (s.pair d).diag ≠ 3) :
    s.lockstepRejoin h ps = (s.modPair d fun x => { x with scope := s.pairScope, rejoining := true, rejoinReply := some h, diag := if x.diag = 1 then 2 else x.diag }).pairEvent d 6 15
      (uDie d.val) := by
  have hpassed : ¬((s.pair d).diag = 3 ∧ d ≠ 0) := fun hbad => hdiag hbad.1
  simp only [State.lockstepRejoin, hu, pairOfUnit_uDie]
  rw [if_neg (not_not.mpr hscope)]
  unfold State.rejoin
  dsimp only
  rw [s.dropSplit_of_none _ hsplit, if_neg (not_not.mpr hscope), if_neg hpassed, if_neg hpassed]

theorem State.lockstepStatus_pair : s.lockstepStatus h ps = s.reply h stDone (le 1 (s.pair d).scope.code ++ le 1 (s.pair d).diag ++ le 4 (s.pair d).mismatches
    ++ le 4 (s.pair d).tests ++ le 2 (s.pair d).testFails ++ le 4 (s.pair d).eccCorr ++ le 4 (s.pair d).eccUncorr ++ le 8 (((s.pair d).lastMismatch.getD 0).toNat)) := by
  simp only [State.lockstepStatus, hu, pairOfUnit_uDie]

end Opcodes

/-- The signature point that follows a split. -/
theorem exec_splitHandoverDone_agrees {s : State} {d : Fin 3} {h : Handle} (hsplit : (s.pair d).splitting = some h) (dt : Nat) : exec (.splitHandoverDone dt d true) s
    = .next ((((s.advance dt).modPair d fun x => { x with splitting := none, scope := .split, diag := 1 }).pairEvent d 5 15 (uDie d.val)).reply h stDone []) := by
  have hsplit' : ((s.advance dt).pair d).splitting = some h := hsplit
  show execSplitHandoverDone dt d true s = _
  simp only [execSplitHandoverDone, hsplit', State.modPair_modPair]
  rfl

/-- Settles O23: the exchanges, self-tests and restarts of a pair, then the lockstep opcodes and what ends them. -/
theorem pairRecovers : Obligations.PairRecovers := by
  unfold Obligations.PairRecovers
  refine ⟨fun dt d s => ⟨fun n hmode hhalt hrejoin hrec hscope => ?_, fun hrec hagreed => ?_, fun hmode hscope => ⟨?_, ?_⟩, fun hscope => ⟨fun h0 => ?_, fun h0 => ?_, _, rfl, ?_⟩⟩,
    fun dt c d s hu => ⟨fun ht hmode hfenced hscope hrec hcommit hretry hsplit => ?_, fun h hsplit => exec_splitHandoverDone_agrees hsplit dt, fun hscope => ?_,
      fun ht hscope hsplit hdiag => ?_, fun n h hmode hhalt hrejoin hreply hrec hscope hdiag => ?_, fun ht => ⟨_, rfl, ?_⟩⟩⟩
  · rw [exec_signatureExchange_agrees hmode hhalt (.inr hscope), hrec, hrejoin]
    rfl
  · exact congrArg Host.Outcome.next (if_pos ⟨hrec, hagreed⟩)
  · exact exec_comparatorSelfTest hmode hscope dt true
  · exact exec_comparatorSelfTest hmode hscope dt false
  · exact (exec_restartComplete_good hscope dt).trans (congrArg _ (if_pos h0))
  · exact (exec_restartComplete_good hscope dt).trans (congrArg _ (if_neg h0))
  · exact exec_restartComplete_bad hscope dt
  · exact congrArg Host.Outcome.next ((State.exec_takes dt State.lockstepSplit ht).trans
      (State.lockstepSplit_accepted (h := s.handle 0x28 c) hu [] hmode hfenced hscope hrec hcommit hretry hsplit))
  · exact congrArg Host.Outcome.next (if_pos hscope)
  · exact congrArg Host.Outcome.next ((State.exec_takes dt State.lockstepRejoin ht).trans (State.lockstepRejoin_releases (h := s.handle 0x29 c) hu [] hscope hsplit hdiag))
  · rw [exec_signatureExchange_agrees hmode hhalt hscope, hrec, hrejoin]
    exact congrArg Host.Outcome.next (State.rejoined_of_passed hreply hdiag)
  · exact congrArg Host.Outcome.next ((State.exec_takes dt State.lockstepStatus ht).trans (State.lockstepStatus_pair (h := s.handle 0x2A c) hu []))

/-! ## ECC errors (R338, R339) -/

/-- A corrected error has counted in the pair of its die. -/
def State.eccCounted (s : State) (d : DieId) : State := if h : d.val < 3 then s.modPair ⟨d.val, h⟩ fun x => { x with eccCorr := inc32 x.eccCorr } else s

/-- Event 35 of a die is due. -/
def State.eccDue (s : State) (d : DieId) : Bool :=
  match (s.die d).eccLast with
  | some t => s.elapsed t (ms 100)
  | none => true

/-- The errors of a die since its last event 35 are told. -/
def State.eccTold (s : State) (d : DieId) (memory : Nat) : State :=
  (s.modDie d fun x => { x with eccPend := 0, eccLast := some s.ts }).raiseAt d 35 0x0023 (uDie d.val) (memory + 256 * min 16777215 ((s.die d).eccPend + 1))

theorem State.eccCorrected_eq (s : State) (d : DieId) (memory : Nat) : s.eccCorrected d memory
    = if (s.eccCounted d).eccDue d then (s.eccCounted d).eccTold d memory else (s.eccCounted d).modDie d fun x => { x with eccPend := x.eccPend + 1 } := rfl

theorem State.eccCounted_of_le (s : State) {d : DieId} (hd : 3 ≤ d.val) : s.eccCounted d = s := dif_neg (by omega)

theorem State.eccCounted_pairDie (s : State) (d : Fin 3) : s.eccCounted (pairDie d) = s.modPair d fun x => { x with eccCorr := inc32 x.eccCorr } := dif_pos d.isLt

/-- What the dies and the events are no part of, a corrected error leaves as its count left it. -/
theorem State.eccCorrected_field {β : Type} {g : State → β} (hdie : ∀ (t : State) (d : DieId) (f : Die → Die), g (t.modDie d f) = g t)
    (hraise : ∀ (t : State) (d : DieId) (src code unit param : Nat), g (t.raiseAt d src code unit param) = g t) (s : State) (d : DieId) (memory : Nat) :
    g (s.eccCorrected d memory) = g (s.eccCounted d) := by
  rw [State.eccCorrected_eq]
  exact ite_field ((hraise ..).trans (hdie ..)) (hdie ..)

theorem State.pair_eccCorrected (s : State) (d : Fin 3) (memory : Nat) :
    (s.eccCorrected (pairDie d) memory).pair d = { s.pair d with eccCorr := inc32 (s.pair d).eccCorr } := by
  have hraise (t : State) (e : DieId) (src code unit param : Nat) : (t.raiseAt e src code unit param).pair d = t.pair d :=
    congrArg (fun v : Vector Pair 3 => v[d]) (t.raiseAt_pairs e src code unit param)
  rw [State.eccCorrected_field (g := (State.pair · d)) (fun _ _ _ => rfl) hraise, State.eccCounted_pairDie, State.pair_modPair, if_pos rfl]

theorem State.eccDue_iff {s : State} {d : DieId} : s.eccDue d = true ↔ (s.die d).eccLast = none ∨ ∃ b, (s.die d).eccLast = some b ∧ s.elapsed b (ms 100) = true := by
  unfold State.eccDue
  split
  next b hb => simp [hb]
  next hb => simp [hb]

/-- An uncorrectable error has raised its event and counted in the pair of its die. -/
def State.eccFailed (s : State) (d : Fin 3) (memory region index unit : Nat) : State :=
  (s.raiseAt (pairDie d) 36 0x0024 unit (memory + 16 * region + 256 * (index % 2 ^ 24))).modPair d fun x => { x with eccUncorr := inc32 x.eccUncorr }

section Uncorrectable
variable (s : State) {d : Fin 3} {memory region : Nat} (index : Nat)

theorem State.eccUncorrectable_hub (memory region : Nat) : s.eccUncorrectable 0 memory region index = (s.eccFailed 0 memory region index 0x4000).enterSafe 6 := by
  have hwho : (if memory < 2 then partPortal 0 region else none) = none := by simp [partPortal]
  have hzero : (⟨(0 : DieId).val, by decide⟩ : Fin 3) = 0 := rfl
  have hlt : (0 : DieId).val < 3 := by decide
  simp only [State.eccUncorrectable, hlt, dite_true, hzero, hwho, if_true]
  rfl

theorem State.eccUncorrectable_portal {p : PortalId} (hd : d ≠ 0) (hmem : memory < 2) (hp : partPortal d region = some p) :
    s.eccUncorrectable (pairDie d) memory region index = (s.eccFailed d memory region index (uPortal p)).fence p 0x12 (uPortal p) 0 := by
  have hlt : (pairDie d).val < 3 := d.isLt
  have heta : (⟨(pairDie d).val, hlt⟩ : Fin 3) = d := rfl
  have hne : ¬pairDie d = 0 := fun h => hd (Fin.ext (Fin.ext_iff.mp h : d.val = 0))
  simp only [State.eccUncorrectable, hlt, dite_true, heta, hmem, if_true, hp, hne, if_false]
  rfl

end Uncorrectable

/-- A block of a firmware bank is marked. -/
def State.blockMarked (s : State) (b : Fin 2) (block : Nat) : State :=
  { s with power := { s.power with banks := s.power.banks.set b.val { s.power.banks[b] with bad := block :: s.power.banks[b].bad } } }

/-- An uncorrectable error in a firmware bank marks its block. -/
theorem State.eccUncorrectable_bank (s : State) (memory : Nat) {index : Nat} {b : Fin 2} (hb : b.val = if index < 65536 then 0 else 1) :
    s.eccUncorrectable 7 memory 5 index = (s.raiseAt 7 36 0x0024 (uDie 7) (memory + 16 * 5 + 256 * (index % 2 ^ 24))).blockMarked b (index % 65536) := by
  obtain rfl : b = if index < 65536 then 0 else 1 := by
    split
    next hi => exact Fin.ext (hb.trans (if_pos hi))
    next hi => exact Fin.ext (hb.trans (if_neg hi))
  rfl

theorem State.banks_blockMarked (s : State) (b : Fin 2) (block : Nat) :
    (s.blockMarked b block).power.banks[b] = { s.power.banks[b] with bad := block :: s.power.banks[b].bad } := Vector.getElem_set_self _

/-! ## The debug port (R336, R337) -/

theorem State.debugAllowed_iff {s : State} {d : Fin 3} : s.debugAllowed d = true ↔ s.mode = .maintain ∧ s.sealOpen = true ∧ (d = 0 ∨ s.allFenced d = true) := by
  simp [State.debugAllowed, and_assoc]

/-- A debug instruction that neither halts nor resumes a core changes nothing. -/
theorem exec_debugInstruction_other (dt : Nat) {i : DebugInstr} (hhalt : ∀ d, i ≠ .halt d) (hresume : ∀ d, i ≠ .resume d) (s : State) :
    exec (.debugInstruction dt i) s = .next (s.advance dt) := by
  cases i with
  | halt d => exact absurd rfl (hhalt d)
  | resume d => exact absurd rfl (hresume d)
  | bypass | idcode | sample | extest | clamp | single | regWrite | breakpoint | memAccess => rfl

theorem State.die_advance_ecc (s : State) (dt : Nat) (d : DieId) :
    ((s.advance dt).die d).eccPend = (s.die d).eccPend ∧ ((s.advance dt).die d).eccLast = (s.die d).eccLast := by
  rw [State.advance_die]
  exact ⟨rfl, rfl⟩

/-- Settles O24: what an error counts, raises and asks for by its die, and the two instructions that reach a core. -/
theorem eccAndDebug : Obligations.EccAndDebug := by
  unfold Obligations.EccAndDebug
  refine ⟨fun dt d mem region index s hd => ⟨?_, fun b hlast hnot => ?_⟩, fun dt d mem region index s => ⟨_, rfl, ?_, ?_, ?_⟩,
    fun dt mem region index s => congrArg _ ((s.advance dt).eccUncorrectable_hub index mem.val region.val),
    fun dt d mem region index p s hd hmem hp => congrArg _ ((s.advance dt).eccUncorrectable_portal index hd hmem hp),
    fun dt mem index b s hb => ⟨_, congrArg Host.Outcome.next ((s.advance dt).eccUncorrectable_bank mem.val hb), ?_, ?_⟩,
    fun dt d s => ⟨fun hok => ?_, fun hno => ?_, fun i hhalt hresume hother => ?_⟩⟩
  · rintro n rfl hdue
    have hdue' : (s.advance dt).eccDue d = true := by
      rw [State.eccDue_iff, (s.die_advance_ecc dt d).2]
      exact hdue
    refine congrArg Host.Outcome.next ((State.eccCorrected_eq ..).trans ?_)
    rw [State.eccCounted_of_le _ hd, if_pos hdue', State.eccTold, (s.die_advance_ecc dt d).1]
    rfl
  · have hdue' : ¬(s.advance dt).eccDue d = true := by
      rw [State.eccDue_iff, (s.die_advance_ecc dt d).2, hlast]
      rintro (hnone | ⟨c, hc, hpast⟩)
      · cases hnone
      · obtain rfl := Option.some.inj hc
        exact Bool.eq_false_iff.mp hnot hpast
    refine congrArg Host.Outcome.next ((State.eccCorrected_eq ..).trans ?_)
    rw [State.eccCounted_of_le _ hd, if_neg hdue']
  · exact congrArg Pair.eccCorr (State.pair_eccCorrected _ d mem.val)
  · exact (congrArg Pair.eccUncorr (State.pair_eccCorrected (s.advance dt) d mem.val)).trans rfl
  · exact (State.eccCorrected_field (g := State.mode) (fun _ _ _ => rfl) State.raiseAt_mode ..).trans ((congrArg State.mode (State.eccCounted_pairDie (s.advance dt) d)).trans rfl)
  · rw [State.banks_blockMarked, State.raiseAt_power]
    rfl
  · rw [State.banks_blockMarked, State.raiseAt_power]
    rfl
  · have hallowed : (s.advance dt).debugAllowed d = true := State.debugAllowed_iff.mpr hok
    exact ⟨congrArg _ (if_pos hallowed), congrArg _ (if_pos hallowed)⟩
  · have hallowed : ¬(s.advance dt).debugAllowed d = true := fun h => by
      obtain ⟨hmode, hseal, hfenced⟩ := State.debugAllowed_iff.mp h
      obtain hno | hno | ⟨h0, hno⟩ := hno
      · exact hno hmode
      · exact Bool.eq_false_iff.mp hno hseal
      · exact Bool.eq_false_iff.mp hno (hfenced.resolve_left h0)
    exact ⟨congrArg _ (if_neg hallowed), congrArg _ (if_neg hallowed)⟩
  · refine exec_debugInstruction_other dt (fun k => ?_) (fun k => ?_) s
    · by_cases hk : k = d
      · exact hk ▸ hhalt
      · exact (hother k hk).1
    · by_cases hk : k = d
      · exact hk ▸ hresume
      · exact (hother k hk).2

end Sys2Proof.Machine
end

section
/-! The recorder: records written, the scan and the flush, its own events and its opcodes (R462–R481). -/

namespace Sys2Proof.Machine

/-! ## Writing a record (R463, R471) -/

theorem RecEntry.cycle_fill (e : RecEntry) (m : Mode) : (e.fill m).cycle = e.cycle := by
  unfold RecEntry.fill
  split <;> rfl

theorem RecEntry.sev_fill (e : RecEntry) (m : Mode) : (e.fill m).sev = e.sev := by
  unfold RecEntry.fill
  split <;> rfl

theorem inc32_of_lt {n : Nat} (h : n < 4294967295) : inc32 n = n + 1 := if_pos h

/-- An event record goes to the end of the records that stay. -/
def State.appended (s : State) (l : List Record) (x : Record) : State :=
  { s with recorder := { s.recorder with records := l ++ [x], written := inc32 s.recorder.written } }

section PutRecord
variable {s : State} {x : Record} (hcycle : x.entry.cycle = false)
include hcycle

theorem State.putRecord_of_room (hroom : s.recorder.records.length < recCapacity) : s.putRecord x = s.appended s.recorder.records x := by
  unfold State.putRecord
  dsimp only
  rw [if_pos hroom, hcycle]
  rfl

theorem State.putRecord_of_victim (hfull : recCapacity ≤ s.recorder.records.length) {k : Nat} (hk : s.recorder.victim x.entry.sev = some k) :
    s.putRecord x = s.appended (s.recorder.records.eraseIdx k) x := by
  unfold State.putRecord
  dsimp only
  rw [if_neg (Nat.not_lt.mpr hfull), hk, hcycle]
  rfl

end PutRecord

/-- A record that has been put takes its SEQ. -/
theorem State.writeRecord_of_appended {s : State} {e : RecEntry} {x : Record} (hx : x = ⟨e.fill s.mode, s.recorder.opSeconds, s.recorder.powerCycles, s.recorder.nextSeq⟩)
    {l : List Record} (hput : s.putRecord x = s.appended l x) (hwritten : s.recorder.written < 4294967295) :
    s.writeRecord e = { s with recorder := { s.recorder with
      records := l ++ [x], written := s.recorder.written + 1, nextSeq := (s.recorder.nextSeq + 1) % 65536 } } := by
  have hcount : ¬((s.appended l x).recorder.written = s.recorder.written ∧ (s.appended l x).recorder.lost ≠ s.recorder.lost) := fun h => h.2 rfl
  unfold State.writeRecord
  dsimp only
  rw [← hx, hput, if_neg hcount, State.appended, inc32_of_lt hwritten]

/-- The severity whose oldest record a new one overwrites: the first that holds more than its quota, else its own. -/
theorem Recorder.victim_eq {r : Recorder} {sev own : Nat} (h : (sev ≤ own ∧ recQuota sev < r.count sev ∧ ∀ j < sev, r.count j ≤ recQuota j)
      ∨ (sev = own ∧ ∀ j ≤ own, r.count j ≤ recQuota j)) : r.victim own = r.records.findIdx? fun x => decide (x.entry.sev = sev) := by
  have hsev : ((List.range (own + 1)).find? fun c => decide (recQuota c < r.count c)).getD own = sev := by
    obtain ⟨hle, hover, hbefore⟩ | ⟨rfl, hnone⟩ := h
    · have hfind : (List.range (own + 1)).find? (fun c => decide (recQuota c < r.count c)) = some sev := by
        rw [List.find?_range_eq_some]
        refine ⟨by simpa using hover, by simpa using Nat.lt_succ_of_le hle, fun j hj => ?_⟩
        simpa using hbefore j hj
      rw [hfind]
      rfl
    · have hfind : (List.range (sev + 1)).find? (fun c => decide (recQuota c < r.count c)) = none := by
        rw [List.find?_eq_none]
        intro j hj
        simpa using hnone j (Nat.le_of_lt_succ (List.mem_range.mp hj))
      rw [hfind]
      rfl
  rw [Recorder.victim, hsev]

/-! ## The scan (R470, R475, R481) -/

theorem State.restoreCounters_field {β : Type} {g : State → β} (hg : ∀ (t : State) (p : PortalId) (f : Portal → Portal), g (t.modPortal p f) = g t) (s : State) (b : CounterBlock) :
    g (s.restoreCounters b) = g { s with recorder := { s.recorder with
      opSeconds := min 4294967295 (s.recorder.opSeconds + b.opSeconds), powerCycles := b.cycles,
      written := min 4294967295 (s.recorder.written + b.written), lost := min 4294967295 (s.recorder.lost + b.lost) } } :=
  foldState_field fun p t => hg t p _

/-- The records of a region without torn records and bad blocks. -/
def Recorder.whole (r : Recorder) : List Record :=
  (r.records.zipIdx.filter fun (x : Record × Nat) => !([] : List Nat).contains x.2 && !([] : List Nat).contains (x.2 / 2)).map (·.1)

theorem Recorder.whole_eq (r : Recorder) : r.whole = r.records := by
  have hall : (r.records.zipIdx.filter fun (x : Record × Nat) => !([] : List Nat).contains x.2 && !([] : List Nat).contains (x.2 / 2)) = r.records.zipIdx :=
    List.filter_eq_self.mpr fun _ _ => rfl
  rw [Recorder.whole, hall]
  exact List.zipIdx_map_fst 0 r.records

/-- What the scan makes of the newest counter block: the counters come back, and a block that is not in the newest slot is told. -/
def State.scanRestored (s : State) (newest slot : Option CounterBlock) (skipped : CounterBlock → Nat) : State :=
  match newest with
  | some b => if slot = some b then s.restoreCounters b else (s.restoreCounters b).raise 43 0x002B 0 (4 + 256 * skipped b)
  | none => s

/-- The scan ends: the power cycle counts, and the event of reason 1 tells. -/
def State.scanCounted (s : State) (nTorn : Nat) : State :=
  { s with recorder := { s.recorder with powerCycles := satInc 16777215 s.recorder.powerCycles, ready := true, nextSeq := 0, savedAt := s.ts } }.raise 43 0x002B 0
    (1 + 256 * min 16777215 nTorn)

/-- What the last flush saved is told and used up. -/
def State.flushTold (s : State) (saved : Option SavedFlush) : State :=
  match saved with
  | none => s
  | some fl =>
    let t := s.raise 43 0x002B 0 (5 + 256 * min 16777215 fl.written)
    let u := { t with recorder := { t.recorder with saved := none } }
    match fl.snap with
    | none => u
    | some z =>
      if lostPortals z = [] then u
      else (foldState (lostPortals z).zipIdx (fun x t => t.putRecord (lostCycle z x.1.1 x.1.2 fl ((fl.nextSeq + x.2) % 65536))) u).raise 43 0x002B 0
        (6 + 256 * maskOf ((lostPortals z).map (·.1)))

/-- A scan that finds no torn record and no bad block. -/
theorem exec_recorderScanDone_whole (dt : Nat) (s : State) : exec (.recorderScanDone dt [] []) s
    = .next (if (s.advance dt).mode ≠ .test ∨ (s.advance dt).recorder.ready = true then s.advance dt
      else ((({ s.advance dt with recorder := { (s.advance dt).recorder with records := (s.advance dt).recorder.whole, torn := 0 } }.scanRestored
        (s.advance dt).recorder.newest (s.advance dt).recorder.slots[(s.advance dt).recorder.slotAt] (s.advance dt).recorder.skippedSlots).scanCounted 0).flushTold
          (s.advance dt).recorder.saved)) := rfl

/-- The device once a clean scan has restored the counters of a block. -/
def State.scanned (s : State) (b : CounterBlock) : State :=
  let t := { s with recorder := { s.recorder with torn := 0 } }.restoreCounters b
  { t with recorder := { t.recorder with powerCycles := satInc 16777215 t.recorder.powerCycles, ready := true, nextSeq := 0, savedAt := t.ts } }

/-- A scan without torn records and bad blocks whose newest slot holds the newest block. -/
theorem exec_recorderScanDone_clean {s : State} {b : CounterBlock} (hmode : s.mode = .test) (hready : s.recorder.ready = false) (hsaved : s.recorder.saved = none)
    (hnewest : s.recorder.newest = some b) (hslot : s.recorder.slots[s.recorder.slotAt] = some b) (dt : Nat) :
    exec (.recorderScanDone dt [] []) s = .next (((s.advance dt).scanned b).raise 43 0x002B 0 1) := by
  have hruns : ¬((s.advance dt).mode ≠ .test ∨ (s.advance dt).recorder.ready = true) := by
    rw [State.advance_mode, State.advance_recorder, hmode, hready]
    simp
  have hsaved' : (s.advance dt).recorder.saved = none := hsaved
  have hnewest' : (s.advance dt).recorder.newest = some b := hnewest
  have hslot' : (s.advance dt).recorder.slots[(s.advance dt).recorder.slotAt] = some b := hslot
  rw [exec_recorderScanDone_whole, if_neg hruns, Recorder.whole_eq, hsaved', hnewest', hslot', State.scanRestored, if_pos rfl]
  rfl

theorem State.recorder_scanned (s : State) (b : CounterBlock) : (s.scanned b).recorder = { s.recorder with
    torn := 0, opSeconds := min 4294967295 (s.recorder.opSeconds + b.opSeconds), powerCycles := satInc 16777215 b.cycles,
    written := min 4294967295 (s.recorder.written + b.written), lost := min 4294967295 (s.recorder.lost + b.lost), ready := true, nextSeq := 0, savedAt := s.ts } := by
  have hrecorder := State.restoreCounters_field (g := State.recorder) (fun _ _ _ => rfl) { s with recorder := { s.recorder with torn := 0 } } b
  have hts := State.restoreCounters_field (g := State.ts) (fun _ _ _ => rfl) { s with recorder := { s.recorder with torn := 0 } } b
  simp only [State.scanned, hrecorder, hts]

theorem State.waiting_scanned (s : State) (b : CounterBlock) : (s.scanned b).waiting = s.waiting := by
  have hwaiting := State.restoreCounters_field (g := State.waiting) (fun _ _ _ => rfl) { s with recorder := { s.recorder with torn := 0 } } b
  simp only [State.scanned, hwaiting]

theorem State.ts_scanned (s : State) (b : CounterBlock) : (s.scanned b).ts = s.ts := by
  have hts := State.restoreCounters_field (g := State.ts) (fun _ _ _ => rfl) { s with recorder := { s.recorder with torn := 0 } } b
  simp only [State.scanned, hts]

/-! ## The power-fail flush (R476) -/

theorem State.queue_putRecord (s : State) (x : Record) : (s.putRecord x).recorder.queue = s.recorder.queue := by
  have hput (l : List Record) : (if x.entry.cycle then (s.appended l x).modPortal ⟨x.entry.code % 8, by omega⟩ fun y => { y with cycleCount := inc32 y.cycleCount }
      else s.appended l x).recorder.queue = s.recorder.queue := ite_field (g := fun t : State => t.recorder.queue) rfl rfl
  unfold State.putRecord
  dsimp only
  split
  · exact hput _
  · split
    · exact hput _
    · rfl

theorem State.queue_writeRecord (s : State) (e : RecEntry) : (s.writeRecord e).recorder.queue = s.recorder.queue :=
  ite_field (g := fun t : State => t.recorder.queue) (s.queue_putRecord _) (s.queue_putRecord _)

theorem State.queue_saveCounters (s : State) : s.saveCounters.recorder.queue = s.recorder.queue := ite_field (g := fun t : State => t.recorder.queue) rfl rfl

/-- What the flush writes leaves the queue empty. -/
def State.flushWritten (s : State) : State :=
  if !s.recWrites then { s with recorder := { s.recorder with queue := [] } }
  else
    let t := foldState s.recorder.queue (fun e u => u.writeRecord (if e.cycle then e else { e with flags := e.flags ||| 2 })) { s with recorder := { s.recorder with queue := [] } }
    let u := if t.recorder.pendingLoss = 0 then t
      else { t with recorder := { t.recorder with pendingLoss := 0, lossSev := 0 } }.writeRecord ⟨0x002B, 43, t.recorder.lossSev, 2, t.ts, 0, t.recorder.lossParam, 0, false⟩
    let v := u.saveCounters
    { v with recorder := { v.recorder with saved := some ⟨v.recorder.lastSnap, v.recorder.nextSeq, v.recorder.opSeconds, v.recorder.powerCycles, v.recorder.written - s.recorder.written⟩ } }

theorem State.queue_flushWritten (s : State) : s.flushWritten.recorder.queue = [] := by
  have hwritten (l : List RecEntry) (f : RecEntry → RecEntry) : (foldState l (fun e u => u.writeRecord (f e)) { s with recorder := { s.recorder with queue := [] } }).recorder.queue = [] :=
    foldState_field (g := fun t : State => t.recorder.queue) fun e t => t.queue_writeRecord (f e)
  refine ite_field (g := fun t : State => t.recorder.queue) rfl ((State.queue_saveCounters _).trans ?_)
  exact ite_field (g := fun t : State => t.recorder.queue) (hwritten _ _) ((State.queue_writeRecord _ _).trans (hwritten _ _))

/-- The flush, once its time has come. -/
def State.flushed (s : State) : State :=
  { s.flushWritten with recorder := { s.flushWritten.recorder with flushing := false, blocked := true }, power := { s.flushWritten.power with flushed := true } }

theorem exec_powerFailFlush (dt : Nat) (s : State) : exec (.powerFailFlush dt) s = .next (match s.recorder.tPf with
    | none => s.advance dt
    | some t => if s.recorder.blocked = true ∨ (!(s.advance dt).elapsed t (us 12)) = true then s.advance dt else (s.advance dt).flushed.inert) := rfl

theorem exec_powerFailFlush_due {s : State} {b : Ts} (hpf : s.recorder.tPf = some b) (hblocked : s.recorder.blocked = false) {dt : Nat}
    (htime : (s.advance dt).elapsed b 1200 = true) : exec (.powerFailFlush dt) s = .next (s.advance dt).flushed.inert := by
  have htime' : (s.advance dt).elapsed b (us 12) = true := htime
  have hdue : ¬(s.recorder.blocked = true ∨ (!(s.advance dt).elapsed b (us 12)) = true) := by
    rw [hblocked, htime']
    simp
  rw [exec_powerFailFlush, hpf]
  exact congrArg Host.Outcome.next (if_neg hdue)

/-- Settles O30: a record put into a free slot or over a victim, a clean scan, and the flush. -/
theorem recordWritten : Obligations.RecordWritten := by
  unfold Obligations.RecordWritten
  refine ⟨fun s e x hcycle hx => ?_, fun dt s b hmode hready hsaved hnewest hslot => ?_, fun dt s b hpf hblocked htime => ⟨_, exec_powerFailFlush_due hpf hblocked htime, rfl, rfl, ?_, rfl⟩⟩
  · have hcycle' : x.entry.cycle = false := by
      rw [hx]
      exact (e.cycle_fill s.mode).trans hcycle
    have hsev' : x.entry.sev = e.sev := by
      rw [hx]
      exact e.sev_fill s.mode
    refine ⟨fun hroom hwritten => State.writeRecord_of_appended hx (State.putRecord_of_room hcycle' hroom) hwritten, fun sev k hfull hwritten _ hwhich hfind => ?_⟩
    have hvictim : s.recorder.victim x.entry.sev = some k := by
      rw [hsev', Recorder.victim_eq hwhich]
      exact hfind
    exact State.writeRecord_of_appended hx (State.putRecord_of_victim hcycle' hfull hvictim) hwritten
  · have hrecorder := State.recorder_scanned (s.advance dt) b
    refine ⟨_, exec_recorderScanDone_clean hmode hready hsaved hnewest hslot dt, congrArg Recorder.ready hrecorder, (congrArg Recorder.records hrecorder).trans rfl, congrArg Recorder.torn hrecorder,
      (congrArg Recorder.powerCycles hrecorder).trans (satInc_eq_min ..), congrArg Recorder.opSeconds hrecorder, congrArg Recorder.nextSeq hrecorder, ?_⟩
    rw [State.raise, State.raiseAt, State.waiting_scanned, State.ts_scanned]
    rfl
  · exact State.queue_flushWritten _

/-! ## The recorder's own events (R469–R474) -/

theorem State.recWrites_advance (s : State) (dt : Nat) : (s.advance dt).recWrites = s.recWrites := by
  simp only [State.recWrites, State.advance_recorder, State.advance_die]
  rfl

theorem exec_recordWrite {s : State} {e : RecEntry} {q : List RecEntry} (hq : s.recorder.queue = e :: q) (hwrites : s.recWrites = true) (hcredit : s.recorder.credit ≠ 0) (dt : Nat) :
    exec (.recordWrite dt) s = .next ({ s.advance dt with recorder := { s.recorder with queue := q, credit := s.recorder.credit - 1 } }.writeRecord e) := by
  have hmay : ¬(!(s.advance dt).recWrites || decide (s.recorder.credit = 0)) = true := by
    rw [State.recWrites_advance, hwrites]
    simpa using hcredit
  show execRecordWrite dt s = _
  unfold execRecordWrite
  dsimp only
  rw [State.advance_recorder, hq]
  dsimp only
  rw [if_neg hmay]

theorem State.saveCounters_of_recWrites {s : State} (h : s.recWrites = true) {n : Fin 64} (hn : (⟨(s.recorder.slotAt.val + 1) % 64, by omega⟩ : Fin 64) = n) :
    s.saveCounters = { s with recorder := { s.recorder with slots := s.recorder.slots.set n (some s.counterBlock), slotAt := n, savedAt := s.ts } } := by
  subst hn
  refine if_neg ?_
  simpa [State.recWrites, and_assoc] using h

/-! ## REC_INFO, REC_READ and REC_CLEAR (R478–R480) -/

theorem insertRecord_perm (r : Record) (l : List Record) : (insertRecord r l).Perm (r :: l) := by
  induction l with
  | nil => exact .refl _
  | cons x l ih =>
    rw [insertRecord]
    split
    · exact (ih.cons x).trans (.swap r x l)
    · exact .refl _

/-- The records in key order are the records of the region. -/
theorem Recorder.sorted_perm (r : Recorder) : r.sorted.Perm r.records := by
  rw [Recorder.sorted]
  induction r.records with
  | nil => exact .refl _
  | cons x l ih => exact (insertRecord_perm x _).trans (ih.cons x)

section Opcodes
variable {s : State} {h : Handle} (hu : h.unit = 0) (hready : s.recorder.ready = true)
include hu hready

theorem State.recServes_device (f : State) : s.recServes h f = f := by
  have hscan : ¬(!s.recorder.ready) = true := by simp [hready]
  exact (if_neg (not_not.mpr hu)).trans (if_neg hscan)

theorem State.recRead_device {ps : List Byte} {n sev : Nat} (hn : n = (ps.getD 9 0).toNat) (hsev : sev = (ps.getD 10 0).toNat) (hmin : 1 ≤ n) (hmax : n ≤ 31) (hle : sev ≤ 3) {k : RecKey}
    (hk : k = ⟨unLe (ps.take 3), unLe ((ps.drop 3).take 4), unLe ((ps.drop 7).take 2)⟩) {out : List Record}
    (hout : out = (s.recorder.sorted.filter fun x => (decide (k = ⟨0, 0, 0⟩) || k.before x.key) && decide (sev ≤ x.entry.sev)).take n) :
    ∃ rep, s.recRead h ps = s.reply h stDone (le 2 rep ++ le 1 out.length ++ out.flatMap Record.bytes) := by
  have hrange : ¬(n < 1 ∨ 31 < n ∨ 3 < sev) := by omega
  subst hn hsev hk hout
  exact ⟨_, (State.recServes_device hu hready _).trans (if_neg hrange)⟩

theorem State.recClear_device {m : Byte} (hmin : 1 ≤ m.toNat) (hmax : m.toNat ≤ 3) (hmode : s.mode = .maintain) (hseal : s.sealOpen = true) {rest : List Record}
    (hrest : rest = s.recorder.records.filter fun x => !(m.getLsbD x.entry.sev && decide (x.entry.sev < 2))) :
    s.recClear h [m] = ({ s with recorder := { s.recorder with records := rest } }.raise 43 0x002B 0
      (7 + 256 * m.toNat + 1024 * min 4194303 (s.recorder.records.length - rest.length))).reply h stDone (le 4 (s.recorder.records.length - rest.length)) := by
  subst hrest
  have hmask : ¬(m.toNat = 0 ∨ 3 < m.toNat) := by omega
  have hseal' : ¬(!s.sealOpen) = true := by simp [hseal]
  exact (State.recServes_device hu hready _).trans ((if_neg hmask).trans ((if_neg (not_not.mpr hmode)).trans (if_neg hseal')))

end Opcodes

/-- Settles O29: the recorder's own steps, then its opcodes once the scan has ended. -/
theorem recorderRuns : Obligations.RecorderRuns := by
  unfold Obligations.RecorderRuns
  refine ⟨fun dt s => ⟨fun e q hq hwrites hcredit => exec_recordWrite hq hwrites hcredit dt, fun htime => ?_, fun hloss hroom => ?_, fun hwrites htime n hn => ?_, ?_⟩,
    fun dt c ps s hu hready => ⟨s.recorder.sorted_perm, fun ht => ?_, fun k n sev out ht hk hn hsev hmin hmax hle hout => ?_, ?_⟩⟩
  · have htime' : (s.advance dt).elapsed (s.advance dt).recorder.creditAt (us 40) = true := htime
    rw [← satInc_eq_min]
    exact congrArg Host.Outcome.next (if_pos htime')
  · exact congrArg Host.Outcome.next (if_neg (not_or.mpr ⟨hloss, Nat.not_lt.mpr hroom⟩))
  · have htime' : (s.advance dt).elapsed (s.advance dt).recorder.savedAt (60 * ms 1000) = true := htime
    exact congrArg Host.Outcome.next ((if_pos htime').trans (State.saveCounters_of_recWrites ((s.recWrites_advance dt).trans hwrites) (Fin.ext hn.symm)))
  · rintro k rfl
    rfl
  · refine ⟨(s.recorder.sorted.head?.map Record.key).getD ⟨0, 0, 0⟩, (s.recorder.sorted.getLast?.map Record.key).getD ⟨0, 0, 0⟩,
      congrArg Host.Outcome.next ((State.exec_takes dt State.recInfo ht).trans (State.recServes_device (s := s.accepted dt c) (h := s.handle 0x50 c) hu hready _)), fun r rs hsorted => ?_⟩
    rw [hsorted, List.getLast?_cons]
    exact ⟨rfl, rfl⟩
  · obtain ⟨rep, hread⟩ := State.recRead_device (s := s.accepted dt c) (h := s.handle 0x51 c) hu hready hn hsev hmin hmax hle hk hout
    exact ⟨rep, congrArg Host.Outcome.next ((State.exec_takes dt State.recRead ht).trans hread)⟩
  · rintro m rest ht hmin hmax hmode hseal hrest n rfl
    exact congrArg Host.Outcome.next ((State.exec_takes dt State.recClear ht).trans
      (State.recClear_device (s := s.accepted dt c) (h := s.handle 0x52 c) hu hready hmin hmax hmode hseal hrest))

end Sys2Proof.Machine
end

section
/-! The firmware banks and the boot record: what a write stores and leaves, and the firmware opcodes (R491, R499, R500, R502). -/

namespace Sys2Proof.Machine

/-! ## Writing a bank -/

section WriteBank
variable {rest : Nat → Byte}

/-- An address outside the bytes written reads as before. -/
theorem Memory.read_writeAll_of_outside (vs : List Byte) {l : List Host.Cell} {a x : Nat} (hl : Memory.wf rest l = true) (hx : x < a ∨ a + vs.length ≤ x) :
    Memory.read rest (Memory.writeAll rest l a vs) x = Memory.read rest l x := by
  induction vs generalizing l a with
  | nil => rfl
  | cons v vs ih =>
    rw [List.length_cons] at hx
    rw [Memory.writeAll, ih (Memory.write_wf a v hl) (by omega), Memory.read_write a x v hl, if_neg (by omega)]

/-- The k-th byte written is read at the k-th address. -/
theorem Memory.read_writeAll (vs : List Byte) {l : List Host.Cell} (a : Nat) (hl : Memory.wf rest l = true) (k : Nat) (hk : k < vs.length) :
    Memory.read rest (Memory.writeAll rest l a vs) (a + k) = vs[k] := by
  induction vs generalizing l a k with
  | nil => exact absurd hk (Nat.not_lt_zero k)
  | cons v vs ih =>
    have hwf := Memory.write_wf a v hl
    rw [Memory.writeAll]
    cases k with
    | zero =>
      rw [Memory.read_writeAll_of_outside vs hwf (by omega), Memory.read_write a _ v hl]
      exact if_pos rfl
    | succ k =>
      have htail := ih (a + 1) hwf k (Nat.lt_of_succ_lt_succ hk)
      rwa [Nat.succ_add_eq_add_succ] at htail

end WriteBank

theorem Power.other_ne_running (x : Power) : x.other.val ≠ x.running.val := by
  rw [Power.other]
  generalize x.running = r
  revert r
  decide

/-- The inactive bank after a write, and the running one. -/
theorem State.fwPut_banks {s : State} (hs : s.Bounded) (a : Nat) (l : List Byte) :
    (∀ k (h : k < l.length), (s.fwPut a l).power.banks[s.power.other].read (a + k) = l[k])
    ∧ (∀ x, (x < a ∨ a + l.length ≤ x) → (s.fwPut a l).power.banks[s.power.other].read x = s.power.banks[s.power.other].read x)
    ∧ (s.fwPut a l).power.banks[s.power.running] = s.power.banks[s.power.running] := by
  obtain ⟨hbanks, -⟩ := hs
  have hother : (s.fwPut a l).power.banks[s.power.other] = s.power.banks[s.power.other].write a l := Vector.getElem_set_self _
  have hread (x : Nat) : (s.fwPut a l).power.banks[s.power.other].read x = (s.power.banks[s.power.other].write a l).read x := congrArg (Bank.read · x) hother
  exact ⟨fun k hk => (hread _).trans (Memory.read_writeAll l a (hbanks _) k hk), fun x hx => (hread _).trans (Memory.read_writeAll_of_outside l (hbanks _) hx),
    Vector.getElem_set_ne s.power.other.isLt s.power.running.isLt s.power.other_ne_running⟩

/-! ## The firmware opcodes -/

theorem State.fwServes_of_admitted {s : State} {h : Handle} {ok : Bool} (hu : h.unit = 0) (hok : ok = true) (f : State) : s.fwServes h ok f = f :=
  (if_neg (not_not.mpr hu)).trans (if_neg (by simp [hok]))

theorem State.fwBegin_maintain {s : State} {h : Handle} (hu : h.unit = 0) (hmode : s.mode = .maintain) (ps : List Byte) :
    s.fwBegin h ps = (s.fwPut 0 (List.replicate 512 0)).reply h stDone [] :=
  State.fwServes_of_admitted hu (decide_eq_true hmode) _

theorem State.fwWrite_maintain {s : State} {h : Handle} (hu : h.unit = 0) (hmode : s.mode = .maintain) {ps : List Byte} (haddr : unLe (ps.take 4) % 4 = 0)
    (hlen : (ps.drop 4).length % 4 = 0) (hfits : unLe (ps.take 4) + (ps.drop 4).length ≤ bankSize) :
    s.fwWrite h ps = (s.fwPut (unLe (ps.take 4)) (ps.drop 4)).reply h stDone [] := by
  have hgood : ¬(unLe (ps.take 4) % 4 ≠ 0 ∨ (ps.drop 4).length % 4 ≠ 0 ∨ bankSize < unLe (ps.take 4) + (ps.drop 4).length) := by omega
  exact (State.fwServes_of_admitted hu (decide_eq_true hmode) _).trans (if_neg hgood)

theorem State.fwStatus_device {s : State} {h : Handle} (hu : h.unit = 0) (ps : List Byte) : s.fwStatus h ps
    = s.reply h stDone (le 1 ((s.power.record.map (·.active)).getD s.power.running).val ++ le 1 s.power.running.val
      ++ le 1 (bit s.power.trialRunning + 2 * bit (((s.power.record.map (·.trial)).getD none).isSome && !s.power.trialRunning) + 4 * bit s.power.verified)
      ++ le 4 (s.power.version 0) ++ le 4 (s.power.version 1) ++ le 4 s.power.floor) :=
  State.fwServes_of_admitted hu rfl _

/-- Settles O33: both opcodes write the inactive bank, FW_WRITE with its own bytes and FW_BEGIN with the zeros of the header. -/
theorem firmwareStores : Obligations.FirmwareStores := by
  unfold Obligations.FirmwareStores
  intro dt c ps s i op a l hs hu hmode ht hop
  have hexec : exec i s = .next (((s.accepted dt c).fwPut a l).reply (s.handle op c) stDone []) := by
    obtain ⟨rfl, rfl, rfl, rfl, haddr, hlen, hfits⟩ | ⟨rfl, rfl, rfl, rfl⟩ := hop
    · exact congrArg Host.Outcome.next ((State.exec_takes dt State.fwWrite ht).trans
        (State.fwWrite_maintain (s := s.accepted dt c) (h := s.handle 0x72 c) hu hmode haddr hlen hfits))
    · exact congrArg Host.Outcome.next ((State.exec_takes dt State.fwBegin ht).trans
        (State.fwBegin_maintain (s := s.accepted dt c) (h := s.handle 0x71 c) hu hmode ps))
  obtain ⟨hwritten, hkept, hrunning⟩ := State.fwPut_banks hs a l
  exact ⟨_, hexec, hwritten, hkept, hrunning, rfl, rfl⟩

/-! ## The boot record (R500) -/

/-- A record in force that is not the first copy is the second. -/
theorem Power.second_of_record {x : Power} {r : BootRecord} (h : x.record = some r) (hfirst : x.boot[0] ≠ some r) : x.boot[1] = some r := by
  rw [Power.record] at h
  split at h
  next a b ha hb =>
    split at h
    · exact absurd (ha.trans h) hfirst
    · exact hb.trans h
  next a ha _ => exact absurd (ha.trans h) hfirst
  next => exact h

/-- The boot record that is changed is in force with the next generation. -/
theorem Power.record_setRecord {x : Power} {r : BootRecord} (h : x.record = some r) (f : BootRecord → BootRecord) :
    (x.setRecord f).record = some { f r with gen := r.gen + 1 } := by
  have hset : x.setRecord f = { x with boot := x.boot.set (if x.boot[0] = some r then 1 else 0 : Fin 2).val (some { f r with gen := r.gen + 1 }) } := by
    rw [Power.setRecord, h]
  rw [hset, Power.record]
  dsimp only
  by_cases hfirst : x.boot[0] = some r
  · simp [hfirst]
  · simp [hfirst, Power.second_of_record h hfirst]

/-- A verification ends with this reason, version and security counter. -/
def State.fwVerified (s : State) (h : Handle) (c : Nat × Nat × Nat) : State :=
  let t : State := { s with power := { s.power with verify := none, verified := decide (c.1 = 0) } }
  if c.1 = 0 then (t.fwEvent 6 s.power.other).reply h stDone (le 4 c.2.1 ++ le 4 c.2.2) else t.reply h stBadParam (le 1 c.1)

theorem exec_fwVerifyDone_of_verify {s : State} {h : Handle} (hverify : s.power.verify = some h) (dt : Nat) :
    exec (.fwVerifyDone dt) s = .next ((s.advance dt).fwVerified h (s.power.banks[s.power.other].check s.power.floor)) := by
  have hverify' : (s.advance dt).power.verify = some h := hverify
  show execFwVerifyDone dt s = _
  unfold execFwVerifyDone
  dsimp only
  rw [hverify']
  rfl

/-- Settles O34: each opcode in a mode that admits it, and the end of a verification. -/
theorem firmwareCommands : Obligations.FirmwareCommands := by
  unfold Obligations.FirmwareCommands
  intro dt c s hu
  refine ⟨fun ht => ?_, fun ht hmode hverify => ?_, fun h why ver sec t hverify hcheck htt => ?_, fun ht hmode hverified => ?_,
    fun ht hmode htrial r hr => ?_, fun ht hmode r hr => ⟨fun hnone => ?_, fun k hk => ?_⟩⟩
  · exact ⟨_, _, congrArg Host.Outcome.next ((State.exec_takes dt State.fwStatus ht).trans (State.fwStatus_device (s := s.accepted dt c) (h := s.handle 0x70 c) hu [])),
      fun r hr => ⟨congrArg (fun x : Option BootRecord => ((x.map (·.active)).getD s.power.running).val) hr,
        congrArg (fun x : Option BootRecord => ((x.map (·.trial)).getD none).isSome) hr⟩⟩
  · have hok : (decide ((s.accepted dt c).mode = .maintain) && (s.accepted dt c).power.verify.isNone) = true :=
      Bool.and_eq_true_iff.mpr ⟨decide_eq_true hmode, Option.isNone_iff_eq_none.mpr hverify⟩
    exact congrArg Host.Outcome.next ((State.exec_takes dt State.fwVerify ht).trans (State.fwServes_of_admitted (h := s.handle 0x73 c) hu hok _))
  · subst htt
    have hdone := exec_fwVerifyDone_of_verify hverify dt
    rw [hcheck] at hdone
    exact ⟨fun hwhy => hdone.trans (congrArg Host.Outcome.next (if_pos hwhy)), fun hwhy => hdone.trans (congrArg Host.Outcome.next (if_neg hwhy))⟩
  · have hok : (decide ((s.accepted dt c).mode = .maintain) && (s.accepted dt c).power.verified) = true := Bool.and_eq_true_iff.mpr ⟨decide_eq_true hmode, hverified⟩
    exact congrArg Host.Outcome.next ((State.exec_takes dt State.fwActivate ht).trans (State.fwServes_of_admitted (h := s.handle 0x74 c) hu hok _))
  · have hok : ((decide ((s.accepted dt c).mode = .configure) || decide ((s.accepted dt c).mode = .maintain)) && (s.accepted dt c).power.trialRunning) = true := by
      have hmode' : (s.accepted dt c).mode = .configure ∨ (s.accepted dt c).mode = .maintain := hmode
      have htrial' : (s.accepted dt c).power.trialRunning = true := htrial
      rw [htrial']
      simpa using hmode'
    exact ⟨_, congrArg Host.Outcome.next ((State.exec_takes dt State.fwConfirm ht).trans (State.fwServes_of_admitted (h := s.handle 0x75 c) hu hok _)), rfl,
      Power.record_setRecord hr _⟩
  all_goals
    have hrevert := (State.exec_takes dt State.fwRevert ht).trans (State.fwServes_of_admitted (s := s.accepted dt c) (h := s.handle 0x76 c) hu (decide_eq_true hmode) _)
    have hnamed : ((s.accepted dt c).power.record.map (·.trial)).getD none = r.trial := congrArg (fun x : Option BootRecord => (x.map (·.trial)).getD none) hr
  · exact congrArg Host.Outcome.next (hrevert.trans (by rw [hnamed, hnone]))
  · exact congrArg Host.Outcome.next (hrevert.trans (by rw [hnamed, hk]; rfl))

end Sys2Proof.Machine
end

section
/-! The CAN controllers: what replies, final outcomes and error levels change of a controller, CAN_CTRL, and the states of a controller (R375–R381, R394–R398). -/

namespace Sys2Proof.Machine

/-! ## What an operation changes of a controller -/

theorem State.modCan_congr {s : State} {n : CanId} {f g : Can → Can} (h : f (s.can n) = g (s.can n)) : s.modCan n f = s.modCan n g := by
  have h' : f s.cans[n] = g s.cans[n] := h
  rw [State.modCan, State.modCan, h']

theorem State.can_modCan_self (s : State) (n : CanId) (f : Can → Can) : (s.modCan n f).can n = f (s.can n) := by simp

theorem State.cans_canTraffic (s : State) (n : CanId) (reason arg outcome : Nat) : (s.canTraffic n reason arg outcome).cans = s.cans :=
  State.canTraffic_field (g := State.cans) (fun _ _ _ _ _ => rfl) ..

/-- From one state of a controller to another a segment may have been loaded into mailbox 12 of CAN3. -/
def Can.Loads (n : CanId) (x y : Can) : Prop := y = x ∨ n = 3 ∧ ∃ f, y = { x with boxes := x.boxes.set 12 (some ⟨f, none, false, none, false, none⟩) }

section Loads
variable (s : State) (n : CanId)

theorem State.can_segPut_loads (k : Nat) : (s.can n).Loads n ((s.segPut k).can n) := by
  unfold State.segPut
  split
  · exact .inl rfl
  · by_cases hn : n = 3
    · subst hn
      exact .inr ⟨rfl, _, Vector.getElem_set_self _⟩
    · have hne : (3 : Nat) ≠ n.val := fun e => hn (Fin.ext e.symm)
      exact .inl (Vector.getElem_set_ne (by decide) n.isLt hne)

theorem State.can_segLoad_loads : (s.can n).Loads n (s.segLoad.can n) :=
  iteInduction (motive := fun t : State => (s.can n).Loads n (t.can n)) (fun _ => s.can_segPut_loads n 0) (fun _ => .inl rfl)

theorem State.can_putReply_loads (p : PortId) (r : Reply) : (s.can n).Loads n ((s.putReply p r).can n) :=
  iteInduction (motive := fun t : State => (s.can n).Loads n (t.can n)) (fun _ => .inl rfl)
    (fun _ => iteInduction (motive := fun t : State => (s.can n).Loads n (t.can n)) (fun _ => State.can_segLoad_loads _ n) (fun _ => .inl rfl))

/-- A reply changes of a controller at most the mailbox of the segments. -/
theorem State.can_reply_loads (h : Handle) (status : Nat) (ps : List Byte) : (s.can n).Loads n ((s.reply h status ps).can n) :=
  iteInduction (motive := fun t : State => (s.can n).Loads n (t.can n)) (fun _ => .inl rfl) (fun _ => State.can_putReply_loads _ n _ _)

end Loads

theorem State.can_canEvent (s : State) (n : CanId) (reason arg : Nat) (m : CanId) : (s.canEvent n reason arg).can m = s.can m := rfl

section Fields
variable {β : Type} {g : Can → β}

theorem State.can_modCan_field {f : Can → Can} (hf : ∀ x, g (f x) = g x) (s : State) (n m : CanId) : g ((s.modCan n f).can m) = g (s.can m) := by
  rw [State.can_modCan]
  split
  next h => exact h ▸ hf _
  next => rfl

theorem Can.Loads.field {n : CanId} {x y : Can} (h : x.Loads n y) (hg : ∀ (x : Can) (b : Vector (Option TxBox) 16), g { x with boxes := b } = g x) : g y = g x := by
  obtain rfl | ⟨-, f, rfl⟩ := h
  · rfl
  · exact hg _ _

theorem State.can_reply (hg : ∀ (x : Can) (b : Vector (Option TxBox) 16), g { x with boxes := b } = g x) (s : State) (h : Handle) (status : Nat) (ps : List Byte) (n : CanId) :
    g ((s.reply h status ps).can n) = g (s.can n) := (s.can_reply_loads n h status ps).field hg

section Outcomes
variable (hg : ∀ (x : Can) (b w : Vector (Option TxBox) 16), g { x with boxes := b, next := w } = g x) (s : State)
include hg

/-- A final outcome changes of a controller its mailboxes only. -/
theorem State.can_txFinal (n : CanId) (m : Fin 16) (outcome : Nat) (k : CanId) : g ((s.txFinal n m outcome).can k) = g (s.can k) := by
  have hboxes (x : Can) (b : Vector (Option TxBox) 16) : g { x with boxes := b } = g x := hg x b x.next
  unfold State.txFinal
  split
  · rfl
  next b hb =>
    have hmoved : g (((s.modCan n fun x => { x with boxes := x.boxes.set m.val x.next[m], next := x.next.set m.val none }).canTraffic n 3 m.val outcome).can k) = g (s.can k) :=
      (congrArg (fun l : Vector Can 4 => g l[k]) (State.cans_canTraffic ..)).trans (State.can_modCan_field (fun x => hg x _ _) s n k)
    dsimp only
    split
    · exact (State.can_reply hboxes _ _ _ _ k).trans hmoved
    · exact hmoved

theorem State.can_txStale (hstale : ∀ (x : Can) (c : Nat), g { x with stale := c } = g x) (n : CanId) (m : Fin 16) (k : CanId) : g ((s.txStale n m).can k) = g (s.can k) :=
  (State.can_txFinal hg _ n m 2 k).trans (State.can_modCan_field (fun x => hstale x _) s n k)

end Outcomes

end Fields

/-! ## Error counters (R394) -/

/-- The controller with these error counters. -/
def Can.levels (x : Can) (tec recErr : Nat) : Can :=
  { x with
    tec := tec, recErr := min 128 recErr, errState := if 256 ≤ tec then 2 else if 128 ≤ tec ∨ 128 ≤ recErr then 1 else 0
    warning := decide (96 ≤ tec ∨ 96 ≤ recErr), warningSeen := x.warningSeen || (decide (96 ≤ tec ∨ 96 ≤ recErr) && !x.warning) }

/-- New levels raise events and change the controller; of the rest nothing that neither events nor marks show in. -/
theorem State.canLevels_field {β : Type} {g : State → β} (hraise : ∀ (t : State) (src code unit param : Nat), g (t.raise src code unit param) = g t)
    (hmark : ∀ (t : State) (pid unit bit : Nat), g (t.markSet pid unit bit) = g t) (s : State) (n : CanId) (tec recErr : Nat) :
    g (s.canLevels n tec recErr) = g (s.modCan n (·.levels tec recErr)) := by
  have hevent (t : State) (reason arg : Nat) : g (t.canEvent n reason arg) = g t := hraise ..
  unfold State.canLevels
  dsimp only
  have hstate {c : Prop} [Decidable c] (t : State) (reason arg : Nat) : g (if c then t.canEvent n reason arg else t) = g t := ite_field (hevent ..) rfl
  have hbase : s.modCan n (·.levels tec recErr) = s.modCan n fun y => { y with
      tec := tec, recErr := min 128 recErr, errState := if 256 ≤ tec then 2 else if 128 ≤ tec ∨ 128 ≤ recErr then 1 else 0
      warning := decide (96 ≤ tec ∨ 96 ≤ recErr), warningSeen := y.warningSeen || (decide (96 ≤ tec ∨ 96 ≤ recErr) && !(s.can n).warning) } :=
    State.modCan_congr rfl
  rw [hbase]
  exact ite_field ((hmark ..).trans ((hevent ..).trans (hstate ..))) ((hstate ..).trans (hstate ..))

theorem State.can_canLevels (s : State) (n : CanId) (tec recErr : Nat) : (s.canLevels n tec recErr).can n = (s.can n).levels tec recErr :=
  (State.canLevels_field (g := (State.can · n)) (fun _ _ _ _ _ => rfl) (fun _ _ _ _ => rfl) s n tec recErr).trans (s.can_modCan_self n _)

theorem State.canOpt_canLevels (s : State) (n : CanId) (tec recErr b : Nat) (m : CanId) : (s.canLevels n tec recErr).canOpt m b = s.canOpt m b :=
  State.canLevels_field (g := (State.canOpt · m b)) (fun _ _ _ _ _ => rfl) (fun _ _ _ _ => rfl) s n tec recErr

/-- Below 256 the error counters take the controller to no other state. -/
theorem State.canCounts_of_lt (s : State) (n : CanId) {tec : Nat} (htec : tec < 256) (recErr : Nat) : s.canCounts n tec recErr = s.canLevels n tec recErr := by
  have herr : ((s.canLevels n tec recErr).can n).errState ≠ 2 := by
    rw [State.can_canLevels, Can.levels]
    dsimp only
    rw [if_neg (Nat.not_le.mpr htec)]
    split <;> decide
  exact if_neg fun h => herr h.1

/-! ## Bus-off (R394, R395) -/

/-- No frame of the controller is on the bus, and none that waits has been. -/
def Can.calm (x : Can) : Prop := ∀ (m : Fin 16) (b : TxBox), x.boxes[m] = some b ∨ x.next[m] = some b → b.inFlight = false

theorem Can.calm_setBox {x : Can} (hx : x.calm) {o : Option TxBox} (ho : ∀ b, o = some b → b.inFlight = false) (k : Fin 16) :
    Can.calm { x with boxes := x.boxes.set k.val o } := by
  rintro m b (h | h)
  · change (x.boxes.set k.val o)[m.val] = some b at h
    rw [Vector.getElem_set] at h
    split at h
    · exact ho b h
    · exact hx m b (.inl h)
  · exact hx m b (.inr h)

theorem Can.calm_next {x : Can} (hx : x.calm) (k : Fin 16) : Can.calm { x with next := x.next.set k.val none } := by
  rintro m b (h | h)
  · exact hx m b (.inl h)
  · change (x.next.set k.val none)[m.val] = some b at h
    rw [Vector.getElem_set] at h
    split at h
    · cases h
    · exact hx m b (.inr h)

theorem Can.Loads.calm {n : CanId} {x y : Can} (h : x.Loads n y) (hx : x.calm) : y.calm := by
  obtain rfl | ⟨-, f, rfl⟩ := h
  · exact hx
  · exact Can.calm_setBox hx (by rintro b ⟨⟩; rfl) 12

/-- What waited for a mailbox moves into it. -/
def Can.moved (x : Can) (m : Fin 16) : Can := { x with boxes := x.boxes.set m.val x.next[m], next := x.next.set m.val none }

theorem Can.calm_moved {x : Can} (hx : x.calm) (m : Fin 16) : (x.moved m).calm :=
  Can.calm_next (Can.calm_setBox hx (fun b hb => hx m b (.inr hb)) m) m

/-- After a final outcome the next telegram is in the mailbox; the reply may have loaded a segment. -/
theorem State.can_txFinal_loads {s : State} {n : CanId} {m : Fin 16} {b : TxBox} (hb : s.box n m = some b) (outcome : Nat) :
    ((s.can n).moved m).Loads n ((s.txFinal n m outcome).can n) := by
  have hcan : ((s.modCan n (·.moved m)).canTraffic n 3 m.val outcome).can n = (s.can n).moved m :=
    (congrArg (fun l : Vector Can 4 => l[n]) (State.cans_canTraffic ..)).trans (s.can_modCan_self n _)
  unfold State.txFinal
  rw [hb, ← hcan]
  dsimp only
  split
  · exact State.can_reply_loads _ n _ _ _
  · exact .inl rfl

theorem State.calm_txFinal {s : State} {n : CanId} (hs : (s.can n).calm) (m : Fin 16) (outcome : Nat) : ((s.txFinal n m outcome).can n).calm := by
  cases hb : s.box n m with
  | none =>
    rw [State.txFinal, hb]
    exact hs
  | some b => exact (State.can_txFinal_loads hb outcome).calm (Can.calm_moved hs m)

theorem State.calm_txStale {s : State} {n : CanId} (hs : (s.can n).calm) (m : Fin 16) : ((s.txStale n m).can n).calm := by
  have hcount : ((s.modCan n fun x => { x with stale := inc32 x.stale }).can n).calm := by
    rw [State.can_modCan_self]
    exact hs
  exact State.calm_txFinal (s := (s.modCan n fun x => { x with stale := inc32 x.stale }).canEvent n 5 m.val) hcount m 2

/-- An attempt that was aborted ends, if it was the last of its frame. -/
def State.endLate (n : CanId) (m : Fin 16) (t : State) : State :=
  match t.box n m with
  | some b => if b.noRetry then t.txFinal n m 3 else if b.late t.ts then t.txStale n m else t
  | none => t

theorem State.calm_endLate {s : State} {n : CanId} (hs : (s.can n).calm) (m : Fin 16) : ((State.endLate n m s).can n).calm := by
  unfold State.endLate
  split
  · split
    · exact State.calm_txFinal hs m 3
    · split
      · exact State.calm_txStale hs m
      · exact hs
  · exact hs

theorem State.can_endLate {β : Type} {g : Can → β} (hg : ∀ (x : Can) (b w : Vector (Option TxBox) 16), g { x with boxes := b, next := w } = g x)
    (hstale : ∀ (x : Can) (c : Nat), g { x with stale := c } = g x) (s : State) (n : CanId) (m : Fin 16) (k : CanId) : g ((State.endLate n m s).can k) = g (s.can k) := by
  unfold State.endLate
  split
  · exact ite_field (g := fun t : State => g (t.can k)) (s.can_txFinal hg n m 3 k) (ite_field (g := fun t : State => g (t.can k)) (s.can_txStale hg hstale n m k) rfl)
  · rfl

/-- The controller goes off the bus. -/
def Can.offBus (x : Can) (auto : Bool) : Can :=
  { x with state := .busOff, busOffs := inc32 x.busOffs, recovering := auto, boxes := x.boxes.map fun (b : Option TxBox) => b.map fun b => { b with inFlight := false } }

theorem Can.calm_offBus {x : Can} (hnext : ∀ (m : Fin 16) (b : TxBox), x.next[m] = some b → b.inFlight = false) (auto : Bool) : (x.offBus auto).calm := by
  rintro m b (h | h)
  · change (x.boxes.map _)[m.val] = some b at h
    rw [Vector.getElem_map, Option.map_eq_some_iff] at h
    obtain ⟨a, -, rfl⟩ := h
    rfl
  · exact hnext m b h

/-- The device once a controller has gone off the bus: its attempts are aborted, and frames that may not be tried again have ended. -/
def State.busOffMail (s : State) (n : CanId) (tec recErr : Nat) : State :=
  foldState (List.finRange 16) (State.endLate n) (((s.canLevels n tec recErr).modCan n (·.offBus ((s.canLevels n tec recErr).canOpt n 2))).canEvent n 3 2)

theorem State.canCounts_of_busOff {s : State} {n : CanId} {tec : Nat} (htec : 256 ≤ tec) (herr : (s.can n).errState ≠ 2) (recErr : Nat) :
    s.canCounts n tec recErr = if ((s.busOffMail n tec recErr).can n).stopping then (s.busOffMail n tec recErr).canOff n else s.busOffMail n tec recErr := by
  have hnow : ((s.canLevels n tec recErr).can n).errState = 2 := by
    rw [State.can_canLevels, Can.levels]
    exact if_pos htec
  exact if_pos ⟨hnow, herr⟩

/-- What each step of a fold keeps holds at its end. -/
theorem foldState_keeps {α : Type} {P : State → Prop} {f : α → State → State} (hf : ∀ a t, P t → P (f a t)) (l : List α) {s : State} (hs : P s) : P (foldState l f s) := by
  unfold foldState
  induction l generalizing s with
  | nil => exact hs
  | cons a l ih => exact ih (hf a s hs)

section BusOffMail
variable (s : State) (n : CanId) (tec recErr : Nat)

theorem State.can_offBus : (((s.canLevels n tec recErr).modCan n (·.offBus ((s.canLevels n tec recErr).canOpt n 2))).canEvent n 3 2).can n
    = ((s.can n).levels tec recErr).offBus (s.canOpt n 2) := by
  rw [State.can_canEvent, State.can_modCan_self, State.can_canLevels, State.canOpt_canLevels]

theorem State.can_busOffMail {β : Type} {g : Can → β} (hg : ∀ (x : Can) (b w : Vector (Option TxBox) 16), g { x with boxes := b, next := w } = g x)
    (hstale : ∀ (x : Can) (c : Nat), g { x with stale := c } = g x) :
    g ((s.busOffMail n tec recErr).can n) = g (((s.can n).levels tec recErr).offBus (s.canOpt n 2)) := by
  rw [← State.can_offBus]
  exact foldState_field (g := fun t : State => g (t.can n)) fun m t => t.can_endLate hg hstale n m n

theorem State.calm_busOffMail (hnext : ∀ (m : Fin 16) (b : TxBox), (s.can n).next[m] = some b → b.inFlight = false) : ((s.busOffMail n tec recErr).can n).calm := by
  refine foldState_keeps (P := fun t => (t.can n).calm) (fun m t ht => State.calm_endLate ht m) _ ?_
  rw [State.can_offBus]
  exact Can.calm_offBus (x := (s.can n).levels tec recErr) hnext (s.canOpt n 2)

end BusOffMail

theorem State.txBusy_of_calm {s : State} {n : CanId} (hs : (s.can n).calm) : s.txBusy n = false := by
  rw [State.txBusy, List.any_eq_false]
  intro m _
  split
  next b hb => simpa using hs m b (.inl hb)
  next => exact Bool.false_ne_true

/-! ## Entry to OFF (R376) -/

/-- The controller in OFF, before its counters are 0. -/
def Can.enterOff (x : Can) : Can :=
  { x with
    state := .off, fifo := [], bufs := Vector.replicate 8 ⟨none, none, none⟩,
    recovering := false, stopping := false, suspended := false, pex := false, episode := false }

/-- What OFF leaves of a controller: but for its mailboxes it is the controller without its detection, entered into OFF, with both counters 0. -/
theorem State.can_canOff {β : Type} {g : Can → β} (hg : ∀ (x : Can) (b w : Vector (Option TxBox) 16), g { x with boxes := b, next := w } = g x) (s : State) (n : CanId) :
    g ((s.canOff n).can n) = g (Can.levels (Can.enterOff { s.can n with detect := none }) 0 0) := by
  let t := s.modCan n fun x => { x with next := Vector.replicate 16 none, detect := none }
  let u := foldState (List.finRange 16) (fun m t => t.txFinal n m 4) t
  let v := (u.modCan n Can.enterOff).canLevels n 0 0
  have henter (x : Can) (b w : Vector (Option TxBox) 16) : g (Can.levels (Can.enterOff { x with boxes := b, next := w }) 0 0) = g (Can.levels (Can.enterOff x) 0 0) :=
    hg (Can.levels (Can.enterOff x) 0 0) b w
  have hfold : g (Can.levels (Can.enterOff (u.can n)) 0 0) = g (Can.levels (Can.enterOff (t.can n)) 0 0) :=
    foldState_field (g := fun t : State => g (Can.levels (Can.enterOff (t.can n)) 0 0)) fun m t =>
      State.can_txFinal (g := fun x => g (Can.levels (Can.enterOff x) 0 0)) henter t n m 4 n
  have ht : t.can n = { s.can n with next := Vector.replicate 16 none, detect := none } := s.can_modCan_self n _
  have hv : g (v.can n) = g (Can.levels (Can.enterOff { s.can n with detect := none }) 0 0) := by
    rw [State.can_canLevels, State.can_modCan_self, hfold, ht]
    exact henter { s.can n with detect := none } (s.can n).boxes _
  have hreply : ∀ det : Option Detect, g (((match det with
      | some d => v.reply d.reply stModeForbids [0xFF]
      | none => v) : State).can n) = g (v.can n)
    | none => rfl
    | some d => State.can_reply (fun x b => hg x b x.next) ..
  exact ite_field (g := fun t : State => g (t.can n)) ((hreply _).trans hv) ((hreply _).trans hv)

theorem State.state_canOff (s : State) (n : CanId) : ((s.canOff n).can n).state = .off := State.can_canOff (g := Can.state) (fun _ _ _ => rfl) s n

/-! ## CAN_CTRL (R398) -/

section Start
variable {s : State} {h : Handle} {n : CanId}

theorem State.canState_modCan (f : Can → Can) : (s.modCan n f).canState h n = (s.modCan n f).reply h stDone [BitVec.ofNat 8 (f (s.can n)).state.code] := by
  rw [State.canState, State.can_modCan_self]

theorem State.canStart_of_timing (st : CanState) (hstate : (s.can n).state = .off ∨ (s.can n).state = .normal ∨ (s.can n).state = .listen) (htiming : s.canTiming n = none) :
    s.canStart h n st = ((s.modCan n fun x => { x with state := st }).reply h stDone [BitVec.ofNat 8 st.code]).segLoad := by
  have hgo : ¬(!(decide ((s.can n).state = .off) || decide ((s.can n).state = .normal) || decide ((s.can n).state = .listen))) = true := by
    obtain hstate | hstate | hstate := hstate <;> simp [hstate]
  refine (if_neg hgo).trans ?_
  rw [htiming]
  exact congrArg State.segLoad (State.canState_modCan _)

theorem State.canStart_bad_timing (st : CanState) (hstate : (s.can n).state = .off ∨ (s.can n).state = .normal ∨ (s.can n).state = .listen) {k : Nat} (htiming : s.canTiming n = some k) :
    s.canStart h n st = s.reply h stBadParam (detail (canPid n k) 0) := by
  have hgo : ¬(!(decide ((s.can n).state = .off) || decide ((s.can n).state = .normal) || decide ((s.can n).state = .listen))) = true := by
    obtain hstate | hstate | hstate := hstate <;> simp [hstate]
  refine (if_neg hgo).trans ?_
  rw [htiming]

theorem State.canStart_forbidden (st : CanState) (hstate : (s.can n).state = .detecting ∨ (s.can n).state = .sleep ∨ (s.can n).state = .busOff) :
    s.canStart h n st = s.refuse h stModeForbids := by
  refine if_pos ?_
  obtain hstate | hstate | hstate := hstate <;> simp [hstate]

theorem State.can_canWakeUp {β : Type} {g : Can → β} (hg : ∀ (x : Can) (b : Vector (Option TxBox) 16), g { x with boxes := b } = g x) (s : State) (n : CanId) :
    g ((s.canWakeUp n).can n) = g { s.can n with state := (s.can n).sleptFrom } := by
  rw [← s.can_modCan_self n fun x => { x with state := x.sleptFrom }]
  refine ((State.can_segLoad_loads _ n).field hg).trans ?_
  exact congrArg (fun l : Vector Can 4 => g l[n]) (State.cans_canTraffic ..)

end Start

section Ctrl
variable {s : State} {h : Handle} {n : CanId} (hu : h.unit = 0) (hmode : s.mode.fromConfigure = true)
include hu hmode

/-- A command that names a controller, in a mode that admits it. -/
theorem State.withCan_of_mode {c : Byte} (hc : c.toNat = n.val) (ps : List Byte) (f : CanId → State) : s.withCan h (c :: ps) f = f n := by
  have hlt : c.toNat < 4 := hc ▸ n.isLt
  have hn : (⟨c.toNat, hlt⟩ : CanId) = n := Fin.ext hc
  exact (if_neg (not_not.mpr hu)).trans ((dif_pos hlt).trans ((if_pos hmode).trans (congrArg f hn)))

variable {c : Byte} (hc : c.toNat = n.val)
include hc

theorem State.canCtrl_stop_now (h0 : s.txBusy n = false ∨ (s.can n).state ≠ .normal) : s.canCtrl h [c, 0] = (s.canOff n).reply h stDone [0] := by
  have hnow : ¬(s.txBusy n && decide ((s.can n).state = .normal)) = true := by
    obtain hb | hb := h0 <;> simp [hb]
  refine (State.withCan_of_mode hu hmode hc _ _).trans ((congrArg (fun t : State => t.canState h n) (if_neg hnow)).trans ?_)
  rw [State.canState, State.state_canOff]
  rfl

theorem State.canCtrl_stop_later (hbusy : s.txBusy n = true) (hstate : (s.can n).state = .normal) :
    s.canCtrl h [c, 0] = (s.modCan n fun x => { x with stopping := true }).reply h stDone [1] := by
  have hnow : (s.txBusy n && decide ((s.can n).state = .normal)) = true := by simp [hbusy, hstate]
  refine (State.withCan_of_mode hu hmode hc _ _).trans ((congrArg (fun t : State => t.canState h n) (if_pos hnow)).trans ?_)
  rw [State.canState, State.can_modCan_self, hstate]
  rfl

theorem State.canCtrl_sleep (hstate : (s.can n).state = .normal ∨ (s.can n).state = .listen) (hpending : s.txPending n = false) :
    s.canCtrl h [c, 4] = (s.modCan n fun x => { x with state := .sleep, sleptFrom := (s.can n).state, sleptAt := s.ts }).reply h stDone [4] := by
  have hgo : ((decide ((s.can n).state = .normal) || decide ((s.can n).state = .listen)) && !s.txPending n) = true := by
    obtain hstate | hstate := hstate <;> simp [hstate, hpending]
  have hslept : (s.modCan n fun x => { x with state := .sleep, sleptFrom := x.state, sleptAt := s.ts })
      = s.modCan n fun x => { x with state := .sleep, sleptFrom := (s.can n).state, sleptAt := s.ts } := State.modCan_congr rfl
  rw [← hslept]
  exact (State.withCan_of_mode hu hmode hc _ _).trans ((if_pos hgo).trans (State.canState_modCan _))

theorem State.canCtrl_sleep_forbidden (hno : ((s.can n).state ≠ .normal ∧ (s.can n).state ≠ .listen) ∨ s.txPending n = true) : s.canCtrl h [c, 4] = s.refuse h stModeForbids := by
  have hgo : ¬((decide ((s.can n).state = .normal) || decide ((s.can n).state = .listen)) && !s.txPending n) = true := by
    obtain ⟨h1, h2⟩ | hpending := hno
    · simp [h1, h2]
    · simp [hpending]
  exact (State.withCan_of_mode hu hmode hc _ _).trans (if_neg hgo)

theorem State.canCtrl_wake (hsleep : (s.can n).state = .sleep) :
    s.canCtrl h [c, 5] = (s.canWakeUp n).reply h stDone [BitVec.ofNat 8 (s.can n).sleptFrom.code] := by
  refine (State.withCan_of_mode hu hmode hc _ _).trans ((if_pos hsleep).trans ?_)
  rw [State.canState, State.can_canWakeUp (g := Can.state) fun _ _ => rfl]

theorem State.canCtrl_recover (hoff : (s.can n).state = .busOff) : s.canCtrl h [c, 6] = (s.modCan n fun x => { x with recovering := true }).reply h stDone [5] := by
  refine (State.withCan_of_mode hu hmode hc _ _).trans ((if_pos hoff).trans ((State.canState_modCan _).trans ?_))
  rw [hoff]
  rfl

theorem State.canCtrl_recover_elsewhere (hoff : (s.can n).state ≠ .busOff) : s.canCtrl h [c, 6]
    = if (s.can n).recoveredAt = some s.ts then s.reply h stDone [BitVec.ofNat 8 (s.can n).state.code] else s.refuse h stModeForbids :=
  (State.withCan_of_mode hu hmode hc _ _).trans (if_neg hoff)

end Ctrl

/-- What the opcode of a command that is taken makes of the device is the outcome. -/
theorem exec_of_takes {s t : State} {op : Nat} {c : CmdHeader} {ps : List Byte} {dt : Nat} {f : State → Handle → List Byte → State} (ht : s.Takes op c ps)
    (h : f (s.accepted dt c) (s.handle op c) ps = t) : (.next ((s.advance dt).packet op c ps f) : Host.Outcome State Fault Refusal) = .next t :=
  congrArg Host.Outcome.next ((State.exec_takes dt f ht).trans h)

/-! ## Bus errors (R394) -/

section Errors
variable {s : State} {n : CanId} (k : CanErrKind) (severe : Bool)

theorem State.canErr_listen (h : (s.can n).state = .listen) (transmitting : Bool) :
    s.canErr n k transmitting severe = s.modCan n fun y => { y with lastError := errCode k } := by
  rw [State.canErr, h]

variable (h : (s.can n).state = .normal)
include h

theorem State.canErr_transmitter (hk : k ≠ .ack ∨ (s.can n).errState ≠ 1 ∨ severe = true) :
    s.canErr n k true severe = (s.modCan n fun y => { y with lastError := errCode k }).canCounts n ((s.can n).tec + 8) (s.can n).recErr := by
  have hcounts : ¬(k = .ack ∧ (s.can n).errState = 1 ∧ (!severe) = true) := fun ⟨h1, h2, h3⟩ => by
    obtain hk | hk | hk := hk
    · exact hk h1
    · exact hk h2
    · simp [hk] at h3
  rw [State.canErr, h]
  exact (if_pos rfl).trans (if_neg hcounts)

theorem State.canErr_passive_ack (hpassive : (s.can n).errState = 1) : s.canErr n .ack true false = s.modCan n fun y => { y with lastError := 3 } := by
  rw [State.canErr, h]
  exact (if_pos rfl).trans (if_pos ⟨rfl, hpassive, rfl⟩)

theorem State.canErr_receiver :
    s.canErr n k false severe = (s.modCan n fun y => { y with lastError := errCode k }).canCounts n (s.can n).tec ((s.can n).recErr + (if severe then 8 else 1)) := by
  rw [State.canErr, h]
  rfl

end Errors

/-- A transmitter whose count reaches 256 goes off the bus; with no STOP to wait for it stays there. -/
theorem State.canCounts_busOff_stays {s : State} {n : CanId} {tec : Nat} (htec : 256 ≤ tec) (herr : (s.can n).errState ≠ 2) (hstop : (s.can n).stopping = false) (recErr : Nat) :
    s.canCounts n tec recErr = s.busOffMail n tec recErr := by
  have hstays : ((s.busOffMail n tec recErr).can n).stopping = false :=
    (State.can_busOffMail (g := Can.stopping) s n tec recErr (fun _ _ _ => rfl) fun _ _ => rfl).trans hstop
  rw [State.canCounts_of_busOff htec herr, hstays]
  rfl

/-! ## Events of a controller (R375, R381, R395, R396) -/

theorem exec_busOffRecovered_recovering {s : State} {n : CanId} (hstate : (s.can n).state = .busOff) (hrec : (s.can n).recovering = true) (dt : Nat) :
    ∃ t : State, exec (.busOffRecovered dt n) s = .next t ∧ ∀ {β : Type} {g : Can → β}, (∀ (x : Can) (b : Vector (Option TxBox) 16), g { x with boxes := b } = g x) →
      g (t.can n) = g (Can.levels { s.can n with state := .normal, recovering := false, recoveredAt := some (s.advance dt).ts } 0 0) := by
  let u := (s.advance dt).modCan n fun y => { y with state := .normal, recovering := false, recoveredAt := some (s.advance dt).ts }
  refine ⟨((u.canCounts n 0 0).canEvent n 4 0).segLoad, congrArg Host.Outcome.next (if_pos ⟨hstate, hrec⟩), fun {β g} hg => ?_⟩
  have hu : u.can n = { s.can n with state := .normal, recovering := false, recoveredAt := some (s.advance dt).ts } := State.can_modCan_self ..
  rw [(State.can_segLoad_loads _ n).field hg, State.can_canEvent, State.canCounts_of_lt _ n (by decide : 0 < 256), State.can_canLevels, hu]

theorem State.detectMove_of_detect {s : State} {n : CanId} {d : Detect} (hd : (s.can n).detect = some d) : ∃ d', s.detectMove n = s.modCan n (fun x => { x with detect := some d' })
    ∧ d'.good = 0 ∧ d'.since = s.ts ∧ d'.start = d.start ∧ d'.reply = d.reply := by
  have hmoved : s.detectMove n = s.modCan n (fun x => { x with detect := some { d with cand := s.nextCand n ((d.cand.map (· + 1)).getD 0), since := s.ts, good := 0, fdSeen := false } }) := by
    unfold State.detectMove
    refine State.modCan_congr ?_
    rw [hd]
    cases hcand : d.cand <;> simp [hcand]
  exact ⟨_, hmoved, rfl, rfl, rfl, rfl⟩

section Detecting
variable {s : State} {n : CanId} {d : Detect} (hd : (s.can n).detect = some d) {dt : Nat}
include hd

theorem exec_detectWindowEnd_due (htime : (s.advance dt).elapsed d.since (100000 * s.canN n 0x51) = true) :
    exec (.detectWindowEnd dt n) s = .next ((s.advance dt).detectMove n) := by
  have hd' : ((s.advance dt).can n).detect = some d := hd
  have htime' : (s.advance dt).elapsed d.since (ms ((s.advance dt).canN n 0x51)) = true := by
    rw [Nat.mul_comm] at htime
    exact htime
  show execDetectWindowEnd dt n s = _
  unfold execDetectWindowEnd
  dsimp only
  rw [hd']
  exact congrArg Host.Outcome.next (if_pos htime')

theorem exec_detectTimeout_due (htime : (s.advance dt).elapsed d.start (100000 * s.canN n 0x52) = true) :
    exec (.detectTimeout dt n) s = .next (((s.advance dt).canOff n).canEvent n 7 0) := by
  have hd' : ((s.advance dt).can n).detect = some d := hd
  have htime' : (s.advance dt).elapsed d.start (ms ((s.advance dt).canN n 0x52)) = true := by
    rw [Nat.mul_comm] at htime
    exact htime
  show execDetectTimeout dt n s = _
  unfold execDetectTimeout
  dsimp only
  rw [hd']
  exact congrArg Host.Outcome.next (if_pos htime')

end Detecting

theorem exec_wakeEdge_long {s : State} {n : CanId} (hsleep : (s.can n).state = .sleep) (hwake : s.canN n 0x60 = 0) {long : Nat} (hlong : 100 * s.canN n 0x67 ≤ long) (dt : Nat) :
    exec (.wakeEdge dt n long) s = .next (((s.advance dt).canWakeUp n).modCan n fun x => { x with suspended := true }) := by
  have hlong' : us ((s.advance dt).canN n 0x67) ≤ long := by
    rw [Nat.mul_comm] at hlong
    exact hlong
  exact congrArg Host.Outcome.next (if_pos ⟨hsleep, hwake, hlong'⟩)

theorem exec_protocolException_taken {s : State} {n : CanId} (hopt : s.canOpt n 1 = true) (hstate : (s.can n).state = .normal ∨ (s.can n).state = .listen) (dt : Nat) :
    exec (.protocolException dt n) s = .next (((s.advance dt).modCan n fun x => { x with pex := true, suspended := true }).canEvent n 8 (s.can n).errState) :=
  congrArg Host.Outcome.next (if_pos ⟨hopt, hstate.imp_right .inl⟩)

/-- Settles O52: CAN_CTRL by its selector, then the events of a controller. -/
theorem canStates : Obligations.CanStates := by
  unfold Obligations.CanStates
  refine ⟨fun dt c ctrl n s h st hu hc hmode hh hst => ?_, fun dt n k severe s => ?_⟩
  · subst hh hst
    have hctrl (ps : List Byte) (f : CanId → State) : (s.accepted dt c).withCan (s.handle 0x2C c) (ctrl :: ps) f = f n :=
      State.withCan_of_mode (s := s.accepted dt c) (h := s.handle 0x2C c) hu hmode hc ps f
    refine ⟨fun ht => ⟨fun h0 => exec_of_takes ht (State.canCtrl_stop_now (s := s.accepted dt c) (h := s.handle 0x2C c) hu hmode hc h0),
        fun hbusy hstate => exec_of_takes ht (State.canCtrl_stop_later (s := s.accepted dt c) (h := s.handle 0x2C c) hu hmode hc hbusy hstate)⟩,
      fun ht hstate htiming => exec_of_takes ht ((hctrl _ _).trans (State.canStart_of_timing .normal hstate htiming)),
      fun ht hstate => ⟨fun htiming => exec_of_takes ht ((hctrl _ _).trans (State.canStart_of_timing .listen hstate htiming)),
        fun k htiming => exec_of_takes ht ((hctrl _ _).trans (State.canStart_bad_timing (s := s.accepted dt c) (h := s.handle 0x2C c) .listen hstate htiming))⟩,
      fun hstate => ⟨fun ht => exec_of_takes ht ((hctrl _ _).trans (State.canStart_forbidden .normal hstate)),
        fun ht => exec_of_takes ht ((hctrl _ _).trans (State.canStart_forbidden .listen hstate))⟩,
      fun ht => ⟨fun hoff => ⟨_, _, exec_of_takes ht ((hctrl _ _).trans (if_neg (not_not.mpr hoff))), rfl, rfl, rfl, rfl⟩,
        fun hoff => exec_of_takes ht ((hctrl _ _).trans (if_pos hoff))⟩,
      fun ht => ⟨fun hstate hpending => exec_of_takes ht (State.canCtrl_sleep (s := s.accepted dt c) (h := s.handle 0x2C c) hu hmode hc hstate hpending),
        fun hno => exec_of_takes ht (State.canCtrl_sleep_forbidden (s := s.accepted dt c) (h := s.handle 0x2C c) hu hmode hc hno)⟩,
      fun ht => ⟨fun hsleep => ⟨_, exec_of_takes ht (State.canCtrl_wake (s := s.accepted dt c) (h := s.handle 0x2C c) hu hmode hc hsleep),
          State.can_canWakeUp (g := Can.state) (fun _ _ => rfl) (s.accepted dt c) n⟩,
        fun hsleep => exec_of_takes ht ((hctrl _ _).trans (if_neg hsleep))⟩,
      fun ht => ⟨fun hoff => exec_of_takes ht (State.canCtrl_recover (s := s.accepted dt c) (h := s.handle 0x2C c) hu hmode hc hoff),
        fun hoff => exec_of_takes ht (State.canCtrl_recover_elsewhere (s := s.accepted dt c) (h := s.handle 0x2C c) hu hmode hc hoff)⟩⟩
  · refine ⟨fun hlisten b => congrArg Host.Outcome.next (State.canErr_listen (s := s.advance dt) k severe hlisten b),
      fun hnormal hpassive => congrArg Host.Outcome.next (State.canErr_passive_ack (s := s.advance dt) hnormal hpassive),
      fun hnormal hk => ⟨congrArg Host.Outcome.next (State.canErr_transmitter (s := s.advance dt) k severe hnormal hk),
        congrArg Host.Outcome.next (State.canErr_receiver (s := s.advance dt) k severe hnormal)⟩, ?_, fun hstate hrec => ?_, fun d hd => ⟨fun htime => ?_, fun htime => ?_⟩,
      fun long hsleep hwake hlong => ?_, fun hopt hstate => ?_, rfl⟩
    · rintro tec rec t rfl
      refine ⟨fun htec => ?_, fun htec herr hstop hnext => ?_⟩
      · have hcan : (s.canCounts n tec rec).can n = (s.can n).levels tec rec := (congrArg (State.can · n) (s.canCounts_of_lt n htec rec)).trans (s.can_canLevels n tec rec)
        rw [hcan]
        exact ⟨rfl, rfl, rfl, if_neg (Nat.not_le.mpr htec), rfl⟩
      · rw [State.canCounts_busOff_stays htec herr hstop]
        exact ⟨State.can_busOffMail (g := Can.state) s n tec rec (fun _ _ _ => rfl) fun _ _ => rfl,
          State.can_busOffMail (g := Can.recovering) s n tec rec (fun _ _ _ => rfl) fun _ _ => rfl, State.txBusy_of_calm (s.calm_busOffMail n tec rec hnext)⟩
    · obtain ⟨t, hexec, hcan⟩ := exec_busOffRecovered_recovering hstate hrec dt
      exact ⟨t, hexec, hcan (g := Can.state) fun _ _ => rfl, hcan (g := Can.tec) fun _ _ => rfl, hcan (g := Can.recErr) fun _ _ => rfl, hcan (g := Can.errState) fun _ _ => rfl⟩
    · obtain ⟨d', hmove, hd'⟩ := State.detectMove_of_detect (s := s.advance dt) hd
      exact ⟨_, d', exec_detectWindowEnd_due hd htime, hmove, hd'⟩
    · exact ⟨_, exec_detectTimeout_due hd htime, State.state_canOff (s.advance dt) n, State.can_canOff (g := Can.detect) (fun _ _ _ => rfl) (s.advance dt) n⟩
    · refine ⟨_, exec_wakeEdge_long hsleep hwake hlong dt, ?_⟩
      rw [State.can_modCan_self]
      exact ⟨State.can_canWakeUp (g := Can.state) (fun _ _ => rfl) (s.advance dt) n, rfl⟩
    · refine ⟨_, exec_protocolException_taken hopt hstate dt, ?_⟩
      rw [State.can_canEvent, State.can_modCan_self]
      exact ⟨rfl, rfl, rfl⟩

end Sys2Proof.Machine
end

section
/-! Mailboxes and received frames: CAN_TX, CAN_CANCEL, the mailbox that a controller offers, how an attempt ends, placement and CAN_RX (R383–R393, R399). -/

namespace Sys2Proof.Machine

/-! ## CAN_TX (R399) -/

theorem frameLen_le (f : CanFrame) : frameLen f ≤ 64 := by
  have hlen : ∀ (fdf : Bool) (d : BitVec 4), dlcLen fdf d.toNat ≤ 64 := by decide
  unfold frameLen
  split
  · exact Nat.zero_le _
  · exact hlen _ _

/-- The flag byte of CAN_TX. -/
def frameFlags (f : CanFrame) : Nat := bit f.ide + 2 * bit f.fdf + 4 * bit f.brs + 8 * bit f.rtr

theorem frameFlags_bits (f : CanFrame) : frameFlags f < 16 ∧ (frameFlags f).testBit 0 = f.ide ∧ (frameFlags f).testBit 1 = f.fdf ∧ (frameFlags f).testBit 2 = f.brs
    ∧ (frameFlags f).testBit 3 = f.rtr := by
  have hbits : ∀ a b c d : Bool, bit a + 2 * bit b + 4 * bit c + 8 * bit d < 16 ∧ (bit a + 2 * bit b + 4 * bit c + 8 * bit d).testBit 0 = a
      ∧ (bit a + 2 * bit b + 4 * bit c + 8 * bit d).testBit 1 = b ∧ (bit a + 2 * bit b + 4 * bit c + 8 * bit d).testBit 2 = c
      ∧ (bit a + 2 * bit b + 4 * bit c + 8 * bit d).testBit 3 = d := by decide
  exact hbits _ _ _ _

/-- The parameters of CAN_TX. -/
def canTxParams (n : CanId) (m : Fin 16) (f : CanFrame) (dl : Nat) : List Byte :=
  le 1 n.val ++ le 1 m.val ++ le 4 f.id.toNat ++ le 1 (frameFlags f) ++ le 1 f.dlc.toNat ++ le 2 dl ++ f.data

/-- CAN_TX by the values that its parameters carry. -/
def State.canTxValues (s : State) (h : Handle) (n : CanId) (m id fl dlc dl : Nat) (data : List Byte) : State :=
  if hm : 12 ≤ m then s.refuse h stBadParam
  else if 16 ≤ fl ∨ (fl.testBit 3 ∧ fl.testBit 1) ∨ (fl.testBit 2 ∧ !fl.testBit 1) ∨ (fl.testBit 1 ∧ !s.canOpt n 0) ∨ (!fl.testBit 0 ∧ 2048 ≤ id) ∨ 2 ^ 29 ≤ id ∨ 16 ≤ dlc then
    s.refuse h stBadParam
  else
    let f : CanFrame := ⟨fl.testBit 0, fl.testBit 1, fl.testBit 2, fl.testBit 3, false, BitVec.ofNat 29 id, BitVec.ofNat 4 dlc, data⟩
    let box : Fin 16 := ⟨m, by omega⟩
    let st := (s.can n).state
    if data.length ≠ frameLen f then s.refuse h stBadLength
    else if (s.box n box).isSome then s.refuse h stModeForbids
    else if st = .off ∨ st = .detecting ∨ st = .sleep then s.refuse h stModeForbids
    else (s.reply h stAccepted []).setBox n box
      (some ⟨busFrame f, if dl = 0 then none else some (s.ts + BitVec.ofNat 56 (ms dl)), false, none, false, some h⟩)

theorem State.canTx_eq (s : State) (h : Handle) (ps : List Byte) : s.canTx h ps
    = s.withCan h ps fun n => s.canTxValues h n (ps.getD 1 0).toNat (unLe ((ps.drop 2).take 4)) (ps.getD 6 0).toNat (ps.getD 7 0).toNat (unLe ((ps.drop 8).take 2)) (ps.drop 10) := rfl

/-- A frame that the bus can carry passes the checks of CAN_TX. -/
theorem State.canTxValues_frame (s : State) (h : Handle) (n : CanId) {m : Fin 16} (hm : m.val < 12) {f : CanFrame} (hf : busFrame f = f) (hesi : f.esi = false)
    (hfd : f.fdf = true → s.canOpt n 0 = true) (dl : Nat) : s.canTxValues h n m.val f.id.toNat (frameFlags f) f.dlc.toNat dl f.data
      = if (s.box n m).isSome then s.refuse h stModeForbids
        else if (s.can n).state = .off ∨ (s.can n).state = .detecting ∨ (s.can n).state = .sleep then s.refuse h stModeForbids
        else (s.reply h stAccepted []).setBox n m (some ⟨f, if dl = 0 then none else some (s.ts + BitVec.ofNat 56 (ms dl)), false, none, false, some h⟩) := by
  obtain ⟨hflags, hide, hfdf, hbrs, hrtr⟩ := frameFlags_bits f
  have hbrs' : (f.brs && f.fdf) = f.brs := congrArg CanFrame.brs hf
  have hrtr' : (f.rtr && !f.fdf) = f.rtr := congrArg CanFrame.rtr hf
  have hid' : (if f.ide then f.id else f.id &&& 0x7FF#29) = f.id := congrArg CanFrame.id hf
  have hdata : (f.data ++ List.replicate 64 0).take (frameLen f) = f.data := congrArg CanFrame.data hf
  have hlen : f.data.length = frameLen f := by
    have hle := frameLen_le f
    have hmin := congrArg List.length hdata
    rw [List.length_take, List.length_append, List.length_replicate] at hmin
    omega
  have hframe : (⟨f.ide, f.fdf, f.brs, f.rtr, false, BitVec.ofNat 29 f.id.toNat, BitVec.ofNat 4 f.dlc.toNat, f.data⟩ : CanFrame) = f := by
    rw [BitVec.ofNat_toNat, BitVec.ofNat_toNat, BitVec.setWidth_eq, BitVec.setWidth_eq, ← hesi]
  have hbase : f.ide = false → f.id.toNat < 2048 := fun hb => by
    rw [hb, if_neg Bool.false_ne_true] at hid'
    rw [← hid', BitVec.toNat_and]
    exact Nat.and_lt_two_pow (n := 11) _ (by decide)
  have hgood : ¬(16 ≤ frameFlags f ∨ (f.rtr = true ∧ f.fdf = true) ∨ (f.brs = true ∧ (!f.fdf) = true) ∨ (f.fdf = true ∧ (!s.canOpt n 0) = true)
      ∨ ((!f.ide) = true ∧ 2048 ≤ f.id.toNat) ∨ 2 ^ 29 ≤ f.id.toNat ∨ 16 ≤ f.dlc.toNat) := by
    rintro (h16 | ⟨h1, h2⟩ | ⟨h1, h2⟩ | ⟨h1, h2⟩ | ⟨h1, h2⟩ | hid | hdlc)
    · exact Nat.not_le.mpr hflags h16
    · simp [h1, h2] at hrtr'
    · simp [h1, Bool.not_eq_true' .. |>.mp h2] at hbrs'
    · simp [hfd h1] at h2
    · exact Nat.not_le.mpr (hbase (by simpa using h1)) h2
    · exact Nat.not_le.mpr f.id.isLt hid
    · exact Nat.not_le.mpr f.dlc.isLt hdlc
  unfold State.canTxValues
  rw [dif_neg (Nat.not_le.mpr hm), hide, hfdf, hbrs, hrtr, if_neg hgood]
  dsimp only
  rw [hframe, if_neg (not_not.mpr hlen), hf]

theorem State.canTx_frame {s : State} {h : Handle} {n : CanId} (hu : h.unit = 0) (hmode : s.mode.fromConfigure = true) {m : Fin 16} (hm : m.val < 12) {f : CanFrame} (hf : busFrame f = f)
    (hesi : f.esi = false) (hfd : f.fdf = true → s.canOpt n 0 = true) {dl : Nat} (hdl : dl < 65536) : s.canTx h (canTxParams n m f dl)
      = if (s.box n m).isSome then s.refuse h stModeForbids
        else if (s.can n).state = .off ∨ (s.can n).state = .detecting ∨ (s.can n).state = .sleep then s.refuse h stModeForbids
        else (s.reply h stAccepted []).setBox n m (some ⟨f, if dl = 0 then none else some (s.ts + BitVec.ofNat 56 (ms dl)), false, none, false, some h⟩) := by
  have hflags := (frameFlags_bits f).1
  have hbyte {k : Nat} (hk : k < 256) : (BitVec.ofNat 8 k).toNat = k := by rw [BitVec.toNat_ofNat]; exact Nat.mod_eq_of_lt hk
  have hbox : ((canTxParams n m f dl).getD 1 0).toNat = m.val := hbyte (m.isLt.trans (by decide))
  have hid : unLe (((canTxParams n m f dl).drop 2).take 4) = f.id.toNat := unLe_le (w := 4) (f.id.isLt.trans (by decide))
  have hfl : ((canTxParams n m f dl).getD 6 0).toNat = frameFlags f := hbyte (hflags.trans (by decide))
  have hdlc : ((canTxParams n m f dl).getD 7 0).toNat = f.dlc.toNat := hbyte (f.dlc.isLt.trans (by decide))
  have hdead : unLe (((canTxParams n m f dl).drop 8).take 2) = dl := unLe_le (w := 2) hdl
  have hdata : (canTxParams n m f dl).drop 10 = f.data := rfl
  rw [State.canTx_eq, hbox, hid, hfl, hdlc, hdead, hdata, ← State.canTxValues_frame s h n hm hf hesi hfd dl]
  exact State.withCan_of_mode hu hmode (hbyte (n.isLt.trans (by decide))) _ _

/-! ## CAN_CANCEL (R392) -/

/-- CAN_CANCEL of a mailbox. -/
def State.cancelBox (s : State) (h : Handle) (n : CanId) (m : Fin 16) : State :=
  match s.box n m with
  | none => s.refuse h stModeForbids
  | some b => if b.inFlight then (s.setBox n m (some { b with noRetry := true })).refuse h stTooLate else (s.txFinal n m 1).reply h stDone []

theorem State.cancelBox_empty {s : State} {n : CanId} {m : Fin 16} (hbox : s.box n m = none) (h : Handle) : s.cancelBox h n m = s.refuse h stModeForbids := by
  rw [State.cancelBox, hbox]

theorem State.cancelBox_frame {s : State} {n : CanId} {m : Fin 16} {b : TxBox} (hbox : s.box n m = some b) (h : Handle) : s.cancelBox h n m
    = if b.inFlight then (s.setBox n m (some { b with noRetry := true })).refuse h stTooLate else (s.txFinal n m 1).reply h stDone [] := by
  rw [State.cancelBox, hbox]

theorem State.canCancel_box {s : State} {h : Handle} {n : CanId} (hu : h.unit = 0) (hmode : s.mode.fromConfigure = true) {m : Fin 16} (hm : m.val < 12) :
    s.canCancel h (le 1 n.val ++ le 1 m.val) = s.cancelBox h n m := by
  have hbyte {k : Nat} (hk : k < 256) : (BitVec.ofNat 8 k).toNat = k := by rw [BitVec.toNat_ofNat]; exact Nat.mod_eq_of_lt hk
  have hbox : ((le 1 n.val ++ le 1 m.val).getD 1 0).toNat = m.val := hbyte (m.isLt.trans (by decide))
  have hlt : ¬12 ≤ ((le 1 n.val ++ le 1 m.val).getD 1 0).toNat := by omega
  have hfin : (⟨((le 1 n.val ++ le 1 m.val).getD 1 0).toNat, by omega⟩ : Fin 16) = m := Fin.ext hbox
  refine (State.withCan_of_mode hu hmode (hbyte (n.isLt.trans (by decide))) _ _).trans ((dif_neg hlt).trans ?_)
  exact congrArg (s.cancelBox h n) hfin

/-! ## The mailbox that a controller offers (R390) -/

/-- One step of the search: a mailbox against the best before it. -/
def State.offerStep (s : State) (n : CanId) (o : Option (Fin 16)) (m : Fin 16) : Option (Fin 16) :=
  match s.box n m, o with
  | none, _ => o
  | some b, none => if b.startable s.ts then some m else o
  | some b, some k => if !b.startable s.ts then o else match s.box n k with
    | some c => if arbValue b.frame < arbValue c.frame then some m else o
    | none => some m

theorem State.txOffer_eq (s : State) (n : CanId) : s.txOffer n = (List.finRange 16).foldl (s.offerStep n) none := rfl

/-- Mailbox k is the first of the lowest arbitration value among these. -/
def State.Best (s : State) (n : CanId) (l : List (Fin 16)) (k : Fin 16) : Prop :=
  ∃ b, s.box n k = some b ∧ b.startable s.ts = true ∧ ∀ m ∈ l, ∀ x, s.box n m = some x → x.startable s.ts = true →
    arbValue b.frame ≤ arbValue x.frame ∧ (arbValue b.frame = arbValue x.frame → k ≤ m)

/-- What the search has found among these mailboxes. -/
def State.Found (s : State) (n : CanId) (l : List (Fin 16)) : Option (Fin 16) → Prop
  | some k => k ∈ l ∧ s.Best n l k
  | none => ∀ m ∈ l, ∀ x, s.box n m = some x → x.startable s.ts = false

theorem State.found_offerStep {s : State} {n : CanId} {l : List (Fin 16)} {o : Option (Fin 16)} (ho : s.Found n l o) {m : Fin 16} (hm : ∀ k ∈ l, k < m) :
    s.Found n (l ++ [m]) (s.offerStep n o m) := by
  have hsplit {k : Fin 16} (hk : k ∈ l ++ [m]) : k ∈ l ∨ k = m := by simpa using hk
  unfold State.offerStep
  cases o with
  | none =>
    have hbefore {k : Fin 16} (hk : k ∈ l) {x : TxBox} (hx : s.box n k = some x) : x.startable s.ts = false := ho k hk x hx
    cases hbox : s.box n m with
    | none =>
      rintro k hk x hx
      obtain hk | rfl := hsplit hk
      · exact hbefore hk hx
      · exact absurd (hbox.symm.trans hx) (Option.some_ne_none x).symm
    | some b =>
      have hown {x : TxBox} (hx : s.box n m = some x) : x = b := Option.some.inj (hx.symm.trans hbox)
      dsimp only
      cases hb : b.startable s.ts with
      | true =>
        rw [if_pos rfl]
        refine ⟨List.mem_append_right _ (List.mem_singleton_self m), b, hbox, hb, fun k hk x hx hstart => ?_⟩
        obtain hk | rfl := hsplit hk
        · exact absurd ((hbefore hk hx).symm.trans hstart) Bool.false_ne_true
        · exact hown hx ▸ ⟨le_rfl, fun _ => le_rfl⟩
      | false =>
        rw [if_neg Bool.false_ne_true]
        rintro k hk x hx
        obtain hk | rfl := hsplit hk
        · exact hbefore hk hx
        · exact hown hx ▸ hb
  | some k =>
    obtain ⟨hkl, c, hc, hcstart, hbest⟩ := ho
    have hkeep (hm' : ∀ x, s.box n m = some x → x.startable s.ts = true → arbValue c.frame ≤ arbValue x.frame) : s.Found n (l ++ [m]) (some k) := by
      refine ⟨List.mem_append_left _ hkl, c, hc, hcstart, fun j hj x hx hstart => ?_⟩
      obtain hj | rfl := hsplit hj
      · exact hbest j hj x hx hstart
      · exact ⟨hm' x hx hstart, fun _ => (hm k hkl).le⟩
    cases hbox : s.box n m with
    | none => exact hkeep fun x hx => absurd (hbox.symm.trans hx) (Option.some_ne_none x).symm
    | some b =>
      have hown {x : TxBox} (hx : s.box n m = some x) : x = b := Option.some.inj (hx.symm.trans hbox)
      dsimp only
      cases hb : b.startable s.ts with
      | false => exact hkeep fun x hx hstart => absurd ((hown hx ▸ hb).symm.trans hstart) Bool.false_ne_true
      | true =>
        rw [if_neg (by simp), hc]
        dsimp only
        split
        next hlt =>
          refine ⟨List.mem_append_right _ (List.mem_singleton_self m), b, hbox, hb, fun j hj x hx hstart => ?_⟩
          obtain hj | rfl := hsplit hj
          · have hle := (hbest j hj x hx hstart).1
            exact ⟨by omega, fun _ => by omega⟩
          · exact hown hx ▸ ⟨le_rfl, fun _ => le_rfl⟩
        next hlt => exact hkeep fun x hx _ => hown hx ▸ Nat.le_of_not_lt hlt

theorem State.found_foldl {s : State} {n : CanId} (r : List (Fin 16)) {l : List (Fin 16)} {o : Option (Fin 16)} (ho : s.Found n l o) (hsorted : (l ++ r).Pairwise (· < ·)) :
    s.Found n (l ++ r) (r.foldl (s.offerStep n) o) := by
  induction r generalizing l o with
  | nil => simpa using ho
  | cons m r ih =>
    have hbefore : ∀ k ∈ l, k < m := fun k hk => (List.pairwise_append.mp hsorted).2.2 k hk m (List.mem_cons_self ..)
    rw [List.append_cons] at hsorted ⊢
    exact ih (State.found_offerStep ho hbefore) hsorted

theorem State.best_txOffer {s : State} {n : CanId} {k : Fin 16} (h : s.txOffer n = some k) : s.Best n (List.finRange 16) k := by
  have hnone : s.Found n [] none := fun _ hm => absurd hm List.not_mem_nil
  have hfound := State.found_foldl (s := s) (n := n) (List.finRange 16) hnone (List.pairwise_lt_finRange 16)
  rw [← State.txOffer_eq, h] at hfound
  exact hfound.2

/-! ## How an attempt ends (R391, R393) -/

/-- What a controller that STOP waits for does at the end of an attempt. -/
def State.canStopNow (n : CanId) (t : State) : State := if (t.can n).stopping && !t.txBusy n then t.canOff n else t

theorem State.canStopNow_of_not_stopping {t : State} {n : CanId} (h : (t.can n).stopping = false) : t.canStopNow n = t :=
  if_neg (by simp [h])

theorem State.stopping_canCounts {s : State} {n : CanId} (h : (s.can n).stopping = false) (tec recErr : Nat) : ((s.canCounts n tec recErr).can n).stopping = false := by
  by_cases hoff : 256 ≤ tec ∧ (s.can n).errState ≠ 2
  · rw [State.canCounts_busOff_stays hoff.1 hoff.2 h]
    exact (State.can_busOffMail (g := Can.stopping) s n tec recErr (fun _ _ _ => rfl) fun _ _ => rfl).trans h
  · have hcounts : s.canCounts n tec recErr = s.canLevels n tec recErr := by
      refine if_neg fun ⟨herr, hwas⟩ => hoff ⟨?_, hwas⟩
      by_contra hlt
      rw [State.can_canLevels, Can.levels] at herr
      dsimp only at herr
      rw [if_neg hlt] at herr
      split at herr <;> cases herr
    rw [hcounts, State.can_canLevels]
    exact h

section Attempt
variable {s : State} {n : CanId} {m : Fin 16} {b : TxBox} (hbox : s.box n m = some b) (hstate : (s.can n).state = .normal) (dt delay : Nat)
include hbox hstate

theorem exec_canTxOutcome_sofSent (hbusy : s.txBusy n = false) (hpart : (s.can n).suspended = false) (hoffer : (s.advance dt).txOffer n = some m) :
    exec (.canTxOutcome dt n m .sofSent delay) s = .next ((s.advance dt).setBox n m (some { b with inFlight := true, sof := some (s.advance dt).ts })) := by
  have hbox' : (s.advance dt).box n m = some b := hbox
  have hbusy' : (s.advance dt).txBusy n = false := hbusy
  have hpart' : ((s.advance dt).can n).suspended = false := hpart
  have hbegins : ¬((s.advance dt).txBusy n = true ∨ ((s.advance dt).can n).suspended = true ∨ (s.advance dt).txOffer n ≠ some m) := by
    rw [hbusy', hpart', hoffer]
    simp
  show execCanTxOutcome dt n m .sofSent delay s = _
  unfold execCanTxOutcome
  dsimp only
  rw [hbox']
  exact congrArg Host.Outcome.next ((if_neg (not_not.mpr hstate)).trans (if_neg hbegins))

variable (hflight : b.inFlight = true)
include hflight

theorem exec_canTxOutcome_sent : exec (.canTxOutcome dt n m .sent delay) s
    = .next (State.canStopNow n (((if s.canN n 0x0A = 1 ∧ b.frame.fdf = true ∧ b.frame.brs = true then (s.advance dt).modCan n fun y => { y with loopDelay := min 127 delay }
      else s.advance dt).canCounts n ((s.can n).tec - 1) (s.can n).recErr).txFinal n m 0)) := by
  have hbox' : (s.advance dt).box n m = some b := hbox
  show execCanTxOutcome dt n m .sent delay s = _
  unfold execCanTxOutcome
  dsimp only
  rw [hbox']
  exact congrArg Host.Outcome.next ((if_neg (not_not.mpr hstate)).trans (if_neg (by simp [hflight])))

theorem exec_canTxOutcome_lost {t : State} (ht : t = (s.advance dt).setBox n m (some { b with inFlight := false })) : exec (.canTxOutcome dt n m .lost delay) s
    = .next (State.canStopNow n (if b.noRetry then t.txFinal n m 3 else if b.late t.ts then t.txStale n m else t)) := by
  subst ht
  have hbox' : (s.advance dt).box n m = some b := hbox
  show execCanTxOutcome dt n m .lost delay s = _
  unfold execCanTxOutcome
  dsimp only
  rw [hbox']
  exact congrArg Host.Outcome.next ((if_neg (not_not.mpr hstate)).trans (if_neg (by simp [hflight])))

end Attempt

theorem exec_canDeadlineStale_late {s : State} {n : CanId} {m : Fin 16} {b : TxBox} (hbox : s.box n m = some b) (hflight : b.inFlight = false) {dt : Nat}
    (hlate : b.late (s.advance dt).ts = true) : exec (.canDeadlineStale dt n m) s = .next ((s.advance dt).txStale n m) := by
  have hbox' : (s.advance dt).box n m = some b := hbox
  show execCanDeadlineStale dt n m s = _
  unfold execCanDeadlineStale
  dsimp only
  rw [hbox']
  exact congrArg Host.Outcome.next (if_pos (by rw [hlate, hflight]; rfl))

/-- A final outcome of a mailbox that carries no segments: what waited for it is in it. -/
theorem State.box_txFinal {s : State} {n : CanId} {m : Fin 16} {b : TxBox} (hbox : s.box n m = some b) (hm : m ≠ 12) (outcome : Nat) :
    (s.txFinal n m outcome).box n m = (s.can n).next[m] := by
  have hmoved : ((s.can n).moved m).boxes[m] = (s.can n).next[m] := Vector.getElem_set_self _
  obtain h | ⟨-, f, h⟩ := State.can_txFinal_loads hbox outcome
  · rw [State.box, h]
    exact hmoved
  · have hne : (12 : Nat) ≠ m.val := fun e => hm (Fin.ext e.symm)
    rw [State.box, h]
    exact (Vector.getElem_set_ne (by decide) m.isLt hne).trans hmoved

theorem State.txFinal_of_reply {s : State} {n : CanId} {m : Fin 16} {b : TxBox} (hbox : s.box n m = some b) {h : Handle} (hr : b.reply = some h) (outcome : Nat) :
    s.txFinal n m outcome = ((s.modCan n (·.moved m)).canTraffic n 3 m.val outcome).reply h (if outcome = 0 then stDone else stModeForbids)
      (le 1 outcome ++ le 7 (b.sof.getD 0).toNat) := by
  rw [State.txFinal, hbox]
  dsimp only
  rw [hr]
  rfl

/-! ## Received frames (R383–R386) -/

theorem State.filterOf_congr {s t : State} {n : CanId} (howned : (t.can n).owned = (s.can n).owned) (hview : t.view = s.view) (f : CanFrame) : t.filterOf n f = s.filterOf n f := by
  have hpar (off : Nat) : t.canN n off = s.canN n off := congrArg (fun v : View => (v.val (canPid n off) 0).toNat) hview
  simp only [State.filterOf, howned, hpar]

section Place
variable {s : State} {n : CanId} {f : CanFrame} (sof : Ts) (wake : Bool)

/-- A frame goes to the buffer of its filter. -/
theorem State.can_canPlace_filter {k : Fin 8} (hk : s.filterOf n f = some k) : (s.canPlace n f sof wake).can n = { s.can n with
    bufs := (s.can n).bufs.set k.val ((s.can n).bufs[k].arrive s.ts ⟨sof, f, false, false, wake, k.val⟩).1
    overwrites := if ((s.can n).bufs[k].arrive s.ts ⟨sof, f, false, false, wake, k.val⟩).2 then inc32 (s.can n).overwrites else (s.can n).overwrites } := by
  unfold State.canPlace
  rw [hk]
  exact (congrArg (fun l : Vector Can 4 => l[n]) (State.cans_canTraffic ..)).trans (State.can_modCan_self ..)

variable (hnone : s.filterOf n f = none)
include hnone

/-- A frame that no filter matches goes to the end of the FIFO. -/
theorem State.can_canPlace_fifo (hroom : (s.can n).fifo.length < 64) :
    (s.canPlace n f sof wake).can n = { s.can n with fifo := (s.can n).fifo ++ [⟨sof, f, false, false, wake, 0xFF⟩] } := by
  unfold State.canPlace
  rw [hnone]
  dsimp only
  rw [if_pos hroom]
  exact ite_field (g := (State.can · n)) ((congrArg (fun l : Vector Can 4 => l[n]) (State.cans_canTraffic ..)).trans (State.can_modCan_self ..)) (State.can_modCan_self ..)

/-- A frame that finds the FIFO full is lost. -/
theorem State.can_canPlace_lost (hfull : 64 ≤ (s.can n).fifo.length) :
    (s.canPlace n f sof wake).can n = { s.can n with fifoLost := inc32 (s.can n).fifoLost, overflow := true, episode := true } := by
  unfold State.canPlace
  rw [hnone]
  dsimp only
  rw [if_neg (Nat.not_lt.mpr hfull)]
  have hlost := s.can_modCan_self n fun y => { y with fifoLost := inc32 y.fifoLost, overflow := true, episode := true }
  exact ite_field (g := (State.can · n)) hlost ((congrArg (fun l : Vector Can 4 => l[n]) (State.cans_canTraffic ..)).trans hlost)

end Place

theorem State.view_canPlace (s : State) (n : CanId) (f : CanFrame) (sof : Ts) (wake : Bool) : (s.canPlace n f sof wake).view = s.view := by
  have htraffic (t : State) (reason arg : Nat) : (t.canTraffic n reason arg 0).view = t.view := State.canTraffic_field (g := State.view) (fun _ _ _ _ _ => rfl) ..
  unfold State.canPlace
  split
  · exact htraffic ..
  · exact ite_field (g := State.view) (ite_field (g := State.view) (htraffic ..) rfl) (ite_field (g := State.view) rfl (htraffic ..))

theorem State.owned_canPlace (s : State) (n : CanId) (f : CanFrame) (sof : Ts) (wake : Bool) : ((s.canPlace n f sof wake).can n).owned = (s.can n).owned := by
  cases hk : s.filterOf n f with
  | some k => rw [State.can_canPlace_filter sof wake hk]
  | none =>
    by_cases hroom : (s.can n).fifo.length < 64
    · rw [State.can_canPlace_fifo sof wake hk hroom]
    · rw [State.can_canPlace_lost sof wake hk (Nat.le_of_not_lt hroom)]

section Listen
variable {s : State} {n : CanId} {f : CanFrame} (hlisten : (s.can n).state = .listen) (hpart : (s.can n).suspended = false) (hfd : f.fdf = true → s.canOpt n 0 = true)
include hlisten hpart hfd

/-- A controller in LISTEN that takes part receives the frame. -/
theorem State.canReceive_listen (sof : Nat) (take : Bool) : s.canReceive n f sof take = (if take then s.modCan n fun y => { y with pex := false } else
    (s.modCan n fun y => { y with pex := false }).canPlace n (busFrame f) (s.ts - BitVec.ofNat 56 sof) false, true) := by
  have hpart' : ¬(s.can n).suspended = true := by simp [hpart]
  have hcarries : ¬((busFrame f).fdf = true ∧ (!s.canOpt n 0) = true) := fun ⟨h1, h2⟩ => by simp [hfd h1] at h2
  unfold State.canReceive
  dsimp only
  rw [if_neg hpart', if_neg hcarries, hlisten]

/-- The device once a controller in LISTEN has placed a frame. -/
def State.listened (s : State) (n : CanId) (f : CanFrame) (sof : Nat) : State :=
  (s.modCan n fun y => { y with pex := false }).canPlace n (busFrame f) (s.ts - BitVec.ofNat 56 sof) false

theorem State.plainFrame_listen (sof : Nat) (hown : ∀ k, s.filterOf n (busFrame f) = some k → (s.can n).owned.getLsbD k.val = false) :
    s.plainFrame n f sof = s.listened n f sof := by
  have howned : ((s.listened n f sof).can n).owned = (s.can n).owned := by
    rw [State.listened, State.owned_canPlace, State.can_modCan_self]
  have hfilter : (s.listened n f sof).filterOf n (busFrame f) = s.filterOf n (busFrame f) := 
    State.filterOf_congr howned (State.view_canPlace ..) _
  unfold State.plainFrame
  rw [State.canReceive_listen hlisten hpart hfd sof false]
  dsimp only
  rw [if_neg Bool.false_ne_true, ← State.listened]
  split
  next k hk =>
    refine if_neg ?_
    rw [howned, hown k (hfilter.symm.trans hk)]
    simp
  next => rfl

theorem exec_canFrameReceived_listen (hn : n ≠ 3) (dt sof : Nat) (hown : ∀ k, (s.advance dt).filterOf n (busFrame f) = some k → (s.can n).owned.getLsbD k.val = false) :
    exec (.canFrameReceived dt n f sof) s = .next ((s.advance dt).listened n f sof) := by
  refine congrArg Host.Outcome.next ((if_neg fun h => hn h.1).trans ?_)
  exact State.plainFrame_listen (s := s.advance dt) hlisten hpart hfd sof hown

end Listen

/-! ## CAN_RX (R386, R387) -/

theorem PrioBuf.settle_of_unlocked {b : PrioBuf} (h : b.lock = none) (now : Ts) : b.settle now = b := by
  rw [PrioBuf.settle, h]

theorem PrioBuf.settle_of_locked {b : PrioBuf} {now t : Ts} {k : Nat} (h : b.lock = some (t, k)) (hk : now.since t ≤ k) : b.settle now = b := by
  rw [PrioBuf.settle, h]
  exact if_pos hk

/-- CAN_RX of a priority buffer. -/
def State.readBuffer (s : State) (h : Handle) (n : CanId) (k : Fin 8) : State :=
  if (s.can n).owned.getLsbD k.val then
    s.reply h stResource (conflictBlock 5 n.val k.val (([0xB014, 0xB015, 0xB016].find? fun q => s.parNames q 0 = some k.val).getD 0xB014) 0)
  else
    let b := (s.can n).bufs[k].settle (s.ts + (match (s.can n).bufs[k].lock with
      | some _ => BitVec.ofNat 56 (us 2 + 1)
      | none => 0))
    match b.front with
    | some e => (s.drawNat.2.modCan n fun x => { x with bufs := x.bufs.set k.val ⟨none, none, some (s.ts, s.drawNat.1 % (us 2 + 1))⟩ }).reply h stDone
        (le 1 [e].length ++ [e].flatMap RxEntry.bytes)
    | none => (s.drawNat.2.modCan n fun x => { x with bufs := x.bufs.set k.val b }).reply h stDone (le 1 0)

section ReadBuffer
variable {s : State} {n : CanId} {k : Fin 8} (hown : (s.can n).owned.getLsbD k.val = false) (hlock : (s.can n).bufs[k].lock = none) (h : Handle)
include hown hlock

/-- A buffer that holds no frame stays as it is. -/
theorem State.readBuffer_empty (hfront : (s.can n).bufs[k].front = none) :
    s.readBuffer h n k = (s.drawNat.2.modCan n fun x => { x with bufs := x.bufs.set k.val (s.can n).bufs[k] }).reply h stDone [0] := by
  unfold State.readBuffer
  rw [PrioBuf.settle_of_unlocked hlock, if_neg (ne_true_of_eq_false hown)]
  dsimp only
  rw [hfront]
  rfl

/-- The frame of a buffer is returned, and the buffer locked. -/
theorem State.readBuffer_frame {e : RxEntry} (hfront : (s.can n).bufs[k].front = some e) :
    s.readBuffer h n k = (s.drawNat.2.modCan n fun x => { x with bufs := x.bufs.set k.val ⟨none, none, some (s.ts, s.drawNat.1 % (us 2 + 1))⟩ }).reply h stDone (1 :: e.bytes) := by
  unfold State.readBuffer
  rw [PrioBuf.settle_of_unlocked hlock, if_neg (ne_true_of_eq_false hown)]
  dsimp only
  rw [hfront]
  dsimp only
  rw [List.flatMap_singleton]
  rfl

end ReadBuffer

section Rx
variable {s : State} {h : Handle} {n : CanId} (hu : h.unit = 0) (hmode : s.mode.fromConfigure = true) {count : Nat} (hlo : 1 ≤ count) (hhi : count ≤ 8)
include hu hmode hlo hhi

theorem State.canRx_fifo : s.canRx h (le 1 n.val ++ [0] ++ le 1 count)
    = (s.modCan n fun x => { x with fifo := x.fifo.drop count, episode := x.episode && decide (32 < (x.fifo.drop count).length) }).reply h stDone
      (le 1 (min count (s.can n).fifo.length) ++ ((s.can n).fifo.take count).flatMap RxEntry.bytes) := by
  have hbyte {k : Nat} (hk : k < 256) : (BitVec.ofNat 8 k).toNat = k := by rw [BitVec.toNat_ofNat]; exact Nat.mod_eq_of_lt hk
  have hcount : ((le 1 n.val ++ [0] ++ le 1 count).getD 2 0).toNat = count := hbyte (by omega)
  have hgood : ¬(((le 1 n.val ++ [0] ++ le 1 count).getD 2 0).toNat = 0 ∨ 8 < ((le 1 n.val ++ [0] ++ le 1 count).getD 2 0).toNat) := by omega
  refine (State.withCan_of_mode hu hmode (hbyte (n.isLt.trans (by decide))) _ _).trans ((if_neg hgood).trans ((if_pos rfl).trans ?_))
  dsimp only
  rw [hcount, List.length_take]

theorem State.canRx_buffer (k : Fin 8) : s.canRx h (le 1 n.val ++ le 1 (k.val + 1) ++ le 1 count) = s.readBuffer h n k := by
  have hbyte {k : Nat} (hk : k < 256) : (BitVec.ofNat 8 k).toNat = k := by rw [BitVec.toNat_ofNat]; exact Nat.mod_eq_of_lt hk
  have hk := k.isLt
  have hsrc : ((le 1 n.val ++ le 1 (k.val + 1) ++ le 1 count).getD 1 0).toNat = k.val + 1 := hbyte (by omega)
  have hcount : ((le 1 n.val ++ le 1 (k.val + 1) ++ le 1 count).getD 2 0).toNat = count := hbyte (by omega)
  have hgood : ¬(((le 1 n.val ++ le 1 (k.val + 1) ++ le 1 count).getD 2 0).toNat = 0 ∨ 8 < ((le 1 n.val ++ le 1 (k.val + 1) ++ le 1 count).getD 2 0).toNat) := by omega
  have hbuf : ((le 1 n.val ++ le 1 (k.val + 1) ++ le 1 count).getD 1 0).toNat ≠ 0 := by omega
  have hlt : ((le 1 n.val ++ le 1 (k.val + 1) ++ le 1 count).getD 1 0).toNat < 9 := by omega
  have hfin : (⟨((le 1 n.val ++ le 1 (k.val + 1) ++ le 1 count).getD 1 0).toNat - 1, by omega⟩ : Fin 8) = k := Fin.ext (by simp only [hsrc, Nat.add_sub_cancel])
  refine (State.withCan_of_mode hu hmode (hbyte (n.isLt.trans (by decide))) _ _).trans ((if_neg hgood).trans ((if_neg hbuf).trans ((dif_pos hlt).trans ?_)))
  exact congrArg (s.readBuffer h n) hfin

end Rx

theorem State.filterOf_heard (s : State) (n : CanId) (f : CanFrame) : (s.modCan n fun y => { y with pex := false }).filterOf n f = s.filterOf n f := by
  have howned : ((s.modCan n fun y => { y with pex := false }).can n).owned = (s.can n).owned := by rw [State.can_modCan_self]
  exact State.filterOf_congr howned rfl f

section Heard
variable {s : State} {n : CanId} {f : CanFrame} (sof : Nat)

theorem State.can_listened_fifo (hnone : s.filterOf n (busFrame f) = none) (hroom : (s.can n).fifo.length < 64) : (s.listened n f sof).can n
    = { s.can n with pex := false, fifo := (s.can n).fifo ++ [⟨s.ts - BitVec.ofNat 56 sof, busFrame f, false, false, false, 0xFF⟩] } := by
  have hheard := s.can_modCan_self n fun y => { y with pex := false }
  rw [State.listened, State.can_canPlace_fifo _ _ ((s.filterOf_heard n _).trans hnone) (by rw [hheard]; exact hroom), hheard]

theorem State.can_listened_lost (hnone : s.filterOf n (busFrame f) = none) (hfull : 64 ≤ (s.can n).fifo.length) : (s.listened n f sof).can n
    = { s.can n with pex := false, fifoLost := inc32 (s.can n).fifoLost, overflow := true, episode := true } := by
  have hheard := s.can_modCan_self n fun y => { y with pex := false }
  rw [State.listened, State.can_canPlace_lost _ _ ((s.filterOf_heard n _).trans hnone) (by rw [hheard]; exact hfull), hheard]

theorem State.can_listened_filter {k : Fin 8} (hk : s.filterOf n (busFrame f) = some k) : ∃ c, (s.listened n f sof).can n = { s.can n with
    pex := false, bufs := (s.can n).bufs.set k.val ((s.can n).bufs[k].arrive s.ts ⟨s.ts - BitVec.ofNat 56 sof, busFrame f, false, false, false, k.val⟩).1, overwrites := c } := by
  have hheard := s.can_modCan_self n fun y => { y with pex := false }
  rw [State.listened, State.can_canPlace_filter _ _ ((s.filterOf_heard n _).trans hk), hheard]
  exact ⟨_, rfl⟩

end Heard

/-- Settles O53: the mailboxes from CAN_TX to the final outcome, then reception and CAN_RX. -/
theorem canFrames : Obligations.CanFrames := by
  unfold Obligations.CanFrames
  refine ⟨⟨?_, ?_, fun s n k h => ?_, ?_, ?_⟩, ?_, ?_, ?_, ?_, ?_, ?_⟩
  · rintro dt c n m f dl ps s h hu hmode hm hdl hf hesi hfd rfl ht rfl
    have htx := State.canTx_frame (s := s.accepted dt c) (h := s.handle 0x2D c) (n := n) hu hmode hm hf hesi hfd hdl
    have hms : (ms dl) = 100000 * dl := Nat.mul_comm ..
    rw [hms] at htx
    refine ⟨fun hempty hstate => exec_of_takes ht (htx.trans ((if_neg ?_).trans (if_neg ?_))), fun hno => exec_of_takes ht (htx.trans ?_)⟩
    · have hempty' : (s.accepted dt c).box n m = none := hempty
      simp [hempty']
    · rintro (h | h | h) <;> obtain hstate | hstate | hstate := hstate <;> exact absurd (h.symm.trans hstate) (by decide)
    · obtain hfull | hstate := hno
      · exact if_pos (Option.isSome_iff_ne_none.mpr hfull)
      · have hstate' : ((s.accepted dt c).can n).state = .off ∨ ((s.accepted dt c).can n).state = .detecting ∨ ((s.accepted dt c).can n).state = .sleep := hstate
        rw [if_pos hstate', ite_self]
  · rintro dt c n m s h hu hmode hm ht rfl
    have hcancel := State.canCancel_box (s := s.accepted dt c) (h := s.handle 0x2E c) (n := n) hu hmode hm
    exact ⟨fun hempty => exec_of_takes ht (hcancel.trans (State.cancelBox_empty (s := s.accepted dt c) hempty _)),
      fun b hb => exec_of_takes ht (hcancel.trans (State.cancelBox_frame (s := s.accepted dt c) hb _))⟩
  · obtain ⟨b, hb, hstart, hbest⟩ := State.best_txOffer h
    exact ⟨b, hb, hstart, fun m x => hbest m (List.mem_finRange m) x⟩
  · intro dt n m b delay s hbox hstate
    refine ⟨exec_canTxOutcome_sofSent hbox hstate dt delay, fun hflight hstop => ⟨?_, fun x hx => ?_⟩, fun hflight hlate => exec_canDeadlineStale_late hbox hflight hlate⟩
    · refine (exec_canTxOutcome_sent hbox hstate dt delay hflight).trans (congrArg Host.Outcome.next (State.canStopNow_of_not_stopping ?_))
      refine (State.can_txFinal (g := Can.stopping) (fun _ _ _ => rfl) _ n m 0 n).trans (State.stopping_canCounts ?_ _ _)
      exact ite_field (g := fun t : State => (t.can n).stopping) ((congrArg Can.stopping (State.can_modCan_self ..)).trans hstop) hstop
    · have hlate : b.late x.ts = b.late (s.ts + BitVec.ofNat 56 dt) := by subst hx; rfl
      rw [exec_canTxOutcome_lost hbox hstate dt delay hflight hx, hlate]
      refine congrArg Host.Outcome.next (State.canStopNow_of_not_stopping ?_)
      have hx' : (x.can n).stopping = false := by
        rw [hx, State.setBox, State.can_modCan_self]
        exact hstop
      exact ite_field (g := fun t : State => (t.can n).stopping) ((State.can_txFinal (g := Can.stopping) (fun _ _ _ => rfl) x n m 3 n).trans hx')
        (ite_field (g := fun t : State => (t.can n).stopping) ((State.can_txStale (g := Can.stopping) (fun _ _ _ => rfl) x (fun _ _ => rfl) n m n).trans hx') hx')
  · exact fun s n m b outcome hb hm => ⟨State.box_txFinal hb (by omega) outcome, fun h hr => ⟨_, State.txFinal_of_reply hb hr outcome⟩⟩
  · intro dt n f sof s hn hlisten hpart hfd hnone
    have hown : ∀ k, (s.advance dt).filterOf n (busFrame f) = some k → (s.can n).owned.getLsbD k.val = false := fun k hk => absurd (hnone.symm.trans hk) (Option.some_ne_none k).symm
    refine ⟨_, exec_canFrameReceived_listen hlisten hpart hfd hn dt sof hown, ?_⟩
    obtain hroom | hfull := Nat.lt_or_ge (s.can n).fifo.length 64
    · have hcan := State.can_listened_fifo (s := s.advance dt) sof hnone hroom
      rw [hcan]
      exact ⟨fun m => (congrArg (fun x : Can => x.boxes[m]) hcan).symm, rfl, fun _ => ⟨rfl, rfl⟩, fun hfull => absurd hroom (Nat.not_lt.mpr hfull)⟩
    · have hcan := State.can_listened_lost (s := s.advance dt) sof hnone hfull
      rw [hcan]
      exact ⟨fun m => (congrArg (fun x : Can => x.boxes[m]) hcan).symm, rfl, fun hroom => absurd hroom (Nat.not_lt.mpr hfull), fun _ => ⟨rfl, rfl, rfl⟩⟩
  · intro dt n f sof k s hn hlisten hpart hfd hk hown
    have hown' : ∀ j, (s.advance dt).filterOf n (busFrame f) = some j → (s.can n).owned.getLsbD j.val = false := fun j hj => Option.some.inj (hk.symm.trans hj) ▸ hown
    obtain ⟨c, hcan⟩ := State.can_listened_filter (s := s.advance dt) sof hk
    refine ⟨_, exec_canFrameReceived_listen hlisten hpart hfd hn dt sof hown', ?_⟩
    rw [hcan]
    exact ⟨fun m => (congrArg (fun x : Can => x.boxes[m]) hcan).symm, rfl, rfl⟩
  · intro b now e hlock
    rw [PrioBuf.arrive, PrioBuf.settle_of_unlocked hlock, hlock]
    rfl
  · intro b now t k e hlock hk
    rw [PrioBuf.arrive, PrioBuf.settle_of_locked hlock hk, hlock]
    rfl
  · intro dt c n k count s hu hmode hlo hhi hown hlock ht
    have hrx := State.canRx_buffer (s := s.accepted dt c) (h := s.handle 0x2F c) (n := n) hu hmode hlo hhi k
    refine ⟨fun hfront => ⟨_, exec_of_takes ht (hrx.trans (State.readBuffer_empty (s := s.accepted dt c) hown hlock _ hfront)), ?_⟩,
      fun e hfront => ⟨_, (s.accepted dt c).drawNat.1 % (us 2 + 1), exec_of_takes ht (hrx.trans (State.readBuffer_frame (s := s.accepted dt c) hown hlock _ hfront)),
        Nat.le_of_lt_succ (Nat.mod_lt _ (by decide)), ?_⟩⟩
    · rw [State.can_modCan_self]
      exact congrArg (fun l : Vector PrioBuf 8 => { s.can n with bufs := l }) (Vector.set_getElem_self k.isLt)
    · rw [State.can_modCan_self]
      exact ⟨rfl, rfl⟩
  · intro dt c n count s hu hmode hlo hhi ht
    refine ⟨_, exec_of_takes ht (State.canRx_fifo (s := s.accepted dt c) (h := s.handle 0x2F c) (n := n) hu hmode hlo hhi), ?_⟩
    rw [State.can_modCan_self]
    exact ⟨rfl, rfl⟩

end Sys2Proof.Machine
end

section
/-! The host ports: packets, SPI transactions, the segments of CAN3, and the interpreter's turns (R426–R437, R458). -/

namespace Sys2Proof.Machine

/-! ## Packets (R429, R435) -/

theorem Reply.length_bytes (r : Reply) : r.bytes.length = 10 + r.params.length := by
  simp only [Reply.bytes, List.length_append, length_le]
  omega

/-- The header and the parameters of a packet. -/
def Packet.body (k : Packet) : List Byte := [k.version, k.tag.setWidth 8, k.op] ++ le 2 k.unit.toNat ++ le 2 k.params.length ++ [k.flags] ++ k.params

theorem Packet.length_body (k : Packet) : k.body.length = 8 + k.params.length := by
  simp only [Packet.body, List.length_append, length_le, List.length_cons, List.length_nil]

/-- A packet is read as it was written. -/
theorem parsePacket_body (k : Packet) (hk : k.params.length ≤ 1024) : parsePacket false (k.body ++ le 2 (Crc.crc16 k.body).toNat) = some k := by
  have hlen : unLe (((k.body ++ le 2 (Crc.crc16 k.body).toNat).drop 5).take 2) = k.params.length := unLe_le (w := 2) (by omega)
  have hunit : unLe (((k.body ++ le 2 (Crc.crc16 k.body).toNat).drop 3).take 2) = k.unit.toNat := unLe_le (w := 2) k.unit.isLt
  have hsize : (k.body ++ le 2 (Crc.crc16 k.body).toNat).length = 10 + k.params.length := by
    rw [List.length_append, length_le, Packet.length_body]
    omega
  have hbody : (k.body ++ le 2 (Crc.crc16 k.body).toNat).take (8 + k.params.length) = k.body := by
    rw [← Packet.length_body, List.take_left]
  have hcrc : unLe (((k.body ++ le 2 (Crc.crc16 k.body).toNat).drop (8 + k.params.length)).take 2) = (Crc.crc16 k.body).toNat := by
    rw [← Packet.length_body, List.drop_left]
    exact unLe_le (w := 2) (Crc.crc16 k.body).isLt
  have htag : (k.tag.setWidth 8).getLsbD 7 = false := by
    rw [BitVec.getLsbD_setWidth, BitVec.getLsbD_of_ge _ _ (by decide), Bool.and_false]
  have htag' : BitVec.ofNat 7 (k.tag.setWidth 8).toNat = k.tag := by
    rw [BitVec.toNat_setWidth, Nat.mod_eq_of_lt (k.tag.isLt.trans (by decide)), BitVec.ofNat_toNat, BitVec.setWidth_eq]
  have hparams : ((k.body ++ le 2 (Crc.crc16 k.body).toNat).drop 8).take k.params.length = k.params := List.take_left
  unfold parsePacket
  dsimp only
  rw [hlen, hsize, hbody, hcrc, hunit, hparams]
  have hunit' : BitVec.ofNat 16 k.unit.toNat = k.unit := by rw [BitVec.ofNat_toNat, BitVec.setWidth_eq]
  rw [if_neg (by simp; omega), if_neg (not_not.mpr rfl), hunit']
  refine (if_neg (ne_true_of_eq_false htag)).trans ?_
  exact congrArg (fun t => some (⟨k.version, t, k.op, k.unit, k.flags, k.params⟩ : Packet)) htag'

/-! ## SPI (R427–R431) -/

theorem State.spiHead_of_replies {s : State} {r : Reply} {l : List Reply} (h : (s.port 0).replies = r :: l) : s.spiHead = r.bytes := by
  rw [State.spiHead, h]

theorem exec_spiWrite_of_up {s : State} (hmode : s.mode ≠ .init) (hoff : s.power.off = false) (dt : Nat) (bytes : List Byte) (cut : Bool) :
    exec (.spiWrite dt bytes cut) s = .next (match (if cut then none else parsePacket false bytes) with
      | none => ((s.advance dt).shiftOut (1 + bytes.length) [BitVec.ofNat 8 (s.advance dt).spiFree]).modPort 0 fun x => { x with lastBad := true }
      | some k => (((s.advance dt).shiftOut (1 + bytes.length) [BitVec.ofNat 8 (s.advance dt).spiFree]).modPort 0 fun x => { x with lastBad := false }).receive 0 k) := by
  have hup : ¬(s.mode = .init ∨ s.power.off = true) := by simp [hmode, hoff]
  exact congrArg Host.Outcome.next (if_neg hup)

theorem State.deliver_of_replies {s : State} {n : PortId} {r : Reply} {l : List Reply} (h : (s.port n).replies = r :: l) :
    s.deliver n = if r.frees then (s.modPort n fun x => { x with replies := l }).freeTag n r.tag else s.modPort n fun x => { x with replies := l } := by
  rw [State.deliver, h]

/-- READ delivers the head reply once all of it has been clocked. -/
theorem exec_spiRead_of_replies {s : State} {r : Reply} {l : List Reply} (hr : (s.port 0).replies = r :: l) (dt n : Nat) :
    exec (.spiRead dt n) s = .next (if 13 + r.params.length ≤ n then ((s.advance dt).shiftOut n (le 2 (10 + r.params.length) ++ r.bytes)).deliver 0
      else (s.advance dt).shiftOut n (le 2 (10 + r.params.length) ++ r.bytes)) := by
  have hhead : (s.advance dt).spiHead = r.bytes := State.spiHead_of_replies (s := s.advance dt) hr
  have hsome : r.bytes ≠ [] := fun h => by
    have hlen := r.length_bytes
    rw [h, List.length_nil] at hlen
    omega
  have hwhole : (r.bytes ≠ [] ∧ r.bytes.length + 3 ≤ n) ↔ 13 + r.params.length ≤ n := by
    rw [Reply.length_bytes]
    exact ⟨fun h => by omega, fun h => ⟨hsome, by omega⟩⟩
  show execSpiRead dt n s = _
  unfold execSpiRead
  dsimp only
  rw [hhead, Reply.length_bytes] at *
  simp only [hwhole]

/-- A reply that has been delivered leaves its port, and frees its tag if it ends its command. -/
theorem State.port_deliver {s : State} {n : PortId} {r : Reply} {l : List Reply} (h : (s.port n).replies = r :: l) : (s.deliver n).port n
    = { s.port n with replies := l, tags := if r.frees then (s.port n).tags &&& ~~~(1#128 <<< r.tag.toNat) else (s.port n).tags } := by
  rw [State.deliver_of_replies h]
  cases r.frees <;> simp [State.freeTag]

/-! ## Segments on CAN3 (R432–R434) -/

section Segment
variable {s : State} {f : CanFrame} {b : Byte} {d : List Byte} (hfd : f.fdf = true) (hdata : f.data = b :: d)
include hfd hdata

theorem State.segReceive_first (hmore : b.getLsbD 7 = false) (hfirst : b.toNat % 64 = 0) : s.segReceive f = s.modPort 1 fun x => { x with seg := some (d, 0, s.ts) } := by
  unfold State.segReceive
  rw [hfd, hdata]
  dsimp only
  rw [if_pos hfirst, hfirst, hmore]
  rfl

theorem State.segReceive_next (hmore : b.getLsbD 7 = false) {l : List Byte} {j : Nat} {t : Ts} (hseg : (s.port 1).seg = some (l, j, t)) (hnext : b.toNat % 64 ≠ 0) :
    s.segReceive f = s.modPort 1 fun x => { x with seg := if b.toNat % 64 = j + 1 ∧ s.ts.since t ≤ 10000000 then some (l ++ d, j + 1, s.ts) else none } := by
  have hms : ms 100 = 10000000 := rfl
  unfold State.segReceive
  simp only [hfd, hdata, hnext, hmore, hms, hseg, Bool.not_true, Bool.false_eq_true, if_false]
  split
  next h =>
    rw [h.1]
  next => rfl

theorem State.segReceive_whole (hone : b.toNat = 128) {k : Packet} (hk : parsePacket true d = some k) : s.segReceive f = (s.modPort 1 fun x => { x with seg := none }).receive 1 k := by
  have hb : b = 128#8 := BitVec.eq_of_toNat_eq hone
  have hlast : b.getLsbD 7 = true := by
    rw [hb]
    decide
  unfold State.segReceive
  simp only [hfd, hdata, hone, hlast, hk, Bool.not_true, Bool.false_eq_true, if_false, Nat.reduceMod, if_true]

end Segment

theorem State.mirquaFrame_listen {s : State} {f : CanFrame} (hlisten : (s.can 3).state = .listen) (hpart : (s.can 3).suspended = false)
    (hfd : f.fdf = true → s.canOpt 3 0 = true) (sof : Nat) : s.mirquaFrame f sof = (s.modCan 3 fun y => { y with pex := false }).segReceive (busFrame f) := by
  rw [State.mirquaFrame, State.canReceive_listen hlisten hpart hfd sof true]
  rfl

theorem State.segSent_of_txSeg {s : State} {k : Nat} {r : Reply} {l : List Reply} (hseg : (s.port 1).txSeg = some k) (hr : (s.port 1).replies = r :: l) :
    s.segSent = if 10 + r.params.length ≤ 63 * (k + 1) then ((s.modPort 1 fun x => { x with txSeg := none }).deliver 1).segLoad else s.segPut (k + 1) := by
  rw [State.segSent, hseg, hr]
  dsimp only
  rw [Reply.length_bytes]

theorem exec_mirquaSegmentSent_of_empty {s : State} (hstate : (s.can 3).state = .normal) (hbox : s.box 3 12 = none) (dt : Nat) :
    exec (.mirquaSegmentSent dt) s = .next (s.advance dt).segSent := by
  have hbox' : (s.advance dt).box 3 12 = none := hbox
  show execMirquaSegmentSent dt s = _
  unfold execMirquaSegmentSent
  dsimp only
  rw [hbox']
  exact congrArg Host.Outcome.next (if_neg (not_not.mpr hstate))

/-! ## The interpreter's turns (R426, R440) -/

theorem State.turn_of_empty {s : State} {n : PortId} (h : (s.port n).rxq = []) : s.turn n = s := by
  rw [State.turn, h]

theorem State.turn_of_room {s : State} {n : PortId} {k : Packet} {l : List Packet} (h : (s.port n).rxq = k :: l) (hroom : (s.port n).room = true) :
    s.turn n = (s.modPort n fun x => { x with rxq := l }).interpret n k := by
  rw [State.turn, h]
  exact if_pos hroom

theorem exec_interpreterTurn_of_interprets {s : State} (h : s.interprets = true) (dt : Nat) : exec (.interpreterTurn dt) s = .next (((s.advance dt).turn 0).turn 1) :=
  congrArg Host.Outcome.next (if_pos h)

/-- Settles O54: SPI, the segments of CAN3, and a turn. -/
theorem hostPorts : Obligations.HostPorts := by
  unfold Obligations.HostPorts
  refine ⟨⟨fun dt bytes s hmode hoff => ⟨fun hbad => ?_, ?_, fun k hk => ?_⟩, fun dt n s r l hr => ?_, fun dt n s => ?_, ?_⟩,
    ⟨fun s f b d hfd hdata hmore => ⟨State.segReceive_first hfd hdata hmore, fun l j t hseg => State.segReceive_next hfd hdata hmore hseg⟩,
      fun s f b d k hfd hdata hone hk => State.segReceive_whole hfd hdata hone hk, fun dt f s hmirqua hlisten hpart hfd => ?_, fun dt s l j t hseg htime => ?_,
      fun dt s r l k hstate hbox hseg hr => ⟨fun hmore => ?_, fun hlast => ?_⟩⟩, fun dt s hint => ⟨fun h0 h1 => ?_, fun k l h0 h1 hroom => ?_, fun k l h0 h1 hroom => ?_⟩⟩
  · refine ⟨_, (exec_spiWrite_of_up hmode hoff dt bytes false).trans (by rw [if_neg Bool.false_ne_true, hbad]), ?_⟩
    simp [State.shiftOut]
  · refine ⟨_, exec_spiWrite_of_up hmode hoff dt bytes true, ?_⟩
    simp [State.shiftOut]
  · refine ⟨_, (exec_spiWrite_of_up hmode hoff dt bytes false).trans (by rw [if_neg Bool.false_ne_true, hk]), ?_⟩
    simp [State.shiftOut]
  · refine ⟨_, exec_spiRead_of_replies hr dt n, ?_⟩
    have hr' : (((s.advance dt).shiftOut n (le 2 (10 + r.params.length) ++ r.bytes)).port 0).replies = r :: l := by simpa [State.shiftOut] using hr
    by_cases hwhole : 13 + r.params.length ≤ n
    · rw [if_pos hwhole, State.port_deliver hr']
      simp [State.shiftOut, hwhole]
    · rw [if_neg hwhole]
      simp [State.shiftOut, hwhole, hr]
  · refine ⟨_, rfl, ?_, ?_⟩
    · simp
      omega
    · intro hn
      obtain ⟨n, rfl⟩ := Nat.exists_eq_succ_of_ne_zero hn.ne'
      rfl
  · rintro k hk l rfl
    exact parsePacket_body k hk
  · refine ⟨_, congrArg Host.Outcome.next ((if_pos hmirqua).trans (State.mirquaFrame_listen (s := s.advance dt) hlisten hpart hfd 0)), rfl, ?_⟩
    rw [State.can_modCan_self]
    exact ⟨rfl, rfl⟩
  · have htime' : (s.advance dt).elapsed t (ms 100) = true := htime
    have hseg' : ((s.advance dt).port 1).seg = some (l, j, t) := hseg
    show execSegmentGapTimeout dt s = _
    unfold execSegmentGapTimeout
    dsimp only
    rw [hseg']
    exact congrArg Host.Outcome.next (if_pos htime')
  · have hsent := State.segSent_of_txSeg (s := s.advance dt) hseg hr
    exact (exec_mirquaSegmentSent_of_empty hstate hbox dt).trans (congrArg Host.Outcome.next (hsent.trans (if_neg (Nat.not_le.mpr hmore))))
  · have hsent := State.segSent_of_txSeg (s := s.advance dt) hseg hr
    have hr' : (((s.advance dt).modPort 1 fun x => { x with txSeg := none }).port 1).replies = r :: l := by simpa using hr
    refine ⟨_, (exec_mirquaSegmentSent_of_empty hstate hbox dt).trans (congrArg Host.Outcome.next (hsent.trans (if_pos hlast))), ?_⟩
    rw [State.port_deliver hr']
    simp
  · have h0' : ((s.advance dt).port 0).rxq = [] := h0
    have h1' : ((s.advance dt).port 1).rxq = [] := h1
    rw [exec_interpreterTurn_of_interprets hint, State.turn_of_empty h0', State.turn_of_empty h1']
  · refine ⟨(s.advance dt).modPort 0 fun x => { x with rxq := l }, rfl, ?_, ?_, ?_⟩
    · simp
    · simpa using h1
    · rw [exec_interpreterTurn_of_interprets hint, State.turn_of_room (s := s.advance dt) h0 hroom]
  · have h0' : ((s.advance dt).port 0).rxq = [] := h0
    rw [exec_interpreterTurn_of_interprets hint, State.turn_of_empty h0', State.turn_of_room (s := s.advance dt) h1 hroom]

end Sys2Proof.Machine
end

section
/-! Safe telegrams: building and loading them, and the checks, windows and streams of those received (R405–R417). -/

namespace Sys2Proof.Machine

/-! ## The bytes of a telegram (R406, R407) -/

/-- The first 60 bytes of a telegram. -/
def State.teleBody (s : State) (type : Nat) (seq : BitVec 16) (payload : List Byte) : List Byte :=
  le 1 1 ++ le 1 type ++ le 2 (s.parN 0xB000 0) ++ le 2 seq.toNat ++ le 4 s.teleTime.toNat ++ le 1 payload.length ++ le 1 0 ++ (payload ++ List.replicate 48 0).take 48

theorem State.teleBytes_eq (s : State) (type : Nat) (seq : BitVec 16) (payload : List Byte) : s.teleBytes type seq payload
    = s.teleBody type seq payload ++ le 4 (Crc.crc32c (BitVec.ofNat 32 (s.parN 0xB001 0)) (s.teleBody type seq payload)).toNat := rfl

theorem State.length_teleBody (s : State) (type : Nat) (seq : BitVec 16) (payload : List Byte) : (s.teleBody type seq payload).length = 60 := by
  simp only [State.teleBody, List.length_append, length_le, List.length_take, List.length_replicate]
  omega

theorem State.length_teleBytes (s : State) (type : Nat) (seq : BitVec 16) (payload : List Byte) : (s.teleBytes type seq payload).length = 64 := by
  rw [State.teleBytes_eq, List.length_append, State.length_teleBody, length_le]

theorem State.teleBody_payload (s : State) (type : Nat) (seq : BitVec 16) {l : List Byte} (hl : l.length ≤ 48) : ((s.teleBody type seq l).drop 12).take l.length = l := by
  have hdrop : (s.teleBody type seq l).drop 12 = (l ++ List.replicate 48 0).take 48 := rfl
  rw [hdrop, List.take_take, Nat.min_eq_left hl, List.take_left]

/-! ## Loading a telegram (R411) -/

/-- The mailbox of a telegram that is loaded now. -/
def State.teleBox (s : State) (id : Nat) (bytes : List Byte) : TxBox :=
  ⟨busFrame ⟨id.testBit 29, true, s.parN 0xB017 0 = 1, false, false, BitVec.ofNat 29 id, 15, bytes⟩, some (s.ts + BitVec.ofNat 56 (ms 5)), false, none, false, none⟩

theorem State.teleBox_data (s : State) (id : Nat) {bytes : List Byte} (h : bytes.length = 64) : (s.teleBox id bytes).frame.data = bytes :=
  List.take_left' h

/-- What shows in neither an event, nor a reply, nor a controller is as before a final outcome. -/
theorem State.txFinal_field {β : Type} {g : State → β} (hraise : ∀ (t : State) (src code unit param : Nat), g (t.raise src code unit param) = g t)
    (hcan : ∀ (t : State) (n : CanId) (f : Can → Can), g (t.modCan n f) = g t) (hreply : ∀ (t : State) (h : Handle) (status : Nat) (ps : List Byte), g (t.reply h status ps) = g t)
    (s : State) (n : CanId) (m : Fin 16) (outcome : Nat) : g (s.txFinal n m outcome) = g s := by
  have hmoved : g ((s.modCan n fun x => { x with boxes := x.boxes.set m.val x.next[m], next := x.next.set m.val none }).canTraffic n 3 m.val outcome) = g s :=
    (State.canTraffic_field hraise ..).trans (hcan ..)
  unfold State.txFinal
  split
  · rfl
  · dsimp only
    split
    · exact (hreply ..).trans hmoved
    · exact hmoved

theorem State.teleLoad_field {β : Type} {g : State → β} (hraise : ∀ (t : State) (src code unit param : Nat), g (t.raise src code unit param) = g t)
    (hcan : ∀ (t : State) (n : CanId) (f : Can → Can), g (t.modCan n f) = g t) (hreply : ∀ (t : State) (h : Handle) (status : Nat) (ps : List Byte), g (t.reply h status ps) = g t)
    (s : State) (n : CanId) (m : Fin 16) (id : Nat) (bytes : List Byte) : g (s.teleLoad n m id bytes) = g s := by
  unfold State.teleLoad
  dsimp only
  split
  · exact hcan ..
  · exact ite_field (g := g) ((hcan ..).trans (hcan ..)) ((hcan ..).trans (State.txFinal_field hraise hcan hreply ..))

theorem State.tele_teleLoad (s : State) (n : CanId) (m : Fin 16) (id : Nat) (bytes : List Byte) : (s.teleLoad n m id bytes).tele = s.tele :=
  State.teleLoad_field (g := State.tele) (fun _ _ _ _ _ => rfl) (fun _ _ _ => rfl) State.reply_tele ..

theorem State.ts_teleLoad (s : State) (n : CanId) (m : Fin 16) (id : Nat) (bytes : List Byte) : (s.teleLoad n m id bytes).ts = s.ts :=
  State.teleLoad_field (g := State.ts) (fun _ _ _ _ _ => rfl) (fun _ _ _ => rfl) State.reply_ts ..

/-- A final outcome of a frame on one controller leaves the networks of the other one alone. -/
theorem State.can_txFinal_of_ne (s : State) {n k : CanId} (hk : k ≠ n) (hk3 : k ≠ 3) (m : Fin 16) (outcome : Nat) : (s.txFinal n m outcome).can k = s.can k := by
  have hmoved : ((s.modCan n fun x => { x with boxes := x.boxes.set m.val x.next[m], next := x.next.set m.val none }).canTraffic n 3 m.val outcome).can k = s.can k := by
    refine (congrArg (fun l : Vector Can 4 => l[k]) (State.cans_canTraffic ..)).trans ?_
    exact (s.can_modCan ..).trans (if_neg hk.symm)
  unfold State.txFinal
  split
  · rfl
  · dsimp only
    split
    · obtain h | ⟨h, -⟩ := State.can_reply_loads _ k _ _ _
      · exact h.trans hmoved
      · exact absurd h hk3
    · exact hmoved

theorem State.can_teleLoad_of_ne (s : State) {n k : CanId} (hk : k ≠ n) (hk3 : k ≠ 3) (m : Fin 16) (id : Nat) (bytes : List Byte) : (s.teleLoad n m id bytes).can k = s.can k := by
  have hother (t : State) (f : Can → Can) : (t.modCan n f).can k = t.can k := (t.can_modCan ..).trans (if_neg hk.symm)
  unfold State.teleLoad
  dsimp only
  split
  · exact hother ..
  · exact ite_field (g := (State.can · k)) ((hother ..).trans (hother ..)) ((hother ..).trans (s.can_txFinal_of_ne hk hk3 m 1))

/-- A telegram is in its mailbox, unless an earlier one is on the bus. -/
theorem State.box_teleLoad {s : State} {n : CanId} {m : Fin 16} (hidle : ∀ b, s.box n m = some b → b.inFlight = false) (id : Nat) (bytes : List Byte) :
    (s.teleLoad n m id bytes).box n m = some (s.teleBox id bytes) := by
  have hset (t : State) (b : TxBox) : (t.setBox n m (some b)).box n m = some b := by
    rw [State.box, State.setBox, State.can_modCan_self]
    exact Vector.getElem_set_self _
  unfold State.teleLoad
  dsimp only
  split
  · exact hset ..
  next b hb =>
    rw [if_neg (ne_true_of_eq_false (hidle b hb))]
    exact hset ..

/-- A telegram waits for the attempt that is on the bus, which is the last of its frame. -/
theorem State.can_teleLoad_inFlight {s : State} {n : CanId} {m : Fin 16} {b : TxBox} (hb : s.box n m = some b) (hflight : b.inFlight = true) (id : Nat) (bytes : List Byte) :
    (s.teleLoad n m id bytes).can n = { s.can n with boxes := (s.can n).boxes.set m.val (some { b with noRetry := true }), next := (s.can n).next.set m.val (some (s.teleBox id bytes)) } := by
  unfold State.teleLoad
  dsimp only
  rw [hb]
  dsimp only
  rw [if_pos hflight, State.can_modCan_self, State.setBox, State.can_modCan_self]
  rfl

theorem canId_of_lt_two {n : CanId} (hn : n.val < 2) : n = 0 ∨ n = 1 := by
  revert n
  decide

/-- A telegram goes to its mailbox of both networks. -/
def State.loadBoth (s : State) (m : Fin 16) (id : Nat) (bytes : List Byte) : State := (s.teleLoad 0 m id bytes).teleLoad 1 m id bytes

theorem State.tele_loadBoth (s : State) (m : Fin 16) (id : Nat) (bytes : List Byte) : (s.loadBoth m id bytes).tele = s.tele :=
  (State.tele_teleLoad ..).trans (State.tele_teleLoad ..)

theorem State.teleBox_teleLoad (s : State) (n : CanId) (m : Fin 16) (id : Nat) (bytes : List Byte) : (s.teleLoad n m id bytes).teleBox id bytes = s.teleBox id bytes := by
  have hview : (s.teleLoad n m id bytes).view = s.view :=
    State.teleLoad_field (g := State.view) (fun _ _ _ _ _ => rfl) (fun _ _ _ => rfl) (fun t h status ps => by simp [State.view]) ..
  have hpar : (s.teleLoad n m id bytes).parN 0xB017 0 = s.parN 0xB017 0 := congrArg (fun v : View => (v.val 0xB017 0).toNat) hview
  rw [State.teleBox, State.teleBox, hpar, State.ts_teleLoad]

section LoadBoth
variable {s : State} {n : CanId} (hn : n.val < 2) {m : Fin 16} (id : Nat) (bytes : List Byte)
include hn

theorem State.box_loadBoth (hidle : ∀ b, s.box n m = some b → b.inFlight = false) : (s.loadBoth m id bytes).box n m = some (s.teleBox id bytes) := by
  obtain rfl | rfl := canId_of_lt_two hn
  · have hkept := State.can_teleLoad_of_ne (s.teleLoad 0 m id bytes) (n := 1) (k := 0) (by decide) (by decide) m id bytes
    exact (congrArg (fun x : Can => x.boxes[m]) hkept).trans (State.box_teleLoad hidle id bytes)
  · have hkept := State.can_teleLoad_of_ne s (n := 0) (k := 1) (by decide) (by decide) m id bytes
    have hidle' : ∀ b, (s.teleLoad 0 m id bytes).box 1 m = some b → b.inFlight = false := fun b hb => hidle b ((congrArg (fun x : Can => x.boxes[m]) hkept).symm.trans hb)
    rw [State.loadBoth, State.box_teleLoad hidle', State.teleBox_teleLoad]

theorem State.can_loadBoth_inFlight {b : TxBox} (hb : s.box n m = some b) (hflight : b.inFlight = true) : (s.loadBoth m id bytes).can n
    = { s.can n with boxes := (s.can n).boxes.set m.val (some { b with noRetry := true }), next := (s.can n).next.set m.val (some (s.teleBox id bytes)) } := by
  obtain rfl | rfl := canId_of_lt_two hn
  · exact (State.can_teleLoad_of_ne (s.teleLoad 0 m id bytes) (n := 1) (k := 0) (by decide) (by decide) m id bytes).trans (State.can_teleLoad_inFlight hb hflight id bytes)
  · have hkept := State.can_teleLoad_of_ne s (n := 0) (k := 1) (by decide) (by decide) m id bytes
    have hb' : (s.teleLoad 0 m id bytes).box 1 m = some b := (congrArg (fun x : Can => x.boxes[m]) hkept).trans hb
    rw [State.loadBoth, State.can_teleLoad_inFlight hb' hflight, State.teleBox_teleLoad, hkept]

end LoadBoth

/-! ## Sending (R410, R411) -/

theorem State.teleSends_of_held {s : State} (hheld : s.claim.held = true) (hmode : s.mode = .service ∨ s.mode = .degraded ∨ s.mode = .maintain ∨ s.mode = .safe) :
    s.teleSends = true := by
  obtain h | h | h | h := hmode <;> simp [State.teleSends, hheld, h, Mode.door]

/-- The number that comes next for a DCL telegram, and the DCL that it carries. -/
def State.dclCounted (s : State) : State := { s with tele := { s.tele with seqDcl := s.tele.seqDcl + 1, sentDcl := (s.safety.driven, s.safety.dclFault) } }

def State.doorCounted (s : State) : State := { s with tele := { s.tele with seqState := s.tele.seqState + 1 } }

theorem exec_dclTelegramSend_due {s : State} {dt : Nat} (hsends : s.teleSends = true) (hdue : (s.advance dt).dclDue = true) : exec (.dclTelegramSend dt) s
    = .next ((s.advance dt).dclCounted.loadBoth 12 (s.parN 0xB010 0) ((s.advance dt).teleBytes 1 s.tele.seqDcl (s.advance dt).dclPayload)) := by
  have hgo : ¬(!(s.advance dt).teleSends) = true := by
    have h : (s.advance dt).teleSends = true := hsends
    simp [h]
  exact congrArg Host.Outcome.next ((if_pos hdue).trans (if_neg hgo))

theorem exec_doorStateSend_due {s : State} {dt : Nat} (hsends : s.teleSends = true) (hdue : (s.advance dt).inTenMs = ms 5) : exec (.doorStateSend dt) s
    = .next ((s.advance dt).doorCounted.loadBoth 13 (s.parN 0xB011 0) ((s.advance dt).teleBytes 2 s.tele.seqState (s.advance dt).doorPayload)) := by
  have hgo : ¬(!(s.advance dt).teleSends) = true := by
    have h : (s.advance dt).teleSends = true := hsends
    simp [h]
  exact congrArg Host.Outcome.next ((if_pos hdue).trans (if_neg hgo))

theorem State.sendDcl_of_silent {s : State} (h : s.teleSends = false) : s.sendDcl = s := if_pos (by simp [h])

theorem State.sendDoor_of_silent {s : State} (h : s.teleSends = false) : s.sendDoor = s := if_pos (by simp [h])

/-! ## The streams (R414–R418) -/

theorem State.stream_modStream (s : State) (r : Bool) (f : Stream → Stream) : (s.modStream r f).stream r = f (s.stream r) := by
  cases r <;> rfl

theorem State.modStream_congr {s : State} {r : Bool} {f g : Stream → Stream} (h : f (s.stream r) = g (s.stream r)) : s.modStream r f = s.modStream r g := by
  cases r
  · have h' : f s.tele.zs = g s.tele.zs := h
    simp [State.modStream, h']
  · have h' : f s.tele.rel = g s.tele.rel := h
    simp [State.modStream, h']

/-- A change of the engine that leaves both streams alone. -/
theorem State.stream_of_tele {s t : State} (hzs : t.tele.zs = s.tele.zs) (hrel : t.tele.rel = s.tele.rel) (r : Bool) : t.stream r = s.stream r := by
  cases r
  · exact hzs
  · exact hrel

/-- A copy that fails a check is counted; an event may tell. -/
theorem State.teleCopy_bad {s t : State} {r netB : Bool} {f : CanFrame} {sof : Ts}
    (h : s.copyOk (streamType r) (s.parN (if r then 0xB006 else 0xB005) 0) (if r then 2 else 1) f = false)
    (ht : t = { s with tele := { s.tele with badCopies := inc32 s.tele.badCopies } }) :
    s.teleCopy r netB f sof = (t.modStream r fun y => { y with badAt := some t.ts }).raise 28 0x001C 0 (1 + 256 * bit netB + 65536 * streamType r)
      ∨ s.teleCopy r netB f sof = t := by
  subst ht
  unfold State.teleCopy
  rw [if_neg (ne_true_of_eq_false h)]
  exact ite_eq_or_eq ..

/-- The windows that the arrival of a copy closes (R415). -/
def State.closeOlder (s : State) (r netB : Bool) (k : TeleCopy) : State :=
  foldState (s.stream r).windows (fun w t =>
    if 5000 < usBetween w.2.sof k.sof then t.windowClose r w (windowEnd w)
    else if w.1 = netB ∧ w.2.seq ≠ k.seq then t.windowClose r w k.sof else t) s

/-- The stream once the window with this copy has closed for the number. -/
def Stream.paired (x : Stream) (w : Bool × TeleCopy) (seq : BitVec 16) : Stream :=
  { x with windows := x.windows.filter (fun v => decide (v ≠ w)), closed := (seq :: x.closed).take 64 }

/-- A copy meets the windows that are still open. -/
def State.pairOpen (s : State) (r netB : Bool) (k : TeleCopy) : State :=
  match (s.stream r).windows.find? fun w => w.2.seq = k.seq with
  | some w =>
    if w.1 = netB then s.streamReject
    else
      let s := s.modStream r (·.paired w k.seq)
      if w.2.bytes = k.bytes then s.streamCandidate r w.2 false k.sof
      else { s with tele := { s.tele with mismatch := inc32 s.tele.mismatch } }.raise 28 0x001C 0 (65536 * streamType r)
  | none =>
    if (s.stream r).closed.contains k.seq then s.streamReject
    else s.modStream r fun y => { y with windows := y.windows ++ [(netB, k)] }

theorem State.pairCopy_eq (s : State) (r netB : Bool) (k : TeleCopy) : s.pairCopy r netB k = (s.closeOlder r netB k).pairOpen r netB k := rfl

section Pairing
variable {s : State} {r netB : Bool} {k : TeleCopy}

theorem State.pairCopy_first (h : (s.stream r).windows = []) :
    s.pairCopy r netB k = if (s.stream r).closed.contains k.seq then s.streamReject else s.modStream r fun x => { x with windows := [(netB, k)] } := by
  have hopen : s.modStream r (fun y => { y with windows := y.windows ++ [(netB, k)] }) = s.modStream r fun x => { x with windows := [(netB, k)] } := by
    refine State.modStream_congr ?_
    rw [h]
    rfl
  have hclose : s.closeOlder r netB k = s := by
    rw [State.closeOlder, h]
    rfl
  rw [State.pairCopy_eq, hclose, State.pairOpen, h, List.find?_nil, ← hopen]

variable {w : TeleCopy} (h : (s.stream r).windows = [(!netB, w)]) (hseq : w.seq = k.seq)
include h

theorem State.stream_paired : (s.modStream r (·.paired (!netB, w) k.seq)).stream r = { s.stream r with windows := [], closed := (k.seq :: (s.stream r).closed).take 64 } := by
  rw [State.stream_modStream, Stream.paired, h]
  simp

include hseq

theorem State.closeOlder_of_partner (htime : usBetween w.sof k.sof ≤ 5000) : s.closeOlder r netB k = s := by
  rw [State.closeOlder, h]
  exact (if_neg (not_lt.mpr htime)).trans (if_neg fun hw => hw.2 hseq)

theorem State.pairCopy_second (htime : usBetween w.sof k.sof ≤ 5000) {t : State} (ht : t = s.modStream r (·.paired (!netB, w) k.seq)) :
    s.pairCopy r netB k = if w.bytes = k.bytes then t.streamCandidate r w false k.sof
      else { t with tele := { t.tele with mismatch := inc32 t.tele.mismatch } }.raise 28 0x001C 0 (65536 * streamType r) := by
  subst ht
  have hfind : [(!netB, w)].find? (fun x : Bool × TeleCopy => decide (x.2.seq = k.seq)) = some (!netB, w) := by simp [hseq]
  rw [State.pairCopy_eq, State.closeOlder_of_partner h hseq htime, State.pairOpen, h, hfind]
  exact if_neg (Bool.not_ne_self netB)

end Pairing

/-- A candidate that is not later than the stream is rejected. -/
theorem State.streamCandidate_stale {s : State} {r : Bool} {k : TeleCopy} (hvalid : (s.stream r).valid = true)
    (hold : (k.seq - (s.stream r).seqLast).toInt < 1 ∨ (k.ts - (s.stream r).tsLast).toInt ≤ 0) (single : Bool) (at' : Ts) : s.streamCandidate r k single at' = s.streamReject :=
  (if_pos hvalid).trans (if_pos hold)

theorem exec_pairingWindowClose_of_old {s : State} {r b : Bool} {w : TeleCopy} (h : (s.stream r).windows = [(b, w)]) {dt : Nat}
    (hold : 5000 < usBetween w.sof (s.advance dt).ts) : exec (.pairingWindowClose dt r) s = .next ((s.advance dt).windowClose r (b, w) (w.sof + 500000)) := by
  have hwindows : ((s.advance dt).stream r).windows = [(b, w)] := h
  have hfind : [(b, w)].find? (fun v : Bool × TeleCopy => decide (5000 < usBetween v.2.sof (s.advance dt).ts)) = some (b, w) :=
    List.find?_cons_of_pos (decide_eq_true hold)
  show execPairingWindowClose dt r s = _
  unfold execPairingWindowClose
  dsimp only
  rw [hwindows, hfind]
  rfl

theorem exec_streamTimeout_of_silent {s : State} {r : Bool} (hvalid : (s.stream r).valid = true) {dt : Nat}
    (htime : (s.advance dt).elapsed (s.stream r).lastAt (100000 * s.parN 0xB003 0) = true) {t : State} (ht : t = (s.advance dt).streamDown r) :
    exec (.streamTimeout dt r) s = .next (({ t with tele := { t.tele with timeouts := inc32 t.tele.timeouts } }.streamEvent r 0).zsReport) := by
  subst ht
  have htime' : (s.advance dt).elapsed (s.stream r).lastAt (ms (s.parN 0xB003 0)) = true := by
    rw [Nat.mul_comm] at htime
    exact htime
  exact congrArg Host.Outcome.next (if_pos ⟨hvalid, htime'⟩)

/-- What a copy that the engine takes leaves of its buffer. -/
def State.teleTaken (s : State) (r : Bool) (n : CanId) : State :=
  match s.parNames (streamBuf r) 0 with
  | some k => if hk : k < 8 then s.modCan n fun x => { x with bufs := x.bufs.set k ⟨none, none, none⟩ } else s
  | none => s

theorem State.teleTaken_field {β : Type} {g : State → β} (hcan : ∀ (t : State) (n : CanId) (f : Can → Can), g (t.modCan n f) = g t) (s : State) (r : Bool) (n : CanId) :
    g (s.teleTaken r n) = g s := by
  unfold State.teleTaken
  split
  · split
    · exact hcan ..
    · rfl
  · rfl

theorem exec_telegramCopyReceived_taken {s : State} {netB : Bool} (hmode : s.mode.fromConfigure = true)
    (hstate : (s.can (if netB then 1 else 0)).state = .normal ∨ (s.can (if netB then 1 else 0)).state = .listen) (dt : Nat) (r : Bool) (f : CanFrame) (sof : Nat) :
    exec (.telegramCopyReceived dt r netB f sof) s = .next (((s.advance dt).teleTaken r (if netB then 1 else 0)).teleCopy r netB (busFrame f)
      (((s.advance dt).teleTaken r (if netB then 1 else 0)).ts - BitVec.ofNat 56 sof)) :=
  congrArg Host.Outcome.next (if_pos ⟨hmode, hstate⟩)

/-- Settles O55: sending, the bytes of a telegram, then reception from the copy to the candidate. -/
theorem safeTelegrams : Obligations.SafeTelegrams := by
  unfold Obligations.SafeTelegrams
  refine ⟨⟨fun dt s => ⟨fun hsilent => ⟨?_, ?_⟩, fun hdue => ?_, ?_, fun htime => ?_, fun hheld hmode => ⟨fun hdue => ?_, fun htime => ?_⟩⟩, fun s type seq l hl => ?_⟩, ?_, ?_, ?_, ?_, ?_, ?_, ?_⟩
  · exact congrArg Host.Outcome.next (ite_field (g := id) (State.sendDcl_of_silent (s := s.advance dt) hsilent) rfl)
  · exact congrArg Host.Outcome.next (ite_field (g := id) (State.sendDoor_of_silent (s := s.advance dt) hsilent) rfl)
  · exact congrArg Host.Outcome.next (if_neg (ne_true_of_eq_false hdue))
  · exact decide_eq_true_iff
  · exact congrArg Host.Outcome.next (if_neg htime)
  · have hlen := (s.advance dt).length_teleBytes 1 s.tele.seqDcl (s.advance dt).dclPayload
    refine ⟨_, exec_dclTelegramSend_due (State.teleSends_of_held hheld hmode) hdue, congrArg Telegrams.seqDcl (State.tele_loadBoth (s.advance dt).dclCounted _ _ _),
      (congrArg Telegrams.seqState (State.tele_loadBoth (s.advance dt).dclCounted _ _ _)).trans rfl, fun n hn => ⟨fun hidle => ?_, fun b hb hflight => ?_⟩⟩
    · exact ⟨_, State.box_loadBoth (s := (s.advance dt).dclCounted) hn _ _ hidle, rfl, rfl, rfl, State.teleBox_data _ _ hlen⟩
    · have hcan := State.can_loadBoth_inFlight (s := (s.advance dt).dclCounted) hn (s.parN 0xB010 0) ((s.advance dt).teleBytes 1 s.tele.seqDcl (s.advance dt).dclPayload) hb hflight
      refine ⟨(congrArg (fun x : Can => x.boxes[12]) hcan).trans (Vector.getElem_set_self _), _,
        (congrArg (fun x : Can => x.next[12]) hcan).trans (Vector.getElem_set_self _), State.teleBox_data (s.advance dt).dclCounted (s.parN 0xB010 0) hlen⟩
  · have hlen := (s.advance dt).length_teleBytes 2 s.tele.seqState (s.advance dt).doorPayload
    refine ⟨_, exec_doorStateSend_due (State.teleSends_of_held hheld hmode) htime, congrArg Telegrams.seqState (State.tele_loadBoth (s.advance dt).doorCounted _ _ _),
      (congrArg Telegrams.seqDcl (State.tele_loadBoth (s.advance dt).doorCounted _ _ _)).trans rfl, fun n hn hidle => ?_⟩
    exact ⟨_, State.box_loadBoth (s := (s.advance dt).doorCounted) hn _ _ hidle, State.teleBox_data _ _ hlen⟩
  · exact ⟨_, s.length_teleBody type seq l, s.teleBody_payload type seq hl, s.teleBytes_eq type seq l⟩
  · intro s r netB f sof hbad
    obtain h | h := State.teleCopy_bad (netB := netB) (sof := sof) hbad rfl <;> rw [h] <;> cases r <;> exact ⟨rfl, rfl⟩
  · exact fun s r netB k h => State.pairCopy_first h
  · intro s r netB k w h hseq htime
    refine ⟨_, State.stream_paired h, ?_⟩
    rw [State.pairCopy_second h hseq htime rfl]
    cases r <;> rfl
  · intro dt r netB f sof s hmode hstate
    have htele : ((s.advance dt).teleTaken r (if netB then 1 else 0)).tele = s.tele := State.teleTaken_field (g := State.tele) (fun _ _ _ => rfl) (s.advance dt) r _
    have hts : ((s.advance dt).teleTaken r (if netB then 1 else 0)).ts = s.ts + BitVec.ofNat 56 dt := State.teleTaken_field (g := State.ts) (fun _ _ _ => rfl) (s.advance dt) r _
    rw [exec_telegramCopyReceived_taken hmode hstate, hts]
    exact ⟨_, rfl, htele⟩
  · exact fun dt r b w s h hold => exec_pairingWindowClose_of_old h hold
  · intro dt r s hvalid htime
    let u : State := { (s.advance dt).streamDown r with tele := { ((s.advance dt).streamDown r).tele with timeouts := inc32 ((s.advance dt).streamDown r).tele.timeouts } }
    have htele : (u.streamEvent r 0).zsReport.tele = u.tele := State.zsReport_tele _
    have hstream : (u.streamEvent r 0).zsReport.stream r = u.stream r := State.stream_of_tele (congrArg Telegrams.zs htele) (congrArg Telegrams.rel htele) r
    refine ⟨_, exec_streamTimeout_of_silent hvalid htime rfl, ?_, ?_, ?_, ?_, ?_⟩
    · exact (congrArg Stream.valid hstream).trans (by cases r <;> rfl)
    · exact (congrArg Stream.first hstream).trans (by cases r <;> rfl)
    · exact (congrArg Telegrams.timeouts htele).trans (by cases r <;> rfl)
    · rintro rfl
      exact congrArg (fun x : Stream => if x.valid then x.byte0 else 0) hstream
    · rintro rfl
      refine (State.zsReport_zsConfirmed _).trans ?_
      exact Bool.and_false _
  · exact fun s r single k at' hvalid hold => State.streamCandidate_stale hvalid hold single at'

end Sys2Proof.Machine
end

section
/-! Pairing: arbitration on the claim line, claim frames, and who holds the claim (R348–R357, R371). -/

namespace Sys2Proof.Machine

/-! ## Arbitration (R349) -/

/-- A bit below bit n that the word releases reads low. -/
def releasedLow (word level : BitVec 16) (n : Nat) : Prop := ∃ i < n, word.getLsbD i = false ∧ level.getLsbD i = true

theorem driveBits_lost (word level : BitVec 16) (n : Nat) (m : BitVec 16) : driveBits word level n m true = (m, true) := by
  induction n with
  | zero => rfl
  | succ n ih => exact (if_pos rfl).trans ih

section Drive
variable {word level : BitVec 16}

theorem driveBits_of_driven {n : Nat} (h : word.getLsbD n = true) (m : BitVec 16) : driveBits word level (n + 1) m false = driveBits word level n (setBit m n true) false :=
  (if_neg Bool.false_ne_true).trans (if_pos h)

theorem driveBits_of_released {n : Nat} (h : word.getLsbD n = false) (m : BitVec 16) : driveBits word level (n + 1) m false = driveBits word level n m (level.getLsbD n) :=
  (if_neg Bool.false_ne_true).trans (if_neg (ne_true_of_eq_false h))

theorem releasedLow_succ (n : Nat) : releasedLow word level (n + 1) ↔ releasedLow word level n ∨ (word.getLsbD n = false ∧ level.getLsbD n = true) := by
  simp only [releasedLow, Nat.lt_succ_iff_lt_or_eq, or_and_right, exists_or, exists_eq_left]

/-- A device loses exactly when a bit that it releases reads low. -/
theorem driveBits_snd (n : Nat) (m : BitVec 16) : (driveBits word level n m false).2 = true ↔ releasedLow word level n := by
  induction n generalizing m with
  | zero => simp [driveBits, releasedLow]
  | succ n ih =>
    rw [releasedLow_succ]
    cases hw : word.getLsbD n with
    | true => simp [driveBits_of_driven hw, ih]
    | false =>
      rw [driveBits_of_released hw]
      cases hl : level.getLsbD n with
      | true => simp [driveBits_lost]
      | false => simp [ih]

/-- It drives a bit of its word exactly when it has not lost above it. -/
theorem driveBits_fst (n : Nat) (m : BitVec 16) (j : Nat) (hj : j < 16) : (driveBits word level n m false).1.getLsbD j = true
    ↔ m.getLsbD j = true ∨ (j < n ∧ word.getLsbD j = true ∧ ∀ i, j < i → i < n → ¬(word.getLsbD i = false ∧ level.getLsbD i = true)) := by
  induction n generalizing m with
  | zero => simp [driveBits]
  | succ n ih =>
    cases hw : word.getLsbD n with
    | true =>
      rw [driveBits_of_driven hw, ih, getLsbD_setBit_true _ _ hj]
      by_cases hjn : j = n
      · subst hjn
        simpa [hw] using .inr fun i hi hlt => by omega
      · have hall : (∀ i, j < i → i < n + 1 → ¬(word.getLsbD i = false ∧ level.getLsbD i = true)) ↔ ∀ i, j < i → i < n → ¬(word.getLsbD i = false ∧ level.getLsbD i = true) := by
          refine ⟨fun h i hi hlt => h i hi (by omega), fun h i hi hlt => ?_⟩
          obtain rfl | hne := eq_or_ne i n
          · simp [hw]
          · exact h i hi (by omega)
        have hlt : j < n + 1 ↔ j < n := by omega
        rw [hall, hlt, decide_eq_false hjn, Bool.false_or]
    | false =>
      rw [driveBits_of_released hw]
      cases hl : level.getLsbD n with
      | true =>
        rw [driveBits_lost]
        refine ⟨.inl, ?_⟩
        rintro (hm | ⟨hlt, hwj, hall⟩)
        · exact hm
        · obtain rfl | hne := eq_or_ne j n
          · exact absurd (hw.symm.trans hwj) Bool.false_ne_true
          · exact absurd ⟨hw, hl⟩ (hall n (by omega) (Nat.lt_succ_self n))
      | false =>
        rw [ih]
        refine or_congr_right ⟨fun ⟨hlt, hwj, hall⟩ => ⟨by omega, hwj, fun i hi hin => ?_⟩, fun ⟨hlt, hwj, hall⟩ => ⟨?_, hwj, fun i hi hin => hall i hi (by omega)⟩⟩
        · obtain rfl | hne := eq_or_ne i n
          · simp [hl]
          · exact hall i hi (by omega)
        · obtain rfl | hne := eq_or_ne j n
          · exact absurd (hw.symm.trans hwj) Bool.false_ne_true
          · omega

end Drive

/-- The bits that a device drives in a whole frame. -/
theorem driven_iff {word level : BitVec 16} {j : Nat} (hj : j < 16) : (driveBits word level 16 0 false).1.getLsbD j = true
    ↔ word.getLsbD j = true ∧ ∀ i, j < i → i < 16 → ¬(word.getLsbD i = false ∧ level.getLsbD i = true) := by
  rw [driveBits_fst 16 0 j hj]
  simp [hj]

/-- A device that has not lost drives its whole word. -/
theorem driven_of_not_lost {word level : BitVec 16} (h : (driveBits word level 16 0 false).2 = false) : (driveBits word level 16 0 false).1 = word := by
  have hnone : ¬releasedLow word level 16 := fun hlow => Bool.false_ne_true (h.symm.trans ((driveBits_snd 16 0).mpr hlow))
  refine BitVec.eq_of_getLsbD_eq fun j hj => Bool.eq_iff_iff.mpr ((driven_iff hj).trans ⟨And.left, fun hw => ⟨hw, fun i _ hi hlow => hnone ⟨i, hi, hlow⟩⟩⟩)

/-- Two words differ at a highest bit, which the higher word has. -/
theorem exists_highest_bit {a b : BitVec 16} (h : b.toNat < a.toNat) : ∃ p < 16, a.getLsbD p = true ∧ b.getLsbD p = false ∧ ∀ j, p < j → a.getLsbD j = b.getLsbD j := by
  have hne : a.toNat ^^^ b.toNat ≠ 0 := fun he => h.ne' (Nat.xor_eq_zero_iff.mp he)
  obtain ⟨p, hp, habove⟩ := Nat.exists_most_significant_bit hne
  rw [Nat.testBit_xor] at hp
  have hsame : ∀ j, p < j → a.getLsbD j = b.getLsbD j := fun j hj => by
    have hxor := habove j hj
    rw [Nat.testBit_xor] at hxor
    show a.toNat.testBit j = b.toNat.testBit j
    simpa using hxor
  have hlow : b.getLsbD p = false := by
    by_contra hb
    have hb' : b.toNat.testBit p = true := Bool.not_eq_false _ ▸ hb
    have ha' : a.toNat.testBit p = false := by simpa [hb'] using hp
    exact absurd (Nat.lt_of_testBit p ha' hb' fun j hj => hsame j hj) h.not_gt
  have hhigh : a.getLsbD p = true := by
    have hb' : b.toNat.testBit p = false := hlow
    show a.toNat.testBit p = true
    simpa [hb'] using hp
  exact ⟨p, BitVec.lt_of_getLsbD hhigh, hhigh, hlow, hsame⟩

/-- The higher word drives to the end, and the lower one loses. -/
theorem arbitration {a b level : BitVec 16} (hlevel : level = (driveBits a level 16 0 false).1 ||| (driveBits b level 16 0 false).1) (h : b.toNat < a.toNat) :
    (driveBits a level 16 0 false).2 = false ∧ (driveBits b level 16 0 false).2 = true ∧ level = a := by
  obtain ⟨p, hp, hap, hbp, hsame⟩ := exists_highest_bit h
  have hlow (j : Nat) (hj : j < 16) (hl : level.getLsbD j = true) : (driveBits a level 16 0 false).1.getLsbD j = true ∨ (driveBits b level 16 0 false).1.getLsbD j = true := by
    rw [hlevel, BitVec.getLsbD_or] at hl
    exact Bool.or_eq_true_iff.mp hl
  have habove (i : Nat) (hi : p < i) (hi16 : i < 16) : ¬(a.getLsbD i = false ∧ level.getLsbD i = true) := fun ⟨ha, hl⟩ => by
    have hb : b.getLsbD i = false := (hsame i hi).symm.trans ha
    obtain hd | hd := hlow i hi16 hl
    · exact absurd (ha.symm.trans ((driven_iff hi16).mp hd).1) Bool.false_ne_true
    · exact absurd (hb.symm.trans ((driven_iff hi16).mp hd).1) Bool.false_ne_true
  have hpl : level.getLsbD p = true := by
    have hdrives := (driven_iff hp).mpr ⟨hap, habove⟩
    rw [hlevel, BitVec.getLsbD_or, hdrives, Bool.true_or]
  have hnone : ¬releasedLow a level 16 := by
    rintro ⟨i, hi, ha, hl⟩
    obtain hd | hd := hlow i hi hl
    · exact absurd (ha.symm.trans ((driven_iff hi).mp hd).1) Bool.false_ne_true
    · obtain ⟨hb, hball⟩ := (driven_iff hi).mp hd
      obtain hlt | rfl | hgt := Nat.lt_trichotomy i p
      · exact hball p hlt hp ⟨hbp, hpl⟩
      · exact absurd (hbp.symm.trans hb) Bool.false_ne_true
      · exact habove i hgt hi ⟨ha, hl⟩
  have hwins : (driveBits a level 16 0 false).2 = false := Bool.eq_false_iff.mpr fun hlost => hnone ((driveBits_snd 16 0).mp hlost)
  refine ⟨hwins, (driveBits_snd 16 0).mpr ⟨p, hp, hbp, hpl⟩, BitVec.eq_of_getLsbD_eq fun j hj => Bool.eq_iff_iff.mpr ⟨fun hl => ?_, fun ha => ?_⟩⟩
  · by_contra ha
    exact hnone ⟨j, hj, by simpa using ha, hl⟩
  · rw [hlevel, driven_of_not_lost hwins, BitVec.getLsbD_or, ha, Bool.true_or]

/-! ## Claim frames (R350–R352) -/

/-- The claim once a frame has been sampled in which the device drove these bits. -/
def State.sampledClaim (s : State) (smp : ClaimSample) (driven : BitVec 16) (lost : Bool) : Claim :=
  let part := s.mode.fromConfigure
  let level := smp.wireA ||| smp.wireB
  let won := part && !lost
  { s.claim with
    own := if part then s.claimWord else s.claim.own, win := if won then s.claimWord else level, took := part, won := won, ack := part && (smp.ack || lost),
    wireA := s.claim.wireA.afterFrame smp.wireA smp.wireB driven smp.stuckA, wireB := s.claim.wireB.afterFrame smp.wireB smp.wireA driven smp.stuckB,
    bothBad := if (part && decide (driven &&& ~~~smp.wireA &&& ~~~smp.wireB ≠ 0)) = true then s.claim.bothBad + 1 else 0 }

/-- The second frame running in which a driven bit reads high on both wires is a claim failure. -/
def State.claimChecked (s : State) : State := if 2 ≤ s.claim.bothBad then { s with claim := { s.claim with bothBad := 0 } }.claimFailure else s

/-- A change of a wire fault is told as event 31, with the free value for its reason (log 8). -/
def State.wireTold (s : State) (changed : Bool) : State := if changed then s.drawNat.2.claimEvent (s.drawNat.1 % 8) false else s

theorem wireTold_claim (s : State) (changed : Bool) : (s.wireTold changed).claim = s.claim := ite_field (g := State.claim) rfl rfl

theorem wireTold_mode (s : State) (changed : Bool) : (s.wireTold changed).mode = s.mode := ite_field (g := State.mode) rfl rfl

/-- A frame on two wires that work: its sample, then a change of a wire fault is told, then the frames that failed are counted. -/
theorem exec_claimFrameStart_sampled {s : State} (hA : s.claim.wireA.faulty = false) (hB : s.claim.wireB.faulty = false) {dt : Nat} {smp : ClaimSample} {driven : BitVec 16} {lost : Bool}
    (hdrive : (if (s.advance dt).mode.fromConfigure then driveBits (s.advance dt).claimWord (smp.wireA ||| smp.wireB) 16 0 false else (0#16, true)) = (driven, lost)) :
    ∃ t : State, t.claim = (s.advance dt).sampledClaim smp driven lost ∧ t.mode = s.mode ∧ exec (.claimFrameStart dt smp) s = .next t.claimChecked := by
  have hA' : (s.advance dt).claim.wireA.faulty = false := hA
  have hB' : (s.advance dt).claim.wireB.faulty = false := hB
  let c := (s.advance dt).sampledClaim smp driven lost
  refine ⟨State.wireTold { s.advance dt with claim := c } (decide (c.wireA.faulty ≠ (s.advance dt).claim.wireA.faulty) || decide (c.wireB.faulty ≠ (s.advance dt).claim.wireB.faulty)),
    wireTold_claim _ _, wireTold_mode _ _, ?_⟩
  show execClaimFrameStart dt smp s = _
  unfold execClaimFrameStart
  dsimp only
  rw [hA', hB', if_neg Bool.false_ne_true, if_neg Bool.false_ne_true, hdrive]
  rfl

/-! ### The cases of a frame start -/

theorem claimChecked_of_lt {s : State} (h : s.claim.bothBad < 2) : s.claimChecked = s := if_neg (by omega)

theorem claimChecked_of_le {s : State} (h : 2 ≤ s.claim.bothBad) : s.claimChecked = { s with claim := { s.claim with bothBad := 0 } }.claimFailure := if_pos h

/-- Lost against the levels of the wires: a released bit reads low. -/
theorem driveBits_snd_eq_decide (word level : BitVec 16) : (driveBits word level 16 0 false).2 = decide (level &&& ~~~word ≠ 0) := by
  refine Bool.eq_iff_iff.mpr ((driveBits_snd 16 0).trans ⟨fun ⟨i, hi, hw, hl⟩ => decide_eq_true fun h0 => ?_, fun h => ?_⟩)
  · have hbit : (level &&& ~~~word).getLsbD i = false := by rw [h0]; exact BitVec.getLsbD_zero
    rw [BitVec.getLsbD_and, BitVec.getLsbD_not, hl, hw, decide_eq_true hi] at hbit
    exact absurd hbit (by decide)
  · by_contra hnone
    refine of_decide_eq_true h (BitVec.eq_of_getLsbD_eq fun i hi => ?_)
    cases hw : word.getLsbD i with
    | true => simp [hw]
    | false =>
      have hl : level.getLsbD i = false := Bool.eq_false_iff.mpr fun hl => hnone ⟨i, hi, hw, hl⟩
      simp [hl]

section Sampled
variable {s : State} {smp : ClaimSample} {driven : BitVec 16} {lost : Bool}

theorem sampledClaim_of_part (h : s.mode.fromConfigure = true) : s.sampledClaim smp driven lost = { s.claim with
    own := s.claimWord, win := if lost then smp.wireA ||| smp.wireB else s.claimWord, took := true, won := !lost, ack := smp.ack || lost,
    wireA := s.claim.wireA.afterFrame smp.wireA smp.wireB driven smp.stuckA, wireB := s.claim.wireB.afterFrame smp.wireB smp.wireA driven smp.stuckB,
    bothBad := if driven &&& ~~~smp.wireA &&& ~~~smp.wireB ≠ 0 then s.claim.bothBad + 1 else 0 } := by
  cases lost <;> simp [State.sampledClaim, h]

theorem sampledClaim_of_not_part (h : s.mode.fromConfigure = false) : s.sampledClaim smp driven lost = { s.claim with
    win := smp.wireA ||| smp.wireB, took := false, won := false, ack := false,
    wireA := s.claim.wireA.afterFrame smp.wireA smp.wireB driven smp.stuckA, wireB := s.claim.wireB.afterFrame smp.wireB smp.wireA driven smp.stuckB, bothBad := 0 } := by
  simp [State.sampledClaim, h]

end Sampled

section FrameStart
variable {s : State} {dt : Nat} {x : ClaimSample} {own : BitVec 16} (hA : s.claim.wireA.faulty = false) (hB : s.claim.wireB.faulty = false) (hown : own = (s.advance dt).claimWord)
include hA hB hown

/-- A device that takes part drives its claim word. -/
theorem exec_claimFrameStart_takesPart (hmode : s.mode.fromConfigure = true) : ∃ t : State,
    t.claim = (s.advance dt).sampledClaim x (driveBits own (x.wireA ||| x.wireB) 16 0 false).1 (driveBits own (x.wireA ||| x.wireB) 16 0 false).2 ∧ t.mode = s.mode
      ∧ exec (.claimFrameStart dt x) s = .next t.claimChecked := by
  subst hown
  exact exec_claimFrameStart_sampled hA hB (if_pos hmode)

theorem exec_claimFrameStart_agreeing (hmode : s.mode.fromConfigure = true) (hsame : x.wireA = x.wireB) (hdriven : (driveBits own (x.wireA ||| x.wireB) 16 0 false).1 &&& ~~~x.wireA = 0) :
    ∃ t, exec (.claimFrameStart dt x) s = .next t ∧ t.claim.own = own ∧ t.claim.won = decide (x.wireA &&& ~~~own = 0) ∧ t.claim.ack = (x.ack || decide (x.wireA &&& ~~~own ≠ 0))
      ∧ t.claim.took = true ∧ t.claim.bothBad = 0 ∧ t.claim.win = (if x.wireA &&& ~~~own = 0 then own else x.wireA) ∧ t.claim.held = s.claim.held ∧ t.mode = s.mode := by
  obtain ⟨t, hclaim, htmode, hexec⟩ := exec_claimFrameStart_takesPart (x := x) hA hB hown hmode
  have hmode' : (s.advance dt).mode.fromConfigure = true := hmode
  have hlost : (driveBits own (x.wireA ||| x.wireB) 16 0 false).2 = decide (x.wireA &&& ~~~own ≠ 0) := by
    rw [driveBits_snd_eq_decide, ← hsame, BitVec.or_self]
  rw [sampledClaim_of_part hmode'] at hclaim
  have hboth : t.claim.bothBad = 0 := (congrArg Claim.bothBad hclaim).trans (if_neg (not_not.mpr (by rw [hdriven]; exact BitVec.zero_and)))
  rw [claimChecked_of_lt (by omega)] at hexec
  refine ⟨t, hexec, ?_, ?_, ?_, ?_, hboth, ?_, ?_, htmode⟩ <;> rw [hclaim]
  · exact hown.symm
  · show (!_) = _
    rw [hlost, decide_not, Bool.not_not]
  · exact congrArg (x.ack || ·) hlost
  · show (if _ = true then x.wireA ||| x.wireB else (s.advance dt).claimWord) = _
    rw [hlost, ← hown, ← hsame, BitVec.or_self]
    by_cases h0 : x.wireA &&& ~~~own = 0 <;> simp [h0]
  · rfl

omit hown in
/-- Before CONFIGURE a device only listens. -/
theorem exec_claimFrameStart_listens (hmode : s.mode = .init ∨ s.mode = .test) :
    ∃ t, exec (.claimFrameStart dt x) s = .next t ∧ t.claim.took = false ∧ t.claim.won = false ∧ t.claim.own = s.claim.own ∧ t.mode = s.mode := by
  have hpart : (s.advance dt).mode.fromConfigure = false := by
    show s.mode.fromConfigure = false
    obtain h | h := hmode <;> rw [h] <;> rfl
  obtain ⟨t, hclaim, htmode, hexec⟩ := exec_claimFrameStart_sampled (dt := dt) (smp := x) hA hB (if_neg (ne_true_of_eq_false hpart))
  rw [sampledClaim_of_not_part hpart] at hclaim
  have hboth : t.claim.bothBad = 0 := congrArg Claim.bothBad hclaim
  rw [claimChecked_of_lt (by omega)] at hexec
  exact ⟨t, hexec, congrArg Claim.took hclaim, congrArg Claim.won hclaim, (congrArg Claim.own hclaim).trans rfl, htmode⟩

theorem exec_claimFrameStart_failing (hmode : s.mode.fromConfigure = true) (hbad : (driveBits own (x.wireA ||| x.wireB) 16 0 false).1 &&& ~~~x.wireA &&& ~~~x.wireB ≠ 0)
    (hbefore : 1 ≤ s.claim.bothBad) : ∃ t : State, exec (.claimFrameStart dt x) s = .next t.claimFailure := by
  obtain ⟨t, hclaim, -, hexec⟩ := exec_claimFrameStart_takesPart (x := x) hA hB hown hmode
  have hmode' : (s.advance dt).mode.fromConfigure = true := hmode
  rw [sampledClaim_of_part hmode'] at hclaim
  have hboth : t.claim.bothBad = s.claim.bothBad + 1 := (congrArg Claim.bothBad hclaim).trans (if_pos hbad)
  rw [claimChecked_of_le (by omega)] at hexec
  exact ⟨_, hexec⟩

end FrameStart

/-! ## Health (R351, R371) -/

theorem health_eq_zero {s : State} (h : s.claim.yield.isSome = true ∨ s.mode = .configure ∨ s.mode = .safe ∨ s.power.pfail = true) : s.health = 0 := by
  refine if_pos ?_
  obtain h | h | h | h := h <;> simp [State.healthZero, h]

theorem health_eq_full {s : State} (hzero : s.healthZero = false) (hF : s.healthF = 0) (hL : s.healthL = 0) (hK : ∀ k ∈ s.healthK, k = false) : s.health = 127 := by
  have hnone : s.healthK.filter id = [] := List.filter_eq_nil_iff.mpr fun k hk => ne_true_of_eq_false (hK k hk)
  rw [State.health, hzero, if_neg Bool.false_ne_true, hF, hL, hnone]
  rfl

/-! ## Who holds the claim (R353–R357) -/

/-! ### What the outputs leave of the claim -/

theorem State.claim_of_bare {s t : State} (h : t.bare = s.bare) : t.claim = s.claim :=
  congrArg (f := State.claim) (a₁ := t.bare) (a₂ := s.bare) h

theorem setBox_claim (s : State) (n : CanId) (m : Fin 16) (b : Option TxBox) : (s.setBox n m b).claim = s.claim := rfl

theorem cutPortal_claim (s : State) (p : PortalId) : (s.cutPortal p).claim = s.claim := by
  unfold State.cutPortal
  dsimp only
  rw [State.modPortal_claim, foldState_field (g := State.claim) fun l t => State.claim_of_bare ((State.syncSlots_bare ..).trans (State.endEfBrake_bare ..))]
  exact ite_field (g := State.claim) (State.claim_of_bare (State.stepStop_bare ..)) rfl

theorem dclCut_claim (s : State) : s.dclCut.claim = s.claim := ite_field (g := State.claim) rfl rfl

theorem allChansSync_claim (s : State) : s.allChansSync.claim = s.claim := State.claim_of_bare (State.allChansSync_bare s)

theorem teleCancel_claim (s : State) : s.teleCancel.claim = s.claim := by
  refine foldState_field fun n t => (foldState_field fun m u => ?_).trans rfl
  split
  · refine ite_field (g := State.claim) (setBox_claim ..) (State.txFinal_field (g := State.claim) (fun _ _ _ _ _ => rfl) (fun _ _ _ => rfl) State.reply_claim ..)
  · rfl

theorem endUnitJog_claim (s : State) (p : PortalId) : (s.endUnitJog p).claim = s.claim := by
  unfold State.endUnitJog
  split
  next j _ =>
    split
    · rfl
    · let t := s.modPortal p fun x => { x with jog := some { j with ending := true } }
      exact State.claim_of_bare (s := t) (by simp [t])
  · rfl

theorem endLockJog_claim (s : State) (p : PortalId) : (s.endLockJog p).claim = s.claim :=
  ite_field (g := State.claim) ((State.claim_of_bare (State.setLock_bare ..)).trans (State.modPortal_claim ..)) rfl

theorem endJogs_claim (s : State) (p : PortalId) : (s.endJogs p).claim = s.claim := (endLockJog_claim ..).trans (endUnitJog_claim s p)

theorem auxRead_field {β : Type} {g : State → β} (h : ∀ (t : State) (p : PortalId) (f : Portal → Portal), g (t.modPortal p f) = g t) (s : State) (levels : BitVec 32) :
    g (s.auxRead levels) = g s := foldState_field fun p t => h t p _

theorem dropSplit_claim (s : State) (d : Fin 3) (status : Nat) : (s.dropSplit d status).claim = s.claim := by
  unfold State.dropSplit
  split
  · exact State.refuse_claim ..
  · rfl

theorem rejoin_claim (s : State) (d : Fin 3) : (s.rejoin d none).claim = s.claim := by
  refine Eq.trans ?_ (dropSplit_claim s d stModeForbids)
  unfold State.rejoin
  dsimp only
  rw [ite_self]
  exact ite_field (g := State.claim) rfl (ite_field (g := State.claim) (State.raiseAt_claim ..) (State.raiseAt_claim ..))

/-- The claim result calls for STANDBY or for a takeover, and a commit is in progress. -/
def State.claimWaits (s : State) : Bool := ((s.mode.door && !s.claim.held) || (s.mode = .standby && s.claim.held)) && s.committing

/-- A claim result that waits for a commit in progress is the only change of the claim. -/
theorem claimAct_claim (s : State) : s.claimAct.claim = { s.claim with deferred := s.claimWaits } := by
  unfold State.claimAct
  dsimp only
  refine ite_field (g := State.claim) rfl (ite_field (g := State.claim) rfl ?_)
  exact rejoin_claim { s with claim := { s.claim with deferred := s.claimWaits } } 0

theorem claimAct_claim_of {s : State} {c : Claim} (h : s.claim = c) : ∃ d, s.claimAct.claim = { c with deferred := d } := h ▸ ⟨_, claimAct_claim s⟩

/-! ### Taking and dropping the claim -/

theorem takeClaim_claim (s : State) (reason : Nat) : ∃ d, (s.takeClaim reason).claim = { s.claim with held := true, since := s.ts, deferred := d } := by
  unfold State.takeClaim
  refine claimAct_claim_of (c := { s.claim with held := true, since := s.ts }) ?_
  rw [allChansSync_claim, foldState_field (g := State.claim)]
  · rfl
  · intro p t
    split <;> rfl

theorem dropClaim_claim (s : State) (reason : Nat) : ∃ d, (s.dropClaim reason).claim = { s.claim with held := false, since := s.ts, deferred := d } := by
  unfold State.dropClaim
  refine claimAct_claim_of (c := { s.claim with held := false, since := s.ts }) ?_
  rw [ite_field (g := State.claim) (foldState_field fun p t => (State.claim_of_bare (State.abortTunes_bare ..)).trans (endJogs_claim t p)) rfl,
    teleCancel_claim, allChansSync_claim, dclCut_claim, foldState_field fun p t => cutPortal_claim t p]
  rfl

/-! ### The frame end -/

/-- The frames without ACK are counted (R353). -/
def State.ackCounted (s : State) : State := { s with claim := { s.claim with noAck := if s.claim.ack then 0 else s.claim.noAck + 1 } }

/-- The frame ends since the device became isolated (R355). -/
def Claim.framesIsolated (c : Claim) (iso : Bool) : Option Nat := if iso then (match c.isoFrames with | some k => some (k + 1) | none => some 0) else none

/-- An isolated PRIMARY has waited for its four frames (R355). -/
def guardOver (primary : Bool) (n : Option Nat) : Bool := match n with | some k => primary && decide (4 ≤ k) | none => false

/-- The state in which a frame end decides: its frames counted, the AUX pins read. -/
def State.frameCounted (s : State) (x : ClaimStatus) : State :=
  ({ s.ackCounted with claim := { s.ackCounted.claim with isoFrames := s.claim.framesIsolated s.ackCounted.isolated } }).auxRead x.aux

/-- Whether a device holds the claim after a frame that has left this claim (R353–R355). -/
def State.frameHold (s : State) (c : Claim) (iso guard : Bool) : Bool :=
  s.mode.fromConfigure && !(iso && !s.primary) && (if c.wireA.faulty && c.wireB.faulty then guard else c.won && (c.ack || c.heldEnd || guard))

/-- The device takes the claim, drops it, or goes on as it is. -/
def State.claimDecided (s : State) (hold was : Bool) (taking dropping : Nat) : State :=
  if hold ∧ !was then s.takeClaim taking else if !hold ∧ was then s.dropClaim dropping else if hold then s.allChansSync else s

/-- The frame end keeps what it decided, and compares the status lines (R357). -/
def State.statusCompared (s : State) (x : ClaimStatus) : State :=
  let s := { s with claim := { s.claim with heldEnd := s.claim.held } }
  if x.ballWon ≠ s.claim.held ∨ !x.gatesOk then s.claimFailure else s

theorem frameHold_frameCounted (s : State) (x : ClaimStatus) (c : Claim) (iso guard : Bool) : (s.frameCounted x).frameHold c iso guard = s.frameHold c iso guard :=
  auxRead_field (g := fun t => t.frameHold c iso guard) (fun _ _ _ => rfl) ..

theorem frameCounted_primary (s : State) (x : ClaimStatus) : (s.frameCounted x).primary = s.primary := auxRead_field (g := State.primary) (fun _ _ _ => rfl) ..

/-- The reason of event 31 when the device drops the claim (R373). -/
def dropReason (c : Claim) (isoSecondary : Bool) : Nat := if isoSecondary then 3 else if c.yield.isSome then 4 else 1

/-- A frame end: the claim is decided on the state in which the frame has been counted. -/
theorem exec_claimFrameEnd {s : State} {dt : Nat} {iso : Bool} {n : Option Nat} (hiso : (s.advance dt).ackCounted.isolated = iso) (hn : s.claim.framesIsolated iso = n) (x : ClaimStatus) :
    exec (.claimFrameEnd dt x) s = .next ((((s.advance dt).frameCounted x).claimDecided (s.frameHold s.claim iso (guardOver s.primary n)) s.claim.held (if iso then 2 else 0)
      (dropReason s.claim (iso && !s.primary))).statusCompared x) := by
  subst hn hiso
  have hexec : exec (.claimFrameEnd dt x) s = .next ((((s.advance dt).frameCounted x).claimDecided (((s.advance dt).frameCounted x).frameHold s.claim (s.advance dt).ackCounted.isolated
      (guardOver ((s.advance dt).frameCounted x).primary (s.claim.framesIsolated (s.advance dt).ackCounted.isolated))) s.claim.held (if (s.advance dt).ackCounted.isolated then 2 else 0)
      (dropReason s.claim ((s.advance dt).ackCounted.isolated && !((s.advance dt).frameCounted x).primary))).statusCompared x) := rfl
  rw [frameHold_frameCounted, frameCounted_primary] at hexec
  exact hexec

theorem frameCounted_claim (s : State) (x : ClaimStatus) : (s.frameCounted x).claim = { s.claim with
    noAck := if s.claim.ack then 0 else s.claim.noAck + 1, isoFrames := s.claim.framesIsolated s.ackCounted.isolated } := auxRead_field (g := State.claim) (fun _ _ _ => rfl) ..

theorem frameCounted_ts (s : State) (x : ClaimStatus) : (s.frameCounted x).ts = s.ts := auxRead_field (g := State.ts) (fun _ _ _ => rfl) ..

section Decided
variable (s : State) (taking dropping : Nat)

theorem claimDecided_takes : s.claimDecided true false taking dropping = s.takeClaim taking := by simp [State.claimDecided]

theorem claimDecided_drops : s.claimDecided false true taking dropping = s.dropClaim dropping := by simp [State.claimDecided]

theorem claimDecided_holds : s.claimDecided true true taking dropping = s.allChansSync := by simp [State.claimDecided]

theorem claimDecided_lacks : s.claimDecided false false taking dropping = s := by simp [State.claimDecided]

theorem claimDecided_claim (hold : Bool) :
    ∃ d, (s.claimDecided hold s.claim.held taking dropping).claim = if hold = s.claim.held then s.claim else { s.claim with held := hold, since := s.ts, deferred := d } := by
  cases hold with
  | true =>
    cases hheld : s.claim.held with
    | true => exact ⟨false, claimDecided_holds s .. ▸ allChansSync_claim s⟩
    | false => exact claimDecided_takes s .. ▸ takeClaim_claim s taking
  | false =>
    cases hheld : s.claim.held with
    | true => exact claimDecided_drops s .. ▸ dropClaim_claim s dropping
    | false => exact ⟨false, congrArg State.claim (claimDecided_lacks s ..)⟩

end Decided

theorem statusCompared_of_agree {s : State} {x : ClaimStatus} (hball : x.ballWon = s.claim.held) (hgates : x.gatesOk = true) :
    s.statusCompared x = { s with claim := { s.claim with heldEnd := s.claim.held } } := if_neg (by simp [hball, hgates])

theorem statusCompared_of_gates {s : State} {x : ClaimStatus} (hgates : x.gatesOk = false) :
    s.statusCompared x = { s with claim := { s.claim with heldEnd := s.claim.held } }.claimFailure := if_pos (by simp [hgates])

/-- The claim after a frame end whose status lines agree with what it decides. -/
theorem claimFrameEnd_agreed {s : State} {dt : Nat} {iso hold : Bool} {n : Option Nat} {x : ClaimStatus} (hiso : (s.advance dt).ackCounted.isolated = iso)
    (hn : s.claim.framesIsolated iso = n) (hhold : s.frameHold s.claim iso (guardOver s.primary n) = hold) (hball : x.ballWon = hold) (hgates : x.gatesOk = true) :
    ∃ t, exec (.claimFrameEnd dt x) s = .next t ∧ t.claim.held = hold ∧ t.claim.heldEnd = hold ∧ t.claim.noAck = (if s.claim.ack then 0 else s.claim.noAck + 1)
      ∧ t.claim.since = (if hold = s.claim.held then s.claim.since else s.ts + BitVec.ofNat 56 dt) := by
  obtain ⟨d, hd⟩ := claimDecided_claim ((s.advance dt).frameCounted x) (if iso then 2 else 0) (dropReason s.claim (iso && !s.primary)) hold
  have hcounted := frameCounted_claim (s.advance dt) x
  have hwas : ((s.advance dt).frameCounted x).claim.held = s.claim.held := (congrArg Claim.held hcounted).trans rfl
  have hexec := exec_claimFrameEnd hiso hn x
  rw [hhold] at hexec
  rw [frameCounted_ts, hwas] at hd
  let u := ((s.advance dt).frameCounted x).claimDecided hold s.claim.held (if iso then 2 else 0) (dropReason s.claim (iso && !s.primary))
  have hheld : u.claim.held = hold := by
    refine (congrArg Claim.held hd).trans ?_
    split
    next heq => exact hwas.trans heq.symm
    next => rfl
  have hno : u.claim.noAck = (if s.claim.ack then 0 else s.claim.noAck + 1) := by
    refine (congrArg Claim.noAck hd).trans (Eq.trans ?_ ((congrArg Claim.noAck hcounted).trans rfl))
    split <;> rfl
  have hsince : u.claim.since = (if hold = s.claim.held then s.claim.since else s.ts + BitVec.ofNat 56 dt) := by
    refine (congrArg Claim.since hd).trans ((apply_ite Claim.since ..).trans (if_congr Iff.rfl ?_ rfl))
    exact (congrArg Claim.since hcounted).trans rfl
  exact ⟨_, hexec.trans (congrArg Host.Outcome.next (statusCompared_of_agree (hball.trans hheld.symm) hgates)), hheld, hheld, hno, hsince⟩

theorem claimFrameEnd_gates (s : State) (dt : Nat) {x : ClaimStatus} (hgates : x.gatesOk = false) : ∃ t : State, exec (.claimFrameEnd dt x) s = .next t.claimFailure :=
  ⟨_, (exec_claimFrameEnd rfl rfl x).trans (congrArg Host.Outcome.next (statusCompared_of_gates hgates))⟩

section FrameEnd
variable {s : State} {dt : Nat} {x : ClaimStatus}

/-- A device that hears its partner is not isolated. -/
theorem isolated_of_heard (h : s.partner.lost = false) : (s.advance dt).ackCounted.isolated = false :=
  (congrArg (_ && ·) (show (s.advance dt).ackCounted.partner.lost = false from h)).trans (Bool.and_false _)

/-- Eight frames without ACK, and a lost partner, isolate. -/
theorem isolated_of_alone (hlost : s.partner.lost = true) (hack : s.claim.ack = false) (hno : 7 ≤ s.claim.noAck) : (s.advance dt).ackCounted.isolated = true := by
  have hcount : (s.advance dt).ackCounted.claim.noAck = s.claim.noAck + 1 := if_neg (ne_true_of_eq_false hack)
  have hlost' : (s.advance dt).ackCounted.partner.lost = true := hlost
  rw [State.isolated, hlost', hcount, decide_eq_true (by omega), Bool.true_or, Bool.true_and]

theorem frameHold_heard {hold : Bool} (h : hold = (s.mode.fromConfigure && !(s.claim.wireA.faulty && s.claim.wireB.faulty) && s.claim.won && (s.claim.ack || s.claim.heldEnd))) :
    s.frameHold s.claim false (guardOver s.primary none) = hold := by
  rw [h, State.frameHold]
  cases s.claim.wireA.faulty && s.claim.wireB.faulty <;> simp [guardOver]
  exact (Bool.and_assoc ..).symm

/-- An isolated SECONDARY does not hold the claim. -/
theorem frameHold_secondary (h : s.primary = false) (guard : Bool) : s.frameHold s.claim true guard = false := by
  simp [State.frameHold, h]

/-- An isolated PRIMARY that wins its frames holds it once its wait is over. -/
theorem frameHold_primary (hmode : s.mode.fromConfigure = true) (h : s.primary = true) (hwon : s.claim.won = true) : s.frameHold s.claim true true = true := by
  simp [State.frameHold, h, hmode, hwon]

theorem guardOver_fourth {k : Nat} (hk : 3 ≤ k) : guardOver true (some (k + 1)) = true := decide_eq_true (by omega)

end FrameEnd

/-- Settles O56: the highest bit at which two words differ decides the arbitration; a frame latches what its sample shows; and the frame end takes or
drops the claim, which everything that follows for the outputs leaves as it is. -/
theorem claimArbitration : Obligations.ClaimArbitration := by
  unfold Obligations.ClaimArbitration
  refine ⟨fun a b level => arbitration, fun dt x s own drive hA hB hown hdrive => ?_, fun dt x s hold hlost hhold hball hgates => ?_, fun dt x s hmode hlost hack hno hgates => ⟨?_, ?_⟩,
    fun dt x s => claimFrameEnd_gates s dt, fun s reason => ?_⟩
  · subst hdrive
    exact ⟨exec_claimFrameStart_agreeing hA hB hown, exec_claimFrameStart_listens hA hB, exec_claimFrameStart_failing hA hB hown, health_eq_zero, health_eq_full⟩
  · exact claimFrameEnd_agreed (isolated_of_heard hlost) rfl (frameHold_heard hhold) hball hgates
  · intro hsecondary hball
    obtain ⟨t, hexec, hheld, -⟩ := claimFrameEnd_agreed (isolated_of_alone (dt := dt) hlost hack hno) rfl (frameHold_secondary hsecondary _) hball hgates
    exact ⟨t, hexec, hheld⟩
  · intro k hprimary hframes hk hwon hball
    have hcounted : s.claim.framesIsolated true = some (k + 1) := by rw [Claim.framesIsolated, hframes]; rfl
    have hguard : guardOver s.primary (some (k + 1)) = true := by rw [hprimary, guardOver_fourth hk]
    obtain ⟨t, hexec, hheld, -⟩ := claimFrameEnd_agreed (isolated_of_alone (dt := dt) hlost hack hno) hcounted (by rw [hguard]; exact frameHold_primary hmode hprimary hwon) hball hgates
    exact ⟨t, hexec, hheld⟩
  · obtain ⟨d, htake⟩ := takeClaim_claim s reason
    obtain ⟨e, hdrop⟩ := dropClaim_claim s reason
    exact ⟨congrArg Claim.held htake, congrArg Claim.held hdrop⟩

end Sys2Proof.Machine
end

section
/-! The partner: Swetric frames, snapshots and yields (R356–R363, R371). -/

namespace Sys2Proof.Machine

/-! ## The link, CAP frames and heartbeats (R357–R360) -/

section Swetric
variable {s : State} {dt : Nat}

theorem exec_swetricLinkChange_same {up : Bool} (h : s.partner.linkUp = up) : exec (.swetricLinkChange dt up) s = .next (s.advance dt) := congrArg Host.Outcome.next (if_pos h)

theorem exec_swetricLinkChange {up : Bool} (h : s.partner.linkUp ≠ up) :
    ∃ t, exec (.swetricLinkChange dt up) s = .next t ∧ t.partner.linkUp = up ∧ t.partner.version = (if up then s.partner.version else 0) :=
  ⟨_, congrArg Host.Outcome.next (if_neg h), rfl, rfl⟩

/-- The version that a CAP frame of these versions agrees on (R359). -/
def capAgreed (cap : CapFrame) : Nat := if max 1 cap.minVer.toNat ≤ min 1 cap.maxVer.toNat then min 1 cap.maxVer.toNat else 0

theorem capAgreed_eq (cap : CapFrame) : capAgreed cap = if cap.minVer.toNat ≤ 1 ∧ 1 ≤ cap.maxVer.toNat then 1 else 0 := by
  unfold capAgreed
  split <;> split <;> omega

/-- The partner and the version of a CAP frame are kept, and a change of the version is told. -/
def State.versionRead (s : State) (cap : CapFrame) : State :=
  let x := s.partner
  let s := { s with partner := { x with serial := cap.serial, digest := cap.digest, version := capAgreed cap, noCommon := decide (capAgreed cap = 0) } }
  if capAgreed cap ≠ 0 ∧ x.version ≠ capAgreed cap then s.swetricEvent 2 else if capAgreed cap = 0 ∧ !x.noCommon then s.swetricEvent 3 else s

/-- Whether the digests differ is kept, and told when it begins. -/
def State.digestRead (s : State) (differ before : Bool) : State :=
  let s := { s with partner := { s.partner with digestBad := differ } }
  if differ ∧ !before then s.swetricEvent 6 else s

/-- The frame comes from a device of the own role. -/
def State.roleClash (s : State) (cap : CapFrame) : Bool := match s.parNames 0x9000 0 with | some r => decide (cap.role.toNat = r) | none => false

theorem roleClash_iff (s : State) (cap : CapFrame) : s.roleClash cap = true ↔ s.parNames 0x9000 0 = some cap.role.toNat := by
  unfold State.roleClash
  split
  next r h => rw [h, decide_eq_true_iff, Option.some_inj, eq_comm]
  next h => rw [h]; simp

/-- The role of the partner is kept, and a conflict that begins is told. -/
def State.roleTold (s : State) (clash before : Bool) : State :=
  let s := { s with partner := { s.partner with roleConflict := clash } }
  if clash ∧ !before then s.swetricEvent 7 else s

theorem versionRead_partner (s : State) (cap : CapFrame) : (s.versionRead cap).partner
    = { s.partner with serial := cap.serial, digest := cap.digest, version := capAgreed cap, noCommon := decide (capAgreed cap = 0) } :=
  ite_field (g := State.partner) rfl (ite_field (g := State.partner) rfl rfl)

theorem digestRead_partner (s : State) (differ before : Bool) : (s.digestRead differ before).partner = { s.partner with digestBad := differ } := ite_field (g := State.partner) rfl rfl

theorem roleTold_partner (s : State) (clash before : Bool) : (s.roleTold clash before).partner = { s.partner with roleConflict := clash } := ite_field (g := State.partner) rfl rfl

theorem versionRead_view (s : State) (cap : CapFrame) : (s.versionRead cap).view = s.view := ite_field (g := State.view) rfl (ite_field (g := State.view) rfl rfl)

theorem digestRead_view (s : State) (differ before : Bool) : (s.digestRead differ before).view = s.view := ite_field (g := State.view) rfl rfl

/-- A valid CAP frame is read, and a change of the version or of the digest is told. -/
def State.capRead (s : State) (cap : CapFrame) : State := (s.versionRead cap).digestRead (decide (cap.digest ≠ (s.versionRead cap).sealer.config)) s.partner.digestBad

theorem roleClash_capRead (s : State) (cap : CapFrame) : (s.capRead cap).roleClash cap = s.roleClash cap := by
  have hview : (s.capRead cap).view = s.view := (digestRead_view ..).trans (versionRead_view ..)
  rw [State.roleClash, State.parNames, hview]
  rfl

theorem capRead_partner (s : State) (cap : CapFrame) (clash before : Bool) : ((s.capRead cap).roleTold clash before).partner.serial = cap.serial
    ∧ ((s.capRead cap).roleTold clash before).partner.digest = cap.digest ∧ ((s.capRead cap).roleTold clash before).partner.version = capAgreed cap := by
  rw [roleTold_partner, State.capRead, digestRead_partner, versionRead_partner]
  exact ⟨rfl, rfl, rfl⟩

theorem exec_capReceived_bad {cap : CapFrame} (h : cap.crcOk = false) : exec (.capReceived dt cap) s = .next (s.advance dt) :=
  congrArg Host.Outcome.next (if_pos (by rw [h]; rfl))

theorem exec_capReceived {cap : CapFrame} (h : cap.crcOk = true) : exec (.capReceived dt cap) s
    = .next (if s.parNames 0x9000 0 = some cap.role.toNat then (((s.advance dt).capRead cap).roleTold (s.roleClash cap) s.partner.roleConflict).claimFailure
      else ((s.advance dt).capRead cap).roleTold (s.roleClash cap) s.partner.roleConflict) := by
  have hclash : ((s.advance dt).capRead cap).roleClash cap = s.roleClash cap := roleClash_capRead (s.advance dt) cap
  have hnot : (!cap.crcOk) ≠ true := by rw [h]; decide
  have hexec : exec (.capReceived dt cap) s = .next (if !cap.crcOk then s.advance dt
      else if ((s.advance dt).capRead cap).roleClash cap then (((s.advance dt).capRead cap).roleTold (((s.advance dt).capRead cap).roleClash cap) s.partner.roleConflict).claimFailure
      else ((s.advance dt).capRead cap).roleTold (((s.advance dt).capRead cap).roleClash cap) s.partner.roleConflict) := rfl
  rw [hexec, hclash, if_neg hnot]
  exact congrArg Host.Outcome.next (if_congr (roleClash_iff s cap) rfl rfl)

theorem capReceived_next {cap : CapFrame} (h : cap.crcOk = true) : ∃ t : State, t.partner.serial = cap.serial ∧ t.partner.digest = cap.digest
    ∧ t.partner.version = (if cap.minVer.toNat ≤ 1 ∧ 1 ≤ cap.maxVer.toNat then 1 else 0) ∧ (t.partner.roleConflict = true ↔ s.parNames 0x9000 0 = some cap.role.toNat)
    ∧ exec (.capReceived dt cap) s = .next (if s.parNames 0x9000 0 = some cap.role.toNat then t.claimFailure else t) := by
  obtain ⟨hserial, hdigest, hversion⟩ := capRead_partner (s.advance dt) cap (s.roleClash cap) s.partner.roleConflict
  refine ⟨_, hserial, hdigest, hversion.trans (capAgreed_eq cap), ?_, exec_capReceived h⟩
  rw [roleTold_partner]
  exact roleClash_iff s cap

theorem exec_heartbeatSend (h : s.mode.fromConfigure = true) : exec (.heartbeatSend dt) s
    = .next { s.advance dt with partner := { s.partner with hbSeq := s.partner.hbSeq + 1, hbSentAt := some (s.ts + BitVec.ofNat 56 dt) } } := congrArg Host.Outcome.next (if_pos h)

theorem heard_partner (s : State) : s.heard.partner = { s.partner with heardAt := some s.ts, lost := false } := ite_field (g := State.partner) rfl rfl

theorem heard_claim (s : State) : s.heard.claim = s.claim := ite_field (g := State.claim) rfl rfl

theorem heard_primary (s : State) : s.heard.primary = s.primary := ite_field (g := State.primary) rfl rfl

/-- A valid HEARTBEAT is kept. -/
def State.beaten (s : State) (hb : HeartbeatFrame) : State := { s.heard with partner := { s.heard.partner with heartbeat := some hb } }

theorem heartbeatReceived_next {hb : HeartbeatFrame} (h : hb.crcOk = true) : ∃ t : State, t.partner.lost = false ∧ t.partner.heardAt = some (s.ts + BitVec.ofNat 56 dt)
    ∧ t.partner.heartbeat = some hb ∧ t.claim = s.claim ∧ exec (.heartbeatReceived dt hb) s
      = .next (if s.claim.held && hb.flags.getLsbD 0 then (if s.par 0x9000 0 = 0 then t.claimEvent 5 false else t.dropClaim 5) else t) := by
  have hclaim : ((s.advance dt).beaten hb).claim = s.claim := heard_claim (s.advance dt)
  have hprimary : ((s.advance dt).beaten hb).primary = s.primary := heard_primary (s.advance dt)
  have hpartner := heard_partner (s.advance dt)
  have hnot : (!hb.crcOk) ≠ true := by rw [h]; decide
  refine ⟨(s.advance dt).beaten hb, (congrArg Partner.lost hpartner).trans rfl, (congrArg Partner.heardAt hpartner).trans rfl, rfl, hclaim, ?_⟩
  have hexec : exec (.heartbeatReceived dt hb) s = .next (if !hb.crcOk then s.advance dt
      else if ((s.advance dt).beaten hb).claim.held && hb.flags.getLsbD 0 then
        (if ((s.advance dt).beaten hb).primary then ((s.advance dt).beaten hb).claimEvent 5 false else ((s.advance dt).beaten hb).dropClaim 5)
      else (s.advance dt).beaten hb) := rfl
  rw [hexec, if_neg hnot, hclaim, hprimary]
  simp only [State.primary, decide_eq_true_eq]

/-- No valid HEARTBEAT or SNAPSHOT has arrived for 2 ms (R360). -/
def State.partnerQuiet (s : State) : Bool := match s.partner.heardAt with | some t => s.elapsed t (ms 2) | none => true

theorem partnerQuiet_of_heardAt {t : State} {b : Ts} (h : t.partner.heardAt = some b) : t.partnerQuiet = t.elapsed b 200000 := by
  unfold State.partnerQuiet
  rw [h]
  rfl

theorem exec_partnerLost {b : Ts} (hb : s.partner.heardAt = some b) (hquiet : (s.advance dt).elapsed b 200000 = true) (hlost : s.partner.lost = false) :
    exec (.partnerLost dt) s = .next ({ s.advance dt with partner := { s.partner with lost := true } }.swetricEvent 4) := by
  have hq : (s.advance dt).partnerQuiet = true := (partnerQuiet_of_heardAt (t := s.advance dt) hb).trans hquiet
  have hl : (!(s.advance dt).partner.lost) = true := (congrArg (!·) hlost).trans rfl
  exact congrArg Host.Outcome.next (if_pos (And.intro hq hl))

end Swetric

/-! ## Snapshots (R361) -/

section Take
variable {s : State} {dt : Nat}

theorem exec_snapshotTake (hheld : s.claim.held = true) (hruns : s.mode.runs = true) (ready : Bool) : exec (.snapshotTake dt ready) s
    = .next (if !ready then { s.advance dt with partner := { s.partner with skipped := inc32 s.partner.skipped } }
      else if s.partner.version = 0 then { s.advance dt with recorder := { s.recorder with lastSnap := some ((s.advance dt).snapshot (s.partner.snapSent + 1)) } }
      else { s.advance dt with
        recorder := { s.recorder with lastSnap := some ((s.advance dt).snapshot (s.partner.snapSent + 1)) },
        partner := { s.partner with snapSent := s.partner.snapSent + 1, snapLast := s.partner.snapSent + 1 } }) := by
  have hrest : ¬((!s.claim.held || !s.mode.runs) = true) := by rw [hheld, hruns]; decide
  exact congrArg Host.Outcome.next (if_neg hrest)

theorem runs_of_served (h : s.mode = .service ∨ s.mode = .degraded ∨ s.mode = .maintain) : s.mode.runs = true := by
  obtain h | h | h := h <;> rw [h] <;> rfl

end Take

/-! ## Adoption (R363) -/

/-- A portal that shows a state of an adopted snapshot, since `now` where it is a new one. -/
def Portal.adopting (old new : PState) (now : Ts) (x : Portal) : Portal := { x with state := new, since := if old = new then x.since else now }

section Adopt
variable (s : State) (p : PortalId) (b : SnapPortal) (fenced gap : Bool)

theorem State.snapSpoils_bare : (s.snapSpoils p b fenced gap).bare = s.bare := by
  refine (State.bare_ite ..).trans ((if_congr Iff.rfl (State.notClean_bare ..) (foldState_bare _ _ _ fun l t => ?_)).trans (ite_self _))
  exact (State.bare_ite ..).trans ((if_congr Iff.rfl (State.modDet_bare ..) rfl).trans (ite_self _))

/-- The traversal in progress ends when the state leaves it. -/
def State.traversalLeft (s : State) (p : PortalId) (b : SnapPortal) (old : PState) : State :=
  if old = PState.ofCode b.pstate then s
  else match old with
    | .opening => s.traversalEnd p true (decide (PState.ofCode b.pstate = PState.open) && !b.flags.getLsbD 3)
    | .closing => s.traversalEnd p false (decide (PState.ofCode b.pstate = .locking))
    | _ => s

theorem State.traversalLeft_bare (old : PState) : (s.traversalLeft p b old).bare = s.bare := by
  unfold State.traversalLeft
  split
  · rfl
  · split
    · exact State.traversalEnd_bare ..
    · exact State.traversalEnd_bare ..
    · rfl

/-- What follows the new state: the leaves, a traversal that starts, and what spoils it. -/
def State.traversalSeen (s : State) (p : PortalId) (b : SnapPortal) (fenced gap : Bool) (old : PState) : State :=
  let s := foldState [0, 1] (fun (l : LeafId) t => t.modLeaf p l fun x => { x with vCmd := ((snapLeafOf b l).vCmd : Rat) / 100, target := (snapLeafOf b l).xT }) s
  let s := if old ≠ PState.ofCode b.pstate ∧ (PState.ofCode b.pstate = .opening ∨ PState.ofCode b.pstate = .closing) then (s.latchAll p).traversalStart p else s
  s.snapSpoils p b fenced gap

theorem State.traversalSeen_bare (old : PState) : (s.traversalSeen p b fenced gap old).bare = s.bare := by
  unfold State.traversalSeen
  dsimp only
  rw [State.snapSpoils_bare, State.bare_ite, State.traversalStart_bare, State.latchAll_bare, ite_self]
  exact foldState_bare _ _ _ fun _ _ => State.modLeaf_bare ..

/-- An adopted portal differs from the one before in its state alone, as far as a bare state shows. -/
theorem State.adoptPortal_bare : ∃ t : State, t.bare = s.bare ∧ (s.adoptPortal p b fenced gap).bare
    = (t.modPortal p (Portal.adopting (s.portal p).state (PState.ofCode b.pstate) t.ts)).bare :=
  ⟨(s.snapSpoils p b fenced gap).traversalLeft p b (s.portal p).state, (State.traversalLeft_bare ..).trans (State.snapSpoils_bare ..),
    State.traversalSeen_bare _ p b fenced gap (s.portal p).state⟩

theorem State.adoptPortal_partner : (s.adoptPortal p b fenced gap).partner = s.partner := by
  obtain ⟨t, ht, hadopt⟩ := s.adoptPortal_bare p b fenced gap
  exact (congrArg (f := State.partner) (a₁ := State.bare _) (a₂ := State.bare _) hadopt).trans (congrArg (f := State.partner) (a₁ := t.bare) (a₂ := s.bare) ht)

theorem State.adoptPortal_present (q : PortalId) : (s.adoptPortal p b fenced gap).present q = s.present q := by
  obtain ⟨t, ht, hadopt⟩ := s.adoptPortal_bare p b fenced gap
  exact (State.present_congr (State.senses_of_bare hadopt) q).trans (State.present_congr (State.senses_of_bare ht) q)

theorem State.adoptPortal_state (q : PortalId) : ((s.adoptPortal p b fenced gap).portal q).state = if p = q then PState.ofCode b.pstate else (s.portal q).state := by
  obtain ⟨t, ht, hadopt⟩ := s.adoptPortal_bare p b fenced gap
  rw [State.field_of_bare Portal.state (fun _ => rfl) hadopt, State.portal_modPortal]
  split
  next => rfl
  next => exact State.field_of_bare Portal.state (fun _ => rfl) ht q

end Adopt

/-- A fold keeps what every element of its list keeps. -/
theorem foldState_keeps_mem {α : Type} {R : State → Prop} {f : α → State → State} {l : List α} (hkeep : ∀ e ∈ l, ∀ t, R t → R (f e t)) {s : State} (hs : R s) : R (foldState l f s) := by
  unfold foldState
  induction l generalizing s with
  | nil => exact hs
  | cons a l ih => exact ih (fun e he => hkeep e (List.mem_cons_of_mem a he)) (hkeep a List.mem_cons_self s hs)

/-- A fold reaches what one of its elements sets and every element keeps. -/
theorem foldState_reaches {α : Type} {Q R : State → Prop} {f : α → State → State} {l : List α} {a : α} (ha : a ∈ l) (hQ : ∀ e t, Q t → Q (f e t)) (hset : ∀ t, Q t → R (f a t))
    (hkeep : ∀ e ∈ l, ∀ t, R t → R (f e t)) {s : State} (hs : Q s) : R (foldState l f s) := by
  obtain ⟨l₁, l₂, rfl⟩ := List.append_of_mem ha
  have hafter : R (f a (foldState l₁ f s)) := hset _ (foldState_keeps hQ l₁ hs)
  have hsplit : foldState (l₁ ++ a :: l₂) f s = foldState l₂ f (f a (foldState l₁ f s)) := by simp only [foldState, List.foldl_append, List.foldl_cons]
  rw [hsplit]
  exact foldState_keeps_mem (fun e he => hkeep e (List.mem_append_right l₁ (List.mem_cons_of_mem a he))) hafter

/-- The state after the adoption of a snapshot, but for its portals. -/
def State.snapKept (s : State) (z : Snapshot) : State := { s with partner := { s.partner with adopted := some z, adoptedAt := s.ts, snapLast := z.seq } }

/-- More than 10 ms have passed since a snapshot was adopted. -/
def State.snapGap (s : State) : Bool := match s.partner.adopted with | some _ => s.elapsed s.partner.adoptedAt (ms 10 + 1) | none => false

/-- A present portal of an adopted snapshot. -/
def State.adoptPresent (z : Snapshot) (gap : Bool) (e : PortalId × SnapPortal) (t : State) : State :=
  if t.present e.1 then t.adoptPortal e.1 e.2 (z.fenced.getLsbD e.1.val) gap else t

section Present
variable (z : Snapshot) (gap : Bool) (e : PortalId × SnapPortal) (t : State)

theorem adoptPresent_partner : (State.adoptPresent z gap e t).partner = t.partner := ite_field (g := State.partner) (State.adoptPortal_partner ..) rfl

theorem adoptPresent_present (q : PortalId) : (State.adoptPresent z gap e t).present q = t.present q :=
  ite_field (g := (State.present · q)) (State.adoptPortal_present ..) rfl

end Present

theorem adopt_partner (s : State) (z : Snapshot) : (s.adopt z).partner = { s.partner with adopted := some z, adoptedAt := s.ts, snapLast := z.seq } :=
  foldState_field fun e t => adoptPresent_partner z s.snapGap e t

/-- The portals of a snapshot come in the order of the device's. -/
theorem mem_zip_portals {l : List SnapPortal} {p : PortalId} {b : SnapPortal} : (p, b) ∈ allPortals.zip l ↔ l[p.val]? = some b := by
  have hplace (i : Nat) : allPortals[i]? = some p ↔ i = p.val := by
    rw [List.getElem?_eq_some_iff]
    refine ⟨fun ⟨h, hp⟩ => ?_, fun h => ⟨h ▸ p.isLt, ?_⟩⟩
    · simp [allPortals, ← hp]
    · simp [allPortals, h]
  simp only [List.mem_iff_getElem?, List.getElem?_zip_eq_some, hplace, exists_eq_left]

/-- Each present portal shows the state that the snapshot gives it. -/
theorem adopt_state {s : State} {z : Snapshot} {p : PortalId} {b : SnapPortal} (hb : z.portals[p.val]? = some b) (hp : s.present p = true) :
    ((s.adopt z).portal p).state = PState.ofCode b.pstate := by
  have hset (t : State) (ht : t.present p = true) : ((State.adoptPresent z s.snapGap (p, b) t).portal p).state = PState.ofCode b.pstate := by
    rw [State.adoptPresent, if_pos ht, State.adoptPortal_state, if_pos rfl]
  refine foldState_reaches (f := State.adoptPresent z s.snapGap) (s := s.snapKept z) (Q := fun t => t.present p = true) (R := fun t => (t.portal p).state = PState.ofCode b.pstate) (mem_zip_portals.mpr hb)
    (fun e t ht => (adoptPresent_present ..).trans ht) hset (fun e he t ht => ?_) hp
  obtain ⟨q, c⟩ := e
  unfold State.adoptPresent
  split
  · rw [State.adoptPortal_state]
    split
    next hq =>
      have hc : z.portals[p.val]? = some c := hq ▸ mem_zip_portals.mp he
      rw [Option.some_inj.mp (hc.symm.trans hb)]
    next => exact ht
  · exact ht

/-! ## Snapshots received (R363) -/

section Received
variable {s : State} {dt : Nat} {z : Snapshot}

/-- A device in STANDBY takes the snapshot: complete, of the agreed version, later than the last one, and with a matching configuration. -/
def State.snapTakes (s : State) (z : Snapshot) : Bool :=
  z.crcOk && decide (s.partner.version ≠ 0) && decide (z.version.toNat = s.partner.version) && decide (z.length = 1356)
    && decide (1 ≤ (z.seq - (match s.partner.adopted with | some z => z.seq | none => 0)).toInt) && s.configMatch

theorem snapTakes_iff : s.snapTakes z = true ↔ z.crcOk = true ∧ s.partner.version ≠ 0 ∧ z.version.toNat = s.partner.version ∧ z.length = 1356
    ∧ 1 ≤ (z.seq - (s.partner.adopted.elim 0 (·.seq))).toInt ∧ s.partner.digest = s.sealer.config := by
  unfold State.snapTakes State.configMatch
  cases s.partner.adopted <;> simp only [Bool.and_eq_true, decide_eq_true_eq, Option.elim] <;> tauto

/-- The frame counts as heard when it is complete (R360). -/
def State.snapHeard (s : State) (z : Snapshot) : State := if z.crcOk then s.heard else s

/-- A snapshot that is not adopted counts, and is told once in 100 ms (R363). -/
def State.snapDiscarded (s : State) : State :=
  let s := { s with partner := { s.partner with discarded := inc32 s.partner.discarded } }
  let due := match s.partner.lastDiscard with | some t => s.elapsed t (ms 100) | none => true
  if due then { s with partner := { s.partner with lastDiscard := some s.ts } }.swetricEvent 8 else s

theorem snapHeard_field {β : Type} {g : State → β} (hraise : ∀ (t : State) (src code unit param : Nat), g (t.raise src code unit param) = g t)
    (hpartner : ∀ (t : State) (heardAt : Option Ts) (lost : Bool), g { t with partner := { t.partner with heardAt, lost } } = g t) (s : State) (z : Snapshot) : g (s.snapHeard z) = g s :=
  ite_field (g := g) ((ite_field (g := g) (hraise ..) rfl).trans (hpartner ..)) rfl

theorem exec_snapshotReceived (hmode : s.mode = .standby) (hheld : s.claim.held = false) : exec (.snapshotReceived dt z) s
    = .next (if s.snapTakes z then ((s.advance dt).snapHeard z).adopt z else ((s.advance dt).snapHeard z).snapDiscarded) := by
  have hstands : ¬(((s.advance dt).snapHeard z).mode ≠ .standby ∨ ((s.advance dt).snapHeard z).claim.held = true) := by
    rw [snapHeard_field (g := State.mode) (fun _ _ _ _ _ => rfl) (fun _ _ _ => rfl), snapHeard_field (g := State.claim) (fun _ _ _ _ _ => rfl) (fun _ _ _ => rfl)]
    simp [hmode, hheld]
  have htakes : ((s.advance dt).snapHeard z).snapTakes z = s.snapTakes z :=
    snapHeard_field (g := fun t => t.snapTakes z) (fun _ _ _ _ _ => rfl) (fun _ _ _ => rfl) ..
  rw [← htakes]
  exact congrArg Host.Outcome.next (if_neg hstands)

theorem snapshotReceived_adopts (hmode : s.mode = .standby) (hheld : s.claim.held = false) (h : s.snapTakes z = true) :
    ∃ t, exec (.snapshotReceived dt z) s = .next t ∧ t.partner.adopted = some z ∧ t.partner.adoptedAt = s.ts + BitVec.ofNat 56 dt
      ∧ t.partner.discarded = s.partner.discarded ∧ ∀ (p : PortalId) b, z.portals[p.val]? = some b → s.present p → (t.portal p).state = PState.ofCode b.pstate := by
  have hpartner := adopt_partner ((s.advance dt).snapHeard z) z
  refine ⟨_, (exec_snapshotReceived hmode hheld).trans (congrArg Host.Outcome.next (if_pos h)), (congrArg Partner.adopted hpartner).trans rfl, ?_, ?_, fun p b hb hp => ?_⟩
  · exact (congrArg Partner.adoptedAt hpartner).trans (snapHeard_field (g := State.ts) (fun _ _ _ _ _ => rfl) (fun _ _ _ => rfl) ..)
  · exact (congrArg Partner.discarded hpartner).trans (snapHeard_field (g := fun t => t.partner.discarded) (fun _ _ _ _ _ => rfl) (fun _ _ _ => rfl) ..)
  · exact adopt_state hb ((snapHeard_field (g := fun t => t.present p) (fun _ _ _ _ _ => rfl) (fun _ _ _ => rfl) (s.advance dt) z).trans hp)

theorem snapDiscarded_field {β : Type} {g : State → β} (hraise : ∀ (t : State) (src code unit param : Nat), g (t.raise src code unit param) = g t)
    (hpartner : ∀ (t : State) (at' : Option Ts), g { t with partner := { t.partner with lastDiscard := at' } } = g t) (s : State) :
    g s.snapDiscarded = g { s with partner := { s.partner with discarded := inc32 s.partner.discarded } } :=
  ite_field (g := g) ((hraise ..).trans (hpartner ..)) rfl

theorem snapshotReceived_discards (hmode : s.mode = .standby) (hheld : s.claim.held = false) (h : s.snapTakes z = false) :
    ∃ t, exec (.snapshotReceived dt z) s = .next t ∧ t.partner.adopted = s.partner.adopted ∧ t.partner.discarded = inc32 s.partner.discarded ∧ ∀ p, t.portal p = s.portal p := by
  refine ⟨_, (exec_snapshotReceived hmode hheld).trans (congrArg Host.Outcome.next (if_neg (ne_true_of_eq_false h))), ?_, ?_, fun p => ?_⟩
  · exact (snapDiscarded_field (g := fun t => t.partner.adopted) (fun _ _ _ _ _ => rfl) (fun _ _ => rfl) _).trans
      (snapHeard_field (g := fun t => t.partner.adopted) (fun _ _ _ _ _ => rfl) (fun _ _ _ => rfl) ..)
  · exact (snapDiscarded_field (g := fun t => t.partner.discarded) (fun _ _ _ _ _ => rfl) (fun _ _ => rfl) _).trans
      (congrArg inc32 (snapHeard_field (g := fun t => t.partner.discarded) (fun _ _ _ _ _ => rfl) (fun _ _ _ => rfl) ..))
  · exact (snapDiscarded_field (g := fun t => t.portal p) (fun _ _ _ _ _ => rfl) (fun _ _ => rfl) _).trans
      (snapHeard_field (g := fun t => t.portal p) (fun _ _ _ _ _ => rfl) (fun _ _ _ => rfl) ..)

end Received

/-! ## Yields (R371) -/

section Yield
variable {s : State} {dt : Nat}

/-- The partner stands by without a pending cause. -/
def State.partnerReady (s : State) : Bool := match s.partner.heartbeat with | some b => decide (b.mode.toNat = 3) && decide (b.pending = 0) | none => false

theorem partnerReady_iff : s.partnerReady = true ↔ ∃ hb, s.partner.heartbeat = some hb ∧ hb.mode.toNat = 3 ∧ hb.pending = 0 := by
  unfold State.partnerReady
  cases s.partner.heartbeat <;> simp

/-- The device may yield the claim. -/
def State.yieldReady (s : State) : Bool := s.mode.door && s.claim.held && s.restGuard && s.partnerReady && s.claim.ack && s.claim.yield.isNone

theorem yieldReady_iff : s.yieldReady = true ↔ (s.mode = .service ∨ s.mode = .degraded) ∧ s.claim.held = true ∧ s.restGuard = true
    ∧ (∃ hb, s.partner.heartbeat = some hb ∧ hb.mode.toNat = 3 ∧ hb.pending = 0) ∧ s.claim.ack = true ∧ s.claim.yield = none := by
  simp only [State.yieldReady, Bool.and_eq_true, partnerReady_iff, Option.isNone_iff_eq_none, Mode.door, Bool.or_eq_true, decide_eq_true_eq, and_assoc]

theorem claimYield_eq {t : State} {h : Handle} (hunit : h.unit = 0) (ps : List Byte) : t.claimYield h ps
    = if t.yieldReady then { t.reply h stAccepted [] with claim := { (t.reply h stAccepted []).claim with yield := some ((t.reply h stAccepted []).ts, h) } } else t.refuse h stModeForbids :=
  if_neg (not_not.mpr hunit)

theorem exec_claimYield {c : CmdHeader} (ht : s.Takes 0x2B c []) (hunit : c.unit = 0) (hready : s.yieldReady = true) : ∃ t : State, exec (.claimYield dt c []) s = .next t
    ∧ t = { (s.accepted dt c).reply (s.handle 0x2B c) stAccepted [] with claim := t.claim } ∧ t.claim = { s.claim with yield := some (s.ts + BitVec.ofNat 56 dt, s.handle 0x2B c) } := by
  have hready' : (s.accepted dt c).yieldReady = true := hready
  refine ⟨_, exec_of_takes ht ((claimYield_eq (h := s.handle 0x2B c) hunit []).trans (if_pos hready')), rfl, ?_⟩
  rw [State.reply_claim, State.reply_ts]
  rfl

theorem exec_claimYield_refused {c : CmdHeader} (ht : s.Takes 0x2B c []) (hunit : c.unit = 0) (hready : s.yieldReady = false) :
    exec (.claimYield dt c []) s = .next ((s.accepted dt c).refuse (s.handle 0x2B c) stModeForbids) := by
  have hready' : (s.accepted dt c).yieldReady = false := hready
  exact exec_of_takes ht ((claimYield_eq (h := s.handle 0x2B c) hunit []).trans (if_neg (ne_true_of_eq_false hready')))

theorem exec_yieldTimeout {b : Ts} {h : Handle} (hyield : s.claim.yield = some (b, h)) (hheld : s.claim.held = true) (hover : (s.advance dt).elapsed b 2000000 = true) :
    exec (.yieldTimeout dt) s = .next ({ s.advance dt with claim := { s.claim with yield := none } }.refuse h stModeForbids) := by
  have hyield' : (s.advance dt).claim.yield = some (b, h) := hyield
  have hdue : ((s.advance dt).claim.held && (s.advance dt).elapsed b (ms 20)) = true := Bool.and_eq_true_iff.mpr ⟨hheld, hover⟩
  show execYieldTimeout dt s = _
  unfold execYieldTimeout
  dsimp only
  rw [hyield']
  exact congrArg Host.Outcome.next (if_pos hdue)

end Yield

/-- Settles O57: each frame writes the fields of the partner that it carries, the events that follow leave them alone; an adopted snapshot gives each
present portal its state; and a yield waits for the claim to go. -/
theorem partnerFrames : Obligations.PartnerFrames := by
  unfold Obligations.PartnerFrames
  refine ⟨fun dt s => ⟨fun up => ⟨exec_swetricLinkChange_same, exec_swetricLinkChange⟩, rfl, fun cap => ⟨exec_capReceived_bad, capReceived_next⟩, exec_heartbeatSend,
    fun hb => heartbeatReceived_next, fun b => exec_partnerLost⟩,
    ⟨fun dt s hheld hmode => ⟨fun hversion => ?_, fun hversion => ?_, ?_⟩, fun dt z s ok hmode hheld hok => ?_⟩,
    ⟨fun dt c s ready ht hunit hready => ?_, fun dt b h s => exec_yieldTimeout⟩⟩
  · exact (exec_snapshotTake hheld (runs_of_served hmode) true).trans (congrArg Host.Outcome.next (if_neg hversion))
  · exact (exec_snapshotTake hheld (runs_of_served hmode) true).trans (congrArg Host.Outcome.next (if_pos hversion))
  · exact exec_snapshotTake hheld (runs_of_served hmode) false
  · obtain rfl : ok = s.snapTakes z := Bool.eq_iff_iff.mpr (hok.trans snapTakes_iff.symm)
    exact ⟨snapshotReceived_adopts hmode hheld, snapshotReceived_discards hmode hheld⟩
  · obtain rfl : ready = s.yieldReady := Bool.eq_iff_iff.mpr (hready.trans yieldReady_iff.symm)
    exact ⟨exec_claimYield ht hunit, exec_claimYield_refused ht hunit⟩

end Sys2Proof.Machine
end
